-- ==== Sys2Proof/Word.lean ====
section
/-! DEFINITION. The words of the machine: bytes, 32-bit register words (R14) and the finite numbers of instances that
commands name (lanes, links, rings, channels, groups, ports). -/

namespace Sys2Proof

/-- One byte of memory, of a packet or of a descriptor. -/
abbrev Byte := BitVec 8

/-- One register word; every register is 32 bits wide and lies in BAR0 (spec/00_scope.md, registers and access codes). -/
abbrev Word := BitVec 32

/-- A lane, 0–96; lane 96 is the management lane. -/
abbrev Lane := Fin 97

/-- A Balran link, named by its first lane, 0–95. -/
abbrev Link := Fin 96

/-- A ring, 0–16,383 (R330). -/
abbrev Ring := Fin 16384

/-- A DMA channel, 0–63 (R362). -/
abbrev DmaCh := Fin 64

/-- A coarse or fine channel index, 0–4,095 (R576). -/
abbrev Chan := Fin 4096

/-- An accumulation group, 0–7 (R213). -/
abbrev Group := Fin 8

/-- A data port, 0–15 (R306). -/
abbrev Port := Fin 16

end Sys2Proof
end

