-- ==== Sys2Proof/Syntax.lean ====
section
/-! DEFINITION. The commands of the block: one constructor per row of spec/opcode_table.json, with the operands the row's
rules need. Values that come from outside the block (received bytes, measured values, times) are operands. -/

namespace Sys2Proof

/-- Where a ring command's descriptor comes from: a submission ring, or a fired EXEC entry of the almanac (R450). -/
inductive CmdSrc where
  | ring (r : Ring)
  | almanac (e : Fin 256)
deriving DecidableEq, Repr

/-- The answer of the host to a read (R364, R365): data, no completion in time, or an error completion. -/
inductive HostRead where
  | data (bytes : List Byte)
  | timeout
  | bus
deriving DecidableEq, Repr

/-- Who writes a register: the host through BAR0, or the housekeeping controller. -/
inductive Writer where
  | host
  | housekeeping
deriving DecidableEq, Repr

/-- What a receiver meets at an alignment marker position (R58–R62, R71): the 32 bytes of the block there, whether it stands one
marker period after the one before, its arrival in UI, the FEC's corrected symbols and uncorrectable codewords of the lane since the
marker before (R69), the alignment lock of the IEEE 802.3 PCS on lanes 64–79 and 96, and whether an ingest packet is in progress on
the lane's link. -/
structure MarkerView where
  bytes : List Byte
  onTime : Bool
  arrival : Nat
  corrected : Nat
  uncorrectable : Nat
  pcsLock : Bool
  inPacket : Bool
deriving DecidableEq, Repr

/-- One step of an adapted value: down, hold or up one code. -/
inductive Nudge where
  | down | hold | up
deriving DecidableEq, Repr

/-- A block of an ingest link's striped stream (R69, R73): header bit 1 marks data, header bit 0 control; its 32 bytes; whether it
lay in an uncorrectable codeword. -/
structure Block257 where
  data : Bool
  bytes : List Byte
  bad : Bool := false
deriving DecidableEq, Repr

/-- A request part at a memory controller port (R372, R373): bytes within one 256-byte block; a write carries its data, none where
a byte strobe is off. -/
structure HbmPart where
  port : Fin 8
  write : Bool
  addr : Nat
  len : Nat
  data : List (Option Byte)
deriving DecidableEq, Repr

/-- An access to the doorbells of BAR2 or the MSI-X table and Pending Bit Array of BAR4, of 1, 2, 4 or 8 bytes (R329, R334). -/
inductive BarAccess where
  | write (size : Nat) (value : BitVec 64)
  | read (size : Nat)
deriving DecidableEq, Repr

/-- What SECDED finds on the words of a burst on the chip matrix (R394): nothing, single-bit errors, or a double-bit error. -/
inductive Secded where
  | clean
  | single
  | double
deriving DecidableEq, Repr

/-- What a memory read meets (R381–R383): erroneous symbols among the 34 of one of its bursts, those of the second read that follows an
uncorrectable first one, and whether the stack's on-die ECC reports a severity. -/
structure ReadErrors where
  burst : Nat := 0
  first : Nat := 0
  second : Nat := 0
  onDie : Bool := false
deriving DecidableEq, Repr

/-- A request on the chip matrix (R34, R389): master port, class, space (0 HBM, 1 host, 2 register, 3 local), address, direction,
beats of 64 bytes, data of a write. -/
structure MatrixReq where
  master : Fin 24
  cls : Fin 4
  space : Fin 4
  addr : Nat
  write : Bool
  beats : Fin 5
  data : List Byte
deriving DecidableEq, Repr

/-- What a furrow's bank shows as it spills (R174, R186): the cell of an error, a latched parity error, what the stored words differ by
from exact arithmetic (word, real, imaginary), and what the witness differs by. -/
structure BankReport where
  cell : Nat := 0
  parity : Bool := false
  deltas : List (Nat × Int × Int) := []
  witness : Int × Int := (0, 0)
deriving DecidableEq, Repr

/-- Correctable errors and an uncorrectable one of words under SECDED, on the way of a spill (R174, R176). -/
structure WordErrors where
  ce : Nat := 0
  ue : Bool := false
deriving DecidableEq, Repr

/-- All that a spill shows (R174, R176, R186): its bank, the operand buffer and the spill path. -/
structure SpillReport where
  cell : Nat := 0
  parity : Bool := false
  bufCe : Nat := 0
  bufUe : Bool := false
  pathCe : Nat := 0
  pathUe : Bool := false
  deltas : List (Nat × Int × Int) := []
  witness : Int × Int := (0, 0)
deriving DecidableEq, Repr

/-- A lane that is lost, and whether an ingest packet was in progress on its link (R51, R64, R66). -/
structure LaneLoss where
  lane : Lane
  inPacket : Bool
deriving DecidableEq, Repr

/-- Which operand an operand bus carries (R31): of a recompute or of the pass, of the tile's column or of its row. -/
structure BusOperand where
  recompute : Bool
  column : Bool
deriving DecidableEq, Repr

/-- A write of 1, 2, 4 or 8 bytes in BAR2 (R334). -/
structure BarWrite where
  size : Nat
  value : BitVec 64
deriving DecidableEq, Repr

/-- A burst (address / 32) whose write a stack reports with a parity error, and the port that wrote it (R385). -/
structure ParityReport where
  burst : Fin 7247757312
  port : Fin 8
deriving DecidableEq, Repr

/-- A waiting matrix request (R34): its master, and how many older ones of that master wait before it. -/
structure WaitingReq where
  master : Fin 24
  older : Nat
deriving DecidableEq, Repr

/-- A WEEDER message on a link, and which of its sender's inputs its device has flagged in that block (R143, R517). -/
structure WeederArrival where
  link : Link
  inputs : List Bool
deriving DecidableEq, Repr

/-- What the harvest engine meets in a segment's memory (R384, R300): poisoned components and sample counts by index, poisoned bytes
of the saturation flag plane, baler blocks with a poisoned predictor, and baler blocks whose check fails. -/
structure HarvestView where
  comps : List Nat := []
  counts : List Nat := []
  flagBytes : List Nat := []
  preds : List Nat := []
  fails : List Nat := []
deriving DecidableEq, Repr

/-- The commands. -/
inductive Instr where
  /-- REGISTER_WRITE (R14). A host or housekeeping write to a register field that has no row of its own sets or ignores the value according to its access code and the running-state rules. -/
  | registerWrite (writer : Writer) (offset : Fin 67108864) (size : Nat) (value : BitVec 64)
  /-- RC_READ (R14). A read of an RC field returns its value and then returns the field to its reset value, re-arming any event tied to the counter. -/
  | rcRead (offset : Fin 67108864)
  /-- HARROW_DC_RE_READ (R115). A read of HARROW_DC_RE returns the real DC estimate and captures the imaginary part into HARROW_DC_IM. -/
  | harrowDcReRead
  /-- WEED_PROBE_SK_READ (R139). A read of WEED_PROBE_SK returns m and dev of the probed channel and captures pm into WEED_PROBE_PM. -/
  | weedProbeSkRead
  /-- TIME_NOW_NS_READ (R428). A read of TIME_NOW_NS captures SEC and FRAC_NS of the same tick. -/
  | timeNowNsRead
  /-- ETH_STR_SEQ_LO_READ (R313). A read of ETH_STR_SEQ_LO returns PKT_SEQ[31:0] and captures the upper half into ETH_STR_SEQ_HI. -/
  | ethStrSeqLoRead (stream : Fin 4096)
  /-- REF_BUILDOUT_LO_READ (R412). A read of REF_BUILDOUT_LO returns the low build-out word and captures the high word. -/
  | refBuildoutLoRead
  /-- ADC_QUEUE_ENTRY_READ (R463). A read of ADC_QUEUE_ENTRY removes the oldest result and captures its TIME_LO, or reads VALID clear when the queue is empty. -/
  | adcQueueEntryRead
  /-- MSIX_TABLE_WRITE (R368). A host write to the MSI-X table or PBA in BAR4, where unmasking a vector sends its pending message. -/
  | msixTableWrite (line : Fin 4096) (byte : Fin 16) (access : BarAccess)
  /-- DOORBELL (R335). A doorbell write to a submission or delivery ring gives a new producer position, which is validated and then acted on or halts the ring. -/
  | doorbell (ring : Ring) (byte : Fin 8) (access : BarAccess)
  /-- CQ_DOORBELL (R335). A doorbell write to a completion ring gives the host's new consumer position. -/
  | cqDoorbell (ring : Ring) (byte : Fin 8) (access : BarAccess)
  /-- CQ_ARM (R368). A write of ARM to a completion ring's doorbell arms its interrupt coalescing. -/
  | cqArm (ring : Ring) (byte : Fin 4) (write : BarWrite)
  /-- COMMIT (R554). Setting GLB_CTL.COMMIT in IDLE runs every commit check and either enters RUNNING or rejects with a code. -/
  | commit
  /-- STOP (R555). Setting GLB_CTL.STOP ends the running state within 10 ms, discarding integrations still filling. -/
  | stop
  /-- GLB_CTL_RESET (R580). Setting GLB_CTL.RESET performs a full reset whatever the other bits hold. -/
  | glbCtlReset
  /-- GLB_REMAP_SWAP (R392). Firmware setting GLB_REMAP.SWAP swaps the boot ROM and working SRAM at the controller's next fetch. -/
  | glbRemapSwap
  /-- GLB_BOOT_GO (R553). Setting GLB_BOOT_CTL.GO while CONFIG waits starts reading a host image through DMA port 0. -/
  | glbBootGo
  /-- HOST_IMAGE_READ_END (R553). The host image has been read and checked; it passes to the firmware stage or sets GLB_BOOT_ERR and waits for the next GO. -/
  | hostImageReadEnd (image : HostRead) (keyGood signatureGood firmwareGood : Bool)
  /-- ISLAND_RESET (R558). A write of the key to GLB_ISLAND_RST resets the timing island when the device is not RUNNING. -/
  | islandReset
  /-- PWR_OK_RISE (R543). A rising edge of PWR_OK samples the straps and starts the fuse stage. -/
  | pwrOkRise (bootSrc ewesenMode twinPref : Bool)
  /-- PWR_OK_FALL (R557). PWR_OK low holds the device in power-on reset, resetting everything including the timing island. -/
  | pwrOkFall
  /-- PERST_N_ASSERT (R328). Assertion of PERST_N acts as a full reset. -/
  | perstNAssert
  /-- PERST_N_RELEASE (R545). Release of PERST_N starts PCIe link training once the fuse stage has ended. -/
  | perstNRelease
  /-- PCIE_HOT_RESET (R328). A PCIe hot reset acts as a full reset. -/
  | pcieHotReset
  /-- PCIE_LINK_DOWN (R328). Loss of the PCIe link acts as a full reset. -/
  | pcieLinkDown
  /-- FUSE_STAGE_END (R548). The fuse stage completes, loading fuse groups and turning on the DAC amplifiers, or halts with FUSE_ERR. -/
  | fuseStageEnd (corrected : Fin 256) (uncorrectable : Bool)
  /-- CONFIG_IMAGE_CHECKED (R550). The boot ROM finishes checking a flash slot's image and applies its REGISTERS pairs, or moves to the next slot or to waiting for a host boot. -/
  | configImageChecked (image : List Byte) (keyGood signatureGood firmwareGood : Bool)
  /-- FIRMWARE_STARTED (R547). Firmware reports itself started and passes its self-test, ending the firmware stage. -/
  | firmwareStarted (version : BitVec 16) (copyGood selfTestGood : Bool)
  /-- FIRMWARE_TIMEOUT (R547). The 20 ms firmware-stage limit expires without a start report and the device enters HALTED with FW_ERR. -/
  | firmwareTimeout
  /-- HBM_TRAINING_END (R387). Stack training finishes, marking each stack trained or raising HBM_TRAIN_FAIL. -/
  | hbmTrainingEnd (results : List (Bool × Fin 4))
  /-- LANES_STAGE_END (R544). PHY calibration ends and the device enters READY. -/
  | lanesStageEnd (failed : BitVec 12)
  /-- WATCHDOG_EXPIRY (R559). Firmware fails to service its watchdog for 100 ms, raising GLB_WATCHDOG and causing a yield or a full reset. -/
  | watchdogExpiry
  /-- LO_CLK_LOSS (R589). LO_CLK shows no edge for 1 µs, and the device is held in power-on reset. -/
  | loClkLoss
  /-- LO_CLK_RETURN (R589). LO_CLK edges return and the device restarts at POWER. -/
  | loClkReturn
  /-- ADAPTATION_UPDATE (R53). Every 64 µs the equaliser adaptation loop updates CTLE and DFE taps, and a pending freeze takes effect and sets FREEZE_ACK. -/
  | adaptationUpdate (lane : Lane) (ctle dfe1 dfe2 dfe3 : Nudge) (height width : Nat)
  /-- LANE_EQ_FREEZE (R54). A write of LANE_EQ.FREEZE requests that adaptation hold, or resume, at the end of the update in progress. -/
  | laneEqFreeze (lane : Lane) (on : Bool)
  /-- CDR_LOCK_LOSS (R51). 64 consecutive same-direction slips declare loss of lock and return the lane to ADAPT. -/
  | cdrLockLoss (loss : LaneLoss)
  /-- ADAPT_DONE (R58). After CDR lock and 1 ms of adequate eye height the lane moves from ADAPT to SEARCH. -/
  | adaptDone (lane : Lane)
  /-- ADAPT_TIMEOUT (R58). 10 ms in ADAPT without reaching SEARCH restarts adaptation. -/
  | adaptTimeout (lane : Lane)
  /-- ALIGNMENT_MARKER (R60). An alignment marker position on a lane is checked for acceptance, lock, inversion or a miss. -/
  | alignmentMarker (lane : Lane) (marker : MarkerView)
  /-- SEARCH_TIMEOUT (R58). Three marker periods in SEARCH without two matching markers return the lane to ADAPT. -/
  | searchTimeout (lane : Lane)
  /-- EIDLE (R66). An EIDLE control block seen on every lane holds the equaliser and CDR state and takes the receiver to IDLE. -/
  | eidle (link : Link)
  /-- LOSS_OF_SIGNAL (R66). A receiver loses signal without EIDLE, goes to ADAPT and raises LANE_DOWN. -/
  | lossOfSignal (loss : LaneLoss)
  /-- FAST_EXIT (R67). A link leaves electrical idle by ramping up with PRBS13 and a training burst, reversing any ramp-down in progress. -/
  | fastExit (link : Link) (amp : Nat) (long : Bool)
  /-- FAST_EXIT_MARKER_TIMEOUT (R67). No marker arrives within one codeword after the training burst, and the receiver takes a full exit through ADAPT. -/
  | fastExitMarkerTimeout (link : Link)
  /-- TX_RAMP_END (R65). A transmitter amplitude ramp into or out of electrical idle completes. -/
  | txRampEnd (link : Link)
  /-- LANE_EYE_START (R56). Setting LANE_EYE_CTL.START begins an eye scan, taking the offset sampler from adaptation. -/
  | laneEyeStart (lane : Lane)
  /-- EYE_SCAN_DONE (R57). An eye scan ends after its dwell, or is aborted by a lane state change, and sets DONE. -/
  | eyeScanDone (lane : Lane) (errors : Nat)
  /-- INGEST_PACKET (R90). A complete Balran ingest packet is framed, tested for acceptance, and its pairs are stored or discarded. -/
  | ingestPacket (link : Link) (blocks : List Block257) (gleanBacklog : Nat)
  /-- DATA_FLIT (R78). A received DATA flit is accepted in SEQ order or discarded, with credits and ACK taken from its header. -/
  | dataFlit (link : Link) (flit : List Byte)
  /-- NAK_FLIT (R79). A received NAK starts a replay from ACK + 1 unless one from the same SEQ is in progress. -/
  | nakFlit (link : Link) (flit : List Byte)
  /-- NULL_FLIT (R77). A received NULL flit updates the cumulative ACK and credit counts. -/
  | nullFlit (link : Link) (flit : List Byte)
  /-- INIT_FLIT (R81). A received INIT flit exchanges version, LINK_ID and resume state and brings the bidirectional link up or to FAILED. -/
  | initFlit (link : Link) (flit : List Byte)
  /-- REPLAY_TIMEOUT (R79). REPLAY_TIMEOUT passes without ACK advancing, and the sender replays or retrains at RETRY_LIMIT. -/
  | replayTimeout (link : Link)
  /-- NAK_REPEAT (R78). A receiver repeats its NAK once per REPLAY_TIMEOUT until the expected SEQ arrives. -/
  | nakRepeat (link : Link)
  /-- RETRAIN_TIMEOUT (R80). A link not UP 50 ms after retraining began enters FAILED and raises BALRAN_LINK_FAILED. -/
  | retrainTimeout (link : Link)
  /-- FAILED_RETRY (R80). A FAILED link retries bring-up every 100 ms. -/
  | failedRetry (link : Link)
  /-- SHEAF_RELEASE (R95). A complete (channel, sheaf index) pair is released as a sheaf in order and delivered to every enabled branch. -/
  | sheafRelease (channel : Chan) (gleanBacklog : Nat)
  /-- WAIT_EXPIRY (R95). INGEST_ALIGN.WAIT passes for a pair and it is released with its missing inputs zeroed. -/
  | waitExpiry (channel : Chan) (gleanBacklog : Nat)
  /-- INGEST_MASK (R107). Ring command 0x10 changes input mask bits from sheaf index k on each channel. -/
  | ingestMask (src : CmdSrc) (table : HostRead)
  /-- INGEST_GAIN (R107). Ring command 0x11 changes requantiser gains from sheaf index k on each channel. -/
  | ingestGain (src : CmdSrc) (table : HostRead)
  /-- HARROW_RESET (R125). Ring command 0x18 resets the polyphase history and DC estimates of masked slots at their reset boundary. -/
  | harrowReset (src : CmdSrc)
  /-- HARROW_DC (R129). Ring command 0x19 freezes, unfreezes or sets k of the DC blockers of masked slots at sheaf k. -/
  | harrowDc (src : CmdSrc)
  /-- HARROW_GAIN (R121). Ring command 0x1A changes input or fine-channel gains from sheaf k. -/
  | harrowGain (src : CmdSrc) (table : HostRead)
  /-- WEED_CTL (R151). Ring command 0x20 loads trackers, sets thresholds or freezes loops per channel at the next block boundary. -/
  | weedCtl (src : CmdSrc)
  /-- TURNING_WRITE (R160). A sheaf is written into its channel's turning ring when its slot is not retained, after any wait. -/
  | turningWrite (channel : Chan)
  /-- PASS_DISPATCH (R163). The scheduler dispatches the earliest ready pass to the correlation array, applying pending retirements and placement changes. -/
  | passDispatch
  /-- OPERAND_BUS_TRANSFER (R31). An operand-bus transfer to a furrow is checked by CRC-16, and a failure is re-broadcast or escalated. -/
  | operandBusTransfer (field : Fin 4) (furrow : Fin 68) (operand : BusOperand) (good : Bool)
  /-- BANK_SPILL (R186). A bank drained through the field spill port is summed and compared with its witness and checked for parity. -/
  | bankSpill (field : Fin 4) (slot : Fin 8) (bank : BankReport) (buffer path : WordErrors)
  /-- RECOMPUTE_START (R187). A recompute starts on the chosen idle spare once one exists. -/
  | recomputeStart
  /-- RECOMPUTE_END (R189). A recompute's spill passes its checks and is added in place of the suspect spill, or the spare is retired;
  the reports are of the banks that show something, by round and slot. -/
  | recomputeEnd (field : Fin 4) (furrow : Fin 68) (banks : List (Nat × Nat × BankReport)) (buffers paths : List (Nat × Nat × WordErrors))
  /-- RECOMPUTE_DEADLINE (R190). CORR_RECOMP.LIMIT_US passes, and the suspect spill is added with its tiles UNVERIFIED. -/
  | recomputeDeadline (field : Fin 4) (furrow : Fin 68)
  /-- GOVERNOR_STAGE (R202). Each stage interval the governor brings the next stage of furrows toward full activity or ramps one down. -/
  | governorStage
  /-- GOVERNOR_HOLD_EXPIRY (R204). HOLD_US passes with no pass dispatched, and the governor begins to lower activity and clears WARM. -/
  | governorHoldExpiry
  /-- CORR_RETIRE (R205). Ring command 0x28 retires a named furrow. -/
  | corrRetire (src : CmdSrc)
  /-- CORR_PLACE_FREEZE (R201). A write of CORR_PLACE.FREEZE ends the placement loop's run and sets FREEZE_ACK. -/
  | corrPlaceFreeze (on : Bool)
  /-- GRANARY_SPILL (R206). A tagged spill reaches the granary adder and is added with saturation into the filling bank of each group it feeds. -/
  | granarySpill (channel : Chan) (tile : Nat) (poison badCounts : List Nat)
  /-- HARVEST_SEGMENT (R222). The harvest engine begins a channel's segment once every pass of it has been added. -/
  | harvestSegment (view : HarvestView)
  /-- HOLD_EXPIRY (R223). A drain waits at a held channel for HOLD_US, and the granary requests the held pass. -/
  | holdExpiry (group : Group)
  /-- GRAN_START (R216). Ring command 0x30 starts masked idle or stopped groups at a START time. -/
  | granStart (src : CmdSrc)
  /-- GRAN_STOP (R216). Ring command 0x31 ends masked groups after their integration in progress. -/
  | granStop (src : CmdSrc)
  /-- BEAM_LOAD (R246). Ring command 0x38 copies weight triplets into an idle bank's table. -/
  | beamLoad (src : CmdSrc) (data : HostRead)
  /-- BEAM_SWAP (R247). Ring command 0x39 schedules or queues a cross-fade on masked blocks. -/
  | beamSwap (src : CmdSrc)
  /-- BEAM_PEAK_SET (R259). Ring command 0x3A sets peak-finder thresholds from windows at sheaf k. -/
  | beamPeakSet (src : CmdSrc)
  /-- PARTIAL_BEAM_FLIT (R267). A quad partial-sum flit arrives and is summed, or discarded as late. -/
  | partialBeamFlit (link : Link)
  /-- PARTIAL_WAIT_EXPIRY (R267). BEAM_WEAVE.WAIT_NS passes after the first partial, and the sheaf is emitted with PARTIAL_MISSING. -/
  | partialWaitExpiry (channel : Chan)
  /-- EXPORT_RECORD_TIMEOUT (R520). An exported partial record waits 20 ns without a companion and is sent alone. -/
  | exportRecordTimeout
  /-- GLEAN_FREEZE (R278). Ring command 0x40 makes a freeze request at sheaf index k_t. -/
  | gleanFreeze (src : CmdSrc)
  /-- GLEAN_RESUME (R287). Ring command 0x41 returns a frozen glean ring to ARMED. -/
  | gleanResume (src : CmdSrc)
  /-- GLEAN_DUMP (R282). Ring command 0x42 starts a dump of the frozen capture or a live window to a destination. -/
  | gleanDump (src : CmdSrc)
  /-- DUMP_END (R283). A dump has sent its trailer, completing the command and re-arming with AUTO_RESUME. -/
  | dumpEnd (overtaken : List Nat)
  /-- GLEAN_LEN_SHADOW_WRITE (R284). A write to GLEAN_LEN_SHADOW sets a pending ring length or LEN_BAD. -/
  | gleanLenShadowWrite (value : Word)
  /-- EGRESS_TRANSMIT (R318). A free port transmitter takes a class 0 packet the shaper allows, or a class 1 to 3 packet by deficit round robin. -/
  | egressTransmit (port : Port) (elapsed : Nat) (frames : List (List Byte))
  /-- ETH_LINK_DOWN (R322). A data port's link goes down, discarding class 0 packets and holding or redirecting others. -/
  | ethLinkDown (port : Port) (cut : Bool)
  /-- ETH_LINK_UP (R322). A data port's link comes up and waiting packets resume. -/
  | ethLinkUp (port : Port)
  /-- ETH_FRAME_RECEIVE (R308). A frame received on a data port is filtered and delivered to its ring or discarded. -/
  | ethFrameReceive (port : Port) (frame : List Byte) (fcsGood : Bool)
  /-- MGMT_FRAME_RECEIVE (R324). A frame received on the management port is time-stamped and delivered to RX_RING or PTP_RING. -/
  | mgmtFrameReceive (frame : List Byte) (fcsGood : Bool) (fine : Fin 128)
  /-- MGMT_FRAME_TRANSMIT (R324). A frame from the management TX ring is transmitted. -/
  | mgmtFrameTransmit (frame : List Byte) (fine : Fin 128)
  /-- ETH_STREAM_SET (R326). Ring command 0x48 rewrites an idle egress stream entry. -/
  | ethStreamSet (src : CmdSrc) (table : HostRead)
  /-- DESCRIPTOR_FETCH (R336). A DMA channel fetches up to eight posted entries from a ring in host memory. -/
  | descriptorFetch (ring : Ring) (count : Fin 9)
  /-- COPY (R347). Opcode 0x01 checks its patterns and moves LENGTH bytes between host and HBM. -/
  | copy (ring : Ring)
  /-- LINK (R353). Opcode 0x02 starts or continues a descriptor chain at ADDR. -/
  | link (ring : Ring)
  /-- NOP (R345). Opcode 0x03 completes without effect. -/
  | nop (ring : Ring)
  /-- BUFFER (R360). Opcode 0x05 posts a host buffer on a delivery ring for producer messages. -/
  | buffer (ring : Ring)
  /-- DMA_BURST (R362). A DMA channel issues one burst of a transfer in its round-robin turn when its token bucket allows. -/
  | dmaBurst (channel : DmaCh) (elapsed : Nat)
  /-- HOST_READ_COMPLETION (R364). A PCIe completion for a host read arrives and its data is used, or a late or erroneous one ends the descriptor. -/
  | hostReadCompletion (tag : Nat) (answer : HostRead)
  /-- COMPLETION_TIMEOUT (R364). A host read has no completion within CTO_MS, ending its descriptor with BAD_TIMEOUT. -/
  | completionTimeout (tag : Nat)
  /-- COMPLETION_RECORD_WRITE (R359). A completion record is written to its completion ring once ACTIVE with room, in ring order. -/
  | completionRecordWrite (ring : Ring)
  /-- DELIVERY_MESSAGE (R360). A producer's message is written into posted buffers of a delivery ring, waiting or dropping when none are free. -/
  | deliveryMessage (ring : Ring)
  /-- CQ_COALESCE_TIMEOUT (R368). TIME_US passes after the first record since ARM, and the completion ring's vector is signalled. -/
  | cqCoalesceTimeout (ring : Ring)
  /-- DMA_CH_ABORT (R366). Setting DMA_CH_CTL.ABORT ends every transfer under way on the channel and pauses it. -/
  | dmaChAbort (channel : DmaCh)
  /-- DMA_CH_RESUME (R366). Setting DMA_CH_CTL.RESUME returns a paused channel to service. -/
  | dmaChResume (channel : DmaCh)
  /-- RING_ENABLE (R340). Setting RING_CTL.ENABLE checks a DISABLED ring and makes it ACTIVE or refuses with a cause. -/
  | ringEnable (ring : Ring)
  /-- RING_PAUSE (R339). Setting RING_CTL.PAUSE takes an ACTIVE ring to PAUSED. -/
  | ringPause (ring : Ring)
  /-- RING_RESUME (R339). Setting RING_CTL.RESUME takes a PAUSED ring to ACTIVE. -/
  | ringResume (ring : Ring)
  /-- RING_RESET (R342). Setting RING_CTL.RESET cuts the descriptor in progress, discards the ring's entries and records, and disables it. -/
  | ringReset (ring : Ring)
  /-- HBM_COMMAND_SLOT (R375). In each command slot a pseudo-channel issues a due refresh or picks a read or write request. -/
  | hbmCommandSlot (pc : Fin 192) (elapsed : Nat) (parts : List HbmPart)
  /-- HBM_READ_DATA (R383). Read data returns from a stack and is corrected, reread or poisoned. -/
  | hbmReadData (pc : Fin 192) (elapsed : Nat) (errors : ReadErrors)
  /-- HBM_PARITY_ERROR (R385). A stack's parity error report makes the controller reissue the affected writes. -/
  | hbmParityError (report : ParityReport)
  /-- REFRESH_DUE (R378). A bank's refresh interval expires and a per-bank refresh becomes due. -/
  | refreshDue (pc : Fin 192) (bank : Fin 48)
  /-- HBM_TEMP_READ (R378). Every 1 ms the controller reads stack temperatures and adjusts the refresh rate. -/
  | hbmTempRead (stack : Fin 6) (celsius : Int)
  /-- SCRUB_READ (R386). The patrol scrub reads the next burst and writes back corrections. -/
  | scrubRead (errors : ReadErrors)
  /-- MATRIX_GRANT (R34). A chip-matrix target grants a request by class and round robin and decodes it. -/
  | matrixGrant (target : Fin 17) (arrivals : List MatrixReq) (ecc : Secded)
  /-- MATRIX_PROMOTION (R34). A request that has waited 4 µs is promoted by one class. -/
  | matrixPromotion (req : WaitingReq)
  /-- XBAR_MRST (R396). A write to XBAR_MRST resets the named master ports. -/
  | xbarMrst (ports : BitVec 24) (delivered : Nat)
  /-- DPLL_UPDATE (R414). At each reference update the DPLL filters the phase error and sets the frequency correction y. -/
  | dpllUpdate (theta : Int)
  /-- MONITOR_SECOND (R408). Once per second references are measured, qualified or disqualified, and the selection is made. -/
  | monitorSecond (measured : List (Option Int))
  /-- MONITOR_WINDOW_END (R402). A monitoring window ends and the holdover history H is frozen anew. -/
  | monitorWindowEnd
  /-- REFERENCE_ABSENT (R400). A reference shows no edge or pulse within its absence limit and is treated as absent. -/
  | referenceAbsent (reference : Fin 6)
  /-- BUILDOUT_COMPLETE (R412). The phase measurement of a switch ends, the offset is added to REF_BUILDOUT and the loop closes. -/
  | buildoutComplete (offset : Int)
  /-- STAGE_DWELL_END (R415). Phase error stays within θ_lock for a stage's dwell, and acquisition narrows or declares LOCKED. -/
  | stageDwellEnd
  /-- HOLDOVER_EXPIRED (R417). MAX_MIN minutes of holdover pass, setting HO_EXPIRED and raising REF_HO_EXPIRED. -/
  | holdoverExpired
  /-- PPS_OUT_EDGE (R421). The pulse divider reaches a PPS_OUT rising edge, starting pending clock outputs and pulses. -/
  | ppsOutEdge
  /-- ALIGNMENT_PULSE (R422). The selected reference's alignment pulse arrives and a pending realignment of the pulse divider is made. -/
  | alignmentPulse
  /-- REF_SELECT (R406). Opcode 0x60 sets CHOSEN and may switch references. -/
  | refSelect (src : CmdSrc)
  /-- REF_SET (R424). Opcode 0x61 changes a reference's enable, rank, windows or rate limit. -/
  | refSet (src : CmdSrc)
  /-- REF_BW (R424). Opcode 0x62 changes the target loop bandwidth and AUTO_BW. -/
  | refBw (src : CmdSrc)
  /-- REF_ALIGN (R422). Opcode 0x63 requests a realignment of PPS_OUT and SYNC_OUT at the next alignment pulse. -/
  | refAlign (src : CmdSrc)
  /-- REF_ALIGN_TIMEOUT (R424). No alignment pulse arrives within 2 s and REF_ALIGN completes with REF_NO_PULSE. -/
  | refAlignTimeout
  /-- REF_OUT_SET (R420). Opcode 0x64 starts or stops masked clock outputs glitch-free. -/
  | refOutSet (src : CmdSrc)
  /-- REF_CTL_RUN (R425). A write of REF_CTL.RUN starts the island with its configuration or stops the outputs low. -/
  | refCtlRun (on : Bool)
  /-- REF_CTL_FREEZE (R416). A write of REF_CTL.FREEZE opens the loop at the present y, or closes it through a build-out. -/
  | refCtlFreeze (on : Bool)
  /-- TIME_BASE_TICK (R426). Each 250 MHz tick adds the increment and ADJ to the time counter, carrying into SEC. -/
  | timeBaseTick
  /-- PPS_EDGE (R429). An edge on PPS_A or PPS_B is time-stamped and feeds the servo or the reference unit. -/
  | ppsEdge (pin : Fin 2) (fine : Fin 128)
  /-- TIME_SET (R435). Opcode 0x68 loads the time counter at the next tick. -/
  | timeSet (src : CmdSrc)
  /-- TIME_STEP (R435). Opcode 0x69 adds a signed amount to the time counter at the next tick. -/
  | timeStep (src : CmdSrc)
  /-- TIME_OFFSET (R430). Opcode 0x6A feeds a PTP offset to the servo or refuses it as stale or a jump. -/
  | timeOffset (src : CmdSrc)
  /-- TIME_SERVO (R431). Opcode 0x6B changes the servo source, bandwidth and interval. -/
  | timeServo (src : CmdSrc)
  /-- SERVO_COAST (R432). No offset accepted for 8 × T sets COASTING, holds the servo and leaves LOCKED. -/
  | servoCoast
  /-- TIME_CTL_FREEZE (R433). A write of TIME_CTL.FREEZE holds ADJ and I and sets FREEZE_ACK. -/
  | timeCtlFreeze (on : Bool)
  /-- TIME_EVT_EDGE (R442). A selected edge on an input TIME_EVT pin is captured and sent to its users and as a capture record. -/
  | timeEvtEdge (pin : Fin 4) (fine : Fin 128) (falling : Bool)
  /-- PIN_PULSE_END (R443). A TIME_EVT output pulse's width expires and the pin returns to IDLE. -/
  | pinPulseEnd (pin : Fin 4)
  /-- ALM_SET (R445). Opcode 0x70 reads an entry image and arms an almanac entry. -/
  | almSet (src : CmdSrc) (table : HostRead)
  /-- ALM_CANCEL (R446). Opcode 0x71 empties one or all almanac entries. -/
  | almCancel (src : CmdSrc)
  /-- ALMANAC_FIRING (R447). One due almanac entry fires per tick, performing its action and re-arming by its period. -/
  | almanacFiring
  /-- ADC_SINGLE_START (R455). Setting ADC_SINGLE.START starts one conversion of the named channel in MODE 0. -/
  | adcSingleStart (channel : Fin 32)
  /-- CONVERSION_END (R454). A conversion ends and its result goes to the queue, or to ADC_TEMP and the thermal rules. -/
  | conversionEnd (code : BitVec 12)
  /-- GUARD_CONVERSION_DUE (R457). Every 100 µs a guard conversion of the next die sensor falls due. -/
  | guardConversionDue
  /-- REG_LAP_DUE (R455). ADC_REG_PERIOD expires and a regular-sequence lap starts or overruns. -/
  | regLapDue
  /-- ADC_INJECT (R459). Opcode 0x74 triggers the injected sequence. -/
  | adcInject (src : CmdSrc)
  /-- ADC_BATCH_TIMEOUT (R463). 1 ms after the oldest queued result a message is formed for the ADC delivery ring. -/
  | adcBatchTimeout
  /-- AVS_PERIOD (R467). Every AVS_CFG.PERIOD the loop requests voltage steps from slack and adjusts the field clock. -/
  | avsPeriod (slack : List Nat)
  /-- AVS_TRANSACTION_END (R466). An AVSBus transaction completes, is retried or fails with AVS_BUS_ERR. -/
  | avsTransactionEnd (rail : Fin 5) (answer : Option (Fin 1024))
  /-- AVS_CFG_FREEZE (R471). A write of AVS_CFG.FREEZE holds the voltage loop and sets FREEZE_ACK. -/
  | avsCfgFreeze (on : Bool)
  /-- DROOP_DETECT (R470). A field rail falling DROOP_MV below its set point stretches every field cycle. -/
  | droopDetect (rail : Fin 4)
  /-- DROOP_RECOVER (R470). The rail recovers and field clock stretching ends. -/
  | droopRecover (rail : Fin 4)
  /-- DAC_SLEW_STEP (R476). Each INTERVAL a slewing DAC channel moves STEP LSB toward its target. -/
  | dacSlewStep (channel : Fin 8)
  /-- LDAC_N_FALL (R475). A falling edge of LDAC_N strobes pending DAC codes into their targets. -/
  | ldacNFall
  /-- DAC_CTL_LOAD (R475). Writing DAC_CTL.LOAD strobes pending DAC codes. -/
  | dacCtlLoad
  /-- DAC_CLEAR_N_ASSERT (R477). DAC_CLEAR_N going low slews enabled channels to their clear codes. -/
  | dacClearNAssert
  /-- DAC_CLEAR_N_RELEASE (R477). DAC_CLEAR_N rising ends the clear, and channels hold their clear codes. -/
  | dacClearNRelease
  /-- DAC_SET (R475). Opcode 0x75 writes pending DAC codes and optionally strobes them. -/
  | dacSet (src : CmdSrc)
  /-- DAC_PARK (R478). Opcode 0x76 parks or unparks masked DAC channels. -/
  | dacPark (src : CmdSrc)
  /-- DAC_RANGE (R478). Opcode 0x77 changes the range of parked DAC channels. -/
  | dacRange (src : CmdSrc)
  /-- EVENT_QUEUE_FLUSH (R488). BATCH records or TIME_US elapse and an event queue writes its records as a message. -/
  | eventQueueFlush (queue : Fin 8)
  /-- EVT_SRC_ARM (R491). Writing EVT_SRC_CFG.ARM arms a source, signalling at once if an occurrence is pending. -/
  | evtSrcArm (source : Fin 2048)
  /-- EVT_RAISE (R489). A write to EVT_RAISE raises one test occurrence of the named source. -/
  | evtRaise (source : Fin 2048)
  /-- EVT_ENABLE (R493). Setting EVT_CFG.ENABLE lets records be created and moves held island occurrences into the store. -/
  | evtEnable (on : Bool)
  /-- PCIE_CREDIT_STALL (R494). No credit returned for EVT_WEDGE.MS with TLPs waiting wedges the host function. -/
  | pcieCreditStall
  /-- PCIE_FATAL_ERROR (R494). A fatal uncorrectable PCIe error wedges the host function. -/
  | pcieFatalError (status : BitVec 32)
  /-- CRC_SCAN (R498). Opcode 0x78 computes a check value over a region of the ring's window. -/
  | crcScan (ring : Ring)
  /-- WEAVE_HELLO (R503). A received WEAVE_HELLO compares digests and sets RUNNING or MISMATCH. -/
  | weaveHello (link : Link)
  /-- DELAY_MEASURE (R504). Once per second a follower sends DELAY_REQ to the leader. -/
  | delayMeasure (fine : Fin 400)
  /-- DELAY_REQ (R537). The leader receives DELAY_REQ and launches DELAY_RESP with t2 and t3. -/
  | delayReq (link : Link) (fine : Fin 400)
  /-- DELAY_RESP (R504). A follower receives DELAY_RESP and updates the one-way link delay. -/
  | delayResp (link : Link) (fine : Fin 400)
  /-- PULSE_MARK_DUE (R505). 10 µs before each PPS_OUT edge the leader sends PULSE_MARK. -/
  | pulseMarkDue
  /-- PULSE_MARK (R505). A follower receives PULSE_MARK, forming its reference-5 alignment pulse. -/
  | pulseMark (link : Link) (fine : Fin 400)
  /-- FORWARDED_UNIT (R508). A forwarded sample unit arrives and is stored under its remote stream as a packet would be. -/
  | forwardedUnit (link : Link) (gleanBacklog : Nat)
  /-- MASK_UPDATE (R508). A MASK_UPDATE message updates the shadow input mask from sheaf k. -/
  | maskUpdate (link : Link)
  /-- WEEDER_MESSAGE (R517). A partner's WEEDER message completes a block's flag-plane entry. -/
  | weederMessage (arrival : WeederArrival)
  /-- WEAVE_STATUS_DUE (R510). Every 10 µs a device sends WEAVE_STATUS with its time and drain states. -/
  | weaveStatusDue
  /-- WEAVE_STATUS_MESSAGE (R518). A received WEAVE_STATUS lets waiting bank decisions proceed. -/
  | weaveStatusMessage (link : Link)
  /-- GRAN_RELAY (R519). A follower receives a relayed GRAN_START or GRAN_STOP and applies it at the carried pass. -/
  | granRelay (link : Link)
  /-- FLAG_WAIT_TIMEOUT (R517). FLAG_WAIT_US passes without a partner's weeder message, and the block is flagged at channel level. -/
  | flagWaitTimeout (channel : Chan)
  /-- DECIDE_WAIT_TIMEOUT (R518). DECIDE_WAIT_US passes while a bank decision waits, and the integration stretches. -/
  | decideWaitTimeout (group : Group)
  /-- HEARTBEAT_DUE (R523). Once per microsecond a twin unit sends HEARTBEAT with its role. -/
  | heartbeatDue
  /-- HEARTBEAT (R537). A received partner HEARTBEAT updates the partner's role, straps and ingest state. -/
  | heartbeat
  /-- PROGRESS_DUE (R528). Once per microsecond the active unit sends PROGRESS for advanced streams and rings. -/
  | progressDue
  /-- PROGRESS (R528). A received PROGRESS releases the standby's covered packets and host writes from its queue. -/
  | progress
  /-- YIELD (R533). A received YIELD message starts the standby's takeover. -/
  | yield
  /-- TAKEN (R532). A received TAKEN stops a yielded unit and completes TWIN_YIELD. -/
  | taken
  /-- RECLAIM (R535). A received RECLAIM makes the active unit yield with cause RETURN. -/
  | reclaim
  /-- RELEASE_RECORD (R525). A release record on the order stream lets the standby release that pair in order. -/
  | releaseRecord
  /-- COMMAND_POINT (R538). A command point tells the standby the release position at which to hand a command over. -/
  | commandPoint
  /-- STATE_BLOCK (R530). A state block arrives, and a whole snapshot is compared to set or clear SYNCED. -/
  | stateBlock
  /-- CONFIG_UPDATE_BLOCK (R562). A configuration update block arrives, and the full set is applied and committed. -/
  | configUpdateBlock
  /-- CONFIG_UPDATE_RETRY (R562). A missing or failed block makes the joining unit request the set again after 10 ms. -/
  | configUpdateRetry
  /-- TWIN_YIELD_N_LOW (R533). The partner pulling TWIN_YIELD_N low makes the standby take over within 2 µs. -/
  | twinYieldNLow
  /-- PEER_HEALTH_WAVE (R523). A partner health wave is recognised after two periods, which stops a yielded unit. -/
  | peerHealthWave (wave : Fin 3)
  /-- YIELD_TIMEOUT (R532). 9 µs after a yield the yielded unit stops starting frames and host writes. -/
  | yieldTimeout
  /-- PEER_LOST (R534). No partner heartbeat on either path for 50 µs makes the standby take over or both units SPLIT. -/
  | peerLost (partnerRuns : Bool)
  /-- SOLO_TIMEOUT (R521). No partner heartbeat for 50 µs after commit makes the unit ACTIVE as SOLO. -/
  | soloTimeout
  /-- INGEST_LOSS_TIMEOUT (R531). An ingest link not UP for INGEST_LOSS_US while the partner reports it UP makes the active unit yield. -/
  | ingestLossTimeout (link : Fin 64)
  /-- TWIN_YIELD (R540). Opcode 0x4C makes the active unit yield to an eligible standby. -/
  | twinYield (src : CmdSrc)
  /-- FUSE_PROG (R581). A keyed write to FUSE_PROG_CTL starts blowing the owner hash or REQUIRE_SIGNED. -/
  | fuseProg (value : Word)
  /-- FUSE_PROG_END (R581). Fuse programming finishes its read-back and reports done or a failure cause. -/
  | fuseProgEnd (readBackGood : Bool)
  /-- DBG_REQUEST (R582). Setting DBG_LOCK.REQUEST makes a new challenge and enters CHALLENGED. -/
  | dbgRequest (challenge : List Word)
  /-- DBG_RESPONSE (R582). A write to DBG_RESPONSE word 15 submits the unlock response for checking. -/
  | dbgResponse (word : Word)
  /-- DBG_RESPONSE_CHECKED (R598). The response signature check ends in UNLOCKED, or in LOCKED or BARRED after a failure. -/
  | dbgResponseChecked (good : Bool)
  /-- COMMIT_CHECKS_END (R554). The commit checks, which run for up to 10 ms while BAR0 writes are discarded, finish and the device enters RUNNING or writes GLB_COMMIT_ERR and stays IDLE. -/
  | commitChecksEnd
  /-- PCIE_LINK_UP (R545). PCIe link training completes and configuration requests are answered and LINK_UP is set. -/
  | pcieLinkUp (speed : Fin 6) (width : Fin 17)
  /-- PCIE_CONFIG_WRITE (R328). A host configuration-space write sets Device Control, Bus Master Enable or the power state, changing what DMA may do and how host-space requests decode. -/
  | pcieConfigWrite (busMaster relaxed d3hot : Bool) (payload request : Fin 8)
  /-- PCIE_AER_ERROR (R328). The PCIe core logs a correctable or non-fatal AER error and raises PCIE_AER_CE or PCIE_AER_NF. -/
  | pcieAerError (nonFatal : Bool) (status : BitVec 32)
  /-- MGMT_LINK_DOWN (R324). The management port's link on lane 96 goes down and ETH_STATUS.MGMT_UP clears. -/
  | mgmtLinkDown
  /-- MGMT_LINK_UP (R324). The management port's link on lane 96 comes up and ETH_STATUS.MGMT_UP is set. -/
  | mgmtLinkUp
  /-- FIRMWARE_MESSAGE (R583). Housekeeping firmware raises HKC_FW_MSG with a message code. -/
  | firmwareMessage (code : BitVec 16)
deriving DecidableEq, Repr

end Sys2Proof
end

