-- ==== Sys2Proof/Decode.lean ====
section
/-! DEFINITION. Decoding words. The rows of spec/opcode_table.json give no bits: the block takes commands, not words, so no
word spells one. -/

namespace Sys2Proof

/-- The command that a word of the table's bits spells: none, since no row of the table gives bits. -/
def decodeTableWord (_nbits _w : Nat) : Option Instr := none

end Sys2Proof
end

