-- ==== Sys2Proof/Config.lean ====
section
/-! DEFINITION. What the spec leaves open: opaque constants without a body, so that nothing can be proved of a value
that the spec does not state. Each is named in the assumption log. -/

namespace Sys2Proof.Config

/-- Faults of the dual-clock FIFOs (R40), which come when no command waits: crossing number, overflow or underflow, and lane group, port or
pseudo-channel; none where every crossing holds. -/
opaque cdcFault : Nat → Option (Nat × Bool × Nat)

/-- Undefined contents of HBM (R387): the byte at an address, for each loss of contents. -/
opaque hbmByte : Nat → Nat → BitVec 8

/-- Free values, one for each position that the step reads and advances (State.freeIx). Log: 8 (DESIGN CHOICE). -/
opaque freeNat : Nat → Nat

/-- Activates of one bank after which a stack asks for refresh management (R379): the stack's, not stated. Log: 120 (DESIGN CHOICE). -/
opaque rfmThreshold : Nat

/-- The boot ROM's bytes (R36, R391), and what the working SRAM holds since a given reset where the matrix has not written it: not stated.
Log: 120 (DESIGN CHOICE). -/
opaque romByte : Nat → BitVec 8
opaque sramByte : Nat → Nat → BitVec 8

/-- Period in ps of a link's recovered clock as the reference unit measures it (R400, R412): not stated. Log: 137 (DESIGN CHOICE). -/
opaque balranPeriodPs : Nat

/-- The harrow's DFT (R117): which of the integers within 1 of the exact value a component takes, for M, the DFT index, the component
and the branch sums: deterministic, not stated. Log: 44 (DESIGN CHOICE). -/
opaque harrowPick : Nat → Nat → Nat → List (Int × Int) → Nat

/-- The ROM minimum-phase prototype of Ewesen mode (R134): coefficient n for M fine channels, 18 bits: not stated.
Log: 45 (DESIGN CHOICE). -/
opaque ewesenProto : Nat → Nat → BitVec 18

/-- Which destination MAC addresses the management port's filter passes (R324): its own address and its multicast setting have no
register. Log: 99 (DESIGN CHOICE). -/
opaque mgmtAccepts : List (BitVec 8) → Bool

end Sys2Proof.Config
end

