-- ==== Sys2Proof/Machine/RegMap.lean ====
section
/-! DEFINITION. The register map: BAR0 byte addresses of every register (R577 and the register tables of the
chapters), the fields of each with their access code and reset value (R14, R17), and the assigned blocks.
Generated from the register tables of spec/; an index argument is the table's own index letter. -/

namespace Sys2Proof.Machine

/-- Access codes of R14. -/
inductive Access where
  | rw | ro | wo | w1c | w1s | rc
deriving DecidableEq, Repr

/-- A bit field of a 32-bit register: lowest bit and width (R5). -/
structure Fld where
  lo : Nat
  width : Nat
deriving DecidableEq, Repr

/-- One described field: where it lies, its access code, its reset value (a value marked fuse or strap is 0 until loaded). -/
structure FieldDesc where
  lo : Nat
  width : Nat
  acc : Access
  rst : Nat
deriving DecidableEq, Repr

/-- One register table: address of the first instance, two strides with their instance counts, and its fields. -/
structure RegDesc where
  base : Nat
  s1 : Nat
  n1 : Nat
  s2 : Nat
  n2 : Nat
  fields : List FieldDesc
deriving DecidableEq, Repr

/-- A register block of R577: its index, first and last offset. -/
structure Block where
  index : Nat
  first : Nat
  last : Nat
deriving DecidableEq, Repr

namespace Reg

/-- lane configuration (spec/02_lanes_and_balran.md). -/
def LANE_CFG (L : Nat) : Nat := 0x200000 + 0x200 * L
/-- receive equaliser (spec/02_lanes_and_balran.md). -/
def LANE_EQ (L : Nat) : Nat := 0x200004 + 0x200 * L
/-- lane status (spec/02_lanes_and_balran.md). -/
def LANE_STATUS (L : Nat) : Nat := 0x200008 + 0x200 * L
/-- eye-scan control (spec/02_lanes_and_balran.md). -/
def LANE_EYE_CTL (L : Nat) : Nat := 0x200010 + 0x200 * L
/-- eye-scan result (spec/02_lanes_and_balran.md). -/
def LANE_EYE_RESULT (L : Nat) : Nat := 0x200014 + 0x200 * L
/-- corrected symbols (spec/02_lanes_and_balran.md). -/
def LANE_FEC_CORR (L : Nat) : Nat := 0x200018 + 0x200 * L
/-- uncorrectable codewords (spec/02_lanes_and_balran.md). -/
def LANE_FEC_UNCORR (L : Nat) : Nat := 0x20001C + 0x200 * L
/-- Balran link configuration (spec/02_lanes_and_balran.md). -/
def LANE_LINK_CFG (K : Nat) : Nat := 0x220000 + 0x100 * K
/-- Balran link status (spec/02_lanes_and_balran.md). -/
def LANE_LINK_STATUS (K : Nat) : Nat := 0x220004 + 0x100 * K
/-- Balran retry counters (spec/02_lanes_and_balran.md). -/
def LANE_LINK_RETRY (K : Nat) : Nat := 0x220008 + 0x100 * K
/-- Balran retry timing (spec/02_lanes_and_balran.md). -/
def LANE_LINK_TIMER (K : Nat) : Nat := 0x22000C + 0x100 * K
/-- ingest control (spec/03_ingest_and_sheaves.md). -/
def INGEST_CTL : Nat := 0x400000
/-- input and channel geometry (spec/03_ingest_and_sheaves.md). -/
def INGEST_GEOM : Nat := 0x400004
/-- processed bandwidth (spec/03_ingest_and_sheaves.md). -/
def INGEST_RATE : Nat := 0x400008
/-- alignment wait (spec/03_ingest_and_sheaves.md). -/
def INGEST_ALIGN : Nat := 0x40000C
/-- HBM branch reserves (spec/03_ingest_and_sheaves.md). -/
def INGEST_RESERVE : Nat := 0x400010
/-- first sheaf index (spec/03_ingest_and_sheaves.md). -/
def INGEST_START_LO : Nat := 0x400014
/-- first sheaf index (spec/03_ingest_and_sheaves.md). -/
def INGEST_START_HI : Nat := 0x400018
/-- time of sheaf index 0 (spec/03_ingest_and_sheaves.md). -/
def INGEST_EPOCH_NS : Nat := 0x40001C
/-- time of sheaf index 0 (spec/03_ingest_and_sheaves.md). -/
def INGEST_EPOCH_SEC_LO : Nat := 0x400020
/-- time of sheaf index 0 (spec/03_ingest_and_sheaves.md). -/
def INGEST_EPOCH_SEC_HI : Nat := 0x400024
/-- ingest status (spec/03_ingest_and_sheaves.md). -/
def INGEST_STATUS : Nat := 0x400028
/-- alignment store occupancy (spec/03_ingest_and_sheaves.md). -/
def INGEST_STORE : Nat := 0x40002C
/-- observed skew (spec/03_ingest_and_sheaves.md). -/
def INGEST_SKEW : Nat := 0x400030
/-- ingest counters (spec/03_ingest_and_sheaves.md). -/
def INGEST_COUNT (n : Nat) : Nat := 0x400100 + 0x4 * n
/-- stream configuration (spec/03_ingest_and_sheaves.md). -/
def STREAM_CFG (s : Nat) : Nat := 0x401000 + 0x20 * s
/-- stream input range (spec/03_ingest_and_sheaves.md). -/
def STREAM_INPUTS (s : Nat) : Nat := 0x401004 + 0x20 * s
/-- stream channel range (spec/03_ingest_and_sheaves.md). -/
def STREAM_CHANNELS (s : Nat) : Nat := 0x401008 + 0x20 * s
/-- packet slice (spec/03_ingest_and_sheaves.md). -/
def STREAM_SLICE (s : Nat) : Nat := 0x40100C + 0x20 * s
/-- stream status (spec/03_ingest_and_sheaves.md). -/
def STREAM_STATUS (s : Nat) : Nat := 0x401010 + 0x20 * s
/-- input mask (spec/03_ingest_and_sheaves.md). -/
def INGEST_INPUT_MASK (j : Nat) : Nat := 0x403000 + 0x4 * j
/-- requantiser gains (spec/03_ingest_and_sheaves.md). -/
def INGEST_RQ_GAIN (j : Nat) : Nat := 0x404000 + 0x4 * j
/-- harrow configuration (spec/04_harrow.md). -/
def HARROW_CFG : Nat := 0x600000
/-- harrow status (spec/04_harrow.md). -/
def HARROW_STATUS : Nat := 0x600004
/-- coarse power records (spec/04_harrow.md). -/
def HARROW_POWER : Nat := 0x600008
/-- DC estimate probe select (spec/04_harrow.md). -/
def HARROW_DC_SEL : Nat := 0x600010
/-- DC estimate (spec/04_harrow.md). -/
def HARROW_DC_RE : Nat := 0x600014
/-- DC estimate (spec/04_harrow.md). -/
def HARROW_DC_IM : Nat := 0x600018
/-- harrow counters (spec/04_harrow.md). -/
def HARROW_COUNT (n : Nat) : Nat := 0x600100 + 0x4 * n
/-- zoom slot (spec/04_harrow.md). -/
def HARROW_ZOOM (z : Nat) : Nat := 0x601000 + 0x10 * z
/-- prototype half (spec/04_harrow.md). -/
def HARROW_COEF (j : Nat) : Nat := 0x608000 + 0x4 * j
/-- fine-channel gains (spec/04_harrow.md). -/
def HARROW_FGAIN (j : Nat) : Nat := 0x610000 + 0x4 * j
/-- weeder configuration (spec/05_weeder.md). -/
def WEED_CFG : Nat := 0x700000
/-- threshold factors (spec/05_weeder.md). -/
def WEED_THRESH : Nat := 0x700004
/-- initial trackers (spec/05_weeder.md). -/
def WEED_TRACK : Nat := 0x700008
/-- median limits (spec/05_weeder.md). -/
def WEED_LIMIT : Nat := 0x70000C
/-- tracker steps (spec/05_weeder.md). -/
def WEED_STEP : Nat := 0x700010
/-- initial sheaf power median (spec/05_weeder.md). -/
def WEED_PM_INIT : Nat := 0x700014
/-- block reports (spec/05_weeder.md). -/
def WEED_REPORT : Nat := 0x700018
/-- tracker probe select (spec/05_weeder.md). -/
def WEED_PROBE_SEL : Nat := 0x700020
/-- probed SK trackers (spec/05_weeder.md). -/
def WEED_PROBE_SK : Nat := 0x700024
/-- probed sheaf power median (spec/05_weeder.md). -/
def WEED_PROBE_PM : Nat := 0x700028
/-- weeder counters (spec/05_weeder.md). -/
def WEED_COUNT (n : Nat) : Nat := 0x700100 + 0x4 * n
/-- turning configuration (spec/06_turning_and_passes.md). -/
def TURN_CFG : Nat := 0x800000
/-- turning region base (spec/06_turning_and_passes.md). -/
def TURN_BASE_LO : Nat := 0x800004
/-- turning region base (spec/06_turning_and_passes.md). -/
def TURN_BASE_HI : Nat := 0x800008
/-- turning region size (spec/06_turning_and_passes.md). -/
def TURN_SIZE : Nat := 0x80000C
/-- bandwidth limit and reserve (spec/06_turning_and_passes.md). -/
def TURN_BUDGET : Nat := 0x800010
/-- computed bandwidth use (spec/06_turning_and_passes.md). -/
def TURN_BUDGET_USE : Nat := 0x800014
/-- pass record ring (spec/06_turning_and_passes.md). -/
def TURN_PASSREC : Nat := 0x800018
/-- turning status (spec/06_turning_and_passes.md). -/
def TURN_STATUS : Nat := 0x80001C
/-- smallest margin observed (spec/06_turning_and_passes.md). -/
def TURN_MARGIN_MIN : Nat := 0x800020
/-- turning counters (spec/06_turning_and_passes.md). -/
def TURN_COUNT (n : Nat) : Nat := 0x800100 + 0x4 * n
/-- correlation configuration (spec/07_correlation_array.md). -/
def CORR_CFG : Nat := 0x900000
/-- correlation status (spec/07_correlation_array.md). -/
def CORR_STATUS : Nat := 0x900004
/-- sheaf-rate capacity (spec/07_correlation_array.md). -/
def CORR_CAPACITY : Nat := 0x900008
/-- recompute limit (spec/07_correlation_array.md). -/
def CORR_RECOMP : Nat := 0x90000C
/-- load-step governor (spec/07_correlation_array.md). -/
def CORR_GOV : Nat := 0x900010
/-- governor status (spec/07_correlation_array.md). -/
def CORR_GOV_STATUS : Nat := 0x900014
/-- placement loop (spec/07_correlation_array.md). -/
def CORR_PLACE : Nat := 0x900018
/-- tile probe select (spec/07_correlation_array.md). -/
def CORR_TILE_SEL : Nat := 0x900020
/-- tile probe result (spec/07_correlation_array.md). -/
def CORR_TILE_WHERE : Nat := 0x900024
/-- retirement mask (spec/07_correlation_array.md). -/
def CORR_RETIRE_MASK (m w : Nat) : Nat := 0x900040 + 0x10 * m + 0x4 * w
/-- correlation counters (spec/07_correlation_array.md). -/
def CORR_COUNT (n : Nat) : Nat := 0x900100 + 0x4 * n
/-- furrow state (spec/07_correlation_array.md). -/
def CORR_FURROW (m f : Nat) : Nat := 0x901000 + 0x4 * (68 * m + f)
/-- granary configuration (spec/08_accumulation_and_harvest.md). -/
def GRAN_CFG : Nat := 0xC00000
/-- granary status (spec/08_accumulation_and_harvest.md). -/
def GRAN_STATUS : Nat := 0xC00004
/-- granary region base (spec/08_accumulation_and_harvest.md). -/
def GRAN_BASE_LO : Nat := 0xC00008
/-- granary region base (spec/08_accumulation_and_harvest.md). -/
def GRAN_BASE_HI : Nat := 0xC0000C
/-- granary region size (spec/08_accumulation_and_harvest.md). -/
def GRAN_SIZE : Nat := 0xC00010
/-- group configuration (spec/08_accumulation_and_harvest.md). -/
def GRAN_GRP_CFG (g : Nat) : Nat := 0xC00100 + 0x40 * g
/-- group channel range (spec/08_accumulation_and_harvest.md). -/
def GRAN_GRP_CHAN (g : Nat) : Nat := 0xC00104 + 0x40 * g
/-- group destination (spec/08_accumulation_and_harvest.md). -/
def GRAN_GRP_DEST (g : Nat) : Nat := 0xC00108 + 0x40 * g
/-- start time (spec/08_accumulation_and_harvest.md). -/
def GRAN_GRP_START_NS (g : Nat) : Nat := 0xC0010C + 0x40 * g
/-- start time (spec/08_accumulation_and_harvest.md). -/
def GRAN_GRP_START_SEC_LO (g : Nat) : Nat := 0xC00110 + 0x40 * g
/-- start time (spec/08_accumulation_and_harvest.md). -/
def GRAN_GRP_START_SEC_HI (g : Nat) : Nat := 0xC00114 + 0x40 * g
/-- group state (spec/08_accumulation_and_harvest.md). -/
def GRAN_GRP_STATE (g : Nat) : Nat := 0xC00118 + 0x40 * g
/-- filling integration (spec/08_accumulation_and_harvest.md). -/
def GRAN_GRP_SEQ (g : Nat) : Nat := 0xC0011C + 0x40 * g
/-- passes in the filling integration (spec/08_accumulation_and_harvest.md). -/
def GRAN_GRP_PASSES (g : Nat) : Nat := 0xC00120 + 0x40 * g
/-- group counters (spec/08_accumulation_and_harvest.md). -/
def GRAN_GRP_COUNT (g n : Nat) : Nat := 0xC00124 + 0x40 * g + 0x4 * n
/-- beam engine configuration (spec/09_beamformer.md). -/
def BEAM_CFG : Nat := 0xE00000
/-- beam engine status (spec/09_beamformer.md). -/
def BEAM_STATUS : Nat := 0xE00004
/-- beam sheaf-rate capacity (spec/09_beamformer.md). -/
def BEAM_CAPACITY : Nat := 0xE00008
/-- computed Class 0 bound (spec/09_beamformer.md). -/
def BEAM_LAT_BOUND : Nat := 0xE0000C
/-- frame sizes (spec/09_beamformer.md). -/
def BEAM_FRAME : Nat := 0xE00010
/-- quad partial wait (spec/09_beamformer.md). -/
def BEAM_WEAVE : Nat := 0xE00014
/-- detection (spec/09_beamformer.md). -/
def BEAM_DET : Nat := 0xE00018
/-- trigger and report destinations (spec/09_beamformer.md). -/
def BEAM_OUT : Nat := 0xE0001C
/-- peak finder (spec/09_beamformer.md). -/
def BEAM_PEAK_CFG : Nat := 0xE00020
/-- report span (spec/09_beamformer.md). -/
def BEAM_PEAK_SPAN : Nat := 0xE00024
/-- upper threshold (spec/09_beamformer.md). -/
def BEAM_PEAK_HI : Nat := 0xE00028
/-- lower threshold (spec/09_beamformer.md). -/
def BEAM_PEAK_LO : Nat := 0xE0002C
/-- beam counters (spec/09_beamformer.md). -/
def BEAM_COUNT (n : Nat) : Nat := 0xE00080 + 0x4 * n
/-- block requantiser (spec/09_beamformer.md). -/
def BEAM_BLOCK (b : Nat) : Nat := 0xE00100 + 0x4 * b
/-- block bank state (spec/09_beamformer.md). -/
def BEAM_BANK (b : Nat) : Nat := 0xE00140 + 0x4 * b
/-- source destinations (spec/09_beamformer.md). -/
def BEAM_DEST (q : Nat) : Nat := 0xE00200 + 0x4 * q
/-- beam channel selection (spec/09_beamformer.md). -/
def BEAM_SEL (j : Nat) : Nat := 0xE00400 + 0x4 * j
/-- channel phase rate (spec/09_beamformer.md). -/
def BEAM_CHFREQ (c : Nat) : Nat := 0xE01000 + 0x4 * c
/-- glean configuration (spec/10_glean_ring.md). -/
def GLEAN_CFG : Nat := 0x1000000
/-- input selection (spec/10_glean_ring.md). -/
def GLEAN_INPUTS : Nat := 0x1000004
/-- region base (spec/10_glean_ring.md). -/
def GLEAN_BASE_LO : Nat := 0x1000008
/-- region base (spec/10_glean_ring.md). -/
def GLEAN_BASE_HI : Nat := 0x100000C
/-- largest ring length (spec/10_glean_ring.md). -/
def GLEAN_MAXSLOTS : Nat := 0x1000010
/-- current ring length (spec/10_glean_ring.md). -/
def GLEAN_LEN : Nat := 0x1000014
/-- pending ring length (spec/10_glean_ring.md). -/
def GLEAN_LEN_SHADOW : Nat := 0x1000018
/-- freeze window (spec/10_glean_ring.md). -/
def GLEAN_WIN : Nat := 0x100001C
/-- glean status (spec/10_glean_ring.md). -/
def GLEAN_STATUS : Nat := 0x1000020
/-- write pointer (spec/10_glean_ring.md). -/
def GLEAN_WPTR : Nat := 0x1000024
/-- region size (spec/10_glean_ring.md). -/
def GLEAN_SIZE : Nat := 0x1000028
/-- notification ring (spec/10_glean_ring.md). -/
def GLEAN_NOTIFY : Nat := 0x100002C
/-- glean counters (spec/10_glean_ring.md). -/
def GLEAN_COUNT (n : Nat) : Nat := 0x1000100 + 0x4 * n
/-- channel selection (spec/10_glean_ring.md). -/
def GLEAN_SEL (j : Nat) : Nat := 0x1000400 + 0x4 * j
/-- baler configuration (spec/11_baler.md). -/
def BALER_CFG : Nat := 0x1100000
/-- baler status (spec/11_baler.md). -/
def BALER_STATUS : Nat := 0x1100004
/-- baler counters (spec/11_baler.md). -/
def BALER_COUNT (n : Nat) : Nat := 0x1100100 + 0x4 * n
/-- port configuration (spec/12_egress_streams.md). -/
def ETH_CFG : Nat := 0x1200000
/-- port status (spec/12_egress_streams.md). -/
def ETH_STATUS : Nat := 0x1200004
/-- management port (spec/12_egress_streams.md). -/
def ETH_MGMT : Nat := 0x1200010
/-- management port rings (spec/12_egress_streams.md). -/
def ETH_MGMT_RINGS : Nat := 0x1200014
/-- management PTP ring (spec/12_egress_streams.md). -/
def ETH_MGMT_PTP : Nat := 0x1200018
/-- data port (spec/12_egress_streams.md). -/
def ETH_PORT_CFG (p : Nat) : Nat := 0x1200100 + 0x40 * p
/-- port scheduler (spec/12_egress_streams.md). -/
def ETH_PORT_SCHED (p : Nat) : Nat := 0x1200104 + 0x40 * p
/-- port scheduler status (spec/12_egress_streams.md). -/
def ETH_PORT_STATUS (p : Nat) : Nat := 0x1200108 + 0x40 * p
/-- port MAC address (spec/12_egress_streams.md). -/
def ETH_PORT_SMAC_LO (p : Nat) : Nat := 0x120010C + 0x40 * p
/-- port MAC address (spec/12_egress_streams.md). -/
def ETH_PORT_SMAC_HI (p : Nat) : Nat := 0x1200110 + 0x40 * p
/-- port source address (spec/12_egress_streams.md). -/
def ETH_PORT_SIP (p w : Nat) : Nat := 0x1200114 + 0x40 * p + 0x4 * w
/-- port rings (spec/12_egress_streams.md). -/
def ETH_PORT_RX (p : Nat) : Nat := 0x1200124 + 0x40 * p
/-- port counters (spec/12_egress_streams.md). -/
def ETH_PORT_COUNT (p n : Nat) : Nat := 0x1201000 + 0x20 * p + 0x4 * n
/-- stream entry (spec/12_egress_streams.md). -/
def ETH_STR_CFG (s : Nat) : Nat := 0x1300000 + 0x40 * s
/-- stream UDP and size (spec/12_egress_streams.md). -/
def ETH_STR_L4 (s : Nat) : Nat := 0x1300004 + 0x40 * s
/-- destination MAC (spec/12_egress_streams.md). -/
def ETH_STR_MAC_LO (s : Nat) : Nat := 0x1300008 + 0x40 * s
/-- destination MAC (spec/12_egress_streams.md). -/
def ETH_STR_MAC_HI (s : Nat) : Nat := 0x130000C + 0x40 * s
/-- destination address (spec/12_egress_streams.md). -/
def ETH_STR_DIP (s w : Nat) : Nat := 0x1300010 + 0x40 * s + 0x4 * w
/-- next packet number (spec/12_egress_streams.md). -/
def ETH_STR_SEQ_LO (s : Nat) : Nat := 0x1300020 + 0x40 * s
/-- next packet number (spec/12_egress_streams.md). -/
def ETH_STR_SEQ_HI (s : Nat) : Nat := 0x1300024 + 0x40 * s
/-- stream alive counter (spec/12_egress_streams.md). -/
def ETH_STR_ALIVE (s : Nat) : Nat := 0x1300028 + 0x40 * s
/-- ring base (spec/13_host_rings_and_dma.md). -/
def RING_BASE_LO (r : Nat) : Nat := 0x1400000 + 0x40 * r
/-- ring base (spec/13_host_rings_and_dma.md). -/
def RING_BASE_HI (r : Nat) : Nat := 0x1400004 + 0x40 * r
/-- ring configuration (spec/13_host_rings_and_dma.md). -/
def RING_CFG (r : Nat) : Nat := 0x1400008 + 0x40 * r
/-- completion interrupt (spec/13_host_rings_and_dma.md). -/
def RING_CQ (r : Nat) : Nat := 0x140000C + 0x40 * r
/-- ring control (spec/13_host_rings_and_dma.md). -/
def RING_CTL (r : Nat) : Nat := 0x1400010 + 0x40 * r
/-- ring state (spec/13_host_rings_and_dma.md). -/
def RING_STATE (r : Nat) : Nat := 0x1400014 + 0x40 * r
/-- host position (spec/13_host_rings_and_dma.md). -/
def RING_HOST_POS (r : Nat) : Nat := 0x1400018 + 0x40 * r
/-- host window base (spec/13_host_rings_and_dma.md). -/
def RING_HWIN_LO (r : Nat) : Nat := 0x140001C + 0x40 * r
/-- host window base (spec/13_host_rings_and_dma.md). -/
def RING_HWIN_HI (r : Nat) : Nat := 0x1400020 + 0x40 * r
/-- host window size (spec/13_host_rings_and_dma.md). -/
def RING_HWIN_PAGES (r : Nat) : Nat := 0x1400024 + 0x40 * r
/-- device window base (spec/13_host_rings_and_dma.md). -/
def RING_DWIN (r : Nat) : Nat := 0x1400028 + 0x40 * r
/-- device window size (spec/13_host_rings_and_dma.md). -/
def RING_DWIN_SIZE (r : Nat) : Nat := 0x140002C + 0x40 * r
/-- ring counters (spec/13_host_rings_and_dma.md). -/
def RING_COUNT (r : Nat) : Nat := 0x1400030 + 0x40 * r
/-- DMA configuration (spec/13_host_rings_and_dma.md). -/
def DMA_CFG : Nat := 0x1800000
/-- host port status (spec/13_host_rings_and_dma.md). -/
def DMA_PCIE_STATUS : Nat := 0x1800004
/-- DMA counters (spec/13_host_rings_and_dma.md). -/
def DMA_COUNT (n : Nat) : Nat := 0x1800010 + 0x4 * n
/-- channel rate (spec/13_host_rings_and_dma.md). -/
def DMA_CH_CFG (c : Nat) : Nat := 0x1800100 + 0x10 * c
/-- channel control (spec/13_host_rings_and_dma.md). -/
def DMA_CH_CTL (c : Nat) : Nat := 0x1800104 + 0x10 * c
/-- channel status (spec/13_host_rings_and_dma.md). -/
def DMA_CH_STATUS (c : Nat) : Nat := 0x1800108 + 0x10 * c
/-- residue of the last abort (spec/13_host_rings_and_dma.md). -/
def DMA_CH_RESIDUE (c : Nat) : Nat := 0x180010C + 0x10 * c
/-- memory controller configuration (spec/14_memory_and_interconnect.md). -/
def HBM_CFG : Nat := 0x1A00000
/-- memory controller status (spec/14_memory_and_interconnect.md). -/
def HBM_STATUS : Nat := 0x1A00004
/-- stack state (spec/14_memory_and_interconnect.md). -/
def HBM_STACK (s : Nat) : Nat := 0x1A00010 + 0x4 * s
/-- port latency target (spec/14_memory_and_interconnect.md). -/
def HBM_PORT_LT (n : Nat) : Nat := 0x1A00040 + 0x4 * n
/-- port largest latency (spec/14_memory_and_interconnect.md). -/
def HBM_PORT_MAXLAT (n : Nat) : Nat := 0x1A00060 + 0x4 * n
/-- port requests at level 3 (spec/14_memory_and_interconnect.md). -/
def HBM_PORT_LATE (n : Nat) : Nat := 0x1A00080 + 0x4 * n
/-- memory counters (spec/14_memory_and_interconnect.md). -/
def HBM_COUNT (n : Nat) : Nat := 0x1A00100 + 0x4 * n
/-- last uncorrectable error (spec/14_memory_and_interconnect.md). -/
def HBM_UE_INFO : Nat := 0x1A00200
/-- last uncorrectable address (spec/14_memory_and_interconnect.md). -/
def HBM_UE_ADDR_LO : Nat := 0x1A00204
/-- last uncorrectable address (spec/14_memory_and_interconnect.md). -/
def HBM_UE_ADDR_HI : Nat := 0x1A00208
/-- master port reset (spec/14_memory_and_interconnect.md). -/
def XBAR_MRST : Nat := 0x1C00000
/-- housekeeping HBM window (spec/14_memory_and_interconnect.md). -/
def XBAR_HKC_WIN : Nat := 0x1C00004
/-- matrix counters (spec/14_memory_and_interconnect.md). -/
def XBAR_COUNT (n : Nat) : Nat := 0x1C00010 + 0x4 * n
/-- master error record (spec/14_memory_and_interconnect.md). -/
def XBAR_ERR_INFO (m : Nat) : Nat := 0x1C00100 + 0x10 * m
/-- master error address (spec/14_memory_and_interconnect.md). -/
def XBAR_ERR_ADDR_LO (m : Nat) : Nat := 0x1C00104 + 0x10 * m
/-- master error address (spec/14_memory_and_interconnect.md). -/
def XBAR_ERR_ADDR_HI (m : Nat) : Nat := 0x1C00108 + 0x10 * m
/-- island control (spec/15_reference_and_clocks.md). -/
def REF_CTL : Nat := 0x1D00000
/-- loop configuration (spec/15_reference_and_clocks.md). -/
def REF_CFG : Nat := 0x1D00004
/-- loop status (spec/15_reference_and_clocks.md). -/
def REF_STATUS : Nat := 0x1D00008
/-- monitoring (spec/15_reference_and_clocks.md). -/
def REF_MON : Nat := 0x1D0000C
/-- window before a valid history (spec/15_reference_and_clocks.md). -/
def REF_ACQ : Nat := 0x1D00010
/-- holdover history (spec/15_reference_and_clocks.md). -/
def REF_HIST : Nat := 0x1D00014
/-- initial history (spec/15_reference_and_clocks.md). -/
def REF_HIST_INIT : Nat := 0x1D00018
/-- loop correction (spec/15_reference_and_clocks.md). -/
def REF_FREQ : Nat := 0x1D0001C
/-- phase error (spec/15_reference_and_clocks.md). -/
def REF_PHASE : Nat := 0x1D00020
/-- accumulated build-out (spec/15_reference_and_clocks.md). -/
def REF_BUILDOUT_LO : Nat := 0x1D00024
/-- accumulated build-out (spec/15_reference_and_clocks.md). -/
def REF_BUILDOUT_HI : Nat := 0x1D00028
/-- pull range (spec/15_reference_and_clocks.md). -/
def REF_LIMIT : Nat := 0x1D0002C
/-- holdover limits (spec/15_reference_and_clocks.md). -/
def REF_HO : Nat := 0x1D00030
/-- holdover ageing (spec/15_reference_and_clocks.md). -/
def REF_AGE : Nat := 0x1D00034
/-- OCXO steering gain (spec/15_reference_and_clocks.md). -/
def REF_EFC : Nat := 0x1D00038
/-- pulse widths (spec/15_reference_and_clocks.md). -/
def REF_PULSE : Nat := 0x1D0003C
/-- frame period (spec/15_reference_and_clocks.md). -/
def REF_SYNC : Nat := 0x1D00040
/-- pulse offset (spec/15_reference_and_clocks.md). -/
def REF_PULSE_OFS : Nat := 0x1D00044
/-- pulse fine offset (spec/15_reference_and_clocks.md). -/
def REF_PULSE_FINE : Nat := 0x1D00048
/-- Balran reference link (spec/15_reference_and_clocks.md). -/
def REF_BALRAN : Nat := 0x1D0004C
/-- reference configuration (spec/15_reference_and_clocks.md). -/
def REF_IN_CFG (r : Nat) : Nat := 0x1D00100 + 0x20 * r
/-- reference windows (spec/15_reference_and_clocks.md). -/
def REF_IN_WIN (r : Nat) : Nat := 0x1D00104 + 0x20 * r
/-- drift-rate limit (spec/15_reference_and_clocks.md). -/
def REF_IN_RATE (r : Nat) : Nat := 0x1D00108 + 0x20 * r
/-- reference status (spec/15_reference_and_clocks.md). -/
def REF_IN_STATUS (r : Nat) : Nat := 0x1D0010C + 0x20 * r
/-- reference offset (spec/15_reference_and_clocks.md). -/
def REF_IN_OFFSET (r : Nat) : Nat := 0x1D00110 + 0x20 * r
/-- clock output (spec/15_reference_and_clocks.md). -/
def REF_OUT_CFG (o : Nat) : Nat := 0x1D00200 + 0x4 * o
/-- reference counters (spec/15_reference_and_clocks.md). -/
def REF_COUNT (n : Nat) : Nat := 0x1D00300 + 0x4 * n
/-- servo control (spec/16_time_and_almanac.md). -/
def TIME_CTL : Nat := 0x1E00000
/-- servo configuration (spec/16_time_and_almanac.md). -/
def TIME_CFG : Nat := 0x1E00004
/-- increment (spec/16_time_and_almanac.md). -/
def TIME_INC : Nat := 0x1E00008
/-- increment fraction (spec/16_time_and_almanac.md). -/
def TIME_INC_FRAC : Nat := 0x1E0000C
/-- servo output (spec/16_time_and_almanac.md). -/
def TIME_ADJ : Nat := 0x1E00010
/-- servo limits (spec/16_time_and_almanac.md). -/
def TIME_LIMITS : Nat := 0x1E00014
/-- jump threshold (spec/16_time_and_almanac.md). -/
def TIME_JUMP : Nat := 0x1E00018
/-- pulse input offset (spec/16_time_and_almanac.md). -/
def TIME_PPS_OFS : Nat := 0x1E0001C
/-- management port latencies (spec/16_time_and_almanac.md). -/
def TIME_PTP_LAT : Nat := 0x1E00020
/-- time status (spec/16_time_and_almanac.md). -/
def TIME_STATUS : Nat := 0x1E00024
/-- last offset (spec/16_time_and_almanac.md). -/
def TIME_OFFSET_LAST : Nat := 0x1E00028
/-- counter (spec/16_time_and_almanac.md). -/
def TIME_NOW_NS : Nat := 0x1E0002C
/-- counter (spec/16_time_and_almanac.md). -/
def TIME_NOW_SEC_LO : Nat := 0x1E00030
/-- counter (spec/16_time_and_almanac.md). -/
def TIME_NOW_SEC_HI : Nat := 0x1E00034
/-- capture records (spec/16_time_and_almanac.md). -/
def TIME_CAP : Nat := 0x1E00038
/-- TIME_EVT pin (spec/16_time_and_almanac.md). -/
def TIME_EVT_CFG (p : Nat) : Nat := 0x1E00040 + 0x4 * p
/-- time counters (spec/16_time_and_almanac.md). -/
def TIME_COUNT (n : Nat) : Nat := 0x1E00100 + 0x4 * n
/-- almanac records (spec/16_time_and_almanac.md). -/
def ALM_CFG : Nat := 0x1F00000
/-- almanac status (spec/16_time_and_almanac.md). -/
def ALM_STATUS : Nat := 0x1F00004
/-- firing number (spec/16_time_and_almanac.md). -/
def ALM_FIRE_SEQ : Nat := 0x1F00008
/-- almanac counters (spec/16_time_and_almanac.md). -/
def ALM_COUNT (n : Nat) : Nat := 0x1F00100 + 0x4 * n
/-- entry state (spec/16_time_and_almanac.md). -/
def ALM_STATE (e : Nat) : Nat := 0x1F00800 + 0x4 * e
/-- entry image (spec/16_time_and_almanac.md). -/
def ALM_ENTRY (e w : Nat) : Nat := 0x1F01000 + 0x80 * e + 0x4 * w
/-- converter configuration (spec/17_housekeeping_analog.md). -/
def ADC_CFG : Nat := 0x2000000
/-- regular lap period (spec/17_housekeeping_analog.md). -/
def ADC_REG_PERIOD : Nat := 0x2000004
/-- result ring (spec/17_housekeeping_analog.md). -/
def ADC_RING : Nat := 0x2000008
/-- single conversion (spec/17_housekeeping_analog.md). -/
def ADC_SINGLE : Nat := 0x200000C
/-- converter status (spec/17_housekeeping_analog.md). -/
def ADC_STATUS : Nat := 0x2000010
/-- queue head (spec/17_housekeeping_analog.md). -/
def ADC_QUEUE_ENTRY : Nat := 0x2000014
/-- queue head time (spec/17_housekeeping_analog.md). -/
def ADC_QUEUE_TIME : Nat := 0x2000018
/-- thermal thresholds (spec/17_housekeeping_analog.md). -/
def ADC_THERM : Nat := 0x2000020
/-- converter counters (spec/17_housekeeping_analog.md). -/
def ADC_COUNT (n : Nat) : Nat := 0x2000100 + 0x4 * n
/-- die temperature (spec/17_housekeeping_analog.md). -/
def ADC_TEMP (t : Nat) : Nat := 0x2000200 + 0x4 * t
/-- regular entry (spec/17_housekeeping_analog.md). -/
def ADC_REG_SEQ (e : Nat) : Nat := 0x2000400 + 0x4 * e
/-- injected entry (spec/17_housekeeping_analog.md). -/
def ADC_INJ_SEQ (e : Nat) : Nat := 0x2000480 + 0x4 * e
/-- DAC configuration (spec/17_housekeeping_analog.md). -/
def DAC_CFG : Nat := 0x2100000
/-- load strobe (spec/17_housekeeping_analog.md). -/
def DAC_CTL : Nat := 0x2100004
/-- DAC status (spec/17_housekeeping_analog.md). -/
def DAC_STATUS : Nat := 0x2100008
/-- DAC counters (spec/17_housekeeping_analog.md). -/
def DAC_COUNT (n : Nat) : Nat := 0x2100020 + 0x4 * n
/-- channel state (spec/17_housekeeping_analog.md). -/
def DAC_CH_CFG (c : Nat) : Nat := 0x2100100 + 0x10 * c
/-- channel slew (spec/17_housekeeping_analog.md). -/
def DAC_CH_SLEW (c : Nat) : Nat := 0x2100104 + 0x10 * c
/-- channel output (spec/17_housekeeping_analog.md). -/
def DAC_CH_CODE (c : Nat) : Nat := 0x2100108 + 0x10 * c
/-- pending code (spec/17_housekeeping_analog.md). -/
def DAC_CH_PEND (c : Nat) : Nat := 0x210010C + 0x10 * c
/-- event routing (spec/18_integrity_and_events.md). -/
def EVT_CFG : Nat := 0x100000
/-- event store (spec/18_integrity_and_events.md). -/
def EVT_STATUS : Nat := 0x100004
/-- test occurrence (spec/18_integrity_and_events.md). -/
def EVT_RAISE : Nat := 0x100008
/-- wedged function (spec/18_integrity_and_events.md). -/
def EVT_WEDGE : Nat := 0x10000C
/-- event queue (spec/18_integrity_and_events.md). -/
def EVT_Q_CFG (q : Nat) : Nat := 0x100040 + 0x4 * q
/-- queue counters (spec/18_integrity_and_events.md). -/
def EVT_Q_COUNT (q n : Nat) : Nat := 0x100060 + 0x8 * q + 0x4 * n
/-- source routing (spec/18_integrity_and_events.md). -/
def EVT_SRC_CFG (e : Nat) : Nat := 0x101000 + 0x4 * e
/-- source occurrences (spec/18_integrity_and_events.md). -/
def EVT_SRC_CNT (e : Nat) : Nat := 0x104000 + 0x4 * e
/-- scan status (spec/18_integrity_and_events.md). -/
def CRC_STATUS : Nat := 0x2200000
/-- scan counters (spec/18_integrity_and_events.md). -/
def CRC_COUNT (n : Nat) : Nat := 0x2200100 + 0x4 * n
/-- twin configuration (spec/19_twin_and_weave.md). -/
def TWIN_CFG : Nat := 0x2300000
/-- twin status (spec/19_twin_and_weave.md). -/
def TWIN_STATUS : Nat := 0x2300004
/-- class 0 retention region (spec/19_twin_and_weave.md). -/
def TWIN_RETAIN : Nat := 0x2300008
/-- retention size (spec/19_twin_and_weave.md). -/
def TWIN_RETAIN_SIZE : Nat := 0x230000C
/-- last state copy (spec/19_twin_and_weave.md). -/
def TWIN_CYCLE : Nat := 0x2300010
/-- twin counters (spec/19_twin_and_weave.md). -/
def TWIN_COUNT (n : Nat) : Nat := 0x2300100 + 0x4 * n
/-- weave configuration (spec/19_twin_and_weave.md). -/
def WEAVE_CFG : Nat := 0x2400000
/-- weave status (spec/19_twin_and_weave.md). -/
def WEAVE_STATUS : Nat := 0x2400004
/-- configuration digest (spec/19_twin_and_weave.md). -/
def WEAVE_DIGEST_LO : Nat := 0x2400008
/-- configuration digest (spec/19_twin_and_weave.md). -/
def WEAVE_DIGEST_HI : Nat := 0x240000C
/-- link asymmetry (spec/19_twin_and_weave.md). -/
def WEAVE_ASYM : Nat := 0x2400010
/-- measured delay (spec/19_twin_and_weave.md). -/
def WEAVE_PEER_DELAY (j : Nat) : Nat := 0x2400020 + 0x4 * j
/-- weave counters (spec/19_twin_and_weave.md). -/
def WEAVE_COUNT (n : Nat) : Nat := 0x2400100 + 0x4 * n
/-- device control (spec/22_register_map.md). -/
def GLB_CTL : Nat := 0x0
/-- device status (spec/22_register_map.md). -/
def GLB_STATUS : Nat := 0x4
/-- housekeeping remap (spec/22_register_map.md). -/
def GLB_REMAP : Nat := 0xC
/-- reset retention (spec/22_register_map.md). -/
def GLB_RESET_KEEP : Nat := 0x10
/-- operating profile (spec/22_register_map.md). -/
def GLB_PROFILE : Nat := 0x14
/-- compatibility (spec/22_register_map.md). -/
def GLB_COMPAT : Nat := 0x18
/-- sampled straps (spec/22_register_map.md). -/
def GLB_STRAP : Nat := 0x1C
/-- commit result (spec/22_register_map.md). -/
def GLB_COMMIT_ERR : Nat := 0x20
/-- boot failures (spec/22_register_map.md). -/
def GLB_BOOT_ERR : Nat := 0x24
/-- boot result (spec/22_register_map.md). -/
def GLB_BOOT_INFO : Nat := 0x28
/-- host image address (spec/22_register_map.md). -/
def GLB_BOOT_ADDR_LO : Nat := 0x2C
/-- host image address (spec/22_register_map.md). -/
def GLB_BOOT_ADDR_HI : Nat := 0x30
/-- host image length (spec/22_register_map.md). -/
def GLB_BOOT_LEN : Nat := 0x34
/-- host boot (spec/22_register_map.md). -/
def GLB_BOOT_CTL : Nat := 0x38
/-- island reset (spec/22_register_map.md). -/
def GLB_ISLAND_RST : Nat := 0x3C
/-- general-purpose pins GPIO0–7 (spec/22_register_map.md). -/
def GLB_GPIO : Nat := 0x40
/-- device counters (spec/22_register_map.md). -/
def GLB_COUNT (n : Nat) : Nat := 0x100 + 0x4 * n
/-- Balran frame counters (spec/22_register_map.md). -/
def LANE_LINK_COUNT (K n : Nat) : Nat := 0x220010 + 0x100 * K + 0x4 * n
/-- voltage scaling loop (spec/22_register_map.md). -/
def AVS_CFG : Nat := 0x2500000
/-- loop status (spec/22_register_map.md). -/
def AVS_STATUS : Nat := 0x2500004
/-- rail state (spec/22_register_map.md). -/
def AVS_RAIL (a : Nat) : Nat := 0x2500100 + 0x4 * a
/-- loop counters (spec/22_register_map.md). -/
def AVS_COUNT (n : Nat) : Nat := 0x2500200 + 0x4 * n
/-- housekeeping status (spec/22_register_map.md). -/
def HKC_STATUS : Nat := 0x2600000
/-- fuse state (spec/22_register_map.md). -/
def FUSE_STATUS : Nat := 0x2800000
/-- serial number (spec/22_register_map.md). -/
def FUSE_SERIAL_LO : Nat := 0x2800004
/-- serial number (spec/22_register_map.md). -/
def FUSE_SERIAL_HI : Nat := 0x2800008
/-- fused owner hash (spec/22_register_map.md). -/
def FUSE_OWNER_HASH (w : Nat) : Nat := 0x2800010 + 0x4 * w
/-- hash to program (spec/22_register_map.md). -/
def FUSE_PROG_DATA (w : Nat) : Nat := 0x2800040 + 0x4 * w
/-- fuse programming (spec/22_register_map.md). -/
def FUSE_PROG_CTL : Nat := 0x2800080
/-- debug lock (spec/22_register_map.md). -/
def DBG_LOCK : Nat := 0x2700000
/-- challenge (spec/22_register_map.md). -/
def DBG_CHALLENGE (w : Nat) : Nat := 0x2700010 + 0x4 * w
/-- response (spec/22_register_map.md). -/
def DBG_RESPONSE (w : Nat) : Nat := 0x2700040 + 0x4 * w
/-- observation select (spec/22_register_map.md). -/
def DBG_OBS_SEL (o : Nat) : Nat := 0x2700100 + 0x4 * o
/-- analog test select (spec/22_register_map.md). -/
def DBG_ATB_SEL (t : Nat) : Nat := 0x2700180 + 0x4 * t

end Reg

namespace Fld

def LANE_CFG_RATE : Fld := ⟨0, 2⟩
def LANE_CFG_TX_EN : Fld := ⟨2, 1⟩
def LANE_CFG_RX_EN : Fld := ⟨3, 1⟩
def LANE_CFG_TEST : Fld := ⟨4, 2⟩
def LANE_CFG_TX_PRE : Fld := ⟨8, 4⟩
def LANE_CFG_TX_POST : Fld := ⟨12, 6⟩
def LANE_EQ_CTLE : Fld := ⟨0, 4⟩
def LANE_EQ_DFE1 : Fld := ⟨4, 7⟩
def LANE_EQ_DFE2 : Fld := ⟨11, 6⟩
def LANE_EQ_DFE3 : Fld := ⟨17, 5⟩
def LANE_EQ_FREEZE : Fld := ⟨30, 1⟩
def LANE_EQ_FREEZE_ACK : Fld := ⟨31, 1⟩
def LANE_STATUS_STATE : Fld := ⟨0, 3⟩
def LANE_STATUS_CDR_LOCK : Fld := ⟨3, 1⟩
def LANE_STATUS_MARKER_LOCK : Fld := ⟨4, 1⟩
def LANE_STATUS_RX_INVERTED : Fld := ⟨5, 1⟩
def LANE_STATUS_MARKER_LANE : Fld := ⟨6, 4⟩
def LANE_STATUS_EYE_HEIGHT : Fld := ⟨16, 8⟩
def LANE_STATUS_EYE_WIDTH : Fld := ⟨24, 8⟩
def LANE_EYE_CTL_START : Fld := ⟨0, 1⟩
def LANE_EYE_CTL_EYE : Fld := ⟨1, 2⟩
def LANE_EYE_CTL_H_OFFSET : Fld := ⟨3, 7⟩
def LANE_EYE_CTL_V_OFFSET : Fld := ⟨10, 7⟩
def LANE_EYE_CTL_DWELL : Fld := ⟨17, 5⟩
def LANE_EYE_RESULT_DONE : Fld := ⟨0, 1⟩
def LANE_EYE_RESULT_ABORTED : Fld := ⟨1, 1⟩
def LANE_EYE_RESULT_ERRORS : Fld := ⟨8, 24⟩
def LANE_FEC_CORR_COUNT : Fld := ⟨0, 32⟩
def LANE_FEC_UNCORR_COUNT : Fld := ⟨0, 32⟩
def LANE_LINK_CFG_ENABLE : Fld := ⟨0, 1⟩
def LANE_LINK_CFG_PROFILE : Fld := ⟨1, 2⟩
def LANE_LINK_CFG_WIDTH : Fld := ⟨3, 5⟩
def LANE_LINK_CFG_REVERSE_OK : Fld := ⟨8, 1⟩
def LANE_LINK_CFG_FAST_EXIT : Fld := ⟨9, 1⟩
def LANE_LINK_CFG_WINDOW : Fld := ⟨10, 10⟩
def LANE_LINK_CFG_LINK_ID : Fld := ⟨20, 12⟩
def LANE_LINK_STATUS_STATE : Fld := ⟨0, 3⟩
def LANE_LINK_STATUS_REVERSED : Fld := ⟨3, 1⟩
def LANE_LINK_STATUS_PEER_LINK_ID : Fld := ⟨4, 12⟩
def LANE_LINK_STATUS_SKEW_UI : Fld := ⟨16, 12⟩
def LANE_LINK_RETRY_REPLAYS : Fld := ⟨0, 16⟩
def LANE_LINK_RETRY_NAKS : Fld := ⟨16, 16⟩
def LANE_LINK_TIMER_REPLAY_TIMEOUT : Fld := ⟨0, 16⟩
def LANE_LINK_TIMER_RETRY_LIMIT : Fld := ⟨16, 4⟩
def INGEST_CTL_ENABLE : Fld := ⟨0, 1⟩
def INGEST_CTL_GLEAN_BRANCH : Fld := ⟨1, 1⟩
def INGEST_CTL_CORR_BRANCH : Fld := ⟨2, 1⟩
def INGEST_CTL_BEAM_BRANCH : Fld := ⟨3, 1⟩
def INGEST_CTL_WIDTH8 : Fld := ⟨4, 1⟩
def INGEST_GEOM_N : Fld := ⟨0, 15⟩
def INGEST_GEOM_C : Fld := ⟨16, 13⟩
def INGEST_RATE_B_HZ : Fld := ⟨0, 32⟩
def INGEST_ALIGN_WAIT : Fld := ⟨0, 12⟩
def INGEST_ALIGN_DEAD_COUNT : Fld := ⟨16, 8⟩
def INGEST_RESERVE_CORR_MIB : Fld := ⟨0, 4⟩
def INGEST_RESERVE_GLEAN_MIB : Fld := ⟨4, 4⟩
def INGEST_START_LO_START : Fld := ⟨0, 32⟩
def INGEST_START_HI_START : Fld := ⟨0, 24⟩
def INGEST_EPOCH_NS_NS : Fld := ⟨0, 32⟩
def INGEST_EPOCH_SEC_LO_SEC : Fld := ⟨0, 32⟩
def INGEST_EPOCH_SEC_HI_SEC : Fld := ⟨0, 16⟩
def INGEST_EPOCH_SEC_HI_FRAC_NS : Fld := ⟨16, 16⟩
def INGEST_STATUS_RUNNING : Fld := ⟨0, 1⟩
def INGEST_STATUS_ANY_ABSENT : Fld := ⟨1, 1⟩
def INGEST_STORE_PENDING_KIB : Fld := ⟨0, 16⟩
def INGEST_STORE_PEAK_KIB : Fld := ⟨16, 16⟩
def INGEST_SKEW_PEAK : Fld := ⟨0, 16⟩
def INGEST_COUNT_COUNT : Fld := ⟨0, 32⟩
def STREAM_CFG_ENABLE : Fld := ⟨0, 1⟩
def STREAM_CFG_LINK : Fld := ⟨1, 6⟩
def STREAM_CFG_FMT8 : Fld := ⟨7, 1⟩
def STREAM_CFG_SYMMETRIC : Fld := ⟨8, 1⟩
def STREAM_CFG_SS : Fld := ⟨9, 7⟩
def STREAM_INPUTS_FIRST : Fld := ⟨0, 14⟩
def STREAM_INPUTS_COUNT : Fld := ⟨14, 14⟩
def STREAM_CHANNELS_FIRST : Fld := ⟨0, 12⟩
def STREAM_CHANNELS_COUNT : Fld := ⟨12, 13⟩
def STREAM_SLICE_SI : Fld := ⟨0, 13⟩
def STREAM_SLICE_SC : Fld := ⟨13, 13⟩
def STREAM_STATUS_ABSENT : Fld := ⟨0, 1⟩
def STREAM_STATUS_SEEN : Fld := ⟨1, 1⟩
def INGEST_INPUT_MASK_MASK : Fld := ⟨0, 32⟩
def INGEST_RQ_GAIN_GAIN_EVEN : Fld := ⟨0, 16⟩
def INGEST_RQ_GAIN_GAIN_ODD : Fld := ⟨16, 16⟩
def HARROW_CFG_ENABLE : Fld := ⟨0, 1⟩
def HARROW_CFG_TAPS : Fld := ⟨1, 2⟩
def HARROW_CFG_LOG2M : Fld := ⟨3, 4⟩
def HARROW_CFG_PROTO : Fld := ⟨7, 1⟩
def HARROW_CFG_SYMMETRIC : Fld := ⟨8, 1⟩
def HARROW_CFG_SETTLE_CORR : Fld := ⟨9, 1⟩
def HARROW_CFG_SHIFT : Fld := ⟨10, 4⟩
def HARROW_STATUS_RUNNING : Fld := ⟨0, 1⟩
def HARROW_STATUS_SETTLING_ANY : Fld := ⟨1, 1⟩
def HARROW_POWER_LEN : Fld := ⟨0, 16⟩
def HARROW_POWER_RING : Fld := ⟨16, 14⟩
def HARROW_DC_SEL_SLOT : Fld := ⟨0, 6⟩
def HARROW_DC_SEL_INPUT : Fld := ⟨6, 13⟩
def HARROW_DC_RE_EST : Fld := ⟨0, 32⟩
def HARROW_DC_IM_EST : Fld := ⟨0, 32⟩
def HARROW_COUNT_COUNT : Fld := ⟨0, 32⟩
def HARROW_ZOOM_ENABLE : Fld := ⟨0, 1⟩
def HARROW_ZOOM_COARSE : Fld := ⟨1, 12⟩
def HARROW_ZOOM_KEEP_COARSE : Fld := ⟨13, 1⟩
def HARROW_ZOOM_DC_EN : Fld := ⟨14, 1⟩
def HARROW_ZOOM_DC_FREEZE : Fld := ⟨15, 1⟩
def HARROW_ZOOM_DC_K : Fld := ⟨16, 5⟩
def HARROW_COEF_H : Fld := ⟨0, 18⟩
def HARROW_FGAIN_GF : Fld := ⟨0, 16⟩
def WEED_CFG_ENABLE : Fld := ⟨0, 1⟩
def WEED_CFG_SK_EN : Fld := ⟨1, 1⟩
def WEED_CFG_SHEAF_EN : Fld := ⟨2, 1⟩
def WEED_CFG_BLOCK_INVALID : Fld := ⟨3, 1⟩
def WEED_CFG_CAL_EXEMPT : Fld := ⟨4, 1⟩
def WEED_CFG_LOG2_LEN : Fld := ⟨5, 4⟩
def WEED_CFG_FREEZE : Fld := ⟨9, 1⟩
def WEED_CFG_SPREAD : Fld := ⟨10, 13⟩
def WEED_THRESH_K_HI : Fld := ⟨0, 8⟩
def WEED_THRESH_K_LO : Fld := ⟨8, 8⟩
def WEED_THRESH_K_P : Fld := ⟨16, 8⟩
def WEED_TRACK_M_INIT : Fld := ⟨0, 16⟩
def WEED_TRACK_D_INIT : Fld := ⟨16, 16⟩
def WEED_LIMIT_M_LO : Fld := ⟨0, 16⟩
def WEED_LIMIT_M_HI : Fld := ⟨16, 16⟩
def WEED_STEP_STEP : Fld := ⟨0, 8⟩
def WEED_STEP_PSTEP : Fld := ⟨8, 8⟩
def WEED_STEP_D_MAX : Fld := ⟨16, 16⟩
def WEED_PM_INIT_PM : Fld := ⟨0, 32⟩
def WEED_REPORT_EN : Fld := ⟨0, 1⟩
def WEED_REPORT_RING : Fld := ⟨1, 14⟩
def WEED_PROBE_SEL_CHANNEL : Fld := ⟨0, 12⟩
def WEED_PROBE_SK_M : Fld := ⟨0, 16⟩
def WEED_PROBE_SK_DEV : Fld := ⟨16, 16⟩
def WEED_PROBE_PM_PM : Fld := ⟨0, 32⟩
def WEED_COUNT_COUNT : Fld := ⟨0, 32⟩
def TURN_CFG_ENABLE : Fld := ⟨0, 1⟩
def TURN_CFG_PASSREC_EN : Fld := ⟨1, 1⟩
def TURN_CFG_HEADROOM : Fld := ⟨8, 8⟩
def TURN_CFG_T : Fld := ⟨16, 16⟩
def TURN_BASE_LO_BASE : Fld := ⟨20, 12⟩
def TURN_BASE_HI_BASE : Fld := ⟨0, 8⟩
def TURN_SIZE_MIB : Fld := ⟨0, 18⟩
def TURN_BUDGET_LIMIT : Fld := ⟨0, 10⟩
def TURN_BUDGET_RESERVE : Fld := ⟨16, 16⟩
def TURN_BUDGET_USE_USE : Fld := ⟨0, 12⟩
def TURN_PASSREC_RING : Fld := ⟨0, 14⟩
def TURN_STATUS_RUNNING : Fld := ⟨0, 1⟩
def TURN_STATUS_LAGGING : Fld := ⟨1, 1⟩
def TURN_STATUS_MARGIN : Fld := ⟨16, 16⟩
def TURN_MARGIN_MIN_MIN : Fld := ⟨0, 16⟩
def TURN_COUNT_COUNT : Fld := ⟨0, 32⟩
def CORR_CFG_ENABLE : Fld := ⟨0, 1⟩
def CORR_CFG_WIDTH8 : Fld := ⟨1, 1⟩
def CORR_CFG_THERMAL_EN : Fld := ⟨2, 1⟩
def CORR_STATUS_RUNNING : Fld := ⟨0, 1⟩
def CORR_STATUS_WARM : Fld := ⟨1, 1⟩
def CORR_STATUS_DEGRADED : Fld := ⟨2, 1⟩
def CORR_STATUS_SPARES_LOW : Fld := ⟨3, 1⟩
def CORR_STATUS_ROUNDS : Fld := ⟨4, 4⟩
def CORR_STATUS_K : Fld := ⟨8, 8⟩
def CORR_STATUS_LISTED : Fld := ⟨16, 9⟩
def CORR_CAPACITY_SHEAF_KHZ : Fld := ⟨0, 24⟩
def CORR_RECOMP_LIMIT_US : Fld := ⟨0, 16⟩
def CORR_GOV_STAGE : Fld := ⟨0, 4⟩
def CORR_GOV_INTERVAL : Fld := ⟨4, 10⟩
def CORR_GOV_HOLD_US : Fld := ⟨14, 16⟩
def CORR_GOV_STATUS_ACTIVE : Fld := ⟨0, 9⟩
def CORR_PLACE_FREEZE : Fld := ⟨0, 1⟩
def CORR_PLACE_FREEZE_ACK : Fld := ⟨1, 1⟩
def CORR_PLACE_HOT_C : Fld := ⟨2, 8⟩
def CORR_TILE_SEL_TILE : Fld := ⟨0, 16⟩
def CORR_TILE_WHERE_FIELD : Fld := ⟨0, 2⟩
def CORR_TILE_WHERE_FURROW : Fld := ⟨2, 7⟩
def CORR_TILE_WHERE_BANK : Fld := ⟨9, 3⟩
def CORR_TILE_WHERE_ROUND : Fld := ⟨12, 4⟩
def CORR_TILE_WHERE_HELD : Fld := ⟨16, 1⟩
def CORR_RETIRE_MASK_MASK : Fld := ⟨0, 32⟩
def CORR_COUNT_COUNT : Fld := ⟨0, 32⟩
def CORR_FURROW_STATE : Fld := ⟨0, 3⟩
def CORR_FURROW_CAUSE : Fld := ⟨3, 3⟩
def CORR_FURROW_POSITION : Fld := ⟨6, 9⟩
def CORR_FURROW_WARM : Fld := ⟨15, 1⟩
def CORR_FURROW_ERRORS : Fld := ⟨16, 8⟩
def GRAN_CFG_ENABLE : Fld := ⟨0, 1⟩
def GRAN_CFG_HOLD_US : Fld := ⟨1, 16⟩
def GRAN_STATUS_RUNNING : Fld := ⟨0, 1⟩
def GRAN_STATUS_STRETCHING : Fld := ⟨1, 8⟩
def GRAN_STATUS_HOLDING : Fld := ⟨9, 8⟩
def GRAN_BASE_LO_BASE : Fld := ⟨20, 12⟩
def GRAN_BASE_HI_BASE : Fld := ⟨0, 8⟩
def GRAN_SIZE_MIB : Fld := ⟨0, 18⟩
def GRAN_GRP_CFG_ENABLE : Fld := ⟨0, 1⟩
def GRAN_GRP_CFG_DEEP : Fld := ⟨1, 1⟩
def GRAN_GRP_CFG_FLOAT : Fld := ⟨2, 1⟩
def GRAN_GRP_CFG_BALER : Fld := ⟨3, 1⟩
def GRAN_GRP_CFG_DEST_RING : Fld := ⟨4, 1⟩
def GRAN_GRP_CFG_PASSES : Fld := ⟨16, 16⟩
def GRAN_GRP_CHAN_FIRST : Fld := ⟨0, 12⟩
def GRAN_GRP_CHAN_COUNT : Fld := ⟨12, 13⟩
def GRAN_GRP_DEST_DEST : Fld := ⟨0, 14⟩
def GRAN_GRP_START_NS_NS : Fld := ⟨0, 32⟩
def GRAN_GRP_START_SEC_LO_SEC : Fld := ⟨0, 32⟩
def GRAN_GRP_START_SEC_HI_SEC : Fld := ⟨0, 16⟩
def GRAN_GRP_START_SEC_HI_FRAC_NS : Fld := ⟨16, 16⟩
def GRAN_GRP_STATE_STATE : Fld := ⟨0, 2⟩
def GRAN_GRP_STATE_FILL_BANK : Fld := ⟨2, 1⟩
def GRAN_GRP_STATE_DRAIN : Fld := ⟨3, 2⟩
def GRAN_GRP_STATE_STRETCH : Fld := ⟨5, 1⟩
def GRAN_GRP_STATE_EPOCH : Fld := ⟨16, 16⟩
def GRAN_GRP_SEQ_SEQ : Fld := ⟨0, 32⟩
def GRAN_GRP_PASSES_PASSES : Fld := ⟨0, 32⟩
def GRAN_GRP_COUNT_COUNT : Fld := ⟨0, 32⟩
def BEAM_CFG_ENABLE : Fld := ⟨0, 1⟩
def BEAM_CFG_DEPTH : Fld := ⟨1, 2⟩
def BEAM_CFG_BLOCK_EN : Fld := ⟨3, 16⟩
def BEAM_STATUS_RUNNING : Fld := ⟨0, 1⟩
def BEAM_STATUS_FADING : Fld := ⟨1, 16⟩
def BEAM_CAPACITY_SHEAF_KHZ : Fld := ⟨0, 24⟩
def BEAM_LAT_BOUND_NS : Fld := ⟨0, 11⟩
def BEAM_LAT_BOUND_VALID : Fld := ⟨11, 1⟩
def BEAM_FRAME_SPF : Fld := ⟨0, 7⟩
def BEAM_FRAME_DPF : Fld := ⟨7, 7⟩
def BEAM_WEAVE_WAIT_NS : Fld := ⟨0, 11⟩
def BEAM_DET_MODE : Fld := ⟨0, 2⟩
def BEAM_DET_DSHIFT : Fld := ⟨2, 5⟩
def BEAM_DET_PSHIFT : Fld := ⟨7, 5⟩
def BEAM_DET_DINT : Fld := ⟨12, 16⟩
def BEAM_DET_SETTLE_DET : Fld := ⟨28, 1⟩
def BEAM_OUT_TRIG_STREAM : Fld := ⟨0, 12⟩
def BEAM_OUT_REPORT : Fld := ⟨12, 14⟩
def BEAM_OUT_REPORT_RING : Fld := ⟨26, 1⟩
def BEAM_PEAK_CFG_EN : Fld := ⟨0, 1⟩
def BEAM_PEAK_CFG_LO_EN : Fld := ⟨1, 1⟩
def BEAM_PEAK_CFG_FREEZE : Fld := ⟨2, 1⟩
def BEAM_PEAK_CFG_HOLDOFF : Fld := ⟨3, 16⟩
def BEAM_PEAK_SPAN_SPAN : Fld := ⟨0, 32⟩
def BEAM_PEAK_HI_HI : Fld := ⟨0, 32⟩
def BEAM_PEAK_LO_LO : Fld := ⟨0, 32⟩
def BEAM_COUNT_COUNT : Fld := ⟨0, 32⟩
def BEAM_BLOCK_SHIFT : Fld := ⟨0, 5⟩
def BEAM_BANK_ACTIVE : Fld := ⟨0, 1⟩
def BEAM_BANK_FADING : Fld := ⟨1, 1⟩
def BEAM_BANK_QUEUED : Fld := ⟨2, 1⟩
def BEAM_BANK_LEFT : Fld := ⟨3, 16⟩
def BEAM_DEST_VSTREAM : Fld := ⟨0, 12⟩
def BEAM_DEST_V_EN : Fld := ⟨12, 1⟩
def BEAM_DEST_DDEST : Fld := ⟨13, 14⟩
def BEAM_DEST_D_RING : Fld := ⟨27, 1⟩
def BEAM_DEST_D_EN : Fld := ⟨28, 1⟩
def BEAM_SEL_SEL : Fld := ⟨0, 32⟩
def BEAM_CHFREQ_F : Fld := ⟨0, 32⟩
def GLEAN_CFG_ENABLE : Fld := ⟨0, 1⟩
def GLEAN_CFG_WIDTH8 : Fld := ⟨1, 1⟩
def GLEAN_CFG_AUTO_RESUME : Fld := ⟨2, 1⟩
def GLEAN_CFG_NOTIFY : Fld := ⟨3, 1⟩
def GLEAN_CFG_TRIG : Fld := ⟨4, 7⟩
def GLEAN_INPUTS_FIRST : Fld := ⟨0, 7⟩
def GLEAN_INPUTS_COUNT : Fld := ⟨14, 7⟩
def GLEAN_BASE_LO_BASE : Fld := ⟨20, 12⟩
def GLEAN_BASE_HI_BASE : Fld := ⟨0, 8⟩
def GLEAN_MAXSLOTS_SLOTS : Fld := ⟨0, 32⟩
def GLEAN_LEN_SLOTS : Fld := ⟨0, 32⟩
def GLEAN_LEN_SHADOW_SLOTS : Fld := ⟨0, 32⟩
def GLEAN_WIN_PRE : Fld := ⟨0, 16⟩
def GLEAN_WIN_POST : Fld := ⟨16, 16⟩
def GLEAN_STATUS_STATE : Fld := ⟨0, 2⟩
def GLEAN_STATUS_PENDING : Fld := ⟨2, 1⟩
def GLEAN_STATUS_LEN_BAD : Fld := ⟨3, 1⟩
def GLEAN_STATUS_DUMPING : Fld := ⟨4, 1⟩
def GLEAN_WPTR_SLOT : Fld := ⟨0, 32⟩
def GLEAN_SIZE_MIB : Fld := ⟨0, 18⟩
def GLEAN_NOTIFY_RING : Fld := ⟨0, 14⟩
def GLEAN_COUNT_COUNT : Fld := ⟨0, 32⟩
def GLEAN_SEL_SEL : Fld := ⟨0, 32⟩
def BALER_CFG_ENABLE : Fld := ⟨0, 1⟩
def BALER_CFG_RESTART : Fld := ⟨1, 13⟩
def BALER_CFG_FAIL_LIMIT : Fld := ⟨14, 16⟩
def BALER_STATUS_RUNNING : Fld := ⟨0, 1⟩
def BALER_STATUS_DEGRADED : Fld := ⟨1, 8⟩
def BALER_COUNT_COUNT : Fld := ⟨0, 32⟩
def ETH_CFG_ENABLE : Fld := ⟨0, 1⟩
def ETH_CFG_SPLIT : Fld := ⟨1, 8⟩
def ETH_STATUS_PORT_UP : Fld := ⟨0, 16⟩
def ETH_STATUS_MGMT_UP : Fld := ⟨16, 1⟩
def ETH_MGMT_RATE : Fld := ⟨0, 1⟩
def ETH_MGMT_FEC : Fld := ⟨1, 2⟩
def ETH_MGMT_RINGS_TX_RING : Fld := ⟨0, 14⟩
def ETH_MGMT_RINGS_RX_RING : Fld := ⟨14, 14⟩
def ETH_MGMT_PTP_PTP_RING : Fld := ⟨0, 14⟩
def ETH_PORT_CFG_PMD : Fld := ⟨0, 2⟩
def ETH_PORT_CFG_MTU : Fld := ⟨2, 14⟩
def ETH_PORT_SCHED_C0_SHARE : Fld := ⟨0, 10⟩
def ETH_PORT_SCHED_W1 : Fld := ⟨10, 8⟩
def ETH_PORT_SCHED_W2 : Fld := ⟨18, 8⟩
def ETH_PORT_SCHED_W3 : Fld := ⟨26, 6⟩
def ETH_PORT_STATUS_C0_USE : Fld := ⟨0, 10⟩
def ETH_PORT_STATUS_C0_DEPTH : Fld := ⟨16, 16⟩
def ETH_PORT_SMAC_LO_MAC : Fld := ⟨0, 32⟩
def ETH_PORT_SMAC_HI_MAC : Fld := ⟨0, 16⟩
def ETH_PORT_SIP_ADDR : Fld := ⟨0, 32⟩
def ETH_PORT_RX_RING : Fld := ⟨0, 14⟩
def ETH_PORT_RX_TX_RING : Fld := ⟨14, 14⟩
def ETH_PORT_RX_MCAST : Fld := ⟨28, 1⟩
def ETH_PORT_COUNT_COUNT : Fld := ⟨0, 32⟩
def ETH_STR_CFG_ENABLE : Fld := ⟨0, 1⟩
def ETH_STR_CFG_IPV6 : Fld := ⟨1, 1⟩
def ETH_STR_CFG_CSUM : Fld := ⟨2, 1⟩
def ETH_STR_CFG_PORTS : Fld := ⟨3, 16⟩
def ETH_STR_CFG_CLASS : Fld := ⟨19, 2⟩
def ETH_STR_CFG_DSCP : Fld := ⟨21, 6⟩
def ETH_STR_L4_UDP_SRC : Fld := ⟨0, 16⟩
def ETH_STR_L4_HOPS : Fld := ⟨16, 8⟩
def ETH_STR_L4_PAYLOAD : Fld := ⟨24, 8⟩
def ETH_STR_MAC_LO_MAC : Fld := ⟨0, 32⟩
def ETH_STR_MAC_HI_MAC : Fld := ⟨0, 16⟩
def ETH_STR_MAC_HI_UDP_DST : Fld := ⟨16, 16⟩
def ETH_STR_DIP_ADDR : Fld := ⟨0, 32⟩
def ETH_STR_SEQ_LO_PKT_SEQ : Fld := ⟨0, 32⟩
def ETH_STR_SEQ_HI_PKT_SEQ : Fld := ⟨0, 32⟩
def ETH_STR_ALIVE_ALIVE : Fld := ⟨0, 8⟩
def RING_BASE_LO_BASE : Fld := ⟨12, 20⟩
def RING_BASE_HI_BASE : Fld := ⟨0, 32⟩
def RING_CFG_LOG2SIZE : Fld := ⟨0, 5⟩
def RING_CFG_TYPE : Fld := ⟨5, 2⟩
def RING_CFG_CHANNEL : Fld := ⟨7, 6⟩
def RING_CFG_CQ : Fld := ⟨13, 14⟩
def RING_CQ_VECTOR : Fld := ⟨0, 11⟩
def RING_CQ_COUNT : Fld := ⟨11, 8⟩
def RING_CQ_TIME_US : Fld := ⟨19, 10⟩
def RING_CTL_ENABLE : Fld := ⟨0, 1⟩
def RING_CTL_PAUSE : Fld := ⟨1, 1⟩
def RING_CTL_RESUME : Fld := ⟨2, 1⟩
def RING_CTL_RESET : Fld := ⟨3, 1⟩
def RING_STATE_DEV_POS : Fld := ⟨0, 17⟩
def RING_STATE_STATE : Fld := ⟨17, 2⟩
def RING_STATE_CAUSE : Fld := ⟨19, 4⟩
def RING_HOST_POS_POS : Fld := ⟨0, 17⟩
def RING_HWIN_LO_PAGE : Fld := ⟨0, 32⟩
def RING_HWIN_HI_PAGE : Fld := ⟨0, 20⟩
def RING_HWIN_PAGES_PAGES : Fld := ⟨0, 32⟩
def RING_DWIN_BASE_MIB : Fld := ⟨0, 18⟩
def RING_DWIN_SIZE_MIB : Fld := ⟨0, 18⟩
def RING_COUNT_DOORBELLS : Fld := ⟨0, 16⟩
def RING_COUNT_DROPS : Fld := ⟨16, 16⟩
def DMA_CFG_CTO_MS : Fld := ⟨0, 7⟩
def DMA_CFG_RO_EN : Fld := ⟨7, 1⟩
def DMA_PCIE_STATUS_SPEED : Fld := ⟨0, 3⟩
def DMA_PCIE_STATUS_WIDTH : Fld := ⟨3, 5⟩
def DMA_PCIE_STATUS_LINK_UP : Fld := ⟨8, 1⟩
def DMA_PCIE_STATUS_BUS_MASTER : Fld := ⟨9, 1⟩
def DMA_COUNT_COUNT : Fld := ⟨0, 32⟩
def DMA_CH_CFG_RATE : Fld := ⟨0, 11⟩
def DMA_CH_CFG_BURST : Fld := ⟨11, 8⟩
def DMA_CH_CTL_ABORT : Fld := ⟨0, 1⟩
def DMA_CH_CTL_RESUME : Fld := ⟨1, 1⟩
def DMA_CH_STATUS_STATE : Fld := ⟨0, 2⟩
def DMA_CH_STATUS_RING : Fld := ⟨2, 14⟩
def DMA_CH_RESIDUE_RESIDUE : Fld := ⟨0, 32⟩
def HBM_CFG_NBR_K : Fld := ⟨0, 5⟩
def HBM_CFG_NBR_EN : Fld := ⟨5, 1⟩
def HBM_CFG_SCRUB_EN : Fld := ⟨6, 1⟩
def HBM_CFG_SCRUB_H : Fld := ⟨8, 8⟩
def HBM_STATUS_TRAINED : Fld := ⟨0, 6⟩
def HBM_STATUS_ALL_TRAINED : Fld := ⟨6, 1⟩
def HBM_STATUS_HOT : Fld := ⟨7, 6⟩
def HBM_STACK_TEMP_C : Fld := ⟨0, 8⟩
def HBM_STACK_RATE : Fld := ⟨8, 2⟩
def HBM_STACK_TRAINED : Fld := ⟨10, 1⟩
def HBM_STACK_ATTEMPTS : Fld := ⟨11, 2⟩
def HBM_PORT_LT_LT : Fld := ⟨0, 16⟩
def HBM_PORT_MAXLAT_MAX : Fld := ⟨0, 16⟩
def HBM_PORT_LATE_COUNT : Fld := ⟨0, 32⟩
def HBM_COUNT_COUNT : Fld := ⟨0, 32⟩
def HBM_UE_INFO_PC : Fld := ⟨0, 8⟩
def HBM_UE_INFO_PORT : Fld := ⟨8, 3⟩
def HBM_UE_INFO_WRITE : Fld := ⟨11, 1⟩
def HBM_UE_INFO_VALID : Fld := ⟨12, 1⟩
def HBM_UE_ADDR_LO_ADDR : Fld := ⟨0, 32⟩
def HBM_UE_ADDR_HI_ADDR : Fld := ⟨0, 8⟩
def XBAR_MRST_PORT : Fld := ⟨0, 24⟩
def XBAR_HKC_WIN_BASE_GIB : Fld := ⟨0, 8⟩
def XBAR_COUNT_COUNT : Fld := ⟨0, 32⟩
def XBAR_ERR_INFO_KIND : Fld := ⟨0, 2⟩
def XBAR_ERR_INFO_SPACE : Fld := ⟨2, 2⟩
def XBAR_ERR_INFO_WRITE : Fld := ⟨4, 1⟩
def XBAR_ERR_INFO_UE : Fld := ⟨5, 1⟩
def XBAR_ERR_INFO_BEATS : Fld := ⟨8, 3⟩
def XBAR_ERR_ADDR_LO_ADDR : Fld := ⟨0, 32⟩
def XBAR_ERR_ADDR_HI_ADDR : Fld := ⟨0, 32⟩
def REF_CTL_RUN : Fld := ⟨0, 1⟩
def REF_CTL_FREEZE : Fld := ⟨1, 1⟩
def REF_CTL_FREEZE_ACK : Fld := ⟨2, 1⟩
def REF_CFG_CHOSEN : Fld := ⟨0, 3⟩
def REF_CFG_BUILDOUT : Fld := ⟨3, 1⟩
def REF_CFG_HO_BUILDOUT : Fld := ⟨4, 1⟩
def REF_CFG_AUTO_BW : Fld := ⟨5, 1⟩
def REF_CFG_BW : Fld := ⟨6, 4⟩
def REF_CFG_EFC_EN : Fld := ⟨10, 1⟩
def REF_CFG_LO_FREQ : Fld := ⟨11, 1⟩
def REF_STATUS_STATE : Fld := ⟨0, 2⟩
def REF_STATUS_SELECTED : Fld := ⟨2, 3⟩
def REF_STATUS_SWITCHING : Fld := ⟨5, 1⟩
def REF_STATUS_HIST_VALID : Fld := ⟨6, 1⟩
def REF_STATUS_BW : Fld := ⟨7, 4⟩
def REF_STATUS_QUAL : Fld := ⟨11, 6⟩
def REF_STATUS_PRESENT : Fld := ⟨17, 6⟩
def REF_STATUS_DISAGREE : Fld := ⟨23, 1⟩
def REF_STATUS_HO_EXPIRED : Fld := ⟨24, 1⟩
def REF_STATUS_CFG_ERR : Fld := ⟨25, 3⟩
def REF_MON_WINDOW_S : Fld := ⟨0, 10⟩
def REF_MON_CONSENSUS_PPB : Fld := ⟨10, 10⟩
def REF_MON_HOLD_S : Fld := ⟨20, 12⟩
def REF_ACQ_ACQ_PPB : Fld := ⟨0, 16⟩
def REF_HIST_H : Fld := ⟨0, 32⟩
def REF_HIST_INIT_H : Fld := ⟨0, 32⟩
def REF_FREQ_Y : Fld := ⟨0, 32⟩
def REF_PHASE_THETA : Fld := ⟨0, 32⟩
def REF_BUILDOUT_LO_PS : Fld := ⟨0, 32⟩
def REF_BUILDOUT_HI_PS : Fld := ⟨0, 32⟩
def REF_LIMIT_PULL_PPB : Fld := ⟨0, 20⟩
def REF_HO_MAX_MIN : Fld := ⟨0, 16⟩
def REF_HO_CONT_S : Fld := ⟨16, 16⟩
def REF_AGE_AGE : Fld := ⟨0, 32⟩
def REF_EFC_GAIN : Fld := ⟨0, 16⟩
def REF_PULSE_PPS_W : Fld := ⟨0, 16⟩
def REF_PULSE_SYNC_W : Fld := ⟨16, 8⟩
def REF_SYNC_PERIOD : Fld := ⟨0, 32⟩
def REF_PULSE_OFS_TICKS : Fld := ⟨0, 28⟩
def REF_PULSE_FINE_FINE : Fld := ⟨0, 7⟩
def REF_BALRAN_LINK : Fld := ⟨0, 7⟩
def REF_IN_CFG_EN : Fld := ⟨0, 1⟩
def REF_IN_CFG_RANK : Fld := ⟨1, 3⟩
def REF_IN_CFG_FREQ : Fld := ⟨4, 2⟩
def REF_IN_WIN_SOFT_PPB : Fld := ⟨0, 16⟩
def REF_IN_WIN_HARD_PPB : Fld := ⟨16, 16⟩
def REF_IN_RATE_RATE : Fld := ⟨0, 16⟩
def REF_IN_STATUS_STATE : Fld := ⟨0, 3⟩
def REF_IN_STATUS_CAUSE : Fld := ⟨3, 2⟩
def REF_IN_STATUS_SOFT : Fld := ⟨5, 1⟩
def REF_IN_OFFSET_D : Fld := ⟨0, 32⟩
def REF_OUT_CFG_EN : Fld := ⟨0, 1⟩
def REF_OUT_CFG_DIV : Fld := ⟨1, 10⟩
def REF_OUT_CFG_DELAY : Fld := ⟨11, 7⟩
def REF_OUT_CFG_LEVEL : Fld := ⟨18, 2⟩
def REF_COUNT_COUNT : Fld := ⟨0, 32⟩
def TIME_CTL_FREEZE : Fld := ⟨0, 1⟩
def TIME_CTL_FREEZE_ACK : Fld := ⟨1, 1⟩
def TIME_CFG_SRC : Fld := ⟨0, 2⟩
def TIME_CFG_BW : Fld := ⟨2, 4⟩
def TIME_CFG_LOG_INTERVAL : Fld := ⟨6, 4⟩
def TIME_INC_NS : Fld := ⟨0, 4⟩
def TIME_INC_FRAC_FRAC : Fld := ⟨0, 32⟩
def TIME_ADJ_ADJ : Fld := ⟨0, 32⟩
def TIME_LIMITS_ADJ_MAX_PPB : Fld := ⟨0, 16⟩
def TIME_LIMITS_LOCK_NS : Fld := ⟨16, 16⟩
def TIME_JUMP_NS : Fld := ⟨0, 30⟩
def TIME_PPS_OFS_NS : Fld := ⟨0, 32⟩
def TIME_PTP_LAT_TX_PS : Fld := ⟨0, 16⟩
def TIME_PTP_LAT_RX_PS : Fld := ⟨16, 16⟩
def TIME_STATUS_SET : Fld := ⟨0, 1⟩
def TIME_STATUS_LOCKED : Fld := ⟨1, 1⟩
def TIME_STATUS_COASTING : Fld := ⟨2, 1⟩
def TIME_STATUS_STEP_COUNT : Fld := ⟨3, 8⟩
def TIME_OFFSET_LAST_NS : Fld := ⟨0, 32⟩
def TIME_NOW_NS_NS : Fld := ⟨0, 32⟩
def TIME_NOW_SEC_LO_SEC : Fld := ⟨0, 32⟩
def TIME_NOW_SEC_HI_SEC : Fld := ⟨0, 16⟩
def TIME_NOW_SEC_HI_FRAC_NS : Fld := ⟨16, 16⟩
def TIME_CAP_RING : Fld := ⟨0, 14⟩
def TIME_CAP_EN : Fld := ⟨14, 1⟩
def TIME_CAP_TX_EN : Fld := ⟨15, 1⟩
def TIME_EVT_CFG_EN : Fld := ⟨0, 1⟩
def TIME_EVT_CFG_OUT : Fld := ⟨1, 1⟩
def TIME_EVT_CFG_EDGE : Fld := ⟨2, 2⟩
def TIME_EVT_CFG_IDLE : Fld := ⟨4, 1⟩
def TIME_EVT_CFG_ADC : Fld := ⟨5, 1⟩
def TIME_COUNT_COUNT : Fld := ⟨0, 32⟩
def ALM_CFG_REC_EN : Fld := ⟨0, 1⟩
def ALM_CFG_RING : Fld := ⟨1, 14⟩
def ALM_STATUS_ARMED : Fld := ⟨0, 9⟩
def ALM_STATUS_NEXT : Fld := ⟨9, 8⟩
def ALM_STATUS_NEXT_VALID : Fld := ⟨17, 1⟩
def ALM_FIRE_SEQ_SEQ : Fld := ⟨0, 32⟩
def ALM_COUNT_COUNT : Fld := ⟨0, 32⟩
def ALM_STATE_ARMED : Fld := ⟨0, 1⟩
def ALM_STATE_ACTION : Fld := ⟨8, 8⟩
def ALM_STATE_STATUS : Fld := ⟨16, 16⟩
def ALM_ENTRY_IMAGE : Fld := ⟨0, 32⟩
def ADC_CFG_ENABLE : Fld := ⟨0, 1⟩
def ADC_CFG_MODE : Fld := ⟨1, 1⟩
def ADC_CFG_DMA_EN : Fld := ⟨2, 1⟩
def ADC_CFG_REG_LEN : Fld := ⟨3, 6⟩
def ADC_CFG_INJ_LEN : Fld := ⟨9, 4⟩
def ADC_CFG_BATCH : Fld := ⟨13, 7⟩
def ADC_REG_PERIOD_PERIOD : Fld := ⟨0, 20⟩
def ADC_RING_RING : Fld := ⟨0, 14⟩
def ADC_SINGLE_CHANNEL : Fld := ⟨0, 5⟩
def ADC_SINGLE_START : Fld := ⟨5, 1⟩
def ADC_SINGLE_BUSY : Fld := ⟨6, 1⟩
def ADC_SINGLE_DONE : Fld := ⟨7, 1⟩
def ADC_SINGLE_RESULT : Fld := ⟨8, 12⟩
def ADC_STATUS_STATE : Fld := ⟨0, 2⟩
def ADC_STATUS_REG_NEXT : Fld := ⟨2, 5⟩
def ADC_STATUS_INJ_PENDING : Fld := ⟨7, 1⟩
def ADC_STATUS_LEVEL : Fld := ⟨8, 7⟩
def ADC_QUEUE_ENTRY_ENTRY : Fld := ⟨0, 24⟩
def ADC_QUEUE_ENTRY_VALID : Fld := ⟨31, 1⟩
def ADC_QUEUE_TIME_TIME_LO : Fld := ⟨0, 32⟩
def ADC_THERM_WARN_C : Fld := ⟨0, 8⟩
def ADC_THERM_TRIP_C : Fld := ⟨8, 8⟩
def ADC_COUNT_COUNT : Fld := ⟨0, 32⟩
def ADC_TEMP_T16 : Fld := ⟨0, 16⟩
def ADC_REG_SEQ_CHANNEL : Fld := ⟨0, 5⟩
def ADC_INJ_SEQ_CHANNEL : Fld := ⟨0, 5⟩
def DAC_CFG_CLEAR_FAST : Fld := ⟨0, 1⟩
def DAC_CFG_CLEAR_EN : Fld := ⟨1, 8⟩
def DAC_CTL_LOAD : Fld := ⟨0, 1⟩
def DAC_STATUS_PARKED : Fld := ⟨0, 8⟩
def DAC_STATUS_SLEWING : Fld := ⟨8, 8⟩
def DAC_STATUS_PENDING : Fld := ⟨16, 8⟩
def DAC_STATUS_CLEAR : Fld := ⟨24, 1⟩
def DAC_STATUS_READY : Fld := ⟨25, 1⟩
def DAC_COUNT_COUNT : Fld := ⟨0, 32⟩
def DAC_CH_CFG_RANGE : Fld := ⟨0, 2⟩
def DAC_CH_CFG_SLEW_EN : Fld := ⟨2, 1⟩
def DAC_CH_CFG_OWNED : Fld := ⟨3, 1⟩
def DAC_CH_CFG_CLEAR : Fld := ⟨16, 16⟩
def DAC_CH_SLEW_STEP_M1 : Fld := ⟨0, 12⟩
def DAC_CH_SLEW_INTERVAL : Fld := ⟨12, 20⟩
def DAC_CH_CODE_OUTPUT : Fld := ⟨0, 16⟩
def DAC_CH_CODE_TARGET : Fld := ⟨16, 16⟩
def DAC_CH_PEND_CODE : Fld := ⟨0, 16⟩
def DAC_CH_PEND_VALID : Fld := ⟨16, 1⟩
def EVT_CFG_ENABLE : Fld := ⟨0, 1⟩
def EVT_STATUS_WAITING : Fld := ⟨0, 12⟩
def EVT_STATUS_HELD : Fld := ⟨12, 1⟩
def EVT_RAISE_EVENT : Fld := ⟨0, 11⟩
def EVT_WEDGE_MS : Fld := ⟨0, 10⟩
def EVT_WEDGE_SELF_RESET : Fld := ⟨10, 1⟩
def EVT_WEDGE_WEDGED : Fld := ⟨11, 1⟩
def EVT_Q_CFG_EN : Fld := ⟨0, 1⟩
def EVT_Q_CFG_RING : Fld := ⟨1, 14⟩
def EVT_Q_CFG_BATCH : Fld := ⟨15, 7⟩
def EVT_Q_CFG_TIME_US : Fld := ⟨22, 10⟩
def EVT_Q_COUNT_COUNT : Fld := ⟨0, 32⟩
def EVT_SRC_CFG_REC_EN : Fld := ⟨0, 1⟩
def EVT_SRC_CFG_IRQ_EN : Fld := ⟨1, 1⟩
def EVT_SRC_CFG_ARM : Fld := ⟨2, 1⟩
def EVT_SRC_CFG_ARMED : Fld := ⟨3, 1⟩
def EVT_SRC_CFG_PENDING : Fld := ⟨4, 1⟩
def EVT_SRC_CFG_QUEUE : Fld := ⟨5, 3⟩
def EVT_SRC_CFG_VECTOR : Fld := ⟨8, 11⟩
def EVT_SRC_CFG_CLASS : Fld := ⟨19, 3⟩
def EVT_SRC_CNT_COUNT : Fld := ⟨0, 32⟩
def CRC_STATUS_ACTIVE : Fld := ⟨0, 7⟩
def CRC_COUNT_COUNT : Fld := ⟨0, 32⟩
def TWIN_CFG_ENABLE : Fld := ⟨0, 1⟩
def TWIN_CFG_PREF : Fld := ⟨1, 1⟩
def TWIN_CFG_REVERT : Fld := ⟨2, 1⟩
def TWIN_CFG_INGEST_LOSS_US : Fld := ⟨3, 10⟩
def TWIN_CFG_RETAIN_US : Fld := ⟨13, 10⟩
def TWIN_STATUS_ROLE : Fld := ⟨0, 2⟩
def TWIN_STATUS_SYNCED : Fld := ⟨2, 1⟩
def TWIN_STATUS_PEER_SEEN : Fld := ⟨3, 1⟩
def TWIN_STATUS_PEER_ELIGIBLE : Fld := ⟨4, 1⟩
def TWIN_STATUS_LINK_UP : Fld := ⟨5, 1⟩
def TWIN_STATUS_LAST_CAUSE : Fld := ⟨6, 4⟩
def TWIN_STATUS_SPLIT : Fld := ⟨10, 1⟩
def TWIN_STATUS_PREF_CONFLICT : Fld := ⟨11, 1⟩
def TWIN_RETAIN_BASE_MIB : Fld := ⟨0, 18⟩
def TWIN_RETAIN_SIZE_MIB : Fld := ⟨0, 18⟩
def TWIN_CYCLE_SEQ : Fld := ⟨0, 32⟩
def TWIN_COUNT_COUNT : Fld := ⟨0, 32⟩
def WEAVE_CFG_POS : Fld := ⟨0, 2⟩
def WEAVE_CFG_EXPORT : Fld := ⟨2, 1⟩
def WEAVE_CFG_EXPORT_LEAD : Fld := ⟨3, 1⟩
def WEAVE_CFG_EXPORT_BLOCK : Fld := ⟨4, 4⟩
def WEAVE_CFG_FLAG_WAIT_US : Fld := ⟨8, 10⟩
def WEAVE_CFG_DECIDE_WAIT_US : Fld := ⟨18, 10⟩
def WEAVE_STATUS_STATE : Fld := ⟨0, 3⟩
def WEAVE_STATUS_PEERS_UP : Fld := ⟨3, 3⟩
def WEAVE_STATUS_MISMATCH : Fld := ⟨6, 1⟩
def WEAVE_DIGEST_LO_DIGEST : Fld := ⟨0, 32⟩
def WEAVE_DIGEST_HI_DIGEST : Fld := ⟨0, 32⟩
def WEAVE_ASYM_ASYM_PS : Fld := ⟨0, 16⟩
def WEAVE_PEER_DELAY_PS : Fld := ⟨0, 24⟩
def WEAVE_COUNT_COUNT : Fld := ⟨0, 32⟩
def GLB_CTL_COMMIT : Fld := ⟨0, 1⟩
def GLB_CTL_STOP : Fld := ⟨1, 1⟩
def GLB_CTL_RESET : Fld := ⟨2, 1⟩
def GLB_STATUS_READY : Fld := ⟨0, 1⟩
def GLB_STATUS_STATE : Fld := ⟨1, 2⟩
def GLB_STATUS_STAGE : Fld := ⟨3, 3⟩
def GLB_STATUS_MODE : Fld := ⟨6, 2⟩
def GLB_STATUS_WEAVE_POS : Fld := ⟨8, 2⟩
def GLB_STATUS_EWESEN : Fld := ⟨10, 1⟩
def GLB_STATUS_FUSE_ERR : Fld := ⟨11, 1⟩
def GLB_STATUS_FW_ERR : Fld := ⟨12, 1⟩
def GLB_REMAP_SWAP : Fld := ⟨0, 1⟩
def GLB_RESET_KEEP_TIMING : Fld := ⟨0, 1⟩
def GLB_PROFILE_QUIET : Fld := ⟨0, 1⟩
def GLB_PROFILE_EDGE : Fld := ⟨1, 2⟩
def GLB_PROFILE_MODE : Fld := ⟨3, 2⟩
def GLB_COMPAT_EWESEN : Fld := ⟨0, 1⟩
def GLB_STRAP_BOOT_SRC : Fld := ⟨0, 1⟩
def GLB_STRAP_EWESEN_MODE : Fld := ⟨1, 1⟩
def GLB_STRAP_TWIN_PREF : Fld := ⟨2, 1⟩
def GLB_COMMIT_ERR_CODE : Fld := ⟨0, 16⟩
def GLB_COMMIT_ERR_BLOCK : Fld := ⟨16, 5⟩
def GLB_COMMIT_ERR_COUNT : Fld := ⟨21, 8⟩
def GLB_BOOT_ERR_SLOT0 : Fld := ⟨0, 8⟩
def GLB_BOOT_ERR_SLOT1 : Fld := ⟨8, 8⟩
def GLB_BOOT_ERR_HOST : Fld := ⟨16, 8⟩
def GLB_BOOT_ERR_FW : Fld := ⟨24, 8⟩
def GLB_BOOT_INFO_SOURCE : Fld := ⟨0, 2⟩
def GLB_BOOT_INFO_BOOTED : Fld := ⟨2, 1⟩
def GLB_BOOT_INFO_SKIPPED : Fld := ⟨3, 16⟩
def GLB_BOOT_ADDR_LO_ADDR : Fld := ⟨0, 32⟩
def GLB_BOOT_ADDR_HI_ADDR : Fld := ⟨0, 32⟩
def GLB_BOOT_LEN_BYTES : Fld := ⟨0, 25⟩
def GLB_BOOT_CTL_GO : Fld := ⟨0, 1⟩
def GLB_BOOT_CTL_BUSY : Fld := ⟨1, 1⟩
def GLB_ISLAND_RST_KEY : Fld := ⟨0, 32⟩
def GLB_GPIO_OE : Fld := ⟨0, 8⟩
def GLB_GPIO_OUT : Fld := ⟨8, 8⟩
def GLB_GPIO_IN : Fld := ⟨16, 8⟩
def GLB_COUNT_COUNT : Fld := ⟨0, 32⟩
def LANE_LINK_COUNT_COUNT : Fld := ⟨0, 32⟩
def AVS_CFG_FREEZE : Fld := ⟨0, 1⟩
def AVS_CFG_FREEZE_ACK : Fld := ⟨1, 1⟩
def AVS_CFG_PERIOD : Fld := ⟨2, 10⟩
def AVS_CFG_DROOP_MV : Fld := ⟨12, 7⟩
def AVS_CFG_S_LO : Fld := ⟨19, 6⟩
def AVS_CFG_S_HI : Fld := ⟨25, 6⟩
def AVS_STATUS_N : Fld := ⟨0, 5⟩
def AVS_STATUS_AT_LIMIT : Fld := ⟨5, 5⟩
def AVS_STATUS_BUS_ERR : Fld := ⟨10, 5⟩
def AVS_RAIL_SET_MV : Fld := ⟨0, 10⟩
def AVS_RAIL_V_MIN_MV : Fld := ⟨10, 10⟩
def AVS_RAIL_V_MAX_MV : Fld := ⟨20, 10⟩
def AVS_RAIL_CONFIRMED : Fld := ⟨30, 1⟩
def AVS_COUNT_COUNT : Fld := ⟨0, 32⟩
def HKC_STATUS_RUNNING : Fld := ⟨0, 1⟩
def HKC_STATUS_FW_VERSION : Fld := ⟨16, 16⟩
def FUSE_STATUS_VARIANT : Fld := ⟨0, 1⟩
def FUSE_STATUS_REV : Fld := ⟨4, 4⟩
def FUSE_STATUS_OWNER_SET : Fld := ⟨8, 1⟩
def FUSE_STATUS_REQUIRE_SIGNED : Fld := ⟨9, 1⟩
def FUSE_STATUS_DBG_LOCKED : Fld := ⟨10, 1⟩
def FUSE_STATUS_CORRECTED : Fld := ⟨11, 8⟩
def FUSE_STATUS_PROG : Fld := ⟨19, 2⟩
def FUSE_STATUS_PROG_ERR : Fld := ⟨21, 3⟩
def FUSE_SERIAL_LO_SERIAL : Fld := ⟨0, 32⟩
def FUSE_SERIAL_HI_SERIAL : Fld := ⟨0, 32⟩
def FUSE_OWNER_HASH_HASH : Fld := ⟨0, 32⟩
def FUSE_PROG_DATA_HASH : Fld := ⟨0, 32⟩
def FUSE_PROG_CTL_HASH : Fld := ⟨0, 1⟩
def FUSE_PROG_CTL_REQUIRE_SIGNED : Fld := ⟨1, 1⟩
def FUSE_PROG_CTL_KEY : Fld := ⟨8, 24⟩
def DBG_LOCK_STATE : Fld := ⟨0, 2⟩
def DBG_LOCK_FAILS : Fld := ⟨2, 2⟩
def DBG_LOCK_REQUEST : Fld := ⟨4, 1⟩
def DBG_CHALLENGE_WORD : Fld := ⟨0, 32⟩
def DBG_RESPONSE_WORD : Fld := ⟨0, 32⟩
def DBG_OBS_SEL_SEL : Fld := ⟨0, 12⟩
def DBG_ATB_SEL_SEL : Fld := ⟨0, 8⟩

end Fld

/-- Registers of block GLB. -/
def regsGlb : List RegDesc :=
  [⟨0x0, 1, 1, 1, 1, [⟨0, 1, .w1s, 0⟩, ⟨1, 1, .w1s, 0⟩, ⟨2, 1, .w1s, 0⟩]⟩,
   ⟨0x4, 1, 1, 1, 1, [⟨0, 1, .ro, 0⟩, ⟨1, 2, .ro, 0⟩, ⟨3, 3, .ro, 0⟩, ⟨6, 2, .ro, 0⟩, ⟨8, 2, .ro, 0⟩, ⟨10, 1, .ro, 0⟩, ⟨11, 1, .ro, 0⟩, ⟨12, 1, .ro, 0⟩]⟩,
   ⟨0xC, 1, 1, 1, 1, [⟨0, 1, .w1s, 0⟩]⟩,
   ⟨0x10, 1, 1, 1, 1, [⟨0, 1, .rw, 0⟩]⟩,
   ⟨0x14, 1, 1, 1, 1, [⟨0, 1, .rw, 0⟩, ⟨1, 2, .rw, 2⟩, ⟨3, 2, .rw, 0⟩]⟩,
   ⟨0x18, 1, 1, 1, 1, [⟨0, 1, .rw, 0⟩]⟩,
   ⟨0x1C, 1, 1, 1, 1, [⟨0, 1, .ro, 0⟩, ⟨1, 1, .ro, 0⟩, ⟨2, 1, .ro, 0⟩]⟩,
   ⟨0x20, 1, 1, 1, 1, [⟨0, 16, .ro, 0⟩, ⟨16, 5, .ro, 0⟩, ⟨21, 8, .ro, 0⟩]⟩,
   ⟨0x24, 1, 1, 1, 1, [⟨0, 8, .ro, 0⟩, ⟨8, 8, .ro, 0⟩, ⟨16, 8, .ro, 0⟩, ⟨24, 8, .ro, 0⟩]⟩,
   ⟨0x28, 1, 1, 1, 1, [⟨0, 2, .ro, 0⟩, ⟨2, 1, .ro, 0⟩, ⟨3, 16, .ro, 0⟩]⟩,
   ⟨0x2C, 1, 1, 1, 1, [⟨0, 32, .rw, 0⟩]⟩,
   ⟨0x30, 1, 1, 1, 1, [⟨0, 32, .rw, 0⟩]⟩,
   ⟨0x34, 1, 1, 1, 1, [⟨0, 25, .rw, 0⟩]⟩,
   ⟨0x38, 1, 1, 1, 1, [⟨0, 1, .w1s, 0⟩, ⟨1, 1, .ro, 0⟩]⟩,
   ⟨0x3C, 1, 1, 1, 1, [⟨0, 32, .wo, 0⟩]⟩,
   ⟨0x40, 1, 1, 1, 1, [⟨0, 8, .rw, 0⟩, ⟨8, 8, .rw, 0⟩, ⟨16, 8, .ro, 0⟩]⟩,
   ⟨0x100, 4, 2, 1, 1, [⟨0, 32, .rc, 0⟩]⟩]
/-- Registers of block EVT. -/
def regsEvt : List RegDesc :=
  [⟨0x100000, 1, 1, 1, 1, [⟨0, 1, .rw, 0⟩]⟩,
   ⟨0x100004, 1, 1, 1, 1, [⟨0, 12, .ro, 0⟩, ⟨12, 1, .ro, 0⟩]⟩,
   ⟨0x100008, 1, 1, 1, 1, [⟨0, 11, .wo, 0⟩]⟩,
   ⟨0x10000C, 1, 1, 1, 1, [⟨0, 10, .rw, 100⟩, ⟨10, 1, .rw, 0⟩, ⟨11, 1, .ro, 0⟩]⟩,
   ⟨0x100040, 4, 8, 1, 1, [⟨0, 1, .rw, 0⟩, ⟨1, 14, .rw, 0⟩, ⟨15, 7, .rw, 16⟩, ⟨22, 10, .rw, 100⟩]⟩,
   ⟨0x100060, 8, 8, 4, 2, [⟨0, 32, .rc, 0⟩]⟩,
   ⟨0x101000, 4, 2048, 1, 1, [⟨0, 1, .rw, 1⟩, ⟨1, 1, .rw, 0⟩, ⟨2, 1, .w1s, 0⟩, ⟨3, 1, .ro, 0⟩, ⟨4, 1, .ro, 0⟩, ⟨5, 3, .rw, 0⟩, ⟨8, 11, .rw, 0⟩, ⟨19, 3, .ro, 0⟩]⟩,
   ⟨0x104000, 4, 2048, 1, 1, [⟨0, 32, .rc, 0⟩]⟩]
/-- Registers of block LANE. -/
def regsLane : List RegDesc :=
  [⟨0x200000, 512, 97, 1, 1, [⟨0, 2, .rw, 0⟩, ⟨2, 1, .rw, 0⟩, ⟨3, 1, .rw, 0⟩, ⟨4, 2, .rw, 0⟩, ⟨8, 4, .rw, 0⟩, ⟨12, 6, .rw, 0⟩]⟩,
   ⟨0x200004, 512, 97, 1, 1, [⟨0, 4, .rw, 0⟩, ⟨4, 7, .rw, 0⟩, ⟨11, 6, .rw, 0⟩, ⟨17, 5, .rw, 0⟩, ⟨30, 1, .rw, 0⟩, ⟨31, 1, .ro, 0⟩]⟩,
   ⟨0x200008, 512, 97, 1, 1, [⟨0, 3, .ro, 0⟩, ⟨3, 1, .ro, 0⟩, ⟨4, 1, .ro, 0⟩, ⟨5, 1, .ro, 0⟩, ⟨6, 4, .ro, 0⟩, ⟨16, 8, .ro, 0⟩, ⟨24, 8, .ro, 0⟩]⟩,
   ⟨0x200010, 512, 97, 1, 1, [⟨0, 1, .w1s, 0⟩, ⟨1, 2, .rw, 1⟩, ⟨3, 7, .rw, 0⟩, ⟨10, 7, .rw, 0⟩, ⟨17, 5, .rw, 0⟩]⟩,
   ⟨0x200014, 512, 97, 1, 1, [⟨0, 1, .ro, 0⟩, ⟨1, 1, .ro, 0⟩, ⟨8, 24, .ro, 0⟩]⟩,
   ⟨0x200018, 512, 97, 1, 1, [⟨0, 32, .rc, 0⟩]⟩,
   ⟨0x20001C, 512, 97, 1, 1, [⟨0, 32, .rc, 0⟩]⟩,
   ⟨0x220000, 256, 96, 1, 1, [⟨0, 1, .rw, 0⟩, ⟨1, 2, .rw, 0⟩, ⟨3, 5, .rw, 8⟩, ⟨8, 1, .rw, 1⟩, ⟨9, 1, .rw, 1⟩, ⟨10, 10, .rw, 1023⟩, ⟨20, 12, .rw, 4095⟩]⟩,
   ⟨0x220004, 256, 96, 1, 1, [⟨0, 3, .ro, 0⟩, ⟨3, 1, .ro, 0⟩, ⟨4, 12, .ro, 0⟩, ⟨16, 12, .ro, 0⟩]⟩,
   ⟨0x220008, 256, 96, 1, 1, [⟨0, 16, .rc, 0⟩, ⟨16, 16, .rc, 0⟩]⟩,
   ⟨0x22000C, 256, 96, 1, 1, [⟨0, 16, .rw, 400⟩, ⟨16, 4, .rw, 8⟩]⟩,
   ⟨0x220010, 256, 96, 4, 4, [⟨0, 32, .rc, 0⟩]⟩]
/-- Registers of block INGEST. -/
def regsIngest : List RegDesc :=
  [⟨0x400000, 1, 1, 1, 1, [⟨0, 1, .rw, 0⟩, ⟨1, 1, .rw, 0⟩, ⟨2, 1, .rw, 0⟩, ⟨3, 1, .rw, 0⟩, ⟨4, 1, .ro, 0⟩]⟩,
   ⟨0x400004, 1, 1, 1, 1, [⟨0, 15, .rw, 4096⟩, ⟨16, 13, .rw, 1024⟩]⟩,
   ⟨0x400008, 1, 1, 1, 1, [⟨0, 32, .rw, 187500000⟩]⟩,
   ⟨0x40000C, 1, 1, 1, 1, [⟨0, 12, .rw, 2500⟩, ⟨16, 8, .rw, 64⟩]⟩,
   ⟨0x400010, 1, 1, 1, 1, [⟨0, 4, .rw, 2⟩, ⟨4, 4, .rw, 2⟩]⟩,
   ⟨0x400014, 1, 1, 1, 1, [⟨0, 32, .rw, 0⟩]⟩,
   ⟨0x400018, 1, 1, 1, 1, [⟨0, 24, .rw, 0⟩]⟩,
   ⟨0x40001C, 1, 1, 1, 1, [⟨0, 32, .rw, 0⟩]⟩,
   ⟨0x400020, 1, 1, 1, 1, [⟨0, 32, .rw, 0⟩]⟩,
   ⟨0x400024, 1, 1, 1, 1, [⟨0, 16, .rw, 0⟩, ⟨16, 16, .rw, 0⟩]⟩,
   ⟨0x400028, 1, 1, 1, 1, [⟨0, 1, .ro, 0⟩, ⟨1, 1, .ro, 0⟩]⟩,
   ⟨0x40002C, 1, 1, 1, 1, [⟨0, 16, .ro, 0⟩, ⟨16, 16, .rc, 0⟩]⟩,
   ⟨0x400030, 1, 1, 1, 1, [⟨0, 16, .rc, 0⟩]⟩,
   ⟨0x400100, 4, 12, 1, 1, [⟨0, 32, .rc, 0⟩]⟩,
   ⟨0x401000, 32, 256, 1, 1, [⟨0, 1, .rw, 0⟩, ⟨1, 6, .rw, 0⟩, ⟨7, 1, .rw, 0⟩, ⟨8, 1, .rw, 0⟩, ⟨9, 7, .rw, 1⟩]⟩,
   ⟨0x401004, 32, 256, 1, 1, [⟨0, 14, .rw, 0⟩, ⟨14, 14, .rw, 0⟩]⟩,
   ⟨0x401008, 32, 256, 1, 1, [⟨0, 12, .rw, 0⟩, ⟨12, 13, .rw, 0⟩]⟩,
   ⟨0x40100C, 32, 256, 1, 1, [⟨0, 13, .rw, 16⟩, ⟨13, 13, .rw, 1⟩]⟩,
   ⟨0x401010, 32, 256, 1, 1, [⟨0, 1, .ro, 0⟩, ⟨1, 1, .ro, 0⟩]⟩,
   ⟨0x403000, 4, 256, 1, 1, [⟨0, 32, .rw, 0⟩]⟩,
   ⟨0x404000, 4, 4096, 1, 1, [⟨0, 16, .rw, 4096⟩, ⟨16, 16, .rw, 4096⟩]⟩]
/-- Registers of block HARROW. -/
def regsHarrow : List RegDesc :=
  [⟨0x600000, 1, 1, 1, 1, [⟨0, 1, .rw, 0⟩, ⟨1, 2, .rw, 1⟩, ⟨3, 4, .rw, 6⟩, ⟨7, 1, .rw, 0⟩, ⟨8, 1, .rw, 0⟩, ⟨9, 1, .rw, 0⟩, ⟨10, 4, .rw, 0⟩]⟩,
   ⟨0x600004, 1, 1, 1, 1, [⟨0, 1, .ro, 0⟩, ⟨1, 1, .ro, 0⟩]⟩,
   ⟨0x600008, 1, 1, 1, 1, [⟨0, 16, .rw, 0⟩, ⟨16, 14, .rw, 0⟩]⟩,
   ⟨0x600010, 1, 1, 1, 1, [⟨0, 6, .rw, 0⟩, ⟨6, 13, .rw, 0⟩]⟩,
   ⟨0x600014, 1, 1, 1, 1, [⟨0, 32, .ro, 0⟩]⟩,
   ⟨0x600018, 1, 1, 1, 1, [⟨0, 32, .ro, 0⟩]⟩,
   ⟨0x600100, 4, 4, 1, 1, [⟨0, 32, .rc, 0⟩]⟩,
   ⟨0x601000, 16, 64, 1, 1, [⟨0, 1, .rw, 0⟩, ⟨1, 12, .rw, 0⟩, ⟨13, 1, .rw, 0⟩, ⟨14, 1, .rw, 1⟩, ⟨15, 1, .rw, 0⟩, ⟨16, 5, .rw, 12⟩]⟩,
   ⟨0x608000, 4, 8192, 1, 1, [⟨0, 18, .rw, 0⟩]⟩,
   ⟨0x610000, 4, 4096, 1, 1, [⟨0, 16, .rw, 4096⟩]⟩]
/-- Registers of block WEED. -/
def regsWeed : List RegDesc :=
  [⟨0x700000, 1, 1, 1, 1, [⟨0, 1, .rw, 0⟩, ⟨1, 1, .rw, 1⟩, ⟨2, 1, .rw, 1⟩, ⟨3, 1, .rw, 1⟩, ⟨4, 1, .rw, 1⟩, ⟨5, 4, .rw, 6⟩, ⟨9, 1, .rw, 0⟩, ⟨10, 13, .rw, 0⟩]⟩,
   ⟨0x700004, 1, 1, 1, 1, [⟨0, 8, .rw, 96⟩, ⟨8, 8, .rw, 96⟩, ⟨16, 8, .rw, 80⟩]⟩,
   ⟨0x700008, 1, 1, 1, 1, [⟨0, 16, .rw, 4096⟩, ⟨16, 16, .rw, 256⟩]⟩,
   ⟨0x70000C, 1, 1, 1, 1, [⟨0, 16, .rw, 2048⟩, ⟨16, 16, .rw, 8192⟩]⟩,
   ⟨0x700010, 1, 1, 1, 1, [⟨0, 8, .rw, 4⟩, ⟨8, 8, .rw, 16⟩, ⟨16, 16, .rw, 1024⟩]⟩,
   ⟨0x700014, 1, 1, 1, 1, [⟨0, 32, .rw, 4096⟩]⟩,
   ⟨0x700018, 1, 1, 1, 1, [⟨0, 1, .rw, 0⟩, ⟨1, 14, .rw, 0⟩]⟩,
   ⟨0x700020, 1, 1, 1, 1, [⟨0, 12, .rw, 0⟩]⟩,
   ⟨0x700024, 1, 1, 1, 1, [⟨0, 16, .ro, 0⟩, ⟨16, 16, .ro, 0⟩]⟩,
   ⟨0x700028, 1, 1, 1, 1, [⟨0, 32, .ro, 0⟩]⟩,
   ⟨0x700100, 4, 7, 1, 1, [⟨0, 32, .rc, 0⟩]⟩]
/-- Registers of block TURN. -/
def regsTurn : List RegDesc :=
  [⟨0x800000, 1, 1, 1, 1, [⟨0, 1, .rw, 0⟩, ⟨1, 1, .rw, 0⟩, ⟨8, 8, .rw, 64⟩, ⟨16, 16, .rw, 8192⟩]⟩,
   ⟨0x800004, 1, 1, 1, 1, [⟨20, 12, .rw, 0⟩]⟩,
   ⟨0x800008, 1, 1, 1, 1, [⟨0, 8, .rw, 0⟩]⟩,
   ⟨0x80000C, 1, 1, 1, 1, [⟨0, 18, .ro, 0⟩]⟩,
   ⟨0x800010, 1, 1, 1, 1, [⟨0, 10, .rw, 896⟩, ⟨16, 16, .rw, 0⟩]⟩,
   ⟨0x800014, 1, 1, 1, 1, [⟨0, 12, .ro, 0⟩]⟩,
   ⟨0x800018, 1, 1, 1, 1, [⟨0, 14, .rw, 0⟩]⟩,
   ⟨0x80001C, 1, 1, 1, 1, [⟨0, 1, .ro, 0⟩, ⟨1, 1, .ro, 0⟩, ⟨16, 16, .ro, 0⟩]⟩,
   ⟨0x800020, 1, 1, 1, 1, [⟨0, 16, .rc, 65535⟩]⟩,
   ⟨0x800100, 4, 3, 1, 1, [⟨0, 32, .rc, 0⟩]⟩]
/-- Registers of block CORR. -/
def regsCorr : List RegDesc :=
  [⟨0x900000, 1, 1, 1, 1, [⟨0, 1, .rw, 0⟩, ⟨1, 1, .rw, 0⟩, ⟨2, 1, .rw, 1⟩]⟩,
   ⟨0x900004, 1, 1, 1, 1, [⟨0, 1, .ro, 0⟩, ⟨1, 1, .ro, 0⟩, ⟨2, 1, .ro, 0⟩, ⟨3, 1, .ro, 0⟩, ⟨4, 4, .ro, 0⟩, ⟨8, 8, .ro, 0⟩, ⟨16, 9, .ro, 0⟩]⟩,
   ⟨0x900008, 1, 1, 1, 1, [⟨0, 24, .ro, 0⟩]⟩,
   ⟨0x90000C, 1, 1, 1, 1, [⟨0, 16, .rw, 1000⟩]⟩,
   ⟨0x900010, 1, 1, 1, 1, [⟨0, 4, .rw, 8⟩, ⟨4, 10, .rw, 25⟩, ⟨14, 16, .rw, 100⟩]⟩,
   ⟨0x900014, 1, 1, 1, 1, [⟨0, 9, .ro, 0⟩]⟩,
   ⟨0x900018, 1, 1, 1, 1, [⟨0, 1, .rw, 0⟩, ⟨1, 1, .ro, 0⟩, ⟨2, 8, .rw, 95⟩]⟩,
   ⟨0x900020, 1, 1, 1, 1, [⟨0, 16, .rw, 0⟩]⟩,
   ⟨0x900024, 1, 1, 1, 1, [⟨0, 2, .ro, 0⟩, ⟨2, 7, .ro, 0⟩, ⟨9, 3, .ro, 0⟩, ⟨12, 4, .ro, 0⟩, ⟨16, 1, .ro, 0⟩]⟩,
   ⟨0x900040, 16, 4, 4, 3, [⟨0, 32, .rw, 0⟩]⟩,
   ⟨0x900100, 4, 12, 1, 1, [⟨0, 32, .rc, 0⟩]⟩,
   ⟨0x901000, 4, 272, 1, 1, [⟨0, 3, .ro, 0⟩, ⟨3, 3, .ro, 0⟩, ⟨6, 9, .ro, 511⟩, ⟨15, 1, .ro, 0⟩, ⟨16, 8, .ro, 0⟩]⟩]
/-- Registers of block GRAN. -/
def regsGran : List RegDesc :=
  [⟨0xC00000, 1, 1, 1, 1, [⟨0, 1, .rw, 0⟩, ⟨1, 16, .rw, 500⟩]⟩,
   ⟨0xC00004, 1, 1, 1, 1, [⟨0, 1, .ro, 0⟩, ⟨1, 8, .ro, 0⟩, ⟨9, 8, .ro, 0⟩]⟩,
   ⟨0xC00008, 1, 1, 1, 1, [⟨20, 12, .rw, 0⟩]⟩,
   ⟨0xC0000C, 1, 1, 1, 1, [⟨0, 8, .rw, 0⟩]⟩,
   ⟨0xC00010, 1, 1, 1, 1, [⟨0, 18, .ro, 0⟩]⟩,
   ⟨0xC00100, 64, 8, 1, 1, [⟨0, 1, .rw, 0⟩, ⟨1, 1, .rw, 0⟩, ⟨2, 1, .rw, 0⟩, ⟨3, 1, .rw, 0⟩, ⟨4, 1, .rw, 0⟩, ⟨16, 16, .rw, 16⟩]⟩,
   ⟨0xC00104, 64, 8, 1, 1, [⟨0, 12, .rw, 0⟩, ⟨12, 13, .rw, 0⟩]⟩,
   ⟨0xC00108, 64, 8, 1, 1, [⟨0, 14, .rw, 0⟩]⟩,
   ⟨0xC0010C, 64, 8, 1, 1, [⟨0, 32, .rw, 0⟩]⟩,
   ⟨0xC00110, 64, 8, 1, 1, [⟨0, 32, .rw, 0⟩]⟩,
   ⟨0xC00114, 64, 8, 1, 1, [⟨0, 16, .rw, 0⟩, ⟨16, 16, .rw, 0⟩]⟩,
   ⟨0xC00118, 64, 8, 1, 1, [⟨0, 2, .ro, 0⟩, ⟨2, 1, .ro, 0⟩, ⟨3, 2, .ro, 0⟩, ⟨5, 1, .ro, 0⟩, ⟨16, 16, .ro, 0⟩]⟩,
   ⟨0xC0011C, 64, 8, 1, 1, [⟨0, 32, .ro, 0⟩]⟩,
   ⟨0xC00120, 64, 8, 1, 1, [⟨0, 32, .ro, 0⟩]⟩,
   ⟨0xC00124, 64, 8, 4, 6, [⟨0, 32, .rc, 0⟩]⟩]
/-- Registers of block BEAM. -/
def regsBeam : List RegDesc :=
  [⟨0xE00000, 1, 1, 1, 1, [⟨0, 1, .rw, 0⟩, ⟨1, 2, .rw, 0⟩, ⟨3, 16, .rw, 0⟩]⟩,
   ⟨0xE00004, 1, 1, 1, 1, [⟨0, 1, .ro, 0⟩, ⟨1, 16, .ro, 0⟩]⟩,
   ⟨0xE00008, 1, 1, 1, 1, [⟨0, 24, .ro, 0⟩]⟩,
   ⟨0xE0000C, 1, 1, 1, 1, [⟨0, 11, .ro, 0⟩, ⟨11, 1, .ro, 0⟩]⟩,
   ⟨0xE00010, 1, 1, 1, 1, [⟨0, 7, .rw, 32⟩, ⟨7, 7, .rw, 8⟩]⟩,
   ⟨0xE00014, 1, 1, 1, 1, [⟨0, 11, .rw, 700⟩]⟩,
   ⟨0xE00018, 1, 1, 1, 1, [⟨0, 2, .rw, 0⟩, ⟨2, 5, .rw, 8⟩, ⟨7, 5, .rw, 0⟩, ⟨12, 16, .rw, 1024⟩, ⟨28, 1, .rw, 0⟩]⟩,
   ⟨0xE0001C, 1, 1, 1, 1, [⟨0, 12, .rw, 0⟩, ⟨12, 14, .rw, 0⟩, ⟨26, 1, .rw, 0⟩]⟩,
   ⟨0xE00020, 1, 1, 1, 1, [⟨0, 1, .rw, 0⟩, ⟨1, 1, .rw, 0⟩, ⟨2, 1, .rw, 0⟩, ⟨3, 16, .rw, 0⟩]⟩,
   ⟨0xE00024, 1, 1, 1, 1, [⟨0, 32, .rw, 1048576⟩]⟩,
   ⟨0xE00028, 1, 1, 1, 1, [⟨0, 32, .rw, 4294967295⟩]⟩,
   ⟨0xE0002C, 1, 1, 1, 1, [⟨0, 32, .rw, 0⟩]⟩,
   ⟨0xE00080, 4, 10, 1, 1, [⟨0, 32, .rc, 0⟩]⟩,
   ⟨0xE00100, 4, 16, 1, 1, [⟨0, 5, .rw, 8⟩]⟩,
   ⟨0xE00140, 4, 16, 1, 1, [⟨0, 1, .ro, 0⟩, ⟨1, 1, .ro, 0⟩, ⟨2, 1, .ro, 0⟩, ⟨3, 16, .ro, 0⟩]⟩,
   ⟨0xE00200, 4, 64, 1, 1, [⟨0, 12, .rw, 0⟩, ⟨12, 1, .rw, 0⟩, ⟨13, 14, .rw, 0⟩, ⟨27, 1, .rw, 0⟩, ⟨28, 1, .rw, 0⟩]⟩,
   ⟨0xE00400, 4, 128, 1, 1, [⟨0, 32, .rw, 0⟩]⟩,
   ⟨0xE01000, 4, 4096, 1, 1, [⟨0, 32, .rw, 0⟩]⟩]
/-- Registers of block GLEAN. -/
def regsGlean : List RegDesc :=
  [⟨0x1000000, 1, 1, 1, 1, [⟨0, 1, .rw, 0⟩, ⟨1, 1, .rw, 0⟩, ⟨2, 1, .rw, 0⟩, ⟨3, 1, .rw, 0⟩, ⟨4, 7, .rw, 1⟩]⟩,
   ⟨0x1000004, 1, 1, 1, 1, [⟨0, 7, .rw, 0⟩, ⟨14, 7, .rw, 32⟩]⟩,
   ⟨0x1000008, 1, 1, 1, 1, [⟨20, 12, .rw, 0⟩]⟩,
   ⟨0x100000C, 1, 1, 1, 1, [⟨0, 8, .rw, 0⟩]⟩,
   ⟨0x1000010, 1, 1, 1, 1, [⟨0, 32, .rw, 1048576⟩]⟩,
   ⟨0x1000014, 1, 1, 1, 1, [⟨0, 32, .ro, 0⟩]⟩,
   ⟨0x1000018, 1, 1, 1, 1, [⟨0, 32, .rw, 0⟩]⟩,
   ⟨0x100001C, 1, 1, 1, 1, [⟨0, 16, .rw, 1024⟩, ⟨16, 16, .rw, 1024⟩]⟩,
   ⟨0x1000020, 1, 1, 1, 1, [⟨0, 2, .ro, 0⟩, ⟨2, 1, .ro, 0⟩, ⟨3, 1, .ro, 0⟩, ⟨4, 1, .ro, 0⟩]⟩,
   ⟨0x1000024, 1, 1, 1, 1, [⟨0, 32, .ro, 0⟩]⟩,
   ⟨0x1000028, 1, 1, 1, 1, [⟨0, 18, .ro, 0⟩]⟩,
   ⟨0x100002C, 1, 1, 1, 1, [⟨0, 14, .rw, 0⟩]⟩,
   ⟨0x1000100, 4, 4, 1, 1, [⟨0, 32, .rc, 0⟩]⟩,
   ⟨0x1000400, 4, 128, 1, 1, [⟨0, 32, .rw, 0⟩]⟩]
/-- Registers of block BALER. -/
def regsBaler : List RegDesc :=
  [⟨0x1100000, 1, 1, 1, 1, [⟨0, 1, .rw, 0⟩, ⟨1, 13, .rw, 0⟩, ⟨14, 16, .rw, 64⟩]⟩,
   ⟨0x1100004, 1, 1, 1, 1, [⟨0, 1, .ro, 0⟩, ⟨1, 8, .ro, 0⟩]⟩,
   ⟨0x1100100, 4, 7, 1, 1, [⟨0, 32, .rc, 0⟩]⟩]
/-- Registers of block ETH. -/
def regsEth : List RegDesc :=
  [⟨0x1200000, 1, 1, 1, 1, [⟨0, 1, .rw, 0⟩, ⟨1, 8, .rw, 0⟩]⟩,
   ⟨0x1200004, 1, 1, 1, 1, [⟨0, 16, .ro, 0⟩, ⟨16, 1, .ro, 0⟩]⟩,
   ⟨0x1200010, 1, 1, 1, 1, [⟨0, 1, .rw, 0⟩, ⟨1, 2, .rw, 2⟩]⟩,
   ⟨0x1200014, 1, 1, 1, 1, [⟨0, 14, .rw, 0⟩, ⟨14, 14, .rw, 0⟩]⟩,
   ⟨0x1200018, 1, 1, 1, 1, [⟨0, 14, .rw, 0⟩]⟩,
   ⟨0x1200100, 64, 16, 1, 1, [⟨0, 2, .rw, 0⟩, ⟨2, 14, .rw, 9216⟩]⟩,
   ⟨0x1200104, 64, 16, 1, 1, [⟨0, 10, .rw, 768⟩, ⟨10, 8, .rw, 64⟩, ⟨18, 8, .rw, 16⟩, ⟨26, 6, .rw, 1⟩]⟩,
   ⟨0x1200108, 64, 16, 1, 1, [⟨0, 10, .ro, 0⟩, ⟨16, 16, .ro, 0⟩]⟩,
   ⟨0x120010C, 64, 16, 1, 1, [⟨0, 32, .rw, 0⟩]⟩,
   ⟨0x1200110, 64, 16, 1, 1, [⟨0, 16, .rw, 0⟩]⟩,
   ⟨0x1200114, 64, 16, 4, 4, [⟨0, 32, .rw, 0⟩]⟩,
   ⟨0x1200124, 64, 16, 1, 1, [⟨0, 14, .rw, 0⟩, ⟨14, 14, .rw, 0⟩, ⟨28, 1, .rw, 0⟩]⟩,
   ⟨0x1201000, 32, 16, 4, 8, [⟨0, 32, .rc, 0⟩]⟩,
   ⟨0x1300000, 64, 4096, 1, 1, [⟨0, 1, .rw, 0⟩, ⟨1, 1, .rw, 0⟩, ⟨2, 1, .rw, 1⟩, ⟨3, 16, .rw, 0⟩, ⟨19, 2, .rw, 1⟩, ⟨21, 6, .rw, 0⟩]⟩,
   ⟨0x1300004, 64, 4096, 1, 1, [⟨0, 16, .rw, 0⟩, ⟨16, 8, .rw, 64⟩, ⟨24, 8, .rw, 128⟩]⟩,
   ⟨0x1300008, 64, 4096, 1, 1, [⟨0, 32, .rw, 0⟩]⟩,
   ⟨0x130000C, 64, 4096, 1, 1, [⟨0, 16, .rw, 0⟩, ⟨16, 16, .rw, 0⟩]⟩,
   ⟨0x1300010, 64, 4096, 4, 4, [⟨0, 32, .rw, 0⟩]⟩,
   ⟨0x1300020, 64, 4096, 1, 1, [⟨0, 32, .ro, 0⟩]⟩,
   ⟨0x1300024, 64, 4096, 1, 1, [⟨0, 32, .ro, 0⟩]⟩,
   ⟨0x1300028, 64, 4096, 1, 1, [⟨0, 8, .ro, 0⟩]⟩]
/-- Registers of block RING. -/
def regsRing : List RegDesc :=
  [⟨0x1400000, 64, 16384, 1, 1, [⟨12, 20, .rw, 0⟩]⟩,
   ⟨0x1400004, 64, 16384, 1, 1, [⟨0, 32, .rw, 0⟩]⟩,
   ⟨0x1400008, 64, 16384, 1, 1, [⟨0, 5, .rw, 4⟩, ⟨5, 2, .rw, 0⟩, ⟨7, 6, .rw, 0⟩, ⟨13, 14, .rw, 0⟩]⟩,
   ⟨0x140000C, 64, 16384, 1, 1, [⟨0, 11, .rw, 0⟩, ⟨11, 8, .rw, 1⟩, ⟨19, 10, .rw, 0⟩]⟩,
   ⟨0x1400010, 64, 16384, 1, 1, [⟨0, 1, .w1s, 0⟩, ⟨1, 1, .w1s, 0⟩, ⟨2, 1, .w1s, 0⟩, ⟨3, 1, .w1s, 0⟩]⟩,
   ⟨0x1400014, 64, 16384, 1, 1, [⟨0, 17, .ro, 0⟩, ⟨17, 2, .ro, 0⟩, ⟨19, 4, .ro, 0⟩]⟩,
   ⟨0x1400018, 64, 16384, 1, 1, [⟨0, 17, .ro, 0⟩]⟩,
   ⟨0x140001C, 64, 16384, 1, 1, [⟨0, 32, .rw, 0⟩]⟩,
   ⟨0x1400020, 64, 16384, 1, 1, [⟨0, 20, .rw, 0⟩]⟩,
   ⟨0x1400024, 64, 16384, 1, 1, [⟨0, 32, .rw, 0⟩]⟩,
   ⟨0x1400028, 64, 16384, 1, 1, [⟨0, 18, .rw, 0⟩]⟩,
   ⟨0x140002C, 64, 16384, 1, 1, [⟨0, 18, .rw, 0⟩]⟩,
   ⟨0x1400030, 64, 16384, 1, 1, [⟨0, 16, .rc, 0⟩, ⟨16, 16, .rc, 0⟩]⟩]
/-- Registers of block DMA. -/
def regsDma : List RegDesc :=
  [⟨0x1800000, 1, 1, 1, 1, [⟨0, 7, .rw, 50⟩, ⟨7, 1, .rw, 0⟩]⟩,
   ⟨0x1800004, 1, 1, 1, 1, [⟨0, 3, .ro, 0⟩, ⟨3, 5, .ro, 0⟩, ⟨8, 1, .ro, 0⟩, ⟨9, 1, .ro, 0⟩]⟩,
   ⟨0x1800010, 4, 6, 1, 1, [⟨0, 32, .rc, 0⟩]⟩,
   ⟨0x1800100, 16, 64, 1, 1, [⟨0, 11, .rw, 1024⟩, ⟨11, 8, .rw, 16⟩]⟩,
   ⟨0x1800104, 16, 64, 1, 1, [⟨0, 1, .w1s, 0⟩, ⟨1, 1, .w1s, 0⟩]⟩,
   ⟨0x1800108, 16, 64, 1, 1, [⟨0, 2, .ro, 0⟩, ⟨2, 14, .ro, 0⟩]⟩,
   ⟨0x180010C, 16, 64, 1, 1, [⟨0, 32, .ro, 0⟩]⟩]
/-- Registers of block HBM. -/
def regsHbm : List RegDesc :=
  [⟨0x1A00000, 1, 1, 1, 1, [⟨0, 5, .rw, 10⟩, ⟨5, 1, .rw, 1⟩, ⟨6, 1, .rw, 1⟩, ⟨8, 8, .rw, 24⟩]⟩,
   ⟨0x1A00004, 1, 1, 1, 1, [⟨0, 6, .ro, 0⟩, ⟨6, 1, .ro, 0⟩, ⟨7, 6, .ro, 0⟩]⟩,
   ⟨0x1A00010, 4, 6, 1, 1, [⟨0, 8, .ro, 0⟩, ⟨8, 2, .ro, 0⟩, ⟨10, 1, .ro, 0⟩, ⟨11, 2, .ro, 0⟩]⟩,
   ⟨0x1A00040, 4, 8, 1, 1, [⟨0, 16, .rw, 0⟩]⟩,
   ⟨0x1A00060, 4, 8, 1, 1, [⟨0, 16, .rc, 0⟩]⟩,
   ⟨0x1A00080, 4, 8, 1, 1, [⟨0, 32, .rc, 0⟩]⟩,
   ⟨0x1A00100, 4, 8, 1, 1, [⟨0, 32, .rc, 0⟩]⟩,
   ⟨0x1A00200, 1, 1, 1, 1, [⟨0, 8, .ro, 0⟩, ⟨8, 3, .ro, 0⟩, ⟨11, 1, .ro, 0⟩, ⟨12, 1, .ro, 0⟩]⟩,
   ⟨0x1A00204, 1, 1, 1, 1, [⟨0, 32, .ro, 0⟩]⟩,
   ⟨0x1A00208, 1, 1, 1, 1, [⟨0, 8, .ro, 0⟩]⟩]
/-- Registers of block XBAR. -/
def regsXbar : List RegDesc :=
  [⟨0x1C00000, 1, 1, 1, 1, [⟨0, 24, .wo, 0⟩]⟩,
   ⟨0x1C00004, 1, 1, 1, 1, [⟨0, 8, .rw, 0⟩]⟩,
   ⟨0x1C00010, 4, 4, 1, 1, [⟨0, 32, .rc, 0⟩]⟩,
   ⟨0x1C00100, 16, 24, 1, 1, [⟨0, 2, .ro, 0⟩, ⟨2, 2, .ro, 0⟩, ⟨4, 1, .ro, 0⟩, ⟨5, 1, .ro, 0⟩, ⟨8, 3, .ro, 0⟩]⟩,
   ⟨0x1C00104, 16, 24, 1, 1, [⟨0, 32, .ro, 0⟩]⟩,
   ⟨0x1C00108, 16, 24, 1, 1, [⟨0, 32, .ro, 0⟩]⟩]
/-- Registers of block REF. -/
def regsRef : List RegDesc :=
  [⟨0x1D00000, 1, 1, 1, 1, [⟨0, 1, .rw, 0⟩, ⟨1, 1, .rw, 0⟩, ⟨2, 1, .ro, 0⟩]⟩,
   ⟨0x1D00004, 1, 1, 1, 1, [⟨0, 3, .rw, 6⟩, ⟨3, 1, .rw, 1⟩, ⟨4, 1, .rw, 1⟩, ⟨5, 1, .rw, 1⟩, ⟨6, 4, .rw, 6⟩, ⟨10, 1, .rw, 0⟩, ⟨11, 1, .rw, 0⟩]⟩,
   ⟨0x1D00008, 1, 1, 1, 1, [⟨0, 2, .ro, 0⟩, ⟨2, 3, .ro, 7⟩, ⟨5, 1, .ro, 0⟩, ⟨6, 1, .ro, 0⟩, ⟨7, 4, .ro, 0⟩, ⟨11, 6, .ro, 0⟩, ⟨17, 6, .ro, 0⟩, ⟨23, 1, .ro, 0⟩, ⟨24, 1, .ro, 0⟩, ⟨25, 3, .ro, 0⟩]⟩,
   ⟨0x1D0000C, 1, 1, 1, 1, [⟨0, 10, .rw, 64⟩, ⟨10, 10, .rw, 5⟩, ⟨20, 12, .rw, 60⟩]⟩,
   ⟨0x1D00010, 1, 1, 1, 1, [⟨0, 16, .rw, 1000⟩]⟩,
   ⟨0x1D00014, 1, 1, 1, 1, [⟨0, 32, .ro, 0⟩]⟩,
   ⟨0x1D00018, 1, 1, 1, 1, [⟨0, 32, .rw, 0⟩]⟩,
   ⟨0x1D0001C, 1, 1, 1, 1, [⟨0, 32, .ro, 0⟩]⟩,
   ⟨0x1D00020, 1, 1, 1, 1, [⟨0, 32, .ro, 0⟩]⟩,
   ⟨0x1D00024, 1, 1, 1, 1, [⟨0, 32, .ro, 0⟩]⟩,
   ⟨0x1D00028, 1, 1, 1, 1, [⟨0, 32, .ro, 0⟩]⟩,
   ⟨0x1D0002C, 1, 1, 1, 1, [⟨0, 20, .rw, 10000⟩]⟩,
   ⟨0x1D00030, 1, 1, 1, 1, [⟨0, 16, .rw, 1440⟩, ⟨16, 16, .rw, 3600⟩]⟩,
   ⟨0x1D00034, 1, 1, 1, 1, [⟨0, 32, .rw, 0⟩]⟩,
   ⟨0x1D00038, 1, 1, 1, 1, [⟨0, 16, .rw, 0⟩]⟩,
   ⟨0x1D0003C, 1, 1, 1, 1, [⟨0, 16, .rw, 10000⟩, ⟨16, 8, .rw, 4⟩]⟩,
   ⟨0x1D00040, 1, 1, 1, 1, [⟨0, 32, .rw, 250000⟩]⟩,
   ⟨0x1D00044, 1, 1, 1, 1, [⟨0, 28, .rw, 0⟩]⟩,
   ⟨0x1D00048, 1, 1, 1, 1, [⟨0, 7, .rw, 0⟩]⟩,
   ⟨0x1D0004C, 1, 1, 1, 1, [⟨0, 7, .rw, 0⟩]⟩,
   ⟨0x1D00100, 32, 6, 1, 1, [⟨0, 1, .rw, 0⟩, ⟨1, 3, .rw, 0⟩, ⟨4, 2, .rw, 1⟩]⟩,
   ⟨0x1D00104, 32, 6, 1, 1, [⟨0, 16, .rw, 10⟩, ⟨16, 16, .rw, 50⟩]⟩,
   ⟨0x1D00108, 32, 6, 1, 1, [⟨0, 16, .rw, 100⟩]⟩,
   ⟨0x1D0010C, 32, 6, 1, 1, [⟨0, 3, .ro, 0⟩, ⟨3, 2, .ro, 0⟩, ⟨5, 1, .ro, 0⟩]⟩,
   ⟨0x1D00110, 32, 6, 1, 1, [⟨0, 32, .ro, 0⟩]⟩,
   ⟨0x1D00200, 4, 8, 1, 1, [⟨0, 1, .rw, 0⟩, ⟨1, 10, .rw, 50⟩, ⟨11, 7, .rw, 0⟩, ⟨18, 2, .rw, 0⟩]⟩,
   ⟨0x1D00300, 4, 7, 1, 1, [⟨0, 32, .rc, 0⟩]⟩]
/-- Registers of block TIME. -/
def regsTime : List RegDesc :=
  [⟨0x1E00000, 1, 1, 1, 1, [⟨0, 1, .rw, 0⟩, ⟨1, 1, .ro, 0⟩]⟩,
   ⟨0x1E00004, 1, 1, 1, 1, [⟨0, 2, .rw, 0⟩, ⟨2, 4, .rw, 4⟩, ⟨6, 4, .rw, 0⟩]⟩,
   ⟨0x1E00008, 1, 1, 1, 1, [⟨0, 4, .rw, 4⟩]⟩,
   ⟨0x1E0000C, 1, 1, 1, 1, [⟨0, 32, .rw, 0⟩]⟩,
   ⟨0x1E00010, 1, 1, 1, 1, [⟨0, 32, .ro, 0⟩]⟩,
   ⟨0x1E00014, 1, 1, 1, 1, [⟨0, 16, .rw, 20000⟩, ⟨16, 16, .rw, 100⟩]⟩,
   ⟨0x1E00018, 1, 1, 1, 1, [⟨0, 30, .rw, 1000⟩]⟩,
   ⟨0x1E0001C, 1, 1, 1, 1, [⟨0, 32, .rw, 0⟩]⟩,
   ⟨0x1E00020, 1, 1, 1, 1, [⟨0, 16, .rw, 0⟩, ⟨16, 16, .rw, 0⟩]⟩,
   ⟨0x1E00024, 1, 1, 1, 1, [⟨0, 1, .ro, 0⟩, ⟨1, 1, .ro, 0⟩, ⟨2, 1, .ro, 0⟩, ⟨3, 8, .ro, 0⟩]⟩,
   ⟨0x1E00028, 1, 1, 1, 1, [⟨0, 32, .ro, 0⟩]⟩,
   ⟨0x1E0002C, 1, 1, 1, 1, [⟨0, 32, .ro, 0⟩]⟩,
   ⟨0x1E00030, 1, 1, 1, 1, [⟨0, 32, .ro, 0⟩]⟩,
   ⟨0x1E00034, 1, 1, 1, 1, [⟨0, 16, .ro, 0⟩, ⟨16, 16, .ro, 0⟩]⟩,
   ⟨0x1E00038, 1, 1, 1, 1, [⟨0, 14, .rw, 0⟩, ⟨14, 1, .rw, 0⟩, ⟨15, 1, .rw, 0⟩]⟩,
   ⟨0x1E00040, 4, 4, 1, 1, [⟨0, 1, .rw, 0⟩, ⟨1, 1, .rw, 0⟩, ⟨2, 2, .rw, 0⟩, ⟨4, 1, .rw, 0⟩, ⟨5, 1, .rw, 0⟩]⟩,
   ⟨0x1E00100, 4, 7, 1, 1, [⟨0, 32, .rc, 0⟩]⟩]
/-- Registers of block ALM. -/
def regsAlm : List RegDesc :=
  [⟨0x1F00000, 1, 1, 1, 1, [⟨0, 1, .rw, 0⟩, ⟨1, 14, .rw, 0⟩]⟩,
   ⟨0x1F00004, 1, 1, 1, 1, [⟨0, 9, .ro, 0⟩, ⟨9, 8, .ro, 0⟩, ⟨17, 1, .ro, 0⟩]⟩,
   ⟨0x1F00008, 1, 1, 1, 1, [⟨0, 32, .ro, 0⟩]⟩,
   ⟨0x1F00100, 4, 6, 1, 1, [⟨0, 32, .rc, 0⟩]⟩,
   ⟨0x1F00800, 4, 256, 1, 1, [⟨0, 1, .ro, 0⟩, ⟨8, 8, .ro, 0⟩, ⟨16, 16, .ro, 0⟩]⟩,
   ⟨0x1F01000, 128, 256, 4, 32, [⟨0, 32, .ro, 0⟩]⟩]
/-- Registers of block ADC. -/
def regsAdc : List RegDesc :=
  [⟨0x2000000, 1, 1, 1, 1, [⟨0, 1, .rw, 0⟩, ⟨1, 1, .rw, 0⟩, ⟨2, 1, .rw, 0⟩, ⟨3, 6, .rw, 1⟩, ⟨9, 4, .rw, 1⟩, ⟨13, 7, .rw, 16⟩]⟩,
   ⟨0x2000004, 1, 1, 1, 1, [⟨0, 20, .rw, 0⟩]⟩,
   ⟨0x2000008, 1, 1, 1, 1, [⟨0, 14, .rw, 0⟩]⟩,
   ⟨0x200000C, 1, 1, 1, 1, [⟨0, 5, .rw, 0⟩, ⟨5, 1, .w1s, 0⟩, ⟨6, 1, .ro, 0⟩, ⟨7, 1, .ro, 0⟩, ⟨8, 12, .ro, 0⟩]⟩,
   ⟨0x2000010, 1, 1, 1, 1, [⟨0, 2, .ro, 0⟩, ⟨2, 5, .ro, 0⟩, ⟨7, 1, .ro, 0⟩, ⟨8, 7, .ro, 0⟩]⟩,
   ⟨0x2000014, 1, 1, 1, 1, [⟨0, 24, .ro, 0⟩, ⟨31, 1, .ro, 0⟩]⟩,
   ⟨0x2000018, 1, 1, 1, 1, [⟨0, 32, .ro, 0⟩]⟩,
   ⟨0x2000020, 1, 1, 1, 1, [⟨0, 8, .rw, 100⟩, ⟨8, 8, .rw, 115⟩]⟩,
   ⟨0x2000100, 4, 5, 1, 1, [⟨0, 32, .rc, 0⟩]⟩,
   ⟨0x2000200, 4, 16, 1, 1, [⟨0, 16, .ro, 0⟩]⟩,
   ⟨0x2000400, 4, 32, 1, 1, [⟨0, 5, .rw, 0⟩]⟩,
   ⟨0x2000480, 4, 8, 1, 1, [⟨0, 5, .rw, 0⟩]⟩]
/-- Registers of block DAC. -/
def regsDac : List RegDesc :=
  [⟨0x2100000, 1, 1, 1, 1, [⟨0, 1, .rw, 0⟩, ⟨1, 8, .rw, 255⟩]⟩,
   ⟨0x2100004, 1, 1, 1, 1, [⟨0, 1, .w1s, 0⟩]⟩,
   ⟨0x2100008, 1, 1, 1, 1, [⟨0, 8, .ro, 255⟩, ⟨8, 8, .ro, 0⟩, ⟨16, 8, .ro, 0⟩, ⟨24, 1, .ro, 0⟩, ⟨25, 1, .ro, 0⟩]⟩,
   ⟨0x2100020, 4, 4, 1, 1, [⟨0, 32, .rc, 0⟩]⟩,
   ⟨0x2100100, 16, 8, 1, 1, [⟨0, 2, .ro, 0⟩, ⟨2, 1, .rw, 1⟩, ⟨3, 1, .ro, 0⟩, ⟨16, 16, .ro, 0⟩]⟩,
   ⟨0x2100104, 16, 8, 1, 1, [⟨0, 12, .rw, 0⟩, ⟨12, 20, .rw, 0⟩]⟩,
   ⟨0x2100108, 16, 8, 1, 1, [⟨0, 16, .ro, 0⟩, ⟨16, 16, .ro, 0⟩]⟩,
   ⟨0x210010C, 16, 8, 1, 1, [⟨0, 16, .ro, 0⟩, ⟨16, 1, .ro, 0⟩]⟩]
/-- Registers of block CRC. -/
def regsCrc : List RegDesc :=
  [⟨0x2200000, 1, 1, 1, 1, [⟨0, 7, .ro, 0⟩]⟩,
   ⟨0x2200100, 4, 4, 1, 1, [⟨0, 32, .rc, 0⟩]⟩]
/-- Registers of block TWIN. -/
def regsTwin : List RegDesc :=
  [⟨0x2300000, 1, 1, 1, 1, [⟨0, 1, .rw, 0⟩, ⟨1, 1, .ro, 0⟩, ⟨2, 1, .rw, 1⟩, ⟨3, 10, .rw, 100⟩, ⟨13, 10, .rw, 64⟩]⟩,
   ⟨0x2300004, 1, 1, 1, 1, [⟨0, 2, .ro, 0⟩, ⟨2, 1, .ro, 0⟩, ⟨3, 1, .ro, 0⟩, ⟨4, 1, .ro, 0⟩, ⟨5, 1, .ro, 0⟩, ⟨6, 4, .ro, 0⟩, ⟨10, 1, .ro, 0⟩, ⟨11, 1, .ro, 0⟩]⟩,
   ⟨0x2300008, 1, 1, 1, 1, [⟨0, 18, .rw, 0⟩]⟩,
   ⟨0x230000C, 1, 1, 1, 1, [⟨0, 18, .ro, 0⟩]⟩,
   ⟨0x2300010, 1, 1, 1, 1, [⟨0, 32, .ro, 0⟩]⟩,
   ⟨0x2300100, 4, 6, 1, 1, [⟨0, 32, .rc, 0⟩]⟩]
/-- Registers of block WEAVE. -/
def regsWeave : List RegDesc :=
  [⟨0x2400000, 1, 1, 1, 1, [⟨0, 2, .rw, 0⟩, ⟨2, 1, .rw, 0⟩, ⟨3, 1, .rw, 0⟩, ⟨4, 4, .rw, 0⟩, ⟨8, 10, .rw, 100⟩, ⟨18, 10, .rw, 1000⟩]⟩,
   ⟨0x2400004, 1, 1, 1, 1, [⟨0, 3, .ro, 0⟩, ⟨3, 3, .ro, 0⟩, ⟨6, 1, .ro, 0⟩]⟩,
   ⟨0x2400008, 1, 1, 1, 1, [⟨0, 32, .rw, 0⟩]⟩,
   ⟨0x240000C, 1, 1, 1, 1, [⟨0, 32, .rw, 0⟩]⟩,
   ⟨0x2400010, 1, 1, 1, 1, [⟨0, 16, .rw, 0⟩]⟩,
   ⟨0x2400020, 4, 3, 1, 1, [⟨0, 24, .ro, 0⟩]⟩,
   ⟨0x2400100, 4, 6, 1, 1, [⟨0, 32, .rc, 0⟩]⟩]
/-- Registers of block AVS. -/
def regsAvs : List RegDesc :=
  [⟨0x2500000, 1, 1, 1, 1, [⟨0, 1, .rw, 0⟩, ⟨1, 1, .ro, 0⟩, ⟨2, 10, .rw, 100⟩, ⟨12, 7, .rw, 25⟩, ⟨19, 6, .rw, 4⟩, ⟨25, 6, .rw, 12⟩]⟩,
   ⟨0x2500004, 1, 1, 1, 1, [⟨0, 5, .ro, 16⟩, ⟨5, 5, .ro, 0⟩, ⟨10, 5, .ro, 0⟩]⟩,
   ⟨0x2500100, 4, 5, 1, 1, [⟨0, 10, .ro, 0⟩, ⟨10, 10, .ro, 0⟩, ⟨20, 10, .ro, 0⟩, ⟨30, 1, .ro, 0⟩]⟩,
   ⟨0x2500200, 4, 4, 1, 1, [⟨0, 32, .rc, 0⟩]⟩]
/-- Registers of block HKC. -/
def regsHkc : List RegDesc :=
  [⟨0x2600000, 1, 1, 1, 1, [⟨0, 1, .ro, 0⟩, ⟨16, 16, .ro, 0⟩]⟩]
/-- Registers of block DBG. -/
def regsDbg : List RegDesc :=
  [⟨0x2700000, 1, 1, 1, 1, [⟨0, 2, .ro, 0⟩, ⟨2, 2, .ro, 0⟩, ⟨4, 1, .w1s, 0⟩]⟩,
   ⟨0x2700010, 4, 8, 1, 1, [⟨0, 32, .ro, 0⟩]⟩,
   ⟨0x2700040, 4, 16, 1, 1, [⟨0, 32, .wo, 0⟩]⟩,
   ⟨0x2700100, 4, 16, 1, 1, [⟨0, 12, .rw, 0⟩]⟩,
   ⟨0x2700180, 4, 2, 1, 1, [⟨0, 8, .rw, 0⟩]⟩]
/-- Registers of block FUSE. -/
def regsFuse : List RegDesc :=
  [⟨0x2800000, 1, 1, 1, 1, [⟨0, 1, .ro, 0⟩, ⟨4, 4, .ro, 0⟩, ⟨8, 1, .ro, 0⟩, ⟨9, 1, .ro, 0⟩, ⟨10, 1, .ro, 0⟩, ⟨11, 8, .ro, 0⟩, ⟨19, 2, .ro, 0⟩, ⟨21, 3, .ro, 0⟩]⟩,
   ⟨0x2800004, 1, 1, 1, 1, [⟨0, 32, .ro, 0⟩]⟩,
   ⟨0x2800008, 1, 1, 1, 1, [⟨0, 32, .ro, 0⟩]⟩,
   ⟨0x2800010, 4, 12, 1, 1, [⟨0, 32, .ro, 0⟩]⟩,
   ⟨0x2800040, 4, 12, 1, 1, [⟨0, 32, .rw, 0⟩]⟩,
   ⟨0x2800080, 1, 1, 1, 1, [⟨0, 1, .wo, 0⟩, ⟨1, 1, .wo, 0⟩, ⟨8, 24, .wo, 0⟩]⟩]

/-- The assigned blocks of R577 with their registers. -/
def blockMap : List (Block × List RegDesc) :=
  [(⟨0, 0x0, 0xFFFFF⟩, regsGlb),
   (⟨1, 0x100000, 0x1FFFFF⟩, regsEvt),
   (⟨2, 0x200000, 0x3FFFFF⟩, regsLane),
   (⟨3, 0x400000, 0x5FFFFF⟩, regsIngest),
   (⟨4, 0x600000, 0x6FFFFF⟩, regsHarrow),
   (⟨5, 0x700000, 0x7FFFFF⟩, regsWeed),
   (⟨6, 0x800000, 0x8FFFFF⟩, regsTurn),
   (⟨7, 0x900000, 0xBFFFFF⟩, regsCorr),
   (⟨8, 0xC00000, 0xDFFFFF⟩, regsGran),
   (⟨9, 0xE00000, 0xFFFFFF⟩, regsBeam),
   (⟨10, 0x1000000, 0x10FFFFF⟩, regsGlean),
   (⟨11, 0x1100000, 0x11FFFFF⟩, regsBaler),
   (⟨12, 0x1200000, 0x13FFFFF⟩, regsEth),
   (⟨13, 0x1400000, 0x17FFFFF⟩, regsRing),
   (⟨14, 0x1800000, 0x19FFFFF⟩, regsDma),
   (⟨15, 0x1A00000, 0x1BFFFFF⟩, regsHbm),
   (⟨16, 0x1C00000, 0x1CFFFFF⟩, regsXbar),
   (⟨17, 0x1D00000, 0x1DFFFFF⟩, regsRef),
   (⟨18, 0x1E00000, 0x1EFFFFF⟩, regsTime),
   (⟨19, 0x1F00000, 0x1FFFFFF⟩, regsAlm),
   (⟨20, 0x2000000, 0x20FFFFF⟩, regsAdc),
   (⟨21, 0x2100000, 0x21FFFFF⟩, regsDac),
   (⟨22, 0x2200000, 0x22FFFFF⟩, regsCrc),
   (⟨23, 0x2300000, 0x23FFFFF⟩, regsTwin),
   (⟨24, 0x2400000, 0x24FFFFF⟩, regsWeave),
   (⟨25, 0x2500000, 0x25FFFFF⟩, regsAvs),
   (⟨26, 0x2600000, 0x26FFFFF⟩, regsHkc),
   (⟨27, 0x2700000, 0x27FFFFF⟩, regsDbg),
   (⟨28, 0x2800000, 0x28FFFFF⟩, regsFuse)]

/-- Does this description's register lie at byte offset `a`? -/
def RegDesc.at (r : RegDesc) (a : Nat) : Bool :=
  r.base ≤ a && (a - r.base) / r.s1 < r.n1 && ((a - r.base) % r.s1) / r.s2 < r.n2 && ((a - r.base) % r.s1) % r.s2 == 0

/-- The assigned block that holds offset `a`, if any (R19). -/
def blockOf (a : Nat) : Option Block :=
  (blockMap.find? (fun b => b.1.first ≤ a && a ≤ b.1.last)).map (·.1)

/-- The description of the register at offset `a`, if there is one. -/
def regAt (a : Nat) : Option RegDesc :=
  (blockMap.find? (fun b => b.1.first ≤ a && a ≤ b.1.last)).bind (fun b => b.2.find? (fun r => r.at a))

end Sys2Proof.Machine
end

