-- ==== Sys2Proof/Machine/Parts.lean ====
section
/-! DEFINITION. The parts of the state outside the registers, as plain data, chapter by chapter. A field's default is
its value after power-on reset; a field's docstring names the rule that gives it. -/

namespace Sys2Proof.Machine

/-! ### Time stamps (R12) -/

/-- A time stamp: SEC, NS and FRAC_NS (units of 2^-16 ns). -/
structure Stamp where
  sec : Nat := 0
  ns : Nat := 0
  frac : Nat := 0
deriving DecidableEq, Repr

/-! ### Host interface, rings and DMA (spec/13_host_rings_and_dma.md) -/

/-- Who is told when a command completes: a record slot of a ring (R358), or the fire record of an almanac firing (R451). -/
inductive CmdRef where
  | slot (ring id : Nat)
  | exec (seq : Nat)
deriving DecidableEq, Repr

/-- A completion record without RING, SQ_HEAD and PHASE, which its writing adds (R356). -/
structure CplRec where
  tag : Nat := 0
  status : Nat := 0
  late : Bool := false
  cut : Bool := false
  first : Bool := false
  last : Bool := false
  chained : Bool := false
  count : Nat := 0
  residue : Nat := 0
  aux : Nat := 0
deriving DecidableEq, Repr

/-- One entry's place in the record store, in entry order (R358); `head` is the consumer position after the entry. -/
structure RecSlot where
  id : Nat
  head : Nat
  tag : Nat
  chained : Bool
  result : Option CplRec
deriving DecidableEq, Repr

/-- A fetched descriptor that has not started: its 64 bytes, its position and the one after it, whether it lies in a chain. -/
structure Entry where
  bytes : List Byte
  pos : Nat
  head : Nat
  chained : Bool
deriving DecidableEq, Repr

/-- A chain being followed: next descriptor address, position of the ring's LINK entry and the one after it (R353). -/
structure Chain where
  addr : Nat
  linkPos : Nat
  nextPos : Nat
deriving DecidableEq, Repr

/-- A posted delivery buffer (R360). -/
structure PostedBuf where
  slot : Nat
  addr : Nat
  len : Nat
deriving DecidableEq, Repr

/-- What a producer does when its delivery ring has no free buffer (R360): wait, drop, or drop and count in a register. -/
inductive NoBuffer where
  | waits
  | drops
  | counts (reg : Nat)
deriving DecidableEq, Repr

/-- A producer's message; ALIVE and its check value are put in where it is written (R361, R315, R497):
`alive` is the offset of ALIVE, `crc` the covered length from byte 0 and the offset of the CRC-32C. -/
structure Msg where
  producer : Nat
  bytes : List Byte
  alive : Option Nat := none
  crc : Option (Nat × Nat) := none
  full : NoBuffer := .waits
deriving DecidableEq, Repr

/-- A transfer of a DMA channel (R362): COPY or CRC_SCAN; `done` bytes are finished, `busy` is the tag of an outstanding read. -/
structure Xfer where
  ref : CmdRef
  desc : List Byte
  scan : Bool
  total : Nat
  done : Nat := 0
  begun : Bool := false
  busy : Option Nat := none
  /-- check value so far, of a scan. -/
  acc : Nat := 0
  /-- a scan cut short by its window (R499). -/
  short : Bool := false
  /-- status that ends the transfer after its current burst (R342, R366). -/
  cut : Option Nat := none
deriving DecidableEq, Repr

/-- The state of one ring outside its registers. -/
structure RingSt where
  /-- last doorbell value written (R334). -/
  doorbell : Nat := 0
  /-- position of the next entry to fetch (R336). -/
  fetchPos : Nat := 0
  /-- entries fetched and not started. -/
  queue : List Entry := []
  /-- a fetch is outstanding. -/
  fetching : Bool := false
  /-- chain being followed (R353). -/
  chain : Option Chain := none
  /-- LINKs followed without work (R354). -/
  links : Nat := 0
  /-- step of the entry last taken within its chain (R538). -/
  step : Nat := 0
  /-- record store in entry order (R358). -/
  slots : List RecSlot := []
  /-- next slot number. -/
  nextId : Nat := 0
  /-- the descriptor in progress (R342). -/
  xfer : Option Xfer := none
  /-- free buffers of a delivery ring (R360). -/
  bufs : List PostedBuf := []
  /-- messages that wait for the ring, oldest first. -/
  msgs : List Msg := []
  /-- the message being written: its producer and the bytes left. -/
  cur : Option (Nat × List Byte) := none
  /-- alive counter of a delivery ring (R361). -/
  alive : Nat := 0
  /-- messages dropped since the ring's previous record (R356, AUX). -/
  dropped : Nat := 0
  /-- a completion ring's coalescing is armed (R368). -/
  armed : Bool := false
  /-- records written since ARM. -/
  since : Nat := 0
  /-- a run of waiting records is in progress on this completion ring (R359). -/
  waiting : Bool := false
deriving DecidableEq, Repr

/-- Why a host read was made. -/
inductive ReadUse where
  | entries (ring count : Nat)
  | chain (ring count : Nat)
  | burst (ring len : Nat)
  /-- a chain fetch that a ring reset has ended; its record waits for the answer (R342). -/
  | cut (ring slot : Nat)
  /-- a matrix request, read piece by piece: what has come, and the bytes that are still to be asked for. -/
  | matrix (master : Nat) (got : List Byte) (left : Nat)
deriving DecidableEq, Repr

/-- An outstanding host read (R328: at most 768 tags), and whether it carries Relaxed Ordering. -/
structure HostReq where
  tag : Nat
  addr : Nat
  len : Nat
  use : ReadUse
  ro : Bool := false
deriving DecidableEq, Repr

/-- A DMA channel outside its registers: round-robin pointer, token bucket in 1/1,024 of a byte (R362, R363), and the rings whose
transfers an abort is ending with the residues summed so far (R366). -/
structure DmaChSt where
  lastRing : Nat := 0
  tokens : Nat := 0
  /-- rings whose transfer an abort still has to end, the lowest ring ended, and the residues so far (R366). -/
  aborting : List Nat := []
  lowest : Nat := 0x3FFF
  residue : Nat := 0
  abortOpen : Bool := false
deriving DecidableEq, Repr

/-- Rings and DMA. Log: 5 (DESIGN CHOICE). -/
structure HostSt where
  /-- rings that differ from a ring after reset, by ring number. -/
  rings : List (Nat × RingSt) := []
  /-- channels that differ from a channel after reset. -/
  chans : List (Nat × DmaChSt) := []
  /-- outstanding host reads. -/
  reads : List HostReq := []
  /-- tags whose completion timed out and that are not yet free again (R364). -/
  lateTags : List Nat := []
  /-- next tag. -/
  nextTag : Nat := 0
  /-- MSI-X table of BAR4 (R329): vector to its 16 bytes as (address, data, control). -/
  msix : List (Nat × (Nat × Nat × Nat)) := []
  /-- Pending Bit Array. -/
  pba : List Nat := []
  /-- PCIe Device Control and power state (R328): Max Payload Size, Max Read Request Size, Relaxed Ordering, D3hot. -/
  mps : Nat := 128
  mrrs : Nat := 512
  relaxed : Bool := false
  d3hot : Bool := false
  /-- AER status register of the last logged error (R328). -/
  aer : Nat := 0
  /-- what the last read of BAR2 or BAR4 returned (R334). -/
  barData : Nat := 0
deriving DecidableEq, Repr

/-! ### Egress (spec/12_egress_streams.md) -/

/-- A packet waiting for a port: its stream (none for a class 3 frame), class, PKT_SEQ, UDP payload or whole frame, and whether it is
sent again (R323). -/
structure Pkt where
  stream : Option Nat
  cls : Nat
  seq : Nat
  bytes : List Byte
  again : Bool := false
deriving DecidableEq, Repr

/-- An egress stream outside its registers. -/
structure StreamSt where
  /-- PKT_SEQ of the next packet (R313), 64 bits. -/
  pktSeq : Nat := 0
  /-- packets of class 1–3 not yet handed to a port (R314). -/
  queue : List Pkt := []
  /-- port last used (R314). -/
  lastPort : Option Nat := none
  /-- PKT_SEQ of the last packet sent (R528). -/
  sentSeq : Option Nat := none
deriving DecidableEq, Repr

/-- A data port's scheduler (R318, R320): class 0 packets and TX-ring frames that wait. -/
structure PortSt where
  c0 : List Pkt := []
  c3 : List Pkt := []
  /-- packet on the wire or in the transmit buffer (R323). -/
  wire : Option Pkt := none
  /-- the shaper's bucket in bits / 1,024 (R320). -/
  tokens : Nat := 0
  /-- bytes sent beyond the last whole KiB. -/
  odd : Nat := 0
  deficit : List Nat := [0, 0, 0]
  /-- class whose turn it is, 1–3. -/
  turn : Nat := 1
  /-- stream last served in each class. -/
  last : List Nat := [0, 0, 0]
  /-- link rate in Gb/s, as committed; 0 when the port does not exist (R306). -/
  rate : Nat := 0
  /-- depth of the shaper's bucket in bytes, as committed (R320). -/
  depth : Nat := 0
  /-- the head class 0 packet has been counted as held (R321). -/
  held : Bool := false
deriving DecidableEq, Repr

/-- Egress. -/
structure EthSt where
  streams : List (Nat × StreamSt) := []
  ports : List (Nat × PortSt) := []
  /-- ETH_C0_HELD has been raised since commit (R321). -/
  heldRaised : Bool := false
  /-- the registers of the block as they took effect at the last commit (R326), where they differ from reset. -/
  regs : List (Nat × Word) := []
deriving DecidableEq, Repr

/-! ### Events (spec/18_integrity_and_events.md) -/

/-- A record waiting in the event store (R487, R489): identifier, count, DETAIL, full time (SEC, NS, FRAC_NS), queue, and whether its time is
marked invalid, taken from a stale copy of the counter (R41). -/
structure EvtRec where
  event : Nat
  count : Nat
  detail : Nat
  sec : Nat
  ns : Nat
  frac : Nat
  queue : Nat
  stale : Bool := false
deriving DecidableEq, Repr

/-- Events outside the registers. -/
structure EvtSt where
  /-- the store, in order of creation (R489). -/
  store : List EvtRec := []
  /-- occurrences that the island holds while the core is in a kept reset (R493). -/
  held : List EvtRec := []
deriving DecidableEq, Repr

/-! ### Start-up, pins and fuses (spec/20_startup_reset_compat.md, spec/22_register_map.md) -/

/-- The fuse array (R548); it outlives every reset and changes only by programming (R581). Log: 3 (DESIGN CHOICE). -/
structure FuseArray where
  /-- identity group. -/
  serial : Nat := 0
  variant : Nat := 0
  rev : Nat := 0
  /-- AVS V_MIN and V_MAX in mV (R467). -/
  vMin : Nat := 650
  vMax : Nat := 850
  /-- VDD_C set point in mV, AVSBus rail address 4 (R467). -/
  vddC : Nat := 750
  /-- furrows retired in production, 68 m + f (R178). -/
  spares : List Nat := []
  /-- lane seeds: one word image of LANE_CFG and of LANE_EQ per lane that differs from 0 (R52, R53). -/
  laneCfg : List (Nat × Nat) := []
  laneEq : List (Nat × Nat) := []
  /-- per DAC channel: range, clear code, STEP, INTERVAL (R472–R474). -/
  dac : List (Nat × Nat × Nat × Nat) := List.replicate 8 (1, 0x8000, 64, 10)
  /-- PTP latencies of lane 96 in ps: TX, RX for each of 25G without FEC, Clause 74, Clause 108, and 10G (R441). -/
  ptp : List (Nat × Nat) := List.replicate 4 (0, 0)
  /-- owner key hash, 12 words; whether it is fused; REQUIRE_SIGNED; debug lock. -/
  ownerHash : List Nat := List.replicate 12 0
  ownerSet : Bool := false
  requireSigned : Bool := false
  dbgLocked : Bool := false
deriving DecidableEq, Repr

/-- Balls that the block samples or drives, other than lanes (R20, R543, R556).
Log: 4 (DESIGN CHOICE), 195 (DESIGN CHOICE), 196 (DESIGN CHOICE). -/
structure PinSt where
  pwrOk : Bool := false
  loClk : Bool := true
  perstN : Bool := false
  bootSrc : Bool := false
  ewesenMode : Bool := false
  twinPref : Bool := false
  ready : Bool := false
  dacClearN : Bool := true
  ldacN : Bool := true
  /-- the device pulls TWIN_YIELD_N low. -/
  yieldLow : Bool := false
  /-- TWIN_HEALTH wave in kHz: 0 low, 250 or 1000 (R523). -/
  twinHealth : Nat := 0
  /-- signals on the observation balls, 0 low (R596), and nodes on the analog test balls, 0 high impedance (R597). -/
  obs : List Nat := List.replicate 16 0
  atb : List Nat := [0, 0]
deriving DecidableEq, Repr

/-- Start-up and reset progress. -/
structure SysSt where
  /-- CONFIG waits for a host boot (R552, R553). -/
  configWait : Bool := false
  /-- a checked image waits to pass to the firmware stage: its AUTO_COMMIT flag, DIGEST and IMAGE_SEQ (R549, R551). -/
  autoCommit : Bool := false
  imageSeq : Nat := 0
  /-- lane groups whose calibration failed (R544). -/
  groupFailed : List Nat := []
  /-- commit checks run and BAR0 writes are discarded (R554). -/
  checking : Bool := false
  /-- a watchdog or self reset waits for TAKEN (R559, R495). -/
  resetOnTaken : Bool := false
  /-- the core is in a kept reset, so the island holds its events (R42, R493). -/
  keptReset : Bool := false
  /-- times taken in the core are invalid until XC09 delivers a fresh copy (R41). -/
  staleTime : Bool := false
  /-- the last value of that copy, which stands until then. -/
  timeCopy : Stamp := {}
  /-- firmware has started, so the voltage loop runs (R471). -/
  fwUp : Bool := false
  /-- the DAC amplifiers are on (R473), and which fused latencies TIME_PTP_LAT holds (R441). -/
  dacOn : Bool := false
  ptpSel : Nat := 0
  /-- a response waits for its check (R582). -/
  dbgWait : Bool := false
  /-- items that FUSE_PROG blows: bit 0 hash, bit 1 REQUIRE_SIGNED (R581). -/
  blow : Nat := 0
  /-- a thermal trip has halted the core (R465). -/
  tripped : Bool := false
  /-- QUIET in force (R480), and the committed DAC_CFG, SLEW_EN bits and AVS_CFG (R578): what the last commit took. -/
  quiet : Bool := false
  /-- QUIET as the slew limiter of DAC channel 0 holds it, which a kept reset keeps (R42). -/
  quiet0 : Bool := false
  dacCfg : Word := 0x1FE
  slewEn : Nat := 0xFF
  avsCfg : Word := 0x18219190
  /-- registers of the twin and weave blocks as the last commit took them, where they differ from reset. -/
  unitRegs : List (Nat × Word) := []
deriving DecidableEq, Repr

/-! ### Time (spec/16_time_and_almanac.md) -/

/-- The time counter: SEC (48 bits), NS, and the 32-bit fraction (R426). -/
structure Clock where
  sec : Nat := 0
  ns : Nat := 0
  frac : Nat := 0
deriving DecidableEq, Repr

/-- A TIME_EVT pin (R442, R443): level set by PIN_LEVEL, if any; width in ticks of a pulse in progress and the time of its edge;
last captured edge in 2^-16 ns; captures so far. -/
structure EvtPin where
  level : Option Bool := none
  pulse : Option (Nat × Stamp) := none
  lastEdge : Option Nat := none
  captures : Nat := 0
deriving DecidableEq, Repr

/-- The servo and the commands that wait for a tick (R430, R432, R435). -/
structure TimeSt where
  /-- integral term, units of 2^-64 (R430). -/
  servoI : Int := 0
  /-- consecutive accepted offsets within LOCK_NS, and beyond 4 × LOCK_NS (R432). -/
  good : Nat := 0
  bad : Nat := 0
  /-- TIME_SET (kind 0) and TIME_STEP forward (1) or backward (2) that wait for the next tick, in order (R435). -/
  jobs : List (CmdRef × Nat × Stamp) := []
  /-- ticks since island reset. -/
  tick : Nat := 0
  /-- tick of the last step, for pulse edges within one tick of it (R436). -/
  stepTick : Option Nat := none
  pins : List EvtPin := [{}, {}, {}, {}]
  /-- the settings of the block in force since REF_CTL.RUN last went to 1 (R453), where they differ from reset. -/
  regs : List (Nat × Word) := []
deriving DecidableEq, Repr

/-- An armed almanac entry (R445): its image, owning ring, LATE, the tick at which it fell due (R447), and whether a kept reset or a step
of the counter makes it DELAYED (R44, R437). -/
structure AlmEntry where
  image : List Byte
  ring : Nat
  late : Bool := false
  dueAt : Option Nat := none
  delayed : Bool := false
deriving DecidableEq, Repr

/-- A fired EXEC whose command has not completed (R450, R451): firing number, entry, ring, descriptor, and its fire record
with STATUS and LATE still to be filled in. -/
structure AlmExec where
  seq : Nat
  entry : Nat
  ring : Nat
  desc : List Byte
  taken : Bool := false
  record : List Byte
deriving DecidableEq, Repr

/-- The almanac (R444): armed entries by index, EXECs in flight, the tick and the entry of the last firing. -/
structure AlmSt where
  entries : List (Nat × AlmEntry) := []
  execs : List AlmExec := []
  last : Option (Nat × Nat) := none
deriving DecidableEq, Repr

/-! ### Lanes and Balran links (spec/02_lanes_and_balran.md) -/

/-- A lane outside LANE_STATUS: LANE_CFG in force since its last full bring-up (R84), polarity of the first marker seen in SEARCH (R58),
the last marker in LOCKED (R61, R62), COUNT of the last marker accepted (R67), consecutive misses (R60), a scan in progress and whether
the update it found in progress has ended (R57), a fast exit that waits for its marker or for the other lanes' (R67). -/
structure LaneSt where
  cfg : Word := 0
  first : Option Bool := none
  mark : Option MarkerView := none
  count : Nat := 0
  misses : Nat := 0
  scanning : Bool := false
  held : Bool := false
  fast : Bool := false
deriving DecidableEq, Repr

/-- Transmit amplitude of a link in thousandths of full swing: off, rising or falling from an amplitude, on (R65, R68).
Log: 30 (DEDUCED). -/
inductive Ramp where
  | off
  | rising (amp : Nat)
  | on
  | falling
deriving DecidableEq, Repr

/-- A Balran link outside its registers. Log: 5 (DESIGN CHOICE). -/
structure LinkSt where
  /-- LANE_LINK_CFG and LANE_LINK_TIMER in force since its last full bring-up, ENABLE since the commit (R84). -/
  cfg : Word := 0
  timer : Word := 0
  ramp : Ramp := .off
  /-- COUNT of the next marker sent (R71). -/
  txCount : Nat := 0
  /-- the link has FAILED and has not been UP since (R80). -/
  failed : Bool := false
  /-- VC 0 payloads waiting to be sent, and the byte streams of VC 1–3 (R536): the transmit backlog (R83). -/
  vc0 : List (List Byte) := []
  txq : List (List Byte) := [[], [], []]
  refusing : Bool := false
  /-- unacknowledged flits: SEQ, VC, payload (R79). -/
  replay : List (Nat × Nat × List Byte) := []
  nextSeq : Nat := 0
  /-- last DATA SEQ accepted in order (R78). -/
  lastAcc : Nat := 1023
  /-- a NAK has been sent and the expected SEQ has not arrived. -/
  nakked : Bool := false
  /-- credits per VC, last CR_COUNT seen per VC, buffers freed per VC since INIT (R77). -/
  credit : List Nat := [0, 0, 0, 0]
  lastCr : List Nat := [0, 0, 0, 0]
  freed : List Nat := [0, 0, 0, 0]
  /-- CR_VC of the next flit, VC of the last stream flit. -/
  crTurn : Nat := 0
  vcTurn : Nat := 1
  /-- SEQ from which a replay is in progress with the flits it has still to send, replays of the oldest flit (R79, R80). -/
  replaying : Option Nat := none
  resend : List (Nat × Nat × List Byte) := []
  tries : Nat := 0
  /-- the replay buffer is kept over a retrain (R80). -/
  resume : Bool := false
  /-- what the far end's INIT told (R81). -/
  peerSerial : Nat := 0
  peerPos : Nat := 0
  peerActive : Bool := false
  /-- received and not yet handled: VC 0 payloads, byte streams of VC 1–3. -/
  inbox : List (List Byte) := []
  rx : List (List Byte) := [[], [], []]
deriving DecidableEq, Repr

/-- Lanes and links that differ from their state after reset. -/
structure LanesSt where
  lanes : List (Nat × LaneSt) := []
  links : List (Nat × LinkSt) := []
deriving DecidableEq, Repr

/-! ### Ingest, harrow, weeder and turning buffer (spec/03 to spec/06) -/

/-- One slice of a pair as stored (R91): its stream's key, first global input, header bits, and its samples in input order. A local
stream's key is its table entry; a stream of origin q has 256 (q + 1) added. -/
structure Slice where
  stream : Nat
  base : Nat
  invalid : Bool
  overload : Bool
  cal : Bool
  /-- 8+8-bit samples as stored. -/
  wide : Bool
  samples : List (Int × Int)
  /-- a fine sheaf's own flags and validity (R122–R124); an empty list stands for all valid. -/
  flags : Nat := 0
  valid : List Bool := []
deriving DecidableEq, Repr

/-- A pending (channel, sheaf index) pair: the times of its first and last slice in 2^-16 ns, its slices in order of arrival. -/
structure Pair where
  chan : Nat
  k : Nat
  first : Nat
  last : Nat
  slices : List Slice
deriving DecidableEq, Repr

/-- What a keyed change does (R107, R121, R508): input mask of an origin, input gain, harrow's input gain, fine-channel gain. -/
inductive ChangeKind where
  | mask (origin : Nat)
  | gain
  | harrowGain
  | fineGain
deriving DecidableEq, Repr

/-- A keyed change, kept in order of hand-over (R107): values by index, and the units on which it takes effect later than at k,
with their effective indices. A unit is a coarse channel, or 4,096 + the slot for a slot's fine channels. -/
structure Change where
  kind : ChangeKind
  k : Nat
  items : List (Nat × Nat)
  moved : List (Nat × Nat)
  ref : Option CmdRef
  late : Bool
  done : Bool := false
deriving DecidableEq, Repr

/-- The ingest block outside its registers. -/
structure IngestSt where
  /-- pending pairs in order of their first slice (R101). -/
  pairs : List Pair := []
  /-- next sheaf index to release per channel, where it is not the first one (R94); a fine channel of a weave under its own index. -/
  next : List (Nat × Nat) := []
  /-- highest index stored anywhere, plus 1 (R96). -/
  top : Nat := 0
  /-- consecutive misses, and the first pair stored since a stream rejoined, per stream and channel: key stream × 4,096 + channel. -/
  misses : List (Nat × Nat) := []
  rejoin : List (Nat × Nat) := []
  /-- remote streams that are absent (R508). -/
  absent : List Nat := []
  /-- keyed changes since commit, in order of hand-over, and the mask and gain registers as committed. -/
  changes : List Change := []
  base : List (Nat × Word) := []
  /-- sheaves withheld per HBM branch and whether a run is in progress: correlation, glean (R27). -/
  withheld : Nat × Nat := (0, 0)
  holding : Bool × Bool := (false, false)
deriving DecidableEq, Repr

/-- A released sheaf (R102, R103) at the width a branch takes. -/
structure Sheaf where
  chan : Nat
  k : Nat
  samples : List (Int × Int)
  valid : List Bool
  flags : Nat
deriving DecidableEq, Repr

/-- A coarse sheaf in a slot's history: DC-blocked samples y of the direct inputs, validity, flags (R116). -/
structure HistCell where
  y : List (Int × Int)
  valid : List Bool
  flags : Nat
deriving DecidableEq, Repr

/-- A zoom slot (R113–R132): DC estimates per direct input, freeze and k, history newest first, last reset frame, resets that wait
for their frame, and the power run: first index, sheaves so far, (power, valid) per direct input. -/
structure SlotSt where
  est : List (Int × Int) := []
  frozen : Bool := false
  k : Nat := 12
  hist : List HistCell := []
  resetFrame : Nat := 0
  runFirst : Nat := 0
  runLen : Nat := 0
  run : List (Nat × Nat) := []
deriving DecidableEq, Repr

/-- A HARROW_RESET or HARROW_DC command in progress (R125, R129): action 0 reset, 1 freeze, 2 unfreeze, 3 set k; the coarse index
at which each slot still to come takes it. -/
structure SlotJob where
  ref : CmdRef
  action : Nat
  value : Nat
  at_ : List (Nat × Nat)
  top : Nat
  late : Bool
deriving DecidableEq, Repr

/-- The harrow outside its registers: slots by number, jobs in order of hand-over. -/
structure HarrowSt where
  slots : List (Nat × SlotSt) := []
  jobs : List SlotJob := []
deriving DecidableEq, Repr

/-- A channel's weeder (R139–R151): trackers and factors, sheaves of its sequence seen, and the block in progress: its first index,
trackers and thresholds at its start, S1, S2, n and an invalid mark per direct input, CAL set, CAL clear and CAL_MIXED seen,
validity of its sheaves, sheaf flags, settling and withheld marks in order, and how many of its sheaves were withheld.
Log: 5 (DESIGN CHOICE). -/
structure WeedChan where
  m : Nat := 0x1000
  dev : Nat := 0x100
  pm : Nat := 0x1000
  frozen : Bool := false
  kHi : Nat := 0x60
  kLo : Nat := 0x60
  kP : Nat := 0x50
  seen : Nat := 0
  first : Nat := 0
  m0 : Nat := 0
  dev0 : Nat := 0
  pm0 : Nat := 0
  upper : Nat := 0
  lower : Nat := 0
  sums : List (Nat × Nat × Nat × Bool) := []
  calOn : Bool := false
  calOff : Bool := false
  calMixed : Bool := false
  valid : List (List Bool) := []
  flagged : List Bool := []
  out : List Bool := []
  withheld : Nat := 0
deriving DecidableEq, Repr

/-- A block whose own decision stands and whose flag-plane entry is not complete (R517): channel, block number, first index, frozen,
channel-block flag, sheaf flags, input flags, validity of its sheaves, excluded sheaves, trackers at its start, the partners
heard, and their input flags by position. -/
structure WeedBlock where
  chan : Nat
  block : Nat
  first : Nat
  frozen : Bool
  chanFlag : Bool
  sheafs : List Bool
  inputs : List Bool
  valid : List (List Bool)
  out : List Bool
  m0 : Nat
  dev0 : Nat
  pm0 : Nat
  heard : List Nat
  remote : List (Nat × List Bool) := []
deriving DecidableEq, Repr

/-- A WEED_CTL in progress (R151): the block of each channel still to take it. -/
structure WeedJob where
  ref : CmdRef
  desc : List Byte
  at_ : List (Nat × Nat)
  top : Nat
  late : Bool
deriving DecidableEq, Repr

/-- What a partner's WEEDER message tells of a block (R517): channel × 2^56 + first index, position, channel flag, sheaf flags, and the
input-block flags of its inputs that travel with its samples (R143). -/
structure PeerBlock where
  key : Nat
  origin : Nat
  chanFlag : Bool
  sheafs : List Bool
  inputs : List Bool
deriving DecidableEq, Repr

/-- The weeder outside its registers: `init` is what the last commit loaded every channel with (R140); partners' messages that came
before the own decision; sheaves of a complete block flagged by R142 on any device: (channel, sequence number). -/
structure WeedSt where
  chans : List (Nat × WeedChan) := []
  init : Option WeedChan := none
  blocks : List WeedBlock := []
  jobs : List WeedJob := []
  early : List PeerBlock := []
  marks : List (Nat × Nat) := []
deriving DecidableEq, Repr

/-- A channel of the turning buffer (R155–R163), by channel index: sheaves written or noted as withheld, withheld positions not yet
given up, blocks whose flag-plane entry is complete, next pass to mark ready, next pass to dispatch, passes dispatched whose
checks have not ended, and whether its run of waits is in progress. -/
structure TurnChan where
  wr : Nat := 0
  withheld : List Nat := []
  planes : List Nat := []
  ready : Nat := 0
  nd : Nat := 0
  live : List Nat := []
  waiting : Bool := false
deriving DecidableEq, Repr

/-- The turning buffer: channels, sheaves that wait for their write in order of arrival (none: withheld), ready passes. -/
structure TurnSt where
  chans : List (Nat × TurnChan) := []
  queue : List (Nat × Option Sheaf) := []
  rdy : List Nat := []
deriving DecidableEq, Repr

/-! ### Correlation array and granary (spec/07, spec/08, spec/11) -/

/-- A sheaf as the turning read delivers it (R158): a fully flagged one adds nothing; `withheld` marks the pass; `zeroed` valid samples were
zeroed for a weeder decision (R144, R146). -/
structure PassSheaf where
  sheaf : Sheaf
  full : Bool
  withheld : Bool
  zeroed : Nat := 0
deriving DecidableEq, Repr

/-- One tile's spill of one pass (R176): channel, pass, tile by its place among the held tiles, the furrow that computed it
(68 × field + furrow), its 4,096 words row by row, its marks, and whether it has reached the granary adder, where it may be held or
wait (R177, R219). -/
structure TileSum where
  chan : Nat
  pass : Nat
  tile : Nat
  furrow : Nat
  words : List (Int × Int)
  unverified : Bool := false
  recomputed : Bool := false
  arrived : Bool := false
deriving DecidableEq, Repr

/-- A dispatched pass: the placement list it ran under, its sheaves, tiles not yet spilled, fields whose bus failed, furrows whose later
spills count as UNVERIFIED (R190) and furrow spills of a round that do (R192), marks, whether its checks have ended and its record is
written, tile spills that have not reached the granary adder, and those not yet added. -/
structure Flight where
  chan : Nat
  pass : Nat
  list : List Nat
  sheaves : List PassSheaf
  left : List Nat
  bad : List Nat := []
  loose : List Nat := []
  looseRounds : List (Nat × Nat) := []
  recomputed : Bool := false
  unverified : Bool := false
  ended : Bool := false
  told : Bool := false
  coming : Nat := 0
  owed : Nat := 0
deriving DecidableEq, Repr

/-- A recompute (R187–R194), in order of detection: the suspect furrow, its pass, its suspect spills, the spare it runs on, recomputes that
failed, and the rounds whose furrow spill the suspect store holds (R189). -/
structure Suspect where
  furrow : Nat
  chan : Nat
  pass : Nat
  tiles : List TileSum
  spare : Option Nat := none
  failed : Nat := 0
  rounds : List Nat := []
deriving DecidableEq, Repr

/-- The correlation array outside its registers: placement list (68 × field + furrow), passes in flight, recomputes, spills on their
way to the granary adder, consecutive CRC failures per bus (4 × field + 2 × path + bus), CORR_RETIRE commands that wait, spares to
be retired when their recompute ends with the cause, thermal moves (resting furrow, THERMAL spare), a ramp-down, a run of the
placement loop that is due, the fields that were reported without spares, spares being brought up in order (R203), and the furrow that
each field's spill port served last (R29). -/
structure CorrSt where
  list : List Nat := []
  flights : List Flight := []
  suspects : List Suspect := []
  spills : List TileSum := []
  bus : List (Nat × Nat) := []
  cmds : List (CmdRef × Nat) := []
  doomed : List (Nat × Nat) := []
  resting : List (Nat × Nat) := []
  rampDown : Bool := false
  placeRun : Bool := false
  out : List Nat := []
  ramps : List Nat := []
  port : List (Nat × Nat) := []
deriving DecidableEq, Repr

/-- One channel of a harvest bank: words and saturation bits per tile, sample counts, EXCLUDED, marks, passes whose counts have been
added, tile spills added, and inputs whose count has saturated. -/
structure ChanAcc where
  words : List (Nat × List (Int × Int)) := []
  sat : List (Nat × List (Bool × Bool)) := []
  counts : List Nat := []
  countSat : Bool := false
  excluded : Nat := 0
  unverified : List Nat := []
  recomputed : Bool := false
  withheld : Bool := false
  counted : List Nat := []
  added : Nat := 0
  full : List Nat := []
deriving DecidableEq, Repr

/-- A harvest bank with an integration: SEQ, EPOCH, first and last pass, marks, and its channels. -/
structure Bank where
  seq : Nat
  epoch : Nat
  first : Nat
  last : Nat
  stretched : Bool := false
  late : Bool := false
  saturated : Bool := false
  chans : List (Nat × ChanAcc) := []
deriving DecidableEq, Repr

/-- A drain in progress (R222–R224): next channel, whether the header is sent, UNVERIFIED tiles, saturated components and bytes so
far, verify failures (R302). -/
structure Drain where
  next : Nat
  header : Bool := false
  unverified : Nat := 0
  satComp : Nat := 0
  bytes : Nat := 0
  fails : Nat := 0
  unbaled : Bool := false
deriving DecidableEq, Repr

/-- An accumulation group outside its registers: q0 and whether it was late, the filling and the draining integration, the last
pass decided (plus 1), passes that have reached the adder whole per channel (plus 1), highest pass of which a spill has reached it
(plus 1), GRAN_STOP pending, exhausted (R570), a decision that waits in a weave (R518), and the last drain's integration and
completion time. Log: 163 (DEDUCED). -/
structure GrpSt where
  q0 : Nat := 0
  lateStart : Bool := false
  fill : Option Bank := none
  old : Option Bank := none
  drain : Option Drain := none
  decided : Nat := 0
  reached : List (Nat × Nat) := []
  top : Nat := 0
  stopping : Bool := false
  /-- pass at which a relayed GRAN_STOP takes effect (R519). -/
  stopAt : Option Nat := none
  exhausted : Bool := false
  /-- no integration has begun since commit. -/
  fresh : Bool := true
  waits : Bool := false
  drained : Option (Nat × Nat × Nat) := none
deriving DecidableEq, Repr

/-- What a partner's WEAVE_STATUS told of one group: SEQ and EPOCH of the last drained integration, its bits, completion time. -/
structure PeerGroup where
  seq : Nat
  epoch : Nat
  bits : Nat
  done : Nat
deriving DecidableEq, Repr

/-- The last WEAVE_STATUS of a partner: position, stamp, groups. -/
structure PeerStatus where
  pos : Nat
  stamp : Nat
  groups : List PeerGroup
deriving DecidableEq, Repr

/-- The granary: groups, GRAN_STOP commands with the groups still to end, and in a weave the last status of each partner (R518). -/
structure GranSt where
  groups : List (Nat × GrpSt) := []
  stops : List (CmdRef × Nat) := []
  /-- group served last by the harvest engine (R224). -/
  served : Nat := 7
  peers : List PeerStatus := []
deriving DecidableEq, Repr

/-! ### The glean ring (spec/10_glean_ring.md) -/

/-- A record that the ring holds: its slot, channel and sheaf index. -/
structure GleanRec where
  slot : Nat
  chan : Nat
  k : Nat
deriving DecidableEq, Repr

/-- The capture in progress or frozen (R276–R279): trigger, its source and channel, window, requests merged, number. -/
structure Capture where
  trigger : Nat
  source : Nat
  chan : Nat
  lo : Nat
  hi : Nat
  merged : Nat := 0
  seq : Nat
deriving DecidableEq, Repr

/-- A record that a dump is to send, with its bytes as they stood when the dump began; none when its index entry was poisoned. -/
structure DumpRec where
  item : GleanRec
  bytes : Option (List Byte)
deriving DecidableEq, Repr

/-- A GLEAN_DUMP, running or queued (R282): destination, live window, and once it runs its capture, records
and what its window found. -/
structure DumpJob where
  ref : CmdRef
  live : Bool
  ring : Bool
  dest : Nat
  lo : Nat
  hi : Nat
  cap : Option Capture := none
  recs : List DumpRec := []
  short : Bool := false
  disc : Bool := false
  lost : Nat := 0
deriving DecidableEq, Repr

/-- The glean ring outside its registers: records held, oldest first; records lost by withholding or by a shorter ring (channel,
index); last index recorded plus 1 per channel; the pointer has left the last slot; the capture; next capture number; the first
refusal since FROZEN has been raised; dumps in order. -/
structure GleanSt where
  recs : List GleanRec := []
  gone : List (Nat × Nat) := []
  last : List (Nat × Nat) := []
  wrapped : Bool := false
  cap : Option Capture := none
  seq : Nat := 0
  told : Bool := true
  jobs : List DumpJob := []
deriving DecidableEq, Repr

/-! ### The beamformer (spec/09_beamformer.md) -/

/-- A fade to the other bank: first index and length (R247, R248). -/
structure Fade where
  k0 : Nat
  len : Nat
deriving DecidableEq, Repr

/-- A BEAM_SWAP request on one block (R250, R251), with the BEAM_LOADs into its target bank that were submitted before it, by ring and
descriptor. -/
structure SwapReq where
  k : Nat
  len : Nat
  ref : CmdRef
  loads : List (Nat × List Byte) := []
deriving DecidableEq, Repr

/-- A beam block (R242): the bank before its fades, fades in order, a queued request, one that waits for a load. -/
structure BeamBlk where
  bank : Bool := false
  fades : List Fade := []
  queued : Option SwapReq := none
  waits : Option SwapReq := none
deriving DecidableEq, Repr

/-- A BEAM_SWAP in progress (R249): blocks whose fade has still to be placed, blocks whose fade has still to begin with its k0, LATE,
highest k0 so far, superseded blocks, all its blocks. -/
structure SwapJob where
  ref : CmdRef
  open_ : Nat
  starts : List (Nat × Nat)
  late : Bool := false
  top : Nat := 0
  sup : Nat := 0
  mask : Nat
deriving DecidableEq, Repr

/-- A BEAM_LOAD in progress (R246). -/
structure BeamLoad where
  ref : CmdRef
  src : CmdSrc
  ring : Nat
  bank : Nat
  table : Nat
  first : Nat
  count : Nat
  done : Nat := 0
  desc : List Byte := []
deriving DecidableEq, Repr

/-- A frame being filled (R260–R262): FRAME_SEQ, records and their bytes, first index, FLAGS, and of a voltage frame the active bank
at the first and at the last record and whether a fade covers some record. -/
structure FrameSt where
  seq : Nat := 0
  n : Nat := 0
  bytes : List Byte := []
  first : Nat := 0
  flags : Nat := 0
  bank0 : Bool := false
  bank1 : Bool := false
  changed : Bool := false
  faded : Bool := false
deriving DecidableEq, Repr

/-- A detection window (R256, R262): sheaves added, sums, FLAGS. -/
structure DetWin where
  added : Nat := 0
  sums : List Int := []
  flags : Nat := 0
deriving DecidableEq, Repr

/-- One span of the peak finder (R257, R258); a key is (k × 2^12 + channel) × 2^10 + beam. -/
structure PeakSpan where
  mx : Nat := 0
  mxk : Nat := 302231454903657293676543
  mn : Nat := 0xFFFFFFFF
  mnk : Nat := 302231454903657293676543
  nv : Nat := 0
deriving DecidableEq, Repr

/-- Thresholds of a BEAM_PEAK_SET (R259). -/
structure PeakSet where
  k : Nat
  hi : Nat
  lo : Nat
deriving DecidableEq, Repr

/-- Sums of a sheaf that waits for partials (R267, R520): channel, index, sums of the beams, origins and parts that have arrived, VALID,
MISSING, SETTLING, the flags of the own sheaf, and whether the wait is over. -/
structure Partial where
  chan : Nat
  k : Nat
  sums : List (Int × Int)
  got : List (Nat × Nat)
  valid : Nat := 0
  missing : Bool := false
  settling : Bool := false
  flags : Nat := 0
  waitOver : Bool := false
deriving DecidableEq, Repr

/-- The beam engine outside its registers: base and offset tables (bank × 2^20 + entry, bank × 2^15 + entry, 8 bytes as a number), blocks,
swaps and loads in progress, ordinals of delivered sheaves and of sheaves summed from partials, voltage and detected frames by source,
windows by source × 4,096 + channel, sheaves seen per channel, peak-finder thresholds and the commands that wait for them (k, top),
spans by number and the next to be reported, hold-off, suppressed values, triggers, sheaves that wait for partials, the index after
the last one emitted per channel, and an exported record that waits for a companion. -/
structure BeamSt where
  base : List (Nat × Nat) := []
  offs : List (Nat × Nat) := []
  blocks : List (Nat × BeamBlk) := []
  swaps : List SwapJob := []
  loads : List BeamLoad := []
  n : Nat := 0
  np : Nat := 0
  volt : List (Nat × FrameSt) := []
  det : List (Nat × FrameSt) := []
  wins : List (Nat × DetWin) := []
  seen : List (Nat × Nat) := []
  sets : List PeakSet := []
  setCmds : List (CmdRef × Nat × Nat × Bool) := []
  spans : List (Nat × PeakSpan) := []
  spanNext : Nat := 0
  holdUntil : Nat := 0
  supp : Nat := 0
  trigSeq : Nat := 0
  partials : List Partial := []
  emitted : List (Nat × Nat) := []
  export_ : List Byte := []
deriving DecidableEq, Repr

/-! ### Memory controller and chip matrix (spec/14_memory_and_interconnect.md) -/

/-- A queued request part: its age in units of 10 ns, whether it has been counted late, the data that a read captured, and the
matrix master that waits for it. -/
structure Queued where
  part : HbmPart
  age : Nat := 0
  late : Bool := false
  data : List Byte := []
  master : Option Nat := none
  /-- a write whose bytes took effect with the command that made it. -/
  done : Bool := false
  /-- bursts of a read that a queued write answers (R376). -/
  fwd : List Nat := []
  /-- bursts of an issued write that are read first (R377). -/
  rmw : List Nat := []
deriving DecidableEq, Repr

/-- A pseudo-channel (R373–R380): queues, parts that wait for room, reads issued to the stack, refreshes due per bank, open rows,
pending neighbour selections, activates since the last refresh management, when HBM_CE was last raised, and the neighbour LFSR, 0 until it
is seeded. -/
structure PcSt where
  rq : List Queued := []
  wq : List Queued := []
  waiting : List Queued := []
  drain : Bool := false
  issued : List Queued := []
  due : List (Nat × Nat) := []
  rows : List (Nat × Nat) := []
  nbr : List (Nat × Nat) := []
  acts : List (Nat × Nat) := []
  ceAt : Option Nat := none
  lfsr : Word := 0
deriving DecidableEq, Repr

/-- The memory controller: pseudo-channels that differ from reset, writes under reissue with their failures (R385), the scrub's
next burst (R386), the committed HBM_CFG, and the committed latency targets of the ports (R372). -/
structure HbmSt where
  pcs : List (Nat × PcSt) := []
  reissue : List (Nat × Nat) := []
  scrubAt : Nat := 0
  cfg : Word := 0x186A
  lt : List Nat := [400, 200, 400, 2000, 800, 2000, 2000, 5000]
deriving DecidableEq, Repr

/-- The chip matrix: requests that wait at their targets in order of arrival, the burst in progress at a target, the master last
granted per (target, class), and responses, none for an error (R389, R394, R395). -/
structure XbarSt where
  waiting : List (Nat × MatrixReq) := []
  active : List (Nat × MatrixReq) := []
  last : List (Nat × Nat) := []
  responses : List (Nat × Option (List Byte)) := []
  /-- working SRAM bytes written (R391). -/
  sram : List Host.Cell := []
deriving DecidableEq, Repr

/-! ### References and clock outputs (spec/15_reference_and_clocks.md) -/

/-- One reference: its offsets d_r of the last 17 seconds, newest first (R403), and consecutive seconds inside the
qualification limits (R404). -/
structure RefIn where
  d : List Int := []
  good : Nat := 0
deriving DecidableEq, Repr

/-- The reference unit, the loop and the outputs outside the registers. y, I and the history samples are in units of 2^-48
(R414). -/
structure RefSt where
  /-- accumulated build-out in ps, signed 64 bits (R412). -/
  buildout : Int := 0
  ins : List RefIn := List.replicate 6 {}
  /-- pairs of references that disagree (R405). -/
  pairs : List (Nat × Nat) := []
  /-- y once per second of LOCKED operation, newest first, at most 1,000 (R402). -/
  samples : List Int := []
  y : Int := 0
  integ : Int := 0
  /-- y is clamped to the pull range (R399). -/
  clamped : Bool := false
  /-- how long the phase error has been large, units of 10 µs (R411). -/
  large : Nat := 0
  /-- references excluded from the switch in progress (R409). -/
  excl : List Nat := []
  /-- the REF_SELECT whose switch is in progress, and those that wait (R410). -/
  serving : Option CmdRef := none
  selects : List (CmdRef × Nat) := []
  /-- seconds in holdover, H at its start in ppt (R417). -/
  hoSecs : Nat := 0
  hoH : Int := 0
  /-- OCXO steering (R418): code at entry, move asked at entry, ageing applied, all in LSB, and the sum of all steps. -/
  efcFrom : Int := 0
  efcMove : Int := 0
  efcAged : Int := 0
  efcSum : Int := 0
  /-- REF_ALIGN commands that wait for the alignment pulse with their offsets, a fall-back alignment that waits (R422, R423),
  and the commands that complete at the aligned pulse. -/
  aligns : List (CmdRef × Int × Nat) := []
  fallback : Bool := false
  aligned : List CmdRef := []
  /-- offset of the pulse divider from the alignment pulse, in ticks and 1/128 ticks, of the last realignment. -/
  pulseTicks : Int := 0
  pulseFine : Nat := 0
  /-- clock outputs running, those that start at the next PPS_OUT edge, and REF_OUT_SET commands that wait (R420). -/
  outRun : Nat := 0
  outStart : Nat := 0
  outCmds : List (CmdRef × Nat) := []
  /-- PPS_OUT and SYNC_OUT held low by the almanac (R450). -/
  ppsHeld : Bool := false
  syncHeld : Bool := false
deriving DecidableEq, Repr

/-! ### Converters, DAC channels and voltage scaling (spec/17_housekeeping_analog.md) -/

/-- A conversion in progress: kind 0 single, 1 regular, 2 injected, 3 guard; its channel, entry and sample instant. -/
structure Conv where
  kind : Nat
  channel : Nat
  entry : Nat
  time : Stamp
deriving DecidableEq, Repr

/-- The converter outside its registers. -/
structure AdcSt where
  conv : Option Conv := none
  /-- next sensor of the guard rotation; a guard conversion is due (R457). -/
  guardNext : Nat := 0
  guardDue : Bool := false
  /-- next entry of the injected sequence that is running, and whether it has begun (R458, R459). -/
  inj : Option Nat := none
  injBegun : Bool := false
  /-- ADC_INJECT commands of the present and of the pending sequence. -/
  injRefs : List CmdRef := []
  pendRefs : List CmdRef := []
  /-- a lap of the regular sequence runs; the next one is due (R455). -/
  lap : Bool := false
  lapDue : Bool := false
  /-- result queue (R460): low word and sample instant. -/
  queue : List (Nat × Stamp) := []
  /-- a run of discarded results (R462). -/
  losing : Bool := false
  /-- sensors in alarm (R464), and sensors whose last reading was at the trip threshold (R465). -/
  warm : List Nat := []
  hot : List Nat := []
  /-- converter cycle of the last urgent trigger and where it went: 0 a sequence, 1 pending, 2 lost (R456). -/
  trig : Option (Nat × Nat) := none
  /-- ADC_CFG, ADC_RING and ADC_THERM in force since ENABLE last went to 1 (R482), where they differ from reset. -/
  regs : List (Nat × Word) := []
deriving DecidableEq, Repr

/-- The DAC outside its registers: channels that slew toward park, channels that take the fused range when parked (R474),
DAC_PARK commands that wait, with mask and whether they park (R478), and the DAC cycle of the last strobe with whether it was counted as
ignored (R475). -/
structure DacSt where
  parking : Nat := 0
  reload : Nat := 0
  cmds : List (CmdRef × Nat × Bool) := []
  strobe : Option (Nat × Bool) := none
deriving DecidableEq, Repr

/-- The voltage scaling loop outside its registers: an increase of n that waits for the rails (R469), retries per rail
(R466), rails in droop (R470), the voltage last confirmed per rail, the field voltages recorded per n (R469), the array
load L as a fraction (R182, R468), and the last transaction issued per rail: a voltage written, or a read (R466). -/
structure AvsSt where
  nWait : Option Nat := none
  tries : List Nat := [0, 0, 0, 0, 0]
  droop : List Nat := []
  confirmed : List Nat := [0, 0, 0, 0, 0]
  recorded : List (Nat × List Nat) := []
  load : Nat × Nat := (0, 1)
  last : List (Option Nat) := [none, none, none, none, none]
deriving DecidableEq, Repr

/-! ### Weave (spec/19_twin_and_weave.md) -/

/-- The weave outside the registers and the other blocks: links whose WEAVE_HELLO has been heard with its digest (R503), REQ_SEQ of the next DELAY_REQ, the one that is out with t1 in 2^-16 ns, the last 16 values of (t4 − t1) − (t3 − t2) in 2^-16 ns
(R504), and the time of the alignment pulse that the last PULSE_MARK announced (R505). -/
structure WeaveSt where
  heard : List (Nat × Nat) := []
  reqSeq : Nat := 0
  asked : Option (Nat × Nat) := none
  delays : List Int := []
  pulseAt : Option Nat := none
deriving DecidableEq, Repr

/-! ### Twin (spec/19_twin_and_weave.md) -/

/-- The twin pair outside the registers. -/
structure TwinSt where
  /-- pairs released since commit (R525). -/
  relPos : Nat := 0
  /-- the partner as its last HEARTBEAT told (R537): role, SYNCED, strap, ingest links UP, release position. -/
  peerRole : Nat := 0
  peerSynced : Bool := false
  peerPref : Bool := false
  peerIngest : Nat := 0
  peerPos : Nat := 0
  /-- heartbeat seen on the link, and the wave recognised on TWIN_PEER_HEALTH in kHz, 0 none (R523). -/
  seenLink : Bool := false
  seenWave : Nat := 0
  /-- TWIN_YIELD commands that wait for TAKEN (R540). -/
  cmds : List CmdRef := []
  /-- a preference conflict makes REVERT act as clear until the next commit (R522). -/
  noRevert : Bool := false
  /-- order stream received and not yet acted on (R525, R538): channels of release records; command points. -/
  order : List Nat := []
  points : List (List Byte) := []
  /-- snapshot with (EPOCH, SEQ, P_s): this unit's last, and the blocks of the partner's that have arrived (R529). -/
  snap : Option (Nat × Nat × Nat × List Byte) := none
  blocks : List (Nat × List Byte) := []
  /-- of the copy that is arriving: EPOCH, SEQ, block count, P_s. -/
  copy : Option (Nat × Nat × Nat × Nat) := none
  /-- the own snapshot has been compared with the partner's. -/
  compared : Bool := true
  /-- after an adoption: the integration of each running group at that time (EPOCH × 2^32 + SEQ), until SYNCED (R530). -/
  since : Option (List (Nat × Nat)) := none
  /-- a whole integration of group 0 free of every cause has passed while STANDBY and SYNCED (R535); a RECLAIM has been sent. -/
  clean : Bool := false
  reclaimed : Bool := false
  /-- committed and without a role yet (R521). -/
  undecided : Bool := false
  /-- taken over at the pin, with the partner's YIELD still to come. -/
  pinTaken : Bool := false
  /-- ALIVE of state blocks sent (R529). -/
  alive : Nat := 0
  /-- configuration update blocks received: block number and pairs, how many there are, and their IMAGE_SEQ (R562). -/
  cfgBlocks : List (Nat × List Byte) := []
  cfgCount : Nat := 0
  cfgSeq : Nat := 0
  /-- class 0 packets of the last RETAIN_US with their time and port (R528). -/
  retain : List (Nat × Nat × Pkt) := []
  /-- what PROGRESS last reported, and what the partner's PROGRESS covers: (stream or 2^15 + ring, position) (R528). -/
  told : List (Nat × Nat) := []
  covered : List (Nat × Nat) := []
deriving DecidableEq, Repr

/-- A host write that a standby holds until PROGRESS covers it (R528): ring, device position, address, bytes. -/
structure HeldWrite where
  ring : Nat
  pos : Nat
  addr : Nat
  bytes : List Byte
  ro : Bool := false
deriving DecidableEq, Repr

/-! ### What leaves the device -/

/-- A posted host write (R350), and whether it carries Relaxed Ordering (R328). -/
structure HostWrite where
  addr : Nat
  bytes : List Byte
  ro : Bool := false
deriving DecidableEq, Repr

/-- Everything that has left the device, oldest first: host writes, MSI-X messages (vector), Ethernet frames by port
(16 is the management port), Balran flits by link, and the markers and control blocks (header bit 0) sent on a lane.
Log: 13 (DESIGN CHOICE). -/
structure Outputs where
  host : List HostWrite := []
  msix : List Nat := []
  eth : List (Nat × List Byte) := []
  flits : List (Nat × List Byte) := []
  ctrl : List (Nat × List Byte) := []
  /-- input-block flags of the own inputs sent to a position beside the samples: channel, first index, flags (R143). -/
  inputFlags : List (Nat × Nat × Nat × List Bool) := []
  /-- AVSBus requests: rail address, and the voltage of a Write Voltage or none of a Read Voltage. -/
  avs : List (Nat × Option Nat) := []
deriving DecidableEq, Repr

end Sys2Proof.Machine
end

