-- ==== Sys2Proof/Machine/State.lean ====
section
/-! DEFINITION. The state of the block as plain data, the reasons a step can stop, and the state right after power-on
reset. Registers live in one sparse file keyed by their BAR0 offset; every other piece of state is a part of Parts.lean. -/

namespace Sys2Proof.Machine

/-- The state of the Caldoby. -/
structure State where
  /-- commands that wait, first in, first out. -/
  pending : List Instr := []
  /-- registers (R14) that differ from their reset value, by BAR0 offset, offsets strictly rising. -/
  regs : List (Nat × Word) := []
  /-- value that the last read command returned. -/
  readData : Word := 0
  /-- HBM bytes written since the last loss of contents (R371, R387), addresses strictly rising. -/
  hbm : List Host.Cell := []
  /-- how often the HBM contents have been lost (R387); names the undefined contents. -/
  hbmEpoch : Nat := 0
  /-- bursts (address / 32) that hold poison (R384). -/
  poison : List Nat := []
  /-- position in the stream of free values; the model's own field. -/
  freeIx : Nat := 0
  fuses : FuseArray := {}
  pins : PinSt := {}
  sys : SysSt := {}
  clock : Clock := {}
  time : TimeSt := {}
  alm : AlmSt := {}
  lanes : LanesSt := {}
  host : HostSt := {}
  eth : EthSt := {}
  evt : EvtSt := {}
  ingest : IngestSt := {}
  harrow : HarrowSt := {}
  weed : WeedSt := {}
  turn : TurnSt := {}
  corr : CorrSt := {}
  gran : GranSt := {}
  glean : GleanSt := {}
  beam : BeamSt := {}
  mem : HbmSt := {}
  xbar : XbarSt := {}
  ref : RefSt := {}
  adc : AdcSt := {}
  dac : DacSt := {}
  avs : AvsSt := {}
  weave : WeaveSt := {}
  twin : TwinSt := {}
  /-- host writes that a standby holds (R528). -/
  heldWrites : List HeldWrite := []
  /-- a yielded unit starts no frame and no host write (R532). -/
  stopped : Bool := false
  out : Outputs := {}
deriving DecidableEq, Repr

/-- Why a step stops with a fault. No command of this block does: the spec answers every bad command with a status, a code,
an event or no effect, so the type has no constructor (safe). -/
inductive Fault where
deriving DecidableEq, Repr

/-- Why a command is refused. -/
inductive Refusal where
  /-- a command of the table that the model gives no meaning yet; raised by the dispatch alone (safe: nothing happens). -/
  | notModelled (mnemonic : String)
deriving DecidableEq, Repr

/-- The state right after power-on reset, PWR_OK low (R544, R556, R557): every register at its reset value.
Log: 3 (DESIGN CHOICE), 5 (DESIGN CHOICE). -/
def State.reset : State := {}

end Sys2Proof.Machine
end

