-- ==== Sys2Proof/Machine/Operands.lean ====
section
/-! DEFINITION. Operand forms: little-endian byte fields of descriptors, packets and records (R6), two's complement
and saturated numbers, sparse maps in canonical form, the check values of R496. -/

namespace Sys2Proof.Machine

/-! ### Bytes -/

/-- `n` bytes of `v`, least significant first (R6). -/
def le : Nat → Nat → List Byte
  | 0, _ => []
  | n + 1, v => BitVec.ofNat 8 v :: le n (v / 256)

/-- The number that bytes spell, least significant first (R6). -/
def unle : List Byte → Nat
  | [] => 0
  | b :: t => b.toNat + 256 * unle t

/-- `n` bytes of `v`, most significant first (network order, R311). -/
def be (n v : Nat) : List Byte := (le n v).reverse

/-- The number that bytes spell, most significant first. -/
def unbe (l : List Byte) : Nat := unle l.reverse

/-- Bytes `off` to `off + n - 1`, as a number; bytes past the end read 0. -/
def fieldAt (l : List Byte) (off n : Nat) : Nat := unle ((l.drop off).take n)

/-- Byte `off`; 0 past the end. -/
def byteAt (l : List Byte) (off : Nat) : Nat := fieldAt l off 1

/-- Bit `i` of a number. -/
def bitAt (v i : Nat) : Bool := v / 2 ^ i % 2 = 1

/-- `bs` stored over `l` from offset `off`; the length of `l` does not change. -/
def bytesPut (l : List Byte) (off : Nat) (bs : List Byte) : List Byte :=
  (l.take off ++ bs ++ l.drop (off + bs.length)).take l.length

/-- Zero bytes. -/
def zeros (n : Nat) : List Byte := List.replicate n 0

/-- Padded with zero bytes to a multiple of `m`. -/
def padTo (m : Nat) (l : List Byte) : List Byte := l ++ zeros ((m - l.length % m) % m)

/-- 1 for true. -/
def b2n (b : Bool) : Nat := if b then 1 else 0

/-- Cut into pieces of `n` bytes, the last one shorter; at least one piece. -/
def pieces (n : Nat) : Nat → List Byte → List (List Byte)
  | 0, l => [l]
  | fuel + 1, l => if l.length ≤ n ∨ n = 0 then [l] else l.take n :: pieces n fuel (l.drop n)

/-! ### Numbers -/

/-- Two's complement reading of the low `n` bits. -/
def toS (n v : Nat) : Int := if v % 2 ^ n < 2 ^ (n - 1) then ((v % 2 ^ n : Nat) : Int) else ((v % 2 ^ n : Nat) : Int) - 2 ^ n

/-- The low `n` bits of an integer, two's complement. -/
def ofS (n : Nat) (v : Int) : Nat := (v % 2 ^ n).toNat

/-- Clamped to lo … hi. -/
def clampI (lo hi v : Int) : Int := if v < lo then lo else if hi < v then hi else v

/-- Saturated to `n`-bit two's complement. -/
def satS (n : Nat) (v : Int) : Int := clampI (-(2 ^ (n - 1))) (2 ^ (n - 1) - 1) v

/-- Saturated to `n` bits unsigned. -/
def satU (n v : Nat) : Nat := if v < 2 ^ n then v else 2 ^ n - 1

/-- Absolute value as a natural number. -/
def absN (v : Int) : Nat := v.natAbs

/-- v / d rounded to nearest, ties away from zero. -/
def roundDiv (v : Int) (d : Nat) : Int :=
  if 0 ≤ v then (2 * v + d) / (2 * d) else -((2 * (-v) + d) / (2 * d))

/-- v / d rounded to nearest, ties to even. -/
def roundEven (v : Int) (d : Nat) : Int :=
  let q := v.fdiv d
  let r := v - q * d
  if 2 * r < d then q else if (d : Int) < 2 * r then q + 1 else if q % 2 = 0 then q else q + 1

/-- Does `a` follow `b` modulo 2^w (R569)? -/
def follows (w a b : Nat) : Bool :=
  let d := (a + 2 ^ w - b % 2 ^ w) % 2 ^ w
  1 ≤ d && d ≤ 2 ^ (w - 1) - 1

/-- The quotient rounded up. -/
def ceilDiv (a b : Nat) : Nat := (a + b - 1) / b

/-! ### Sparse maps: lists of (key, value) with strictly rising keys -/

/-- The value listed at a key. -/
def mapFind {α : Type} : List (Nat × α) → Nat → Option α
  | [], _ => none
  | (a, v) :: t, k => if k = a then some v else mapFind t k

/-- List a value at a key, between the smaller keys and the greater ones. -/
def mapPut {α : Type} (m : List (Nat × α)) (k : Nat) (v : α) : List (Nat × α) :=
  m.filter (fun e => decide (e.1 < k)) ++ (k, v) :: m.filter (fun e => decide (k < e.1))

/-- Remove a key wherever it is listed. -/
def mapDel {α : Type} (m : List (Nat × α)) (k : Nat) : List (Nat × α) := m.filter (fun e => decide (e.1 ≠ k))

/-- Store a value; the default value `d` is not listed. Log: 2 (DESIGN CHOICE). -/
def mapSet {α : Type} [DecidableEq α] (d : α) (m : List (Nat × α)) (k : Nat) (v : α) : List (Nat × α) :=
  if v = d then mapDel m k else mapPut m k v

/-- Are the keys strictly rising: is every key below the one listed after it? -/
def mapRising {α : Type} (m : List (Nat × α)) : Bool := (m.zip m.tail).all (fun p => decide (p.1.1 < p.2.1))

/-! ### Fields of a register word -/

/-- The field's value in a word (R5). -/
def Fld.of (f : Fld) (w : Word) : Nat := w.toNat / 2 ^ f.lo % 2 ^ f.width

/-- The word with the field's bits replaced. -/
def Fld.into (f : Fld) (w : Word) (v : Nat) : Word :=
  BitVec.ofNat 32 (w.toNat / 2 ^ (f.lo + f.width) * 2 ^ (f.lo + f.width) + v % 2 ^ f.width * 2 ^ f.lo + w.toNat % 2 ^ f.lo)

/-! ### Check values (R496) -/

/-- One bit of a reflected CRC. -/
def crcReflBit (poly c : Nat) : Nat := if c % 2 = 1 then Nat.xor (c / 2) poly else c / 2

/-- One byte of a reflected CRC. -/
def crcReflByte (poly c : Nat) (b : Byte) : Nat :=
  (List.range 8).foldl (fun c _ => crcReflBit poly c) (Nat.xor c b.toNat)

/-- One bit of an unreflected CRC of width `w`. -/
def crcBit (w poly c : Nat) : Nat :=
  if c / 2 ^ (w - 1) % 2 = 1 then Nat.xor (c * 2 % 2 ^ w) poly else c * 2 % 2 ^ w

/-- One byte of an unreflected CRC. -/
def crcByte (w poly c : Nat) (b : Byte) : Nat :=
  (List.range 8).foldl (fun c _ => crcBit w poly c) (Nat.xor c (b.toNat * 2 ^ (w - 8)))

/-- The four check values, by CRC_SCAN's POLY code (R498). -/
inductive CheckKind where
  | crc16 | crc32 | crc32c | crc64
deriving DecidableEq, Repr

/-- The check value of the empty message. -/
def CheckKind.empty : CheckKind → Nat
  | .crc16 => 0xFFFF
  | .crc32 => 0
  | .crc32c => 0
  | .crc64 => 0

/-- The check value of a message whose check value is `prior`, followed by `bs` (R498, CONTINUE). -/
def CheckKind.extend : CheckKind → Nat → List Byte → Nat
  | .crc16, p, bs => bs.foldl (crcByte 16 0x1021) p
  | .crc32, p, bs => Nat.xor (bs.foldl (crcReflByte 0xEDB88320) (Nat.xor p 0xFFFFFFFF)) 0xFFFFFFFF
  | .crc32c, p, bs => Nat.xor (bs.foldl (crcReflByte 0x82F63B78) (Nat.xor p 0xFFFFFFFF)) 0xFFFFFFFF
  | .crc64, p, bs => bs.foldl (crcByte 64 0x42F0E1EBA9EA3693) p

/-- The check value of a message. -/
def CheckKind.of (k : CheckKind) (bs : List Byte) : Nat := k.extend k.empty bs

/-- CRC-32C, which protects every header that the device writes. -/
def crc32c (bs : List Byte) : Nat := CheckKind.crc32c.of bs

/-- CRC-16/CCITT. -/
def crc16 (bs : List Byte) : Nat := CheckKind.crc16.of bs

/-- The POLY code of R498. -/
def CheckKind.ofCode : Nat → CheckKind
  | 0 => .crc16
  | 1 => .crc32
  | 2 => .crc32c
  | _ => .crc64

/-! ### Time stamps (R12) -/

/-- The 12 bytes of a time stamp. -/
def Stamp.bytes (t : Stamp) : List Byte := le 2 t.frac ++ le 4 t.ns ++ le 6 t.sec

/-- The time stamp in 12 bytes from an offset. -/
def stampAt (l : List Byte) (off : Nat) : Stamp :=
  ⟨fieldAt l (off + 6) 6, fieldAt l (off + 2) 4, fieldAt l off 2⟩

/-- A time stamp as a count of 2^-16 ns. -/
def Stamp.units (t : Stamp) : Nat := (t.sec * 1000000000 + t.ns) * 65536 + t.frac

/-- The time stamp of a count of 2^-16 ns; SEC is 48 bits. -/
def Stamp.ofUnits (u : Nat) : Stamp := ⟨u / 65536 / 1000000000 % 2 ^ 48, u / 65536 % 1000000000, u % 65536⟩

/-- The lexicographic order of time stamps, not later. -/
def Stamp.le (a b : Stamp) : Bool :=
  decide (a.sec < b.sec) || (a.sec == b.sec && (decide (a.ns < b.ns) || (a.ns == b.ns && decide (a.frac ≤ b.frac))))

/-- A time stamp with NS of 10^9 or more is refused by the command that takes it (R13). -/
def Stamp.valid (t : Stamp) : Bool := t.ns < 1000000000

/-! ### Descriptors (R344, R351, R566) -/

/-- Descriptor fields shared by every command. -/
def descOpcode (d : List Byte) : Nat := byteAt d 0
def descFence (d : List Byte) : Bool := bitAt (byteAt d 1) 0
def descChainEnd (d : List Byte) : Bool := bitAt (byteAt d 1) 1
def descVersion (d : List Byte) : Nat := byteAt d 2
def descTag (d : List Byte) : Nat := fieldAt d 8 8
/-- Sheaf index k of a keyed command, bytes 16–22. -/
def descK (d : List Byte) : Nat := fieldAt d 16 7
/-- ADDR of a parameter table. -/
def descAddr (d : List Byte) : Nat := fieldAt d 24 8
/-- COUNT of a parameter table. -/
def descCount (d : List Byte) : Nat := fieldAt d 32 4

/-- A version 1 descriptor in version 2's layout (R566): FENCE alone, TAG from bytes 4–7, bytes 8–11 moved to 4–7. -/
def descFromV1 (d : List Byte) : List Byte :=
  le 1 (byteAt d 0) ++ le 1 (byteAt d 1 % 2) ++ le 1 (byteAt d 2) ++ le 1 (byteAt d 3)
    ++ le 4 (fieldAt d 8 4) ++ le 8 (fieldAt d 4 4) ++ d.drop 16

/-- The reserved sheaf index (R572). -/
def emptyKey : Nat := 0xFFFFFFFFFFFFFF

/-- The opcodes of block commands and island commands that some chapter assigns (R345, R351, R424, R452, R481, R498, R540). -/
def blockOpcodes : List Nat :=
  [0x10, 0x11, 0x18, 0x19, 0x1A, 0x20, 0x28, 0x30, 0x31, 0x38, 0x39, 0x3A, 0x40, 0x41, 0x42, 0x48, 0x4C,
   0x60, 0x61, 0x62, 0x63, 0x64, 0x68, 0x69, 0x6A, 0x6B, 0x70, 0x71, 0x74, 0x75, 0x76, 0x77, 0x78]

/-- The fields of each command's table beside the common header: first byte, last byte, bits (R351, R424, R452, R481, R498, R540). -/
def commandFields : List (Nat × List (Nat × Nat × Nat)) :=
  [(0x10, [(16, 22, 255), (24, 35, 255)]), (0x11, [(16, 22, 255), (24, 35, 255)]), (0x18, [(16, 22, 255), (40, 47, 255)]),
   (0x19, [(16, 22, 255), (36, 37, 255), (40, 47, 255)]), (0x1A, [(16, 22, 255), (24, 35, 255)]),
   (0x20, [(16, 22, 255), (36, 39, 255), (40, 40, 15), (42, 45, 255), (48, 54, 255)]), (0x28, [(36, 37, 255)]),
   (0x30, [(36, 36, 255), (40, 51, 255)]), (0x31, [(36, 36, 255)]), (0x38, [(24, 37, 255), (40, 43, 255)]),
   (0x39, [(16, 22, 255), (36, 39, 255)]), (0x3A, [(16, 22, 255), (40, 47, 255)]), (0x40, [(16, 22, 255)]), (0x41, [])]
  ++ [(0x42, [(16, 22, 255), (36, 36, 3), (38, 38, 255), (39, 39, 63), (40, 46, 255)]), (0x48, [(24, 37, 255)]), (0x4C, []),
   (0x60, [(36, 36, 255)]), (0x61, [(36, 36, 255), (37, 37, 15), (38, 38, 1), (39, 45, 255)]), (0x62, [(36, 36, 255), (37, 37, 1)]),
   (0x63, [(40, 42, 255), (43, 43, 15), (44, 44, 127)]), (0x64, [(36, 36, 255), (37, 37, 1)]), (0x68, [(40, 51, 255)]),
   (0x69, [(36, 36, 1), (40, 51, 255)]), (0x6A, [(36, 36, 255), (40, 47, 255)]), (0x6B, [(36, 38, 255), (39, 39, 1)]),
   (0x70, [(24, 31, 255), (36, 36, 255)]), (0x71, [(36, 36, 255), (37, 37, 1)]), (0x74, []),
   (0x75, [(36, 36, 255), (37, 37, 1), (40, 55, 255)]), (0x76, [(36, 36, 255), (37, 37, 1)]), (0x77, [(36, 37, 255)]),
   (0x78, [(4, 7, 255), (16, 23, 255), (36, 37, 3), (40, 47, 255)])]

/-- Are the bits of a descriptor that its command's table does not list all 0 (R351)? -/
def descClean (op : Nat) (d : List Byte) : Bool :=
  let fields := ((commandFields.find? (fun c => c.1 == op)).map (·.2)).getD []
  let mask (i : Nat) : Nat := (fields.map (fun f => if f.1 ≤ i ∧ i ≤ f.2.1 then f.2.2 else 0)).foldl Nat.lor 0
  decide (byteAt d 1 < 4) && ((List.range 5).map (· + 3) ++ (List.range 48).map (· + 16)).all (fun i => Nat.land (byteAt d i) (255 - mask i) == 0)

end Sys2Proof.Machine
end

