-- ==== Sys2Proof/Machine/Flags.lean ====
section
/-! DEFINITION. Event identifiers and classes (R486, R541, R563, R583), completion statuses (R357), commit codes (R579)
with the register block each is reported under, and the flags computed from them. -/

namespace Sys2Proof.Machine

/-! ### Events -/

namespace Ev

def ACCESS_SIZE : Nat := 0x000
def CDC_FAULT : Nat := 0x001
def GLB_READY : Nat := 0x002
def GLB_BOOT_SLOT : Nat := 0x003
def GLB_COMMIT_REJECT : Nat := 0x004
def GLB_WATCHDOG : Nat := 0x005
def GLB_RESET_REFUSED : Nat := 0x006
def GLB_ISLAND_KEPT : Nat := 0x007
def LANE_DOWN : Nat := 0x080
def LANE_MARKER_MISS : Nat := 0x081
def LANE_ORDER : Nat := 0x082
def DESKEW_FAIL : Nat := 0x083
def LINK_DOWN : Nat := 0x084
def BALRAN_RETRY : Nat := 0x085
def BALRAN_RETRAIN : Nat := 0x086
def BALRAN_LINK_FAILED : Nat := 0x087
def LINK_PEER_MISMATCH : Nat := 0x088
def BALRAN_TX_BACKLOG : Nat := 0x089
def INGEST_COUNT_0 : Nat := 0x0C0
def INGEST_COUNT_1 : Nat := 0x0C1
def INGEST_COUNT_2 : Nat := 0x0C2
def INGEST_COUNT_3 : Nat := 0x0C3
def INGEST_COUNT_4 : Nat := 0x0C4
def INGEST_COUNT_5 : Nat := 0x0C5
def INGEST_COUNT_6 : Nat := 0x0C6
def INGEST_COUNT_8 : Nat := 0x0C8
def INGEST_COUNT_9 : Nat := 0x0C9
def INGEST_STREAM_ABSENT : Nat := 0x0CA
def INGEST_STREAM_REJOIN : Nat := 0x0CB
def ALIGN_FULL : Nat := 0x0CC
def INGEST_BRANCH_LOSS : Nat := 0x0CD
def TURN_WRITE_WAIT : Nat := 0x180
def TURN_LAG : Nat := 0x181
def CORR_WITNESS : Nat := 0x1C0
def CORR_PARITY : Nat := 0x1C1
def CORR_OPBUF_CE : Nat := 0x1C2
def CORR_OPBUF_UE : Nat := 0x1C3
def CORR_BUS_CRC : Nat := 0x1C4
def CORR_BUS_SUSPECT : Nat := 0x1C5
def CORR_SPILL_CE : Nat := 0x1C6
def CORR_SPILL_UE : Nat := 0x1C7
def CORR_RECOMPUTE_GIVEUP : Nat := 0x1C8
def CORR_RETIRED : Nat := 0x1C9
def CORR_DEGRADED : Nat := 0x1CA
def CORR_SPARES_OUT : Nat := 0x1CB
def CORR_THERMAL_MOVE : Nat := 0x1CC
def GRAN_SATURATE : Nat := 0x200
def GRAN_STRETCH : Nat := 0x201
def GRAN_HOLD_EXPIRED : Nat := 0x202
def GLEAN_FREEZE_REFUSED : Nat := 0x280
def BALER_VERIFY_FAIL : Nat := 0x2C0
def BALER_DEGRADED : Nat := 0x2C1
def ETH_LINK_DOWN : Nat := 0x300
def ETH_C0_HELD : Nat := 0x301
def RING_DOORBELL_BAD : Nat := 0x340
def RING_CFG_BUSY : Nat := 0x341
def RING_RUNAWAY : Nat := 0x342
def RING_CQ_FULL : Nat := 0x343
def DMA_TIMEOUT : Nat := 0x380
def DMA_BUS : Nat := 0x381
def DMA_ABORT : Nat := 0x382
def PCIE_AER_CE : Nat := 0x383
def PCIE_AER_NF : Nat := 0x384
def PCIE_WEDGED : Nat := 0x385
def HBM_CE : Nat := 0x3C0
def HBM_UE : Nat := 0x3C1
def HBM_HOT : Nat := 0x3C2
def HBM_TRAIN_FAIL : Nat := 0x3C3
def XBAR_DECODE : Nat := 0x400
def XBAR_UE : Nat := 0x401
def REF_QUALIFIED : Nat := 0x440
def REF_SOFT_ALARM : Nat := 0x441
def REF_DISQUALIFIED : Nat := 0x442
def REF_DISAGREE : Nat := 0x443
def REF_SWITCH : Nat := 0x444
def REF_HOLDOVER : Nat := 0x445
def REF_HO_EXPIRED : Nat := 0x446
def REF_UNLOCK : Nat := 0x447
def REF_LO_RANGE : Nat := 0x448
def REF_PULSE_REALIGN : Nat := 0x449
def REF_CFG_BUSY : Nat := 0x44A
def TIME_JUMP_REFUSED : Nat := 0x480
def TIME_UNLOCK : Nat := 0x481
def TIME_STEPPED : Nat := 0x482
def TIME_CFG_BUSY : Nat := 0x483
def ADC_QUEUE_FULL : Nat := 0x500
def ADC_INJ_LOST : Nat := 0x501
def ADC_CFG_BUSY : Nat := 0x502
def THERM_WARN : Nat := 0x503
def THERM_TRIP : Nat := 0x504
def TWIN_YIELD : Nat := 0x5C0
def TWIN_TAKEOVER : Nat := 0x5C1
def TWIN_PEER_LOST : Nat := 0x5C2
def TWIN_UNSYNC : Nat := 0x5C3
def TWIN_SYNCED : Nat := 0x5C4
def TWIN_RETURN : Nat := 0x5C5
def TWIN_SPLIT : Nat := 0x5C6
def TWIN_PREF_CONFLICT : Nat := 0x5C7
def WEAVE_DIGEST_MISMATCH : Nat := 0x600
def WEAVE_FWD_DROP : Nat := 0x601
def WEAVE_FLAG_TIMEOUT : Nat := 0x602
def WEAVE_DECISION_WAIT : Nat := 0x603
def WEAVE_MASK_LATE : Nat := 0x604
def WEAVE_LINK_LOST : Nat := 0x605
def AVS_BUS_ERR : Nat := 0x640
def AVS_LIMIT : Nat := 0x641
def HKC_FW_MSG : Nat := 0x680
def DBG_UNLOCKED : Nat := 0x6C0
def DBG_UNLOCK_FAIL : Nat := 0x6C1
def FUSE_PROG_DONE : Nat := 0x700
def FUSE_PROG_FAIL : Nat := 0x701

end Ev

/-- Every assigned event with its class (R483, R486, R541, R563, R583). -/
def eventClasses : List (Nat × Nat) :=

  [(0x000, 6), (0x001, 3), (0x002, 0), (0x003, 4), (0x004, 6), (0x005, 5), (0x006, 6), (0x007, 0), (0x080, 4), (0x081, 2), (0x082, 6), (0x083, 4)] ++
  [(0x084, 4), (0x085, 2), (0x086, 2), (0x087, 4), (0x088, 6), (0x089, 3), (0x0C0, 3), (0x0C1, 3), (0x0C2, 3), (0x0C3, 3), (0x0C4, 3), (0x0C5, 3)] ++
  [(0x0C6, 3), (0x0C8, 3), (0x0C9, 3), (0x0CA, 4), (0x0CB, 0), (0x0CC, 3), (0x0CD, 3), (0x180, 2), (0x181, 0), (0x1C0, 2), (0x1C1, 2), (0x1C2, 1)] ++
  [(0x1C3, 2), (0x1C4, 2), (0x1C5, 4), (0x1C6, 1), (0x1C7, 2), (0x1C8, 3), (0x1C9, 4), (0x1CA, 4), (0x1CB, 4), (0x1CC, 0), (0x200, 3), (0x201, 2)] ++
  [(0x202, 3), (0x280, 0), (0x2C0, 3), (0x2C1, 4), (0x300, 4), (0x301, 3), (0x340, 6), (0x341, 6), (0x342, 6), (0x343, 0), (0x380, 3), (0x381, 3)] ++
  [(0x382, 0), (0x383, 1), (0x384, 3), (0x385, 5), (0x3C0, 1), (0x3C1, 3), (0x3C2, 4), (0x3C3, 4), (0x400, 6), (0x401, 3), (0x440, 0), (0x441, 0)] ++
  [(0x442, 4), (0x443, 4), (0x444, 0), (0x445, 4), (0x446, 4), (0x447, 4), (0x448, 4), (0x449, 0), (0x44A, 6), (0x480, 3), (0x481, 4), (0x482, 0)] ++
  [(0x483, 6), (0x500, 3), (0x501, 3), (0x502, 6), (0x503, 4), (0x504, 5), (0x5C0, 4), (0x5C1, 4), (0x5C2, 4), (0x5C3, 4), (0x5C4, 0), (0x5C5, 0)] ++
  [(0x5C6, 4), (0x5C7, 4), (0x600, 6), (0x601, 3), (0x602, 3), (0x603, 2), (0x604, 3), (0x605, 4), (0x640, 4), (0x641, 4), (0x680, 0), (0x6C0, 0)] ++
  [(0x6C1, 6), (0x700, 0), (0x701, 6)]

/-- The class of an assigned event; none for an identifier that is never raised. -/
def eventClass (e : Nat) : Option Nat := (eventClasses.find? (fun p => p.1 == e)).map (·.2)

/-- The events of the timing island, REF, TIME and ALM (R493). -/
def islandEvent (e : Nat) : Bool := 0x440 ≤ e && e < 0x500

/-! ### Completion statuses -/

namespace St

def OK : Nat := 0x0000
def SUPERSEDED : Nat := 0x0001
def BAD_OPCODE : Nat := 0x0010
def BAD_VERSION : Nat := 0x0011
def BAD_LENGTH : Nat := 0x0012
def BAD_BOUNDS : Nat := 0x0013
def BAD_PATTERN : Nat := 0x0014
def BAD_PARAM : Nat := 0x0015
def TIME_FORMAT : Nat := 0x0016
def NOT_RUNNING : Nat := 0x0017
def BAD_TIMEOUT : Nat := 0x0020
def BAD_BUS : Nat := 0x0021
def RUNAWAY : Nat := 0x0030
def ABORTED : Nat := 0x0031
def RESET : Nat := 0x0032
def BEAM_BANK_BUSY : Nat := 0x0040
def BEAM_RANGE : Nat := 0x0041
def GLEAN_STATE : Nat := 0x0042
def GLEAN_RANGE : Nat := 0x0043
def ETH_STREAM_BUSY : Nat := 0x0044
def ETH_CLASS : Nat := 0x0045
def REF_NOT_QUALIFIED : Nat := 0x0100
def REF_NO_PULSE : Nat := 0x0101
def REF_BW_RANGE : Nat := 0x0102
def REF_STOPPED : Nat := 0x0103
def TIME_JUMP_REFUSED : Nat := 0x0110
def TIME_STALE : Nat := 0x0111
def TIME_BW_RANGE : Nat := 0x0112
def TIME_NOT_SERVO : Nat := 0x0113
def ALM_FIRED : Nat := 0x0118
def ALM_BAD_ENTRY : Nat := 0x0119
def TARGET_IN_RESET : Nat := 0x011A
def ADC_NOT_SEQ : Nat := 0x0120
def ADC_INJ_LOST : Nat := 0x0121
def DAC_OWNED : Nat := 0x0122
def DAC_RANGE_BUSY : Nat := 0x0123

end St

/-! ### Commit codes -/

namespace Code

def LANE_CONFLICT : Nat := 0x0001
def LANE_RATE : Nat := 0x0002
def INGEST_MAP : Nat := 0x0010
def INGEST_SLICE : Nat := 0x0011
def INGEST_SKEW : Nat := 0x0012
def INGEST_FORMAT : Nat := 0x0013
def INGEST_BUDGET : Nat := 0x0014
def HARROW_RANGE : Nat := 0x0018
def HARROW_PROTO : Nat := 0x0019
def HARROW_RATE : Nat := 0x001A
def WEED_LEN : Nat := 0x0020
def WEED_RANGE : Nat := 0x0021
def TURN_RANGE : Nat := 0x0028
def HBM_BUDGET : Nat := 0x0029
def HBM_CAPACITY : Nat := 0x002A
def HBM_RANGE : Nat := 0x002B
def HBM_UNTRAINED : Nat := 0x002C
def CORR_RATE : Nat := 0x0030
def CORR_GOV_RANGE : Nat := 0x0031
def CORR_RANGE : Nat := 0x0032
def GRAN_GROUP : Nat := 0x0038
def GRAN_STREAM : Nat := 0x0039
def GRAN_RANGE : Nat := 0x003A
def GRAN_FORMAT : Nat := 0x003B
def BEAM_RATE : Nat := 0x0040
def BEAM_SOURCE : Nat := 0x0041
def BEAM_RANGE : Nat := 0x0042
def BEAM_LATENCY : Nat := 0x0043
def GLEAN_RANGE : Nat := 0x0048
def BALER_OFF : Nat := 0x0050
def BALER_RANGE : Nat := 0x0051
def ETH_PORT : Nat := 0x0058
def ETH_STREAM : Nat := 0x0059
def ETH_CLASS : Nat := 0x005A
def ETH_MTU : Nat := 0x005B
def ETH_C0_SHARE : Nat := 0x005C
def WEAVE_BUDGET : Nat := 0x0060
def WEAVE_BEAM : Nat := 0x0061
def TWIN_CONFIG : Nat := 0x0068
def EWESEN_RANGE : Nat := 0x0070
def GLB_MODE : Nat := 0x0078
def AVS_RANGE : Nat := 0x0080

end Code

end Sys2Proof.Machine
end

