-- ==== Sys2Proof/Machine/Ops.lean ====
section
/-! DEFINITION. The named operations over the state: registers, HBM bytes, free values, events and interrupts, messages to
rings and streams, taking a descriptor and completing it. Every family is written over these. -/

namespace Sys2Proof.Machine

/-- What every command answers. -/
abbrev Result := Host.Outcome State Fault Refusal

/-! ### Registers -/

/-- REF_IN_WIN resets to a wider window on references 2 to 4 (spec/15_reference_and_clocks.md). -/
def refWinReset (r : Nat) : Nat := if 2 ≤ r ∧ r ≤ 4 then 0x00C80032 else 0x0032000A

/-- Reset value of the register at an offset (R17): the table's, with the values that differ by instance; 0 where no
register lies (R19). -/
def regReset (a : Nat) : Word :=
  if a = Reg.LANE_CFG 96 then 2 -- RATE 0b10 on lane 96
  else if Reg.HBM_PORT_LT 0 ≤ a ∧ a ≤ Reg.HBM_PORT_LT 7 then
    BitVec.ofNat 32 ([400, 200, 400, 2000, 800, 2000, 2000, 5000].getD ((a - Reg.HBM_PORT_LT 0) / 4) 0)
  else if Reg.EVT_SRC_CFG 0 ≤ a ∧ a ≤ Reg.EVT_SRC_CFG 2047 then
    let e := (a - Reg.EVT_SRC_CFG 0) / 4
    BitVec.ofNat 32 (1 + e * 2 ^ 8 + (eventClass e).getD 0 * 2 ^ 19)
  else if Reg.REF_IN_WIN 0 ≤ a ∧ a ≤ Reg.REF_IN_WIN 5 ∧ (a - Reg.REF_IN_WIN 0) % (Reg.REF_IN_WIN 1 - Reg.REF_IN_WIN 0) = 0 then
    BitVec.ofNat 32 (refWinReset ((a - Reg.REF_IN_WIN 0) / (Reg.REF_IN_WIN 1 - Reg.REF_IN_WIN 0)))
  else match regAt a with
    | none => 0
    | some r => BitVec.ofNat 32 ((r.fields.map (fun f => f.rst * 2 ^ f.lo)).sum)

namespace State

/-- The register at an offset. -/
def reg (s : State) (a : Nat) : Word := (mapFind s.regs a).getD (regReset a)

/-- Hardware sets a whole register. Log: 2 (DESIGN CHOICE). -/
def wr (s : State) (a : Nat) (v : Word) : State := { s with regs := mapSet (regReset a) s.regs a v }

/-- A field's value. -/
def get (s : State) (a : Nat) (f : Fld) : Nat := f.of (s.reg a)

/-- A one-bit field as a Bool. -/
def flag (s : State) (a : Nat) (f : Fld) : Bool := s.get a f = 1

/-- Hardware sets a field. -/
def set (s : State) (a : Nat) (f : Fld) (v : Nat) : State := s.wr a (f.into (s.reg a) v)

/-- Hardware sets a one-bit field. -/
def setFlag (s : State) (a : Nat) (f : Fld) (b : Bool) : State := s.set a f (b2n b)

/-- The whole register as a number. -/
def full (s : State) (a : Nat) : Nat := (s.reg a).toNat

/-- Hardware sets a whole register from a number. -/
def wrN (s : State) (a : Nat) (v : Nat) : State := s.wr a (BitVec.ofNat 32 v)

/-- A counter field rises by `n`, saturating. -/
def bump (s : State) (a : Nat) (f : Fld) (n : Nat := 1) : State := s.set a f (satU f.width (s.get a f + n))

/-- A 32-bit counter rises by `n`, saturating. -/
def count (s : State) (a : Nat) (n : Nat := 1) : State := s.wrN a (satU 32 (s.full a + n))

/-- A maximum field takes the larger of its value and `v`. Log: 31 (DESIGN CHOICE). -/
def peak (s : State) (a : Nat) (f : Fld) (v : Nat) : State := if s.get a f < v then s.set a f (satU f.width v) else s

/-- Two registers as one 64-bit number, low word first. -/
def pair (s : State) (lo hi : Nat) : Nat := s.full lo + s.full hi * 2 ^ 32

/-- A 64-bit number into two registers. -/
def wrPair (s : State) (lo hi : Nat) (v : Nat) : State := (s.wrN lo v).wrN hi (v / 2 ^ 32)

/-! ### Free values -/

/-- The next free value, below `n`; the counter advances. Log: 8 (DESIGN CHOICE), 135 (DESIGN CHOICE). -/
def free (s : State) (n : Nat) : Nat × State := (Config.freeNat s.freeIx % n, { s with freeIx := s.freeIx + 1 })

/-! ### Status that many families ask -/

/-- GLB_STATUS.STATE reads RUNNING (R546). -/
def running (s : State) : Bool := s.get Reg.GLB_STATUS Fld.GLB_STATUS_STATE = 2

/-- GLB_STATUS.STATE reads IDLE. -/
def idle (s : State) : Bool := s.get Reg.GLB_STATUS Fld.GLB_STATUS_STATE = 1

/-- The device is HALTED (R546). -/
def halted (s : State) : Bool := s.get Reg.GLB_STATUS Fld.GLB_STATUS_STATE = 3

/-- The device has reached READY (R544). -/
def isReady (s : State) : Bool := s.flag Reg.GLB_STATUS Fld.GLB_STATUS_READY

/-- A BAR0 write to a block other than GLB, FUSE and DBG takes effect: the device is READY (R545) and no commit check runs
(R554). -/
def served (s : State) : Bool := s.isReady && !s.sys.checking

/-- Ewesen mode is in force (R564). -/
def ewesen (s : State) : Bool := s.flag Reg.GLB_STATUS Fld.GLB_STATUS_EWESEN

/-- The host function can start an outbound transfer: link up, Bus Master Enable, D0, not wedged (R328, R494). -/
def hostCan (s : State) : Bool :=
  s.flag Reg.DMA_PCIE_STATUS Fld.DMA_PCIE_STATUS_LINK_UP && s.flag Reg.DMA_PCIE_STATUS Fld.DMA_PCIE_STATUS_BUS_MASTER
    && !s.flag Reg.EVT_WEDGE Fld.EVT_WEDGE_WEDGED && !s.host.d3hot

/-- Registers of the twin and weave blocks, whose settings take effect at commit. -/
def unitBlock (a : Nat) : Bool := 0x2300000 ≤ a && a < 0x2500000

/-- A setting of the twin and weave blocks in force since the last commit. -/
def unitReg (s : State) (a : Nat) : Word := (mapFind s.sys.unitRegs a).getD (regReset a)
def unitGet (s : State) (a : Nat) (f : Fld) : Nat := f.of (s.unitReg a)
def unitFlag (s : State) (a : Nat) (f : Fld) : Bool := s.unitGet a f = 1

/-- The configuration digest in force (R503). -/
def digest (s : State) : Nat := (s.unitReg Reg.WEAVE_DIGEST_LO).toNat + (s.unitReg Reg.WEAVE_DIGEST_HI).toNat * 2 ^ 32

/-- The settings of the twin and weave blocks take effect (R554). -/
def latchUnit (s : State) : State := { s with sys := { s.sys with unitRegs := s.regs.filter (fun e => unitBlock e.1) } }

/-- The standby of a twin pair runs every counter and sends nothing (R316, R526); so does a unit whose role is still open (R521). -/
def standby (s : State) : Bool :=
  s.unitFlag Reg.TWIN_CFG Fld.TWIN_CFG_ENABLE && (s.get Reg.TWIN_STATUS Fld.TWIN_STATUS_ROLE = 2 || s.twin.undecided)

/-- Time stamp of the counter now (R426): the upper 16 bits of the fraction. -/
def now (s : State) : Stamp := ⟨s.clock.sec, s.clock.ns, s.clock.frac / 65536⟩

/-- A read with side effects answers a value; until READY it answers the register's reset value and has no effect (R545).
Log: 12 (DESIGN CHOICE). -/
def answer (s : State) (a v : Nat) (f : State → State) : State :=
  if s.isReady then { f s with readData := BitVec.ofNat 32 v } else { s with readData := regReset a }

/-! ### HBM bytes -/

/-- A byte of HBM; a byte that nothing has written since the contents were lost is undefined (R387). Log: 119 (DESIGN CHOICE). -/
def hbmByte (s : State) (a : Nat) : Byte := (mapFind s.hbm a).getD (Config.hbmByte s.hbmEpoch a)

/-- `n` bytes of HBM from an address. -/
def hbmRead (s : State) (a n : Nat) : List Byte := (List.range n).map (fun i => s.hbmByte (a + i))

/-- A byte written to HBM. Log: 2 (DESIGN CHOICE). -/
def hbmPut (s : State) (a : Nat) (b : Byte) : State := { s with hbm := mapPut s.hbm a b }

/-- Bytes written to HBM from an address upward. -/
def hbmWrite (s : State) (a : Nat) : List Byte → State
  | [] => s
  | b :: t => (s.hbmPut a b).hbmWrite (a + 1) t

/-- Does any 32-byte burst under these bytes hold poison (R384)? -/
def poisoned (s : State) (a n : Nat) : Bool := s.poison.any (fun b => b * 32 < a + n && a < b * 32 + 32)

/-- Size of the HBM space in bytes: 216 GiB (R22). -/
def hbmSize : Nat := 216 * 2 ^ 30

/-! ### Interrupts (R368, R491) -/

/-- Signal an MSI-X vector: a masked vector, or one that cannot leave now, sets its Pending Bit; a standby sends none (R526).
Log: 112 (DEDUCED). -/
def signal (s : State) (v : Nat) : State :=
  if bitAt ((mapFind s.host.msix v).getD (0, 0, 1)).2.2 0 || (!s.standby && (!s.hostCan || s.stopped)) then
    { s with host := { s.host with pba := if s.host.pba.contains v then s.host.pba else v :: s.host.pba } }
  else if s.standby then s
  else { s with out := { s.out with msix := s.out.msix ++ [v] } }

/-! ### Events -/

/-- Merge an occurrence into the source's waiting record, or create one (R489). Log: 157 (DEDUCED). -/
def recordInto (e detail : Nat) (t : Stamp) (q n : Nat) (stale : Bool) : List EvtRec → List EvtRec
  | [] => [⟨e, satU 16 n, detail, t.sec, t.ns, t.frac, q, stale⟩]
  | r :: l => if r.event = e then { r with count := satU 16 (r.count + n) } :: l else r :: recordInto e detail t q n stale l

/-- Hold an occurrence in the island: the first one's DETAIL and time, and an exact count (R489, R493). Log: 157 (DEDUCED). -/
def holdInto (e detail : Nat) (t : Stamp) : List EvtRec → List EvtRec
  | [] => [⟨e, 1, detail, t.sec, t.ns, t.frac, 0, false⟩]
  | r :: l => if r.event = e then { r with count := r.count + 1 } :: l else r :: holdInto e detail t l

/-- EVT_STATUS shows the store and whether occurrences are held. -/
def showStore (s : State) : State :=
  (s.set Reg.EVT_STATUS Fld.EVT_STATUS_WAITING s.evt.store.length).setFlag Reg.EVT_STATUS Fld.EVT_STATUS_HELD (!s.evt.held.isEmpty)

/-- The record of an occurrence, where R490 does not exclude it. -/
def eventRecord (s : State) (e detail : Nat) (t : Stamp) (n : Nat) (stale : Bool := false) : State :=
  let q := s.get (Reg.EVT_SRC_CFG e) Fld.EVT_SRC_CFG_QUEUE
  if s.flag Reg.EVT_CFG Fld.EVT_CFG_ENABLE && s.flag (Reg.EVT_SRC_CFG e) Fld.EVT_SRC_CFG_REC_EN
      && s.flag (Reg.EVT_Q_CFG q) Fld.EVT_Q_CFG_EN then
    ({ s with evt := { s.evt with store := recordInto e detail t q n stale s.evt.store } } : State).showStore
  else s

/-- The interrupt of an occurrence (R491). -/
def eventIrq (s : State) (e : Nat) : State :=
  let a := Reg.EVT_SRC_CFG e
  if s.flag a Fld.EVT_SRC_CFG_IRQ_EN then
    if s.flag a Fld.EVT_SRC_CFG_ARMED then
      (s.setFlag a Fld.EVT_SRC_CFG_ARMED false).signal (s.get a Fld.EVT_SRC_CFG_VECTOR)
    else s.setFlag a Fld.EVT_SRC_CFG_PENDING true
  else s

/-- Is an event stamped from a stale copy of the counter (R41)? The timing island stamps its own from the counter itself. -/
def stampStale (s : State) (e : Nat) : Bool := s.sys.staleTime && !islandEvent e

/-- The time that an occurrence carries: the counter, or the last value of a stale copy of it (R41, R487). -/
def stampNow (s : State) (e : Nat) : Stamp := if s.stampStale e then s.sys.timeCopy else s.now

/-- One occurrence of an event (R489–R493): held by the island in a kept reset, else counted, recorded and signalled.
Log: 157 (DEDUCED). -/
def raise (s : State) (e : Nat) (detail : Nat := 0) : State :=
  if (eventClass e).isNone then s
  else if s.sys.keptReset && islandEvent e then
    ({ s with evt := { s.evt with held := holdInto e (detail % 2 ^ 48) s.now s.evt.held } } : State).showStore
  else ((s.count (Reg.EVT_SRC_CNT e)).eventRecord e (detail % 2 ^ 48) (s.stampNow e) 1 (s.stampStale e)).eventIrq e

/-- Raise an event if a condition holds. -/
def raiseIf (s : State) (c : Bool) (e : Nat) (detail : Nat := 0) : State := if c then s.raise e detail else s

/-! ### Rings -/

/-- A ring's state outside its registers. -/
def ring (s : State) (r : Nat) : RingSt := (mapFind s.host.rings r).getD {}

/-- Replace it. -/
def setRing (s : State) (r : Nat) (x : RingSt) : State :=
  { s with host := { s.host with rings := mapSet {} s.host.rings r x } }

/-- RING_STATE.STATE (R339): 0 DISABLED, 1 ACTIVE, 2 PAUSED, 3 HALTED. -/
def ringState (s : State) (r : Nat) : Nat := s.get (Reg.RING_STATE r) Fld.RING_STATE_STATE

/-- Entries of a ring, S. -/
def ringSize (s : State) (r : Nat) : Nat := 2 ^ s.get (Reg.RING_CFG r) Fld.RING_CFG_LOG2SIZE

/-- RING_CFG.TYPE: 0 submission, 1 delivery, 2 completion. -/
def ringType (s : State) (r : Nat) : Nat := s.get (Reg.RING_CFG r) Fld.RING_CFG_TYPE

/-- The owning completion ring. -/
def ringCq (s : State) (r : Nat) : Nat := s.get (Reg.RING_CFG r) Fld.RING_CFG_CQ

/-- The ring's DMA channel. -/
def ringChannel (s : State) (r : Nat) : Nat := s.get (Reg.RING_CFG r) Fld.RING_CFG_CHANNEL

/-- The ring's base in host memory. -/
def ringBase (s : State) (r : Nat) : Nat :=
  s.get (Reg.RING_BASE_LO r) Fld.RING_BASE_LO_BASE * 4096 + s.full (Reg.RING_BASE_HI r) * 2 ^ 32

/-- The device position (R331). -/
def devPos (s : State) (r : Nat) : Nat := s.get (Reg.RING_STATE r) Fld.RING_STATE_DEV_POS

/-- The host position. -/
def hostPos (s : State) (r : Nat) : Nat := s.get (Reg.RING_HOST_POS r) Fld.RING_HOST_POS_POS

end State

/-- A position's value index + phase × S (R331). -/
def posValue (size p : Nat) : Nat := p % 65536 + p / 65536 % 2 * size

/-- The position after a position. -/
def posNext (size p : Nat) : Nat :=
  if p % 65536 + 1 = size then (if p / 65536 % 2 = 1 then 0 else 65536) else p + 1

/-- Entries outstanding: (producer − consumer) mod 2S. -/
def posDiff (size prod cons : Nat) : Nat := (posValue size prod + 2 * size - posValue size cons % (2 * size)) % (2 * size)

namespace State

/-- Does [lo, hi) lie in the ring's host window (R333)? -/
def inHostWin (s : State) (r lo hi : Nat) : Bool :=
  let base := (s.full (Reg.RING_HWIN_LO r) + s.get (Reg.RING_HWIN_HI r) Fld.RING_HWIN_HI_PAGE * 2 ^ 32) * 4096
  let size := s.full (Reg.RING_HWIN_PAGES r) * 4096
  decide (size ≠ 0) && decide (base ≤ lo) && decide (hi ≤ base + size)

/-- Does [lo, hi) lie in the ring's device window (R333)? -/
def inDevWin (s : State) (r lo hi : Nat) : Bool :=
  let base := s.get (Reg.RING_DWIN r) Fld.RING_DWIN_BASE_MIB * 2 ^ 20
  let size := s.get (Reg.RING_DWIN_SIZE r) Fld.RING_DWIN_SIZE_MIB * 2 ^ 20
  decide (size ≠ 0) && decide (base ≤ lo) && decide (hi ≤ base + size)

/-- A host write for a ring, covered once the ring's device position reaches `pos`: a standby holds it (R528), otherwise it leaves the device. -/
def hostWrite (s : State) (r pos a : Nat) (bs : List Byte) (ro : Bool := false) : State :=
  if s.standby then { s with heldWrites := s.heldWrites ++ [⟨r, pos, a, bs, ro⟩] }
  else { s with out := { s.out with host := s.out.host ++ [⟨a, bs, ro⟩] } }

/-- Do data reads and writes of the DMA channels carry Relaxed Ordering (R328)? -/
def dataRo (s : State) : Bool := s.host.relaxed && s.flag Reg.DMA_CFG Fld.DMA_CFG_RO_EN

/-- Host writes are split at multiples of 512 bytes of address, and of a smaller Max Payload Size (R328, R350). -/
def hostPieces (mps : Nat) : Nat → Nat → List Byte → List (Nat × List Byte)
  | 0, a, bs => [(a, bs)]
  | fuel + 1, a, bs =>
    let n := mps - a % mps
    if bs.length ≤ n then [(a, bs)] else (a, bs.take n) :: hostPieces mps fuel (a + n) (bs.drop n)

/-- A write of the chip matrix leaves for the host (R350, R390). -/
def matrixOut (s : State) (a : Nat) (bs : List Byte) : State :=
  { s with out := { s.out with host := s.out.host ++
    (hostPieces s.host.mps (bs.length / s.host.mps + 1) a bs).map (fun w => ⟨w.1, w.2, s.dataRo⟩) } }

/-- Can a host transfer start: the function can (R494) and the unit has not stopped after a yield (R532). -/
def hostFree (s : State) : Bool := s.hostCan && !s.stopped

/-- Halt a ring with a cause (R339). -/
def haltRing (s : State) (r cause : Nat) : State :=
  (s.set (Reg.RING_STATE r) Fld.RING_STATE_STATE 3).set (Reg.RING_STATE r) Fld.RING_STATE_CAUSE cause

/-! ### Messages -/

/-- A message's bytes with ALIVE and then its check value put in (R361, R315, R497). -/
def sealed (m : Msg) (alive : Nat) : List Byte :=
  let b := match m.alive with
    | some o => bytesPut m.bytes o (le 1 alive)
    | none => m.bytes
  match m.crc with
  | some (n, o) => bytesPut b o (le 4 (crc32c (b.take n)))
  | none => b

/-- A message that is discarded or dropped is counted for its ring (R359, R360, R356). -/
def dropMsg (s : State) (r : Nat) (m : Msg) : State :=
  let s := s.bump (Reg.RING_COUNT r) Fld.RING_COUNT_DROPS
  let s := s.setRing r { s.ring r with dropped := satU 16 ((s.ring r).dropped + 1) }
  match m.full with
  | .counts a => s.count a
  | _ => s

/-- Hand a message to a delivery ring: it waits there for DELIVERY_MESSAGE; a ring that is DISABLED or HALTED discards it
whole (R359). -/
def toRing (s : State) (r : Nat) (m : Msg) : State :=
  if s.ringState r = 0 ∨ s.ringState r = 3 then s.dropMsg r m
  else
    let x := s.ring r
    s.setRing r { x with msgs := x.msgs ++ [m] }

/-- Does a ring take a waiting producer's message now (R360): no message waits and a buffer is free, or the ring discards? -/
def ringTakes (s : State) (r : Nat) : Bool :=
  s.ringState r = 0 || s.ringState r = 3 || (!(s.ring r).bufs.isEmpty && (s.ring r).msgs.isEmpty && (s.ring r).cur.isNone)

/-- An egress stream outside its registers. -/
def stream (s : State) (i : Nat) : StreamSt := (mapFind s.eth.streams i).getD {}

/-- Replace it. -/
def setStream (s : State) (i : Nat) (x : StreamSt) : State :=
  { s with eth := { s.eth with streams := mapSet {} s.eth.streams i x } }

/-- A data port's scheduler. -/
def port (s : State) (p : Nat) : PortSt := (mapFind s.eth.ports p).getD {}

/-- Replace it. -/
def setPort (s : State) (p : Nat) (x : PortSt) : State :=
  { s with eth := { s.eth with ports := mapSet {} s.eth.ports p x } }

/-- A register of the egress block as it took effect at commit (R326). -/
def ethReg (s : State) (a : Nat) : Word := (mapFind s.eth.regs a).getD (regReset a)
def ethGet (s : State) (a : Nat) (f : Fld) : Nat := f.of (s.ethReg a)
def ethFlag (s : State) (a : Nat) (f : Fld) : Bool := s.ethGet a f = 1
def ethFull (s : State) (a : Nat) : Nat := (s.ethReg a).toNat

/-- The settings of the time block (R453). -/
def timeSettings : List Nat :=
  [Reg.TIME_CFG, Reg.TIME_INC, Reg.TIME_INC_FRAC, Reg.TIME_LIMITS, Reg.TIME_JUMP, Reg.TIME_PPS_OFS, Reg.TIME_PTP_LAT, Reg.TIME_CAP]
    ++ (List.range 4).map Reg.TIME_EVT_CFG

/-- A setting of the time block as it took effect when REF_CTL.RUN last went to 1 (R453). -/
def timeReg (s : State) (a : Nat) : Word := (mapFind s.time.regs a).getD (regReset a)
def timeGet (s : State) (a : Nat) (f : Fld) : Nat := f.of (s.timeReg a)
def timeFlag (s : State) (a : Nat) (f : Fld) : Bool := s.timeGet a f = 1
def timeFull (s : State) (a : Nat) : Nat := (s.timeReg a).toNat

/-- A setting of the time block takes effect at once: a fuse value (R441), TIME_SERVO (R452). -/
def timePut (s : State) (a v : Nat) : State :=
  let s := s.wrN a v
  { s with time := { s.time with regs := mapSet (regReset a) s.time.regs a (BitVec.ofNat 32 v) } }

/-- A setting of the converter as it took effect when ENABLE last went to 1 (R482). -/
def adcReg (s : State) (a : Nat) : Word := (mapFind s.adc.regs a).getD (regReset a)
def adcGet (s : State) (a : Nat) (f : Fld) : Nat := f.of (s.adcReg a)
def adcDma (s : State) : Bool := s.adcGet Reg.ADC_CFG Fld.ADC_CFG_DMA_EN = 1
def adcRing (s : State) : Nat := s.adcGet Reg.ADC_RING Fld.ADC_RING_RING

/-- Is a data port's link up? -/
def portUp (s : State) (p : Nat) : Bool := bitAt (s.get Reg.ETH_STATUS Fld.ETH_STATUS_PORT_UP) p

/-- The ports of a stream's set, ascending. -/
def streamPorts (s : State) (i : Nat) : List Nat :=
  (List.range 16).filter (fun p => bitAt (s.ethGet (Reg.ETH_STR_CFG i) Fld.ETH_STR_CFG_PORTS) p)

end State

/-- The 16-byte packet header of class 1–3 (R313). -/
def packetHeader (first last : Bool) (seq len : Nat) : List Byte :=
  [0x7A, 0x01] ++ le 1 (b2n first + 2 * b2n last) ++ zeros 1 ++ le 8 seq ++ le 2 len ++ zeros 2

/-- The packets of a class 1–3 message cut into pieces, from a packet number (R312, R313). Log: 92 (DEDUCED). -/
def packetsOf (stream cls : Nat) (first : Bool) (seq : Nat) : List (List Byte) → List Pkt
  | [] => []
  | [p] => [{ stream := some stream, cls := cls, seq := seq % 2 ^ 64, bytes := packetHeader first true (seq % 2 ^ 64) p.length ++ p }]
  | p :: t => { stream := some stream, cls := cls, seq := seq % 2 ^ 64, bytes := packetHeader first false (seq % 2 ^ 64) p.length ++ p }
    :: packetsOf stream cls false (seq + 1) t

namespace State

/-- Place a message on an egress stream (R312–R315): ALIVE is taken and advanced; a class 0 message is one packet on the
stream's port, discarded and counted when the port is down (R322); others are cut into packets numbered by PKT_SEQ. -/
def toStream (s : State) (i cls : Nat) (m : Msg) : State :=
  let alive := s.get (Reg.ETH_STR_ALIVE i) Fld.ETH_STR_ALIVE_ALIVE
  let b := sealed m alive
  let s := s.set (Reg.ETH_STR_ALIVE i) Fld.ETH_STR_ALIVE_ALIVE (alive + 1)
  if cls = 0 then
    let y := s.stream i
    let s := s.setStream i { y with pktSeq := (y.pktSeq + 1) % 2 ^ 64 }
    match s.streamPorts i with
    | p :: _ =>
      if s.portUp p then
        let x := s.port p
        s.setPort p { x with c0 := x.c0 ++ [{ stream := some i, cls := 0, seq := y.pktSeq, bytes := b }] }
      else s.count (Reg.ETH_PORT_COUNT p 2)
    | [] => s
  else
    let x := s.stream i
    let size := 64 * s.ethGet (Reg.ETH_STR_L4 i) Fld.ETH_STR_L4_PAYLOAD
    let ps := packetsOf i cls true x.pktSeq (pieces size b.length b)
    s.setStream i { x with pktSeq := (x.pktSeq + ps.length) % 2 ^ 64, queue := x.queue ++ ps }

/-- Send a message to a destination: a delivery ring or a stream of a class. -/
def toDest (s : State) (toR : Bool) (dest cls : Nat) (m : Msg) : State :=
  if toR then s.toRing dest m else s.toStream dest cls m

/-! ### Taking a descriptor and completing it -/

/-- May the channel start something new from the ring (R339, R358, R359, R366)? -/
def canStart (s : State) (r : Nat) : Bool :=
  decide (s.ringState r = 1) && (s.ring r).xfer.isNone
    && decide (((s.ring r).slots.filter (fun l => l.result.isSome)).length < 256)
    && !(s.ring (s.ringCq r)).waiting
    && decide (s.get (Reg.DMA_CH_STATUS (s.ringChannel r)) Fld.DMA_CH_STATUS_STATE ≠ 2)

/-- The entry that the ring would start next: inside a chain only a chained one (R353), after a FENCE only once every
earlier record has been written (R346). -/
def nextEntry (s : State) (r : Nat) : Option Entry :=
  match (s.ring r).queue with
  | [] => none
  | e :: _ =>
    if (s.ring r).chain.isSome && !e.chained then none
    else if descFence e.bytes && !(s.ring r).slots.isEmpty then none
    else some e

/-- The status of a descriptor that no command takes (R344, R345, R564, R566): BAD_VERSION or BAD_OPCODE. Log: 118 (DEDUCED). -/
def badStatus (s : State) (r : Nat) (d : List Byte) : Option Nat :=
  if descVersion d ≠ (if s.ewesen then 1 else 2) then some St.BAD_VERSION
  else
    let op := descOpcode d
    if s.ringType r = 1 then (if op = 0x05 then none else some St.BAD_OPCODE)
    else if op = 0x02 then (if s.ewesen then some St.BAD_OPCODE else none)
    else if op = 0x01 ∨ op = 0x03 ∨ blockOpcodes.contains op then none
    else some St.BAD_OPCODE

/-- Take the ring's next entry out of its queue and open its place in the record store. The head position of a chained
entry stays at the LINK until the entry that ends the chain (R353). -/
def openSlot (s : State) (r : Nat) (e : Entry) : Nat × State :=
  let x := s.ring r
  let ends := e.chained && descChainEnd e.bytes
  let head := match x.chain with
    | some c => if e.chained then (if ends then c.nextPos else c.linkPos) else e.head
    | none => e.head
  let rest := x.queue.drop 1
  (x.nextId, s.setRing r { x with
    queue := if ends then rest.filter (fun q => !q.chained) else rest
    chain := if ends then none else x.chain
    links := if works (descOpcode e.bytes) && (s.badStatus r e.bytes).isNone then 0 else x.links
    step := if e.chained then x.step + 1 else 0
    nextId := x.nextId + 1
    slots := x.slots ++ [⟨x.nextId, head, descTag e.bytes, e.chained, none⟩] })
where
  /-- COPY, NOP and block commands, which end a run of LINKs (R354). -/
  works (op : Nat) : Bool := op == 1 || op == 3 || (decide (0x10 ≤ op) && decide (op < 0x50))

/-- The fire record of an EXEC is written when its command completes (R451). -/
def finishExec (s : State) (q : Nat) (c : CplRec) : State :=
  match s.alm.execs.find? (fun x => x.seq == q) with
  | none => s
  | some x =>
    let s := { s with alm := { s.alm with execs := s.alm.execs.filter (fun y => y.seq != q) } }
    let s := s.set (Reg.ALM_STATE x.entry) Fld.ALM_STATE_STATUS c.status
    if s.flag Reg.ALM_CFG Fld.ALM_CFG_REC_EN then
      s.toRing (s.get Reg.ALM_CFG Fld.ALM_CFG_RING)
        { producer := 0x12
          bytes := bytesPut (bytesPut x.record 4 (le 2 c.status)) 6 (le 1 (Nat.lor (byteAt x.record 6) (b2n c.late)))
          full := .counts (Reg.ALM_COUNT 4) }
    else s

/-- A command completes: its record enters the ring's record store (R358), or its fire record is written. A slot that a
ring reset discarded takes no record (R343). -/
def finish (s : State) (ref : CmdRef) (c : CplRec) : State :=
  match ref with
  | .slot r id =>
    let x := s.ring r
    s.setRing r { x with slots := x.slots.map (fun l =>
      if l.id = id then { l with result := some { c with tag := l.tag, chained := l.chained } } else l) }
  | .exec q => s.finishExec q c

/-- A command completes with a status alone. -/
def finishSt (s : State) (ref : CmdRef) (st : Nat) : State := s.finish ref { status := st }

/-- Complete, in order, every next entry of a ring that no command takes (R344, R345). Log: 15 (DESIGN CHOICE). -/
def settle (s : State) (r : Nat) : Nat → State
  | 0 => s
  | fuel + 1 =>
    match s.nextEntry r with
    | none => s
    | some e =>
      match s.badStatus r e.bytes with
      | none => s
      | some st =>
        if s.canStart r then
          let (id, s) := s.openSlot r e
          (s.finishSt (.slot r id) st).settle r fuel
        else s

/-- Settle a ring as far as its queue goes. -/
def settleRing (s : State) (r : Nat) : State := s.settle r (s.ring r).queue.length

/-- Take a command's descriptor: the ring's next entry when it carries the opcode and may start, or the oldest fired EXEC of
an almanac entry. Answers whom to tell, the descriptor, the ring that serves it, and the state. Log: 118 (DEDUCED). -/
def take (s : State) (src : CmdSrc) (op : Nat) : Option (CmdRef × List Byte × Nat × State) :=
  match src with
  | .ring r =>
    match s.nextEntry r with
    | some e =>
      if descOpcode e.bytes = op ∧ (s.badStatus r e.bytes).isNone ∧ s.canStart r then
        let (id, s) := s.openSlot r e
        some (.slot r id, e.bytes, r, s)
      else none
    | none => none
  | .almanac e =>
    match s.alm.execs.find? (fun x => x.entry == e.val && !x.taken && descOpcode x.desc == op) with
    | some x =>
      some (.exec x.seq, x.desc, x.ring,
        { s with alm := { s.alm with execs := s.alm.execs.map (fun y => if y.seq = x.seq then { y with taken := true } else y) } })
    | none => none

/-- A command's effect over its descriptor; without such a descriptor nothing happens. What follows it on the ring and no
command takes completes at once. -/
def command (s : State) (src : CmdSrc) (op : Nat) (f : CmdRef → List Byte → Nat → State → State) : State :=
  match s.take src op with
  | none => s
  | some (ref, d, r, s') =>
    match src with
    | .ring q => (f ref d r s').settleRing q
    | .almanac _ => f ref d r s'

/-- The parameter table of a command (R351): `n` bytes from ADDR in the ring's host window, or the status that ends it. -/
def table (s : State) (r : Nat) (d : List Byte) (n : Nat) (t : HostRead) : Except Nat (List Byte) :=
  if !s.inHostWin r (descAddr d) (descAddr d + n) then .error St.BAD_BOUNDS
  else match t with
    | .timeout => .error St.BAD_TIMEOUT
    | .bus => .error St.BAD_BUS
    | .data bs => if bs.length = n then .ok bs else .error St.BAD_BUS

/-- A command whose table read failed: counted and raised as R364 and R365 say, and completed. -/
def tableFailed (s : State) (ref : CmdRef) (r st : Nat) : State :=
  let s :=
    if st = St.BAD_TIMEOUT then (s.count (Reg.DMA_COUNT 0)).raise Ev.DMA_TIMEOUT (r + s.ringChannel r * 2 ^ 14)
    else if st = St.BAD_BUS then (s.count (Reg.DMA_COUNT 1)).raise Ev.DMA_BUS (r + s.ringChannel r * 2 ^ 14)
    else s
  s.finishSt ref st

/-- Do `f` for each item of a list in order. -/
def each {α : Type} (s : State) (l : List α) (f : State → α → State) : State := l.foldl f s

end State

/-- A command's answer: the next state. -/
def ok (s : State) : Result := .next s

end Sys2Proof.Machine
end

