-- ==== Sys2Proof/Machine/Matrix.lean ====
section
/-! DEFINITION. What other families ask of the memory address map and of the chip matrix: where an HBM address lies (R371), error
records, the default target (R35, R395) and the reset of a master port (R396–R398). -/

namespace Sys2Proof.Machine

/-- Where an HBM address lies (R371): global pseudo-channel, bank 16 sid + 4 bg + bk, row, byte in the page. -/
structure HbmPlace where
  pc : Nat
  bank : Nat
  row : Nat
  col : Nat
deriving DecidableEq, Repr

/-- The address map of R371. -/
def hbmMap (a : Nat) : HbmPlace :=
  let x := a / 256
  let z := x / 6
  let u := z / 32
  let h := Nat.xor (Nat.xor (Nat.xor (Nat.xor (u % 32) (u / 32 % 32)) (u / 1024 % 32)) (u / 32768 % 32)) (u / 1048576 % 8)
  ⟨32 * (x % 6) + Nat.xor (z % 32) h, 16 * (u / 64 % 3) + 4 * (u / 4 % 4) + u / 16 % 4, u / 64 / 3, u % 4 * 256 + a % 256⟩

/-- The memory controller port of a matrix master (R372). -/
def masterPort (m : Nat) : Fin 8 :=
  if m ≤ 4 then 5 else if m ≤ 6 then 3 else if m ≤ 18 then 4 else if m ≤ 20 then 6 else 7

namespace State

/-- A pseudo-channel. -/
def pcSt (s : State) (p : Nat) : PcSt := (mapFind s.mem.pcs p).getD {}

/-- Replace it. -/
def setPc (s : State) (p : Nat) (x : PcSt) : State := { s with mem := { s.mem with pcs := mapSet {} s.mem.pcs p x } }

/-- A master's error record: kind 1 DECODE, 2 PARTIAL, 3 DRAINED. -/
def xbarErr (s : State) (m kind space addr : Nat) (write : Bool) (beats : Nat) : State :=
  let s := s.wrN (Reg.XBAR_ERR_INFO m) (kind + space * 4 + b2n write * 16 + beats * 256)
  (s.wrN (Reg.XBAR_ERR_ADDR_LO m) addr).wrN (Reg.XBAR_ERR_ADDR_HI m) (addr / 2 ^ 32)

/-- DETAIL of a matrix event: address, master port, direction, space. -/
def xbarDetail (m space addr : Nat) (write : Bool) : Nat := addr % 2 ^ 40 + m * 2 ^ 40 + b2n write * 2 ^ 45 + space * 2 ^ 46

/-- A request at the default target (R35, R395): recorded, counted, raised. Log: 116 (DEDUCED), 117 (DEDUCED). -/
def decodeError (s : State) (m space addr : Nat) (write : Bool) : State :=
  ((s.xbarErr m 1 space addr write 0).count (Reg.XBAR_COUNT 0)).raise Ev.XBAR_DECODE (xbarDetail m space addr write)

/-- A response to a master; none is an error response. -/
def respond (s : State) (m : Nat) (r : Option (List Byte)) : State :=
  { s with xbar := { s.xbar with responses := s.xbar.responses ++ [(m, r)] } }

end State

/-- Beats of a request that had been delivered when its master was reset. Log: 126 (DESIGN CHOICE). -/
def cutAt (r : MatrixReq) (delivered : Nat) : Nat := min delivered (r.beats.val - 1)

/-- The write of a request as a part at the memory controller: the beats delivered, byte strobes off for the rest (R37).
Log: 126 (DESIGN CHOICE). -/
def partialPart (r : MatrixReq) (delivered : Nat) : HbmPart :=
  { port := masterPort r.master, write := true, addr := r.addr, len := 64 * r.beats
    data := (r.data.take (64 * delivered)).map some ++ List.replicate (64 * r.beats - min r.data.length (64 * delivered)) none }

namespace State

/-- A burst in progress of a reset master ends (R37, R396): a write is completed with byte strobes off for the beats not delivered and is
PARTIAL; a read is drained and its data discarded. -/
def endBurst (s : State) (r : MatrixReq) (delivered : Nat) : State :=
  let d := cutAt r delivered
  let s := s.xbarErr r.master (if r.write then 2 else 3) r.space r.addr r.write (r.beats - d)
  let s := (s.count (Reg.XBAR_COUNT 3)).respond r.master none
  if r.write ∧ r.space = 0 ∧ 0 < d then
    let p := (hbmMap r.addr).pc
    s.setPc p { s.pcSt p with waiting := (s.pcSt p).waiting ++ [{ part := partialPart r d }] }
  else if r.write ∧ r.space = 1 ∧ 0 < d then (if s.hostFree then s.matrixOut r.addr (r.data.take (64 * d)) else s)
  else if r.write ∧ r.space = 3 then
    { s with xbar := { s.xbar with sram := (r.data.take (64 * d)).zipIdx.foldl (fun m x => mapPut m (r.addr + x.2) x.1) s.xbar.sram } }
  else s

/-- A read of a reset master that waits at the memory controller is drained (R37, R396). -/
def drainReads (s : State) (m p : Nat) : State :=
  let x := s.pcSt p
  let mine (q : Queued) : Bool := !q.part.write && q.master == some m
  let l := (x.waiting ++ x.rq ++ x.issued).filter mine
  let s := s.each l (fun s q =>
    let s := s.xbarErr m 3 0 q.part.addr false (ceilDiv q.part.len 64)
    (s.count (Reg.XBAR_COUNT 3)).respond m none)
  let free (q : Queued) : Queued := if mine q then { q with master := none } else q
  s.setPc p { x with waiting := x.waiting.filter (fun q => !mine q), rq := x.rq.map free, issued := x.issued.map free }

/-- Reset of a master port (R396, R397): requests that wait for their grant are withdrawn, bursts in progress end, reads at the memory
controller are drained; each gets an error response. The beats delivered so far are a free value where nobody gives them.
Log: 127 (DEDUCED), 130 (DEDUCED). -/
def masterReset (s : State) (m : Nat) (delivered : Option Nat) : State :=
  let gone := s.xbar.waiting.filter (fun w => w.2.master.val == m)
  let busy := s.xbar.active.filter (fun w => w.2.master.val == m)
  let s : State := { s with xbar := { s.xbar with
    waiting := s.xbar.waiting.filter (fun w => w.2.master.val != m)
    active := s.xbar.active.filter (fun w => w.2.master.val != m) } }
  let s := s.each gone (fun s _ => s.respond m none)
  let s := s.each busy (fun s w =>
    match delivered with
    | some d => s.endBurst w.2 d
    | none =>
      let (d, s) := s.free 4
      s.endBurst w.2 d)
  s.each (s.mem.pcs.map (·.1)) (fun s p => s.drainReads m p)

end State

end Sys2Proof.Machine
end

