-- ==== Sys2Proof/Machine/Link.lean ====
section
/-! DEFINITION. Lanes and the sending side of bidirectional Balran links: lane bring-up, flits, credits, the replay buffer and
the transmit backlog (spec/02_lanes_and_balran.md). -/

namespace Sys2Proof.Machine

namespace State

/-! ### Lanes -/

/-- A lane outside its registers. -/
def lane (s : State) (l : Nat) : LaneSt := (mapFind s.lanes.lanes l).getD {}

/-- Replace it. -/
def setLane (s : State) (l : Nat) (x : LaneSt) : State :=
  { s with lanes := { s.lanes with lanes := mapSet {} s.lanes.lanes l x } }

/-- LANE_STATUS.STATE (R58): 0 OFF, 1 IDLE, 2 ADAPT, 3 SEARCH, 4 LOCKED, 5 UP. -/
def laneState (s : State) (l : Nat) : Nat := s.get (Reg.LANE_STATUS l) Fld.LANE_STATUS_STATE

/-- A scan in progress ends aborted when its lane leaves UP or LOCKED (R57). Log: 217 (DESIGN CHOICE). -/
def abortScan (s : State) (l : Nat) : State :=
  if (s.lane l).scanning ∧ 4 ≤ s.laneState l then
    let s := s.setFlag (Reg.LANE_EYE_RESULT l) Fld.LANE_EYE_RESULT_DONE true
    let s := s.setFlag (Reg.LANE_EYE_RESULT l) Fld.LANE_EYE_RESULT_ABORTED true
    let s := s.setFlag (Reg.LANE_EYE_CTL l) Fld.LANE_EYE_CTL_START false
    s.setLane l { s.lane l with scanning := false, held := false }
  else s

/-- Fused seed of LANE_EQ's CTLE and DFE fields (R53, R548). -/
def eqSeed (s : State) (l : Nat) : Nat := (mapFind s.fuses.laneEq l).getD 0 % 2 ^ 22

/-- LANE_CFG takes effect at a full bring-up (R84). -/
def latchLane (s : State) (l : Nat) : State := s.setLane l { s.lane l with cfg := s.reg (Reg.LANE_CFG l) }

/-- A lane starts a full bring-up in ADAPT: from the seeds, or from the held values when FREEZE is set (R53). A lane whose receiver
is not enabled stays OFF (R58, R84). -/
def laneAdapt (s : State) (l : Nat) : State :=
  let s := (s.abortScan l).latchLane l
  if !s.flag (Reg.LANE_CFG l) Fld.LANE_CFG_RX_EN then s.wrN (Reg.LANE_STATUS l) 0 else
  let frozen := s.flag (Reg.LANE_EQ l) Fld.LANE_EQ_FREEZE
  let s := s.set (Reg.LANE_STATUS l) Fld.LANE_STATUS_STATE 2
  let s := s.setFlag (Reg.LANE_STATUS l) Fld.LANE_STATUS_CDR_LOCK false
  let s := s.setFlag (Reg.LANE_STATUS l) Fld.LANE_STATUS_MARKER_LOCK false
  let s := if frozen then s else s.set (Reg.LANE_EQ l) ⟨0, 22⟩ (s.eqSeed l)
  let s := s.setFlag (Reg.LANE_EQ l) Fld.LANE_EQ_FREEZE_ACK frozen
  s.setLane l { s.lane l with first := none, mark := none, misses := 0, fast := false }

/-- A lane goes to a state other than ADAPT. A scan ends aborted when the lane leaves the states LOCKED and UP; going from one of them to
the other it keeps its scan (R57). Log: 217 (DESIGN CHOICE). -/
def laneTo (s : State) (l st : Nat) : State :=
  let s := if 4 ≤ st then s else s.abortScan l
  s.set (Reg.LANE_STATUS l) Fld.LANE_STATUS_STATE st

/-- A lane is switched off (R46). -/
def laneOff (s : State) (l : Nat) : State := (s.abortScan l).wrN (Reg.LANE_STATUS l) 0

/-! ### Links -/

/-- A link outside its registers. -/
def link (s : State) (k : Nat) : LinkSt := (mapFind s.lanes.links k).getD {}

/-- Replace it. -/
def setLink (s : State) (k : Nat) (x : LinkSt) : State :=
  { s with lanes := { s.lanes with links := mapSet {} s.lanes.links k x } }

/-- LANE_LINK_STATUS.STATE: 0 DOWN, 1 WAIT_LANES, 2 DESKEW, 3 INIT, 4 UP, 5 RETRAIN, 6 FAILED. -/
def linkState (s : State) (k : Nat) : Nat := s.get (Reg.LANE_LINK_STATUS k) Fld.LANE_LINK_STATUS_STATE

/-- Set it. -/
def linkTo (s : State) (k st : Nat) : State := s.set (Reg.LANE_LINK_STATUS k) Fld.LANE_LINK_STATUS_STATE st

/-- A field of LANE_LINK_CFG, and of LANE_LINK_TIMER, as in force (R84). -/
def linkCfg (s : State) (k : Nat) (f : Fld) : Nat := f.of (s.link k).cfg
def linkTimer (s : State) (k : Nat) (f : Fld) : Nat := f.of (s.link k).timer

/-- An enabled link. -/
def linkOn (s : State) (k : Nat) : Bool := s.linkCfg k Fld.LANE_LINK_CFG_ENABLE = 1

/-- Bidirectional profile. -/
def linkBidir (s : State) (k : Nat) : Bool := s.linkCfg k Fld.LANE_LINK_CFG_PROFILE = 1

/-- Lanes of a link. -/
def linkWidth (s : State) (k : Nat) : Nat := s.linkCfg k Fld.LANE_LINK_CFG_WIDTH

/-- The lanes of a link (R72). -/
def linkLanes (s : State) (k : Nat) : List Nat := (List.range (s.linkWidth k)).map (· + k)

/-- The enabled link that a lane belongs to. -/
def laneLink (s : State) (l : Nat) : Option Nat :=
  (List.range 96).find? (fun k => s.linkOn k && decide (k ≤ l) && decide (l < k + s.linkWidth k))

/-- The expected LINK_ID of a link. -/
def linkId (s : State) (k : Nat) : Nat := s.linkCfg k Fld.LANE_LINK_CFG_LINK_ID

/-- The link's registers take effect (R84); ENABLE does so at a commit alone. -/
def latchLink (s : State) (k : Nat) (on : Bool) : State :=
  s.setLink k { s.link k with
    cfg := Fld.LANE_LINK_CFG_ENABLE.into (s.reg (Reg.LANE_LINK_CFG k)) (b2n on), timer := s.reg (Reg.LANE_LINK_TIMER k) }

/-- The same for every link, as a commit would take them: for the checks. -/
def latchLinks (s : State) : State :=
  s.each (List.range 96) (fun s k => s.latchLink k (s.flag (Reg.LANE_LINK_CFG k) Fld.LANE_LINK_CFG_ENABLE))

/-- A block with header bit 0, a marker or a control block, leaves on a lane whose transmitter is enabled (R71, R73). -/
def sendCtrl (s : State) (l : Nat) (b : List Byte) : State :=
  if bitAt (s.lane l).cfg.toNat Fld.LANE_CFG_TX_EN.lo then { s with out := { s.out with ctrl := s.out.ctrl ++ [(l, b)] } } else s

end State

/-! ### Markers and control blocks (R59, R71, R73) -/

/-- PATTERN of an alignment marker. -/
def markerPattern : List Byte := [0x4E, 0xB1, 0x27, 0xD8, 0x63, 0x9C, 0x5A]

/-- The block as an inverted differential pair shows it (R59): the most significant bit of every Gray pair inverted. Blocks go out header bit
first and each byte least significant bit first (R70), so of a byte's bits 0–7 the odd ones come first in their pairs.
Log: 199 (DEDUCED). -/
def pairImage (b : List Byte) : List Byte := b.map (· ^^^ 0xAA)

/-- Bits in which two byte strings differ. -/
def bitErrors (a b : List Byte) : Nat :=
  ((a.zip b).map (fun x => ((List.range 8).filter (fun i => (x.1 ^^^ x.2).getLsbD i)).length)).sum

/-- Bit errors of a marker's PATTERN, as it stands. -/
def markerErrors (b : List Byte) : Nat := bitErrors ((b.drop 1).take 7) markerPattern

/-- Is the pattern that of an inverted lane (R59)?. Log: 199 (DEDUCED). -/
def markerImage (b : List Byte) : Bool := decide (3 < markerErrors b) && decide (markerErrors (pairImage b) ≤ 3)

/-- The marker as the receiver reads it once it has inverted the lane where that is needed. -/
def markerRead (b : List Byte) : List Byte := if markerImage b then pairImage b else b

/-- Fields of a marker (R71): bond position, bond width, LINK_ID, COUNT. -/
def markerPos (b : List Byte) : Nat := byteAt b 8 % 16
def markerWidth (b : List Byte) : Nat := byteAt b 8 / 16 + 1
def markerId (b : List Byte) : Nat := fieldAt b 9 2 % 4096
def markerCount (b : List Byte) : Nat := fieldAt b 11 4

/-- The marker of a bidirectional link's lane (R71). -/
def markerBytes (pos width id count : Nat) : List Byte :=
  [0x96] ++ markerPattern ++ le 1 (pos + 16 * (width - 1)) ++ le 2 (id + 0x1000) ++ le 4 count ++ zeros 17

/-- Codes of a control block (R73). -/
def ctrlIdle : Nat := 0x1E
def ctrlSop : Nat := 0x2D
def ctrlEop : Nat := 0x4B
def ctrlEidle : Nat := 0x55

/-- UI from one marker to the next on a PAM4 lane (R69): 16,384 codewords of 5,440 bits. -/
def markerPeriod : Nat := 16384 * 5440 / 2

/-- A 256-byte flit (R76). -/
def flitBytes (type vc seq ack crVc crCount : Nat) (payload : List Byte) : List Byte :=
  let b := le 4 (type + vc * 4 + seq * 16 + ack * 2 ^ 14 + crVc * 2 ^ 24 + crCount * 2 ^ 26)
    ++ (payload ++ zeros (248 - payload.length)).take 248
  b ++ le 4 (crc32c b)

/-- Receive buffers advertised on VCs 0–3 (R77). Log: 28 (DEDUCED). -/
def rxBuffers : List Nat := [64, 640, 256, 64]

namespace State

/-- Put a flit on a link, with ACK and the next VC's credit count in its header (R76, R77). Log: 200 (DESIGN CHOICE). -/
def emitFlit (s : State) (k type vc seq : Nat) (payload : List Byte) : State :=
  let x := s.link k
  let f := flitBytes type vc seq x.lastAcc x.crTurn (x.freed.getD x.crTurn 0 % 64) payload
  let s := s.setLink k { x with crTurn := (x.crTurn + 1) % 4 }
  { s with out := { s.out with flits := s.out.flits ++ [(k, f)] } }

/-- The markers of a link's transmitter (R69, R71): on every lane at once, with the next COUNT. Log: 206 (DESIGN CHOICE). -/
def sendMarkers (s : State) (k : Nat) : State :=
  let x := s.link k
  let w := s.linkWidth k
  (s.each (List.range w) (fun s i => s.sendCtrl (k + i) (markerBytes i w (s.linkId k) x.txCount))).setLink k
    { x with txCount := (x.txCount + 1) % 2 ^ 32 }

/-- The next payload that may leave (R77): VC 0 first, then VCs 1–3 in turn, each against a credit. Log: 25 (DEDUCED). -/
def nextPayload (x : LinkSt) : Option (Nat × List Byte × LinkSt) :=
  if x.vc0 ≠ [] ∧ 0 < x.credit.getD 0 0 then some (0, x.vc0.headD [], { x with vc0 := x.vc0.drop 1 })
  else
    let order := (List.range 3).map (fun i => (x.vcTurn + i) % 3 + 1)
    match order.find? (fun v => (x.txq.getD (v - 1) []) ≠ [] && decide (0 < x.credit.getD v 0)) with
    | some v =>
      let q := x.txq.getD (v - 1) []
      some (v, q.take 248, { x with txq := x.txq.set (v - 1) (q.drop 248), vcTurn := v })
    | none => none

/-- Bytes in the transmit backlog (R83). -/
def backlog (x : LinkSt) : Nat := x.vc0.length * 248 + (x.txq.map List.length).sum

/-- Send what may leave, oldest first (R77, R79): an UP link with no replay in progress, credits, and fewer than WINDOW flits
unacknowledged. -/
def pump (s : State) (k : Nat) : Nat → State
  | 0 => s
  | fuel + 1 =>
    let x := s.link k
    if s.linkState k ≠ 4 ∨ x.resend ≠ [] ∨ s.linkCfg k Fld.LANE_LINK_CFG_WINDOW ≤ x.replay.length then s
    else match nextPayload x with
      | none => s
      | some (v, p, y) =>
        let y := { y with
          credit := y.credit.set v (y.credit.getD v 0 - 1)
          nextSeq := (y.nextSeq + 1) % 1024
          replay := y.replay ++ [(x.nextSeq, v, p)] }
        let y := { y with refusing := y.refusing && decide (2 ^ 19 < backlog y) }
        ((s.setLink k y).emitFlit k 1 v x.nextSeq p).pump k fuel

/-- Pump with fuel for the whole backlog. -/
def pumpAll (s : State) (k : Nat) : State := s.pump k (backlog (s.link k) / 248 + 8)

/-- One flit time of the transmitter (R75, R79): the next flit of a replay in progress; otherwise what may leave, and a NULL flit where
nothing may. Both directions of a link run at one rate and send flits back to back, so a received flit stands for a flit time of the own
transmitter. Log: 24 (DEDUCED), 200 (DESIGN CHOICE). -/
def flitSlot (s : State) (k : Nat) : State :=
  let x := s.link k
  if s.linkState k ≠ 4 then s
  else match x.resend with
    | f :: t =>
      let s := (s.setLink k { x with resend := t, replaying := if t = [] then none else x.replaying }).emitFlit k 1 f.2.1 f.1 f.2.2
      if t = [] then s.pumpAll k else s
    | [] =>
      let u := s.pumpAll k
      if u.out.flits.length = s.out.flits.length then u.emitFlit k 0 0 0 [] else u

/-- Does a link accept `n` more bytes into its backlog (R83)? -/
def linkTakes (s : State) (k n : Nat) : Bool := !(s.link k).refusing && decide (backlog (s.link k) + n ≤ 2 ^ 20)

/-- The backlog is full: BALRAN_TX_BACKLOG once, nothing more until half empty (R83). -/
def linkRefuse (s : State) (k : Nat) : State :=
  if (s.link k).refusing then s else (s.setLink k { s.link k with refusing := true }).raise Ev.BALRAN_TX_BACKLOG k

/-- Send a message on VC 0: one flit of its own (R536). -/
def sendVc0 (s : State) (k : Nat) (payload : List Byte) : State :=
  if s.linkTakes k 248 then
    let x := s.link k
    (s.setLink k { x with vc0 := x.vc0 ++ [payload] }).pumpAll k
  else s.linkRefuse k

/-- Append a message to the byte stream of VC 1–3 (R536). -/
def sendVc (s : State) (k vc : Nat) (msg : List Byte) : State :=
  if s.linkTakes k msg.length then
    let x := s.link k
    (s.setLink k { x with txq := x.txq.set (vc - 1) (x.txq.getD (vc - 1) [] ++ msg) }).pumpAll k
  else s.linkRefuse k

/-! ### Whose link is it (R45, R502) -/

/-- Committed mode: 0 single, 1 weave pair, 2 weave quad. -/
def mode (s : State) : Nat := s.get Reg.GLB_STATUS Fld.GLB_STATUS_MODE

/-- Committed weave position. -/
def pos (s : State) : Nat := s.get Reg.GLB_STATUS Fld.GLB_STATUS_WEAVE_POS

/-- Positions of the weave: a pair has 2, a quad 4; an export arrangement of single devices has 4 (R520). -/
def positions (s : State) : Nat :=
  if s.mode = 1 then 2 else if s.mode = 2 then 4
  else if s.unitFlag Reg.WEAVE_CFG Fld.WEAVE_CFG_EXPORT ∨ s.unitFlag Reg.WEAVE_CFG Fld.WEAVE_CFG_EXPORT_LEAD then 4 else 1

/-- The link to a position with a given j (R502): by LINK_ID 0xA00 + 0x10 j + 4a + b. -/
def weaveLinkJ (s : State) (q j : Nat) : Option Nat :=
  let a := min s.pos q
  let b := max s.pos q
  (List.range 96).find? (fun k => s.linkOn k && s.linkBidir k && s.linkId k == 0xA00 + 0x10 * j + 4 * a + b)

/-- The link that a rule means by "to position q": j = 0, or j = 1 while that one is not UP (R502). -/
def weaveLink (s : State) (q : Nat) : Option Nat :=
  match s.weaveLinkJ q 0 with
  | some k => if s.linkState k = 4 then some k else (match s.weaveLinkJ q 1 with
      | some k1 => some k1
      | none => some k)
  | none => s.weaveLinkJ q 1

/-- Every weave link of this device. -/
def weaveLinks (s : State) : List Nat :=
  (List.range 96).filter (fun k => s.linkOn k && s.linkBidir k && decide (k < 88) && decide (0xA00 ≤ s.linkId k) && decide (s.linkId k < 0xA20))

/-- The partners' positions, ascending. -/
def partners (s : State) : List Nat := (List.range s.positions).filter (fun q => q != s.pos && (s.weaveLink q).isSome)

/-- The position at the far end of a weave link, from its LINK_ID. -/
def linkPeer (s : State) (k : Nat) : Nat :=
  let ab := s.linkId k % 16
  if ab / 4 = s.pos then ab % 4 else ab / 4

/-- The twin link: a bidirectional link of lane group 11 (R45). -/
def twinLink (s : State) : Option Nat := (List.range 96).find? (fun k => decide (88 ≤ k) && s.linkOn k && s.linkBidir k)

/-- Send a VC 0 message on the twin link. -/
def twinVc0 (s : State) (p : List Byte) : State := match s.twinLink with
  | some k => s.sendVc0 k p
  | none => s

/-- Append a message to a byte stream of the twin link. -/
def twinVc (s : State) (vc : Nat) (m : List Byte) : State := match s.twinLink with
  | some k => s.sendVc k vc m
  | none => s

/-- Append a message to a byte stream of the link to a position. -/
def weaveVc (s : State) (q vc : Nat) (m : List Byte) : State := match s.weaveLink q with
  | some k => s.sendVc k vc m
  | none => s

/-- A digest received on a link differs from the device's own (R503). -/
def digestDiffers (s : State) (k : Nat) : State :=
  let s := s.setFlag Reg.WEAVE_STATUS Fld.WEAVE_STATUS_MISMATCH true
  (s.raise Ev.WEAVE_DIGEST_MISMATCH (s.linkPeer k)).set Reg.WEAVE_STATUS Fld.WEAVE_STATUS_STATE 2

/-- WEAVE_STATUS.STATE of a committed weave (R503): LINKING, DIGEST once every link is UP, RUNNING once every digest has been heard and is
equal; DEGRADED returns to RUNNING with its link. -/
def showWeave (s : State) : State :=
  let st := s.get Reg.WEAVE_STATUS Fld.WEAVE_STATUS_STATE
  let up := s.weaveLinks.all (fun k => s.linkState k == 4)
  let same := s.weaveLinks.all (fun k => s.weave.heard.contains (k, s.digest))
  let to_ (v : Nat) : State := s.set Reg.WEAVE_STATUS Fld.WEAVE_STATUS_STATE v
  if st = 0 ∨ st = 3 then s else if up && same then to_ 3 else if st = 4 then s else if up then to_ 2 else to_ 1

/-- Show a link's state in WEAVE_STATUS and TWIN_STATUS. -/
def showLinks (s : State) : State :=
  let up := (s.partners.zipIdx.map (fun x => if (s.weaveLink x.1).any (fun k => s.linkState k == 4) then 2 ^ x.2 else 0)).sum
  let s := (if s.partners.isEmpty then s else s.set Reg.WEAVE_STATUS Fld.WEAVE_STATUS_PEERS_UP up).showWeave
  match s.twinLink with
  | some k => s.setFlag Reg.TWIN_STATUS Fld.TWIN_STATUS_LINK_UP (s.linkState k == 4)
  | none => s

/-! ### Bring-up, replay and retraining -/

/-- The lanes of a link start a full bring-up under the settings of its registers (R84), and the link waits for them. -/
def linkBringUp (s : State) (k st : Nat) : State :=
  let s := s.latchLink k (s.linkOn k)
  (s.each (s.linkLanes k) laneAdapt).linkTo k st

/-- Retrain (R80): every lane through a full bring-up, the replay buffer kept. -/
def retrain (s : State) (k : Nat) : State :=
  let s := s.setLink k { s.link k with resume := true, replaying := none, resend := [], tries := 0 }
  ((s.linkBringUp k 5).raise Ev.BALRAN_RETRAIN k).showLinks

/-- A link is lost (R64, R80): an ingest link drops the packet in progress, counted with the framing errors, and waits for its lanes, the
other lanes returning to LOCKED; a bidirectional one retrains. Log: 21 (DEDUCED), 201 (DEDUCED). -/
def linkDown (s : State) (k l : Nat) (inPacket : Bool) : State :=
  let s := s.raise Ev.LINK_DOWN (k + l * 2 ^ 8)
  if s.linkBidir k then s.retrain k
  else
    let s := if inPacket then s.count (Reg.LANE_LINK_COUNT k 0) else s
    let s := s.each (s.linkLanes k) (fun s i => if s.laneState i = 5 then s.laneTo i 4 else s)
    (s.latchLink k (s.linkOn k)).linkTo k 1

/-- A lane leaves UP, LOCKED or SEARCH for ADAPT; its link goes down if it was UP (R64). -/
def laneLost (s : State) (l : Nat) (inPacket : Bool) : State :=
  let was := s.laneState l
  let s := s.laneAdapt l
  match s.laneLink l with
  | some k => if was = 5 ∧ (s.linkState k = 4 ∨ s.linkState k = 3) then s.linkDown k l inPacket else s
  | none => s

/-- A link in FAILED holds nothing (R80): no replay buffer, no byte streams, SEQ 0 and RESUME clear. -/
def linkFresh (s : State) (k : Nat) : State :=
  let x := s.link k
  s.setLink k { cfg := x.cfg, timer := x.timer, ramp := x.ramp, txCount := x.txCount, failed := true }

/-- A failed link (R80): its replay buffer and byte streams are discarded; a weave goes on DEGRADED. -/
def linkFail (s : State) (k : Nat) : State :=
  let s := (s.linkFresh k).linkTo k 6
  let s := (s.masterReset 21 none).masterReset 22 none
  let s := s.raise Ev.BALRAN_LINK_FAILED k
  let s : State := { s with weave := { s.weave with heard := s.weave.heard.filter (fun e => e.1 != k) } }
  let s := if s.weaveLinks.contains k then
      (s.raise Ev.WEAVE_LINK_LOST (s.linkPeer k)).set Reg.WEAVE_STATUS Fld.WEAVE_STATUS_STATE 4
    else s
  s.showLinks

/-- Resend in order from ACK + 1, the first flit now and the others in the flit times that follow (R79), or retrain once the oldest flit has been replayed RETRY_LIMIT times (R80). -/
def replay (s : State) (k : Nat) : State :=
  let x := s.link k
  match x.replay with
  | [] => s
  | (q, _, _) :: _ =>
    if s.linkTimer k Fld.LANE_LINK_TIMER_RETRY_LIMIT ≤ x.tries then s.retrain k
    else
      let s := s.setLink k { x with replaying := some q, resend := x.replay, tries := x.tries + 1 }
      ((s.bump (Reg.LANE_LINK_RETRY k) Fld.LANE_LINK_RETRY_REPLAYS).raise Ev.BALRAN_RETRY k).flitSlot k

/-- Send a NAK with the last accepted SEQ (R78). -/
def sendNak (s : State) (k : Nat) : State :=
  (s.bump (Reg.LANE_LINK_RETRY k) Fld.LANE_LINK_RETRY_NAKS).emitFlit k 2 0 0 []

/-- The INIT payload of this side, bytes 4 upward of the flit (R81). Log: 29 (DEDUCED). -/
def initPayload (s : State) (k : Nat) : List Byte :=
  let x := s.link k
  let active := s.unitFlag Reg.TWIN_CFG Fld.TWIN_CFG_ENABLE && decide (s.get Reg.TWIN_STATUS Fld.TWIN_STATUS_ROLE < 2)
  le 2 1 ++ le 2 (s.linkId k) ++ le 1 (s.pos + 4 * b2n active) ++ le 1 (b2n x.resume)
    ++ le 2 x.lastAcc ++ (rxBuffers.flatMap (le 2)) ++ le 2 (s.linkCfg k Fld.LANE_LINK_CFG_WINDOW) ++ le 8 s.fuses.serial

/-- Acknowledge flits up to a SEQ and take the credits of a header (R77, R79); a replay goes on with the flits that are still
unacknowledged. -/
def takeHeader (s : State) (k : Nat) (h : Nat) : State :=
  let x := s.link k
  let ack := h / 2 ^ 14 % 1024
  let v := h / 2 ^ 24 % 4
  let n := h / 2 ^ 26 % 64
  let credit := x.credit.set v (x.credit.getD v 0 + (n + 64 - x.lastCr.getD v 0 % 64) % 64)
  let rest := if x.replay.any (fun f => f.1 == ack) then (x.replay.dropWhile (fun f => f.1 != ack)).drop 1 else x.replay
  let fresh := decide (rest.length < x.replay.length)
  s.setLink k { x with
    credit := credit
    lastCr := x.lastCr.set v n
    replay := rest
    resend := x.resend.filter (fun f => rest.contains f)
    replaying := if fresh then none else x.replaying
    tries := if fresh then 0 else x.tries }

/-- What follows a received flit: a flit time of the transmitter, taken already where the answer was a NAK. Log: 200 (DESIGN CHOICE). -/
def afterFlit (s : State) (k sent : Nat) : State := if s.out.flits.length = sent then s.flitSlot k else s.pumpAll k

end State

end Sys2Proof.Machine
end

