-- ==== Sys2Proof/Machine/TwinOps.lean ====
section
/-! DEFINITION. What other families ask of a twin unit: its causes to yield and the yield itself
(spec/19_twin_and_weave.md). -/

namespace Sys2Proof.Machine

namespace State

/-- Twin operation is committed. -/
def twinOn (s : State) : Bool := s.unitFlag Reg.TWIN_CFG Fld.TWIN_CFG_ENABLE

/-- TWIN_STATUS.ROLE: 0 SOLO, 1 ACTIVE, 2 STANDBY, 3 YIELDED. -/
def role (s : State) : Nat := s.get Reg.TWIN_STATUS Fld.TWIN_STATUS_ROLE

/-- Would a yield be made (R531): the partner is STANDBY, SYNCED and seen. -/
def eligible (s : State) : Bool := s.twin.peerRole = 2 && s.twin.peerSynced && (s.twin.seenLink || s.twin.seenWave != 0)

/-- Show PEER_SEEN and PEER_ELIGIBLE. -/
def showPeer (s : State) : State :=
  (s.setFlag Reg.TWIN_STATUS Fld.TWIN_STATUS_PEER_SEEN (s.twin.seenLink || s.twin.seenWave != 0)).setFlag Reg.TWIN_STATUS
    Fld.TWIN_STATUS_PEER_ELIGIBLE s.eligible

/-- Is this unit the preferred one (R522)? By the straps when exactly one is high, else by the lower serial number; without the
partner's word, by the own strap. -/
def preferred (s : State) : Bool :=
  let own := s.flag Reg.TWIN_CFG Fld.TWIN_CFG_PREF
  match s.twinLink with
  | some k =>
    if s.linkState k = 4 ∧ s.twin.seenLink then
      if own = s.twin.peerPref then decide (s.fuses.serial < (s.link k).peerSerial) else own
    else own
  | none => own

/-- Take a role and drive its wave (R523). -/
def takeRole (s : State) (r : Nat) : State :=
  let s := s.set Reg.TWIN_STATUS Fld.TWIN_STATUS_ROLE r
  { s with pins := { s.pins with twinHealth := if r ≤ 1 then 1000 else if r = 2 then 250 else 0 } }

/-- The yield itself (R532): the pin, the message, the event, YIELDED. Log: 158 (DEDUCED). -/
def yieldNow (s : State) (cause : Nat) : State :=
  let s := { s with pins := { s.pins with yieldLow := true } }
  let s := s.twinVc0 ([0x81] ++ le 1 cause ++ zeros 2 ++ le 8 s.twin.relPos)
  let s := (s.raise Ev.TWIN_YIELD cause).set Reg.TWIN_STATUS Fld.TWIN_STATUS_LAST_CAUSE cause
  (s.count (Reg.TWIN_COUNT 0)).takeRole 3

/-- A cause of R531 on the active unit: it yields to an eligible partner, on a thermal trip in every case; otherwise the cause is
recorded and reported with DETAIL [4]. On a standby it ends the integration free of causes that a return needs (R535). -/
def selfFault (s : State) (cause : Nat) : State :=
  if s.twinOn ∧ s.role = 1 then
    if s.eligible ∨ cause = 4 then s.yieldNow cause
    else (s.set Reg.TWIN_STATUS Fld.TWIN_STATUS_LAST_CAUSE cause).raise Ev.TWIN_YIELD (cause + 16)
  else { s with twin := { s.twin with clean := false } }

/-! ### Handing commands to blocks (R351, R352, R525, R538) -/

/-- What names a command in the order stream: source, ring or entry, ring position or FIRE_SEQ, step in the chain. `t` is the state
in which the command has been taken. -/
def pointOf (s t : State) (src : CmdSrc) (op : Nat) : List Byte :=
  match src with
  | .ring r =>
    let pos := match s.nextEntry r with
      | some e => if e.chained then (((s.ring r).chain.map (·.linkPos)).getD e.pos) else e.pos
      | none => 0
    [0x91, 0] ++ le 2 r.val ++ le 4 pos ++ le 4 (t.ring r).step ++ zeros 4
  | .almanac e =>
    let q := ((s.alm.execs.find? (fun x => x.entry == e.val && !x.taken && descOpcode x.desc == op)).map (·.seq)).getD 0
    [0x91, 1] ++ le 2 e.val ++ le 4 q ++ le 4 0 ++ zeros 4

/-- The state in which a command is handed to its block, if it is handed over now: the active unit of a pair has told the partner at which
release position; the standby hands it over when its command point has arrived and its release position is reached. -/
def handed (s : State) (src : CmdSrc) (op : Nat) : Option State :=
  match s.take src op with
  | none => none
  | some (_, _, _, t) =>
    let p := s.pointOf t src op
    if s.standby then
      match s.twin.points with
      | q :: rest =>
        if q.take 16 = p ∧ fieldAt q 16 8 ≤ s.twin.relPos then some { s with twin := { s.twin with points := rest } } else none
      | [] => none
    else if s.twinOn ∧ s.role = 1 then some (s.twinVc 1 (p ++ le 8 s.twin.relPos))
    else some s

/-- Hand a command to its block; a field that its table does not list and that is not 0 is BAD_PARAM (R351). -/
def handOver (s : State) (src : CmdSrc) (op : Nat) (f : CmdRef → List Byte → Nat → State → State) : State :=
  match s.handed src op with
  | some u => u.command src op (fun ref d r s => if descClean op d then f ref d r s else s.finishSt ref St.BAD_PARAM)
  | none => s

/-- A block command (R352): it completes with NOT_RUNNING while the device is not running. -/
def runCommand (s : State) (src : CmdSrc) (op : Nat) (f : CmdRef → List Byte → Nat → State → State) : State :=
  s.handOver src op (fun ref d r s => if s.running then f ref d r s else s.finishSt ref St.NOT_RUNNING)

/-- A command keyed by sheaf index; the reserved index is BAD_PARAM (R572). -/
def keyedCommand (s : State) (src : CmdSrc) (op : Nat) (f : CmdRef → List Byte → Nat → State → State) : State :=
  s.runCommand src op (fun ref d r s => if descK d = emptyKey then s.finishSt ref St.BAD_PARAM else f ref d r s)

end State

end Sys2Proof.Machine
end

