-- ==== Sys2Proof/Machine/Adc.lean ====
section
/-! DEFINITION. The housekeeping converter: sequences, urgent triggers, guard conversions, the result queue and the thermal
rules (spec/17_housekeeping_analog.md). -/

namespace Sys2Proof.Machine

namespace State

/-- A thermal trip (R465): the event, the twin cause, lane transmitters to idle, READY cleared, the core halted. The governor
brings the furrows down by its own stages (GOVERNOR_STAGE). -/
def thermalTrip (s : State) (sensor : Nat) : State :=
  if s.sys.tripped then s
  else
    let s := { s with sys := { s.sys with tripped := true } }
    let s := (s.raise Ev.THERM_TRIP sensor).selfFault 4
    let s := s.each ((List.range 96).filter (fun k => s.linkOn k && s.linkBidir k)) (fun s k => s.setLink k { s.link k with ramp := .falling })
    let s := (s.set Reg.GLB_STATUS Fld.GLB_STATUS_STATE 3).setFlag Reg.GLB_STATUS Fld.GLB_STATUS_READY false
    { s with pins := { s.pins with ready := false } }

/-! ### Fields -/

def adcOn (s : State) : Bool := s.flag Reg.ADC_CFG Fld.ADC_CFG_ENABLE
def adcSeq (s : State) : Bool := s.get Reg.ADC_CFG Fld.ADC_CFG_MODE = 1
def adcBatch (s : State) : Nat := min 64 (s.adcGet Reg.ADC_CFG Fld.ADC_CFG_BATCH)

/-- The converter's and the DAC's cycle in which the present tick lies: 10 ticks of 4 ns at 25 MHz, 25 at 10 MHz.
Log: 229 (DESIGN CHOICE). -/
def adcCycle (s : State) : Nat := s.time.tick / 10

def adcState (s : State) (v : Nat) : State := s.set Reg.ADC_STATUS Fld.ADC_STATUS_STATE v
def adcLevel (s : State) : State := s.set Reg.ADC_STATUS Fld.ADC_STATUS_LEVEL s.adc.queue.length

/-- Start a conversion: its sample instant is now (R454, R461). -/
def adcStart (s : State) (kind channel entry : Nat) : State :=
  { s with adc := { s.adc with conv := some ⟨kind, channel, entry, s.now⟩ } }

/-- The next conversion at a conversion boundary (R455, R457–R459): a due guard unless an injected sequence has begun, then
the injected sequence, a single conversion, the regular sequence. Log: 152 (DEDUCED). -/
def adcNext (s : State) : State :=
  if s.adc.conv.isSome then s
  else if s.adc.guardDue ∧ !s.adc.injBegun then
    let s := { s with adc := { s.adc with guardDue := false } }
    let t := s.adc.guardNext
    ({ s with adc := { s.adc with guardNext := (t + 1) % 16 } } : State).adcStart 3 t 0
  else match s.adc.inj with
    | some e =>
      let s := if s.adc.injBegun then s else s.count (Reg.ADC_COUNT 2)
      let s := { s with adc := { s.adc with injBegun := true } }
      (s.adcStart 2 (s.get (Reg.ADC_INJ_SEQ e) Fld.ADC_INJ_SEQ_CHANNEL) e).adcState 2
    | none =>
      if s.flag Reg.ADC_SINGLE Fld.ADC_SINGLE_BUSY then
        (s.adcStart 0 (s.get Reg.ADC_SINGLE Fld.ADC_SINGLE_CHANNEL) 0).adcState 3
      else if s.adc.lap then
        let e := s.get Reg.ADC_STATUS Fld.ADC_STATUS_REG_NEXT
        (s.adcStart 1 (s.get (Reg.ADC_REG_SEQ e) Fld.ADC_REG_SEQ_CHANNEL) e).adcState 1
      else s.adcState 0

/-- An urgent trigger in the converter cycle of the last one counts as one with it: its command shares the outcome (R456).
Log: 153 (DEDUCED). -/
def adcJoin (s : State) (went : Nat) (ref : List CmdRef) : State :=
  if went = 0 then { s with adc := { s.adc with injRefs := s.adc.injRefs ++ ref } }
  else if went = 1 then { s with adc := { s.adc with pendRefs := s.adc.pendRefs ++ ref } }
  else s.each ref (fun s c => s.finishSt c St.ADC_INJ_LOST)

/-- An urgent trigger (R455, R456, R459), of a command or of none. Log: 153 (DEDUCED). -/
def adcTrigger (s : State) (ref : List CmdRef) : State :=
  if !s.adcOn then s.each ref (fun s c => s.finishSt c St.ADC_NOT_SEQ)
  else
    let now := s.adcCycle
    let same := (s.adc.trig.filter (fun t => t.1 == now)).map Prod.snd
    let mark (s : State) (went : Nat) : State := { s with adc := { s.adc with trig := some (now, went) } }
    if !s.adcSeq then
      (if same.isSome then s else (mark s 2).count (Reg.ADC_COUNT 4)).each ref (fun s c => s.finishSt c St.ADC_NOT_SEQ)
    else match same with
      | some went => s.adcJoin went ref
      | none =>
        if s.adc.inj.isNone then
          (mark { s with adc := { s.adc with inj := some 0, injBegun := false, injRefs := ref } } 0).adcNext
        else if !s.flag Reg.ADC_STATUS Fld.ADC_STATUS_INJ_PENDING then
          (mark { s with adc := { s.adc with pendRefs := ref } } 1).setFlag Reg.ADC_STATUS Fld.ADC_STATUS_INJ_PENDING true
        else
          (((mark s 2).count (Reg.ADC_COUNT 1)).raise Ev.ADC_INJ_LOST).each ref (fun s c => s.finishSt c St.ADC_INJ_LOST)

/-- A message of the oldest results for the ADC's ring (R463), once the ring takes it. Log: 154 (DEDUCED). -/
def adcMessage (s : State) : State :=
  let n := s.adcBatch
  match s.adc.queue with
  | [] => s
  | (_, t) :: _ =>
    let r := s.adcRing
    if s.adcDma ∧ s.ringTakes r then
      let l := s.adc.queue.take (max n 1)
      let body := l.flatMap (fun x => le 4 x.1 ++ le 4 ((x.2.sec * 1000000000 + x.2.ns) % 2 ^ 32))
      let m : Msg := { producer := 0x13, bytes := [0x61, 0x01] ++ le 1 l.length ++ zeros 1 ++ t.bytes ++ body }
      (({ s with adc := { s.adc with queue := s.adc.queue.drop l.length } } : State).toRing r m).adcLevel
    else s

/-- A result enters the queue, or is discarded when it is full (R460, R462); a message that waits for its ring goes first.
Log: 154 (DEDUCED). -/
def adcQueue (s : State) (c : Conv) (code : Nat) : State :=
  let s := if s.adcBatch ≤ s.adc.queue.length then s.adcMessage else s
  if 64 ≤ s.adc.queue.length then
    let s := (s.count (Reg.ADC_COUNT 0)).raiseIf (!s.adc.losing) Ev.ADC_QUEUE_FULL
    { s with adc := { s.adc with losing := true } }
  else
    let low := code + c.channel * 2 ^ 12 + c.kind * 2 ^ 17 + c.entry * 2 ^ 19
    let s := ({ s with adc := { s.adc with queue := s.adc.queue ++ [(low, c.time)], losing := false } } : State).adcLevel
    if s.adcBatch ≤ s.adc.queue.length then s.adcMessage else s

/-- A guard reading (R457, R464, R465): ADC_TEMP, the alarm with its hysteresis, two readings in a row for a trip. -/
def adcGuard (s : State) (t code : Nat) : State :=
  let v : Int := (code : Int) - 1024
  let s := s.set (Reg.ADC_TEMP t) Fld.ADC_TEMP_T16 (ofS 16 v)
  let warn := s.adcGet Reg.ADC_THERM Fld.ADC_THERM_WARN_C
  let trip0 := s.adcGet Reg.ADC_THERM Fld.ADC_THERM_TRIP_C
  let trip := if warn < trip0 ∧ trip0 ≤ 125 then trip0 else 115
  let was := s.adc.warm.contains t
  let s := s.raiseIf (!was && decide ((16 * warn : Int) ≤ v)) Ev.THERM_WARN t
  let warm := if (16 * warn : Int) ≤ v then (if was then s.adc.warm else t :: s.adc.warm)
    else if v < 16 * ((warn : Int) - 5) then s.adc.warm.filter (fun x => x != t) else s.adc.warm
  let exceeds := decide ((16 * trip : Int) ≤ v)
  let again := exceeds && s.adc.hot.contains t
  let hot := if exceeds then (if s.adc.hot.contains t then s.adc.hot else t :: s.adc.hot) else s.adc.hot.filter (fun x => x != t)
  let s := { s with adc := { s.adc with warm := warm, hot := hot } }
  if again then s.thermalTrip t else s

/-- The end of a conversion (R454–R463): its result, and what follows in its sequence. Log: 6 (DESIGN CHOICE). -/
def adcEnd (s : State) (code : Nat) : State :=
  match s.adc.conv with
  | none => s
  | some c =>
    let s := { s with adc := { s.adc with conv := none } }
    let s :=
      if c.kind = 3 then s.adcGuard c.channel code
      else if c.kind = 0 then
        let s := s.set Reg.ADC_SINGLE Fld.ADC_SINGLE_RESULT code
        let s := ((s.setFlag Reg.ADC_SINGLE Fld.ADC_SINGLE_DONE true).setFlag Reg.ADC_SINGLE Fld.ADC_SINGLE_BUSY false).setFlag Reg.ADC_SINGLE
          Fld.ADC_SINGLE_START false
        s.adcQueue c code
      else if c.kind = 1 then
        let s := s.adcQueue c code
        if !s.adcOn ∨ !s.adc.lap then s
        else if c.entry + 1 < s.get Reg.ADC_CFG Fld.ADC_CFG_REG_LEN then s.set Reg.ADC_STATUS Fld.ADC_STATUS_REG_NEXT (c.entry + 1)
        else
          let again := (s.get Reg.ADC_REG_PERIOD Fld.ADC_REG_PERIOD_PERIOD == 0 || s.adc.lapDue)
          ({ s with adc := { s.adc with lap := again, lapDue := false } } : State).set Reg.ADC_STATUS Fld.ADC_STATUS_REG_NEXT 0
      else
        let s := s.adcQueue c code
        if !s.adc.injBegun then s
        else if c.entry + 1 < s.get Reg.ADC_CFG Fld.ADC_CFG_INJ_LEN then { s with adc := { s.adc with inj := some (c.entry + 1) } }
        else
          let done := s.adc.injRefs
          let pend := s.flag Reg.ADC_STATUS Fld.ADC_STATUS_INJ_PENDING
          let s := { s with adc := { s.adc with
            inj := if pend then some 0 else none, injBegun := false, injRefs := if pend then s.adc.pendRefs else [], pendRefs := [] } }
          (s.setFlag Reg.ADC_STATUS Fld.ADC_STATUS_INJ_PENDING false).each done (fun s r => s.finishSt r St.OK)
    s.adcNext

/-- ENABLE goes to 1 (R482): the settings take effect, and a sequenced converter starts its first lap. Log: 152 (DEDUCED). -/
def adcEnable (s : State) : State :=
  let s : State := { s with adc := { s.adc with
    regs := s.regs.filter (fun e => [Reg.ADC_CFG, Reg.ADC_RING, Reg.ADC_THERM].contains e.1), trig := none } }
  if s.adcSeq then ({ s with adc := { s.adc with lap := true, lapDue := false } } : State).adcNext else s

/-- ENABLE goes to 0: sequences end after the conversion in progress. Log: 152 (DEDUCED). -/
def adcDisable (s : State) : State :=
  let refs := s.adc.injRefs ++ s.adc.pendRefs
  let s := { s with adc := { s.adc with lap := false, lapDue := false, inj := none, injBegun := false, injRefs := [], pendRefs := [] } }
  let s := (s.setFlag Reg.ADC_STATUS Fld.ADC_STATUS_INJ_PENDING false).set Reg.ADC_STATUS Fld.ADC_STATUS_REG_NEXT 0
  s.each refs (fun s r => s.finishSt r St.ADC_NOT_SEQ)

/-- START of a single conversion (R455, R602): ignored while BUSY, in MODE 1 and with ENABLE clear; it reads 1 until the conversion ends.
Log: 152 (DEDUCED). -/
def adcSingle (s : State) (channel : Nat) : State :=
  if s.adcOn ∧ !s.adcSeq ∧ !s.flag Reg.ADC_SINGLE Fld.ADC_SINGLE_BUSY then
    let s := (s.set Reg.ADC_SINGLE Fld.ADC_SINGLE_CHANNEL channel).setFlag Reg.ADC_SINGLE Fld.ADC_SINGLE_START true
    ((s.setFlag Reg.ADC_SINGLE Fld.ADC_SINGLE_DONE false).setFlag Reg.ADC_SINGLE Fld.ADC_SINGLE_BUSY true).adcNext
  else s

end State

/-- ADC_QUEUE_ENTRY_READ (R463): removes the oldest result and captures its time; with DMA_EN set it reads 0. -/
def execAdcQueueEntryRead (s : State) : Result :=
  ok (if !s.isReady ∨ s.adcDma then { s with readData := 0 }
    else match s.adc.queue with
      | [] => { s with readData := 0 }
      | (w, t) :: rest =>
        let s := { s with adc := { s.adc with queue := rest }, readData := BitVec.ofNat 32 (w + 2 ^ 31) }
        (s.wrN Reg.ADC_QUEUE_TIME (t.sec * 1000000000 + t.ns)).adcLevel)

/-- ADC_SINGLE_START (R455): a write of ADC_SINGLE with START set names the channel; ignored while BUSY and in MODE 1. -/
def execAdcSingleStart (channel : Fin 32) (s : State) : Result :=
  ok (if s.served then s.adcSingle channel else s)

/-- CONVERSION_END (R454): the 12-bit code of the conversion in progress. -/
def execConversionEnd (code : BitVec 12) (s : State) : Result := ok (s.adcEnd code.toNat)

/-- GUARD_CONVERSION_DUE (R457), from the end of the fuse stage onward. -/
def execGuardConversionDue (s : State) : Result :=
  ok (if 2 ≤ s.get Reg.GLB_STATUS Fld.GLB_STATUS_STAGE then ({ s with adc := { s.adc with guardDue := true } } : State).adcNext else s)

/-- REG_LAP_DUE (R455): a lap starts, or the one still running is followed at once by the next and the overrun is counted. -/
def execRegLapDue (s : State) : Result :=
  ok (if s.adcOn ∧ s.adcSeq ∧ s.get Reg.ADC_REG_PERIOD Fld.ADC_REG_PERIOD_PERIOD ≠ 0 then
    if s.adc.lap then ({ s with adc := { s.adc with lapDue := true } } : State).count (Reg.ADC_COUNT 3)
    else ({ s with adc := { s.adc with lap := true } } : State).adcNext
  else s)

/-- ADC_INJECT, opcode 0x74 (R459, R481). Log: 153 (DEDUCED). -/
def execAdcInject (src : CmdSrc) (s : State) : Result := ok (s.handOver src 0x74 (fun ref _ _ s => s.adcTrigger [ref]))

/-- ADC_BATCH_TIMEOUT (R463): 1 ms after the oldest queued result. -/
def execAdcBatchTimeout (s : State) : Result := ok s.adcMessage

end Sys2Proof.Machine
end

