-- ==== Sys2Proof/Machine/Lanes.lean ====
section
/-! DEFINITION. Lane commands: adaptation, freezes, bring-up states, markers and deskew, electrical idle, eye scans
(spec/02_lanes_and_balran.md). -/

namespace Sys2Proof.Machine

/-- One code up or down within lo … hi (R53). -/
def nudged (n : Nudge) (lo hi v : Int) : Int :=
  match n with
  | .down => clampI lo hi (v - 1)
  | .hold => v
  | .up => clampI lo hi (v + 1)

namespace State

/-- Move a signed field of LANE_EQ by a nudge. -/
def nudgeS (s : State) (l : Nat) (f : Fld) (n : Nudge) : State :=
  s.set (Reg.LANE_EQ l) f (ofS f.width (nudged n (-(2 ^ (f.width - 1))) (2 ^ (f.width - 1) - 1) (toS f.width (s.get (Reg.LANE_EQ l) f))))

/-- The sampler's measurement at the end of an update (R55). -/
def measureEye (s : State) (l h w : Nat) : State :=
  (s.set (Reg.LANE_STATUS l) Fld.LANE_STATUS_EYE_HEIGHT (satU 8 h)).set (Reg.LANE_STATUS l) Fld.LANE_STATUS_EYE_WIDTH (satU 8 w)

/-- One update of the equaliser's values (R53). -/
def moveTaps (s : State) (l : Nat) (c d1 d2 d3 : Nudge) : State :=
  let s := s.set (Reg.LANE_EQ l) Fld.LANE_EQ_CTLE (nudged c 0 15 (s.get (Reg.LANE_EQ l) Fld.LANE_EQ_CTLE)).toNat
  ((s.nudgeS l Fld.LANE_EQ_DFE1 d1).nudgeS l Fld.LANE_EQ_DFE2 d2).nudgeS l Fld.LANE_EQ_DFE3 d3

/-- The end of an adaptation update (R53–R55, R57). While a scan has the sampler nothing is measured or moved, but for the update that the
scan found in progress, which is finished. Otherwise the eyes are measured, and the values move by at most one code unless they are
frozen. A pending freeze takes effect, a pending release resumes the loop. A lane in OFF or IDLE has no update, so a freeze requested there
is acknowledged by the next bring-up. Log: 202 (DESIGN CHOICE). -/
def adapt (s : State) (l : Nat) (c d1 d2 d3 : Nudge) (h w : Nat) : State :=
  if s.laneState l < 2 then s
  else
    let frozen := s.flag (Reg.LANE_EQ l) Fld.LANE_EQ_FREEZE
    let s :=
      if (s.lane l).held then s
      else
        let s := s.measureEye l h w
        let s := if s.flag (Reg.LANE_EQ l) Fld.LANE_EQ_FREEZE_ACK then s else s.moveTaps l c d1 d2 d3
        if (s.lane l).scanning then s.setLane l { s.lane l with held := true } else s
    s.setFlag (Reg.LANE_EQ l) Fld.LANE_EQ_FREEZE_ACK frozen

/-- A lane locks onto its markers: LOCKED with its polarity (R58, R59). -/
def markerLock (s : State) (l : Nat) (b : List Byte) : State :=
  let s := s.laneTo l 4
  let s := s.setFlag (Reg.LANE_STATUS l) Fld.LANE_STATUS_MARKER_LOCK true
  let s := s.setFlag (Reg.LANE_STATUS l) Fld.LANE_STATUS_RX_INVERTED (markerImage b)
  let s := s.set (Reg.LANE_STATUS l) Fld.LANE_STATUS_MARKER_LANE (markerPos (markerRead b))
  let s := s.setLane l { s.lane l with first := none, mark := none, count := markerCount (markerRead b), misses := 0, fast := false }
  match s.laneLink l with
  | some k => if (s.linkLanes k).all (fun i => 4 ≤ s.laneState i) ∧ s.linkState k ≠ 6 then s.linkTo k 2 else s
  | none => s

/-- The link has its deskew (R61, R62): an ingest link is UP, a bidirectional one exchanges INIT flits (R81). -/
def deskewed (s : State) (k : Nat) : State :=
  let s := s.each (s.linkLanes k) (fun s i => s.laneTo i 5)
  if s.linkBidir k then
    let s := s.linkTo k 3
    let x := s.link k
    let s := if x.resume then s
      else s.setLink k { x with replay := [], nextSeq := 0, lastAcc := 1023, replaying := none, resend := [], tries := 0 }
    s.emitFlit k 3 0 0 (s.initPayload k)
  else s.linkTo k 4

end State

/-- How far the lanes of a link lie apart in UI (R62): each marker's arrival less the marker periods by which its COUNT is ahead of the first
lane's, the latest minus the earliest. -/
def markerSkew (ms : List MarkerView) : Nat :=
  let c0 := markerCount ((ms.map (·.bytes)).headD [])
  let at_ := ms.map (fun m => (m.arrival : Int) - toS 32 ((markerCount m.bytes + 2 ^ 32 - c0 % 2 ^ 32) % 2 ^ 32) * markerPeriod)
  (at_.foldl max (at_.headD 0) - at_.foldl min (at_.headD 0)).toNat

namespace State

/-- Compare the lanes' markers, once every lane of the link is LOCKED and has shown one (R61, R62): first lane order, width and LINK_ID, then
the skew, at most 2,048 UI; the link comes up on markers of equal COUNT. After LANE_ORDER or DESKEW_FAIL it stays in DESKEW and
compares the lanes' next markers. Log: 203 (DESIGN CHOICE). -/
def deskew (s : State) (k : Nat) : State :=
  let ls := s.linkLanes k
  let ms := ls.filterMap (fun i => (s.lane i).mark)
  if ms.length ≠ ls.length ∨ !(ls.all (fun i => s.laneState i == 4)) ∨ s.linkState k = 6 then s
  else
    let n := ls.length
    let bs := ms.map (·.bytes)
    let order := bs.map markerPos
    let straight := decide (order = List.range n)
    let backward := decide (order = (List.range n).reverse) && s.linkCfg k Fld.LANE_LINK_CFG_REVERSE_OK == 1
    let exp := s.linkId k
    let good := bs.all (fun b => markerWidth b == n && (exp == 0xFFF || markerId b == exp))
    let clear := fun (s : State) => s.each ls (fun s i => s.setLane i { s.lane i with mark := none })
    let s := s.set (Reg.LANE_LINK_STATUS k) Fld.LANE_LINK_STATUS_PEER_LINK_ID ((bs.map markerId).headD 0)
    if !(straight || backward) || !good then (clear s).raise Ev.LANE_ORDER k
    else
      let skew := markerSkew ms
      let s := s.set (Reg.LANE_LINK_STATUS k) Fld.LANE_LINK_STATUS_SKEW_UI (satU 12 skew)
      let s := s.setFlag (Reg.LANE_LINK_STATUS k) Fld.LANE_LINK_STATUS_REVERSED (!straight)
      if 2048 < skew then (clear s).raise Ev.DESKEW_FAIL k
      else if bs.all (fun b => markerCount b == markerCount (bs.headD [])) then (clear s).deskewed k
      else s

/-- A marker position of a lane whose alignment the IEEE 802.3 PCS finds (R58): its lock takes the lane from SEARCH to LOCKED, and its loss
takes it back, or out of UP. Log: 204 (DEDUCED). -/
def pcsMarker (s : State) (l : Nat) (m : MarkerView) : State :=
  match s.laneState l, m.pcsLock with
  | 3, true => (s.laneTo l 4).setFlag (Reg.LANE_STATUS l) Fld.LANE_STATUS_MARKER_LOCK true
  | 4, false => (s.laneTo l 3).setFlag (Reg.LANE_STATUS l) Fld.LANE_STATUS_MARKER_LOCK false
  | 5, false => s.laneLost l m.inPacket
  | _, _ => s

/-- The marker after the training burst of a fast exit (R67): accepted where its COUNT continues the lane's sequence, its LANE is the one
before idle and its LINK_ID the expected one; the lane is LOCKED, and UP with its link once every lane has verified its marker. Any
other takes the full exit. Log: 205 (DEDUCED). -/
def fastMarker (s : State) (l k : Nat) (m : MarkerView) : State :=
  let x := s.lane l
  let b := m.bytes
  if decide (markerErrors b ≤ 3) && m.onTime && markerCount b == (x.count + 1) % 2 ^ 32
      && markerPos b == s.get (Reg.LANE_STATUS l) Fld.LANE_STATUS_MARKER_LANE && markerWidth b == s.linkWidth k
      && markerId b == s.get (Reg.LANE_LINK_STATUS k) Fld.LANE_LINK_STATUS_PEER_LINK_ID then
    let s := (s.laneTo l 4).setLane l { x with count := markerCount b, mark := none, misses := 0 }
    if (s.linkLanes k).all (fun i => s.laneState i == 4 && (s.lane i).fast) then
      let s := s.each (s.linkLanes k) (fun s i => (s.laneTo i 5).setLane i { s.lane i with fast := false })
      (s.linkTo k 4).showLinks
    else s
  else s.linkBringUp k 1

/-- An alignment marker position on a lane that carries Balran (R58–R62, R67). -/
def balranMarker (s : State) (l : Nat) (m : MarkerView) : State :=
  let x := s.lane l
  let b := m.bytes
  match s.laneState l with
  | 1 =>
    match x.fast, s.laneLink l with
    | true, some k => s.fastMarker l k m
    | _, _ => s
  | 3 =>
    if 3 < markerErrors (markerRead b) then s
    else if m.onTime && x.first == some (markerImage b) then s.markerLock l b
    else s.setLane l { x with first := some (markerImage b) }
  | 4 =>
    if 3 < markerErrors b then s
    else
      let s := s.set (Reg.LANE_STATUS l) Fld.LANE_STATUS_MARKER_LANE (markerPos b)
      let s := s.setLane l { x with count := markerCount b }
      match s.laneLink l with
      | some k =>
        if (s.linkLanes k).all (fun i => 4 ≤ s.laneState i) then (s.setLane l { s.lane l with mark := some m }).deskew k else s
      | none => s
  | 5 =>
    if decide (markerErrors b ≤ 3) && m.onTime then
      (s.set (Reg.LANE_STATUS l) Fld.LANE_STATUS_MARKER_LANE (markerPos b)).setLane l { x with count := markerCount b, misses := 0 }
    else
      let s := s.raise Ev.LANE_MARKER_MISS l
      if 2 ≤ x.misses then s.laneLost l m.inPacket else s.setLane l { x with misses := x.misses + 1 }
  | _ => s

/-- A marker period of a bidirectional link's own transmitter passes with that of its first lane's receiver (R69, R71, R81): it sends its
markers, and while it waits for the far end's INIT another INIT flit. Log: 29 (DEDUCED), 206 (DESIGN CHOICE). -/
def ownMarkers (s : State) (l : Nat) : State :=
  if s.linkOn l ∧ s.linkBidir l ∧ (s.link l).ramp = .on then
    let s := s.sendMarkers l
    if s.linkState l = 3 then s.emitFlit l 3 0 0 (s.initPayload l) else s
  else s

/-- An alignment marker position on a lane, with the FEC counts since the one before (R58–R62, R67, R69). -/
def marker (s : State) (l : Nat) (m : MarkerView) : State :=
  let s := ((s.count (Reg.LANE_FEC_CORR l) m.corrected).count (Reg.LANE_FEC_UNCORR l) m.uncorrectable).ownMarkers l
  if (decide (64 ≤ l) && decide (l < 80)) || l == 96 then s.pcsMarker l m else s.balranMarker l m

/-- FREEZE of a lane's equaliser is written (R54). Log: 22 (DEDUCED), 202 (DESIGN CHOICE). -/
def eqFreeze (s : State) (l : Nat) (on : Bool) : State := s.setFlag (Reg.LANE_EQ l) Fld.LANE_EQ_FREEZE on

/-- START of an eye scan (R56, R57, R602): ignored while a scan runs or where the lane cannot be scanned. -/
def startScan (s : State) (l : Nat) : State :=
  if (s.lane l).scanning ∨ s.laneState l < 2 then s
  else
    let s := s.setFlag (Reg.LANE_EYE_CTL l) Fld.LANE_EYE_CTL_START true
    let s := s.wrN (Reg.LANE_EYE_RESULT l) 0
    s.setLane l { s.lane l with scanning := true, held := false }

end State

open State

/-- ADAPTATION_UPDATE (R53–R55). -/
def execAdaptationUpdate (lane : Lane) (ctle dfe1 dfe2 dfe3 : Nudge) (height width : Nat) (s : State) : Result :=
  ok (s.adapt lane ctle dfe1 dfe2 dfe3 height width)

/-- LANE_EQ_FREEZE (R54): the request; ADAPTATION_UPDATE makes it take effect. Not served before READY, nor while commit checks run. -/
def execLaneEqFreeze (lane : Lane) (on : Bool) (s : State) : Result :=
  ok (if s.served then s.eqFreeze lane on else s)

/-- CDR_LOCK_LOSS (R51, R58). -/
def execCdrLockLoss (loss : LaneLoss) (s : State) : Result :=
  ok (if 2 ≤ s.laneState loss.lane then s.laneLost loss.lane loss.inPacket else s)

/-- ADAPT_DONE (R58). -/
def execAdaptDone (lane : Lane) (s : State) : Result :=
  ok (if s.laneState lane = 2 then
        (s.laneTo lane 3).setFlag (Reg.LANE_STATUS lane) Fld.LANE_STATUS_CDR_LOCK true
      else s)

/-- ADAPT_TIMEOUT (R58): adaptation restarts. -/
def execAdaptTimeout (lane : Lane) (s : State) : Result := ok (if s.laneState lane = 2 then s.laneAdapt lane else s)

/-- ALIGNMENT_MARKER (R59–R62, R67, R69). -/
def execAlignmentMarker (lane : Lane) (marker : MarkerView) (s : State) : Result := ok (s.marker lane marker)

/-- SEARCH_TIMEOUT (R58). -/
def execSearchTimeout (lane : Lane) (s : State) : Result := ok (if s.laneState lane = 3 then s.laneAdapt lane else s)

/-- EIDLE (R66): every lane of the link holds its equaliser and CDR state and goes to IDLE; the own transmitter sends EIDLE on every lane and
ramps down. Log: 21 (DEDUCED). -/
def execEidle (link : Link) (s : State) : Result :=
  ok (if s.linkOn link ∧ s.linkState link = 4 then
        let s := (s.each (s.linkLanes link) (fun s i => s.laneTo i 1)).linkTo link 0
        (if s.linkBidir link then
          (s.each (s.linkLanes link) (fun s i => s.sendCtrl i (BitVec.ofNat 8 ctrlEidle :: zeros 31))).setLink link
            { s.link link with ramp := .falling }
        else s).showLinks
      else s)

/-- LOSS_OF_SIGNAL (R66): to ADAPT with LANE_DOWN. -/
def execLossOfSignal (loss : LaneLoss) (s : State) : Result :=
  ok (if 2 ≤ s.laneState loss.lane then (s.laneLost loss.lane loss.inPacket).raise Ev.LANE_DOWN loss.lane else s)

/-- FAST_EXIT (R65, R67, R68): the transmitter ramps up, from the amplitude it has reached if it was falling; the receiver
waits in IDLE for the marker, or takes a full exit after more than 100 ms of idle or with FAST_EXIT clear. -/
def execFastExit (link : Link) (amp : Nat) (long : Bool) (s : State) : Result :=
  ok (if !s.linkOn link ∨ !((s.linkLanes link).all (fun i => s.laneState i == 1)) then s
      else
        let up : Ramp := match (s.link link).ramp with
          | .falling => .rising (min amp 1000)
          | .on => .on
          | .off => .rising 0
          | .rising a => .rising a
        let s := if s.linkBidir link then s.setLink link { s.link link with ramp := up } else s
        if long ∨ s.linkCfg link Fld.LANE_LINK_CFG_FAST_EXIT ≠ 1 then s.linkBringUp link 1
        else s.each (s.linkLanes link) (fun s i => s.setLane i { s.lane i with fast := true }))

/-- FAST_EXIT_MARKER_TIMEOUT (R67): a full exit through ADAPT. -/
def execFastExitMarkerTimeout (link : Link) (s : State) : Result :=
  ok (if (s.linkLanes link).any (fun i => (s.lane i).fast) then s.linkBringUp link 1 else s)

/-- TX_RAMP_END (R65, R67): the amplitude has reached zero, or full swing, whereupon a marker is the first codeword.
Log: 6 (DESIGN CHOICE), 30 (DEDUCED). -/
def execTxRampEnd (link : Link) (s : State) : Result :=
  ok (match (s.link link).ramp with
    | .rising _ => (s.setLink link { s.link link with ramp := .on }).sendMarkers link
    | .falling => s.setLink link { s.link link with ramp := .off }
    | _ => s)

/-- LANE_EYE_START (R56, R57). -/
def execLaneEyeStart (lane : Lane) (s : State) : Result :=
  ok (if s.served then s.startScan lane else s)

/-- EYE_SCAN_DONE (R56, R57, R602). Log: 6 (DESIGN CHOICE). -/
def execEyeScanDone (lane : Lane) (errors : Nat) (s : State) : Result :=
  ok (if (s.lane lane).scanning then
        let s := s.setFlag (Reg.LANE_EYE_RESULT lane) Fld.LANE_EYE_RESULT_DONE true
        let s := s.set (Reg.LANE_EYE_RESULT lane) Fld.LANE_EYE_RESULT_ERRORS (satU 24 errors)
        let s := s.setFlag (Reg.LANE_EYE_CTL lane) Fld.LANE_EYE_CTL_START false
        s.setLane lane { s.lane lane with scanning := false, held := false }
      else s)

end Sys2Proof.Machine
end

