-- ==== Sys2Proof/Machine/Snapshot.lean ====
section
/-! DEFINITION. The state copy of a twin pair (R529, R530): what a snapshot holds, its blocks, its comparison and the adoption of
the active unit's counters; the rings that producers feed (R527). -/

namespace Sys2Proof.Machine

namespace State

/-! ### Rings that producers feed (R360, R527) -/

/-- Rings that a shared producer, 0x01–0x07, feeds by configuration. -/
def sharedRings (s : State) : List Nat :=
  let beam := s.flag Reg.BEAM_CFG Fld.BEAM_CFG_ENABLE
  let sources := (List.range (16 * 2 ^ s.get Reg.BEAM_CFG Fld.BEAM_CFG_DEPTH)).filter (fun q =>
    beam && bitAt (s.get Reg.BEAM_CFG Fld.BEAM_CFG_BLOCK_EN) (q % 16) && s.flag (Reg.BEAM_DEST q) Fld.BEAM_DEST_D_EN
      && s.flag (Reg.BEAM_DEST q) Fld.BEAM_DEST_D_RING)
  ((List.range 8).filter (fun g => s.flag Reg.GRAN_CFG Fld.GRAN_CFG_ENABLE && s.flag (Reg.GRAN_GRP_CFG g) Fld.GRAN_GRP_CFG_ENABLE
      && s.flag (Reg.GRAN_GRP_CFG g) Fld.GRAN_GRP_CFG_DEST_RING)).map (fun g => s.get (Reg.GRAN_GRP_DEST g) Fld.GRAN_GRP_DEST_DEST)
  ++ (if s.flag Reg.GLEAN_CFG Fld.GLEAN_CFG_ENABLE && s.flag Reg.GLEAN_CFG Fld.GLEAN_CFG_NOTIFY then
      [s.get Reg.GLEAN_NOTIFY Fld.GLEAN_NOTIFY_RING] else [])
  ++ (if s.flag Reg.TURN_CFG Fld.TURN_CFG_PASSREC_EN then [s.get Reg.TURN_PASSREC Fld.TURN_PASSREC_RING] else [])
  ++ (if s.flag Reg.WEED_REPORT Fld.WEED_REPORT_EN then [s.get Reg.WEED_REPORT Fld.WEED_REPORT_RING] else [])
  ++ (if s.flag Reg.HARROW_CFG Fld.HARROW_CFG_ENABLE && s.get Reg.HARROW_POWER Fld.HARROW_POWER_LEN != 0 then
      [s.get Reg.HARROW_POWER Fld.HARROW_POWER_RING] else [])
  ++ sources.map (fun q => s.get (Reg.BEAM_DEST q) Fld.BEAM_DEST_DDEST)
  ++ (if beam && s.flag Reg.BEAM_PEAK_CFG Fld.BEAM_PEAK_CFG_EN && s.flag Reg.BEAM_OUT Fld.BEAM_OUT_REPORT_RING then
      [s.get Reg.BEAM_OUT Fld.BEAM_OUT_REPORT] else [])

/-- Rings that a unit-specific producer, 0x08–0x14, feeds by configuration. The rings of the ports count where the port's stream set
or the management port can use them: those that are delivery rings. -/
def unitRings (s : State) : List Nat :=
  ((List.range 16).map (fun p => s.ethGet (Reg.ETH_PORT_RX p) Fld.ETH_PORT_RX_RING)
    ++ [s.ethGet Reg.ETH_MGMT_RINGS Fld.ETH_MGMT_RINGS_RX_RING, s.ethGet Reg.ETH_MGMT_PTP Fld.ETH_MGMT_PTP_PTP_RING]
    ++ (if s.timeFlag Reg.TIME_CAP Fld.TIME_CAP_EN then [s.timeGet Reg.TIME_CAP Fld.TIME_CAP_RING] else [])
    ++ (if s.flag Reg.ALM_CFG Fld.ALM_CFG_REC_EN then [s.get Reg.ALM_CFG Fld.ALM_CFG_RING] else [])
    ++ (if s.adcDma then [s.adcRing] else [])
    ++ ((List.range 8).filter (fun q => s.flag (Reg.EVT_Q_CFG q) Fld.EVT_Q_CFG_EN)).map
        (fun q => s.get (Reg.EVT_Q_CFG q) Fld.EVT_Q_CFG_RING)).filter (fun r => s.ringState r != 0 && s.ringType r == 1)

/-! ### Items (R529) -/

end State

/-- An item of a snapshot: what it is, the part of it, its index, its value of 64 bits. -/
structure SnapItem where
  kind : Nat
  part : Nat
  index : Nat
  value : Nat
deriving DecidableEq, Repr

/-- Sixteen bytes of an item. -/
def SnapItem.bytes (i : SnapItem) : List Byte := le 1 i.kind ++ le 1 i.part ++ le 2 i.index ++ zeros 4 ++ le 8 i.value

/-- The items that bytes spell. Log: 164 (DESIGN CHOICE). -/
def snapItems : Nat → List Byte → List SnapItem
  | 0, _ => []
  | n + 1, b => ⟨byteAt b 0, byteAt b 1, fieldAt b 2 2, fieldAt b 8 8⟩ :: snapItems n (b.drop 16)

/-- Kinds of the items. Those from 0x80 are time and reference. -/
inductive SnapKind where
  | digest | mode | ring | group | voltSeq | detSeq | trigSeq | capSeq | pktSeq | strAlive | ringAlive | fireSeq
  | bank | fade | swap | entry
  | clock | servo | selected | history | buildout
deriving DecidableEq, Repr

/-- The number of a kind. -/
def SnapKind.num : SnapKind → Nat
  | .digest => 0 | .mode => 1 | .ring => 2 | .group => 3 | .voltSeq => 4 | .detSeq => 5 | .trigSeq => 6 | .capSeq => 7
  | .pktSeq => 8 | .strAlive => 9 | .ringAlive => 10 | .fireSeq => 11 | .bank => 12 | .fade => 13 | .swap => 14 | .entry => 15
  | .clock => 0x80 | .servo => 0x81 | .selected => 0x82 | .history => 0x83 | .buildout => 0x84

/-- An item of a kind. Log: 164 (DESIGN CHOICE). -/
def snapItem (k : SnapKind) (index value : Nat) (part : Nat := 0) : SnapItem := ⟨k.num, part, index, value % 2 ^ 64⟩

namespace State

/-- Rings that are not as after reset. -/
def usedRings (s : State) : List Nat := (List.range 16384).filter (fun r => s.ringState r != 0)

/-- Items of one beam block: active bank, fades, queued swap. Log: 164 (DESIGN CHOICE). -/
def blockItems (b : Nat × BeamBlk) : List SnapItem :=
  [snapItem .bank b.1 (b2n b.2.bank)]
    ++ b.2.fades.zipIdx.flatMap (fun f => [snapItem .fade b.1 f.1.k0 (2 * f.2), snapItem .fade b.1 f.1.len (2 * f.2 + 1)])
    ++ (match b.2.queued with
      | some q => [snapItem .swap b.1 q.k 0, snapItem .swap b.1 q.len 1]
      | none => [])

/-- Every item of a snapshot (R529), in the order of its table. -/
def snapList (s : State) : List SnapItem :=
  let rings := s.usedRings
  [snapItem .digest 0 s.digest, snapItem .mode 0 (s.mode + 4 * s.pos)]
  ++ rings.map (fun r => snapItem .ring r (s.full (Reg.RING_STATE r)))
  ++ (List.range 8).map (fun g => snapItem .group g (s.full (Reg.GRAN_GRP_SEQ g) + s.get (Reg.GRAN_GRP_STATE g) Fld.GRAN_GRP_STATE_EPOCH * 2 ^ 32))
  ++ s.beam.volt.map (fun f => snapItem .voltSeq f.1 f.2.seq) ++ s.beam.det.map (fun f => snapItem .detSeq f.1 f.2.seq)
  ++ [snapItem .trigSeq 0 s.beam.trigSeq, snapItem .capSeq 0 s.glean.seq]
  ++ s.eth.streams.map (fun x => snapItem .pktSeq x.1 x.2.pktSeq)
  ++ s.eth.streams.map (fun x => snapItem .strAlive x.1 (s.get (Reg.ETH_STR_ALIVE x.1) Fld.ETH_STR_ALIVE_ALIVE))
  ++ (rings.filter s.sharedRings.contains).map (fun r => snapItem .ringAlive r (s.ring r).alive)
  ++ [snapItem .fireSeq 0 (s.full Reg.ALM_FIRE_SEQ)]
  ++ s.beam.blocks.flatMap blockItems
  ++ s.alm.entries.flatMap (fun e => (List.range 16).map (fun i => snapItem .entry e.1 (fieldAt e.2.image (8 * i) 8) i))
  ++ [snapItem .clock 0 s.now.units 0, snapItem .clock 0 (s.now.units / 2 ^ 64) 1, snapItem .servo 0 (ofS 64 s.time.servoI),
      snapItem .selected 0 (s.get Reg.REF_STATUS Fld.REF_STATUS_SELECTED), snapItem .history 0 (s.full Reg.REF_HIST),
      snapItem .buildout 0 (ofS 64 s.ref.buildout)]

/-- Difference of two signed values of 64 bits within a bound. Log: 165 (DEDUCED). -/
def near (a b bound : Nat) : Bool := decide ((toS 64 (a + 2 ^ 64 - b % 2 ^ 64)).natAbs ≤ bound)

/-- Are two snapshots equal, time and reference within 1 µs and 10 ppb (R530)? The build-out counts as a time, the history and the
servo's integral as frequencies; the number of the selected reference has no window and is not compared. Log: 165 (DEDUCED). -/
def sameSnap (a b : List SnapItem) : Bool :=
  let val (l : List SnapItem) (k : SnapKind) (p : Nat) : Nat := ((l.find? (fun i => i.kind == k.num && i.part == p)).map (·.value)).getD 0
  let close (k : SnapKind) (bound : Nat) : Bool := near (val a k 0) (val b k 0) bound
  let ca : Nat := val a .clock 0 + val a .clock 1 * 2 ^ 64
  let cb : Nat := val b .clock 0 + val b .clock 1 * 2 ^ 64
  a.filter (fun i => decide (i.kind < 0x80)) == b.filter (fun i => decide (i.kind < 0x80))
    && decide (((ca : Int) - (cb : Int)).natAbs ≤ 65536000) && close .buildout 1000000
    && decide ((toS 32 (val a .history 0) - toS 32 (val b .history 0)).natAbs ≤ 10000)
    && close .servo 184467440737

/-! ### Blocks (R529, R497) -/

/-- Check value of a block: over header bytes 0–27 and the content. -/
def blockCrc (b : List Byte) : Nat := crc32c (b.take 28 ++ b.drop 32)

/-- The header of a block with its CRC put in. -/
def sealBlock (h content : List Byte) : List Byte :=
  let b := h ++ zeros 4 ++ content
  bytesPut b 28 (le 4 (blockCrc b))

/-- Send the blocks of a snapshot on VC 2. -/
def sendSnapshot (s : State) (ep seq pos : Nat) (content : List Byte) : State :=
  let ps := pieces 4096 (content.length / 4096 + 1) content
  s.each ps.zipIdx (fun s p =>
    let h := [0x73, 0x01] ++ le 1 s.twin.alive ++ zeros 1 ++ le 4 seq ++ le 2 ep ++ le 2 ps.length ++ le 4 p.1.length
      ++ le 8 pos ++ le 2 p.2 ++ zeros 2
    ({ s with twin := { s.twin with alive := (s.twin.alive + 1) % 256 } } : State).twinVc 2 (sealBlock h p.1))

/-! ### Adoption (R530) -/

/-- A counter shifted by the difference of the active's value and the own value at P_s. Log: 166 (DEDUCED). -/
def shifted (w own theirs now : Nat) : Nat := (now + (theirs + 2 ^ w - own % 2 ^ w)) % 2 ^ w

/-- Adopt one counter. Log: 166 (DEDUCED). -/
def adoptItem (s : State) (own : List SnapItem) (i : SnapItem) : State :=
  let mine := ((own.find? (fun x => x.kind == i.kind && x.index == i.index && x.part == i.part)).map (·.value)).getD 0
  let sh (w now : Nat) : Nat := shifted w mine i.value now
  if i.kind = SnapKind.group.num then
    let bank (b : Bank) : Bank := { b with seq := sh 48 (b.seq + b.epoch * 2 ^ 32) % 2 ^ 32, epoch := sh 48 (b.seq + b.epoch * 2 ^ 32) / 2 ^ 32 }
    let x := (mapFind s.gran.groups i.index).getD {}
    let x : GrpSt := { x with fill := x.fill.map bank, old := x.old.map bank }
    let s : State := { s with gran := { s.gran with groups := mapPut s.gran.groups i.index x } }
    let now := s.full (Reg.GRAN_GRP_SEQ i.index) + s.get (Reg.GRAN_GRP_STATE i.index) Fld.GRAN_GRP_STATE_EPOCH * 2 ^ 32
    (s.wrN (Reg.GRAN_GRP_SEQ i.index) (sh 48 now)).set (Reg.GRAN_GRP_STATE i.index) Fld.GRAN_GRP_STATE_EPOCH (sh 48 now / 2 ^ 32)
  else if i.kind = SnapKind.voltSeq.num then
    let f := (mapFind s.beam.volt i.index).getD {}
    { s with beam := { s.beam with volt := mapPut s.beam.volt i.index { f with seq := sh 64 f.seq } } }
  else if i.kind = SnapKind.detSeq.num then
    let f := (mapFind s.beam.det i.index).getD {}
    { s with beam := { s.beam with det := mapPut s.beam.det i.index { f with seq := sh 64 f.seq } } }
  else if i.kind = SnapKind.trigSeq.num then { s with beam := { s.beam with trigSeq := sh 32 s.beam.trigSeq } }
  else if i.kind = SnapKind.capSeq.num then { s with glean := { s.glean with seq := sh 32 s.glean.seq } }
  else if i.kind = SnapKind.pktSeq.num then s.setStream i.index { s.stream i.index with pktSeq := sh 64 (s.stream i.index).pktSeq }
  else if i.kind = SnapKind.strAlive.num then
    s.set (Reg.ETH_STR_ALIVE i.index) Fld.ETH_STR_ALIVE_ALIVE (sh 8 (s.get (Reg.ETH_STR_ALIVE i.index) Fld.ETH_STR_ALIVE_ALIVE))
  else if i.kind = SnapKind.ringAlive.num then s.setRing i.index { s.ring i.index with alive := sh 8 (s.ring i.index).alive }
  else if i.kind = SnapKind.fireSeq.num then s.wrN Reg.ALM_FIRE_SEQ (sh 32 (s.full Reg.ALM_FIRE_SEQ))
  else s

/-- Groups that run, with the integration they fill. -/
def runningGroups (s : State) : List (Nat × Nat) :=
  (s.gran.groups.filterMap (fun x => x.2.fill.map (fun b => (x.1, b.epoch * 2 ^ 32 + b.seq))))

/-- SYNCED is cleared, and reported (R530). -/
def unsync (s : State) : State :=
  let s : State := { s with twin := { s.twin with clean := false } }
  ((s.setFlag Reg.TWIN_STATUS Fld.TWIN_STATUS_SYNCED false).raise Ev.TWIN_UNSYNC 0).count (Reg.TWIN_COUNT 3)

/-- Adopt the active's counters at its P_s, the release position with them; the standby resynchronises. Log: 166 (DEDUCED). -/
def adopt (s : State) (ownPos theirPos : Nat) (own theirs : List SnapItem) : State :=
  let s := s.each theirs (fun s i => s.adoptItem own i)
  { s with twin := { s.twin with relPos := shifted 64 ownPos theirPos s.twin.relPos, since := some s.runningGroups } }

/-- Has every group that runs completed a whole integration since the adoption?. Log: 167 (DEDUCED). -/
def wholeSince (s : State) (l : List (Nat × Nat)) : Bool :=
  s.runningGroups.all (fun g => decide (((mapFind l g.1).getD g.2) + 2 ≤ g.2))

/-- Compare the active's whole copy with the own snapshot of the same integration. Log: 167 (DEDUCED). -/
def compareCopy (s : State) : State :=
  match s.twin.snap, s.twin.copy with
  | some (ep, seq, pos, bs), some (ep', seq', n, pos') =>
    if ep = ep' ∧ seq = seq' ∧ s.twin.blocks.length = n ∧ !s.twin.compared then
      let theirs := s.twin.blocks.flatMap (·.2)
      let s : State := { s with twin := { s.twin with compared := true } }
      let a := snapItems (bs.length / 16) bs
      let b := snapItems (theirs.length / 16) theirs
      if sameSnap a b then
        let ready := match s.twin.since with
          | none => true
          | some l => s.wholeSince l
        if ready && !s.flag Reg.TWIN_STATUS Fld.TWIN_STATUS_SYNCED then
          (({ s with twin := { s.twin with since := none } } : State).setFlag Reg.TWIN_STATUS Fld.TWIN_STATUS_SYNCED true).raise Ev.TWIN_SYNCED 0
        else s
      else s.unsync.adopt pos pos' a b
    else s
  | _, _ => s

/-- A preferred standby in service, SYNCED and free of causes for a whole integration asks for its return (R535). -/
def askReturn (s : State) (ep seq : Nat) : State :=
  if s.flag Reg.TWIN_STATUS Fld.TWIN_STATUS_SYNCED then
    if s.twin.clean then
      if s.unitFlag Reg.TWIN_CFG Fld.TWIN_CFG_REVERT && !s.twin.noRevert && s.preferred then
        ({ s with twin := { s.twin with reclaimed := true } } : State).twinVc0 ([0x84] ++ zeros 3 ++ le 4 seq ++ le 2 ep)
      else s
    else { s with twin := { s.twin with clean := true } }
  else { s with twin := { s.twin with clean := false } }

/-- The snapshot at the end of an integration of group 0 (R529). A copy that has not arrived whole before the next one ends leaves
the standby unsynchronised (R530). -/
def takeSnapshot (s : State) : State :=
  if !s.twinOn then s
  else
    let old := (mapFind s.gran.groups 0).bind (·.old)
    let ep := (old.map (·.epoch)).getD 0
    let seq := (old.map (·.seq)).getD 0
    let bs := s.snapList.flatMap SnapItem.bytes
    if s.role = 1 then s.sendSnapshot ep seq s.twin.relPos bs
    else if s.role = 2 then
      let s := if s.twin.snap.isSome && !s.twin.compared then s.unsync else s
      let s : State := { s with twin := { s.twin with snap := some (ep, seq, s.twin.relPos, bs), compared := false } }
      s.compareCopy.askReturn ep seq
    else s

/-- A state block arrives on a standby (R497, R529): one that fails its check or repeats an accepted one is discarded. -/
def stateBlock (s : State) (b : List Byte) : State :=
  let key := (fieldAt b 8 2, fieldAt b 4 4, fieldAt b 10 2, fieldAt b 16 8)
  let n := fieldAt b 24 2
  if s.role ≠ 2 ∨ byteAt b 1 ≠ 1 ∨ fieldAt b 28 4 ≠ blockCrc b then s
  else
    let same := s.twin.copy == some key
    let had := if same then s.twin.blocks else []
    if (mapFind had n).isSome then s
    else
      let blocks := mapPut had n (b.drop 32)
      let s : State := { s with twin := { s.twin with copy := some key, blocks := blocks } }
      let s := if blocks.length = key.2.2.1 then (s.count (Reg.TWIN_COUNT 2)).wrN Reg.TWIN_CYCLE key.2.1 else s
      s.compareCopy

/-! ### Configuration updates (R562) -/

/-- May a register's setting be sent: it has a read-write field, and no rule keeps it out of an image (R550). -/
def isSetting (a : Nat) : Bool :=
  (match regAt a with
    | some r => r.fields.any (fun f => f.acc == .rw)
    | none => false) && a != Reg.GLB_REMAP && decide (a < 0x2700000)

/-- The read-write settings that differ from their reset values, as REGISTERS pairs (R549). -/
def settings (s : State) : List Byte := (s.regs.filter (fun e => isSetting e.1)).flatMap (fun e => le 4 e.1 ++ le 4 e.2.toNat)

/-- The active unit sends its committed settings to a partner that joins. Log: 171 (DEDUCED). -/
def sendConfig (s : State) : State :=
  let ps := pieces 4096 (s.settings.length / 4096 + 1) s.settings
  s.each ps.zipIdx (fun s p =>
    let h := [0x63, 0x01] ++ le 1 s.twin.alive ++ zeros 1 ++ le 4 s.sys.imageSeq ++ le 2 p.2 ++ le 2 ps.length ++ le 4 p.1.length ++ zeros 12
    ({ s with twin := { s.twin with alive := (s.twin.alive + 1) % 256 } } : State).twinVc 3 (sealBlock h p.1))

end State

end Sys2Proof.Machine
end

