-- ==== Sys2Proof/Machine/Balran.lean ====
section
/-! DEFINITION. The receiving side of bidirectional Balran links: DATA, NAK, NULL and INIT flits, replay and retraining timers (R76–R81). -/

namespace Sys2Proof.Machine

namespace State

/-- The header of a flit of a type whose CRC passes, on an enabled bidirectional link in a state. -/
def flitHeader (s : State) (k : Nat) (type st : Nat) (f : List Byte) : Option Nat :=
  let h := fieldAt f 0 4
  if s.linkOn k ∧ s.linkBidir k ∧ s.linkState k = st ∧ f.length = 256 ∧ h % 4 = type ∧ crc32c (f.take 252) = fieldAt f 252 4 then some h
  else none

/-- An accepted payload: VC 0 payloads one by one, the others as bytes of their stream; its buffer is free again (R77, R536).
Log: 28 (DEDUCED). -/
def takePayload (s : State) (k vc : Nat) (p : List Byte) : State :=
  let x := s.link k
  let freed := x.freed.set vc (x.freed.getD vc 0 + 1)
  s.setLink k (if vc = 0 then { x with inbox := x.inbox ++ [p], freed := freed }
    else { x with rx := x.rx.set (vc - 1) (x.rx.getD (vc - 1) [] ++ p), freed := freed })

/-- A DATA flit that is not accepted: the first discard after an accepted flit sends a NAK (R78). Log: 27 (DEDUCED). -/
def discardFlit (s : State) (k : Nat) : State :=
  let x := s.link k
  if x.nakked then s else (s.setLink k { x with nakked := true }).sendNak k

/-! ### Messages (R536–R539) -/

end State

/-- TYPEs that a virtual channel of a weave link or of the twin link carries. Log: 26 (DEDUCED). -/
def vcTypes (twin : Bool) (vc : Nat) : List Nat :=
  match twin, vc with
  | false, 0 => [0x70, 0x85, 0x86, 0x87]
  | false, 1 => [0x46]
  | false, 2 => [0xA0, 0xA1, 0xA2]
  | false, _ => [0xB0, 0xB1]
  | true, 0 => [0x80, 0x81, 0x82, 0x83, 0x84]
  | true, 1 => [0x90, 0x91]
  | true, 2 => [0x73]
  | true, _ => [0x63]

/-- The zero bytes that fill up the last flit of a byte stream are no message. Log: 25 (DEDUCED). -/
def skipPad (l : List Byte) : List Byte := l.dropWhile (fun b => b == 0)

/-- The length of the message at the front of a byte stream, once the bytes that give it are there. -/
def msgLen (l : List Byte) : Option Nat :=
  let var (head n : Nat) : Option Nat := if l.length < head then none else some (head + n)
  match byteAt l 0 with
  | 0x46 => var 24 (fieldAt l 20 4)
  | 0x90 => some 4
  | 0x91 => some 24
  | 0xA0 => var 16 (4 * fieldAt l 2 2)
  | 0xA1 => var 16 (ceilDiv (2 ^ byteAt l 11 / 8) 8 * 8)
  | 0xA2 => some 208
  | 0x73 => var 32 (fieldAt l 12 4)
  | 0x63 => var 32 (fieldAt l 12 4)
  | _ => some 20

namespace State

/-- Is a TYPE at hand that R537–R539 do not assign to its VC?. Log: 26 (DEDUCED). -/
def badType (s : State) (k : Nat) : Bool :=
  let x := s.link k
  let twin := decide (88 ≤ k)
  x.inbox.any (fun b => !(vcTypes twin 0).contains (byteAt b 0))
    || (List.range 3).any (fun i =>
      match skipPad (x.rx.getD i []) with
      | [] => false
      | b => !(vcTypes twin (i + 1)).contains (byteAt b 0))

/-- Such a TYPE puts the link into FAILED (R536). Log: 26 (DEDUCED). -/
def checkTypes (s : State) (k : Nat) : State :=
  if s.linkState k = 4 ∧ s.badType k then (s.linkFail k).raise Ev.LINK_PEER_MISMATCH k else s

/-- Take the oldest VC 0 payload of a link when its TYPE is the one given. -/
def takeVc0 (s : State) (k type : Nat) : Option (List Byte × State) :=
  match (s.link k).inbox with
  | b :: t => if byteAt b 0 = type then some (b, s.setLink k { s.link k with inbox := t }) else none
  | [] => none

/-- Take the message at the front of a byte stream when it is whole and its TYPE is the one given. -/
def takeMsg (s : State) (k vc type : Nat) : Option (List Byte × State) :=
  let x := s.link k
  let l := skipPad (x.rx.getD (vc - 1) [])
  match msgLen l with
  | some n =>
    if byteAt l 0 = type ∧ n ≤ l.length then
      some (l.take n, (s.setLink k { x with rx := x.rx.set (vc - 1) (l.drop n) }).checkTypes k)
    else none
  | none => none

/-- A received DATA flit (R78). Log: 27 (DEDUCED). -/
def dataFlit (s : State) (k : Nat) (f : List Byte) : State :=
  if !s.linkOn k ∨ !s.linkBidir k ∨ s.linkState k ≠ 4 then s
  else match s.flitHeader k 1 4 f with
    | none => (s.discardFlit k).afterFlit k s.out.flits.length
    | some h =>
      let sent := s.out.flits.length
      let s := s.takeHeader k h
      let x := s.link k
      let seq := h / 16 % 1024
      (if seq = (x.lastAcc + 1) % 1024 then
        ((s.setLink k { x with lastAcc := seq, nakked := false }).takePayload k (h / 4 % 4) ((f.drop 4).take 248)).checkTypes k
      else s.discardFlit k).afterFlit k sent

/-- A received NAK (R79): a replay from ACK + 1, unless one from the same SEQ is in progress. -/
def nakFlit (s : State) (k : Nat) (f : List Byte) : State :=
  match s.flitHeader k 2 4 f with
  | none => s
  | some h =>
    let s := s.takeHeader k h
    let x := s.link k
    match x.replay with
    | [] => s.flitSlot k
    | (q, _, _) :: _ => if x.replaying = some q then s.flitSlot k else s.replay k

/-- The link comes up with what the far end's INIT told (R80, R81): both sides resume from the last accepted SEQs, or start afresh.
Log: 32 (DEDUCED). -/
def linkUp (s : State) (k : Nat) (f : List Byte) : State :=
  let x := s.link k
  let adv := (List.range 4).map (fun v => fieldAt f (12 + 2 * v) 2)
  let ack := fieldAt f 10 2 % 1024
  let x := { x with peerSerial := fieldAt f 22 8, peerPos := byteAt f 8 % 4, peerActive := bitAt (byteAt f 8) 2
                    lastCr := [0, 0, 0, 0], freed := [0, 0, 0, 0], nakked := false, replaying := none, resend := [], tries := 0
                    failed := false }
  let resume := x.resume && bitAt (byteAt f 9) 0
  let rest := if x.replay.any (fun e => e.1 == ack) then (x.replay.dropWhile (fun e => e.1 != ack)).drop 1 else x.replay
  let y : LinkSt :=
    if resume then
      { x with replay := rest, resume := false
               credit := (List.range 4).map (fun v => adv.getD v 0 - (rest.filter (fun e => e.2.1 == v)).length) }
    else { x with replay := [], nextSeq := 0, lastAcc := 1023, resume := false, credit := adv, refusing := false
                  inbox := [], rx := [[], [], []], txq := [[], [], []], vc0 := [] }
  let s := ((s.setLink k y).linkTo k 4).showLinks
  let s := if resume then s.each rest (fun s e => s.emitFlit k 1 e.2.1 e.1 e.2.2) else s
  s.pumpAll k

/-- The WEAVE_HELLO that a device sends once a weave link is UP (R503, R539). Log: 29 (DEDUCED), 32 (DEDUCED). -/
def sendHello (s : State) (k : Nat) : State :=
  if s.weaveLinks.contains k ∧ s.positions ≠ 1 then
    s.sendVc k 3 ([0xB0] ++ le 1 (s.pos + 4 * (if s.mode = 0 then 3 else s.mode)) ++ zeros 2
      ++ le 8 (s.pair Reg.WEAVE_DIGEST_LO Reg.WEAVE_DIGEST_HI) ++ le 8 s.fuses.serial)
  else s

/-- A received INIT flit (R81). A fresh link takes this side's WEAVE_HELLO (R503), or its settings where a partner joins a unit that has
been running (R562). Log: 29 (DEDUCED). -/
def initFlit (s : State) (k : Nat) (f : List Byte) : State :=
  match s.flitHeader k 3 3 f with
  | none => s
  | some _ =>
    if fieldAt f 4 2 ≠ 1 ∨ (s.linkId k ≠ 0xFFF ∧ fieldAt f 6 2 % 4096 ≠ s.linkId k) then
      (((s.linkFresh k).linkTo k 6).raise Ev.LINK_PEER_MISMATCH k).showLinks
    else
      let kept := (s.link k).resume && bitAt (byteAt f 9) 0
      let s := s.linkUp k f
      if kept then s
      else if s.twinLink = some k ∧ s.twinOn ∧ s.role ≤ 1 ∧ !s.twin.undecided ∧ s.twin.relPos ≠ 0 ∧ !(s.link k).peerActive then s.sendConfig
      else s.sendHello k

end State

open State

/-- DATA_FLIT (R76–R78). -/
def execDataFlit (link : Link) (flit : List Byte) (s : State) : Result := ok (s.dataFlit link flit)

/-- NAK_FLIT (R79). -/
def execNakFlit (link : Link) (flit : List Byte) (s : State) : Result := ok (s.nakFlit link flit)

/-- NULL_FLIT (R77). Log: 24 (DEDUCED). -/
def execNullFlit (link : Link) (flit : List Byte) (s : State) : Result :=
  ok (match s.flitHeader link 0 4 flit with
    | some h => (s.takeHeader link h).flitSlot link
    | none => s)

/-- INIT_FLIT (R80, R81, R503). -/
def execInitFlit (link : Link) (flit : List Byte) (s : State) : Result := ok (s.initFlit link flit)

/-- REPLAY_TIMEOUT (R79, R80). -/
def execReplayTimeout (link : Link) (s : State) : Result :=
  ok (if s.linkState link = 4 ∧ s.linkBidir link then s.replay link else s)

/-- NAK_REPEAT (R78). -/
def execNakRepeat (link : Link) (s : State) : Result :=
  ok (if s.linkState link = 4 ∧ (s.link link).nakked then s.sendNak link else s)

/-- RETRAIN_TIMEOUT (R80): a link not UP 50 ms after retraining began fails. -/
def execRetrainTimeout (link : Link) (s : State) : Result :=
  ok (if (s.link link).resume ∧ s.linkState link ≠ 4 ∧ s.linkState link ≠ 6 then s.linkFail link else s)

/-- FAILED_RETRY (R80): bring-up of a link that has failed is tried again, until it is UP. -/
def execFailedRetry (link : Link) (s : State) : Result :=
  ok (if s.linkOn link ∧ (s.link link).failed ∧ s.linkState link ≠ 4 then s.linkBringUp link 1 else s)

end Sys2Proof.Machine
end

