-- ==== Sys2Proof/Machine/Baler.lean ====
section
/-! DEFINITION. The baler's coding (spec/11_baler.md): residues, the choice of a selector, the bitstream of a segment, and the decoder of
R299. -/

namespace Sys2Proof.Machine

/-- The `n` low bits of a number, least significant first (R295). -/
def bitsOf : Nat → Nat → List Bool
  | 0, _ => []
  | n + 1, v => decide (v % 2 = 1) :: bitsOf n (v / 2)

/-- Bits into bytes, the first bit in bit 0; the last byte is filled with zeros. -/
def packBits : Nat → List Bool → List Byte
  | 0, _ => []
  | fuel + 1, l => if l.isEmpty then [] else
      le 1 (((l.take 8).zipIdx.map (fun e => b2n e.1 * 2 ^ e.2)).sum) ++ packBits fuel (l.drop 8)

/-- The unsigned code of a residue (R297). -/
def residueCode (v p : Int) : Nat := let r := v - p; if 0 ≤ r then (2 * r).toNat else (-2 * r - 1).toNat

/-- The residue of a code. -/
def codeResidue (u : Nat) : Int := if u % 2 = 1 then -((u + 1) / 2 : Nat) else (u / 2 : Nat)

/-- Coded length L(k) (R298). -/
def riceLength (us : List Nat) (k : Nat) : Nat := us.length * (k + 1) + (us.map (fun u => u / 2 ^ k)).sum

/-- The selector that the baler chooses (R298). -/
def balerSelector (us : List Nat) : Nat :=
  if us.all (· == 0) then 62
  else ((List.range 33).foldl (fun (b : Nat × Nat) k => if riceLength us k < b.1 then (riceLength us k, k) else b) (32 * us.length, 63)).2

/-- One Rice code (R297). -/
def riceBits (k u : Nat) : List Bool := List.replicate (u / 2 ^ k) true ++ [false] ++ bitsOf k u

/-- A block with a selector (R296): raw components, nothing, or Rice codes. -/
def blockBits (sel : Nat) (vs : List Int) (us : List Nat) : List Bool :=
  bitsOf 6 sel ++
    (if sel = 62 then []
     else if sel = 61 ∨ sel = 63 then vs.flatMap (fun v => bitsOf 32 (ofS 32 v))
     else us.flatMap (riceBits sel))

/-- A block: its selector, 61 when its check failed (R300), and its bits. -/
def balerBlock (vs ps : List Int) (fail : Bool) : Nat × List Bool :=
  let us := (vs.zip ps).map (fun e => residueCode e.1 e.2)
  let sel := if fail then 61 else balerSelector us
  (sel, blockBits sel vs us)

/-- The number that bits spell, the first bit lowest. -/
def bitsNat (l : List Bool) : Nat := (l.zipIdx.map (fun e => b2n e.1 * 2 ^ e.2)).sum

/-- Read one Rice code (R299): the code and the rest; none when the stream ends or the quotient reaches 2,048. -/
def riceRead (k : Nat) : Nat → Nat → List Bool → Option (Nat × List Bool)
  | 0, _, _ => none
  | _ + 1, _, [] => none
  | fuel + 1, q, b :: t =>
    if b then riceRead k fuel (q + 1) t
    else if t.length < k then none
    else some (q * 2 ^ k + bitsNat (t.take k), t.drop k)

/-- Decode the components of a block of a given selector (R299). -/
def blockRead (sel : Nat) : List Int → List Bool → Option (List Int × List Bool)
  | [], l => some ([], l)
  | p :: ps, l =>
    if sel = 62 then (blockRead sel ps l).map (fun r => (p :: r.1, r.2))
    else if sel = 61 ∨ sel = 63 then
      if l.length < 32 then none
      else (blockRead sel ps (l.drop 32)).map (fun r => (toS 32 (bitsNat (l.take 32)) :: r.1, r.2))
    else if sel ≤ 32 then
      match riceRead sel 2048 0 l with
      | none => none
      | some (u, rest) => (blockRead sel ps rest).map (fun r => ((p + codeResidue u) :: r.1, r.2))
    else none

/-- Decode one block against its predictors. -/
def balerDecode (ps : List Int) (l : List Bool) : Option (List Int × List Bool) :=
  if l.length < 6 then none else blockRead (bitsNat (l.take 6)) ps (l.drop 6)

/-- Cut a list into runs of `n`. -/
def runsOf {α : Type} (n : Nat) : Nat → List α → List (List α)
  | 0, _ => []
  | fuel + 1, l => if l.isEmpty then [] else l.take n :: runsOf n fuel (l.drop n)

/-- The coded blocks of a segment: components, predictors, blocks whose check fails (R294, R300). -/
def balerBlocks (vs ps : List Int) (fails : List Nat) : List (Nat × List Bool) :=
  ((runsOf 64 vs.length vs).zip (runsOf 64 ps.length ps)).zipIdx.map (fun e => balerBlock e.1.1 e.1.2 (fails.contains e.2))

/-- A baled visibility block with its header (R293); `pred` is the predictor's channel, none on a restart channel. -/
def balerSegment (ch vis : Nat) (pred : Option Nat) (bs : List (Nat × List Bool)) : List Byte :=
  let bits := bs.flatMap (·.2)
  let cnt (p : Nat → Bool) : Nat := (bs.filter (fun b => p b.1)).length
  let raw := cnt (fun s => s == 61 || s == 63)
  [0x62, 0x01] ++ le 1 (b2n pred.isNone + 2 * b2n (raw != 0)) ++ zeros 1 ++ le 2 ch ++ le 2 (pred.getD 0xFFFF) ++ le 4 vis
    ++ le 4 bs.length ++ le 4 (cnt (· == 62)) ++ le 4 raw ++ le 4 (cnt (· == 61)) ++ le 4 bits.length
    ++ packBits bits.length bits

end Sys2Proof.Machine
end

