-- ==== Sys2Proof/Machine/HbmOps.lean ====
section
/-! DEFINITION. Writes to HBM and the poison they meet, which every writer shares, and the write queues they fill (R373, R376, R377,
R383–R385). -/

namespace Sys2Proof.Machine

/-! ### Bursts of a part -/

/-- The byte that a write part holds for an address. -/
def partByte (q : HbmPart) (a : Nat) : Option Byte := if q.addr ≤ a then (q.data[a - q.addr]?).join else none

/-- Bursts that a part lies on. -/
def partBursts (q : HbmPart) : List Nat := (List.range ((q.addr + q.len + 31) / 32 - q.addr / 32)).map (fun i => q.addr / 32 + i)

/-- Bursts that a write part writes whole, and those of which it leaves bytes unwritten. -/
def wholeBursts (q : HbmPart) : List Nat := (partBursts q).filter (fun b => (List.range 32).all (fun i => (partByte q (b * 32 + i)).isSome))
def partialBursts (q : HbmPart) : List Nat :=
  (partBursts q).filter (fun b => !(wholeBursts q).contains b && (List.range 32).any (fun i => (partByte q (b * 32 + i)).isSome))

/-- Two writes to one burst as one, the later bytes winning (R376). -/
def mergeParts (old new : HbmPart) : HbmPart :=
  let lo := min old.addr new.addr
  let n := max (old.addr + old.len) (new.addr + new.len) - lo
  { old with addr := lo, len := n, data := (List.range n).map (fun i => (partByte new (lo + i)).or (partByte old (lo + i))) }

/-- Do two parts touch one burst? -/
def shareBurst (a b : HbmPart) : Bool := (partBursts a).any (partBursts b).contains

namespace State

/-- An uncorrectable error is latched and raised; it is a cause of the twin self-diagnosis (R383, R385). -/
def hbmUe (s : State) (burst port : Nat) (write : Bool) : State :=
  let a := burst * 32
  let pc := (hbmMap a).pc
  let s := s.wrN Reg.HBM_UE_INFO (pc + port * 2 ^ 8 + b2n write * 2 ^ 11 + 2 ^ 12)
  let s := (s.wrN Reg.HBM_UE_ADDR_LO a).wrN Reg.HBM_UE_ADDR_HI (a / 2 ^ 32)
  (s.raise Ev.HBM_UE (a % 2 ^ 40 + pc * 2 ^ 40)).selfFault 2

/-- Poison a burst (R383–R385). -/
def poisonBurst (s : State) (b : Nat) : State := if s.poison.contains b then s else { s with poison := b :: s.poison }

/-- The read of a partial write meets an uncorrectable error, and the write is completed with a poison pattern (R377, R384, R385).
Log: 124 (DEDUCED). -/
def rmwPoison (s : State) (burst port : Nat) : State :=
  ((s.count (Reg.HBM_COUNT 1)).count (Reg.HBM_COUNT 7)).hbmUe burst port true

/-- Bursts written whole are clean again, and no read-modify-write of them is awaited any longer. -/
def cleanBursts (s : State) (whole : List Nat) : State :=
  let fresh (q : Queued) : Queued := { q with rmw := q.rmw.filter (fun b => !whole.contains b) }
  { s with poison := s.poison.filter (fun b => !whole.contains b)
           mem := { s.mem with pcs := s.mem.pcs.map (fun (x : Nat × PcSt) => (x.1, { x.2 with issued := x.2.issued.map fresh })) } }

/-- A write of bytes with strobes (R377): a burst written whole is clean again. Log: 121 (DEDUCED), 124 (DEDUCED). -/
def strobeWrite (s : State) (port a : Nat) (bs : List (Option Byte)) : State :=
  let q : HbmPart := { port := 0, write := true, addr := a, len := bs.length, data := bs }
  let s := s.each bs.zipIdx (fun s x => match x.1 with
    | some v => s.hbmPut (a + x.2) v
    | none => s)
  let s := s.each ((partialBursts q).filter s.poison.contains) (fun s b => s.rmwPoison b port)
  let touched := wholeBursts q ++ partialBursts q
  let s : State := { s with mem := { s.mem with reissue := s.mem.reissue.filter (fun r => !touched.contains r.1) } }
  s.cleanBursts (wholeBursts q)

/-! ### Write queues (R373, R376) -/

/-- Can a write part enter its queue: there is room, or a queued write to one of its bursts takes it in? -/
def writeRoom (s : State) (p : Nat) (q : HbmPart) : Bool :=
  decide ((s.pcSt p).wq.length < 64) || (s.pcSt p).wq.any (fun w => shareBurst w.part q)

/-- Does a part of a port wait for room on a pseudo-channel, or on any? -/
def waitsOn (s : State) (p port : Nat) : Bool := (s.pcSt p).waiting.any (fun q => q.part.port.val == port)
def portWaits (s : State) (port : Nat) : Bool := s.mem.pcs.any (fun x => x.2.waiting.any (fun q => q.part.port.val == port))

/-- A write part in its queue: merged into the queued write to one of its bursts, or behind the others. -/
def queueWrite (s : State) (p : Nat) (q : Queued) : State :=
  let x := s.pcSt p
  match x.wq.findIdx? (fun w => shareBurst w.part q.part) with
  | some i => s.setPc p { x with wq := x.wq.modify i (fun w => { w with part := mergeParts w.part q.part }) }
  | none => s.setPc p { x with wq := x.wq ++ [q] }

/-- A write part whose bytes have taken effect takes its place: in the queue, or waiting with its port. -/
def sendDone (s : State) (q : HbmPart) : State :=
  let p := (hbmMap q.addr).pc
  if s.waitsOn p q.port || !s.writeRoom p q then s.setPc p { s.pcSt p with waiting := (s.pcSt p).waiting ++ [{ part := q, done := true }] }
  else s.queueWrite p { part := q, done := true }

/-- The parts of a write of bytes without gaps, one for each 256-byte block (R371). -/
def writeParts (port a : Nat) (bs : List Byte) : List HbmPart :=
  (List.range ((a + bs.length + 255) / 256 - a / 256)).map (fun i =>
    let lo := max a ((a / 256 + i) * 256)
    let piece := (bs.drop (lo - a)).take ((a / 256 + i + 1) * 256 - lo)
    { port := ⟨port % 8, by omega⟩, write := true, addr := lo, len := piece.length, data := piece.map some })

/-- A write of bytes without gaps by a block of the device (R350, R372, R377): the bytes take effect with the command, bursts of poison that
it covers whole are clean again, others keep their pattern, and its parts fill the write queues. Log: 121 (DEDUCED). -/
def hbmStore (s : State) (port a : Nat) (bs : List Byte) : State :=
  let s := s.hbmWrite a bs
  let whole (p : Nat) : Bool := a ≤ p * 32 && p * 32 + 32 ≤ a + bs.length
  let s := s.each (s.poison.filter (fun p => !whole p && decide (p * 32 < a + bs.length) && decide (a < p * 32 + 32))) (fun s p => s.rmwPoison p port)
  let s := s.cleanBursts ((List.range ((a + bs.length) / 32 - (a + 31) / 32)).map (fun i => (a + 31) / 32 + i))
  s.each (if bs.isEmpty then [] else writeParts port a bs) sendDone

end State

end Sys2Proof.Machine
end

