-- ==== Sys2Proof/Machine/Rings.lean ====
section
/-! DEFINITION. Rings, doorbells, completion records, delivery and MSI-X (spec/13_host_rings_and_dma.md). -/

namespace Sys2Proof.Machine

namespace State

/-- A narrow access outside BAR0 is discarded and raises ACCESS_SIZE with its BAR and offset (R18, R334). Log: 11 (DEDUCED). -/
def narrowAccess (s : State) (bar offset : Nat) : State := s.raise Ev.ACCESS_SIZE (offset % 2 ^ 26 + bar * 2 ^ 26)

/-- A valid doorbell position (R335): index below S, at most S entries outstanding against the device. -/
def doorbellValid (s : State) (r new : Nat) : Bool :=
  let size := s.ringSize r
  decide (new % 65536 < size) &&
    (if s.ringType r = 2 then decide (posDiff size (s.devPos r) new ≤ size)
     else decide (posDiff size new (s.devPos r) ≤ size))

/-- A new host position from a doorbell (R335, R337): discarded while DISABLED, halts the ring when invalid. -/
def doorbellPos (s : State) (r new : Nat) : State :=
  if s.ringState r = 0 then s.bump (Reg.RING_COUNT r) Fld.RING_COUNT_DOORBELLS
  else if s.doorbellValid r new then s.set (Reg.RING_HOST_POS r) Fld.RING_HOST_POS_POS new
  else ((s.haltRing r 2).raise Ev.RING_DOORBELL_BAD r).count (Reg.DMA_COUNT 5)

/-- ARM of a completion ring's doorbell (R368); discarded while DISABLED (R337). -/
def armCq (s : State) (r : Nat) : State :=
  if s.ringType r ≠ 2 then s
  else if s.ringState r = 0 then s.bump (Reg.RING_COUNT r) Fld.RING_COUNT_DOORBELLS
  else s.setRing r { s.ring r with armed := true, since := 0 }

/-- A write of the upper word of a doorbell (R334). -/
def upperWrite (s : State) (r v : Nat) : State :=
  let x := s.ring r
  let s := s.setRing r { x with doorbell := x.doorbell % 2 ^ 32 + v % 2 ^ 32 * 2 ^ 32 }
  if bitAt v 0 then s.armCq r else s

/-- A doorbell write at a byte of its 8 (R334). -/
def doorbellWrite (s : State) (r byte size : Nat) (v : Nat) : State :=
  if size < 4 then s.narrowAccess 1 (8 * r + byte)
  else if size < 8 ∧ 4 ≤ byte then s.upperWrite r v
  else
    let old := (s.ring r).doorbell
    let val := if size = 8 then v else old / 2 ^ 32 * 2 ^ 32 + v % 2 ^ 32
    let s := (s.setRing r { s.ring r with doorbell := val }).doorbellPos r (val % 2 ^ 17)
    if size = 8 ∧ bitAt v 32 ∧ s.ringType r = 2 ∧ s.ringState r ≠ 0 then s.armCq r else s

/-- What a 64-bit read of a doorbell returns: the last value written, bit 63 set while the ring is HALTED (R334). -/
def readDoorbell (s : State) (r : Nat) : Nat := (s.ring r).doorbell % 2 ^ 63 + (if s.ringState r = 3 then 2 ^ 63 else 0)

/-- What a read of a byte place and size returns out of 64 bits: a narrow one the bytes it addresses of their 32-bit word (R334). -/
def barPart (v byte size : Nat) : Nat :=
  let w := v / 2 ^ (32 * (byte / 4)) % 2 ^ 32
  if size = 8 then v else if size = 4 then w else w / 2 ^ (8 * (byte % 4)) % 2 ^ (8 * size)

/-- A read of BAR2 or BAR4 answers; it has no side effect (R334). -/
def barAnswer (s : State) (v : Nat) : State := { s with host := { s.host with barData := v } }

/-- An access to a doorbell (R334). -/
def doorbellAccess (s : State) (r byte : Nat) : BarAccess → State
  | .write size v => s.doorbellWrite r byte size v.toNat
  | .read size => s.barAnswer (barPart (s.readDoorbell r) byte size)

/-- Is there room for a record on a completion ring, and is it ACTIVE (R359)? -/
def cqRoom (s : State) (q : Nat) : Bool :=
  decide (s.ringState q = 1) && decide (posDiff (s.ringSize q) (s.devPos q) (s.hostPos q) < s.ringSize q)

end State

/-- The 32 bytes of a completion record (R356). -/
def recordBytes (r head phase : Nat) (c : CplRec) : List Byte :=
  le 8 c.tag ++ le 2 r ++ le 2 (head % 65536) ++ le 2 c.status
    ++ le 1 (b2n c.late + 2 * b2n c.cut + 4 * b2n c.first + 8 * b2n c.last + 16 * b2n c.chained)
    ++ le 1 (phase + 2 * (head / 65536 % 2)) ++ le 4 (satU 32 c.count) ++ le 4 (satU 32 c.residue) ++ le 8 c.aux

namespace State

/-- Coalescing after a record was written (R368): the vector is signalled once COUNT records follow the ARM. -/
def cqWritten (s : State) (q : Nat) : State :=
  let x := s.ring q
  let n := s.get (Reg.RING_CQ q) Fld.RING_CQ_COUNT
  if x.armed then
    if n ≠ 0 ∧ n ≤ x.since + 1 then
      (s.setRing q { x with armed := false, since := 0, waiting := false }).signal (s.get (Reg.RING_CQ q) Fld.RING_CQ_VECTOR)
    else s.setRing q { x with since := x.since + 1, waiting := false }
  else s.setRing q { x with waiting := false }

/-- Records among host writes that have been written count for the interrupts of their rings (R368). Log: 173 (DEDUCED). -/
def recordsWritten (s : State) (l : List HeldWrite) : State := s.each (l.filter (fun w => s.ringType w.ring == 2)) (fun s w => s.cqWritten w.ring)

/-- Host writes held as a standby leave after a takeover (R533), as soon as the host function can start them (R494). -/
def sendHeld (s : State) : State :=
  if s.standby ∨ !s.hostFree then s
  else
    let l := s.heldWrites
    let out := { s.out with host := s.out.host ++ l.map (fun w => ⟨w.addr, w.bytes, w.ro⟩) }
    ({ s with out := out, heldWrites := [] } : State).recordsWritten l

/-- Write the oldest record of a ring onto its completion ring when that has room; otherwise it waits, and the first wait of
a run raises RING_CQ_FULL (R358, R359). PHASE is the complement of the producer phase (R332). A record that a standby holds counts for the
interrupt once it is written, by the active unit or after a takeover (R368, R526, R533). Log: 109 (DEDUCED). -/
def writeRecord (s : State) (r : Nat) : State :=
  match (s.ring r).slots with
  | [] => s
  | l :: rest =>
    match l.result with
    | none => s
    | some c =>
      let q := s.ringCq r
      if s.cqRoom q then
        if s.hostFree || s.standby then
          let p := s.devPos q
          let s := s.hostWrite q (posNext (s.ringSize q) p) (s.ringBase q + p % 65536 * 32) (recordBytes r l.head (1 - p / 65536 % 2) c)
          let s := s.set (Reg.RING_STATE q) Fld.RING_STATE_DEV_POS (posNext (s.ringSize q) p)
          let s := s.set (Reg.RING_STATE r) Fld.RING_STATE_DEV_POS l.head
          let s := s.setRing r { s.ring r with slots := rest }
          (if s.standby then s.setRing q { s.ring q with waiting := false } else s.cqWritten q).settleRing r
        else s
      else if (s.ring q).waiting then s
      else (s.setRing q { s.ring q with waiting := true }).raise Ev.RING_CQ_FULL q

/-- Data written to host memory for a ring (R328, R350). -/
def hostData (s : State) (r pos a : Nat) (bs : List Byte) : State :=
  s.each (hostPieces s.host.mps (bs.length / s.host.mps + 1) a bs) (fun s w => s.hostWrite r pos w.1 w.2 s.dataRo)

/-- Write bytes into the posted buffers of a delivery ring, one delivery record each; what is left waits (R360). -/
def fillBufs (s : State) (r prod : Nat) (first : Bool) : List PostedBuf → List Byte → State
  | [], bs => s.setRing r { s.ring r with bufs := [], cur := some (prod, bs) }
  | b :: t, bs =>
    let part := bs.take b.len
    let rest := bs.drop b.len
    let s := s.hostData r (((s.ring r).slots.find? (fun l => l.id == b.slot)).map (·.head) |>.getD 0) b.addr part
    let s := s.finish (.slot r b.slot)
      { first := first, last := rest.isEmpty, count := part.length, aux := prod + (s.ring r).dropped * 2 ^ 16 }
    let s := s.setRing r { s.ring r with dropped := 0, bufs := t, cur := none }
    if rest.isEmpty then s else s.fillBufs r prod false t rest

/-- Buffers that a message of `n` bytes needs, taken in order; none when they do not suffice. Log: 109 (DEDUCED). -/
def bufsFor : Nat → List PostedBuf → Bool
  | n, [] => n = 0
  | n, b :: t => if n ≤ b.len then true else bufsFor (n - b.len) t

/-- Unit-specific producers of a twin pair (R527). -/
def unitSpecific (p : Nat) : Bool := 0x08 ≤ p && p ≤ 0x14

/-- Messages of dropping producers that stand behind a message which waits for buffers find none free, and are dropped (R360). -/
def dropStuck (s : State) (r : Nat) : State :=
  let x := s.ring r
  let s := s.setRing r { x with msgs := x.msgs.filter (fun m => m.full == .waits) }
  s.each (x.msgs.filter (fun m => m.full != .waits)) (fun s m => s.dropMsg r m)

/-- The next message of a delivery ring, or the rest of the one being written (R360); a ring or channel that is PAUSED starts none (R339,
R366). Log: 114 (DEDUCED). -/
def deliverNext (s : State) (r : Nat) : State :=
  let x := s.ring r
  if s.ringState r = 0 ∨ s.ringState r = 3 then
    match x.cur, x.msgs with
    | some _, _ => s.setRing r { x with cur := none }
    | none, m :: t => (s.setRing r { x with msgs := t }).dropMsg r m
    | none, [] => s
  else if s.ringState r = 2 ∨ s.get (Reg.DMA_CH_STATUS (s.ringChannel r)) Fld.DMA_CH_STATUS_STATE = 2 then s
  else
    match x.cur with
    | some (p, bs) =>
      if x.bufs.isEmpty then s.dropStuck r
      else if !(s.hostFree || s.standby) then s
      else s.fillBufs r p false x.bufs bs
    | none =>
      match x.msgs with
      | [] => s
      | m :: t =>
        let room := !x.bufs.isEmpty && s.cqRoom (s.ringCq r)
        if s.standby && unitSpecific m.producer then (s.setRing r { x with msgs := t }).dropMsg r m
        else if !(s.hostFree || s.standby) then s
        else if m.full ≠ .waits ∧ !(room && bufsFor m.bytes.length x.bufs) then (s.setRing r { x with msgs := t }).dropMsg r m
        else if x.bufs.isEmpty then s.dropStuck r
        else
          let s := s.setRing r { x with msgs := t, alive := (x.alive + b2n m.alive.isSome) % 256 }
          s.fillBufs r m.producer true x.bufs (sealed m x.alive)

/-- Rings whose RING_STATE differs from reset and that satisfy a test. -/
def ringsWith (s : State) (p : Nat → Bool) : List Nat :=
  (s.regs.filter (fun c => Reg.RING_STATE 0 ≤ c.1 && c.1 < Reg.RING_STATE 16384 && (c.1 - Reg.RING_STATE 0) % 0x40 == 0)).map
    (fun c => (c.1 - Reg.RING_STATE 0) / 0x40) |>.filter p

/-- Does a completion ring own a ring that is not DISABLED (R341)? -/
def ownsLive (s : State) (q : Nat) : Bool :=
  !(s.ringsWith (fun r => s.ringState r ≠ 0 && s.ringType r ≠ 2 && s.ringCq r == q)).isEmpty

/-- The checks of ENABLE (R340): 0 passes, otherwise RING_STATE.CAUSE. -/
def enableCause (s : State) (r : Nat) : Nat :=
  let l := s.get (Reg.RING_CFG r) Fld.RING_CFG_LOG2SIZE
  let q := s.ringCq r
  if l < 4 ∨ 16 < l ∨ s.ringType r = 3 then 1
  else if s.ringType r = 2 then (if q = r then 1 else 0)
  else if !s.inHostWin r (s.ringBase r) (s.ringBase r + 64 * s.ringSize r) then 1
  else if !s.inHostWin r (s.ringBase q) (s.ringBase q + 32 * s.ringSize q) then 1
  else if s.ringType q ≠ 2 ∨ s.ringState q ≠ 1 then 1
  else if s.get (Reg.RING_DWIN_SIZE r) Fld.RING_DWIN_SIZE_MIB ≠ 0 ∧ !s.flag Reg.HBM_STATUS Fld.HBM_STATUS_ALL_TRAINED then 4
  else 0

/-- ENABLE of a DISABLED ring (R339, R340, R361): both positions and the alive counter start at 0. -/
def enableRing (s : State) (r : Nat) : State :=
  if s.ringState r ≠ 0 then s
  else
    let c := s.enableCause r
    if c ≠ 0 then s.set (Reg.RING_STATE r) Fld.RING_STATE_CAUSE c
    else
      let x := s.ring r
      let s := (s.wrN (Reg.RING_STATE r) (2 ^ 17)).wrN (Reg.RING_HOST_POS r) 0
      s.setRing r { slots := x.slots, xfer := x.xfer, nextId := x.nextId, doorbell := x.doorbell, dropped := x.dropped }

/-- PAUSE of an ACTIVE ring. -/
def pauseRing (s : State) (r : Nat) : State :=
  if s.ringState r = 1 then s.set (Reg.RING_STATE r) Fld.RING_STATE_STATE 2 else s

/-- RESUME of a PAUSED ring; what no command takes completes. -/
def resumeRing (s : State) (r : Nat) : State :=
  if s.ringState r = 2 then (s.set (Reg.RING_STATE r) Fld.RING_STATE_STATE 1).settleRing r else s

/-- DMA_CH_STATUS after a change: BUSY while a ring of the channel has a transfer, unless PAUSED. -/
def showChannel (s : State) (c : Nat) : State :=
  if s.get (Reg.DMA_CH_STATUS c) Fld.DMA_CH_STATUS_STATE = 2 then s
  else
    match s.host.rings.find? (fun x => x.2.xfer.isSome && s.ringChannel x.1 == c) with
    | some x => (s.set (Reg.DMA_CH_STATUS c) Fld.DMA_CH_STATUS_STATE 1).set (Reg.DMA_CH_STATUS c) Fld.DMA_CH_STATUS_RING x.1
    | none => s.set (Reg.DMA_CH_STATUS c) Fld.DMA_CH_STATUS_STATE 0

/-- A scan ends with a status after `n` bytes: it is no longer active, and is counted (R500). -/
def scanEnded (s : State) (st n : Nat) : State :=
  let s := s.set Reg.CRC_STATUS Fld.CRC_STATUS_ACTIVE (s.get Reg.CRC_STATUS Fld.CRC_STATUS_ACTIVE - 1)
  let s := if st = St.OK then s.count (Reg.CRC_COUNT 0) else if st = 0x0130 then s.count (Reg.CRC_COUNT 1)
    else if st = St.BAD_TIMEOUT ∨ st = St.BAD_BUS then s.count (Reg.CRC_COUNT 2) else s
  s.count (Reg.CRC_COUNT 3) (n / 1024)

/-- A load's bytes that have not been written (R356). -/
def loadResidue (l : BeamLoad) : Nat := 8 * (l.count - l.done)

/-- A completion ring on which no record of its rings waits any longer ends its run of waits (R359). -/
def endWaits (s : State) (q : Nat) : State :=
  let held := s.host.rings.any (fun x => s.ringType x.1 != 2 && s.ringCq x.1 == q && (x.2.slots.head?.bind (·.result)).isSome)
  if (s.ring q).waiting && !held then s.setRing q { s.ring q with waiting := false } else s

/-- Records that wait for a completion ring are discarded with its reset (R359). -/
def dropRecords (s : State) (q : Nat) : State :=
  s.each ((s.host.rings.map (·.1)).filter (fun r => s.ringType r != 2 && s.ringCq r == q)) (fun s r =>
    s.setRing r { s.ring r with slots := (s.ring r).slots.filter (fun l => l.result.isNone) })

/-- The record slot of a ring that a command answers to. -/
def ringSlot (r : Nat) : CmdRef → Option Nat
  | .slot a id => if a = r then some id else none
  | .exec _ => none

/-- The descriptor in progress at a reset (R342): its place with the RESET record, the transfer that still has to end, and the chain fetch's
read that it waits for. Log: 113 (DEDUCED). -/
def cutEntry (s : State) (r : Nat) : List RecSlot × Option Xfer :=
  let x := s.ring r
  let at_ (id n : Nat) (left : Nat) : List RecSlot := (x.slots.filter (fun l => l.id == id)).map (fun l =>
    { l with head := 0, result := some { tag := l.tag, status := St.RESET, cut := true, chained := l.chained, count := n, residue := left } })
  match x.xfer, s.beam.loads.findSome? (fun l => (ringSlot r l.ref).map (fun id => (id, l))) with
  | some t, _ =>
    match t.ref with
    | .slot _ id =>
      if t.busy.isSome then ((x.slots.filter (fun l => l.id == id)).map (fun l => { l with head := 0 }), some { t with cut := some St.RESET })
      else if t.begun then (at_ id t.done (t.total - t.done), none)
      else ([], none)
    | .exec _ => ([], none)
  | none, some (id, l) => (at_ id l.done (loadResidue l), none)
  | none, none =>
    if s.host.reads.any (fun q => q.use == .chain r (q.len / 64)) then ([⟨x.nextId, 0, 0, true, none⟩], none) else ([], none)

/-- RESET of a ring (R341–R343): the descriptor in progress, one whose bursts or fetches have begun, gets a RESET record with its residue,
after its outstanding read if it has one; everything else of the ring is discarded; both positions become 0. Log: 113 (DEDUCED). -/
def resetRing (s : State) (r : Nat) : State :=
  if s.ringState r = 0 then s
  else if s.ringType r = 2 then
    if s.ownsLive r then s.raise Ev.RING_CFG_BUSY r
    else
      let s := (s.dropRecords r).wrN (Reg.RING_STATE r) 0
      (s.wrN (Reg.RING_HOST_POS r) 0).setRing r { doorbell := (s.ring r).doorbell }
  else
    let x := s.ring r
    let keep := s.cutEntry r
    let use (q : HostReq) : HostReq := match q.use with
      | .entries a _ => if a = r then { q with use := .cut r x.nextId } else q
      | .chain a _ => if a = r then { q with use := .cut r x.nextId } else q
      | _ => q
    let s := s.each x.msgs (fun s m => s.dropMsg r m)
    let s : State := { s with
      host := { s.host with reads := s.host.reads.map use }
      beam := { s.beam with loads := s.beam.loads.filter (fun l => (ringSlot r l.ref).isNone) } }
    let s := (s.wrN (Reg.RING_STATE r) 0).wrN (Reg.RING_HOST_POS r) 0
    let s := s.setRing r { slots := keep.1, xfer := keep.2, nextId := x.nextId + 1, doorbell := x.doorbell, dropped := (s.ring r).dropped }
    let s := s.endWaits (s.ringCq r)
    match x.xfer with
    | some t =>
      if t.busy.isSome then s
      else (if t.scan then s.scanEnded St.RESET t.done else s).showChannel (s.ringChannel r)
    | none => s

/-- An MSI-X table entry; a vector is masked after reset. Log: 112 (DEDUCED). -/
def vector (s : State) (v : Nat) : Nat × Nat × Nat := (mapFind s.host.msix v).getD (0, 0, 1)

/-- A 32-bit word of BAR4: the MSI-X table, the Pending Bit Array, 0 elsewhere (R329). -/
def msixRead (s : State) (off : Nat) : Nat :=
  if off < 0x8000 then
    let (a, d, c) := s.vector (off / 16)
    match off / 4 % 4 with
    | 0 => a % 2 ^ 32
    | 1 => a / 2 ^ 32
    | 2 => d
    | _ => c
  else if off < 0x8100 then ((s.host.pba.filter (fun v => v / 32 == (off - 0x8000) / 4)).map (fun v => 2 ^ (v % 32))).sum
  else 0

/-- Send the pending messages that can leave now (R368). Log: 112 (DEDUCED). -/
def sendPending (s : State) : State :=
  let p := s.host.pba
  ({ s with host := { s.host with pba := [] } }).each p.reverse signal

/-- A 32-bit word written to the MSI-X table (R329); the Pending Bit Array is read-only. -/
def msixWord (s : State) (off v : Nat) : State :=
  if 0x8000 ≤ off then s
  else
    let n := off / 16
    let (a, d, c) := s.vector n
    let e := match off / 4 % 4 with
      | 0 => (a / 2 ^ 32 * 2 ^ 32 + v / 4 * 4, d, c)
      | 1 => (a % 2 ^ 32 + v * 2 ^ 32, d, c)
      | 2 => (a, v, c)
      | _ => (a, d, v % 2)
    ({ s with host := { s.host with msix := mapPut s.host.msix n e } }).sendPending

end State

open State

/-- MSIX_TABLE_WRITE (R329, R334, R368), and reads of BAR4: a 16-byte line of the BAR, which below 0x8000 is an entry of the table, and the
byte in it. -/
def execMsixTableWrite (line : Fin 4096) (byte : Fin 16) (access : BarAccess) (s : State) : Result :=
  let offset := 16 * line.val + byte.val
  let w := offset / 4 * 4
  ok (match access with
    | .write size value =>
      if size < 4 then s.narrowAccess 2 offset
      else if size = 8 then (s.msixWord w (value.toNat % 2 ^ 32)).msixWord (w + 4) (value.toNat / 2 ^ 32)
      else s.msixWord w (value.toNat % 2 ^ 32)
    | .read size =>
      if size = 8 then s.barAnswer (s.msixRead w + s.msixRead (w + 4) * 2 ^ 32) else s.barAnswer (barPart (s.msixRead w) (offset % 4) size))

/-- DOORBELL of a submission or delivery ring (R334–R338). -/
def execDoorbell (ring : Ring) (byte : Fin 8) (access : BarAccess) (s : State) : Result :=
  ok (if s.ringType ring = 2 then s else s.doorbellAccess ring byte access)

/-- CQ_DOORBELL: the host's new consumer position (R335). -/
def execCqDoorbell (ring : Ring) (byte : Fin 8) (access : BarAccess) (s : State) : Result :=
  ok (if s.ringType ring = 2 then s.doorbellAccess ring byte access else s)

/-- CQ_ARM: a 32-bit write of the upper word (R334, R368). -/
def execCqArm (ring : Ring) (byte : Fin 4) (write : BarWrite) (s : State) : Result :=
  ok (if write.size < 4 then s.narrowAccess 1 (8 * ring + 4 + byte) else s.upperWrite ring write.value.toNat)

/-- COMPLETION_RECORD_WRITE (R332, R356, R358, R359, R368). -/
def execCompletionRecordWrite (ring : Ring) (s : State) : Result := ok (s.writeRecord ring)

/-- DELIVERY_MESSAGE (R359–R361, R526, R527). -/
def execDeliveryMessage (ring : Ring) (s : State) : Result := ok (s.deliverNext ring)

/-- CQ_COALESCE_TIMEOUT (R368): TIME_US after the first record since ARM. -/
def execCqCoalesceTimeout (ring : Ring) (s : State) : Result :=
  let x := s.ring ring
  ok (if x.armed ∧ x.since ≠ 0 ∧ s.get (Reg.RING_CQ ring) Fld.RING_CQ_TIME_US ≠ 0 ∧ s.get (Reg.RING_CQ ring) Fld.RING_CQ_COUNT ≠ 0 then
        (s.setRing ring { x with armed := false, since := 0 }).signal (s.get (Reg.RING_CQ ring) Fld.RING_CQ_VECTOR)
      else s)

/-- RING_ENABLE (R339, R340). -/
def execRingEnable (ring : Ring) (s : State) : Result := ok (if s.served then s.enableRing ring else s)

/-- RING_PAUSE (R339). -/
def execRingPause (ring : Ring) (s : State) : Result := ok (if s.served then s.pauseRing ring else s)

/-- RING_RESUME (R337, R339). -/
def execRingResume (ring : Ring) (s : State) : Result := ok (if s.served then s.resumeRing ring else s)

end Sys2Proof.Machine
end

