-- ==== Sys2Proof/Machine/Dma.lean ====
section
/-! DEFINITION. DMA channels: fetching descriptors, LINK and chains, COPY and the bursts of a transfer, host read
completions and timeouts, aborts (spec/13_host_rings_and_dma.md). -/

namespace Sys2Proof.Machine

namespace State

/-! ### Host reads -/

/-- The first of the 768 tags from a number on that no read holds. Log: 104 (DESIGN CHOICE). -/
def tagFrom (s : State) : Nat → Nat → Nat
  | 0, n => n
  | fuel + 1, n => if s.host.reads.any (fun q => q.tag == n) || s.host.lateTags.contains n then s.tagFrom fuel ((n + 1) % 768) else n

/-- The tag of the next host read. Log: 104 (DESIGN CHOICE). -/
def newTag (s : State) : Nat := s.tagFrom 768 s.host.nextTag

/-- Issue a host read; at most 768 are outstanding (R328). -/
def hostRead (s : State) (addr len : Nat) (use : ReadUse) (ro : Bool := false) : State :=
  { s with host := { s.host with nextTag := (s.newTag + 1) % 768, reads := s.host.reads ++ [⟨s.newTag, addr, len, use, ro⟩] } }

/-- Can another host read be issued?. Log: 104 (DESIGN CHOICE). -/
def tagFree (s : State) : Bool := decide (s.host.reads.length + s.host.lateTags.length < 768)

/-- Open a record for an event of the chain itself: TAG 0, CHAINED, after the ring's LINK entry; the chain ends (R355). -/
def endChain (s : State) (r st : Nat) : State :=
  let x := s.ring r
  match x.chain with
  | none => s
  | some c =>
    s.setRing r { x with
      chain := none
      queue := x.queue.filter (fun q => !q.chained)
      nextId := x.nextId + 1
      slots := x.slots ++ [⟨x.nextId, c.nextPos, 0, true, some { status := st, chained := true }⟩] }

/-- Entries from an address to the end of its 4 KiB page, which a host read does not cross. -/
def pageEntries (addr : Nat) : Nat := (4096 - addr % 4096) / 64

/-- Fetch up to `n` entries in one read of at most Max Read Request Size (R328, R336): inside a chain from its next address (R353, R355), else
posted ring entries. Log: 108 (PRESUMED). -/
def fetch (s : State) (r n : Nat) : State :=
  let x := s.ring r
  let n := min n (s.host.mrrs / 64)
  if s.ringState r ≠ 1 ∨ s.ringType r = 2 ∨ x.fetching ∨ !s.tagFree ∨ !(s.hostFree || s.standby) ∨ n = 0
      ∨ s.get (Reg.DMA_CH_STATUS (s.ringChannel r)) Fld.DMA_CH_STATUS_STATE = 2 then s
  else
    match x.chain with
    | some c =>
      if x.queue.any (·.chained) then s
      else if !s.inHostWin r c.addr (c.addr + 64) then s.endChain r St.BAD_BOUNDS
      else
        let m := ((List.range (min n (pageEntries c.addr))).filter (fun i => s.inHostWin r c.addr (c.addr + 64 * (i + 1)))).length
        (s.setRing r { x with fetching := true }).hostRead c.addr (64 * m) (.chain r m)
    | none =>
      let size := s.ringSize r
      let posted := posDiff size (s.hostPos r) x.fetchPos
      let m := min (min n (pageEntries (64 * (x.fetchPos % 65536)))) (min posted (size - x.fetchPos % 65536))
      if m = 0 then s
      else (s.setRing r { x with fetching := true }).hostRead (s.ringBase r + 64 * (x.fetchPos % 65536)) (64 * m) (.entries r m)

end State

/-- The `n`-th position after a position. -/
def posStep (size : Nat) : Nat → Nat → Nat
  | p, 0 => p
  | p, n + 1 => posStep size (posNext size p) n

/-- Entries of a fetch: 64 bytes each, at consecutive ring positions; a version 1 descriptor is read in version 2's layout.
Log: 108 (PRESUMED). -/
def entriesOf (size : Nat) (chained ewesen : Bool) : Nat → List (List Byte) → List Entry
  | _, [] => []
  | p, d :: t =>
    let b := if ewesen && descVersion d == 1 then descFromV1 d else d
    ⟨b, p, posNext size p, chained⟩ :: entriesOf size chained ewesen (posNext size p) t

namespace State

/-- The bytes of a descriptor fetch arrive. -/
def fetched (s : State) (r : Nat) (chained : Bool) (bs : List Byte) : State :=
  let x := s.ring r
  let es := entriesOf (s.ringSize r) chained s.ewesen x.fetchPos (pieces 64 bs.length bs)
  (if chained then
    s.setRing r { x with
      fetching := false
      queue := es ++ x.queue
      chain := x.chain.map (fun c => { c with addr := c.addr + 64 * es.length }) }
   else
    s.setRing r { x with fetching := false, fetchPos := posStep (s.ringSize r) x.fetchPos es.length, queue := x.queue ++ es }).settleRing r

/-- A fetch fails: a chain ends with the status (R355); a ring's first entry of the fetch completes with it, TAG 0. Log: 105 (DEDUCED). -/
def fetchFailed (s : State) (r : Nat) (chained : Bool) (st : Nat) : State :=
  let x := s.ring r
  let s := s.setRing r { x with fetching := false }
  if chained then s.endChain r st
  else
    let p := posNext (s.ringSize r) x.fetchPos
    s.setRing r { x with
      fetching := false
      fetchPos := p
      nextId := x.nextId + 1
      slots := x.slots ++ [⟨x.nextId, p, 0, false, some { status := st }⟩] }

/-! ### COPY (R347–R350) -/

end State

/-- One pattern of a COPY: space, base, line (0 contiguous), stride. -/
structure Pattern where
  hbm : Bool
  base : Nat
  line : Nat
  stride : Int
deriving DecidableEq, Repr

/-- The source and destination patterns of a COPY descriptor (R347). -/
def srcPattern (d : List Byte) : Pattern :=
  ⟨bitAt (byteAt d 3) 0, fieldAt d 16 8, fieldAt d 32 4 % 2 ^ 25, toS 32 (fieldAt d 36 4)⟩
def dstPattern (d : List Byte) : Pattern :=
  ⟨bitAt (byteAt d 3) 1, fieldAt d 24 8, fieldAt d 40 4 % 2 ^ 25, toS 32 (fieldAt d 44 4)⟩

/-- Lines of a pattern over `len` bytes. -/
def Pattern.lines (p : Pattern) (len : Nat) : Nat := if p.line = 0 ∨ len ≤ p.line then 1 else ceilDiv len p.line

/-- The extent [lo, hi) of a pattern (R348). -/
def Pattern.extent (p : Pattern) (len : Nat) : Int × Int :=
  if p.line = 0 ∨ len ≤ p.line then ((p.base : Int), p.base + len)
  else
    let n := ceilDiv len p.line
    let last := len - (n - 1) * p.line
    let z : Int := p.base + ((n - 1 : Nat) : Int) * p.stride
    (min (p.base : Int) z, max (max ((p.base : Int) + p.line) (z - p.stride + p.line)) (z + last))

/-- Address of byte `m` of the transfer (R347). -/
def Pattern.addr (p : Pattern) (m : Nat) : Nat :=
  if p.line = 0 then p.base + m else ((p.base : Int) + (m / p.line : Nat) * p.stride + (m % p.line : Nat)).toNat

/-- Bytes from byte `m` to the end of its line; a contiguous pattern has one line. -/
def Pattern.lineLeft (p : Pattern) (len m : Nat) : Nat := if p.line = 0 then len - m else min (len - m) (p.line - m % p.line)

namespace State

/-- Does a pattern's extent lie in the window of its space? -/
def patternFits (s : State) (r len : Nat) (p : Pattern) : Bool :=
  let (lo, hi) := p.extent len
  decide (0 ≤ lo) && (if p.hbm then decide (hi ≤ 2 ^ 40) && s.inDevWin r lo.toNat hi.toNat
    else decide (hi ≤ 2 ^ 64) && s.inHostWin r lo.toNat hi.toNat)

/-- The checks of R348 in order; in Ewesen mode a pattern with lines is refused (R566). Log: 118 (DEDUCED). -/
def copyCheck (s : State) (r : Nat) (d : List Byte) : Option Nat :=
  let len := fieldAt d 4 4
  let a := srcPattern d
  let b := dstPattern d
  if len = 0 then some St.BAD_LENGTH
  else if s.ewesen ∧ (fieldAt d 32 4 ≠ 0 ∨ fieldAt d 40 4 ≠ 0) then some St.BAD_PATTERN
  else if 2 ^ 24 < a.line ∨ 2 ^ 24 < b.line ∨ 2 ^ 20 < a.lines len ∨ 2 ^ 20 < b.lines len then some St.BAD_PATTERN
  else if s.patternFits r len a && s.patternFits r len b then none
  else some St.BAD_BOUNDS

end State

namespace State

/-- Bytes of a transfer written at their destination (R350). Log: 117 (DEDUCED). -/
def putDest (s : State) (r : Nat) (p : Pattern) (m : Nat) (bs : List Byte) : State :=
  if p.hbm then s.hbmStore 5 (p.addr m) bs
  else s.hostData r (((s.ring r).slots.getLast?.map (·.head)).getD 0) (p.addr m) bs

/-- A channel outside its registers. -/
def chan (s : State) (c : Nat) : DmaChSt := (mapFind s.host.chans c).getD {}

/-- Replace it. -/
def setChan (s : State) (c : Nat) (x : DmaChSt) : State :=
  { s with host := { s.host with chans := mapSet {} s.host.chans c x } }

/-- The last transfer that an abort had to end is gone: residue, event and count (R366, R367). -/
def abortDone (s : State) (c : Nat) : State :=
  let x := s.chan c
  if x.abortOpen && x.aborting.isEmpty then
    let s := s.wrN (Reg.DMA_CH_RESIDUE c) (satU 32 x.residue)
    let s := (s.raise Ev.DMA_ABORT (x.lowest + c * 2 ^ 14)).count (Reg.DMA_COUNT 4)
    s.setChan c { x with abortOpen := false, residue := 0, lowest := 0x3FFF }
  else s

/-- A transfer ends with a status; COUNT holds the bytes done and RESIDUE the rest, as its status asks (R356). Log: 113 (DEDUCED). -/
def endXfer (s : State) (r : Nat) (t : Xfer) (st : Nat) : State :=
  let c := s.ringChannel r
  let full := st = St.OK ∨ st = 0x0130
  let s := s.setRing r { s.ring r with xfer := none }
  let s := s.finish t.ref
    { status := st, cut := st = St.ABORTED ∨ st = St.RESET, count := t.done,
      residue := if full then 0 else t.total - t.done, aux := if t.scan then t.acc else 0 }
  let s := if t.scan then s.scanEnded st t.done else s
  let x := s.chan c
  let s := if x.aborting.contains r then
      let hit := st = St.ABORTED
      s.setChan c { x with aborting := x.aborting.filter (· ≠ r)
                           lowest := if hit then min x.lowest r else x.lowest
                           residue := if hit then x.residue + (t.total - t.done) else x.residue }
    else s
  ((s.abortDone c).showChannel c).settleRing r

/-- A transfer moved `n` more bytes: it ends when cut or whole, and goes on otherwise. -/
def moved (s : State) (r : Nat) (t : Xfer) (n : Nat) : State :=
  let t := { t with done := t.done + n, busy := none }
  match t.cut with
  | some st => s.endXfer r t st
  | none =>
    if t.total ≤ t.done then s.endXfer r t (if t.short then 0x0130 else St.OK)
    else s.setRing r { s.ring r with xfer := some t }

/-- A burst failed: counted, raised, and the descriptor ends (R364, R365). -/
def burstFailed (s : State) (r : Nat) (t : Xfer) (st : Nat) : State :=
  let d := r + s.ringChannel r * 2 ^ 14
  let s := if st = St.BAD_TIMEOUT then (s.count (Reg.DMA_COUNT 0)).raise Ev.DMA_TIMEOUT d
    else (s.count (Reg.DMA_COUNT 1)).raise Ev.DMA_BUS d
  s.endXfer r t (t.cut.getD st)

/-- Source pattern of a transfer: a COPY's, or the contiguous region of a CRC_SCAN (R498). -/
def xferSource (t : Xfer) : Pattern :=
  if t.scan then ⟨bitAt (byteAt t.desc 37) 0, fieldAt t.desc 16 8, 0, 0⟩ else srcPattern t.desc

/-- Data of the current burst: written at the destination, or added to the scan's check value (R350, R500). -/
def burstData (s : State) (r : Nat) (t : Xfer) (bs : List Byte) : State :=
  if t.scan then s.moved r { t with acc := (CheckKind.ofCode (byteAt t.desc 36 % 4)).extend t.acc bs } bs.length
  else
    let p := dstPattern t.desc
    if p.hbm ∧ hbmSize < p.addr t.done + bs.length then
      (s.decodeError (1 + s.ringChannel r / 16) 0 (p.addr t.done) true).burstFailed r t St.BAD_BUS
    else (s.putDest r p t.done bs).moved r t bs.length

/-- Bytes of the next burst (R328, R349, R362): at most 4 KiB, in one source and one destination line and page; a host source is read in one
request of at most Max Read Request Size that begins at a multiple of 64. -/
def burstLen (s : State) (t : Xfer) : Nat :=
  let a := xferSource t
  let n := min 4096 (a.lineLeft t.total t.done)
  let n := if a.hbm then n else min (min n (4096 - a.addr t.done % 4096)) (s.host.mrrs - a.addr t.done % 64)
  if t.scan then n
  else
    let b := dstPattern t.desc
    min (min n (b.lineLeft t.total t.done)) (4096 - b.addr t.done % 4096)

/-- The next ring of a channel in round-robin order whose transfer can issue a burst (R362); a HALTED ring is not served.
Log: 111 (DESIGN CHOICE). -/
def nextXfer (s : State) (c : Nat) : Option (Nat × Xfer) :=
  let ready := s.host.rings.filterMap (fun x =>
    match x.2.xfer with
    | some t => if s.ringChannel x.1 = c ∧ t.busy.isNone ∧ s.ringState x.1 ≠ 3 then some (x.1, t) else none
    | none => none)
  match ready.find? (fun x => x.1 > (s.chan c).lastRing) with
  | some x => some x
  | none => ready.head?

/-- One burst of a channel (R362, R363), `elapsed` ns after the bucket was last filled: RATE / 1,024 of 96 bytes a nanosecond have come.
Log: 111 (DESIGN CHOICE). -/
def burst (s : State) (c elapsed : Nat) : State :=
  let cfg := Reg.DMA_CH_CFG c
  let depth := max 1 (s.get cfg Fld.DMA_CH_CFG_BURST) * 4096 * 1024
  let x := s.chan c
  let s := s.setChan c { x with tokens := min depth (x.tokens + elapsed * 96 * max 1 (s.get cfg Fld.DMA_CH_CFG_RATE)) }
  if s.get (Reg.DMA_CH_STATUS c) Fld.DMA_CH_STATUS_STATE = 2 then s
  else
    match s.nextXfer c with
    | none => s
    | some (r, t) =>
      let n := s.burstLen t
      let limited := s.get cfg Fld.DMA_CH_CFG_RATE < 1024
      let toHost := !t.scan && !(dstPattern t.desc).hbm
      let a := xferSource t
      if limited ∧ (s.chan c).tokens < n * 1024 then s
      else if (toHost || !a.hbm) && !(s.hostFree || s.standby) then s
      else
        let x := s.chan c
        let s := s.setChan c { x with lastRing := r, tokens := if limited then x.tokens - n * 1024 else x.tokens }
        let t := { t with begun := true }
        if a.hbm then
          if hbmSize < a.addr t.done + n then
            (s.decodeError (1 + c / 16) 0 (a.addr t.done) false).burstFailed r t St.BAD_BUS
          else if s.poisoned (a.addr t.done / 64 * 64) ((a.addr t.done + n + 63) / 64 * 64 - a.addr t.done / 64 * 64) then
            s.burstFailed r t St.BAD_BUS
          else s.burstData r t (s.hbmRead (a.addr t.done) n)
        else if s.tagFree then
          let at_ := a.addr t.done
          let len := (at_ + n + 63) / 64 * 64 - at_ / 64 * 64
          (s.setRing r { s.ring r with xfer := some { t with busy := some s.newTag } }).hostRead (at_ / 64 * 64) len (.burst r n) s.dataRo
        else s

/-- Remove an outstanding read. -/
def dropRead (s : State) (tag : Nat) : State :=
  { s with host := { s.host with reads := s.host.reads.filter (fun q => q.tag != tag) } }

/-- What an answer to a host read does. -/
def answered (s : State) (q : HostReq) (a : HostRead) : State :=
  let s := s.dropRead q.tag
  let good := match a with
    | .data bs => if bs.length = q.len then some bs else none
    | _ => none
  let st := if a = .timeout then St.BAD_TIMEOUT else St.BAD_BUS
  match q.use with
  | .entries r _ =>
    match good with
    | some bs => s.fetched r false bs
    | none => (if st = St.BAD_TIMEOUT then (s.count (Reg.DMA_COUNT 0)).raise Ev.DMA_TIMEOUT (r + s.ringChannel r * 2 ^ 14)
        else (s.count (Reg.DMA_COUNT 1)).raise Ev.DMA_BUS (r + s.ringChannel r * 2 ^ 14)).fetchFailed r false st
  | .chain r _ =>
    match good with
    | some bs => s.fetched r true bs
    | none => (if st = St.BAD_TIMEOUT then (s.count (Reg.DMA_COUNT 0)).raise Ev.DMA_TIMEOUT (r + s.ringChannel r * 2 ^ 14)
        else (s.count (Reg.DMA_COUNT 1)).raise Ev.DMA_BUS (r + s.ringChannel r * 2 ^ 14)).fetchFailed r true st
  | .cut r id =>
    let d := r + s.ringChannel r * 2 ^ 14
    let s := if a = .timeout then (s.count (Reg.DMA_COUNT 0)).raise Ev.DMA_TIMEOUT d else s
    (s.finish (.slot r id) { status := St.RESET, cut := true }).settleRing r
  | .burst r n =>
    match (s.ring r).xfer with
    | some t =>
      if t.busy = some q.tag then
        match good with
        | some bs => s.burstData r t ((bs.drop ((xferSource t).addr t.done % 64)).take n)
        | none => s.burstFailed r t st
      else s
    | none => s
  | .matrix m got left =>
    match good with
    | none => s.respond m none
    | some bs =>
      if left = 0 then s.respond m (some (got ++ bs))
      else s.hostRead (q.addr + q.len) (min s.host.mrrs left) (.matrix m (got ++ bs) (left - min s.host.mrrs left)) q.ro

/-- A delivery message that waits for buffers is closed by a record of its own (R366); the rest of it is discarded.
Log: 110 (DEDUCED), 227 (DESIGN CHOICE). -/
def abortMessage (s : State) (r : Nat) : State :=
  let x := s.ring r
  match x.cur with
  | some (p, bs) =>
    s.setRing r { x with
      cur := none
      nextId := x.nextId + 1
      slots := x.slots ++ [⟨x.nextId, (x.slots.getLast?.map (·.head)).getD (s.devPos r), 0, false,
        some { status := St.ABORTED, cut := true, last := true, residue := bs.length, aux := p + x.dropped * 2 ^ 16 }⟩]
      dropped := 0 }
  | none => s

/-- A BEAM_LOAD ends after the bytes that it has taken (R366). Log: 110 (DEDUCED). -/
def abortLoad (s : State) (l : BeamLoad) : State :=
  ({ s with beam := { s.beam with loads := s.beam.loads.filter (fun x => x.ref != l.ref) } } : State).finish l.ref
    { status := St.ABORTED, cut := true, count := l.done, residue := loadResidue l }

/-- ABORT of a channel (R366, R367): transfers that have issued a burst end after it; a delivery message being written is
cut; the channel pauses. Log: 110 (DEDUCED). -/
def abortChannel (s : State) (c : Nat) : State :=
  if (s.chan c).abortOpen then s
  else
    let mine := s.host.rings.filter (fun x => s.ringChannel x.1 == c)
    let under := mine.filter (fun x => match x.2.xfer with
      | some t => t.begun
      | none => false)
    let cutMsgs := mine.filter (fun x => x.2.cur.isSome)
    let loads := s.beam.loads.filter (fun l => s.ringChannel l.ring == c)
    let lost := (cutMsgs.map (fun x => match x.2.cur with
      | some (_, bs) => bs.length
      | none => 0)).sum + (loads.map loadResidue).sum
    let s := s.set (Reg.DMA_CH_STATUS c) Fld.DMA_CH_STATUS_STATE 2
    let s := (s.each cutMsgs (fun s x => s.abortMessage x.1)).each loads abortLoad
    let s := s.setChan c { s.chan c with
      abortOpen := true
      aborting := under.map (·.1)
      lowest := (cutMsgs.map (·.1) ++ loads.map (·.ring)).foldl min 0x3FFF
      residue := lost }
    let s := s.each under (fun s x =>
      match (s.ring x.1).xfer with
      | some t =>
        if t.busy.isSome then s.setRing x.1 { s.ring x.1 with xfer := some { t with cut := some St.ABORTED } }
        else s.endXfer x.1 t St.ABORTED
      | none => s)
    s.abortDone c

/-- RESUME of a channel (R366): a PAUSED one returns to service, and what no command takes on its rings completes. -/
def resumeChannel (s : State) (c : Nat) : State :=
  if s.get (Reg.DMA_CH_STATUS c) Fld.DMA_CH_STATUS_STATE = 2 then
    let s := (s.set (Reg.DMA_CH_STATUS c) Fld.DMA_CH_STATUS_STATE 0).showChannel c
    s.each ((s.host.rings.map (·.1)).filter (fun r => s.ringChannel r == c)) settleRing
  else s

/-- LINK (R353–R355): it starts a chain from the ring, or jumps inside one. Log: 106 (DEDUCED). -/
def followLink (s : State) (r : Nat) : State :=
  match s.nextEntry r with
  | none => s
  | some e =>
    let x := s.ring r
    if descOpcode e.bytes ≠ 0x02 ∨ (s.badStatus r e.bytes).isSome ∨ !s.canStart r then s
    else
      let addr := fieldAt e.bytes 16 8
      let rest := (x.queue.drop 1).filter (fun q => !q.chained)
      let places := match x.chain with
        | some c => (c.linkPos, c.nextPos)
        | none => (e.pos, e.head)
      let record := fun (s : State) (st : Nat) => s.setRing r { s.ring r with
        chain := none
        queue := rest
        nextId := x.nextId + 1
        slots := x.slots ++ [⟨x.nextId, places.2, descTag e.bytes, e.chained,
          some { status := st, tag := descTag e.bytes, chained := e.chained }⟩] }
      if 4096 < x.links + 1 then
        (((record s St.RUNAWAY).haltRing r 3).raise Ev.RING_RUNAWAY r).count (Reg.DMA_COUNT 3)
      else if addr % 64 ≠ 0 then (record s St.BAD_PARAM).settleRing r
      else if !s.inHostWin r addr (addr + 64) then (record s St.BAD_BOUNDS).settleRing r
      else s.setRing r { x with chain := some ⟨addr, places.1, places.2⟩, queue := rest, links := x.links + 1 }

/-- NOP (R345, R353): inside a chain it writes no record unless it ends the chain. -/
def doNop (s : State) (r : Nat) : State :=
  match s.nextEntry r with
  | none => s
  | some e =>
    if descOpcode e.bytes ≠ 0x03 ∨ (s.badStatus r e.bytes).isSome ∨ !s.canStart r then s
    else if e.chained && !descChainEnd e.bytes then
      (s.setRing r { s.ring r with queue := (s.ring r).queue.drop 1, links := 0 }).settleRing r
    else
      let (id, s) := s.openSlot r e
      (s.finishSt (.slot r id) St.OK).settleRing r

end State

open State

/-- DESCRIPTOR_FETCH (R336, R344, R353, R355). -/
def execDescriptorFetch (ring : Ring) (count : Fin 9) (s : State) : Result := ok (s.fetch ring count)

/-- COPY (R347, R348): the checks, then a transfer that DMA_BURST carries out. -/
def execCopy (ring : Ring) (s : State) : Result :=
  ok (s.command (.ring ring) 0x01 (fun ref d r s =>
    match s.copyCheck r d with
    | some st => s.finishSt ref st
    | none => (s.setRing r { s.ring r with xfer := some { ref := ref, desc := d, scan := false, total := fieldAt d 4 4 } }).showChannel
        (s.ringChannel r)))

/-- LINK (R353–R355). Log: 106 (DEDUCED), 107 (DESIGN CHOICE). -/
def execLink (ring : Ring) (s : State) : Result := ok (s.followLink ring)

/-- NOP (R345). -/
def execNop (ring : Ring) (s : State) : Result := ok (s.doNop ring)

/-- BUFFER (R360): a free buffer of a delivery ring, if its size and place are right. Log: 107 (DESIGN CHOICE). -/
def execBuffer (ring : Ring) (s : State) : Result :=
  ok (s.command (.ring ring) 0x05 (fun ref d r s =>
    let a := fieldAt d 16 8
    let n := fieldAt d 24 4
    if n < 64 ∨ 16777216 < n ∨ n % 8 ≠ 0 then s.finishSt ref St.BAD_LENGTH
    else if !s.inHostWin r a (a + n) then s.finishSt ref St.BAD_BOUNDS
    else match ref with
      | .slot _ id => s.setRing r { s.ring r with bufs := (s.ring r).bufs ++ [⟨id, a, n⟩] }
      | .exec _ => s))

/-- DMA_BURST (R349, R350, R362, R363). -/
def execDmaBurst (channel : DmaCh) (elapsed : Nat) (s : State) : Result := ok (s.burst channel elapsed)

/-- HOST_READ_COMPLETION (R364, R365): a completion after its timeout is discarded and counted. -/
def execHostReadCompletion (tag : Nat) (answer : HostRead) (s : State) : Result :=
  ok (if s.host.lateTags.contains tag then
        ({ s with host := { s.host with lateTags := s.host.lateTags.filter (· ≠ tag) } }).count (Reg.DMA_COUNT 2)
      else match s.host.reads.find? (fun q => q.tag == tag) with
        | some q => s.answered q answer
        | none => s)

/-- COMPLETION_TIMEOUT (R364): CTO_MS after the read, or after its timeout, whereupon the tag may be used again.
Log: 104 (DESIGN CHOICE). -/
def execCompletionTimeout (tag : Nat) (s : State) : Result :=
  ok (if s.host.lateTags.contains tag then { s with host := { s.host with lateTags := s.host.lateTags.filter (· ≠ tag) } }
      else match s.host.reads.find? (fun q => q.tag == tag) with
        | some q => ({ s with host := { s.host with lateTags := s.host.lateTags ++ [tag] } }).answered q .timeout
        | none => s)

/-- DMA_CH_RESUME (R366). -/
def execDmaChResume (channel : DmaCh) (s : State) : Result := ok (if s.served then s.resumeChannel channel else s)

end Sys2Proof.Machine
end

