-- ==== Sys2Proof/Machine/Geometry.lean ====
section
/-! DEFINITION. The geometry of a committed configuration: positions, planes and inputs, channels and zoom slots, streams, and the
times of sheaf indices (spec/03 to spec/06, R45, R502, R511, R514). -/

namespace Sys2Proof.Machine

namespace State

/-! ### Inputs (R86) -/

/-- N of the array, C and B. -/
def nAll (s : State) : Nat := s.get Reg.INGEST_GEOM Fld.INGEST_GEOM_N
def cAll (s : State) : Nat := s.get Reg.INGEST_GEOM Fld.INGEST_GEOM_C
def bHz (s : State) : Nat := s.full Reg.INGEST_RATE

/-- Planes ingested directly: plane 0, or planes 0 and 1 of a single device with N = 8,192, or the weave position's. A single device with any other
N above 4,096 takes planes 0 and 1 too. Log: 212 (DESIGN CHOICE). -/
def directPlanes (s : State) : List Nat :=
  if s.mode = 0 then (if 4096 < s.nAll then [0, 1] else [0]) else [s.pos]

/-- Planes whose inputs the device holds, ascending: its own, and those forwarded to it (R511, R514). -/
def heldPlanes (s : State) : List Nat :=
  if s.mode = 0 then s.directPlanes
  else if s.mode = 1 then [0, 1]
  else (List.range 4).filter (fun q => q != (s.pos + 3) % 4)

/-- Inputs of one plane. -/
def planeSize (s : State) : Nat := if s.mode = 0 ∧ s.nAll ≤ 4096 then s.nAll else 4096

/-- Lowest plane ingested directly. -/
def p0 (s : State) : Nat := s.directPlanes.headD 0

/-- Direct inputs N_d, and inputs that the device correlates. -/
def nDirect (s : State) : Nat := s.directPlanes.length * s.planeSize
def nHeld (s : State) : Nat := s.heldPlanes.length * s.planeSize

/-- Global input of a held input, in ascending order. -/
def heldInput (s : State) (h : Nat) : Nat := s.heldPlanes.getD (h / s.planeSize) 0 * 4096 + h % s.planeSize

/-- Is a global input direct, or held? -/
def isDirect (s : State) (g : Nat) : Bool := s.directPlanes.contains (g / 4096) && decide (g % 4096 < s.planeSize)
def isHeld (s : State) (g : Nat) : Bool := s.heldPlanes.contains (g / 4096) && decide (g % 4096 < s.planeSize)

/-- First held input that is direct: the direct inputs lie together among the held ones. -/
def directAt (s : State) : Nat := (s.heldPlanes.findIdx (fun p => p == s.p0)) * s.planeSize

/-- The part of a list over held inputs that belongs to direct inputs. -/
def directPart {α : Type} (s : State) (l : List α) : List α := (l.drop s.directAt).take s.nDirect

/-- 8+8 correlation mode (R104), and bytes of a committed sample. -/
def width8 (s : State) : Bool := s.flag Reg.INGEST_CTL Fld.INGEST_CTL_WIDTH8
def sampleBytes (s : State) : Nat := if s.width8 then 2 else 1

/-- First sheaf index on every channel. -/
def startIndex (s : State) : Nat := s.full Reg.INGEST_START_LO + s.get Reg.INGEST_START_HI Fld.INGEST_START_HI_START * 2 ^ 32

/-- EPOCH in 2^-16 ns (R93). -/
def epochUnits (s : State) : Nat :=
  (Stamp.mk (s.full Reg.INGEST_EPOCH_SEC_LO + s.get Reg.INGEST_EPOCH_SEC_HI Fld.INGEST_EPOCH_SEC_HI_SEC * 2 ^ 32)
    (s.full Reg.INGEST_EPOCH_NS) (s.get Reg.INGEST_EPOCH_SEC_HI Fld.INGEST_EPOCH_SEC_HI_FRAC_NS)).units

/-! ### Zoom slots (R109, R110, R134) -/

/-- The harrow is enabled. -/
def harrowOn (s : State) : Bool := s.flag Reg.HARROW_CFG Fld.HARROW_CFG_ENABLE

/-- M and TAPS. -/
def fineM (s : State) : Nat := 2 ^ s.get Reg.HARROW_CFG Fld.HARROW_CFG_LOG2M
def fineTaps (s : State) : Nat := if s.ewesen then 4 else 4 * (s.get Reg.HARROW_CFG Fld.HARROW_CFG_TAPS + 1)

/-- An enabled slot. -/
def zoomOn (s : State) (z : Nat) : Bool := s.harrowOn && s.flag (Reg.HARROW_ZOOM z) Fld.HARROW_ZOOM_ENABLE

/-- The coarse channel of a slot. -/
def zoomCoarse (s : State) (z : Nat) : Nat := s.get (Reg.HARROW_ZOOM z) Fld.HARROW_ZOOM_COARSE

/-- Enabled slots, ascending. -/
def zoomSlots (s : State) : List Nat := (List.range 64).filter s.zoomOn

/-- Z: the highest enabled slot number + 1. -/
def zoomTop (s : State) : Nat := (s.zoomSlots.getLast?.map (· + 1)).getD 0

/-- The slot that a coarse channel is routed to. -/
def slotOf (s : State) (c : Nat) : Option Nat := s.zoomSlots.find? (fun z => s.zoomCoarse z == c)

/-- Does a coarse channel reach the correlation branch under its own index (R111)? -/
def coarseCorr (s : State) (c : Nat) : Bool := match s.slotOf c with
  | some z => s.flag (Reg.HARROW_ZOOM z) Fld.HARROW_ZOOM_KEEP_COARSE
  | none => true

/-- Slot and fine-channel number of a fine channel index. -/
def fineSlot (s : State) (ch : Nat) : Nat := (ch - s.cAll) / s.fineM
def fineNum (s : State) (ch : Nat) : Nat := (ch - s.cAll) % s.fineM

/-- A channel index that carries a correlated channel (R152). -/
def isCorr (s : State) (ch : Nat) : Bool :=
  if ch < s.cAll then s.coarseCorr ch else decide (ch < 4096) && s.zoomOn (s.fineSlot ch)

/-- The correlated channels, ascending; a channel's place is its slot number u. -/
def corrChans (s : State) : List Nat := (List.range (s.cAll + s.zoomTop * s.fineM)).filter s.isCorr

/-- Slot number u of a correlated channel. -/
def slotU (s : State) (ch : Nat) : Nat := s.corrChans.findIdx (fun c => c == ch)

/-- Sheaf indices from one sheaf of a channel to the next. -/
def chanStep (s : State) (ch : Nat) : Nat := if ch < s.cAll then 1 else s.fineM

/-- First frame of every slot: the first frame boundary at or after INGEST_START (R125). Log: 37 (DEDUCED). -/
def firstFrame (s : State) : Nat := ceilDiv s.startIndex s.fineM

/-- Index of a channel's first sheaf (R137). Log: 37 (DEDUCED). -/
def firstIndex (s : State) (ch : Nat) : Nat :=
  if ch < s.cAll then s.startIndex else s.firstFrame * s.fineM + s.fineM - 1

/-- Position of a sheaf in its channel's sequence, and its inverse. -/
def seqOf (s : State) (ch k : Nat) : Nat := (k - s.firstIndex ch) / s.chanStep ch
def indexOf (s : State) (ch n : Nat) : Nat := s.firstIndex ch + n * s.chanStep ch

/-! ### Times (R93, R119, R134) -/

/-- Time of a coarse sheaf index, in 2^-16 ns, exact and rounded once to even. -/
def coarseTime (s : State) (k : Nat) : Nat :=
  (roundEven ((s.epochUnits : Int) * s.bHz + (k : Int) * s.cAll * 65536000000000) s.bHz).toNat

/-- Time of a fine sheaf index: the centre of its window, or the fixed correction of Ewesen mode. -/
def fineTime (s : State) (k : Nat) : Nat :=
  let back : Int := if s.ewesen then 2 * (s.fineM : Int) else (s.fineTaps * s.fineM : Nat) - 1
  (roundEven (2 * (s.epochUnits : Int) * s.bHz + (2 * (k : Int) - back) * s.cAll * 65536000000000) (2 * s.bHz)).toNat

/-- Time of a sheaf index of a channel. -/
def chanTime (s : State) (ch k : Nat) : Stamp := Stamp.ofUnits (if ch < s.cAll then s.coarseTime k else s.fineTime k)

end State

/-! ### Streams (R85, R508) -/

/-- A stream as its table entry declares it. -/
structure StreamDef where
  key : Nat
  link : Nat
  fmt8 : Bool
  sym : Bool
  ss : Nat
  first : Nat
  count : Nat
  chFirst : Nat
  chCount : Nat
  si : Nat
  sc : Nat
deriving DecidableEq, Repr

namespace State

/-- Is a stream table entry enabled? -/
def streamOn (s : State) (i : Nat) : Bool := s.flag (Reg.STREAM_CFG i) Fld.STREAM_CFG_ENABLE

/-- Entry `i` of the local stream table. -/
def streamDef (s : State) (i : Nat) : StreamDef :=
  { key := i
    link := s.get (Reg.STREAM_CFG i) Fld.STREAM_CFG_LINK
    fmt8 := s.flag (Reg.STREAM_CFG i) Fld.STREAM_CFG_FMT8
    sym := s.flag (Reg.STREAM_CFG i) Fld.STREAM_CFG_SYMMETRIC
    ss := s.get (Reg.STREAM_CFG i) Fld.STREAM_CFG_SS
    first := s.get (Reg.STREAM_INPUTS i) Fld.STREAM_INPUTS_FIRST
    count := s.get (Reg.STREAM_INPUTS i) Fld.STREAM_INPUTS_COUNT
    chFirst := s.get (Reg.STREAM_CHANNELS i) Fld.STREAM_CHANNELS_FIRST
    chCount := s.get (Reg.STREAM_CHANNELS i) Fld.STREAM_CHANNELS_COUNT
    si := s.get (Reg.STREAM_SLICE i) Fld.STREAM_SLICE_SI
    sc := s.get (Reg.STREAM_SLICE i) Fld.STREAM_SLICE_SC }

/-- Enabled local streams. -/
def localStreams (s : State) : List StreamDef := ((List.range 256).filter s.streamOn).map s.streamDef

/-- Streams of another origin: the table that the digest makes common, in the origin's plane (DEDUCED, R508). Log: 39 (DEDUCED). -/
def originStreams (s : State) (q : Nat) : List StreamDef :=
  s.localStreams.map (fun d => { d with key := 256 * (q + 1) + d.key, first := d.first % 4096 + 4096 * q })

/-- Origins whose inputs are forwarded to this device. Log: 39 (DEDUCED). -/
def origins (s : State) : List Nat := if s.mode = 0 then [] else s.heldPlanes.filter (fun q => q != s.pos)

/-- Key of the stream that carries an origin's fine sheaves of a slot in a weave: 2,048 + 64 × origin + slot. Log: 42 (DEDUCED). -/
def fineKey (q z : Nat) : Nat := 2048 + 64 * q + z

/-- Every stream of the device that covers a channel; the fine channels of a weave are covered by one stream per origin. -/
def coverOf (s : State) (ch : Nat) : List StreamDef :=
  if ch < s.cAll then
    (s.localStreams ++ s.origins.flatMap s.originStreams).filter (fun d => decide (d.chFirst ≤ ch) && decide (ch < d.chFirst + d.chCount))
  else
    s.heldPlanes.map (fun q =>
      { key := fineKey q (s.fineSlot ch), link := 0, fmt8 := s.width8, sym := false, ss := 1, first := 4096 * q, count := 4096,
        chFirst := ch, chCount := 1, si := 16, sc := 1 })

/-- Declared payload of a packet in bytes (R89). -/
def declared (d : StreamDef) : Nat := d.ss * d.sc * d.si * (if d.fmt8 then 2 else 1)

end State

end Sys2Proof.Machine
end

