-- ==== Sys2Proof/Machine/Ingest.lean ====
section
/-! DEFINITION. Ingest: packets, acceptance, the alignment store, keyed mask and gain changes, building sheaves, forwarded units
(spec/03_ingest_and_sheaves.md, R507–R509). Releasing is in Release.lean. -/

namespace Sys2Proof.Machine

/-! ### Samples (R7, R9, R105, R106) -/

/-- A 4+4 sample of one byte. -/
def sample4 (b : Nat) : Int × Int := (toS 4 (b / 16), toS 4 b)

/-- A sample's byte or bytes. -/
def sampleOut (wide : Bool) (x : Int × Int) : List Byte :=
  if wide then le 1 (ofS 8 x.1) ++ le 1 (ofS 8 x.2) else le 1 (ofS 4 x.1 * 16 + ofS 4 x.2)

/-- Samples from bytes. -/
def samplesIn (wide : Bool) : Nat → List Byte → List (Int × Int)
  | 0, _ => []
  | n + 1, l =>
    if wide then (toS 8 (byteAt l 0), toS 8 (byteAt l 1)) :: samplesIn wide n (l.drop 2)
    else sample4 (byteAt l 0) :: samplesIn wide n (l.drop 1)

/-- One component of a symmetric stream repaired (R106): the value and the count. Log: 33 (DEDUCED). -/
def symFix (wide : Bool) (x : Int) : Int × Nat :=
  if wide then (if x = -128 then (-127, 1) else (x, 0)) else (if x = -8 then (-7, 1) else (x, 0))

/-- One component requantised with a gain (R105): the value and the clip count. -/
def requant (g : Nat) (sym : Bool) (x : Int) : Int × Nat :=
  let p := x * g
  let m : Int := ((p.natAbs + 32768) / 65536 : Nat)
  let y := if p < 0 then -m else m
  let lo : Int := if sym then -7 else -8
  if 7 < y then (7, 1) else if y < lo then (lo, 1) else (y, 0)

/-- A sample requantised. -/
def requantSample (g : Nat) (sym : Bool) (x : Int × Int) : (Int × Int) × Nat :=
  let a := requant g sym x.1
  let b := requant g sym x.2
  ((a.1, b.1), a.2 + b.2)

/-- The index from which a change acts on a unit: its k, or where it came too late for that the first index that was open. On the fine
channels of a slot that is the index of the fine sheaf whose frame holds it (R118). -/
def Change.eff (x : Change) (m u : Nat) : Nat :=
  let k := (mapFind x.moved u).getD x.k
  if u < 4096 then k else k / m * m + m - 1

namespace State

/-- The register as committed, of those that keyed changes act on. -/
def baseReg (s : State) (a : Nat) : Nat := ((mapFind s.ingest.base a).getD (regReset a)).toNat

/-- The value of an index at a unit's sheaf (R107): the changes in order of effect, then of hand-over; the last one wins. -/
def keyedValue (s : State) (kinds : List ChangeKind) (u k i base : Nat) : Nat :=
  (s.ingest.changes.foldl (fun (acc : Nat × Nat) x =>
    if kinds.contains x.kind ∧ x.eff s.fineM u ≤ k ∧ acc.1 ≤ x.eff s.fineM u then
      match (x.items.filter (fun e => e.1 == i)).getLast? with
      | some e => (x.eff s.fineM u, e.2)
      | none => acc
    else acc) (0, base)).2

/-- Is a held input masked at (c, k)? A remote input follows the shadow of its origin's mask (R508). Log: 41 (DESIGN CHOICE). -/
def maskedAt (s : State) (c k g : Nat) : Bool :=
  let q := g / 4096
  if s.isDirect g then
    let d := g - 4096 * s.p0
    decide (s.keyedValue [.mask s.p0] c k d (s.baseReg (Reg.INGEST_INPUT_MASK (d / 32)) / 2 ^ (d % 32) % 2) = 1)
  else decide (s.keyedValue [.mask q] c k (g % 4096) 0 = 1)

/-- Committed gain of a direct input. -/
def gainBase (s : State) (d : Nat) : Nat := s.baseReg (Reg.INGEST_RQ_GAIN (d / 2)) / 2 ^ (16 * (d % 2)) % 65536

/-- Gain G of an input on a coarse channel; an input that is not direct has no gain of its own here and takes 0x1000. Log: 40 (DEDUCED). -/
def gainAt (s : State) (c k g : Nat) : Nat :=
  if s.isDirect g then s.keyedValue [.gain] c k (g - 4096 * s.p0) (s.gainBase (g - 4096 * s.p0)) else 0x1000

/-- Next sheaf index to be released on a channel (R94). -/
def nextIndex (s : State) (c : Nat) : Nat := (mapFind s.ingest.next c).getD (s.firstIndex c)

/-- An ingest cause is counted, and raised when its counter leaves 0 (R92). -/
def ingestCause (s : State) (n stream : Nat) (by_ : Nat := 1) : State :=
  if by_ = 0 then s
  else
    let fresh := s.full (Reg.INGEST_COUNT n) == 0
    (s.count (Reg.INGEST_COUNT n) by_).raiseIf (fresh && n != 7 && decide (n < 10)) (Ev.INGEST_COUNT_0 + n) (stream % 256)

/-! ### Acceptance (R88–R91) -/

end State

/-- An ingest header (R88). -/
structure IngestHdr where
  stream : Nat
  version : Nat
  inputBase : Nat
  chanBase : Nat
  fmt8 : Bool
  invalid : Bool
  overload : Bool
  cal : Bool
  k : Nat
  len : Nat
deriving DecidableEq, Repr

/-- The header of a packet's bytes. -/
def ingestHdr (b : List Byte) : IngestHdr :=
  { stream := byteAt b 0
    version := byteAt b 1
    inputBase := fieldAt b 2 2 % 2 ^ 14
    chanBase := fieldAt b 4 2 % 2 ^ 12
    fmt8 := bitAt (byteAt b 6) 0
    invalid := bitAt (byteAt b 6) 1
    overload := bitAt (byteAt b 6) 2
    cal := bitAt (byteAt b 6) 3
    k := fieldAt b 8 7
    len := fieldAt b 16 4 }

namespace State

/-- Does the slice lie on the grid of the stream's ranges (R90 test 3)? -/
def onGrid (d : StreamDef) (h : IngestHdr) : Bool :=
  decide (d.first ≤ h.inputBase) && decide (h.inputBase < d.first + d.count) && (h.inputBase - d.first) % d.si == 0
    && decide (d.chFirst ≤ h.chanBase) && decide (h.chanBase < d.chFirst + d.chCount) && (h.chanBase - d.chFirst) % d.sc == 0
    && h.k % d.ss == 0 && decide (h.k + d.ss - 1 < emptyKey)

/-- The first test of R90 that a packet fails, if any; test 6 asks the channels of the packet's slice. Log: 211 (DEDUCED). -/
def packetCause (s : State) (link : Nat) (b : List Byte) : Option Nat :=
  let h := ingestHdr b
  let d := s.streamDef h.stream
  if !s.streamOn h.stream ∨ d.link ≠ link then some 0
  else if b.length < 32 ∨ h.version ≠ 1 ∨ h.len ≠ b.length - 32 then some 1
  else if h.fmt8 ≠ d.fmt8 then some 2
  else if !onGrid d h then some 3
  else if declared d < h.len then some 4
  else if h.len < declared d then some 5
  else if (List.range d.sc).any (fun c => decide (s.nextIndex (h.chanBase + c) + 2 ^ 20 < h.k + 1)) then some 6
  else if h.k + d.ss - 1 < s.startIndex then some 7
  else none

/-- Whose stream a release waits for at (c, k): one that is not absent, or that has rejoined at or before k (R98, R99). -/
def waitsFor (s : State) (key c k : Nat) : Bool := decide ((mapFind s.ingest.rejoin (key * 4096 + c)).getD 0 ≤ k)

/-- Is a stream marked absent? -/
def isAbsent (s : State) (key : Nat) : Bool :=
  if key < 256 then s.flag (Reg.STREAM_STATUS key) Fld.STREAM_STATUS_ABSENT else s.ingest.absent.contains key

/-- Mark it. -/
def setAbsent (s : State) (key : Nat) (b : Bool) : State :=
  let s := if key < 256 then s.setFlag (Reg.STREAM_STATUS key) Fld.STREAM_STATUS_ABSENT b
    else
      let l := s.ingest.absent.filter (fun x => x != key)
      { s with ingest := { s.ingest with absent := if b then key :: l else l } }
  s.setFlag Reg.INGEST_STATUS Fld.INGEST_STATUS_ANY_ABSENT
    (!s.ingest.absent.isEmpty || (List.range 256).any (fun i => s.streamOn i && s.flag (Reg.STREAM_STATUS i) Fld.STREAM_STATUS_ABSENT))

/-- Bytes of pending samples. -/
def pendingBytes (s : State) : Nat :=
  (s.ingest.pairs.map (fun p => (p.slices.map (fun x => x.samples.length * (if x.wide then 2 else 1))).sum)).sum

/-- INGEST_STORE shows the pending occupancy and its largest value. -/
def showStoreKib (s : State) : State :=
  let k := s.pendingBytes / 1024
  (s.set Reg.INGEST_STORE Fld.INGEST_STORE_PENDING_KIB k).peak Reg.INGEST_STORE Fld.INGEST_STORE_PEAK_KIB k

/-- U, the room for pending samples: 24 MiB less staging and the reserves of the enabled HBM branches. -/
def storeRoom (s : State) : Nat :=
  let corr := if s.flag Reg.INGEST_CTL Fld.INGEST_CTL_CORR_BRANCH then s.get Reg.INGEST_RESERVE Fld.INGEST_RESERVE_CORR_MIB else 0
  let glean := if s.flag Reg.INGEST_CTL Fld.INGEST_CTL_GLEAN_BRANCH then s.get Reg.INGEST_RESERVE Fld.INGEST_RESERVE_GLEAN_MIB else 0
  (23 - corr - glean) * 2 ^ 20

/-- What becomes of one pair of a slice (R91). -/
inductive PairFate where
  | early | late | dup | stored
deriving DecidableEq, Repr

/-- R91's tests of one pair. Log: 38 (DEDUCED). -/
def pairFate (s : State) (c k key base n : Nat) : PairFate :=
  if k < s.firstIndex c then .early
  else if k < s.nextIndex c then .late
  else if s.ingest.pairs.any (fun p => p.chan == c && p.k == k && p.slices.any (fun x => x.stream == key && decide (x.base < base + n)
      && decide (base < x.base + x.samples.length))) then .dup
  else .stored

/-- Put a slice into its pair, opening the pair with its first slice. -/
def putSlice (now c k : Nat) (x : Slice) : List Pair → List Pair
  | [] => [⟨c, k, now, now, [x]⟩]
  | p :: t => if p.chan = c ∧ p.k = k then { p with last := now, slices := p.slices ++ [x] } :: t else p :: putSlice now c k x t

/-- A slice of a pair is stored: an absent stream rejoins, and releases wait for it from the lowest index that it has stored since on the channel
(R99). Log: 210 (DESIGN CHOICE). -/
def storeSlice (s : State) (c k : Nat) (x : Slice) : State :=
  let g := { s.ingest with pairs := putSlice s.now.units c k x s.ingest.pairs, top := max s.ingest.top (k + 1) }
  let key := x.stream * 4096 + c
  let g := if k < (mapFind g.rejoin key).getD 0 then { g with rejoin := mapSet 0 g.rejoin key k } else g
  let back := s.isAbsent x.stream
  let g := if back then { g with misses := g.misses.filter (fun e => e.1 / 4096 != x.stream) } else g
  let s : State := { s with ingest := g }
  let s := if back then (s.setAbsent x.stream false).raise Ev.INGEST_STREAM_REJOIN (x.stream % 256) else s
  if x.stream < 256 then s.setFlag (Reg.STREAM_STATUS x.stream) Fld.STREAM_STATUS_SEEN true else s

/-- Store every pair of a slice of ss × sc pairs whose samples stand in the order of R89; LATE and DUP count once (R91). -/
def storeUnit (s : State) (ss sc n k chan : Nat) (step : Nat) (x : Slice) : State :=
  let ps := (List.range ss).flatMap (fun i => (List.range sc).map (fun c => (i, c)))
  let (s, late, dup) := ps.foldl (fun (acc : State × Bool × Bool) p =>
    let (s, late, dup) := acc
    let c := chan + p.2
    let k' := k + p.1 * step
    match s.pairFate c k' x.stream x.base n with
    | .early => (s, late, dup)
    | .late => (s, true, dup)
    | .dup => (s, late, true)
    | .stored => (s.storeSlice c k' { x with samples := (x.samples.drop ((p.1 * sc + p.2) * n)).take n }, late, dup)) (s, false, false)
  ((s.ingestCause 8 x.stream (b2n late)).ingestCause 9 x.stream (b2n dup)).showStoreKib

/-! ### Forwarded units (R507–R509, R511, R514) -/

end State

/-- A unit to be forwarded: R507's header and the samples in R89's order. -/
structure Unit46 where
  origin : Nat
  stream : Nat
  ss : Nat
  base : Nat
  n : Nat
  chan : Nat
  sc : Nat
  k : Nat
  invalid : Bool
  overload : Bool
  cal : Bool
  wide : Bool
  samples : List (Int × Int)
deriving DecidableEq, Repr

/-- The unit restricted to the inputs [lo, hi) of its range, local to the plane; none when the ranges do not meet. -/
def Unit46.restrict (u : Unit46) (lo hi : Nat) : Option Unit46 :=
  let b := u.base % 4096
  let a := max lo b
  let e := min hi (b + u.n)
  if e ≤ a then none
  else some { u with
    base := u.base - b + a
    n := e - a
    samples := (List.range (u.ss * u.sc)).flatMap (fun i => ((u.samples.drop (i * u.n + (a - b))).take (e - a))) }

/-- The bytes of a unit. -/
def Unit46.bytes (u : Unit46) : List Byte :=
  let p := u.samples.flatMap (sampleOut u.wide)
  le 1 0x46 ++ le 1 (u.origin + 4 * b2n u.invalid + 8 * b2n u.overload + 16 * b2n u.cal + 32 * b2n u.wide) ++ le 1 u.stream ++ le 1 u.ss
    ++ le 2 u.base ++ le 2 u.n ++ le 2 u.chan ++ le 2 u.sc ++ le 7 u.k ++ zeros 1 ++ le 4 p.length ++ p

/-- The unit that bytes spell. Log: 40 (DEDUCED). -/
def unit46 (b : List Byte) : Unit46 :=
  let f := byteAt b 1
  let n := fieldAt b 6 2
  { origin := f % 4, stream := byteAt b 2, ss := byteAt b 3, base := fieldAt b 4 2 % 2 ^ 14, n := n, chan := fieldAt b 8 2 % 4096
    sc := fieldAt b 10 2, k := fieldAt b 12 7, invalid := bitAt f 2, overload := bitAt f 3, cal := bitAt f 4, wide := bitAt f 5
    samples := samplesIn (bitAt f 5) (byteAt b 3 * fieldAt b 10 2 * n) (b.drop 24) }

namespace State

/-- Send a unit on a link to a position, or discard it whole when the backlog refuses it (R509). Log: 40 (DEDUCED). -/
def sendUnit (s : State) (q : Nat) (k : Option Nat) (u : Option Unit46) : State :=
  match k, u with
  | some l, some u =>
    if s.linkTakes l u.bytes.length then s.sendVc l 1 u.bytes
    else ((s.linkRefuse l).count (Reg.WEAVE_COUNT 0)).raise Ev.WEAVE_FWD_DROP (q + u.chan * 4)
  | _, _ => s

/-- Forward a unit of this device's own inputs to every partner that needs them: whole to the partner of a pair, on the link of
the stream's parity; in a quad the ranges of R514. -/
def forwardOwn (s : State) (u : Unit46) : State :=
  let p := s.pos
  if s.mode = 1 then s.sendUnit (1 - p) (s.weaveLinkJ (1 - p) (u.stream % 2)) (some u)
  else if s.mode = 2 then
    let a := (p + 3) % 4
    let b := (p + 2) % 4
    let s := s.sendUnit a (s.weaveLink a) (u.restrict 2048 4096)
    let s := s.sendUnit b (s.weaveLink b) (u.restrict 0 2048)
    s.sendUnit b (s.weaveLink b) (u.restrict 3072 4096)
  else s

/-- Relay a unit received directly from its origin (R514). -/
def relayUnit (s : State) (from_ : Nat) (u : Unit46) : State :=
  let p := s.pos
  if s.mode = 2 ∧ from_ = u.origin then
    if u.origin = (p + 1) % 4 then s.sendUnit ((p + 3) % 4) (s.weaveLink ((p + 3) % 4)) (u.restrict 2048 3072)
    else if u.origin = (p + 2) % 4 then s.sendUnit ((p + 1) % 4) (s.weaveLink ((p + 1) % 4)) (u.restrict 0 2048)
    else s
  else s

/-- The samples of a packet as they are forwarded (R508): after R105 with the origin's gains where the committed width is 4+4, on zoom channels
too, and before masking. Log: 34 (DEDUCED). -/
def forwardSamples (s : State) (d : StreamDef) (h : IngestHdr) (xs : List (Int × Int)) : Unit46 :=
  let n := d.si
  let wideOut := d.fmt8 && s.width8
  { origin := s.pos, stream := h.stream, ss := d.ss, base := h.inputBase, n := n, chan := h.chanBase, sc := d.sc, k := h.k
    invalid := h.invalid, overload := h.overload, cal := h.cal, wide := wideOut
    samples := if wideOut ∨ !d.fmt8 then xs
      else xs.zipIdx.map (fun e =>
        let i := e.2 % n
        let c := h.chanBase + e.2 / n % d.sc
        (requantSample (s.gainAt c (h.k + e.2 / n / d.sc) (h.inputBase + i)) d.sym e.1).1) }

/-- Repair symmetric samples; the repaired samples and the count (R106). Log: 33 (DEDUCED). -/
def symSamples (d : StreamDef) (xs : List (Int × Int)) : List (Int × Int) × Nat :=
  if d.sym then
    xs.foldr (fun x acc =>
      let a := symFix d.fmt8 x.1
      let b := symFix d.fmt8 x.2
      ((a.1, b.1) :: acc.1, acc.2 + a.2 + b.2)) ([], 0)
  else (xs, 0)

/-- A packet that the link delivers (R90, R91, R106, R507). SYM_FIX counts the components of every accepted packet, those of pairs that R91
discards with them. Log: 33 (DEDUCED), 38 (DEDUCED). -/
def acceptPacket (s : State) (link : Nat) (b : List Byte) : State :=
  let h := ingestHdr b
  match s.packetCause link b with
  | some n => s.ingestCause n h.stream
  | none =>
    let d := s.streamDef h.stream
    let (xs, fixed) := symSamples d (samplesIn d.fmt8 (d.ss * d.sc * d.si) (b.drop 32))
    let s := s.ingestCause 11 h.stream fixed
    let s := if s.mode = 0 then s else s.forwardOwn (s.forwardSamples d h xs)
    s.storeUnit d.ss d.sc d.si h.k h.chanBase 1
      { stream := h.stream, base := h.inputBase, invalid := h.invalid, overload := h.overload, cal := h.cal, wide := d.fmt8, samples := xs }

/-! ### Framing (R73, R74) -/

end State

/-- Where the striped stream stands: outside packets, inside one (its data blocks, newest first, and whether one of its blocks was in an
uncorrectable codeword), or among the blocks that follow a broken one. -/
inductive FrameMode where
  | outside
  | inside (data : List (List Byte)) (fec : Bool)
  | skips

/-- What framing finds in a run of blocks: the counters of the packets dropped (R74), control blocks of unknown code, and the packets passed on
as their valid bytes. -/
structure Framing where
  mode : FrameMode := .outside
  drops : List Nat := []
  ctrlBad : Nat := 0
  packets : List (List Byte) := []

/-- A packet at its EOP (R73, R74): the counter of its fault, or its valid bytes. Log: 23 (DESIGN CHOICE). -/
def closePacket (data : List (List Byte)) (fec : Bool) (eop : List Byte) : Except Nat (List Byte) :=
  let last := byteAt eop 1
  let bytes := (data.drop 1).reverse.flatten ++ (data.headD []).take last
  if fec then .error 2
  else if data = [] ∨ fieldAt eop 2 2 ≠ data.length ∨ last = 0 ∨ 32 < last then .error 0
  else if crc32c bytes = fieldAt eop 4 4 then .ok bytes else .error 1

/-- One block of the striped stream. A control block other than EOP inside a packet and a data block outside any packet drop a packet; the blocks
that follow up to the next SOP or EOP belong to it. An SOP begins a packet wherever it stands. Log: 209 (DEDUCED). -/
def frameBlock (r : Framing) (b : Block257) : Framing :=
  let code := byteAt b.bytes 0
  if b.data then
    match r.mode with
    | .outside => { r with mode := .skips, drops := r.drops ++ [0] }
    | .inside d fec => { r with mode := .inside (b.bytes :: d) (fec || b.bad) }
    | .skips => r
  else
    let cut := match r.mode with
      | .inside _ _ => r.drops ++ [0]
      | _ => r.drops
    if code = ctrlSop then { r with mode := .inside [] b.bad, drops := cut }
    else if code = ctrlEop then
      match r.mode with
      | .inside d fec =>
        match closePacket d (fec || b.bad) b.bytes with
        | .ok p => { r with mode := .outside, packets := r.packets ++ [p] }
        | .error n => { r with mode := .outside, drops := r.drops ++ [n] }
      | _ => { r with mode := .outside }
    else
      { r with
        drops := cut
        ctrlBad := r.ctrlBad + b2n (decide (code ≠ ctrlIdle) && decide (code ≠ ctrlEidle))
        mode := match r.mode with
          | .inside _ _ => .skips
          | m => m }

/-- A run of blocks framed from outside any packet. Log: 209 (DEDUCED). -/
def frameBlocks (l : List Block257) : Framing := l.foldl frameBlock {}

namespace State

/-- Framing on a link: drops and unknown control codes are counted, and the packets passed on. Log: 23 (DESIGN CHOICE). -/
def framePackets (s : State) (link : Nat) (l : List Block257) : State × List (List Byte) :=
  let r := frameBlocks l
  let s := s.count (Reg.LANE_LINK_COUNT link 3) r.ctrlBad
  (s.each r.drops (fun s n => s.count (Reg.LANE_LINK_COUNT link n)), r.packets)

/-! ### Building a sheaf (R102–R105) -/

/-- The slice of a pair that holds an input. -/
def sliceOf (sl : List Slice) (g : Nat) : Option Slice :=
  sl.find? (fun x => decide (x.base ≤ g) && decide (g < x.base + x.samples.length))

/-- Is the stream of a slice symmetric? -/
def streamSym (s : State) (key : Nat) : Bool := if key < 2048 then (s.streamDef (key % 256)).sym else false

/-- An input of a pair: the sample as received, its width, whether it is valid, and whether it was missing or masked. -/
structure InputView where
  x : Int × Int
  wide : Bool
  sym : Bool
  valid : Bool
  missing : Bool
  masked : Bool
deriving DecidableEq, Repr

/-- Every held input of a pair (R102). -/
def pairInputs (s : State) (c k : Nat) (sl : List Slice) : List InputView :=
  (List.range s.nHeld).map (fun h =>
    let g := s.heldInput h
    let m := decide (c < s.cAll) && s.maskedAt c k g
    match sliceOf sl g with
    | none => ⟨(0, 0), false, false, false, true, m⟩
    | some x =>
      let ok := !x.invalid && !m && x.valid.getD (g - x.base) true
      ⟨if ok then x.samples.getD (g - x.base) (0, 0) else (0, 0), x.wide, s.streamSym x.stream, ok, false, m⟩)

/-- The flags word of a sheaf as ingest releases it (R103). -/
def pairFlags (sl : List Slice) (ins : List InputView) (forced : Bool) : Nat :=
  let cal := sl.any (·.cal)
  b2n (ins.any (·.missing)) + 2 * b2n (sl.any (·.invalid)) + 4 * b2n (sl.any (·.overload)) + 8 * b2n cal
    + 16 * b2n (cal && sl.any (fun x => !x.cal)) + 32 * b2n forced + 64 * b2n (ins.any (·.masked))

/-- A pair as the sheaf received and, requantised, as the narrow sheaf with its clips. Log: 33 (DEDUCED). -/
def buildSheaf (s : State) (c k : Nat) (sl : List Slice) (forced : Bool) : Sheaf × Sheaf × Nat :=
  let ins := s.pairInputs c k sl
  let own := (sl.filter (fun x => x.flags != 0)).foldl (fun a x => Nat.lor a x.flags) 0
  let flags := Nat.lor (pairFlags sl ins forced) own
  let wide : Sheaf := { chan := c, k := k, samples := ins.map (·.x), valid := ins.map (·.valid), flags := flags }
  let nar := ins.zipIdx.map (fun e =>
    if e.1.wide && e.1.valid then requantSample (s.gainAt c k (s.heldInput e.2)) e.1.sym e.1.x else (e.1.x, 0))
  (wide, { wide with samples := nar.map (·.1) }, (nar.map (·.2)).sum)

/-! ### Keyed changes (R107, R121, R352) -/

/-- The units of a change: coarse channels, and for gains the fine channels of every slot, 4,096 + slot. -/
def changeUnits (s : State) (kind : ChangeKind) : List Nat :=
  match kind with
  | .mask _ => List.range s.cAll
  | .gain => List.range s.cAll ++ s.zoomSlots.map (4096 + ·)
  | .harrowGain => s.zoomSlots.map (4096 + ·)
  | .fineGain => s.zoomSlots.map (4096 + ·)

/-- Next index of a unit: of a slot, the index of the next fine sheaf to be formed. -/
def unitNext (s : State) (u : Nat) : Nat :=
  if u < 4096 then s.nextIndex u
  else
    let c := s.nextIndex (s.zoomCoarse (u - 4096))
    max (c / s.fineM * s.fineM + s.fineM - 1) (s.firstIndex s.cAll)

/-- Has a unit released a sheaf of index k or higher? -/
def unitPast (s : State) (k u : Nat) : Bool :=
  let next := s.unitNext u
  let step := if u < 4096 then 1 else s.fineM
  decide (s.firstIndex (if u < 4096 then u else s.cAll) < next) && decide (k + step ≤ next)

/-- A change is handed over: on each unit it takes effect at the first sheaf not yet released with an index of k or more; it is
LATE if any unit had released such a sheaf. -/
def addChange (s : State) (kind : ChangeKind) (k : Nat) (items : List (Nat × Nat)) (ref : Option CmdRef) : State :=
  let units := s.changeUnits kind
  let moved := units.filterMap (fun u => if k < s.unitNext u then some (u, s.unitNext u) else none)
  let late := units.any (s.unitPast k)
  { s with ingest := { s.ingest with changes := s.ingest.changes ++ [⟨kind, k, items, moved, ref, late, false⟩] } }

/-- Put the items of a completed change into their registers. Log: 43 (DEDUCED). -/
def changeRegs (s : State) (x : Change) : State :=
  s.each x.items (fun s e =>
    match x.kind with
    | .mask o => if o = s.p0 then s.set (Reg.INGEST_INPUT_MASK (e.1 / 32)) ⟨e.1 % 32, 1⟩ e.2 else s
    | .gain => s.set (Reg.INGEST_RQ_GAIN (e.1 / 2)) ⟨16 * (e.1 % 2), 16⟩ e.2
    | .harrowGain => s
    | .fineGain => s.set (Reg.HARROW_FGAIN e.1) Fld.HARROW_FGAIN_GF e.2)

/-- The units at which a change takes effect latest. -/
def changeTop (s : State) (x : Change) : Nat := ((s.changeUnits x.kind).map (x.eff s.fineM)).foldl max x.k

/-- Has a change taken effect on all its units?. Log: 43 (DEDUCED). -/
def changeDone (s : State) (x : Change) : Bool := (s.changeUnits x.kind).all (fun u => decide (x.eff s.fineM u < s.unitNext u))

/-- Complete every change that has taken effect on all its units (R352), with LATE and the highest index of effect. The two
changes of one HARROW_GAIN have the same units and indices, so they end together. -/
def endChanges (s : State) : State :=
  let s := s.each (s.ingest.changes.filter (fun x => !x.done && s.changeDone x)) (fun s x =>
    let s := s.changeRegs x
    match x.ref with
    | some r => s.finish r { late := x.late, aux := s.changeTop x }
    | none => s)
  { s with ingest := { s.ingest with changes := s.ingest.changes.map (fun x => { x with done := x.done || s.changeDone x }) } }

end State

end Sys2Proof.Machine
end

