-- ==== Sys2Proof/Machine/Harrow.lean ====
section
/-! DEFINITION. The harrow fine channeliser (spec/04_harrow.md): DC blocker, branch sums, DFT, requantisation, resets and settling,
power records, and the commands HARROW_RESET, HARROW_DC and HARROW_GAIN. -/

namespace Sys2Proof.Machine

/-! ### Cosine and sine in units of 2^-64 -/

/-- 2π in units of 2^-64. -/
def twoPi64 : Int := 115904311329233965478

/-- One in units of 2^-64. -/
def one64 : Int := 18446744073709551616

/-- A Taylor series: term by term from `t`, each the one before times −x² / (i (i + 1)). -/
def series (x2 : Int) : Nat → Int → Int → Int
  | 0, _, _ => 0
  | n + 1, t, i => t + series x2 n (-(t * x2 / one64) / (i * (i + 1))) (i + 2)

/-- cos(2π n / m) and sin(2π n / m) in units of 2^-64, to well below 2^-50. -/
def cos64 (n m : Nat) : Int := let x := twoPi64 * n / m; series (x * x / one64) 32 one64 1
def sin64 (n m : Nat) : Int := let x := twoPi64 * n / m; series (x * x / one64) 32 x 2

/-! ### DC blocker (R113) -/

/-- One component: the output in 2^-4 LSB and the new estimate. -/
def dcStep (on frozen : Bool) (k : Nat) (x e : Int) (valid : Bool) : Int × Int :=
  if !on then (if valid then x * 16 else 0, e)
  else
    let d := x * 2 ^ 20 - e
    (if valid then (d + 32768).fdiv 65536 else 0, if valid && !frozen then e + d.fdiv (2 ^ k) else e)

namespace State

/-- A zoom slot outside its registers. -/
def slot (s : State) (z : Nat) : SlotSt := (mapFind s.harrow.slots z).getD {}

/-- Replace it. -/
def setSlot (s : State) (z : Nat) (x : SlotSt) : State :=
  { s with harrow := { s.harrow with slots := mapSet {} s.harrow.slots z x } }

/-- Prototype coefficient h[n] (R116): the stored half mirrored, or the ROM prototype of Ewesen mode. Log: 45 (DESIGN CHOICE). -/
def proto (s : State) (n : Nat) : Int :=
  if s.ewesen then (Config.ewesenProto s.fineM n).toInt
  else
    let len := s.fineTaps * s.fineM
    toS 18 (s.get (Reg.HARROW_COEF (if n < len / 2 then n else len - 1 - n)) Fld.HARROW_COEF_H)

/-! ### Resets and DC commands (R114, R125, R129) -/

/-- A reset boundary of a slot at a frame: the history is zeroed, and the estimates unless the blocker is frozen. -/
def resetSlot (s : State) (z frame : Nat) : State :=
  let x := s.slot z
  s.setSlot z { x with
    resetFrame := frame
    hist := x.hist.map (fun c => { c with y := c.y.map (fun _ => (0, 0)) })
    est := if x.frozen then x.est else [] }

/-- A job takes effect on a slot at coarse index k. -/
def slotJob (s : State) (z k : Nat) (j : SlotJob) : State :=
  let x := s.slot z
  match j.action with
  | 0 => s.resetSlot z (k / s.fineM)
  | 1 => s.setSlot z { x with frozen := true }
  | 2 => s.setSlot z { x with frozen := false }
  | _ => s.setSlot z { x with k := j.value }

/-- The jobs due on a slot before its coarse sheaf k: resets first, then HARROW_DC in order of hand-over (R129); a job that has
taken effect on all its slots completes. -/
def slotJobs (s : State) (z k : Nat) : State :=
  let due (j : SlotJob) : Bool := mapFind j.at_ z == some k
  let s := if k = s.firstFrame * s.fineM then s.resetSlot z s.firstFrame else s
  let s := s.each (s.harrow.jobs.filter (fun j => due j && j.action == 0)) (fun s j => s.slotJob z k j)
  let s := s.each (s.harrow.jobs.filter (fun j => due j && j.action != 0)) (fun s j => s.slotJob z k j)
  let jobs := s.harrow.jobs.map (fun j => if due j then { j with at_ := mapDel j.at_ z } else j)
  let s := s.each (jobs.filter (·.at_.isEmpty)) (fun s j => s.finish j.ref { late := j.late, aux := j.top })
  { s with harrow := { s.harrow with jobs := jobs.filter (fun j => !j.at_.isEmpty) } }

/-- Hand a slot command over: where it takes effect on each enabled slot of its mask. Log: 47 (DEDUCED). -/
def addSlotJob (s : State) (ref : CmdRef) (action value k mask : Nat) : State :=
  let m := s.fineM
  let zs := s.zoomSlots.filter (bitAt mask)
  let place (z : Nat) : Nat × Bool :=
    let n := s.nextIndex (s.zoomCoarse z)
    if action = 0 then
      let b := ceilDiv k m * m
      if n ≤ b then (b, false) else (ceilDiv n m * m, true)
    else (max k n, decide (k < n))
  let at_ := zs.map (fun z => (z, (place z).1))
  let top := (at_.map (·.2)).foldl max 0
  let late := zs.any (fun z => (place z).2)
  if at_.isEmpty then s.finish ref { late := late, aux := k }
  else { s with harrow := { s.harrow with jobs := s.harrow.jobs ++ [⟨ref, action, value, at_, top, late⟩] } }

/-! ### Fine sheaves (R116–R124) -/

/-- Branch sums v[p] of one direct input from the window, newest sheaf first; sheaves before the history are zero. -/
def branchSums (s : State) (w : List HistCell) (d : Nat) : List (Int × Int) :=
  let m := s.fineM
  let n := s.fineTaps * m
  let ys := w.map (fun c => c.y.getD d (0, 0))
  (List.range m).map (fun p =>
    (List.range s.fineTaps).foldl (fun (acc : Int × Int) t =>
      let h := s.proto (t * m + p)
      let y := ys.getD (n - 1 - (t * m + p)) (0, 0)
      (acc.1 + h * y.1, acc.2 + h * y.2)) (0, 0))

end State

/-- One component of X[f] (R117): an integer within 1 of the exact value. Log: 44 (DESIGN CHOICE). -/
def dftPick (m f part : Nat) (v : List (Int × Int)) (num : Int) : Int :=
  let den : Int := 2 ^ 81
  let lo := -((-(num - den)).fdiv den)
  let hi := (num + den).fdiv den
  lo + (Config.harrowPick m f part v % (hi - lo + 1).toNat : Nat)

/-- X[f] of branch sums (R117). Log: 46 (DEDUCED). -/
def fineValue (m f : Nat) (v : List (Int × Int)) : Int × Int :=
  let i := (f + m / 2) % m
  let acc := v.zipIdx.foldl (fun (acc : Int × Int) e =>
    let c := cos64 (e.2 * i % m) m
    let q := sin64 (e.2 * i % m) m
    (acc.1 + e.1.1 * c + e.1.2 * q, acc.2 + e.1.2 * c - e.1.1 * q)) (0, 0)
  (dftPick m f 0 v acc.1, dftPick m f 1 v acc.2)

/-- Requantise one component of X[f] (R120): the value and the clip count. -/
def requantFine (g gf shift : Nat) (width8 sym : Bool) (x : Int) : Int × Nat :=
  let p := x * g * gf
  let m : Int := ((p.natAbs + 2 ^ (31 + shift)) / 2 ^ (32 + shift) : Nat)
  let q := if p < 0 then -m else m
  let lo : Int := if width8 then (if sym then -127 else -128) else (if sym then -7 else -8)
  let hi : Int := if width8 then 127 else 7
  if hi < q then (hi, 1) else if q < lo then (lo, 1) else (q, 0)

namespace State

/-- The fine sheaves of a frame over the direct inputs, in ascending fine channel, with the clips. Log: 42 (DEDUCED), 46 (DEDUCED). -/
def fineSheaves (s : State) (z k flags : Nat) (valid : List Bool) (w : List HistCell) : List Sheaf × Nat :=
  let m := s.fineM
  let shift := s.get Reg.HARROW_CFG Fld.HARROW_CFG_SHIFT
  let sym := s.flag Reg.HARROW_CFG Fld.HARROW_CFG_SYMMETRIC
  let gains := (List.range s.nDirect).map (fun d => s.keyedValue [.gain, .harrowGain] (4096 + z) k d (s.gainBase d))
  let sums := (List.range s.nDirect).map (fun d => s.branchSums w d)
  let rows := (List.range m).map (fun f =>
    let gf := s.keyedValue [.fineGain] (4096 + z) k (m * z + f) (s.baseReg (Reg.HARROW_FGAIN (m * z + f)) % 65536)
    let xs := (List.range s.nDirect).map (fun d =>
      if valid.getD d false then
        let x := fineValue m f (sums.getD d [])
        let a := requantFine (gains.getD d 0) gf shift s.width8 sym x.1
        let b := requantFine (gains.getD d 0) gf shift s.width8 sym x.2
        ((a.1, b.1), a.2 + b.2)
      else ((0, 0), 0))
    ({ chan := s.cAll + m * z + f, k := k, samples := xs.map (·.1), valid := valid, flags := flags : Sheaf }, (xs.map (·.2)).sum))
  (rows.map (·.1), (rows.map (·.2)).sum)

/-- Is any slot settling, before its next frame? -/
def showSettling (s : State) : State :=
  s.setFlag Reg.HARROW_STATUS Fld.HARROW_STATUS_SETTLING_ANY
    (s.zoomSlots.any (fun z => decide (s.nextIndex (s.zoomCoarse z) / s.fineM < (s.slot z).resetFrame + s.fineTaps - 1)))

/-- Form the fine sheaves of the frame that ends with coarse index k (R118, R122–R126). -/
def formFrame (s : State) (z k : Nat) : State × List Sheaf :=
  let m := s.fineM
  let x := s.slot z
  let n := s.fineTaps * m
  let w := x.hist.take n
  let valid := (List.range s.nDirect).map (fun d => decide (w.length = n) && w.all (fun c => c.valid.getD d false))
  let settling := decide (k / m < x.resetFrame + s.fineTaps - 1)
  let flags := (w.foldl (fun a c => Nat.lor a (c.flags % 256)) 0) + 256 * b2n settling + 512 + 1024 * b2n x.frozen
  let (fs, clips) := s.fineSheaves z k flags valid w
  let s := (s.count (Reg.HARROW_COUNT 0) clips).count (Reg.HARROW_COUNT 1) (b2n settling)
  let s := s.count (Reg.HARROW_COUNT 2) (m * (valid.filter (fun v => !v)).length)
  (s.setFlag Reg.HARROW_STATUS Fld.HARROW_STATUS_RUNNING true, fs)

/-! ### Power records (R132, R133) -/

/-- A power record. -/
def powerRecord (s : State) (z : Nat) (x : SlotSt) : List Byte :=
  [0x48, 0x01] ++ le 2 (s.zoomCoarse z) ++ le 7 x.runFirst ++ zeros 1 ++ le 2 (s.get Reg.HARROW_POWER Fld.HARROW_POWER_LEN)
    ++ le 2 s.nDirect ++ (Stamp.ofUnits (s.coarseTime x.runFirst)).bytes ++ zeros 4
    ++ (List.range s.nDirect).flatMap (fun d => let p := x.run.getD d (0, 0); le 4 p.1 ++ le 2 p.2 ++ zeros 2)

/-- Add a coarse sheaf to its slot's power run; the last sheaf of a run sends the record. -/
def powerRun (s : State) (z k : Nat) (xs : List (Int × Int)) (valid : List Bool) : State :=
  let len := s.get Reg.HARROW_POWER Fld.HARROW_POWER_LEN
  if len = 0 then s
  else
    let x := s.slot z
    let run := (xs.zip valid).zipIdx.map (fun e =>
      let p := x.run.getD e.2 (0, 0)
      if e.1.2 then (p.1 + (e.1.1.1 * e.1.1.1 + e.1.1.2 * e.1.1.2).toNat, p.2 + 1) else p)
    let x := { x with run := run, runLen := x.runLen + 1, runFirst := if x.runLen = 0 then k else x.runFirst }
    if x.runLen = len then
      let m : Msg := { producer := 0x06, bytes := s.powerRecord z x, full := .counts (Reg.HARROW_COUNT 3) }
      (s.setSlot z { x with run := [], runLen := 0 }).toRing (s.get Reg.HARROW_POWER Fld.HARROW_POWER_RING) m
    else s.setSlot z x

/-- A coarse sheaf of a zoom channel enters its slot (R113–R118): the fine sheaves that it completes. -/
def harrowSheaf (s : State) (z : Nat) (sh : Sheaf) : State × List Sheaf :=
  let s := s.slotJobs z sh.k
  let x := s.slot z
  let on := s.flag (Reg.HARROW_ZOOM z) Fld.HARROW_ZOOM_DC_EN
  let xs := s.directPart sh.samples
  let vs := s.directPart sh.valid
  let steps := (xs.zip vs).zipIdx.map (fun e =>
    let est := x.est.getD e.2 (0, 0)
    (dcStep on x.frozen x.k e.1.1.1 est.1 e.1.2, dcStep on x.frozen x.k e.1.1.2 est.2 e.1.2))
  let cell : HistCell := { y := steps.map (fun p => (p.1.1, p.2.1)), valid := vs, flags := sh.flags }
  let s := s.setSlot z { x with
    est := if on then steps.map (fun p => (p.1.2, p.2.2)) else x.est
    hist := (cell :: x.hist).take (s.fineTaps * s.fineM) }
  let s := s.powerRun z sh.k xs vs
  if (sh.k + 1) % s.fineM = 0 ∧ s.firstFrame ≤ sh.k / s.fineM then s.formFrame z sh.k else (s, [])

/-! ### Tables of 4-byte entries -/

end State

/-- The 4-byte entries of a parameter table. -/
def words (bs : List Byte) : List Nat := (pieces 4 bs.length bs).filter (fun p => !p.isEmpty) |>.map unle

namespace State

/-- A keyed command with a table of 4-byte entries, at most `top` of them, each of which must pass `good` (R351). -/
def tableCommand (s : State) (src : CmdSrc) (op top : Nat) (t : HostRead) (good : State → Nat → Bool)
    (f : CmdRef → Nat → List Nat → State → State) : State :=
  s.keyedCommand src op (fun ref d r s =>
    if descCount d = 0 ∨ top < descCount d then s.finishSt ref St.BAD_PARAM
    else match s.table r d (4 * descCount d) t with
      | .error st => s.tableFailed ref r st
      | .ok bs => if (words bs).all (good s) then f ref (descK d) (words bs) s else s.finishSt ref St.BAD_PARAM)

/-- Tell every partner that holds this origin's inputs of a mask change (R508, R539). -/
def sendMask (s : State) (k : Nat) (es : List Nat) : State :=
  let qs := s.partners.filter (fun q => s.mode == 1 || q != (s.pos + 1) % 4)
  s.each qs (fun s q => s.weaveVc q 2 ([0xA0] ++ le 1 s.pos ++ le 2 es.length ++ le 7 k ++ zeros 5 ++ es.flatMap (le 4)))

end State

open State

/-- INGEST_MASK (R107, R351): ring command 0x10. -/
def execIngestMask (src : CmdSrc) (table : HostRead) (s : State) : Result :=
  ok (s.tableCommand src 0x10 8192 table
    (fun s e => decide (e % 8192 < s.nDirect) && decide (e / 8192 % 4 = 0) && decide (e / 65536 = 0))
    (fun ref k es s =>
      let s := if s.mode = 0 then s else s.sendMask k es
      (s.addChange (.mask s.p0) k (es.map (fun e => (e % 8192, e / 32768 % 2))) (some ref)).endChanges))

/-- INGEST_GAIN (R107, R351): ring command 0x11. -/
def execIngestGain (src : CmdSrc) (table : HostRead) (s : State) : Result :=
  ok (s.tableCommand src 0x11 8192 table (fun s e => decide (e % 8192 < s.nDirect) && decide (e / 8192 % 8 = 0))
    (fun ref k es s => (s.addChange .gain k (es.map (fun e => (e % 8192, e / 65536))) (some ref)).endChanges))

/-- HARROW_RESET (R125): ring command 0x18. Log: 47 (DEDUCED). -/
def execHarrowReset (src : CmdSrc) (s : State) : Result :=
  ok (s.keyedCommand src 0x18 (fun ref d _ s => (s.addSlotJob ref 0 0 (descK d) (fieldAt d 40 8)).showSettling))

/-- HARROW_DC (R114, R129): ring command 0x19. Log: 47 (DEDUCED). -/
def execHarrowDc (src : CmdSrc) (s : State) : Result :=
  ok (s.keyedCommand src 0x19 (fun ref d _ s =>
    let a := byteAt d 36
    let v := byteAt d 37
    if 2 < a ∨ (a = 2 ∧ (v < 8 ∨ 20 < v)) then s.finishSt ref St.BAD_PARAM
    else s.addSlotJob ref (a + 1) v (descK d) (fieldAt d 40 8)))

/-- HARROW_GAIN (R121): ring command 0x1A. -/
def execHarrowGain (src : CmdSrc) (table : HostRead) (s : State) : Result :=
  ok (s.tableCommand src 0x1A 16384 table
    (fun s e => decide (e / 2 ^ 29 % 4 = 0)
      && (if bitAt e 31 then decide (e / 65536 % 8192 < s.fineM * s.zoomTop) else decide (e / 65536 % 8192 < s.nDirect)))
    (fun ref k es s =>
      let pick (b : Bool) := (es.filter (fun e => bitAt e 31 == b)).map (fun e => (e / 65536 % 8192, e % 65536))
      ((s.addChange .harrowGain k (pick false) (some ref)).addChange .fineGain k (pick true) (some ref)).endChanges))

/-- HARROW_DC_RE_READ (R115): the real estimate of the selected slot and input; the imaginary part is captured. -/
def execHarrowDcReRead (s : State) : Result :=
  let z := s.get Reg.HARROW_DC_SEL Fld.HARROW_DC_SEL_SLOT
  let d := s.get Reg.HARROW_DC_SEL Fld.HARROW_DC_SEL_INPUT
  let e := (s.slot z).est.getD d (0, 0)
  ok (s.answer Reg.HARROW_DC_RE (ofS 32 e.1) (fun s => (s.wrN Reg.HARROW_DC_RE (ofS 32 e.1)).wrN Reg.HARROW_DC_IM (ofS 32 e.2)))

end Sys2Proof.Machine
end

