-- ==== Sys2Proof/Machine/Turning.lean ====
section
/-! DEFINITION. The turning buffer (spec/06_turning_and_passes.md): the rings of sheaf slots in HBM, the flag plane, retention and
waits, readiness, the turning read of a sheaf, and margins. -/

namespace Sys2Proof.Machine

namespace State

/-- Pass length T, headroom H and ring length 2T + H. -/
def turnT (s : State) : Nat := s.get Reg.TURN_CFG Fld.TURN_CFG_T
def turnH (s : State) : Nat := s.get Reg.TURN_CFG Fld.TURN_CFG_HEADROOM
def turnRing (s : State) : Nat := 2 * s.turnT + s.turnH

/-- The weeder is enabled; SK_LEN. -/
def weedOn (s : State) : Bool := s.flag Reg.WEED_CFG Fld.WEED_CFG_ENABLE
def skLen (s : State) : Nat := 2 ^ s.get Reg.WEED_CFG Fld.WEED_CFG_LOG2_LEN

/-- Bytes of a sheaf slot, S (R155), and of a flag-plane entry (R157). -/
def slotBytes (s : State) : Nat := ceilDiv (32 + s.nHeld * s.sampleBytes + s.nHeld / 8) 32 * 32
def planeBytes (s : State) : Nat := s.nHeld / 8 + 32

/-- BASE of the turning region. -/
def turnBase (s : State) : Nat :=
  s.get Reg.TURN_BASE_LO Fld.TURN_BASE_LO_BASE * 2 ^ 20 + s.get Reg.TURN_BASE_HI Fld.TURN_BASE_HI_BASE * 2 ^ 32

/-- Address of sheaf `n` of a channel's sequence (R155). -/
def slotAddr (s : State) (ch n : Nat) : Nat := s.turnBase + (s.slotU ch * s.turnRing + n % s.turnRing) * s.slotBytes

/-- Blocks of a channel's flag-plane ring, and the address of block `b`'s entry (R157). -/
def planeRing (s : State) : Nat := ceilDiv s.turnRing s.skLen + 1
def planeAddr (s : State) (ch b : Nat) : Nat :=
  s.turnBase + s.corrChans.length * s.turnRing * s.slotBytes + (s.slotU ch * s.planeRing + b % s.planeRing) * s.planeBytes

/-- A channel of the turning buffer. -/
def turnChan (s : State) (ch : Nat) : TurnChan := (mapFind s.turn.chans ch).getD {}

/-- Replace it. -/
def setTurnChan (s : State) (ch : Nat) (x : TurnChan) : State :=
  { s with turn := { s.turn with chans := mapSet {} s.turn.chans ch x } }

/-! ### Retention and margins (R159–R161) -/

/-- First position from `n` on that was written, not withheld (R158). -/
def firstWritten (x : TurnChan) (n : Nat) : Nat := x.withheld.foldl (fun n w => if w = n then n + 1 else n) n

/-- Oldest sheaf of a channel that is retained: of a pass in flight, or of a pass not yet dispatched. A position that was withheld was never
written, so its slot is not retained (R159). -/
def oldestKept (s : State) (ch : Nat) : Option Nat :=
  let x := s.turnChan ch
  let t := s.turnT
  let ends := x.live.map (fun q => (q * t, (q + 1) * t)) ++ [(x.nd * t, x.wr)]
  let l := (ends.map (fun e => (firstWritten x e.1, e.2))).filter (fun e => decide (e.1 < e.2)) |>.map (·.1)
  l.foldl (fun a b => some (match a with
    | some a => min a b
    | none => b)) none

/-- The margin of a channel: slots between its next write position and its oldest retained slot. -/
def margin (s : State) (ch : Nat) : Nat := match s.oldestKept ch with
  | some o => s.turnRing - ((s.turnChan ch).wr - o)
  | none => s.turnRing

/-- Would the next sheaf of a channel fall on a retained slot? -/
def slotKept (s : State) (ch : Nat) : Bool := s.margin ch == 0

/-- Show the smallest margin, and LAGGING with its event (R161). -/
def showMargin (s : State) (ch : Nat) : State :=
  let all := s.turn.chans.map (fun c => s.margin c.1)
  let m := all.foldl min s.turnRing
  let s := s.set Reg.TURN_STATUS Fld.TURN_STATUS_MARGIN m
  let s := if m < s.get Reg.TURN_MARGIN_MIN Fld.TURN_MARGIN_MIN_MIN then s.set Reg.TURN_MARGIN_MIN Fld.TURN_MARGIN_MIN_MIN m else s
  let lag := decide (2 * m < s.turnH)
  let was := s.flag Reg.TURN_STATUS Fld.TURN_STATUS_LAGGING
  (s.setFlag Reg.TURN_STATUS Fld.TURN_STATUS_LAGGING lag).raiseIf (lag && !was) Ev.TURN_LAG ch

/-! ### Readiness (R163) -/

/-- Are the flag-plane entries of all blocks of a pass written? -/
def planesDone (s : State) (ch q : Nat) : Bool :=
  !s.weedOn || (List.range (s.turnT / s.skLen)).all (fun i => (s.turnChan ch).planes.contains (q * s.turnT / s.skLen + i))

/-- Mark the next passes of a channel ready, in order, while they are: a pass takes its place when it becomes ready, also where the channel's
pass before it still waits (R163). Log: 216 (DEDUCED). -/
def markReady (s : State) (ch : Nat) : Nat → State
  | 0 => s
  | fuel + 1 =>
    let x := s.turnChan ch
    if s.turnT ≠ 0 ∧ (x.ready + 1) * s.turnT ≤ x.wr ∧ s.planesDone ch x.ready then
      let s := s.setTurnChan ch { x with
        ready := x.ready + 1
        planes := x.planes.filter (fun b => decide ((x.ready + 1) * s.turnT ≤ b * s.skLen)) }
      ({ s with turn := { s.turn with rdy := s.turn.rdy ++ [ch] } } : State).markReady ch fuel
    else s

/-! ### A sheaf slot (R156) -/

/-- The bytes of a sheaf slot (R156). -/
def slotImage (s : State) (sh : Sheaf) : List Byte :=
  let bits := (pieces8 sh.valid.length sh.valid)
  let body := le 7 sh.k ++ zeros 1 ++ le 2 sh.flags ++ le 2 sh.chan ++ le 2 (sh.valid.filter (fun v => v)).length ++ zeros 18
    ++ sh.samples.flatMap (sampleOut s.width8) ++ bits
  padTo 32 body
where
  /-- A bitmap, least significant bit first. -/
  pieces8 : Nat → List Bool → List Byte
    | 0, _ => []
    | fuel + 1, l => if l.isEmpty then [] else
        le 1 (((l.take 8).zipIdx.map (fun e => b2n e.1 * 2 ^ e.2)).sum) ++ pieces8 fuel (l.drop 8)

/-! ### Turning read (R144, R158, R384) -/

/-- A sheaf of nothing: withheld or poisoned. -/
def blankSheaf (s : State) (ch n flags : Nat) (withheld : Bool) : PassSheaf :=
  ⟨{ chan := ch, k := s.indexOf ch n, samples := List.replicate s.nHeld (0, 0), valid := List.replicate s.nHeld false, flags := flags },
    true, withheld, 0⟩

/-- Sheaf `n` of a channel's sequence with the weeder's decisions applied. Log: 52 (DEDUCED). -/
def readSheaf (s : State) (ch n : Nat) : PassSheaf :=
  if (s.turnChan ch).withheld.contains n then s.blankSheaf ch n 0 true
  else
    let a := s.slotAddr ch n
    if s.poisoned a s.slotBytes then s.blankSheaf ch n 0 true
    else
      let b := s.hbmRead a s.slotBytes
      let w := s.sampleBytes
      let xs := samplesIn s.width8 s.nHeld (b.drop 32)
      let vs := (List.range s.nHeld).map (fun i => bitAt (byteAt b (32 + s.nHeld * w + i / 8)) (i % 8))
      let fl := fieldAt b 8 2
      let mark := s.weed.marks.contains (ch, n)
      let settling := bitAt fl 8 && !s.flag Reg.HARROW_CFG Fld.HARROW_CFG_SETTLE_CORR
      let pa := s.planeAddr ch (n / s.skLen)
      let bad := s.weedOn && s.poisoned pa s.planeBytes
      let p := if s.weedOn && !bad then s.hbmRead pa s.planeBytes else zeros s.planeBytes
      let chanFlag := bad || bitAt (byteAt p (s.nHeld / 8)) 0
      let ins := (List.range s.nHeld).map (fun i => bitAt (byteAt p (i / 8)) (i % 8))
      let flags := Nat.lor fl (b2n (ins.any id) * 2 ^ 12 + b2n chanFlag * 2 ^ 13 + b2n (s.weedOn && mark) * 2 ^ 14
        + b2n (bitAt (byteAt p (s.nHeld / 8)) 1) * 2 ^ 15)
      let full := settling || chanFlag || bitAt flags 14
      let ok := (vs.zip ins).map (fun e => e.1 && !e.2 && !full)
      ⟨{ chan := ch, k := fieldAt b 0 7, samples := (xs.zip ok).map (fun e => if e.2 then e.1 else (0, 0)), valid := ok, flags := flags },
        full, false, if settling then 0 else ((vs.zip ok).filter (fun e => e.1 && !e.2)).length⟩

/-- The sheaves of a pass. Log: 52 (DEDUCED). -/
def readPass (s : State) (ch q : Nat) : List PassSheaf := (List.range s.turnT).map (fun i => s.readSheaf ch (q * s.turnT + i))

/-- A pass's checks have ended (R159): its slots are no longer retained, and its marks and withheld positions are given up. -/
def releasePass (s : State) (ch q : Nat) : State :=
  let x := s.turnChan ch
  let t := s.turnT
  let s := s.setTurnChan ch { x with
    live := x.live.filter (fun p => p != q)
    withheld := x.withheld.filter (fun n => n / t != q) }
  let s := { s with weed := { s.weed with marks := s.weed.marks.filter (fun e => !(e.1 == ch && e.2 / t == q)) } }
  s.showMargin ch

end State

end Sys2Proof.Machine
end

