-- ==== Sys2Proof/Machine/Weeder.lean ====
section
/-! DEFINITION. The weeder (spec/05_weeder.md, R517): spectral kurtosis, trackers, block decisions, flag-plane entries, reports, and
WEED_CTL. -/

namespace Sys2Proof.Machine

/-- Spectral kurtosis in Q4.12 (R138); none when the input-block is not judged. -/
def kurtosis (s1 s2 n : Nat) : Option Nat :=
  if n < 2 ∨ s1 = 0 then none
  else some (min ((n + 1) * (n * s2 - s1 * s1) * 4096 / ((n - 1) * s1 * s1)) 0xFFFF)

/-- Upper and lower threshold of trackers (R139). -/
def upperOf (m dev kHi : Nat) : Nat := min (m + kHi * dev / 16) 0xFFFF
def lowerOf (m dev kLo : Nat) : Nat := m - kLo * dev / 16

/-- One judged value moves the trackers (R139): m, dev. -/
def trackStep (step lo hi dMax : Nat) (t : Nat × Nat) (q : Nat) : Nat × Nat :=
  let m := if t.1 < q then min (t.1 + step) hi else if q < t.1 then max (t.1 - step) lo else t.1
  let a := if m ≤ q then q - m else m - q
  let dev := if t.2 < a then min (t.2 + step) dMax else if a < t.2 then max (t.2 - step) 1 else t.2
  (m, dev)

/-- The sheaf-power tracker moves toward a target by at most a step (R142). -/
def pmStep (step pm target : Nat) : Nat :=
  let v := if pm < target then pm + min step (target - pm) else pm - min step (pm - target)
  max 1 (min v 0xFFFFFFFF)

namespace State

/-- What a commit loads every channel's weeder with: WEED_TRACK, WEED_PM_INIT, WEED_THRESH and FREEZE (R140). Log: 51 (DESIGN CHOICE). -/
def weedInit (s : State) : WeedChan :=
  { m := s.get Reg.WEED_TRACK Fld.WEED_TRACK_M_INIT
    dev := max 1 (s.get Reg.WEED_TRACK Fld.WEED_TRACK_D_INIT)
    pm := max 1 (s.full Reg.WEED_PM_INIT)
    frozen := s.flag Reg.WEED_CFG Fld.WEED_CFG_FREEZE
    kHi := s.get Reg.WEED_THRESH Fld.WEED_THRESH_K_HI
    kLo := s.get Reg.WEED_THRESH Fld.WEED_THRESH_K_LO
    kP := s.get Reg.WEED_THRESH Fld.WEED_THRESH_K_P }

/-- A channel's weeder. -/
def weedChan (s : State) (ch : Nat) : WeedChan := (mapFind s.weed.chans ch).getD (s.weed.init.getD {})

/-- Replace it. -/
def setWeedChan (s : State) (ch : Nat) (x : WeedChan) : State :=
  { s with weed := { s.weed with chans := mapPut s.weed.chans ch x } }

/-! ### WEED_CTL (R151) -/

/-- A WEED_CTL on a channel, in the order load, thresholds, freeze or unfreeze. -/
def weedApply (d : List Byte) (x : WeedChan) : WeedChan :=
  let a := byteAt d 40
  let x := if bitAt a 0 then { x with m := fieldAt d 42 2, dev := max 1 (fieldAt d 44 2), pm := max 1 (fieldAt d 48 4) } else x
  let x := if bitAt a 1 then { x with kHi := byteAt d 52, kLo := byteAt d 53, kP := byteAt d 54 } else x
  if bitAt a 2 then { x with frozen := true } else if bitAt a 3 then { x with frozen := false } else x

/-- The part of a WEED_CTL for one kind of action, so that several at one boundary apply in the order load, thresholds, freeze. -/
def weedPart (d : List Byte) (mask : Nat) : List Byte := bytesPut d 40 (le 1 (Nat.land (byteAt d 40) mask))

/-- The jobs due at a block of a channel. -/
def weedJobs (s : State) (ch b : Nat) : State :=
  let due (j : WeedJob) : Bool := mapFind j.at_ ch == some b
  let js := s.weed.jobs.filter due
  let x := [1, 2, 12].foldl (fun x m => js.foldl (fun x j => weedApply (weedPart j.desc m) x) x) (s.weedChan ch)
  let s := if js.isEmpty then s else s.setWeedChan ch x
  let jobs := s.weed.jobs.map (fun j => if due j then { j with at_ := mapDel j.at_ ch } else j)
  let s := s.each (jobs.filter (·.at_.isEmpty)) (fun s j => s.finish j.ref { late := j.late, aux := j.top })
  { s with weed := { s.weed with jobs := jobs.filter (fun j => !j.at_.isEmpty) } }

/-- Hand a WEED_CTL over: on each correlated channel of its range the first block boundary at or after k not yet begun. Where the weeder is
not enabled no block begins, and the command waits until the device stops. Log: 215 (DESIGN CHOICE). -/
def weedHand (s : State) (ref : CmdRef) (d : List Byte) : State :=
  let a := byteAt d 40
  let c0 := fieldAt d 36 2
  let n := fieldAt d 38 2
  if n = 0 ∨ 4096 < c0 + n ∨ (bitAt a 2 ∧ bitAt a 3) then s.finishSt ref St.BAD_PARAM
  else
    let k := descK d
    let chs := ((List.range n).map (· + c0)).filter s.isCorr
    let place (ch : Nat) : Nat × Bool :=
      let want := ceilDiv (ceilDiv (k - s.firstIndex ch) (s.chanStep ch)) s.skLen
      let b := ceilDiv (s.weedChan ch).seen s.skLen
      if want < b then (b, true) else (want, false)
    let at_ := chs.map (fun ch => (ch, (place ch).1))
    let top := (at_.map (fun e => s.indexOf e.1 (e.2 * s.skLen))).foldl max 0
    let late := chs.any (fun ch => (place ch).2)
    if at_.isEmpty then s.finish ref { aux := k }
    else { s with weed := { s.weed with jobs := s.weed.jobs ++ [⟨ref, d, at_, top, late⟩] } }

/-! ### Complete blocks (R144–R148, R157, R517) -/

/-- The report record of a block (R147). -/
def weedReport (s : State) (b : WeedBlock) (nothing : List Bool) : List Byte :=
  [0x57, 0x01] ++ le 2 (b.chan + 4096 * b2n b.chanFlag) ++ le 7 b.first ++ le 1 (s.get Reg.WEED_CFG Fld.WEED_CFG_LOG2_LEN)
    ++ le 2 s.nDirect ++ zeros 2 ++ le 2 b.m0 ++ le 2 b.dev0 ++ le 4 b.pm0 ++ zeros 8
    ++ slotImage.pieces8 nothing.length nothing ++ slotImage.pieces8 b.inputs.length b.inputs

/-- Input-block flags of every held input of a block: the own decisions, and for the other origins' inputs those that came with their
samples (R143). Log: 49 (DEDUCED). -/
def blockInputs (s : State) (b : WeedBlock) : List Bool :=
  (List.range s.nHeld).map (fun h =>
    let g := s.heldInput h
    if s.isDirect g then b.inputs.getD (h - s.directAt) false
    else (((b.remote.find? (fun e => e.1 == g / 4096)).map (·.2)).getD []).getD (g % 4096) false)

/-- A block's flag-plane entry is complete: it is written, its sheaf flags are noted, the report is sent, and the pass may be ready. -/
def completeBlock (s : State) (b : WeedBlock) : State :=
  let ins := s.blockInputs b
  let s := s.hbmStore 0 (s.planeAddr b.chan b.block)
    (slotImage.pieces8 ins.length ins ++ le 1 (b2n b.chanFlag + 2 * b2n b.frozen) ++ zeros 31)
  let n0 := b.block * s.skLen
  let marks := (b.sheafs.zipIdx.filter (fun e => e.1)).map (fun e => (b.chan, n0 + e.2))
  let s := { s with weed := { s.weed with marks := s.weed.marks ++ marks } }
  let rows := (b.valid.zip (b.sheafs.zip b.out)).map (fun e =>
    let left := (e.1.zip ins).filter (fun v => v.1 && !v.2)
    e.2.1 || b.chanFlag || e.2.2 || left.isEmpty)
  let s := if s.flag Reg.WEED_REPORT Fld.WEED_REPORT_EN then
      s.toRing (s.get Reg.WEED_REPORT Fld.WEED_REPORT_RING)
        { producer := 0x05, bytes := s.weedReport b rows, full := .counts (Reg.WEED_COUNT 5) }
    else s
  let x := s.turnChan b.chan
  let s := s.setTurnChan b.chan { x with planes := b.block :: x.planes }
  s.markReady b.chan (x.wr + 1)

/-- A partner's flags are merged into a block (R143, R517). -/
def mergeFlags (b : WeedBlock) (p : PeerBlock) : WeedBlock :=
  { b with
    chanFlag := b.chanFlag || p.chanFlag
    sheafs := b.sheafs.zipIdx.map (fun e => e.1 || p.sheafs.getD e.2 false)
    heard := p.origin :: b.heard
    remote := b.remote ++ [(p.origin, p.inputs)] }

/-- Complete a block once every partner has been heard. Log: 15 (DESIGN CHOICE). -/
def settleBlock (s : State) (b : WeedBlock) : State :=
  let rest := s.weed.blocks.filter (fun x => !(x.chan == b.chan && x.block == b.block))
  if s.mode = 0 ∨ s.partners.all b.heard.contains then
    ({ s with weed := { s.weed with blocks := rest } } : State).completeBlock b
  else { s with weed := { s.weed with blocks := rest ++ [b] } }

/-- A WEEDER message for every partner, and the input-block flags of the own inputs beside it (R143, R517, R539). Log: 49 (DEDUCED). -/
def sendWeeder (s : State) (b : WeedBlock) : State :=
  let msg := [0xA1] ++ le 1 s.pos ++ le 2 (b.chan + 4096 * b2n b.chanFlag + 8192 * b2n b.frozen) ++ le 7 b.first
    ++ le 1 (s.get Reg.WEED_CFG Fld.WEED_CFG_LOG2_LEN) ++ zeros 4 ++ padTo 8 (slotImage.pieces8 b.sheafs.length b.sheafs)
  let s := s.each s.partners (fun s q => s.weaveVc q 2 msg)
  { s with out := { s.out with inputFlags := s.out.inputFlags ++ s.partners.map (fun q => (q, b.chan, b.first, b.inputs)) } }

/-- The device's own decision about a block stands. -/
def ownBlock (s : State) (b : WeedBlock) : State :=
  if s.mode = 0 then s.settleBlock b
  else
    let s := s.sendWeeder b
    let key := b.chan * 2 ^ 56 + b.first
    let (mine, rest) := s.weed.early.partition (fun e => e.key == key)
    let b := mine.foldl mergeFlags b
    ({ s with weed := { s.weed with early := rest } } : State).settleBlock b

/-! ### Blocks (R137–R142, R149, R150, R603) -/

/-- A block begins: pending commands, then its thresholds. -/
def beginBlock (s : State) (ch k : Nat) : State :=
  let s := s.weedJobs ch ((s.weedChan ch).seen / s.skLen)
  let x := s.weedChan ch
  s.setWeedChan ch { x with
    first := k, m0 := x.m, dev0 := x.dev, pm0 := x.pm
    upper := upperOf x.m x.dev x.kHi, lower := lowerOf x.m x.dev x.kLo
    sums := List.replicate s.nDirect (0, 0, 0, false), calOn := false, calOff := false, calMixed := false
    valid := [], flagged := [], out := [], withheld := 0 }

/-- One sheaf's part in its block. Log: 48 (DEDUCED). -/
def weedAdd (s : State) (sh : Sheaf) : State :=
  let x := s.weedChan sh.chan
  let calFlag := bitAt sh.flags 3
  let settling := bitAt sh.flags 8 && !s.flag Reg.HARROW_CFG Fld.HARROW_CFG_SETTLE_CORR
  let xs := (s.directPart sh.samples).zip (s.directPart sh.valid)
  let ps := xs.map (fun e => (e.1.1 * e.1.1 + e.1.2 * e.1.2).toNat)
  let x := { x with calOn := x.calOn || calFlag, calOff := x.calOff || !calFlag, calMixed := x.calMixed || bitAt sh.flags 4 }
  let sums := (x.sums.zip (ps.zip xs)).map (fun e =>
    let (s1, s2, n, bad) := e.1
    if !e.2.2.2 then (s1, s2, n, true)
    else if settling then (s1, s2, n, bad)
    else (s1 + e.2.1, s2 + e.2.1 * e.2.1, n + 1, bad))
  let live := (ps.zip xs).filter (fun e => e.2.2)
  let total := (live.map (·.1)).sum
  let ns := live.length
  let exempt := settling || ns == 0 || (calFlag && s.flag Reg.WEED_CFG Fld.WEED_CFG_CAL_EXEMPT)
  let exceeds := !exempt && decide (x.kP * x.pm * ns < total * 4096)
  let hit := exceeds && s.flag Reg.WEED_CFG Fld.WEED_CFG_SHEAF_EN
  let pm := if exempt || x.frozen then x.pm else pmStep (s.get Reg.WEED_STEP Fld.WEED_STEP_PSTEP) x.pm (total * 256 / ns)
  (s.setWeedChan sh.chan { x with
    sums := sums, pm := pm, seen := x.seen + 1
    valid := x.valid ++ [if settling then [] else sh.valid], flagged := x.flagged ++ [hit], out := x.out ++ [settling] }).count
      (Reg.WEED_COUNT 4) (b2n hit)

/-- A withheld sheaf keeps its position only (R603). Log: 48 (DEDUCED). -/
def weedSkip (s : State) (ch : Nat) : State :=
  let x := s.weedChan ch
  s.setWeedChan ch { x with
    seen := x.seen + 1, withheld := x.withheld + 1
    valid := x.valid ++ [[]], flagged := x.flagged ++ [false], out := x.out ++ [true] }

/-- A block ends: its input-blocks are judged, the trackers move, and the decision stands. A withheld sheaf makes no input-block invalid, so
the test n < 2 of R141 counts it as if it had been there (R603). Log: 214 (DEDUCED). -/
def endBlock (s : State) (ch : Nat) : State :=
  let x := s.weedChan ch
  let cfg (f : Fld) : Bool := s.flag Reg.WEED_CFG f
  let exempt := cfg Fld.WEED_CFG_CAL_EXEMPT && ((x.calOn && x.calOff) || x.calMixed)
  let qs := x.sums.map (fun e => if exempt then none else kurtosis e.1 e.2.1 e.2.2.1)
  let verdict := (qs.zip x.sums).map (fun e =>
    let high := cfg Fld.WEED_CFG_SK_EN && e.1.any (fun q => decide (x.upper < q))
    let low := cfg Fld.WEED_CFG_SK_EN && e.1.any (fun q => decide (q < x.lower))
    let bad := cfg Fld.WEED_CFG_BLOCK_INVALID && (e.2.2.2.2 || decide (e.2.2.2.1 + x.withheld < 2))
    if high then 1 else if low then 2 else if bad then 3 else 0)
  let s := s.each [1, 2, 3] (fun s i => s.count (Reg.WEED_COUNT (i - 1)) (verdict.filter (fun v => v == i)).length)
  let hits := (verdict.filter (fun v => v != 0)).length
  let spread := s.get Reg.WEED_CFG Fld.WEED_CFG_SPREAD
  let chanFlag := decide (spread ≠ 0) && decide (spread ≤ hits)
  let s := s.count (Reg.WEED_COUNT 3) (b2n chanFlag)
  let (m, dev) := if x.frozen then (x.m, x.dev) else
    (qs.filterMap id).foldl (trackStep (s.get Reg.WEED_STEP Fld.WEED_STEP_STEP) (s.get Reg.WEED_LIMIT Fld.WEED_LIMIT_M_LO)
      (s.get Reg.WEED_LIMIT Fld.WEED_LIMIT_M_HI) (s.get Reg.WEED_STEP Fld.WEED_STEP_D_MAX)) (x.m, x.dev)
  (s.setWeedChan ch { x with m := m, dev := dev }).ownBlock
    { chan := ch, block := (x.seen - 1) / s.skLen, first := x.first, frozen := x.frozen, chanFlag := chanFlag, sheafs := x.flagged
      inputs := verdict.map (fun v => v != 0), valid := x.valid, out := x.out, m0 := x.m0, dev0 := x.dev0, pm0 := x.pm0, heard := [] }

/-- A sheaf of the correlation branch passes the weeder; none is one that R27 withholds. Answers whether R142 flags it. -/
def weedSheaf (s : State) (ch k : Nat) (sh : Option Sheaf) : State × Bool :=
  if !s.weedOn then (s, false)
  else
    let s := if (s.weedChan ch).seen % s.skLen = 0 then s.beginBlock ch k else s
    let s := match sh with
      | some x => s.weedAdd x
      | none => s.weedSkip ch
    let hit := (s.weedChan ch).flagged.getLast?.getD false
    (if (s.weedChan ch).seen % s.skLen = 0 then s.endBlock ch else s, hit)

/-! ### Turning write (R156, R158, R160) -/

/-- Note the withheld sheaves of a channel that stand first in its queue: they keep their positions in the weeder's blocks too (R603). -/
def noteWithheld (s : State) (ch : Nat) : Nat → State
  | 0 => s
  | fuel + 1 =>
    match s.turn.queue.find? (fun e => e.1 == ch) with
    | some (_, none) =>
      let i := s.turn.queue.findIdx (fun e => e.1 == ch)
      let s := { s with turn := { s.turn with queue := s.turn.queue.eraseIdx i } }
      let s := (s.weedSheaf ch (s.indexOf ch (s.turnChan ch).wr) none).1
      let x := s.turnChan ch
      (s.setTurnChan ch { x with wr := x.wr + 1, withheld := x.withheld ++ [x.wr] }).noteWithheld ch fuel
    | _ => s

/-- A sheaf of the channel was written or noted: later ones, readiness and margins follow. -/
def wrote (s : State) (ch : Nat) : State :=
  let s := s.noteWithheld ch s.turn.queue.length
  let s := if (s.turnChan ch).waiting && !s.turn.queue.any (fun e => e.1 == ch) then
      s.setTurnChan ch { s.turnChan ch with waiting := false } else s
  (s.markReady ch ((s.turnChan ch).wr + 1)).showMargin ch

/-- Write the channel's oldest waiting sheaf past the weeder into its slot, or wait for a retained slot (R160), or for room in the write queues
(R373). The sheaf that ends a block is judged with it, so no decision runs ahead of the sheaves in the ring. -/
def turnWrite (s : State) (ch : Nat) : State :=
  match s.turn.queue.find? (fun e => e.1 == ch) with
  | some (_, some sh) =>
    let x := s.turnChan ch
    if s.slotKept ch then
      if x.waiting then s
      else ((s.setTurnChan ch { x with waiting := true }).count (Reg.TURN_COUNT 0)).raise Ev.TURN_WRITE_WAIT ch
    else if s.portWaits 0 then s
    else
      let i := s.turn.queue.findIdx (fun e => e.1 == ch)
      let s := { s with turn := { s.turn with queue := s.turn.queue.eraseIdx i } }
      let (s, hit) := s.weedSheaf ch sh.k (some sh)
      let s := s.hbmStore 0 (s.slotAddr ch x.wr) (s.slotImage { sh with flags := Nat.lor sh.flags (b2n hit * 2 ^ 14) })
      (s.setTurnChan ch { s.turnChan ch with wr := x.wr + 1 }).wrote ch
  | some (_, none) => s.wrote ch
  | none => s

/-- Deliver a sheaf to the correlation branch (R23, R27): it is withheld when the backlog has used the reserve, until the backlog
is below half of it; otherwise it waits for its turning write. -/
def toCorr (s : State) (sh : Sheaf) : State :=
  let reserve := s.get Reg.INGEST_RESERVE Fld.INGEST_RESERVE_CORR_MIB * 2 ^ 20
  let size := s.nHeld * s.sampleBytes
  let backlog := (s.turn.queue.filter (fun e => e.2.isSome)).length * size
  let was := s.ingest.holding.1
  let hold := if was then decide (reserve ≤ 2 * backlog) else decide (reserve < backlog + size)
  let s := { s with ingest := { s.ingest with
    holding := (hold, s.ingest.holding.2)
    withheld := (s.ingest.withheld.1 + b2n hold, s.ingest.withheld.2) } }
  let s := s.raiseIf (hold && !was) Ev.INGEST_BRANCH_LOSS 0
  let s := { s with turn := { s.turn with queue := s.turn.queue ++ [(sh.chan, if hold then none else some sh)] } }
  if hold && (s.turn.queue.filter (fun e => e.1 == sh.chan)).length == 1 then s.wrote sh.chan else s

/-- FLAG_WAIT_US after the own decision (R517): the block counts as flagged at channel-block level. -/
def flagTimeout (s : State) (ch : Nat) : State :=
  match s.weed.blocks.find? (fun b => b.chan == ch) with
  | some b =>
    let q := (s.partners.find? (fun q => !b.heard.contains q)).getD 0
    let s := (s.count (Reg.WEAVE_COUNT 2)).raise Ev.WEAVE_FLAG_TIMEOUT (q + ch * 4)
    let rest := s.weed.blocks.filter (fun x => !(x.chan == b.chan && x.block == b.block))
    ({ s with weed := { s.weed with blocks := rest } } : State).completeBlock { b with chanFlag := true }
  | none => s

/-- A partner's WEEDER message, with the input-block flags that travel beside it (R143, R517, R539). Log: 49 (DEDUCED). -/
def weederMsg (s : State) (m : List Byte) (inputs : List Bool) : State :=
  let q := byteAt m 1 % 4
  let ch := fieldAt m 2 2 % 4096
  let chanFlag := bitAt (fieldAt m 2 2) 12
  let first := fieldAt m 4 7
  let bits := (List.range (2 ^ byteAt m 11)).map (fun i => bitAt (byteAt m (16 + i / 8)) (i % 8))
  let p : PeerBlock := ⟨ch * 2 ^ 56 + first, q, chanFlag, bits, inputs⟩
  match s.weed.blocks.find? (fun b => b.chan == ch && b.first == first) with
  | some b => s.settleBlock (mergeFlags b p)
  | none =>
    if first < (s.weedChan ch).first then s
    else { s with weed := { s.weed with early := s.weed.early ++ [p] } }

end State

open State

/-- WEED_CTL (R151): ring command 0x20. Log: 50 (DEDUCED). -/
def execWeedCtl (src : CmdSrc) (s : State) : Result := ok (s.keyedCommand src 0x20 (fun ref d _ s => s.weedHand ref d))

/-- WEED_PROBE_SK_READ (R139): m and dev of the probed channel, 0 before a commit has loaded them; pm is captured. -/
def execWeedProbeSkRead (s : State) : Result :=
  let x := s.weedChan (s.get Reg.WEED_PROBE_SEL Fld.WEED_PROBE_SEL_CHANNEL)
  let v := if s.weed.init.isSome then x.m + x.dev * 65536 else 0
  let p := if s.weed.init.isSome then x.pm else 0
  ok (s.answer Reg.WEED_PROBE_SK v (fun s => (s.wrN Reg.WEED_PROBE_SK v).wrN Reg.WEED_PROBE_PM p))

/-- TURNING_WRITE (R139, R156–R158, R160). -/
def execTurningWrite (channel : Chan) (s : State) : Result := ok (s.turnWrite channel)

/-- FLAG_WAIT_TIMEOUT (R517). -/
def execFlagWaitTimeout (channel : Chan) (s : State) : Result := ok (s.flagTimeout channel)

end Sys2Proof.Machine
end

