-- ==== Sys2Proof/Machine/Granary.lean ====
section
/-! DEFINITION. The granary (spec/08_accumulation_and_harvest.md): tiles, groups and their integrations, the bank decision, adding a
spill with saturation, sample counts, GRAN_START and GRAN_STOP. Harvests are in Harvest.lean. -/

namespace Sys2Proof.Machine

namespace State

/-! ### Tiles (R169–R171, R512, R515) -/

/-- Number of 64-input groups of the whole array, G. Log: 55 (DEDUCED). -/
def tileGroups (s : State) : Nat := ceilDiv s.nAll 64

/-- Global number of tile (a, b) (R170). -/
def tileNumber (g a b : Nat) : Nat := a * g - a * (a - 1) / 2 + (b - a)

/-- Does this device hold tile (a, b)? A single device holds every tile. -/
def ownsTile (s : State) (a b : Nat) : Bool :=
  let pa := a / 64
  let pb := b / 64
  let r := a % 64
  if s.mode = 0 then true
  else if s.mode = 1 then
    if pa = pb then pa == s.pos else (if r < 32 then s.pos == 0 else s.pos == 1)
  else match pa, pb with
    | 0, 2 => s.pos == (if r < 32 then 0 else 2)
    | 1, 3 => s.pos == (if r < 32 then 1 else 3)
    | 0, 3 => s.pos == 3
    | a, _ => s.pos == a

/-- The held tiles (a, b) in ascending tile number. Log: 55 (DEDUCED). -/
def heldTiles (s : State) : List (Nat × Nat) :=
  let g := s.tileGroups
  ((List.range g).flatMap (fun a => (List.range (g - a)).map (fun i => (a, a + i)))).filter (fun t => s.ownsTile t.1 t.2)

/-- Held tiles of a device, ntile, and its visibilities per channel, V. -/
def nTiles (s : State) : Nat := s.heldTiles.length
def nVis (s : State) : Nat := (s.heldTiles.map (fun t => if t.1 = t.2 then 2080 else 4096)).sum

/-- Place of a global input among the held ones. -/
def heldIndex (s : State) (g : Nat) : Option Nat :=
  if s.isHeld g then some (s.heldPlanes.findIdx (fun p => p == g / 4096) * s.planeSize + g % 4096) else none

/-! ### Groups (R213) -/

/-- A group outside its registers. -/
def grp (s : State) (g : Nat) : GrpSt := (mapFind s.gran.groups g).getD {}

/-- Replace it. -/
def setGrp (s : State) (g : Nat) (x : GrpSt) : State :=
  { s with gran := { s.gran with groups := mapSet {} s.gran.groups g x } }

def grpOn (s : State) (g : Nat) : Bool := s.flag Reg.GRAN_CFG Fld.GRAN_CFG_ENABLE && s.flag (Reg.GRAN_GRP_CFG g) Fld.GRAN_GRP_CFG_ENABLE
def grpP (s : State) (g : Nat) : Nat := s.get (Reg.GRAN_GRP_CFG g) Fld.GRAN_GRP_CFG_PASSES
def grpDeep (s : State) (g : Nat) : Bool := s.flag (Reg.GRAN_GRP_CFG g) Fld.GRAN_GRP_CFG_DEEP
def grpFirst (s : State) (g : Nat) : Nat := s.get (Reg.GRAN_GRP_CHAN g) Fld.GRAN_GRP_CHAN_FIRST
def grpCount (s : State) (g : Nat) : Nat := s.get (Reg.GRAN_GRP_CHAN g) Fld.GRAN_GRP_CHAN_COUNT
def grpChans (s : State) (g : Nat) : List Nat := (List.range (s.grpCount g)).map (· + s.grpFirst g)
def grpHas (s : State) (g ch : Nat) : Bool := s.grpOn g && decide (s.grpFirst g ≤ ch) && decide (ch < s.grpFirst g + s.grpCount g)

/-- GRAN_GRP_STATE.STATE: 0 IDLE, 1 WAITING, 2 RUNNING, 3 STOPPED. -/
def grpState (s : State) (g : Nat) : Nat := s.get (Reg.GRAN_GRP_STATE g) Fld.GRAN_GRP_STATE_STATE

/-- Time of the first sheaf of a pass of a group, in 2^-16 ns. -/
def passTime (s : State) (g q : Nat) : Nat :=
  let ch := s.grpFirst g
  (s.chanTime ch (s.indexOf ch (q * s.turnT))).units

/-- Lowest pass whose first sheaf is at or after a time (R214): bisection over [lo, hi). Log: 68 (DEDUCED). -/
def passAfter (s : State) (g t : Nat) : Nat → Nat → Nat → Nat
  | 0, lo, _ => lo
  | fuel + 1, lo, hi =>
    if hi ≤ lo then lo
    else
      let mid := (lo + hi) / 2
      if t ≤ s.passTime g mid then s.passAfter g t fuel lo mid else s.passAfter g t fuel (mid + 1) hi

/-- q0 of a START time, and whether the pass that START names has already reached the granary (R214, R216). -/
def startPass (s : State) (g t : Nat) : Nat × Bool :=
  let named := s.passAfter g t 64 0 (2 ^ 62)
  let top := (s.grp g).top
  (max named top, decide (named < top))

end State

/-- The passes that an integration holds so far. -/
def Bank.has (b : Bank) (q : Nat) : Bool := decide (b.first ≤ q) && decide (q ≤ b.last)

/-- PASSES of an integration. -/
def Bank.passes (b : Bank) : Nat := b.last + 1 - b.first

namespace State

/-- Show a group: filling integration, banks, drain and stretch. -/
def showGrp (s : State) (g : Nat) : State :=
  let x := s.grp g
  let a := Reg.GRAN_GRP_STATE g
  let s : State := match x.fill with
    | some b =>
      let s := s.wrN (Reg.GRAN_GRP_SEQ g) b.seq
      let s := s.set a Fld.GRAN_GRP_STATE_EPOCH b.epoch
      s.wrN (Reg.GRAN_GRP_PASSES g) (min x.top (b.last + 1) - b.first)
    | none => s.wrN (Reg.GRAN_GRP_PASSES g) 0
  let str := x.fill.any (·.stretched)
  let s := s.setFlag a Fld.GRAN_GRP_STATE_STRETCH str
  let s := s.set Reg.GRAN_STATUS ⟨Fld.GRAN_STATUS_STRETCHING.lo + g, 1⟩ (b2n str)
  if x.drain.isNone then
    (s.set a Fld.GRAN_GRP_STATE_DRAIN 0).set Reg.GRAN_STATUS ⟨Fld.GRAN_STATUS_HOLDING.lo + g, 1⟩ 0
  else if s.get a Fld.GRAN_GRP_STATE_DRAIN = 0 then s.set a Fld.GRAN_GRP_STATE_DRAIN 1 else s

/-- What follows the bank decision that begins group 0's next integration: error counts return to 0 (R32), the placement loop is
due (R199), the twin pair takes its snapshot (R529). -/
def cycleEnd (s : State) : State :=
  let s := s.each (List.range 272) (fun s f => s.set (Reg.CORR_FURROW (f / 68) (f % 68)) Fld.CORR_FURROW_ERRORS 0)
  ({ s with corr := { s.corr with placeRun := true } } : State).takeSnapshot

/-- A group's next integration begins at pass q (R215, R219, R570). -/
def beginIntegration (s : State) (g q : Nat) : State :=
  let x := s.grp g
  let seq := s.full (Reg.GRAN_GRP_SEQ g)
  let ep := s.get (Reg.GRAN_GRP_STATE g) Fld.GRAN_GRP_STATE_EPOCH
  let (seq, ep) := if x.fresh then (seq, ep) else if seq = 2 ^ 32 - 1 then (0, ep + 1) else (seq + 1, ep)
  let lastOne := decide (seq = 2 ^ 32 - 1) && decide (ep = 0xFFFF)
  let b : Bank := { seq := seq, epoch := ep, first := q, last := q + s.grpP g - 1, late := x.lateStart }
  let s := s.setGrp g { x with
    fill := some b, decided := q + s.grpP g, fresh := false, lateStart := false
    stopping := x.stopping || lastOne, exhausted := x.exhausted || lastOne }
  let s := s.set (Reg.GRAN_GRP_STATE g) Fld.GRAN_GRP_STATE_STATE 2
  let bank := s.get (Reg.GRAN_GRP_STATE g) Fld.GRAN_GRP_STATE_FILL_BANK
  let s := if x.fresh then s else s.set (Reg.GRAN_GRP_STATE g) Fld.GRAN_GRP_STATE_FILL_BANK (1 - bank)
  if g = 0 ∧ !x.fresh then s.cycleEnd else s

/-- A pass stretches the filling integration (R220), or is skipped when it holds the most passes there are (R571). -/
def stretch (s : State) (g q : Nat) : State :=
  let x := s.grp g
  match x.fill with
  | none => s
  | some b =>
    if b.passes = 2 ^ 32 - 1 then s.setGrp g { x with decided := q + 1 }
    else
      let s := (s.setGrp g { x with fill := some { b with last := q, stretched := true }, decided := q + 1 }).count (Reg.GRAN_GRP_COUNT g 1)
      s.raiseIf (!b.stretched) Ev.GRAN_STRETCH (g + s.grpFirst g * 8 + b.seq * 2 ^ 15)

/-- In a weave, was every device's drain of the integration before `b` complete before time t (R518)? None: a partner's status is
still missing. -/
def weaveIdle (s : State) (g : Nat) (b : Bank) (t : Nat) : Option Bool :=
  let k := b.epoch * 2 ^ 32 + b.seq
  if k = 0 then some true
  else
    let known := s.partners.map (fun q => s.gran.peers.find? (fun p => p.pos == q && decide (t ≤ p.stamp)))
    if known.any (·.isNone) then none
    else
      let own := (s.grp g).drained.any (fun d => decide (k ≤ d.2.1 * 2 ^ 32 + d.1 + 1) && decide (d.2.2 < t))
      some (own && known.all (fun p => p.any (fun p =>
        let e := p.groups.getD g ⟨0, 0, 0, 0⟩
        decide (k ≤ e.epoch * 2 ^ 32 + e.seq + 1) && decide (e.done < t))))

/-- The bank decision for pass q of a running group (R219, R518, R570). -/
def decidePass (s : State) (g q : Nat) : State :=
  let x := s.grp g
  if x.stopping ∨ x.stopAt.any (fun p => decide (p ≤ q)) then
    let s := s.setGrp g { x with decided := q + 1, stopping := true, stopAt := none }
    if x.fill.isNone then s.set (Reg.GRAN_GRP_STATE g) Fld.GRAN_GRP_STATE_STATE 3 else s
  else match x.fill with
    | none => s.beginIntegration g q
    | some b =>
      if x.old.isSome then s.stretch g q
      else
        match (if s.mode = 0 then some true else s.weaveIdle g b (s.passTime g q)) with
        | some true => (s.setGrp g { x with old := some b, fill := none }).beginIntegration g q
        | some false => s.stretch g q
        | none => s.setGrp g { x with waits := true }

/-- Has an integration's last pass reached the adder on every channel of its group?. Log: 66 (DEDUCED). -/
def bankWhole (s : State) (g : Nat) (b : Bank) : Bool :=
  (s.grpChans g).all (fun ch => decide (b.last < (mapFind (s.grp g).reached ch).getD 0))

/-- A GRAN_STOP completes when every group that it ends has ended (R216, R352). -/
def endStops (s : State) : State :=
  let left (m : Nat) : Nat := ((List.range 8).map (fun g => if bitAt m g && (s.grpState g == 1 || s.grpState g == 2) then 2 ^ g else 0)).sum
  let done := s.gran.stops.filter (fun e => left e.2 == 0)
  let s' := s.each done (fun s e => s.finish e.1 {})
  { s' with gran := { s'.gran with stops := s'.gran.stops.filter (fun e => left e.2 != 0) } }

/-- Begin the drains that are due (R219, R220): a whole integration whose other bank is idle. In a weave an integration ends only by a
decision or a stop, since the devices may still agree to stretch it (R518). A group that is to stop has stopped. Log: 66 (DEDUCED). -/
def startDrain (s : State) (g : Nat) : State :=
  let x := s.grp g
  let x := match x.old, x.fill with
    | none, some b => if s.bankWhole g b && (s.mode == 0 || x.stopping) then { x with old := some b, fill := none } else x
    | _, _ => x
  let moved := x.fill.isNone && (s.grp g).fill.isSome
  let x := match x.old, x.drain with
    | some b, none => if s.bankWhole g b then { x with drain := some { next := s.grpFirst g } } else x
    | _, _ => x
  let s := s.setGrp g x
  let s := if moved && x.stopping then s.set (Reg.GRAN_GRP_STATE g) Fld.GRAN_GRP_STATE_STATE 3 else s
  (s.showGrp g).endStops

/-- Take every decision that is due, in order. Log: 66 (DEDUCED). -/
def decideDue (s : State) (g : Nat) : Nat → State
  | 0 => s
  | fuel + 1 =>
    let x := s.grp g
    if s.grpState g = 1 ∧ x.q0 < x.top then (s.beginIntegration g x.q0).decideDue g fuel
    else if s.grpState g = 2 ∧ !x.waits ∧ x.decided < x.top then (s.decidePass g x.decided).decideDue g fuel
    else s

/-- A spill of pass q of a channel reaches the granary adder, to be added or held; `whole` is the last one of the pass.
Log: 56 (DEDUCED). -/
def spillReached (s : State) (ch q : Nat) (whole : Bool) : State :=
  s.each ((List.range 8).filter (fun g => s.grpHas g ch)) (fun s g =>
    let x := s.grp g
    let s := s.setGrp g { x with
      top := max x.top (q + 1)
      reached := if whole then mapPut x.reached ch (max (q + 1) ((mapFind x.reached ch).getD 0)) else x.reached }
    (s.decideDue g ((s.grp g).top + 2)).startDrain g)

/-- Is a decision outstanding that a pass waits for (R518)? -/
def passUndecided (s : State) (ch q : Nat) : Bool :=
  (List.range 8).any (fun g => s.grpHas g ch && (s.grp g).waits && decide ((s.grp g).decided ≤ q))

/-- The groups that a pass feeds, as a mask. -/
def passGroups (s : State) (ch q : Nat) : Nat :=
  ((List.range 8).map (fun g =>
    let x := s.grp g
    if s.grpHas g ch && (x.fill.any (·.has q) || x.old.any (·.has q)) then 2 ^ g else 0)).sum

/-! ### Adding (R207, R210–R212, R227, R384) -/

end State

/-- One component added with saturation (R210): value, saturation bit, newly set. A poisoned word takes the spill alone and sets
the bit (R384). Log: 73 (DEDUCED). -/
def addSat (lim a x : Int) (f first poison : Bool) : Int × Bool × Bool :=
  let v := if first || poison then x else a + x
  let f0 := !first && f
  let exceeds := decide (lim < v) || decide (v < -lim)
  let f1 := f0 || exceeds || (poison && !first)
  (clampI (-lim) lim v, f1, f1 && !f0)

/-- A pass's sample counts and excluded sheaves (R206, R227). -/
def passCounts (n : Nat) (l : List PassSheaf) : List Nat × Nat :=
  ((List.range n).map (fun i => (l.filter (fun p => p.sheaf.valid.getD i false)).length),
    (l.filter (fun p => !p.sheaf.valid.any id)).length)

namespace State

/-- Add a tile's spill into one bank. `poison` lists poisoned components of the tile's words, `badCounts` poisoned counts. -/
def addTile (s : State) (g : Nat) (b : Bank) (t : TileSum) (f : Flight) (poison badCounts : List Nat) : Bank × State :=
  let c := (mapFind b.chans t.chan).getD {}
  let first := t.pass == b.first
  let lim : Int := if s.grpDeep g then 2 ^ 63 - 1 else 2 ^ 31 - 1
  let old := (mapFind c.words t.tile).getD []
  let oldSat := (mapFind c.sat t.tile).getD []
  let sums := t.words.zipIdx.map (fun e =>
    let w := old.getD e.2 (0, 0)
    let p := oldSat.getD e.2 (false, false)
    (addSat lim w.1 e.1.1 p.1 first (poison.contains (2 * e.2)), addSat lim w.2 e.1.2 p.2 first (poison.contains (2 * e.2 + 1))))
  let diag := (s.heldTiles.getD t.tile (0, 1)).1 == (s.heldTiles.getD t.tile (0, 1)).2
  let used (i : Nat) : Bool := !diag || decide (i / 64 ≤ i % 64)
  let fresh := ((sums.zipIdx.filter (fun e => used e.2)).map (fun e => b2n e.1.1.2.2 + b2n e.1.2.2.2)).sum
  let newPass := !c.counted.contains t.pass
  let (ns, ex) := passCounts s.nHeld f.sheaves
  let raw := ns.zipIdx.map (fun e => if badCounts.contains e.2 && !c.counted.isEmpty then 2 ^ 32 else c.counts.getD e.2 0 + e.1)
  let sat := newPass && raw.any (fun v => decide (2 ^ 32 ≤ v))
  let nsat := if newPass then (List.range raw.length).filter (fun i => decide (2 ^ 32 ≤ raw.getD i 0) && !c.full.contains i) else []
  let c := { c with
    words := mapPut c.words t.tile (sums.map (fun e => (e.1.1, e.2.1)))
    sat := mapPut c.sat t.tile (sums.map (fun e => (e.1.2.1, e.2.2.1)))
    counts := if newPass then raw.map (satU 32) else c.counts
    countSat := c.countSat || sat
    excluded := if newPass then satU 32 (c.excluded + ex) else c.excluded
    withheld := c.withheld || f.sheaves.any (·.withheld)
    counted := if newPass then c.counted ++ [t.pass] else c.counted
    unverified := if t.unverified && !c.unverified.contains t.tile then c.unverified ++ [t.tile] else c.unverified
    recomputed := c.recomputed || t.recomputed
    full := c.full ++ nsat
    added := c.added + 1 }
  let s := (s.count (Reg.GRAN_GRP_COUNT g 2) fresh).count (Reg.GRAN_GRP_COUNT g 5) nsat.length
  let s := s.raiseIf (decide (0 < fresh) && !b.saturated) Ev.GRAN_SATURATE (g + t.chan * 8 + b.seq * 2 ^ 15)
  ({ b with chans := mapPut b.chans t.chan c, saturated := b.saturated || decide (0 < fresh) }, s)

/-- Add a tile's spill into every group it feeds (R206, R221). -/
def addSpill (s : State) (t : TileSum) (f : Flight) (poison badCounts : List Nat) : State :=
  let s := s.setFlag Reg.GRAN_STATUS Fld.GRAN_STATUS_RUNNING true
  s.each ((List.range 8).filter (fun g => s.grpHas g t.chan)) (fun s g =>
    let x := s.grp g
    match x.fill.filter (·.has t.pass), x.old.filter (·.has t.pass) with
    | some b, _ =>
      let (b, s) := s.addTile g b t f poison badCounts
      s.setGrp g { s.grp g with fill := some b }
    | none, some b =>
      let (b, s) := s.addTile g b t f poison badCounts
      s.setGrp g { s.grp g with old := some b }
    | none, none => s)

/-! ### Pass records (R165) -/

/-- The pass record of a flight. -/
def passRecord (s : State) (f : Flight) : List Byte :=
  let k := s.indexOf f.chan (f.pass * s.turnT)
  let held := (f.sheaves.filter (·.withheld)).length
  [0x50, 0x01] ++ le 2 (f.chan + 2 ^ 12 * b2n (decide (0 < held)) + 2 ^ 13 * b2n f.recomputed + 2 ^ 14 * b2n f.unverified)
    ++ le 7 k ++ zeros 1 ++ le 4 f.pass ++ le 2 s.turnT ++ le 2 (f.sheaves.foldl (fun a p => Nat.lor a p.sheaf.flags) 0)
    ++ le 4 (passCounts s.nHeld f.sheaves).2 ++ le 2 held ++ le 1 (s.passGroups f.chan f.pass) ++ zeros 1
    ++ (s.chanTime f.chan k).bytes ++ zeros 24

/-- Replace a flight. -/
def setFlight (s : State) (f : Flight) : State :=
  { s with corr := { s.corr with flights := s.corr.flights.map (fun x => if x.chan = f.chan ∧ x.pass = f.pass then f else x) } }

/-- Mark a flight. -/
def markFlight (s : State) (ch q : Nat) (g : Flight → Flight) : State :=
  { s with corr := { s.corr with flights := s.corr.flights.map (fun f => if f.chan = ch ∧ f.pass = q then g f else f) } }

/-- Is the bank of every group decided for a pass, so that its record can name the groups that it feeds? Its first spill has reached the adder
and no decision is outstanding (R165, R219, R518). Log: 220 (DEDUCED). -/
def groupsKnown (s : State) (f : Flight) : Bool := decide (f.coming < s.nTiles) && !s.passUndecided f.chan f.pass

/-- Records of ended passes leave in pass order per channel; a pass that owes nothing more is forgotten. Log: 220 (DEDUCED). -/
def tellPasses (s : State) : State :=
  let s := s.each s.corr.flights (fun s f =>
    let earlier := s.corr.flights.any (fun x => x.chan == f.chan && decide (x.pass < f.pass) && !x.told)
    if f.ended && !f.told && !earlier && s.groupsKnown f then
      let s := s.setFlight { f with told := true }
      if s.flag Reg.TURN_CFG Fld.TURN_CFG_PASSREC_EN then
        s.toRing (s.get Reg.TURN_PASSREC Fld.TURN_PASSREC_RING)
          { producer := 0x04, bytes := s.passRecord f, full := .counts (Reg.TURN_COUNT 1) }
      else s
    else s)
  { s with corr := { s.corr with flights := s.corr.flights.filter (fun f => !(f.told && f.owed == 0)) } }

/-! ### GRAN_START and GRAN_STOP (R216, R519, R570) -/

/-- Start masked groups at START or, relayed, at a given pass: groups that are enabled and not running; answers LATE. Log: 68 (DEDUCED). -/
def startGroups (s : State) (mask t : Nat) (pass : Option Nat) : State × Bool :=
  ((List.range 8).filter (fun g => bitAt mask g && s.grpOn g && s.grpState g != 2)).foldl (fun (acc : State × Bool) g =>
    let s := acc.1
    let (q, late) := s.startPass g t
    let q := pass.getD q
    let s := s.setGrp g { s.grp g with q0 := q, stopping := false, stopAt := none, lateStart := late }
    let s := s.set (Reg.GRAN_GRP_STATE g) Fld.GRAN_GRP_STATE_STATE 1
    ((s.decideDue g 2).showGrp g, acc.2 || late)) (s, false)

/-- Stop masked groups: one that waits stops at once, one that runs after its integration in progress. -/
def stopGroups (s : State) (mask : Nat) : State :=
  s.each ((List.range 8).filter (bitAt mask)) (fun s g =>
    if s.grpState g = 1 then s.set (Reg.GRAN_GRP_STATE g) Fld.GRAN_GRP_STATE_STATE 3
    else if s.grpState g = 2 then
      let x := s.grp g
      let s := s.setGrp g { x with stopping := true }
      if x.fill.isNone then s.set (Reg.GRAN_GRP_STATE g) Fld.GRAN_GRP_STATE_STATE 3 else s.startDrain g
    else s)

/-- The leader relays a start or a stop of a group with its pass number to every follower (R519, R539).
Log: 67 (DEDUCED), 163 (DEDUCED). -/
def relayGran (s : State) (start : Bool) (mask pass t : Nat) : State :=
  let msg := [0xB1] ++ le 1 (b2n start) ++ le 1 mask ++ zeros 1 ++ le 4 pass ++ (if start then (Stamp.ofUnits t).bytes else zeros 12)
  s.each s.partners (fun s q => s.weaveVc q 3 msg)

/-- GRAN_START's effect. Log: 67 (DEDUCED). -/
def granStart (s : State) (ref : CmdRef) (d : List Byte) : State :=
  let mask := byteAt d 36
  let st := stampAt d 40
  if !st.valid then s.finishSt ref St.TIME_FORMAT
  else if s.mode ≠ 0 ∧ s.pos ≠ 0 then s.finishSt ref St.BAD_PARAM
  else if (List.range 8).any (fun g => bitAt mask g && (s.grp g).exhausted) then s.finishSt ref St.BAD_PARAM
  else
    let s := s.each ((List.range 8).filter (fun g => s.mode != 0 && bitAt mask g && s.grpOn g)) (fun s g =>
      s.relayGran true (2 ^ g) (s.startPass g st.units).1 st.units)
    let (s, late) := s.startGroups mask st.units none
    s.finish ref { late := late }

/-- GRAN_STOP's effect. Log: 67 (DEDUCED). -/
def granStop (s : State) (ref : CmdRef) (d : List Byte) : State :=
  let mask := byteAt d 36
  if s.mode ≠ 0 ∧ s.pos ≠ 0 then s.finishSt ref St.BAD_PARAM
  else
    let s := s.each ((List.range 8).filter (fun g => s.mode != 0 && bitAt mask g && s.grpOn g)) (fun s g =>
      s.relayGran false (2 ^ g) (s.grp g).decided 0)
    let s := s.stopGroups mask
    ({ s with gran := { s.gran with stops := s.gran.stops ++ [(ref, mask)] } } : State).endStops

/-- A relayed GRAN_START or GRAN_STOP (R519). Log: 163 (DEDUCED). -/
def granRelayed (s : State) (m : List Byte) : State :=
  let mask := byteAt m 2
  let pass := fieldAt m 4 4
  if bitAt (byteAt m 1) 0 then (s.startGroups mask (stampAt m 8).units (some pass)).1
  else
    s.each ((List.range 8).filter (bitAt mask)) (fun s g =>
      let x := s.grp g
      if s.grpState g = 2 ∧ x.decided < pass then s.setGrp g { x with stopAt := some pass } else s.stopGroups (2 ^ g))

/-- DECIDE_WAIT_US while a bank decision waits (R518): the integration stretches. -/
def decideTimeout (s : State) (g : Nat) : State :=
  let x := s.grp g
  if x.waits then
    let t := s.passTime g x.decided
    let q := (s.partners.find? (fun q => !s.gran.peers.any (fun p => p.pos == q && decide (t ≤ p.stamp)))).getD 0
    let s := (s.count (Reg.WEAVE_COUNT 3)).raise Ev.WEAVE_DECISION_WAIT q
    let s := (s.setGrp g { x with waits := false }).stretch g x.decided
    ((s.decideDue g ((s.grp g).top + 2)).startDrain g).tellPasses
  else s

/-- A partner's WEAVE_STATUS lets the decisions that wait proceed (R518). -/
def statusArrived (s : State) (m : List Byte) : State :=
  let q := byteAt m 1 % 4
  let groups := (List.range 8).map (fun g =>
    let o := 16 + 24 * g
    ({ seq := fieldAt m o 4, epoch := fieldAt m (o + 4) 2, bits := byteAt m (o + 6), done := (stampAt m (o + 8)).units } : PeerGroup))
  let p : PeerStatus := { pos := q, stamp := (stampAt m 4).units, groups := groups }
  let s := { s with gran := { s.gran with peers := p :: s.gran.peers.filter (fun e => e.pos != q) } }
  (s.each (List.range 8) (fun s g =>
    let x := s.grp g
    if x.waits then ((s.setGrp g { x with waits := false }).decideDue g (x.top + 2)).startDrain g else s)).tellPasses

end State

open State

/-- GRAN_START (R216, R519): ring command 0x30. -/
def execGranStart (src : CmdSrc) (s : State) : Result := ok (s.runCommand src 0x30 (fun ref d _ s => s.granStart ref d))

/-- GRAN_STOP (R216, R519): ring command 0x31. -/
def execGranStop (src : CmdSrc) (s : State) : Result := ok (s.runCommand src 0x31 (fun ref d _ s => s.granStop ref d))
end Sys2Proof.Machine
end

