-- ==== Sys2Proof/Machine/Corr.lean ====
section
/-! DEFINITION. The correlation array (spec/07_correlation_array.md): placement, dispatch of passes, spills with their witness and parity
checks, recomputes, retirement, thermal steering, and the load-step governor. -/

namespace Sys2Proof.Machine

/-- Furrow states of CORR_FURROW. -/
def fActive : Nat := 0
def fSpare : Nat := 1
def fRecompute : Nat := 2
def fThermal : Nat := 3
def fResting : Nat := 4
def fRetiring : Nat := 5
def fRetired : Nat := 6

namespace State

/-! ### Furrows, numbered 68 × field + furrow -/

def furReg (f : Nat) : Nat := Reg.CORR_FURROW (f / 68) (f % 68)
def furState (s : State) (f : Nat) : Nat := s.get (furReg f) Fld.CORR_FURROW_STATE
def furTo (s : State) (f st : Nat) : State := s.set (furReg f) Fld.CORR_FURROW_STATE st

/-- Full activity of a furrow, and how many have it (R202). -/
def furWarm (s : State) (f : Nat) : Bool := s.flag (furReg f) Fld.CORR_FURROW_WARM
def setWarm (s : State) (f : Nat) (b : Bool) : State :=
  let n := s.get Reg.CORR_GOV_STATUS Fld.CORR_GOV_STATUS_ACTIVE
  if s.furWarm f = b then s
  else (s.setFlag (furReg f) Fld.CORR_FURROW_WARM b).set Reg.CORR_GOV_STATUS Fld.CORR_GOV_STATUS_ACTIVE (if b then n + 1 else n - 1)

/-- Idle spares of a field, ascending. Log: 59 (DEDUCED). -/
def idleSpares (s : State) (m : Nat) : List Nat := ((List.range 68).map (· + 68 * m)).filter (fun f => s.furState f == fSpare)

/-- DETAIL of a CORR event (R486). -/
def corrDetail (f cell bank ch q : Nat) : Nat := f / 68 + f % 68 * 4 + cell * 2 ^ 9 + bank * 2 ^ 15 + ch * 2 ^ 18 + q % 65536 * 2 ^ 30

/-! ### Placement (R179–R182) -/

/-- Tile slots per furrow and round. -/
def tileSlots (s : State) : Nat := if s.width8 then 4 else 8

/-- Tiles of each round for `na` listed positions: (tiles, slots). -/
def rounds (s : State) (na : Nat) : List (Nat × Nat) :=
  let cap := na * s.tileSlots
  if cap = 0 then []
  else (List.range (ceilDiv s.nTiles cap)).map (fun r =>
    let n := min cap (s.nTiles - r * cap)
    (n, ceilDiv n na))

/-- Cycles per sheaf k_r and banks b_r of a round. -/
def roundK (s : State) (sl : Nat) : Nat := if s.width8 then 4 * sl else sl
def roundB (s : State) (sl : Nat) : Nat := if s.width8 then 2 * sl else sl

/-- K of a mapping. -/
def mapK (s : State) (na : Nat) : Nat := ((s.rounds na).map (fun r => s.roundK r.2)).sum

/-- Largest number of furrows of one field among the first `n` positions. -/
def fieldMost (l : List Nat) (n : Nat) : Nat :=
  ((List.range 4).map (fun m => ((l.take n).filter (fun f => f / 68 == m)).length)).foldl max 0

/-- P: core cycles of a pass (R181). -/
def mapP (s : State) (l : List Nat) : Nat :=
  ((s.rounds l.length).map (fun r => max (s.turnT * s.roundK r.2) (64 * s.roundB r.2 * (fieldMost l (min r.1 l.length) + 1)))).sum

/-- Place of the n-th held tile on a list: furrow, round, slot. -/
def tilePlace (s : State) (l : List Nat) (n : Nat) : Nat × Nat × Nat :=
  let na := l.length
  let cap := na * s.tileSlots
  let j := n % cap
  (l.getD (j % na) 0, n / cap, j / na)

/-- The held tile at a furrow, round and slot of a list, if any. -/
def tileAt (s : State) (l : List Nat) (f round slot : Nat) : Option Nat :=
  let na := l.length
  let p := l.findIdx (fun x => x == f)
  let n := round * (na * s.tileSlots) + slot * na + p
  if p < na ∧ slot < s.tileSlots ∧ n < s.nTiles then some n else none

/-- The probe of CORR_TILE_SEL. -/
def showTile (s : State) : State :=
  let n := s.get Reg.CORR_TILE_SEL Fld.CORR_TILE_SEL_TILE
  let i := s.heldTiles.findIdx (fun t => tileNumber s.tileGroups t.1 t.2 == n)
  if i < s.nTiles ∧ s.corr.list ≠ [] then
    let (f, r, sl) := s.tilePlace s.corr.list i
    s.wrN Reg.CORR_TILE_WHERE (f / 68 + f % 68 * 4 + (if s.width8 then 2 * sl else sl) * 2 ^ 9 + r % 16 * 2 ^ 12 + 2 ^ 16)
  else s.wrN Reg.CORR_TILE_WHERE 0

/-- Show the mapping: positions, rounds, K and the capacity in kHz (R182). -/
def showMapping (s : State) : State :=
  let l := s.corr.list
  let s := s.each (List.range 272) (fun s f => s.set (furReg f) Fld.CORR_FURROW_POSITION
    (if l.contains f then l.findIdx (fun x => x == f) else 0x1FF))
  let s := s.set Reg.CORR_STATUS Fld.CORR_STATUS_LISTED l.length
  let s := s.set Reg.CORR_STATUS Fld.CORR_STATUS_ROUNDS (s.rounds l.length).length
  let s := s.set Reg.CORR_STATUS Fld.CORR_STATUS_K (s.mapK l.length)
  let p := s.mapP l
  (s.set Reg.CORR_CAPACITY Fld.CORR_CAPACITY_SHEAF_KHZ (if p = 0 then 0 else 1500000 * s.turnT / p)).showTile

/-! ### Spares and retirement (R195–R198, R200) -/

/-- Report every field that has lost its last spare (R198). Log: 63 (DEDUCED), 65 (DEDUCED). -/
def checkSpares (s : State) : State :=
  s.each (List.range 4) (fun s m =>
    let left := ((List.range 68).map (· + 68 * m)).any (fun f => let t := s.furState f; t == 1 || t == 2 || t == 3)
    if left ∨ s.corr.out.contains m then s
    else
      let s := { s with corr := { s.corr with out := m :: s.corr.out } }
      ((s.setFlag Reg.CORR_STATUS Fld.CORR_STATUS_SPARES_LOW true).raise Ev.CORR_SPARES_OUT m).selfFault 1)

/-- A furrow is RETIRED: counted and raised; the commands that named it complete. -/
def retired (s : State) (f : Nat) : State :=
  let s := ((s.furTo f fRetired).setWarm f false).count (Reg.CORR_COUNT 10)
  let s := s.raise Ev.CORR_RETIRED (corrDetail f 0 0 0 0)
  let mine := s.corr.cmds.filter (fun c => c.2 == f)
  let s := { s with corr := { s.corr with cmds := s.corr.cmds.filter (fun c => c.2 != f) } }
  (s.each mine (fun s c => s.finish c.1 {})).checkSpares

/-- A spare begins to be brought up (R203). Log: 59 (DEDUCED). -/
def bringUp (s : State) (f : Nat) : State :=
  if s.furWarm f ∨ s.corr.ramps.contains f then s else { s with corr := { s.corr with ramps := s.corr.ramps ++ [f] } }

/-- The lowest idle spare of a field that is not being brought up yet begins its ramp. Log: 59 (DEDUCED). -/
def rampSpare (s : State) (m : Nat) : State :=
  match (s.idleSpares m).find? (fun f => !s.furWarm f && !s.corr.ramps.contains f) with
  | some f => s.bringUp f
  | none => s

/-- A furrow is to be retired with a cause: one in service becomes RETIRING, and a spare for it is brought up (R203); an idle spare or a
resting furrow is RETIRED at once, a spare under recompute when that ends. Log: 62 (DEDUCED). -/
def retire (s : State) (f cause : Nat) : State :=
  let t := s.furState f
  if t = fRetired ∨ t = fRetiring then s
  else if t = fRecompute then { s with corr := { s.corr with doomed := s.corr.doomed ++ [(f, cause)] } }
  else
    let s := s.set (furReg f) Fld.CORR_FURROW_CAUSE cause
    if t = fSpare then s.retired f
    else if t = fResting then
      let pair := s.corr.resting.filter (fun p => p.1 == f)
      let s := s.each pair (fun s p => s.furTo p.2 fActive)
      ({ s with corr := { s.corr with resting := s.corr.resting.filter (fun p => p.1 != f) } } : State).retired f
    else (s.furTo f fRetiring).rampSpare (f / 68)

/-- Replace a list position. -/
def listPut (s : State) (old new : Nat) : State :=
  { s with corr := { s.corr with list := s.corr.list.map (fun f => if f = old then new else f) } }

/-- A RETIRING furrow at a dispatch: an idle spare of its field takes its position, or the THERMAL spare that a resting furrow
relieves; it stays while a spare of the field is busy; otherwise its position is removed and the array is degraded. Log: 63 (DEDUCED). -/
def replaceRetiring (s : State) (f : Nat) : State :=
  let m := f / 68
  let swap (s : State) (new : Nat) : State :=
    let s := ((s.furTo new fActive).setWarm new true).listPut f new
    let s := { s with corr := { s.corr with ramps := s.corr.ramps.filter (fun g => g != new) } }
    let pair := s.corr.resting.filter (fun p => p.2 == f)
    let s := if pair.isEmpty then s else
      { s.furTo new fThermal with corr := { s.corr with resting := s.corr.resting.map (fun p => if p.2 = f then (p.1, new) else p) } }
    s.retired f
  match s.idleSpares m with
  | [] =>
    match s.corr.resting.find? (fun p => p.1 / 68 == m && p.2 != f) with
    | some p =>
      let s := ((s.furTo p.1 fActive).setWarm p.1 true).listPut p.2 p.1
      let s := { s with corr := { s.corr with resting := s.corr.resting.filter (fun q => q != p) } }
      swap s p.2
    | none =>
      if ((List.range 68).map (· + 68 * m)).any (fun g => s.furState g == fRecompute) then s
      else
        let s := { s with corr := { s.corr with
          list := s.corr.list.filter (fun g => g != f)
          resting := s.corr.resting.filter (fun p => p.2 != f) } }
        let s := (s.setFlag Reg.CORR_STATUS Fld.CORR_STATUS_DEGRADED true).raise Ev.CORR_DEGRADED (corrDetail f 0 0 0 0)
        s.retired f
  | [a] =>
    match s.corr.resting.find? (fun p => p.1 / 68 == m && p.2 != f) with
    | some p =>
      let s := ((s.furTo p.1 fActive).setWarm p.1 true).listPut p.2 p.1
      let s := { s with corr := { s.corr with resting := s.corr.resting.filter (fun q => q != p) } }
      swap s p.2
    | none => swap s a
  | a :: _ => swap s a

/-! ### Thermal steering (R199) -/

/-- Reading of a field's quarter in 1/16 °C. -/
def quarterTemp (s : State) (m j : Nat) : Int := toS 16 (s.get (Reg.ADC_TEMP (4 * m + j)) Fld.ADC_TEMP_T16)

/-- The loop on one field: a resting furrow whose quarter has cooled takes its position back, or the hottest quarter gives up its
lowest furrow in service; at most one move. Log: 59 (DEDUCED). -/
def steerField (s : State) (m : Nat) : State :=
  let hot : Int := s.get Reg.CORR_PLACE Fld.CORR_PLACE_HOT_C
  match s.corr.resting.find? (fun p => p.1 / 68 == m && decide (s.quarterTemp m (p.1 % 68 / 17) < (hot - 5) * 16)) with
  | some p =>
    let s := ((s.furTo p.1 fActive).setWarm p.1 true).listPut p.2 p.1
    let s := (s.furTo p.2 fSpare).setWarm p.2 false
    { s with corr := { s.corr with resting := s.corr.resting.filter (fun q => q != p) } }
  | none =>
    let j := (List.range 4).foldl (fun b i => if s.quarterTemp m b < s.quarterTemp m i then i else b) 0
    let spares := (s.idleSpares m).filter (fun f => f % 68 / 17 != j)
    if s.quarterTemp m j < hot * 16 ∨ spares.length < 2 then s
    else
      match ((List.range 17).map (· + 68 * m + 17 * j)).find? (fun f => s.furState f == fActive && s.corr.list.contains f), spares with
      | some f, a :: _ =>
        let s := ((s.furTo f fResting).setWarm f false).listPut f a
        let s := (s.furTo a fThermal).setWarm a true
        let s := { s with corr := { s.corr with resting := s.corr.resting ++ [(f, a)] } }
        (s.count (Reg.CORR_COUNT 11)).raise Ev.CORR_THERMAL_MOVE (corrDetail f 0 0 0 0)
      | _, _ => s

/-- The run of the placement loop that is due (R199, R201). -/
def steer (s : State) : State :=
  if !s.corr.placeRun then s
  else
    let s := { s with corr := { s.corr with placeRun := false } }
    if s.flag Reg.CORR_CFG Fld.CORR_CFG_THERMAL_EN && !s.flag Reg.CORR_PLACE Fld.CORR_PLACE_FREEZE then s.each (List.range 4) steerField
    else s

/-! ### Dispatch (R163, R164, R191, R195, R203) -/

def corrOn (s : State) : Bool := s.flag Reg.CORR_CFG Fld.CORR_CFG_ENABLE
def corrWarm (s : State) : Bool := s.flag Reg.CORR_STATUS Fld.CORR_STATUS_WARM

/-- Apply retirements and placement changes (R195–R201). -/
def applyPlacement (s : State) : State :=
  let going := s.corr.list.filter (fun f => s.furState f == fRetiring)
  let s' := (s.each going replaceRetiring).steer
  if s'.corr.list = s.corr.list then s' else s'.showMapping

/-- May a ready channel's pass be dispatched: no earlier pass of it is under recompute (R191)? -/
def dispatchable (s : State) (ch : Nat) : Bool := !s.corr.suspects.any (fun x => x.chan == ch)

/-- The last recompute of a channel has ended: the passes that it held back take their places as if they had become ready now (R191). -/
def requeue (s : State) (ch : Nat) : State :=
  if s.dispatchable ch then
    { s with turn := { s.turn with rdy := s.turn.rdy.filter (fun c => c != ch) ++ s.turn.rdy.filter (fun c => c == ch) } }
  else s

/-- Spares that the next dispatch will put in the place of retiring furrows and whose ramp has not ended (R203): the lowest idle ones of the
field, but not its last one where a resting furrow comes back instead (R200). Log: 59 (DEDUCED). -/
def coldSpares (s : State) : List Nat :=
  (List.range 4).flatMap (fun m =>
    let n := (s.corr.list.filter (fun f => f / 68 == m && s.furState f == fRetiring)).length
    let l := s.idleSpares m
    let n := if s.corr.resting.any (fun p => p.1 / 68 == m) then min n (l.length - 1) else n
    (l.take n).filter (fun f => !s.furWarm f))

/-- Dispatch the first ready pass that may go: while the array is warm and every pass but the one that has just run has drained. It waits for
the ramp of a spare that is to replace a retiring furrow (R203), and while parts of the turning ports find their queues full (R373). The
samples zeroed for the weeder are counted as they are read (R146). Log: 52 (DEDUCED). -/
def dispatch (s : State) : State :=
  let drained := (s.corr.flights.dropLast).all (fun f => f.left.isEmpty)
  match s.turn.rdy.find? s.dispatchable with
  | none => s
  | some ch =>
    if s.running && s.corrOn && s.corrWarm && drained && !s.portWaits 0 && !s.portWaits 1 then
      let cold := s.coldSpares
      if !cold.isEmpty then s.each cold bringUp
      else
      let s := s.applyPlacement
      if s.corr.list = [] then s
      else
        let i := s.turn.rdy.findIdx (fun c => c == ch)
        let x := s.turnChan ch
        let q := x.nd
        let f : Flight := {
          chan := ch, pass := q, list := s.corr.list, sheaves := s.readPass ch q
          left := List.range s.nTiles, coming := s.nTiles, owed := s.nTiles }
        let s := s.count (Reg.WEED_COUNT 6) (f.sheaves.map (·.zeroed)).sum
        let s := { s with turn := { s.turn with rdy := s.turn.rdy.eraseIdx i } }
        let s := s.setTurnChan ch { x with nd := q + 1, live := x.live ++ [q] }
        let s := { s with corr := { s.corr with flights := s.corr.flights ++ [f] } }
        (s.setFlag Reg.CORR_STATUS Fld.CORR_STATUS_RUNNING true).setFlag Reg.TURN_STATUS Fld.TURN_STATUS_RUNNING true
    else s

/-! ### The end of a pass -/

/-- A pass whose spills have come and whose recomputes have ended is no longer retained (R159). -/
def endPasses (s : State) : State :=
  (s.each s.corr.flights (fun s f =>
    if !f.ended && f.left.isEmpty && !s.corr.suspects.any (fun x => x.chan == f.chan && x.pass == f.pass) then
      (s.setFlight { f with ended := true }).releasePass f.chan f.pass
    else s)).tellPasses

/-! ### Spills (R172–R186) -/

end State

/-- The 4,096 exact words of a tile over a pass: row input i, column input j (R169, R172, R183). -/
def tileWords (l : List PassSheaf) (row col : Nat → Option Nat) : List (Int × Int) :=
  let at_ (p : PassSheaf) (i : Option Nat) : Int × Int := (i.map (fun h => p.sheaf.samples.getD h (0, 0))).getD (0, 0)
  (List.range 4096).map (fun w =>
    l.foldl (fun (acc : Int × Int) p =>
      let a := at_ p (row (w / 64))
      let b := at_ p (col (w % 64))
      (acc.1 + a.1 * b.1 + a.2 * b.2, acc.2 + a.2 * b.1 - a.1 * b.2)) (0, 0))

/-- The witness of a tile: the sum of the products of group sums (R185). -/
def tileWitness (l : List PassSheaf) (row col : Nat → Option Nat) : Int × Int :=
  let sum (p : PassSheaf) (f : Nat → Option Nat) : Int × Int :=
    (List.range 64).foldl (fun (a : Int × Int) i =>
      let x := ((f i).map (fun h => p.sheaf.samples.getD h (0, 0))).getD (0, 0)
      (a.1 + x.1, a.2 + x.2)) (0, 0)
  l.foldl (fun (acc : Int × Int) p =>
    let a := sum p row
    let b := sum p col
    (acc.1 + a.1 * b.1 + a.2 * b.2, acc.2 + a.2 * b.1 - a.1 * b.2)) (0, 0)

/-- A spill's bank, operand buffer and spill path in one. -/
def spillReport (bank : BankReport) (buffer path : WordErrors) : SpillReport :=
  { cell := bank.cell, parity := bank.parity, bufCe := buffer.ce, bufUe := buffer.ue, pathCe := path.ce, pathUe := path.ue
    deltas := bank.deltas, witness := bank.witness }

/-- What is shown for a round and slot, if anything. -/
def shownAt {α : Type} (l : List (Nat × Nat × α)) (k : Nat × Nat) : Option α := (l.find? (fun e => e.1 == k.1 && e.2.1 == k.2)).map (·.2.2)

/-- The spills of a furrow, by round and slot, of which something is shown. -/
def spillReports (banks : List (Nat × Nat × BankReport)) (buffers paths : List (Nat × Nat × WordErrors)) : List (Nat × Nat × SpillReport) :=
  let keys := banks.map (fun e => (e.1, e.2.1)) ++ (buffers ++ paths).map (fun e => (e.1, e.2.1))
  keys.map (fun k => (k.1, k.2, spillReport ((shownAt banks k).getD {}) ((shownAt buffers k).getD {}) ((shownAt paths k).getD {})))

namespace State

/-- The exact words of a held tile of a flight. -/
def exactTile (s : State) (f : Flight) (n : Nat) : List (Int × Int) :=
  let t := s.heldTiles.getD n (0, 0)
  tileWords f.sheaves (fun r => s.heldIndex (64 * t.1 + r)) (fun c => s.heldIndex (64 * t.2 + c))

/-- The words as a furrow spills them: exact sums in the accumulators' width, with what they differ by. -/
def spilledTile (s : State) (f : Flight) (n : Nat) (r : SpillReport) : List (Int × Int) :=
  let w := if s.width8 then 48 else 24
  (s.exactTile f n).zipIdx.map (fun e =>
    let d := (r.deltas.filter (fun d => d.1 == e.2)).foldl (fun (a : Int × Int) d => (a.1 + d.2.1, a.2 + d.2.2)) (0, 0)
    (toS w (ofS w (e.1.1 + d.1)), toS w (ofS w (e.1.2 + d.2))))

/-- Does the bank's sum differ from its witness (R186)? -/
def witnessFails (s : State) (f : Flight) (n : Nat) (words : List (Int × Int)) (r : SpillReport) : Bool :=
  let t := s.heldTiles.getD n (0, 0)
  let w := tileWitness f.sheaves (fun r => s.heldIndex (64 * t.1 + r)) (fun c => s.heldIndex (64 * t.2 + c))
  let a := words.foldl (fun (a : Int × Int) x => (a.1 + x.1, a.2 + x.2)) (0, 0)
  ofS 24 a.1 != ofS 24 (w.1 + r.witness.1) || ofS 24 a.2 != ofS 24 (w.2 + r.witness.2)

/-- Uncorrectable errors of a furrow; the second one in an integration of group 0 retires it (R32). Log: 57 (DEDUCED). -/
def furErrors (s : State) (f n : Nat) : State :=
  if n = 0 then s
  else
    let s := s.bump (furReg f) Fld.CORR_FURROW_ERRORS n
    if 2 ≤ s.get (furReg f) Fld.CORR_FURROW_ERRORS then s.retire f 2 else s

/-- Count and raise what a bank shows (R31, R193); only a parity error lies in a cell. -/
def spillShows (s : State) (f bank ch q : Nat) (mismatch : Bool) (r : SpillReport) : State :=
  let d := corrDetail f 0 bank ch q
  let hit (s : State) (b : Bool) (i ev d : Nat) : State := if b then (s.count (Reg.CORR_COUNT i)).raise ev d else s
  let s := s.each (List.range r.bufCe) (fun s _ => hit s true 2 Ev.CORR_OPBUF_CE d)
  let s := s.each (List.range r.pathCe) (fun s _ => hit s true 5 Ev.CORR_SPILL_CE d)
  let s := hit s mismatch 0 Ev.CORR_WITNESS d
  let s := hit s r.parity 1 Ev.CORR_PARITY (corrDetail f r.cell bank ch q)
  let s := hit s r.bufUe 3 Ev.CORR_OPBUF_UE d
  hit s r.pathUe 6 Ev.CORR_SPILL_UE d

/-- Uncorrectable errors that a bank shows; a mismatch that parity accounts for is one with it (R193). -/
def reportErrors (r : SpillReport) : Nat := b2n r.parity + b2n r.bufUe + b2n r.pathUe

/-- What a bank shows, and what it does to its furrow (R32, R193). Log: 57 (DEDUCED), 58 (DEDUCED). -/
def spillErrors (s : State) (f bank ch q : Nat) (mismatch : Bool) (r : SpillReport) : State :=
  let s := s.spillShows f bank ch q mismatch r
  let s := if mismatch && !r.parity then s.retire f 1 else s
  s.furErrors f (reportErrors r)

/-- The lower bank of a slot. -/
def slotBank (s : State) (slot : Nat) : Nat := if s.width8 then 2 * slot else slot

/-- Furrow spills that a field's suspect store holds: one for each furrow, pass and round (R189). Log: 58 (DEDUCED). -/
def storeUse (s : State) (m : Nat) : Nat :=
  ((s.corr.suspects.filter (fun x => x.furrow / 68 == m)).map (fun x => x.rounds.length)).sum

/-- A suspect spill that finds the store full is added at once, its tiles UNVERIFIED; no recompute covers it (R192). -/
def spillLoose (s : State) (f : Flight) (t : TileSum) (round : Nat) : State :=
  let s := s.setFlight { f with looseRounds := (t.furrow, round) :: f.looseRounds, unverified := true }
  let s := s.count (Reg.CORR_COUNT 9)
  let mine (x : TileSum) : Bool :=
    x.furrow == t.furrow && x.chan == t.chan && x.pass == t.pass && (s.tilePlace f.list x.tile).2.1 == round
  { s with corr := { s.corr with
      spills := s.corr.spills.map (fun x => if mine x then { x with unverified := true } else x) ++ [{ t with unverified := true }] } }

/-- Hold a spill for recompute in the field's store of 1.5 MiB, eight furrow spills (R189), or let it go where the store is full (R192). The
furrow's tiles of the pass that have not been added yet are held with it. Log: 58 (DEDUCED). -/
def holdSpill (s : State) (f : Flight) (t : TileSum) (round : Nat) : State :=
  let mine (x : TileSum) : Bool := x.furrow == t.furrow && x.chan == t.chan && x.pass == t.pass
  let used := s.storeUse (t.furrow / 68)
  match s.corr.suspects.findIdx? (fun x => x.furrow == t.furrow && x.chan == t.chan && x.pass == t.pass) with
  | some i =>
    let known := s.corr.suspects[i]?.any (fun x => x.rounds.contains round)
    if !known && decide (8 ≤ used) then s.spillLoose f t round
    else
      { s with corr := { s.corr with suspects := s.corr.suspects.modify i (fun x =>
          { x with tiles := x.tiles ++ [t], rounds := if known then x.rounds else x.rounds ++ [round] }) } }
  | none =>
    if 8 ≤ used then s.spillLoose f t round
    else
      let place (x : TileSum) : Nat := (s.tilePlace f.list x.tile).2.1
      let all := s.corr.spills.filter mine
      let rs := (round :: all.map place).eraseDups
      let fits := decide (used + rs.length ≤ 8)
      let take (x : TileSum) : Bool := mine x && (fits || place x == round)
      { s with corr := { s.corr with
          suspects := s.corr.suspects ++ [⟨t.furrow, t.chan, t.pass, all.filter take ++ [t], none, 0, if fits then rs else [round]⟩]
          spills := s.corr.spills.filter (fun x => !take x) } }

/-- The furrow that a field's spill port serves next: round robin among the furrows that hold banks of the earliest round that has not drained
(R29, R180), with its pass and round. Log: 56 (DEDUCED). -/
def portNext (s : State) (m : Nat) : Option (Flight × Nat × Nat) :=
  let inField (f : Flight) : List (Nat × Nat × Nat) := (f.left.map (s.tilePlace f.list)).filter (fun p => p.1 / 68 == m)
  match s.corr.flights.find? (fun f => !(inField f).isEmpty) with
  | none => none
  | some f =>
    let round := ((inField f).map (·.2.1)).foldl min (2 ^ 16)
    let furs := (List.range 68).filter (fun j => (inField f).any (fun p => p.1 == 68 * m + j && p.2.1 == round))
    let last := (mapFind s.corr.port m).getD 67
    ((furs.find? (fun j => decide (last < j))).or furs.head?).map (fun j => (f, 68 * m + j, round))

/-- A tile's bank drains (R176, R186): it is checked, and is on its way to the adder or held. Log: 56 (DEDUCED). -/
def drainTile (s : State) (f : Flight) (n : Nat) (r : SpillReport) : State :=
  let (fur, round, slot) := s.tilePlace f.list n
  let words := s.spilledTile f n r
  let bad := s.witnessFails f n words r
  let loose := f.loose.contains fur || f.looseRounds.contains (fur, round)
  let t : TileSum := { chan := f.chan, pass := f.pass, tile := n, furrow := fur, words := words, unverified := loose }
  let f := { f with left := f.left.filter (fun x => x != n) }
  let s := s.setFlight f
  let s := s.spillErrors fur (s.slotBank slot) f.chan f.pass bad r
  let known := s.corr.suspects.any (fun x => x.furrow == fur && x.chan == f.chan && x.pass == f.pass)
  let suspect := bad || r.parity || r.bufUe || r.pathUe || known || f.bad.contains (fur / 68)
  let s := if suspect && !loose then s.holdSpill f t round
    else { s with corr := { s.corr with spills := s.corr.spills ++ [t] } }
  let s := if s.corr.flights.all (fun f => f.left.isEmpty) then s.setFlag Reg.CORR_STATUS Fld.CORR_STATUS_RUNNING false else s
  s.endPasses

/-- One grant of a field's spill port (R29): the bank of a slot of the furrow whose turn it is drains. -/
def bankSpill (s : State) (m slot : Nat) (r : SpillReport) : State :=
  match s.portNext m with
  | none => s
  | some (f, fur, round) =>
    match (s.tileAt f.list fur round slot).filter f.left.contains with
    | none => s
    | some n => ({ s with corr := { s.corr with port := mapPut s.corr.port m (fur % 68) } } : State).drainTile f n r

/-! ### Spills at the granary adder (R177, R206, R219, R226) -/

/-- May a spill be added: no earlier pass of its tile is held, and its bank is decided (R177, R518)? -/
def canAdd (s : State) (t : TileSum) : Bool :=
  !s.corr.suspects.any (fun x => x.chan == t.chan && decide (x.pass < t.pass) && x.tiles.any (fun y => y.tile == t.tile))
    && !s.passUndecided t.chan t.pass

/-- The next spill of a tile reaches the adder, to be added or held: its tag decides the bank of its pass (R219, R226).
Log: 56 (DEDUCED). -/
def spillArrives (s : State) (ch tile : Nat) : State :=
  let new (t : TileSum) : Bool := t.chan == ch && t.tile == tile && !t.arrived
  let qs := ((s.corr.spills ++ s.corr.suspects.flatMap (·.tiles)).filter new).map (·.pass)
  match qs with
  | [] => s
  | q :: l =>
    let q := l.foldl min q
    let mark (t : TileSum) : TileSum := if new t && t.pass == q then { t with arrived := true } else t
    let s := { s with corr := { s.corr with
      spills := s.corr.spills.map mark
      suspects := s.corr.suspects.map (fun (x : Suspect) => { x with tiles := x.tiles.map mark }) } }
    let s := s.markFlight ch q (fun f => { f with coming := f.coming - 1 })
    s.spillReached ch q (s.corr.flights.any (fun f => f.chan == ch && f.pass == q && f.coming == 0))

/-- Add the first spill of a tile that waits at the adder, where it may be added. -/
def addNext (s : State) (ch tile : Nat) (poison badCounts : List Nat) : State :=
  match s.corr.spills.find? (fun t => t.chan == ch && t.tile == tile) with
  | none => s
  | some t =>
    if !t.arrived || !s.canAdd t then s
    else
      match s.corr.flights.find? (fun f => f.chan == ch && f.pass == t.pass) with
      | none => s
      | some f =>
        let i := s.corr.spills.findIdx (fun t => t.chan == ch && t.tile == tile)
        let s := { s with corr := { s.corr with spills := s.corr.spills.eraseIdx i } }
        (s.addSpill t f poison badCounts).setFlight { f with owed := f.owed - 1 }

/-- A tagged spill at the adder, in pass order of its tile (R177, R206): one that waits there is added once it may be; else the next one
arrives, and is added where nothing holds it. -/
def granSpill (s : State) (ch tile : Nat) (poison badCounts : List Nat) : State :=
  let waits := match s.corr.spills.find? (fun t => t.chan == ch && t.tile == tile) with
    | some t => t.arrived && s.canAdd t
    | none => false
  ((if waits then s else s.spillArrives ch tile).addNext ch tile poison badCounts).tellPasses

/-! ### Recompute (R187–R194) -/

/-- Put spills among those on their way to the adder, before later passes of the same channel. -/
def queueSpills (s : State) (q ch : Nat) (ts : List TileSum) : State :=
  let i := s.corr.spills.findIdx (fun t => t.chan == ch && decide (q < t.pass))
  { s with corr := { s.corr with spills := s.corr.spills.take i ++ ts ++ s.corr.spills.drop i } }

/-- The spare of a recompute is idle again, or is retired when that was asked. -/
def freeSpare (s : State) (sp : Option Nat) : State :=
  match sp with
  | none => s
  | some f =>
    let s := { s with corr := { s.corr with ramps := s.corr.ramps.filter (fun g => g != f) } }
    let s := (s.furTo f fSpare).setWarm f false
    match s.corr.doomed.find? (fun d => d.1 == f) with
    | some d =>
      let s := { s with corr := { s.corr with doomed := s.corr.doomed.filter (fun e => e.1 != f) } }
      s.retire f d.2
    | none => s

/-- Give a recompute up (R190): the suspect spill is added as it was, its tiles UNVERIFIED. -/
def giveUp (s : State) (x : Suspect) : State :=
  let s := { s with corr := { s.corr with
    suspects := s.corr.suspects.filter (fun y => !(y.furrow == x.furrow && y.chan == x.chan && y.pass == x.pass)) } }
  let s := s.queueSpills x.pass x.chan (x.tiles.map (fun t => { t with unverified := true }))
  let s := s.markFlight x.chan x.pass (fun f => { f with unverified := true, loose := x.furrow :: f.loose })
  let s := (s.count (Reg.CORR_COUNT 9)).raise Ev.CORR_RECOMPUTE_GIVEUP (corrDetail x.furrow 0 0 x.chan x.pass)
  ((s.freeSpare x.spare).requeue x.chan).endPasses

/-- The spare for a recompute: the lowest of the lowest other field, else of the same field (R187). Log: 53 (DEDUCED), 61 (DEDUCED). -/
def chooseSpare (s : State) (fur : Nat) : Option Nat :=
  match ((List.range 4).filter (fun m => m != fur / 68)).flatMap s.idleSpares with
  | a :: _ => some a
  | [] => (s.idleSpares (fur / 68)).head?

/-- Start the first recompute that waits, in the order of detection (R194), once a spare is idle; the governor brings the spare up (R188).
Log: 53 (DEDUCED), 61 (DEDUCED). -/
def recomputeStart (s : State) : State :=
  match s.corr.suspects.find? (fun x => x.spare.isNone) with
  | none => s
  | some x =>
    match s.chooseSpare x.furrow with
    | none => s
    | some sp =>
      let s := (s.furTo sp fRecompute).bringUp sp
      let s := { s with corr := { s.corr with suspects := s.corr.suspects.map (fun y => if y = x then { y with spare := some sp } else y) } }
      (s.count (Reg.CORR_COUNT 7)).count (Reg.TURN_COUNT 2)

/-- Does the furrow of a suspect spill still hold banks of its pass? -/
def stillDrains (s : State) (f : Flight) (fur : Nat) : Bool := f.left.any (fun n => (s.tilePlace f.list n).1 == fur)

/-- A recompute ends on its spare (R33, R189), its banks drained and checked: it passes and its spill takes the place of the suspect one, or
the spare is retired and it starts again or is given up. `reports` say what the banks show, by round and slot. It takes as long as its pass
took, so the suspect furrow has drained (R188). Log: 57 (DEDUCED), 61 (DEDUCED). -/
def recomputeEnd (s : State) (sp : Nat) (reports : List (Nat × Nat × SpillReport)) : State :=
  match s.corr.suspects.find? (fun x => x.spare == some sp) with
  | none => s
  | some x =>
    match (s.corr.flights.find? (fun f => f.chan == x.chan && f.pass == x.pass)).filter (fun f => !s.stillDrains f x.furrow) with
    | none => s
    | some f =>
      let fl : Flight := { f with sheaves := s.readPass x.chan x.pass }
      let shown (n : Nat) : SpillReport :=
        let p := s.tilePlace f.list n
        ((reports.find? (fun e => e.1 == p.2.1 && e.2.1 == p.2.2)).map (·.2.2)).getD {}
      let banks := ((List.range s.nTiles).filter (fun n => (s.tilePlace f.list n).1 == x.furrow)).map (fun n =>
        let words := s.spilledTile fl n (shown n)
        (n, words, s.witnessFails fl n words (shown n), shown n))
      let bad (b : Nat × List (Int × Int) × Bool × SpillReport) : Bool :=
        b.2.2.1 || b.2.2.2.parity || b.2.2.2.bufUe || b.2.2.2.pathUe
      let s := s.each banks (fun s b =>
        s.spillShows sp (s.slotBank (s.tilePlace f.list b.1).2.2) x.chan x.pass b.2.2.1 b.2.2.2)
      if banks.any bad then
        let s := { s with corr := { s.corr with
          suspects := s.corr.suspects.map (fun y => if y = x then { y with spare := none, failed := y.failed + 1 } else y)
          ramps := s.corr.ramps.filter (fun g => g != sp)
          doomed := s.corr.doomed.filter (fun d => d.1 != sp) } }
        let s := ((s.furTo sp fSpare).setWarm sp false).retire sp 6
        let s := s.furErrors sp (banks.map (fun b => reportErrors b.2.2.2)).sum
        if decide (2 ≤ x.failed + 1) || (s.chooseSpare x.furrow).isNone then s.giveUp { x with spare := none } else s
      else
        let ts := x.tiles.map (fun t =>
          { t with words := ((banks.find? (fun b => b.1 == t.tile)).map (·.2.1)).getD t.words, recomputed := true, unverified := false })
        let s := { s with corr := { s.corr with suspects := s.corr.suspects.filter (fun y => y != x) } }
        let s := s.queueSpills x.pass x.chan ts
        let s := s.markFlight x.chan x.pass (fun f => { f with recomputed := true })
        (((s.count (Reg.CORR_COUNT 8)).freeSpare (some sp)).requeue x.chan).endPasses

/-- A transfer on an operand bus to a furrow (R31): path 0 main, 1 recompute; a third failure in a row makes every pass in flight in the field
suspect, and a recompute there starts again. Log: 60 (DEDUCED). -/
def busTransfer (s : State) (fur path bus : Nat) (ok : Bool) : State :=
  let m := fur / 68
  let key := 4 * m + 2 * path + bus
  let n := (mapFind s.corr.bus key).getD 0
  let put (s : State) (v : Nat) : State := { s with corr := { s.corr with bus := mapSet 0 s.corr.bus key v } }
  if ok then put s 0
  else
    let s := (s.count (Reg.CORR_COUNT 4)).raise Ev.CORR_BUS_CRC (corrDetail fur 0 0 0 0)
    if n + 1 < 3 then put s (n + 1)
    else
      let s := (put s 0).raise Ev.CORR_BUS_SUSPECT (corrDetail fur 0 0 0 0)
      if path = 0 then
        { s with corr := { s.corr with flights := s.corr.flights.map (fun f =>
            if f.left.isEmpty then f else { f with bad := m :: f.bad }) } }
      else
        let hit := s.corr.suspects.filter (fun x => x.spare.any (fun sp => sp / 68 == m))
        s.each hit (fun s x =>
          let s := s.freeSpare x.spare
          let y := { x with spare := none, failed := x.failed + 1 }
          let s := { s with corr := { s.corr with suspects := s.corr.suspects.map (fun z => if z = x then y else z) } }
          if 2 ≤ y.failed then s.giveUp y else s)

/-! ### Governor (R202–R204) -/

/-- The spare that is being brought up first reaches full activity: spares are brought up singly (R188, R203). -/
def rampStep (s : State) : State :=
  match s.corr.ramps with
  | [] => s
  | f :: l =>
    let s := { s with corr := { s.corr with ramps := l } }
    if s.furState f = fSpare ∨ s.furState f = fRecompute then s.setWarm f true else s

/-- One stage interval: a spare reaches full activity; the next stage of listed furrows does, or in a ramp-down the last stage loses it; a
pass that becomes ready turns the ramp round. -/
def govStage (s : State) : State :=
  let n := s.get Reg.CORR_GOV Fld.CORR_GOV_STAGE
  if !s.corrOn ∨ !s.running then s
  else
  let s := s.rampStep
  if s.corrWarm then s
  else if s.corr.rampDown && s.turn.rdy.isEmpty then
    s.each ((s.corr.list.reverse.filter s.furWarm).take n) (fun s f => s.setWarm f false)
  else
    let s := { s with corr := { s.corr with rampDown := false } }
    let s := s.each ((s.corr.list.filter (fun f => !s.furWarm f)).take n) (fun s f => s.setWarm f true)
    if s.corr.list.all s.furWarm then s.setFlag Reg.CORR_STATUS Fld.CORR_STATUS_WARM true else s

/-- HOLD_US with no pass dispatched (R204). -/
def govHold (s : State) : State :=
  let busy := s.corr.flights.any (fun f => !f.left.isEmpty) || s.corr.suspects.any (·.spare.isSome)
  if s.corrWarm ∧ !busy ∧ s.get Reg.CORR_GOV Fld.CORR_GOV_HOLD_US ≠ 0 then
    ({ s with corr := { s.corr with rampDown := true } } : State).setFlag Reg.CORR_STATUS Fld.CORR_STATUS_WARM false
  else s

/-- CORR_RETIRE (R205). Log: 62 (DEDUCED). -/
def corrRetire (s : State) (ref : CmdRef) (d : List Byte) : State :=
  let m := byteAt d 36
  let n := byteAt d 37
  let f := 68 * m + n
  if !s.corrOn ∨ 3 < m ∨ 67 < n then s.finishSt ref St.BAD_PARAM
  else if s.furState f = fRetired then s.finish ref {}
  else ({ s with corr := { s.corr with cmds := s.corr.cmds ++ [(ref, f)] } } : State).retire f 5

/-- FREEZE of the placement loop is written (R201): the run ends at once. -/
def placeFreeze (s : State) (on : Bool) : State :=
  (s.setFlag Reg.CORR_PLACE Fld.CORR_PLACE_FREEZE on).setFlag Reg.CORR_PLACE Fld.CORR_PLACE_FREEZE_ACK on

end State

open State

/-- PASS_DISPATCH (R163, R164, R191, R195–R203). -/
def execPassDispatch (s : State) : Result := ok s.dispatch

/-- OPERAND_BUS_TRANSFER (R31): receiving furrow, what the bus carries, check passed. -/
def execOperandBusTransfer (field : Fin 4) (furrow : Fin 68) (operand : BusOperand) (good : Bool) (s : State) : Result :=
  ok (s.busTransfer (68 * field + furrow) (b2n operand.recompute) (b2n operand.column) good)

/-- BANK_SPILL (R29, R174, R176, R180, R186, R193). -/
def execBankSpill (field : Fin 4) (slot : Fin 8) (bank : BankReport) (buffer path : WordErrors) (s : State) : Result :=
  ok (s.bankSpill field slot (spillReport bank buffer path))

/-- RECOMPUTE_START (R187, R188, R194). -/
def execRecomputeStart (s : State) : Result := ok s.recomputeStart

/-- GOVERNOR_STAGE (R202–R204). -/
def execGovernorStage (s : State) : Result := ok s.govStage

/-- GOVERNOR_HOLD_EXPIRY (R204). -/
def execGovernorHoldExpiry (s : State) : Result := ok s.govHold

/-- CORR_RETIRE (R205): ring command 0x28. -/
def execCorrRetire (src : CmdSrc) (s : State) : Result := ok (s.runCommand src 0x28 (fun ref d _ s => s.corrRetire ref d))

/-- CORR_PLACE_FREEZE (R201): the loop ends its run and stays, or goes on. -/
def execCorrPlaceFreeze (on : Bool) (s : State) : Result :=
  ok (if s.served then s.placeFreeze on else s)

end Sys2Proof.Machine
end

