-- ==== Sys2Proof/Machine/Harvest.lean ====
section
/-! DEFINITION. Harvests (spec/08_accumulation_and_harvest.md, spec/11_baler.md, R565): draining a bank channel by channel, holds, the
harvest format, float output, baled segments and the Ewesen layout. -/

namespace Sys2Proof.Machine

/-- An integer as IEEE 754 binary32, rounded to nearest, ties to even (R234). -/
def float32 (v : Int) : Nat :=
  let a := v.natAbs
  if a = 0 then 0
  else
    let e := Nat.log2 a
    let q := if e ≤ 23 then a * 2 ^ (23 - e) else (roundEven a (2 ^ (e - 23))).toNat
    (if v < 0 then 2 ^ 31 else 0) + (e + 127) * 2 ^ 23 + q - 2 ^ 23

/-- A header with its check value over bytes 0–59 in bytes 60–63 and ALIVE in byte 3 (R228). -/
def headedMsg (bs : List Byte) : Msg := { producer := 0x01, bytes := bs, alive := some 3, crc := some (60, 60) }

namespace State

/-! ### What a segment holds (R231, R384) -/

/-- The words of a tile that it yields (R171), by word number. -/
def tileOrder (diag : Bool) : List Nat := (List.range 4096).filter (fun w => !diag || decide (w / 64 ≤ w % 64))

/-- Values and saturation bits of a channel in R10 order, poisoned components sent as 0 with their bits set. -/
def segmentValues (s : State) (c : ChanAcc) (bad : List Nat) : List ((Int × Bool) × (Int × Bool)) :=
  let all := s.heldTiles.zipIdx.flatMap (fun t =>
    let ws := (mapFind c.words t.2).getD []
    let fs := (mapFind c.sat t.2).getD []
    (tileOrder (t.1.1 == t.1.2)).map (fun w =>
      let x := ws.getD w (0, 0)
      let f := fs.getD w (false, false)
      ((x.1, f.1), (x.2, f.2))))
  if bad.isEmpty then all
  else all.zipIdx.map (fun e =>
    (if bad.contains (2 * e.2) then (0, true) else e.1.1, if bad.contains (2 * e.2 + 1) then (0, true) else e.1.2))

/-- The words of a channel as components, as they stand in the bank. -/
def bankComps (s : State) (c : ChanAcc) : List Int := (s.segmentValues c []).flatMap (fun v => [v.1.1, v.2.1])

/-- One component as sent. -/
def compBytes (deep float : Bool) (v : Int) : List Byte :=
  if float then le 4 (float32 v) else if deep then le 8 (ofS 64 v) else le 4 (ofS 32 v)

/-- The saturation plane as sent: poisoned bytes as all ones. -/
def satPlane (vs : List ((Int × Bool) × (Int × Bool))) (bad : List Nat) : List Byte :=
  (packBits (2 * vs.length) (vs.flatMap (fun v => [v.1.2, v.2.2]))).zipIdx.map (fun e => if bad.contains e.2 then 0xFF else e.1)

/-- Tile flags. -/
def tileFlags (s : State) (c : ChanAcc) : List Byte :=
  packBits s.nTiles ((List.range s.nTiles).map c.unverified.contains)

/-- Sample counts as sent: poisoned ones as 0xFFFF_FFFF. Log: 70 (DEDUCED). -/
def sentCounts (s : State) (c : ChanAcc) (bad : List Nat) : List Byte :=
  (List.range s.nHeld).flatMap (fun i => le 4 (if bad.contains i then 2 ^ 32 - 1 else c.counts.getD i 0))

/-- Does a restart fall on a channel (R291)? -/
def balerRestart (s : State) (g ch : Nat) : Bool :=
  let r := s.get Reg.BALER_CFG Fld.BALER_CFG_RESTART
  ch == s.grpFirst g || (r != 0 && (ch - s.grpFirst g) % r == 0)

/-- Flags of an integration over the channels that have been added (R229). Log: 71 (DEDUCED). -/
def harvestFlags (s : State) (g : Nat) (b : Bank) : Nat :=
  let cs := b.chans.map (·.2)
  let w := if s.grpDeep g then (if s.width8 then 48 else 56) else (if s.width8 then 16 else 24)
  b2n b.stretched + 2 * b2n b.saturated + 4 * b2n (cs.any (·.recomputed)) + 8 * b2n (cs.any (·.withheld))
    + 16 * b2n (cs.any (·.countSat)) + 32 * b2n (decide (2 ^ w ≤ b.passes * s.turnT)) + 64 * b2n b.late

/-- The harvest header (R229). -/
def harvestHeader (s : State) (g : Nat) (b : Bank) : List Byte :=
  let cfg (f : Fld) : Bool := s.flag (Reg.GRAN_GRP_CFG g) f
  [0x56, 0x01] ++ le 1 (g + 8 * b2n (cfg Fld.GRAN_GRP_CFG_DEEP) + 16 * b2n (cfg Fld.GRAN_GRP_CFG_FLOAT)
      + 32 * b2n (cfg Fld.GRAN_GRP_CFG_BALER) + 64 * (if s.mode = 0 then 0 else s.pos))
    ++ zeros 1 ++ le 4 b.seq ++ le 2 b.epoch ++ le 2 (s.grpCount g) ++ le 4 b.first ++ le 4 b.passes ++ le 2 (s.grpP g) ++ le 2 s.turnT
    ++ (Stamp.ofUnits (s.passTime g b.first)).bytes ++ (Stamp.ofUnits (s.passTime g (b.last + 1))).bytes
    ++ le 2 (s.grpFirst g) ++ le 2 s.nHeld ++ le 2 s.nTiles ++ le 2 (s.harvestFlags g b) ++ zeros 8

/-- The visibility block of a segment: its bytes as sent and, when baled, its coded blocks. -/
def visBlock (s : State) (g ch : Nat) (b : Bank) (vs : List ((Int × Bool) × (Int × Bool))) (baled : Bool) (v : HarvestView) :
    List Byte × List (Nat × List Bool) :=
  if baled then
    let restart := s.balerRestart g ch
    let comps := vs.flatMap (fun v => [v.1.1, v.2.1])
    let preds := if restart then comps.map (fun _ => (0 : Int)) else s.bankComps ((mapFind b.chans (ch - 1)).getD {})
    let bs := balerBlocks comps preds (v.fails ++ (if restart then [] else v.preds))
    (balerSegment ch vs.length (if restart then none else some (ch - 1)) bs, bs)
  else
    let deep := s.grpDeep g
    let float := s.flag (Reg.GRAN_GRP_CFG g) Fld.GRAN_GRP_CFG_FLOAT
    (vs.flatMap (fun v => compBytes deep float v.1.1 ++ compBytes deep float v.2.1), [])

/-- A segment: header, body and tail (R230–R232). Log: 70 (DEDUCED). -/
def segment (s : State) (g ch : Nat) (b : Bank) (c : ChanAcc) (vs : List ((Int × Bool) × (Int × Bool))) (baled : Bool)
    (vis : List Byte) (v : HarvestView) : List Byte :=
  let sat := (vs.map (fun v => b2n v.1.2 + b2n v.2.2)).sum
  let countSat := c.countSat || !v.counts.isEmpty
  let body := padTo 8 vis ++ padTo 8 (satPlane vs v.flagBytes) ++ padTo 8 (s.tileFlags c) ++ padTo 8 (s.sentCounts c v.counts)
  [0x53, 0x01] ++ le 1 g ++ zeros 1 ++ le 4 b.seq ++ le 2 b.epoch ++ le 2 ch ++ le 4 vs.length ++ le 4 c.excluded ++ le 4 sat
    ++ le 2 c.unverified.length
    ++ le 2 (b2n (sat != 0) + 2 * b2n (!c.unverified.isEmpty) + 4 * b2n c.recomputed + 8 * b2n c.withheld + 16 * b2n countSat + 32 * b2n baled)
    ++ le 4 body.length ++ le 4 vis.length ++ zeros 28 ++ body
    ++ [0x45, 0x01] ++ le 2 ch ++ le 4 (crc32c body) ++ zeros 8

/-- The harvest trailer (R232). -/
def harvestTrailer (s : State) (g : Nat) (b : Bank) (d : Drain) : List Byte :=
  [0x54, 0x01] ++ le 1 g ++ zeros 1 ++ le 4 b.seq ++ le 2 b.epoch ++ le 2 (s.grpCount g) ++ le 4 d.unverified ++ le 8 d.satComp
    ++ le 8 (d.bytes + 64) ++ zeros 32

/-! ### The Ewesen layout (R565) -/

/-- Value and saturation bits of baseline (i, j), i ≤ j. -/
def baseline (s : State) (c : ChanAcc) (i j : Nat) : (Int × Bool) × (Int × Bool) :=
  let t := s.heldTiles.findIdx (fun t => t.1 == i / 64 && t.2 == j / 64)
  let w := 64 * (i % 64) + j % 64
  let x := ((mapFind c.words t).getD []).getD w (0, 0)
  let f := ((mapFind c.sat t).getD []).getD w (false, false)
  ((x.1, f.1), (x.2, f.2))

/-- A channel's Ewesen message. -/
def ewesenSegment (s : State) (g ch : Nat) (b : Bank) (c : ChanAcc) (v : HarvestView) : Msg :=
  let n := s.nHeld
  let vs := (List.range n).flatMap (fun i => (List.range (n - i)).map (fun k => s.baseline c i (i + k)))
  let vs := vs.zipIdx.map (fun e =>
    (if v.comps.contains (2 * e.2) then (0, true) else e.1.1, if v.comps.contains (2 * e.2 + 1) then (0, true) else e.1.2))
  let body := padTo 8 (vs.flatMap (fun v => le 4 (float32 v.1.1) ++ le 4 (float32 v.2.1))) ++ padTo 8 (satPlane vs v.flagBytes)
    ++ padTo 8 (s.tileFlags c) ++ padTo 8 (s.sentCounts c v.counts)
  let last := decide (ch + 1 = s.grpFirst g + s.grpCount g)
  let head := [0x58] ++ le 1 (b2n (vs.any (fun v => v.1.2 || v.2.2)) + 2 * b2n (!c.unverified.isEmpty) + 4 * b2n b.stretched + 8 * b2n last)
    ++ le 2 ch ++ le 4 b.seq ++ le 2 g ++ le 2 s.turnT ++ le 4 b.passes ++ (Stamp.ofUnits (s.passTime g b.first)).bytes
    ++ le 4 c.excluded ++ zeros 16
  { producer := 0x01, bytes := head ++ body ++ le 4 (crc32c body), crc := some (44, 44) }

/-! ### Draining (R222–R224) -/

/-- Destination of a group. -/
def grpDest (s : State) (g : Nat) : Bool × Nat :=
  (s.flag (Reg.GRAN_GRP_CFG g) Fld.GRAN_GRP_CFG_DEST_RING, s.get (Reg.GRAN_GRP_DEST g) Fld.GRAN_GRP_DEST_DEST)

/-- Has the destination taken what it was given?. Log: 69 (DEDUCED). -/
def destReady (s : State) (g : Nat) : Bool :=
  let (ring, d) := s.grpDest g
  if ring then !(s.ring d).msgs.any (fun m => m.producer == 1) && !(s.ring d).cur.any (fun c => c.1 == 1)
  else (s.stream d).queue.isEmpty

/-- Hand a message of a harvest to its destination. -/
def sendHarvest (s : State) (g : Nat) (m : Msg) : State := let (ring, d) := s.grpDest g; s.toDest ring d 1 m

/-- Has every pass of the integration been added on a channel? -/
def chanAdded (s : State) (b : Bank) (ch : Nat) : Bool :=
  decide (((mapFind b.chans ch).getD {}).added = b.passes * s.nTiles)

/-- Recomputes that hold a channel of an integration. -/
def holders (s : State) (b : Bank) (ch : Nat) : List Suspect := s.corr.suspects.filter (fun x => x.chan == ch && b.has x.pass)

/-- The granary requests the held passes of a channel (R223). -/
def requestHeld (s : State) (g : Nat) (b : Bank) (ch : Nat) : State :=
  let s := s.each (s.holders b ch) giveUp
  let s := (s.count (Reg.GRAN_GRP_COUNT g 4)).raise Ev.GRAN_HOLD_EXPIRED (g + ch * 8 + b.seq * 2 ^ 15)
  let s := s.set (Reg.GRAN_GRP_STATE g) Fld.GRAN_GRP_STATE_DRAIN 1
  s.set Reg.GRAN_STATUS ⟨Fld.GRAN_STATUS_HOLDING.lo + g, 1⟩ 0

/-- A group's drain as it stands now (R222, R223): at a held channel it is HOLDING, or with HOLD_US = 0 makes its request at once; a recompute
that has ended releases it. -/
def settleHold (s : State) (g : Nat) : State :=
  match (s.grp g).old, (s.grp g).drain with
  | some b, some d =>
    let bit : Fld := ⟨Fld.GRAN_STATUS_HOLDING.lo + g, 1⟩
    if (s.holders b d.next).isEmpty then
      (s.set (Reg.GRAN_GRP_STATE g) Fld.GRAN_GRP_STATE_DRAIN 1).set Reg.GRAN_STATUS bit 0
    else if s.get Reg.GRAN_CFG Fld.GRAN_CFG_HOLD_US = 0 then s.requestHeld g b d.next
    else (s.set (Reg.GRAN_GRP_STATE g) Fld.GRAN_GRP_STATE_DRAIN 2).set Reg.GRAN_STATUS bit 1
  | _, _ => s

/-- Every drain that a command has brought to a channel or released. -/
def settleHolds (s : State) : State := s.each (List.range 8) settleHold

/-- Counters and events of a baled segment (R300, R302): the drain with its failures. Log: 72 (DEDUCED). -/
def balerSent (s : State) (g ch : Nat) (d : Drain) (raw : Nat) (vis : List Byte) (bs : List (Nat × List Bool)) : Drain × State :=
  let cnt (p : Nat → Bool) : Nat := (bs.filter (fun b => p b.1)).length
  let fails := cnt (· == 61)
  let s := (s.count (Reg.BALER_COUNT 0) (cnt (fun x => decide (x ≤ 32)))).count (Reg.BALER_COUNT 1) (cnt (· == 62))
  let s := (s.count (Reg.BALER_COUNT 2) (cnt (· == 63))).count (Reg.BALER_COUNT 3) fails
  let s := (s.count (Reg.BALER_COUNT 5) (raw / 1024)).count (Reg.BALER_COUNT 6) (vis.length / 1024)
  let first := bs.findIdx (fun b => b.1 == 61)
  let s := s.raiseIf (fails != 0) Ev.BALER_VERIFY_FAIL (g + ch * 8 + first * 2 ^ 15)
  let lim := s.get Reg.BALER_CFG Fld.BALER_CFG_FAIL_LIMIT
  let d := { d with fails := d.fails + fails }
  if lim ≠ 0 ∧ lim ≤ d.fails ∧ !d.unbaled then
    ({ d with unbaled := true },
      (s.set Reg.BALER_STATUS ⟨Fld.BALER_STATUS_DEGRADED.lo + g, 1⟩ 1).raise Ev.BALER_DEGRADED (g + ch * 8))
  else (d, s)

/-- A drain ends: the bank is idle, and the next whole integration may begin its drain. -/
def endDrain (s : State) (g : Nat) (b : Bank) : State :=
  let s := s.setGrp g { s.grp g with old := none, drain := none, drained := some (b.seq, b.epoch, s.now.units) }
  ((s.count (Reg.GRAN_GRP_COUNT g 0)).showGrp g).startDrain g

/-- Send the next segment of a drain, with the header before the first and the trailer after the last. Log: 72 (DEDUCED). -/
def sendSegment (s : State) (g : Nat) (b : Bank) (d : Drain) (v : HarvestView) : State :=
  let ch := d.next
  let c := (mapFind b.chans ch).getD {}
  let s := s.set (Reg.GRAN_GRP_STATE g) Fld.GRAN_GRP_STATE_DRAIN 1
  let s := s.set Reg.GRAN_STATUS ⟨Fld.GRAN_STATUS_HOLDING.lo + g, 1⟩ 0
  let done := decide (ch + 1 = s.grpFirst g + s.grpCount g)
  let s := s.count (Reg.GRAN_GRP_COUNT g 3) c.unverified.length
  if s.ewesen then
    let s := s.sendHarvest g (s.ewesenSegment g ch b c v)
    if done then s.endDrain g b else s.setGrp g { s.grp g with drain := some { d with next := ch + 1, header := true } }
  else
    let s := if d.header then s
      else (s.sendHarvest g (headedMsg (s.harvestHeader g b))).set Reg.BALER_STATUS ⟨Fld.BALER_STATUS_DEGRADED.lo + g, 1⟩ 0
    let baler := s.flag (Reg.GRAN_GRP_CFG g) Fld.GRAN_GRP_CFG_BALER
    let baled := baler && !d.unbaled
    let vs := s.segmentValues c v.comps
    let (vis, bs) := s.visBlock g ch b vs baled v
    let msg := s.segment g ch b c vs baled vis v
    let s := s.sendHarvest g (headedMsg msg)
    let (d, s) := if baled then s.balerSent g ch d (8 * vs.length) vis bs
      else (d, s.count (Reg.BALER_COUNT 4) (b2n baler))
    let d := { d with
      header := true, next := ch + 1, unverified := d.unverified + c.unverified.length
      satComp := d.satComp + (vs.map (fun v => b2n v.1.2 + b2n v.2.2)).sum
      bytes := d.bytes + msg.length + (if d.header then 0 else 64) }
    if done then (s.sendHarvest g (headedMsg (s.harvestTrailer g b d))).endDrain g b
    else s.setGrp g { s.grp g with drain := some d }

/-- One step of the harvest engine (R222, R224): the next draining group, after the one served last, whose segment may begin. -/
def harvestStep (s : State) (v : HarvestView) : State :=
  let order := (List.range 8).map (fun i => (s.gran.served + 1 + i) % 8)
  match order.find? (fun g => match (s.grp g).old, (s.grp g).drain with
    | some b, some d => s.chanAdded b d.next && s.destReady g
    | _, _ => false) with
  | none => s
  | some g =>
    match (s.grp g).old, (s.grp g).drain with
    | some b, some d => ({ s with gran := { s.gran with served := g } } : State).sendSegment g b d v
    | _, _ => s

/-- HOLD_US at a held channel (R223). -/
def holdExpired (s : State) (g : Nat) : State :=
  match (s.grp g).old, (s.grp g).drain with
  | some b, some d =>
    if s.get (Reg.GRAN_GRP_STATE g) Fld.GRAN_GRP_STATE_DRAIN = 2 ∧ !(s.holders b d.next).isEmpty then s.requestHeld g b d.next else s
  | _, _ => s

end State

open State

/-- HARVEST_SEGMENT (R222, R224, R228–R235, R288–R305, R384, R565). -/
def execHarvestSegment (view : HarvestView) (s : State) : Result := ok (s.harvestStep view).settleHolds

/-- GRANARY_SPILL (R177, R206, R210, R219, R220, R227, R384): a tile of a channel, by its place among the held tiles. -/
def execGranarySpill (channel : Chan) (tile : Nat) (poison badCounts : List Nat) (s : State) : Result :=
  ok (if s.portWaits 2 then s else (s.granSpill channel tile poison badCounts).settleHolds)

/-- RECOMPUTE_END (R33, R189, R191, R223): what the spills of the spare show, by round and slot. Log: 6 (DESIGN CHOICE). -/
def execRecomputeEnd (field : Fin 4) (furrow : Fin 68) (banks : List (Nat × Nat × BankReport)) (buffers paths : List (Nat × Nat × WordErrors))
    (s : State) : Result :=
  ok (s.recomputeEnd (68 * field + furrow) (spillReports banks buffers paths)).settleHolds

/-- RECOMPUTE_DEADLINE (R190), of the suspect furrow of a field. -/
def execRecomputeDeadline (field : Fin 4) (furrow : Fin 68) (s : State) : Result :=
  ok (match s.corr.suspects.find? (fun x => x.furrow == 68 * field.val + furrow.val) with
    | some x => (s.giveUp x).settleHolds
    | none => s)

/-- DECIDE_WAIT_TIMEOUT (R518). -/
def execDecideWaitTimeout (group : Group) (s : State) : Result := ok (s.decideTimeout group).settleHolds

/-- HOLD_EXPIRY (R223). -/
def execHoldExpiry (group : Group) (s : State) : Result := ok (s.holdExpired group)

end Sys2Proof.Machine
end

