-- ==== Sys2Proof/Machine/Glean.lean ====
section
/-! DEFINITION. The glean ring (spec/10_glean_ring.md, R384): records in HBM, freezes, captures, dumps and changes of the length; and
which streams the configured producers name (R309). -/

namespace Sys2Proof.Machine

namespace State

/-- Bit `c` of a selection held in words of 32 bits. -/
def selBit (s : State) (reg : Nat → Nat) (c : Nat) : Bool := bitAt (s.full (reg (c / 32))) (c % 32)

/-! ### Configuration (R269–R272) -/

/-- The glean branch is enabled; its ring is armed at commit too, so that sheaves reach it. -/
def gleanBranch (s : State) : Bool := s.flag Reg.INGEST_CTL Fld.INGEST_CTL_GLEAN_BRANCH
def gleanOn (s : State) : Bool := s.flag Reg.GLEAN_CFG Fld.GLEAN_CFG_ENABLE && s.gleanBranch

/-- Selected coarse channels. -/
def gleanChans (s : State) : List Nat := (List.range s.cAll).filter (s.selBit Reg.GLEAN_SEL)

/-- First input, NI, width in bytes. -/
def gleanFirst (s : State) : Nat := 128 * s.get Reg.GLEAN_INPUTS Fld.GLEAN_INPUTS_FIRST
def gleanNi (s : State) : Nat := 128 * s.get Reg.GLEAN_INPUTS Fld.GLEAN_INPUTS_COUNT
def gleanWide (s : State) : Bool := s.flag Reg.GLEAN_CFG Fld.GLEAN_CFG_WIDTH8
def gleanW (s : State) : Nat := if s.gleanWide then 2 else 1

/-- Bytes of an index entry, E. -/
def gleanE (s : State) : Nat := ceilDiv (16 + s.gleanNi / 128) 16 * 16

/-- BASE and MAXSLOTS, and where a slot's samples and index entry lie. -/
def gleanBase (s : State) : Nat :=
  s.get Reg.GLEAN_BASE_LO Fld.GLEAN_BASE_LO_BASE * 2 ^ 20 + s.get Reg.GLEAN_BASE_HI Fld.GLEAN_BASE_HI_BASE * 2 ^ 32
def gleanMax (s : State) : Nat := s.full Reg.GLEAN_MAXSLOTS
def gleanSamples (s : State) (j : Nat) : Nat := s.gleanBase + j * s.gleanNi * s.gleanW
def gleanIndex (s : State) (j : Nat) : Nat := s.gleanBase + s.gleanMax * s.gleanNi * s.gleanW + j * s.gleanE

/-- PRE, POST, and the least length that holds the window of R277. -/
def gleanPre (s : State) : Nat := s.get Reg.GLEAN_WIN Fld.GLEAN_WIN_PRE
def gleanPost (s : State) : Nat := s.get Reg.GLEAN_WIN Fld.GLEAN_WIN_POST
def gleanLeast (s : State) : Nat := (s.gleanPre + s.gleanPost + 64) * s.gleanChans.length

/-- GLEAN_STATUS.STATE: 0 OFF, 1 ARMED, 2 COLLECTING, 3 FROZEN (R276). -/
def gleanState (s : State) : Nat := s.get Reg.GLEAN_STATUS Fld.GLEAN_STATUS_STATE
def setGleanState (s : State) (v : Nat) : State := s.set Reg.GLEAN_STATUS Fld.GLEAN_STATUS_STATE v

/-! ### Producers and their streams (R309, R317) -/

/-- Sources (layer, block) of the beam engine, ascending: q = 16 s + b. -/
def beamOn (s : State) : Bool := s.flag Reg.BEAM_CFG Fld.BEAM_CFG_ENABLE && s.flag Reg.INGEST_CTL Fld.INGEST_CTL_BEAM_BRANCH
def beamDepth (s : State) : Nat := 2 ^ (s.get Reg.BEAM_CFG Fld.BEAM_CFG_DEPTH % 3)
def blockOn (s : State) (b : Nat) : Bool := bitAt (s.get Reg.BEAM_CFG Fld.BEAM_CFG_BLOCK_EN) b
def beamSources (s : State) : List Nat :=
  if s.beamOn then (List.range (16 * s.beamDepth)).filter (fun q => s.blockOn (q % 16)) else []

/-- Sources that send voltage frames, and detected frames. -/
def voltSources (s : State) : List Nat := s.beamSources.filter (fun q => s.flag (Reg.BEAM_DEST q) Fld.BEAM_DEST_V_EN)
def detMode (s : State) : Nat := s.get Reg.BEAM_DET Fld.BEAM_DET_MODE
def detSources (s : State) : List Nat :=
  if s.detMode = 0 then [] else s.beamSources.filter (fun q => s.flag (Reg.BEAM_DEST q) Fld.BEAM_DEST_D_EN)

/-- The peak finder is enabled. -/
def peakOn (s : State) : Bool := s.beamOn && s.flag Reg.BEAM_PEAK_CFG Fld.BEAM_PEAK_CFG_EN

/-- Every stream that a configured producer names, with the producer's class. -/
def producers (s : State) : List (Nat × Nat) :=
  ((List.range 8).filter (fun g => s.grpOn g && !(s.grpDest g).1)).map (fun g => ((s.grpDest g).2 % 4096, 1))
  ++ s.voltSources.map (fun q => (s.get (Reg.BEAM_DEST q) Fld.BEAM_DEST_VSTREAM, 0))
  ++ (s.beamSources.filter (fun q => s.flag (Reg.BEAM_DEST q) Fld.BEAM_DEST_D_EN && !s.flag (Reg.BEAM_DEST q) Fld.BEAM_DEST_D_RING)).map
      (fun q => (s.get (Reg.BEAM_DEST q) Fld.BEAM_DEST_DDEST % 4096, 1))
  ++ (if s.peakOn then [(s.get Reg.BEAM_OUT Fld.BEAM_OUT_TRIG_STREAM, 0)] else [])
  ++ (if s.peakOn && !s.flag Reg.BEAM_OUT Fld.BEAM_OUT_REPORT_RING then [(s.get Reg.BEAM_OUT Fld.BEAM_OUT_REPORT % 4096, 1)] else [])

/-! ### Freezes (R276–R280) -/

/-- Have all selected channels released an index? -/
def gleanReleased (s : State) (k : Nat) : Bool := s.gleanChans.all (fun c => decide (k < s.nextIndex c))

/-- What a window finds (R281, R285): its records in ring order, SHORT, DISCONTINUOUS, and the indices lost, per channel summed.
Log: 86 (DEDUCED). -/
def gleanWindow (s : State) (lo hi : Nat) : List GleanRec × Bool × Bool × Nat :=
  let recs := s.glean.recs.filter (fun r => decide (lo ≤ r.k) && decide (r.k ≤ hi))
  let chan (c : Nat) : Bool × Nat :=
    let all : List Nat := (s.glean.recs.filter (fun r => r.chan == c)).map (fun r => r.k)
    let held := recs.filter (fun r => r.chan == c)
    let gone := (s.glean.gone.filter (fun e => e.1 == c && decide (lo ≤ e.2) && decide (e.2 ≤ hi))).map (·.2)
    match all with
    | [] => (true, gone.length)
    | k :: t =>
      let oldest := t.foldl min k
      let from_ := max lo oldest
      (decide (lo < oldest), (hi + 1 - from_ - held.length) + (gone.filter (fun k => decide (k < from_))).length)
  let cs : List (Bool × Nat) := s.gleanChans.map chan
  let lost : Nat := (cs.map (fun e => e.2)).sum
  (recs, cs.any (·.1), decide (lost ≠ 0), lost)

/-- A capture header (R283). Log: 86 (DEDUCED). -/
def gleanHeader (s : State) (c : Capture) (live : Bool) (win : List GleanRec × Bool × Bool × Nat) : List Byte :=
  let (recs, short, disc, lost) := win
  let ks := recs.map (·.k)
  let first := ks.foldl min (ks.headD 0)
  let last := ks.foldl max 0
  [0x47, 0x01] ++ le 1 (b2n short + 2 * b2n disc + 4 * b2n live + 8 * b2n s.gleanWide) ++ zeros 1 ++ le 4 c.seq
    ++ le 7 (if live then 0 else c.trigger) ++ le 1 (if live then 0xFF else c.source) ++ le 2 c.chan ++ le 2 (satU 16 c.merged)
    ++ le 7 first ++ zeros 1 ++ le 7 last ++ zeros 1 ++ le 4 recs.length ++ le 2 s.gleanFirst ++ le 2 s.gleanNi
    ++ (Stamp.ofUnits (s.coarseTime (if live then first else c.trigger))).bytes ++ le 4 lost

/-- A window as a dump would send it now: records with a poisoned index entry are left out and lost (R281, R384). -/
def gleanSendable (s : State) (win : List GleanRec × Bool × Bool × Nat) : List GleanRec × Bool × Bool × Nat :=
  let good := win.1.filter (fun r => !s.poisoned (s.gleanIndex r.slot) s.gleanE)
  let bad := win.1.length - good.length
  (good, win.2.1, win.2.2.1 || decide (bad ≠ 0), win.2.2.2 + bad)

/-- Entry to FROZEN once every selected channel has released the window's end; the notification (R276, R283). Log: 88 (DEDUCED). -/
def gleanCollect (s : State) : State :=
  match s.glean.cap with
  | some c =>
    if s.gleanState = 2 ∧ s.gleanReleased c.hi then
      let s := ({ s with glean := { s.glean with told := false } } : State).setGleanState 3
      if s.flag Reg.GLEAN_CFG Fld.GLEAN_CFG_NOTIFY then
        s.toRing (s.get Reg.GLEAN_NOTIFY Fld.GLEAN_NOTIFY_RING)
          { producer := 0x03, bytes := s.gleanHeader c false (s.gleanSendable (s.gleanWindow c.lo c.hi)) ++ zeros 4, alive := some 3, crc := some (60, 60), full := .drops }
      else s
    else s
  | none => s

/-- A refused request is counted; the first one after an entry to FROZEN is raised. -/
def gleanRefuse (s : State) (k : Nat) : State :=
  let s := (s.count (Reg.GLEAN_COUNT 2)).raiseIf (!s.glean.told) Ev.GLEAN_FREEZE_REFUSED k
  { s with glean := { s.glean with told := true } }

/-- A freeze request of a source with trigger index `k` (R277–R280): ignored when the source is disabled, otherwise accepted, merged or
refused. Answers whether it was refused. Log: 87 (DEDUCED), 88 (DEDUCED). -/
def gleanRequest (s : State) (source k chan : Nat) : State × Bool :=
  if !bitAt (s.get Reg.GLEAN_CFG Fld.GLEAN_CFG_TRIG) source then (s, false)
  else if s.gleanState = 1 then
    if s.gleanChans.any (fun c => decide (s.nextIndex c + 2 ^ 20 < k + 1)) then (s.gleanRefuse k, true)
    else
      let c : Capture := { trigger := k, source := source, chan := chan, lo := k - s.gleanPre, hi := k + s.gleanPost, seq := s.glean.seq }
      let s := { s with glean := { s.glean with cap := some c, seq := (s.glean.seq + 1) % 2 ^ 32 } }
      ((s.setGleanState 2).gleanCollect, false)
  else if s.gleanState = 2 then
    match s.glean.cap with
    | some c =>
      let hi := k + s.gleanPost
      if (hi - c.lo + 64) * s.gleanChans.length ≤ s.full Reg.GLEAN_LEN then
        (({ s with glean := { s.glean with cap := some { c with hi := hi, merged := c.merged + 1 } } } : State).gleanCollect, false)
      else (s.gleanRefuse k, true)
    | none => (s, false)
  else (s.gleanRefuse k, true)

/-- First coarse sheaf index whose time is at or after a time in 2^-16 ns (R93, R279). -/
def indexAt (s : State) (t : Nat) : Nat :=
  let e := s.epochUnits
  if t ≤ e ∨ s.cAll = 0 then 0
  else
    let k := (t - e) * s.bHz / (s.cAll * 65536000000000)
    if t ≤ s.coarseTime (k - 1) then k - 1 else if t ≤ s.coarseTime k then k else if t ≤ s.coarseTime (k + 1) then k + 1 else k + 2

/-- GLEAN_RESUME, and the return after a dump: ARMED, and the next record of each channel carries GAP (R276, R287). -/
def gleanRearm (s : State) : State :=
  ({ s with glean := { s.glean with cap := none, last := [] } } : State).setGleanState 1

/-! ### Length (R284–R286) -/

/-- Would a pending length take effect? -/
def lenValid (s : State) (v : Nat) : Bool := decide (s.gleanLeast ≤ v) && decide (v ≤ s.gleanMax)

/-- The value in GLEAN_LEN_SHADOW is pending, or out of range. Log: 90 (DEDUCED). -/
def judgeShadow (s : State) : State :=
  let v := s.full Reg.GLEAN_LEN_SHADOW
  (s.setFlag Reg.GLEAN_STATUS Fld.GLEAN_STATUS_PENDING (s.lenValid v)).setFlag Reg.GLEAN_STATUS Fld.GLEAN_STATUS_LEN_BAD (!s.lenValid v)

/-- Has GLEAN_LEN_SHADOW been written with a value that has not taken effect? -/
def shadowWritten (s : State) : Bool :=
  s.flag Reg.GLEAN_STATUS Fld.GLEAN_STATUS_PENDING || s.flag Reg.GLEAN_STATUS Fld.GLEAN_STATUS_LEN_BAD

/-- GLEAN_LEN_SHADOW is written. -/
def shadowWrite (s : State) (v : Nat) : State := (s.wrN Reg.GLEAN_LEN_SHADOW v).judgeShadow

/-- The writer moves from slot LEN − 1 to slot 0: a pending length takes effect, and a shorter ring releases its last slots. A channel whose
newest record is released has no preceding one in the ring (R274). Log: 90 (DEDUCED). -/
def lenSwitch (s : State) : State :=
  let v := s.full Reg.GLEAN_LEN_SHADOW
  if s.flag Reg.GLEAN_STATUS Fld.GLEAN_STATUS_PENDING && s.lenValid v then
    let cut : List GleanRec := s.glean.recs.filter (fun r => decide (v ≤ r.slot))
    let s : State := { s with glean := { s.glean with
      recs := s.glean.recs.filter (fun r => decide (r.slot < v))
      last := s.glean.last.filter (fun e => !cut.any (fun r => r.chan == e.1 && r.k + 1 == e.2))
      gone := s.glean.gone ++ cut.map (fun r => (r.chan, r.k)) } }
    (s.wrN Reg.GLEAN_LEN v).setFlag Reg.GLEAN_STATUS Fld.GLEAN_STATUS_PENDING false
  else s

/-! ### Records (R270–R274) -/

/-- An input's stored sample and its clips (R270): a wide one is requantised for a narrow ring. Log: 91 (DEDUCED). -/
def gleanStored (s : State) (c k h : Nat) (v : InputView) : (Int × Int) × Nat :=
  if s.gleanWide then (v.x, 0)
  else if v.wide && v.valid then requantSample (s.gainAt c k (s.heldInput h)) v.sym v.x
  else (v.x, 0)

/-- An index entry (R273). Log: 91 (DEDUCED). -/
def indexEntry (s : State) (c k flags : Nat) (gap conv : Bool) (ins : List InputView) : List Byte :=
  let groups := (List.range (s.gleanNi / 16)).map (fun h => ((ins.drop (16 * h)).take 16).any (fun v => !v.masked && !v.valid))
  let body := le 7 k ++ zeros 1 ++ le 2 (flags % 256) ++ le 2 (c + 2 ^ 12 * b2n gap + 2 ^ 13 * b2n conv)
    ++ le 2 (ins.filter (·.valid)).length ++ zeros 2 ++ packBits groups.length groups
  padTo 16 body

/-- Write a sheaf's record at the write pointer. -/
def gleanWrite (s : State) (c k flags : Nat) (ins : List InputView) (delivered8 : Bool) : State :=
  let s := if s.full Reg.GLEAN_WPTR = 0 ∧ s.glean.wrapped then s.lenSwitch else s
  let j := s.full Reg.GLEAN_WPTR
  let sel := (ins.zipIdx.drop s.gleanFirst).take s.gleanNi
  let xs := sel.map (fun e => s.gleanStored c k e.2 e.1)
  let s := s.count (Reg.GLEAN_COUNT 3) (xs.map (·.2)).sum
  let gap := (mapFind s.glean.last c).getD 0 != k || k == 0
  let s := s.hbmStore 4 (s.gleanSamples j) (xs.flatMap (fun x => sampleOut s.gleanWide x.1))
  let s := s.hbmStore 4 (s.gleanIndex j) (s.indexEntry c k flags gap (s.gleanWide != delivered8) (sel.map (·.1)))
  let s : State := { s with glean := { s.glean with
    recs := s.glean.recs.filter (fun r => r.slot != j) ++ [{ slot := j, chan := c, k := k }]
    last := mapPut s.glean.last c (k + 1)
    wrapped := true } }
  s.wrN Reg.GLEAN_WPTR (if s.full Reg.GLEAN_LEN ≤ j + 1 then 0 else j + 1)

/-- Deliver a coarse sheaf to the glean branch (R23, R27): its inputs as delivered; `backlog` is the branch's write backlog in bytes.
A withheld sheaf leaves no record. Log: 17 (DEDUCED), 18 (DEDUCED), 83 (DESIGN CHOICE). -/
def toGlean (s : State) (c k flags : Nat) (ins : List InputView) (delivered8 : Bool) (backlog : Nat) : State :=
  if !s.gleanOn ∨ !s.selBit Reg.GLEAN_SEL c ∨ s.gleanState = 0 then s
  else
    let reserve := s.get Reg.INGEST_RESERVE Fld.INGEST_RESERVE_GLEAN_MIB * 2 ^ 20
    let was := s.ingest.holding.2
    let hold := if was then decide (reserve ≤ 2 * backlog) else decide (reserve ≤ backlog)
    let s := { s with ingest := { s.ingest with
      holding := (s.ingest.holding.1, hold)
      withheld := (s.ingest.withheld.1, s.ingest.withheld.2 + b2n hold) } }
    let s := s.raiseIf (hold && !was) Ev.INGEST_BRANCH_LOSS 1
    if hold then
      ({ (s.count (Reg.GLEAN_COUNT 0)) with glean := { s.glean with gone := s.glean.gone ++ [(c, k)] } } : State).gleanCollect
    else if s.gleanState = 3 then s.count (Reg.GLEAN_COUNT 1)
    else (s.gleanWrite c k flags ins delivered8).gleanCollect

/-! ### Dumps (R281–R283, R327, R384) -/

/-- Bytes of HBM with poisoned bursts as zeros, and whether there was any. -/
def gleanRead (s : State) (a n : Nat) : List Byte × Bool :=
  ((List.range n).map (fun i => if s.poison.contains ((a + i) / 32) then 0 else s.hbmByte (a + i)), s.poisoned a n)

/-- A record as it stands: none when its index entry is poisoned; poisoned samples are zeros and set MISSING. Log: 17 (DEDUCED). -/
def gleanBytes (s : State) (r : GleanRec) : Option (List Byte) :=
  if s.poisoned (s.gleanIndex r.slot) s.gleanE then none
  else
    let e := s.hbmRead (s.gleanIndex r.slot) s.gleanE
    let (b, bad) := s.gleanRead (s.gleanSamples r.slot) (s.gleanNi * s.gleanW)
    some ((if bad then bytesPut e 8 (le 1 (Nat.lor (byteAt e 8) 1)) else e) ++ b)

/-- Why a dump may not start: 0 when it may (R282, R309). Log: 84 (DEDUCED), 89 (DESIGN CHOICE). -/
def dumpStatus (s : State) (j : DumpJob) : Nat :=
  if j.ring then
    if s.ringType j.dest ≠ 1 then St.BAD_PARAM else window
  else if 4096 ≤ j.dest then St.BAD_PARAM
  else if !s.ethFlag (Reg.ETH_STR_CFG j.dest) Fld.ETH_STR_CFG_ENABLE ∨ s.ethGet (Reg.ETH_STR_CFG j.dest) Fld.ETH_STR_CFG_CLASS ≠ 2
      ∨ s.producers.any (fun p => p.1 == j.dest) then St.ETH_CLASS
  else window
where
  /-- The tests of state and window. -/
  window : Nat :=
    if !j.live then (if s.gleanState = 3 then 0 else St.GLEAN_STATE)
    else if s.gleanState = 1 ∨ s.gleanState = 2 then
      (if j.lo ≤ j.hi ∧ s.gleanReleased j.hi then 0 else St.GLEAN_RANGE)
    else St.GLEAN_STATE

/-- Start the dump at the head of the list; one that may not start completes, and the next is looked at. Log: 84 (DEDUCED). -/
def dumpStart (s : State) : Nat → State
  | 0 => s
  | fuel + 1 =>
    match s.glean.jobs with
    | [] => s.setFlag Reg.GLEAN_STATUS Fld.GLEAN_STATUS_DUMPING false
    | j :: t =>
      let st := s.dumpStatus j
      if st ≠ 0 then (({ s with glean := { s.glean with jobs := t } } : State).finishSt j.ref st).dumpStart fuel
      else
        let live : Capture := { trigger := 0, source := 0xFF, chan := 0xFFFF, lo := j.lo, hi := j.hi, seq := s.glean.seq }
        let cap := if j.live then live else s.glean.cap.getD live
        let (held, short, disc, lost) := s.gleanWindow cap.lo cap.hi
        let recs := held.map (fun r => ({ item := r, bytes := s.gleanBytes r } : DumpRec))
        let g := { s.glean with
          jobs := { j with cap := some cap, recs := recs, short := short, disc := disc, lost := lost } :: t
          seq := if j.live then (s.glean.seq + 1) % 2 ^ 32 else s.glean.seq }
        ({ s with glean := g } : State).setFlag Reg.GLEAN_STATUS Fld.GLEAN_STATUS_DUMPING true

/-- The running dump has sent its trailer. `overtaken` names, by place, the records that were overwritten or released before they
were read; only a record that the ring no longer holds can be among them. Overwritten ones that stand first in the dump make it SHORT; others,
and those that a shorter ring released, are lost inside it (R282, R285). Log: 6 (DESIGN CHOICE), 85 (DESIGN CHOICE). -/
def dumpDone (s : State) (overtaken : List Nat) : State :=
  match s.glean.jobs with
  | j :: t =>
    match j.cap with
    | none => s
    | some cap =>
      let missed := (j.recs.zipIdx.filter (fun e => overtaken.contains e.2 && !s.glean.recs.contains e.1.item)).map (·.1.item)
      let sent := j.recs.filter (fun r => r.bytes.isSome && !missed.contains r.item)
      let bad := (j.recs.filter (fun r => r.bytes.isNone)).length
      let released (r : GleanRec) : Bool := s.glean.gone.contains (r.chan, r.k)
      let atStart := (j.recs.map (·.item)).takeWhile (fun r => missed.contains r && !released r)
      let inside := missed.length - atStart.length
      let head := s.gleanHeader cap j.live
        (sent.map (·.item), j.short || !atStart.isEmpty, j.disc || decide (inside ≠ 0) || decide (bad ≠ 0), j.lost + inside + bad)
      let body := sent.flatMap (fun r => r.bytes.getD [])
      let msg := head ++ zeros 4 ++ body ++ [0x67, 0x01] ++ zeros 2 ++ le 4 (crc32c body) ++ le 8 sent.length
      let s := { s with glean := { s.glean with jobs := t } }
      let s := s.toDest j.ring j.dest 2 { producer := 0x02, bytes := msg, alive := some 3, crc := some (60, 60) }
      let s := if !j.live && s.flag Reg.GLEAN_CFG Fld.GLEAN_CFG_AUTO_RESUME && s.gleanState == 3 then s.gleanRearm else s
      (s.finish j.ref { count := sent.length }).dumpStart (t.length + 1)
  | [] => s

/-- A GLEAN_DUMP is handed over: it runs at once, or behind the dumps before it. -/
def dumpHand (s : State) (ref : CmdRef) (d : List Byte) : State :=
  let j : DumpJob := { ref := ref, live := bitAt (byteAt d 36) 0, ring := bitAt (byteAt d 36) 1, dest := fieldAt d 38 2 % 2 ^ 14
                       lo := descK d, hi := fieldAt d 40 7 }
  if j.live ∧ (j.lo = emptyKey ∨ j.hi = emptyKey) then s.finishSt ref St.BAD_PARAM
  else
    let first := s.glean.jobs.isEmpty
    let s := { s with glean := { s.glean with jobs := s.glean.jobs ++ [j] } }
    if first then s.dumpStart 1 else s

end State

open State

/-- GLEAN_FREEZE (R278, R279): ring command 0x40. Log: 87 (DEDUCED). -/
def execGleanFreeze (src : CmdSrc) (s : State) : Result :=
  ok (s.keyedCommand src 0x40 (fun ref d _ s =>
    let (s, refused) := s.gleanRequest 0 (descK d) 0xFFFF
    if refused then s.finishSt ref St.GLEAN_STATE else s.finish ref { aux := descK d }))

/-- GLEAN_RESUME (R276, R287): ring command 0x41. Log: 87 (DEDUCED). -/
def execGleanResume (src : CmdSrc) (s : State) : Result :=
  ok (s.runCommand src 0x41 (fun ref _ _ s =>
    if s.gleanState = 3 then s.gleanRearm.finish ref {} else s.finishSt ref St.GLEAN_STATE))

/-- GLEAN_DUMP (R282, R309): ring command 0x42. -/
def execGleanDump (src : CmdSrc) (s : State) : Result := ok (s.runCommand src 0x42 (fun ref d _ s => s.dumpHand ref d))

/-- DUMP_END (R276, R282, R283, R285). Log: 85 (DESIGN CHOICE). -/
def execDumpEnd (overtaken : List Nat) (s : State) : Result := ok (s.dumpDone overtaken)

/-- GLEAN_LEN_SHADOW_WRITE (R284). -/
def execGleanLenShadowWrite (value : Word) (s : State) : Result := ok (if s.served then s.shadowWrite value.toNat else s)

end Sys2Proof.Machine
end

