-- ==== Sys2Proof/Machine/Beam.lean ====
section
/-! DEFINITION. The beamformer (spec/09_beamformer.md, R516, R520): weights, loads and cross-fades, exact beam sums, requantisation, frames,
detection, the peak finder, and partial sums from other devices. -/

namespace Sys2Proof.Machine

/-! ### Weights (R240–R245, R248) -/

/-- A triplet: GAIN, PHASE, DELAY. -/
structure Triplet where
  g : Int
  p : Int
  d : Int
deriving DecidableEq, Repr

/-- The triplet of 8 bytes. -/
def triplet (v : Nat) : Triplet := ⟨(v % 65536 : Nat), (v / 65536 % 65536 : Nat), toS 24 (v / 2 ^ 32)⟩

/-- Offset post-modification (R243): the effective triplet and whether its delay saturated. -/
def effective (t o : Triplet) : Triplet × Bool :=
  let d := t.d + o.d
  (⟨min ((t.g * o.g + 16384) / 32768) 65535, (t.p + o.p) % 65536, satS 24 d⟩, decide (satS 24 d ≠ d))

/-- Interpolation inside a fade (R248): step m of l. -/
def fadeTriplet (a b : Triplet) (m l : Nat) : Triplet :=
  let dp := (b.p - a.p + 32768) % 65536 - 32768
  ⟨a.g + ((b.g - a.g) * m).fdiv l, (a.p + (dp * m).fdiv l) % 65536, a.d + ((b.d - a.d) * m).fdiv l⟩

/-- COS[n] (R245): round(32,767 cos(2πn / 16,384)), ties away from zero; SIN[n] = COS[n − 4,096]. -/
def beamCos (n : Nat) : Int := roundDiv (32767 * cos64 (n % 16384) 16384) (2 ^ 64)
def beamSin (n : Nat) : Int := beamCos ((n + 12288) % 16384)

/-- One component of a weight. -/
def weightPart (pr : Int) : Int :=
  let m : Int := ((pr.natAbs + 2 ^ 23) / 2 ^ 24 : Nat)
  clampI (-127) 127 (if pr < 0 then -m else m)

/-- The weight of a triplet on a channel of phase rate F (R245). -/
def beamWeight (t : Triplet) (f : Nat) : Int × Int :=
  let n := (((t.p * 2 ^ 24 - t.d * f + 2 ^ 25).fdiv (2 ^ 26)) % 16384).toNat
  (weightPart (t.g * beamCos n), weightPart (t.g * beamSin n))

namespace State

/-! ### Geometry of the engine (R237–R242) -/

/-- Inputs summed per beam, N_w, and base beams, NB. -/
def beamNw (s : State) : Nat := if s.mode = 0 then s.nAll else if s.mode = 1 then 8192 else 4096
def beamNb (s : State) : Nat := min (2 ^ 20 / s.beamNw) 1024

/-- Channels selected as beam sources. -/
def beamChans (s : State) : List Nat := (List.range 4096).filter (s.selBit Reg.BEAM_SEL)

/-- A block, and replacing it. -/
def beamBlk (s : State) (b : Nat) : BeamBlk := (mapFind s.beam.blocks b).getD {}
def setBeamBlk (s : State) (b : Nat) (x : BeamBlk) : State :=
  { s with beam := { s.beam with blocks := mapSet {} s.beam.blocks b x } }

/-- The lowest sheaf index not yet released on a channel, in steps of one index (R94, R118). Log: 15 (DESIGN CHOICE). -/
def afterRelease (s : State) (ch : Nat) : Nat :=
  if ch < s.cAll then s.nextIndex ch
  else if s.mode = 0 then max (s.nextIndex (s.zoomCoarse (s.fineSlot ch)) / s.fineM) s.firstFrame * s.fineM
  else s.nextIndex ch + 1 - s.fineM

/-- Lowest index that some selected channel has still to release, and lowest that every one has; none when no channel is
selected. -/
def beamSpan (s : State) : Option (Nat × Nat) :=
  match s.beamChans.map s.afterRelease with
  | [] => none
  | k :: t => some (t.foldl min k, t.foldl max k)

end State

/-- Last index of a fade. -/
def Fade.last (f : Fade) : Nat := f.k0 + f.len - 1

/-- The bank active at an index, and the fade that covers it (R248). -/
def bankAt (k : Nat) : Bool → List Fade → Bool × Option Fade
  | b, [] => (b, none)
  | b, f :: t => if k < f.k0 then (b, none) else if k ≤ f.last then (b, some f) else bankAt k (!b) t

/-- The bank that a block's fades lead to. -/
def BeamBlk.latest (x : BeamBlk) : Bool := if x.fades.length % 2 = 1 then !x.bank else x.bank

namespace State

/-- Is a bank busy for a block (R242): its latest bank, or an end of a fade that has been accepted and has not ended? -/
def bankBusy (s : State) (bank : Bool) (b lo : Nat) : Bool :=
  let x := s.beamBlk b
  x.latest == bank || x.queued.isSome || x.waits.isSome || x.fades.any (fun f => decide (lo ≤ f.last))

/-- Blocks that a load touches: the owners of base beams in its range, or every enabled block for an offset table. -/
def loadBlocks (s : State) (table first count : Nat) : List Nat :=
  if table = 1 then (List.range 16).filter s.blockOn
  else
    let nw := max s.beamNw 1
    (List.range 16).filter (fun b => (List.range s.beamNb).any (fun p =>
      p % 256 / 16 == b && decide (p * nw < first + count) && decide (first < (p + 1) * nw)))

/-- The BEAM_LOADs into a bank that have been submitted on any ring and are not complete (R251): those handed over, and those fetched.
Log: 221 (DEDUCED). -/
def loadsInto (s : State) (bank : Bool) : List (Nat × List Byte) :=
  (s.beam.loads.filter (fun l => (l.bank == 1) == bank)).map (fun l => (l.ring, l.desc))
    ++ s.host.rings.flatMap (fun r => (r.2.queue.filter (fun e =>
      descOpcode e.bytes == 0x38 && (byteAt e.bytes 36 == 1) == bank)).map (fun e => (r.1, e.bytes)))

/-- Is a load that a request waits for still incomplete (R251)? -/
def loadOpen (s : State) (r : SwapReq) : Bool :=
  r.loads.any (fun w => (s.ring w.1).queue.any (fun e => e.bytes == w.2) || s.beam.loads.any (fun l => l.ring == w.1 && l.desc == w.2))

/-! ### Fades (R247–R251) -/

/-- Change the swap of a request. -/
def onSwap (s : State) (ref : CmdRef) (f : SwapJob → SwapJob) : State :=
  { s with beam := { s.beam with swaps := s.beam.swaps.map (fun j => if j.ref = ref then f j else j) } }

/-- Place a request's fade on a block at index k0. -/
def placeFade (s : State) (b : Nat) (r : SwapReq) (k0 : Nat) (late : Bool) : State :=
  let x := s.beamBlk b
  let s := s.setBeamBlk b { x with fades := x.fades ++ [⟨k0, r.len⟩] }
  s.onSwap r.ref (fun j => { j with
    open_ := j.open_ - 2 ^ b, starts := j.starts ++ [(b, k0)], late := j.late || late, top := max j.top k0 })

/-- Begin a fade on a block that does not fade: at k, or LATE at the lowest index that no selected channel has released.
Log: 74 (DEDUCED). -/
def beginFade (s : State) (b hi : Nat) (r : SwapReq) : State := s.placeFade b r (max r.k hi) (decide (r.k < hi))

/-- A queued request is replaced by a later one (R250). -/
def supersede (s : State) (b : Nat) (r : SwapReq) : State :=
  (s.count (Reg.BEAM_COUNT 5)).onSwap r.ref (fun j => { j with open_ := j.open_ - 2 ^ b, sup := j.sup + 2 ^ b })

/-- A request reaches a block (R247, R250, R251). Log: 74 (DEDUCED). -/
def swapBlock (s : State) (hi : Nat) (r : SwapReq) (b : Nat) : State :=
  let x := s.beamBlk b
  let r := { r with loads := s.loadsInto (if x.waits.isSome then x.latest else !x.latest) }
  if x.waits.isSome ∨ x.fades.any (fun f => decide (hi ≤ f.last)) then
    let s := match x.queued with
      | some old => s.supersede b old
      | none => s
    s.setBeamBlk b { x with queued := some r }
  else if s.loadOpen r then s.setBeamBlk b { x with waits := some r }
  else s.beginFade b hi r

/-- BEAM_BANK and BEAM_STATUS of every block: a fade is in progress while some index of it has been released and its last one has
not. -/
def showBanks (s : State) (hi : Nat) : State :=
  let s := s.each (List.range 16) (fun s b =>
    let x := s.beamBlk b
    let (bank, _) := bankAt hi x.bank x.fades
    let f := x.fades.find? (fun f => decide (f.k0 < hi) && decide (hi ≤ f.last))
    let left := (f.map (fun f => f.last + 1 - hi)).getD 0
    s.wrN (Reg.BEAM_BANK b) (b2n bank + 2 * b2n f.isSome + 4 * b2n x.queued.isSome + 8 * satU 16 left))
  s.set Reg.BEAM_STATUS Fld.BEAM_STATUS_FADING
    (((List.range 16).map (fun b => 2 ^ b * s.get (Reg.BEAM_BANK b) Fld.BEAM_BANK_FADING)).sum)

/-- Complete the swaps whose fades have all begun, or were superseded (R249): a fade has begun once every selected channel has
released its first index. -/
def endSwaps (s : State) (lo : Nat) : State :=
  let s : State := { s with beam := { s.beam with
    swaps := s.beam.swaps.map (fun j => { j with starts := j.starts.filter (fun e => decide (lo ≤ e.2)) }) } }
  let finished (j : SwapJob) : Bool := j.open_ == 0 && j.starts.isEmpty
  let s := s.each (s.beam.swaps.filter finished) (fun s j =>
    s.finish j.ref { status := if j.sup = j.mask then St.SUPERSEDED else St.OK, late := j.late, count := j.sup
                     aux := if j.sup = j.mask then emptyKey else j.top })
  { s with beam := { s.beam with swaps := s.beam.swaps.filter (fun j => !finished j) } }

/-- A request whose loads have ended begins at the first index that no selected channel has released (R251). -/
def waitFade (s : State) (hi b : Nat) : State :=
  match (s.beamBlk b).waits with
  | some r => if s.loadOpen r then s else (s.setBeamBlk b { s.beamBlk b with waits := none }).beginFade b hi r
  | none => s

/-- A queued request begins where the fade before it ends, once an index before `hi` lies beyond that end, or waits for its loads (R250,
R251). -/
def queuedFade (s : State) (hi b : Nat) : State :=
  let x := s.beamBlk b
  match x.queued, x.fades.getLast? with
  | some r, some f =>
    if x.waits.isNone ∧ f.last < hi then
      if s.loadOpen r then s.setBeamBlk b { x with queued := none, waits := some r }
      else (s.setBeamBlk b { x with queued := none }).placeFade b r (max r.k (f.last + 1)) false
    else s
  | _, _ => s

/-- Every block's queued requests. -/
def queuedFades (s : State) (hi : Nat) : State := s.each (s.beam.blocks.map (·.1)) (fun s b => s.queuedFade hi b)

/-- Put away the fades that every selected channel and every sheaf that waits for partial sums has passed; start the requests whose time has
come. Log: 74 (DEDUCED). -/
def advanceFades (s : State) (lo hi : Nat) : State :=
  let s := (s.each (s.beam.blocks.map (·.1)) (fun s b => s.waitFade hi b)).queuedFades hi
  let old := (s.beam.partials.map (·.k)).foldl min lo
  let s := s.each (s.beam.blocks.map (·.1)) (fun s b =>
    let x := s.beamBlk b
    let gone := (x.fades.filter (fun f => decide (f.last < old))).length
    s.setBeamBlk b { x with fades := x.fades.drop gone, bank := if gone % 2 = 1 then !x.bank else x.bank })
  s.endSwaps lo

/-- With no channel selected no sheaf carries a fade: the banks change at once. Log: 75 (DEDUCED). -/
def swapAtOnce (s : State) (ref : CmdRef) (k mask : Nat) : State :=
  let s := s.each ((List.range 16).filter (bitAt mask)) (fun s b => s.setBeamBlk b { s.beamBlk b with bank := !(s.beamBlk b).bank })
  (s.showBanks 0).finish ref { aux := k }

/-- BEAM_SWAP's effect. Log: 75 (DEDUCED), 76 (DESIGN CHOICE). -/
def beamSwap (s : State) (ref : CmdRef) (d : List Byte) : State :=
  let k := descK d
  let mask := fieldAt d 36 2
  let len := fieldAt d 38 2
  if len = 0 then s.finishSt ref St.BEAM_RANGE
  else if mask = 0 then s.finishSt ref St.BAD_PARAM
  else match s.beamSpan with
    | none => s.swapAtOnce ref k mask
    | some (lo, hi) =>
      let s : State := { s with beam := { s.beam with swaps := s.beam.swaps ++ [{ ref := ref, open_ := mask, starts := [], mask := mask }] } }
      let s := s.each ((List.range 16).filter (bitAt mask)) (fun s b => s.swapBlock hi ⟨k, len, ref, []⟩ b)
      (s.advanceFades lo hi).showBanks hi

/-! ### Loads (R241, R242, R246) -/

/-- Store triplets from an entry of a table. Log: 77 (DEDUCED). -/
def putTriplets (s : State) (bank table first : Nat) (vs : List Nat) : State :=
  let put (size : Nat) (m : List (Nat × Nat)) : List (Nat × Nat) :=
    vs.zipIdx.foldl (fun m e => mapSet 0 m (bank * size + first + e.2) e.1) m
  if table = 0 then { s with beam := { s.beam with base := put (2 ^ 20) s.beam.base } }
  else { s with beam := { s.beam with offs := put (2 ^ 15) s.beam.offs } }

/-- The 8-byte entries of bytes. -/
def triplets (bs : List Byte) : List Nat := ((pieces 8 bs.length bs).filter (fun p => !p.isEmpty)).map unle

/-- Requests, fades and swaps as they stand between releases. -/
def fadesSettle (s : State) : State := match s.beamSpan with
  | none => s
  | some (lo, hi) => (s.advanceFades lo hi).showBanks hi

/-- A load ends: requests that waited for it begin at the first index that no selected channel has released. Log: 6 (DESIGN CHOICE). -/
def endLoad (s : State) (l : BeamLoad) (c : CplRec) : State :=
  let s : State := { s with beam := { s.beam with loads := s.beam.loads.filter (fun x => x.ref != l.ref) } }
  (s.finish l.ref { c with count := l.done }).fadesSettle

/-- The next bytes of a load arrive: whole triplets, at most those that remain. Log: 77 (DEDUCED). -/
def loadData (s : State) (l : BeamLoad) : HostRead → State
  | .timeout => (((s.count (Reg.DMA_COUNT 0)).raise Ev.DMA_TIMEOUT (l.ring + s.ringChannel l.ring * 2 ^ 14))).endLoad l { status := St.BAD_TIMEOUT, residue := loadResidue l }
  | .bus => (((s.count (Reg.DMA_COUNT 1)).raise Ev.DMA_BUS (l.ring + s.ringChannel l.ring * 2 ^ 14))).endLoad l { status := St.BAD_BUS, residue := loadResidue l }
  | .data bs =>
    let n := bs.length / 8
    if bs.length % 8 ≠ 0 ∨ l.count < l.done + n then s
    else
      let s := s.putTriplets l.bank l.table (l.first + l.done) (triplets bs)
      let l' := { l with done := l.done + n }
      if l'.done = l.count then s.endLoad l' {}
      else { s with beam := { s.beam with loads := s.beam.loads.map (fun x => if x.ref = l.ref then l' else x) } }

/-- A BEAM_LOAD is handed over: its fields, its host window and the banks are checked, and its first bytes are taken.
Log: 76 (DESIGN CHOICE). -/
def beamLoad (s : State) (src : CmdSrc) (data : HostRead) (ref : CmdRef) (d : List Byte) (r : Nat) : State :=
  let n := descCount d
  let bank := byteAt d 36
  let table := byteAt d 37
  let first := fieldAt d 40 4
  let lo := (s.beamSpan.map (·.1)).getD 0
  if n = 0 ∨ 1 < bank ∨ 1 < table then s.finishSt ref St.BAD_PARAM
  else if (if table = 0 then 2 ^ 20 else 2 ^ 15) < first + n then s.finishSt ref St.BEAM_RANGE
  else if !s.inHostWin r (descAddr d) (descAddr d + 8 * n) then s.finishSt ref St.BAD_BOUNDS
  else if s.running && (s.loadBlocks table first n).any (fun b => s.bankBusy (bank == 1) b lo) then s.finishSt ref St.BEAM_BANK_BUSY
  else
    let l : BeamLoad := { ref := ref, src := src, ring := r, bank := bank, table := table, first := first, count := n, desc := d }
    ({ s with beam := { s.beam with loads := s.beam.loads ++ [l] } } : State).loadData l data

/-! ### Sums (R243, R248, R252, R254) -/

/-- Effective triplet of a beam's input in a bank. -/
def beamEff (s : State) (bank : Bool) (beta i : Nat) : Triplet × Bool :=
  let nw := s.beamNw
  effective (triplet ((mapFind s.beam.base (b2n bank * 2 ^ 20 + beta % s.beamNb * nw + i)).getD 0))
    (triplet ((mapFind s.beam.offs (b2n bank * 2 ^ 15 + beta / 256 * nw + i)).getD 0))

/-- The triplet of a beam's input at an index, and the delays that saturated. -/
def tripletAt (s : State) (k : Nat) (bank : Bool) (f : Option Fade) (beta i : Nat) : Triplet × Nat :=
  let a := s.beamEff bank beta i
  match f with
  | none => (a.1, b2n a.2)
  | some f =>
    let b := s.beamEff (!bank) beta i
    (fadeTriplet a.1 b.1 (k - f.k0 + 1) f.len, b2n a.2 + b2n b.2)

/-- The sum of one beam over a sheaf, and the delays that saturated. -/
def beamSum (s : State) (ch k beta : Nat) (xs : List (Int × Int)) : (Int × Int) × Nat :=
  let x := s.beamBlk (beta % 256 / 16)
  let (bank, f) := bankAt k x.bank x.fades
  let fr := s.full (Reg.BEAM_CHFREQ ch)
  xs.zipIdx.foldl (fun (acc : (Int × Int) × Nat) e =>
    let (t, n) := s.tripletAt k bank f beta e.2
    let w := beamWeight t fr
    ((acc.1.1 + (w.1 * e.1.1 - w.2 * e.1.2), acc.1.2 + (w.1 * e.1.2 + w.2 * e.1.1)), acc.2 + n)) ((0, 0), 0)

/-- The sums of a block's 16 beams in a layer. -/
def blockSums (s : State) (ch k q : Nat) (xs : List (Int × Int)) : List (Int × Int) × Nat :=
  let l := (List.range 16).map (fun j => s.beamSum ch k (q / 16 * 256 + q % 16 * 16 + j) xs)
  (l.map (·.1), (l.map (·.2)).sum)

end State

/-- What a record says of its sheaf beside the samples. Log: 222 (DESIGN CHOICE). -/
structure SheafMark where
  chan : Nat
  k : Nat
  fine : Bool
  settling : Bool
  missing : Bool
  partialMissing : Bool
  cal : Bool
  overload : Bool
  valid : Nat
  /-- VALID of its record, 14 bits. -/
  shown : Nat
deriving DecidableEq, Repr

/-- FLAGS of a frame that a sheaf contributes. -/
def SheafMark.flags (m : SheafMark) (clip : Bool) : Nat :=
  b2n clip + 2 * b2n m.missing + 4 * b2n m.partialMissing + 8 * b2n m.settling + 16 * b2n m.cal + 32 * b2n m.overload

/-- One component requantised by truncation (R253): the value and the clip. -/
def truncate (sh : Nat) (v : Int) : Int × Nat :=
  let q := v.fdiv (2 ^ sh)
  (clampI (-128) 127 q, b2n (decide (clampI (-128) 127 q ≠ q)))

/-- One component for detection (R255). -/
def detPart (sh : Nat) (v : Int) : Int × Nat :=
  let q := v.fdiv (2 ^ sh)
  (satS 16 q, b2n (decide (satS 16 q ≠ q)))

/-- The detected values of a block's beams (R255). -/
def detValues (mode : Nat) (ys : List (Int × Int)) : List Int :=
  let p (y : Int × Int) : Int := y.1 * y.1 + y.2 * y.2
  if mode = 1 then ys.map p
  else (List.range 8).flatMap (fun u =>
    let x := ys.getD (2 * u) (0, 0)
    let y := ys.getD (2 * u + 1) (0, 0)
    if mode = 2 then [p x + p y]
    else [p x + p y, p x - p y, 2 * (x.1 * y.1 + x.2 * y.2), 2 * (x.1 * y.2 - x.2 * y.1)])

/-- Shift and saturate the value at place `i` of a window's sums (R256). -/
def detOut (mode sh i : Nat) (v : Int) : Int × Nat :=
  let q := v.fdiv (2 ^ sh)
  let signed := mode == 3 && i % 4 != 0
  let r := if signed then clampI (-(2 ^ 31 - 1)) (2 ^ 31 - 1) q else clampI 0 (2 ^ 32 - 1) q
  (r, b2n (decide (r ≠ q)))

namespace State

/-! ### Frames (R260–R263) -/

/-- The header of a frame with room for ALIVE and CRC. -/
def frameHeader (s : State) (type q : Nat) (f : FrameSt) (b20 b21 : Nat) (tail : List Byte) : List Byte :=
  le 1 type ++ [0x01] ++ le 1 (q % 16 + q / 16 * 16 + 64 * (if s.mode = 0 then 0 else s.pos)) ++ zeros 1 ++ le 8 f.seq ++ le 7 f.first
    ++ le 1 f.n ++ le 1 b20 ++ le 1 b21 ++ le 2 f.flags ++ tail ++ zeros 4

/-- Send a source's voltage frame. Log: 78 (DEDUCED). -/
def sendVolt (s : State) (q : Nat) : State :=
  let f := (mapFind s.beam.volt q).getD {}
  if f.n = 0 then s
  else
    let h := s.frameHeader 0x42 q f (s.get (Reg.BEAM_BLOCK (q % 16)) Fld.BEAM_BLOCK_SHIFT)
      (b2n f.bank0 + 2 * b2n f.faded + 4 * b2n f.changed) (zeros 4)
    let s := s.toStream (s.get (Reg.BEAM_DEST q) Fld.BEAM_DEST_VSTREAM) 0
      { producer := 0x07, bytes := h ++ f.bytes, alive := some 3, crc := some (28, 28) }
    { s with beam := { s.beam with volt := mapPut s.beam.volt q { seq := (f.seq + 1) % 2 ^ 64, bank1 := f.bank1 } } }

/-- Does the frame of the e-th of the voltage sources close at an ordinal (R260)? -/
def frameCloses (s : State) (q n : Nat) : Bool :=
  let vs := s.voltSources
  let spf := s.get Reg.BEAM_FRAME Fld.BEAM_FRAME_SPF
  let o := vs.findIdx (fun x => x == q) * spf / vs.length
  decide ((n + spf - o) % spf = spf - 1)

/-- Add a record of a sheaf to a source's voltage frame (R253, R261). -/
def addVolt (s : State) (q n : Nat) (m : SheafMark) (ys : List (Int × Int)) : State :=
  let sh := s.get (Reg.BEAM_BLOCK (q % 16)) Fld.BEAM_BLOCK_SHIFT
  let out := ys.map (fun y => (truncate sh y.1, truncate sh y.2))
  let clips := (out.map (fun o => o.1.2 + o.2.2)).sum
  let clip := decide (clips ≠ 0)
  let x := s.beamBlk (q % 16)
  let (bank, fade) := bankAt m.k x.bank x.fades
  let rec_ := le 2 (m.chan + 2 ^ 12 * b2n m.fine + 2 ^ 13 * b2n m.settling + 2 ^ 14 * b2n m.missing + 2 ^ 15 * b2n clip)
    ++ le 2 (m.shown % 2 ^ 14 + 2 ^ 14 * b2n m.partialMissing) ++ le 4 m.k
    ++ out.flatMap (fun o => sampleOut true (o.1.1, o.2.1))
  let f := (mapFind s.beam.volt q).getD {}
  let f : FrameSt := { f with
    n := f.n + 1, bytes := f.bytes ++ rec_, first := if f.n = 0 then m.k else f.first
    flags := Nat.lor f.flags (m.flags clip), bank0 := if f.n = 0 then bank else f.bank0, bank1 := bank
    changed := f.changed || (f.n != 0 && f.bank1 != bank), faded := f.faded || fade.isSome }
  let s : State := { (s.count (Reg.BEAM_COUNT 0) clips) with beam := { s.beam with volt := mapPut s.beam.volt q f } }
  if s.frameCloses q n then s.sendVolt q else s

/-- Send a source's detected frame (R262). -/
def sendDet (s : State) (q : Nat) : State :=
  let f := (mapFind s.beam.det q).getD {}
  if f.n = 0 then s
  else
    let h := s.frameHeader 0x44 q f s.detMode (s.get Reg.BEAM_DET Fld.BEAM_DET_PSHIFT)
      (le 1 (s.get Reg.BEAM_DET Fld.BEAM_DET_DSHIFT) ++ le 2 (s.get Reg.BEAM_DET Fld.BEAM_DET_DINT) ++ zeros 1)
    let s := s.toDest (s.flag (Reg.BEAM_DEST q) Fld.BEAM_DEST_D_RING) (s.get (Reg.BEAM_DEST q) Fld.BEAM_DEST_DDEST) 1
      { producer := 0x07, bytes := h ++ f.bytes, alive := some 3, crc := some (28, 28), full := .counts (Reg.BEAM_COUNT 9) }
    { s with beam := { s.beam with det := mapPut s.beam.det q { seq := (f.seq + 1) % 2 ^ 64 } } }

/-! ### The peak finder (R257–R259) -/

/-- Thresholds that hold for a window's first index: those of the command with the highest k at or below it, the later one of equals.
Log: 79 (DEDUCED). -/
def peakLimits (s : State) (k : Nat) : Nat × Nat :=
  let best := s.beam.sets.foldl (fun (b : Option PeakSet) e =>
    if k < e.k then b else match b with
      | some x => if e.k < x.k then b else some e
      | none => some e) none
  match best with
  | some e => (e.hi, e.lo)
  | none => (s.full Reg.BEAM_PEAK_HI, s.full Reg.BEAM_PEAK_LO)

/-- Send a trigger record (R263). -/
def sendTrigger (s : State) (k ch beam v : Nat) (low : Bool) : State :=
  let p := if s.mode = 0 then 0 else s.pos
  let freeze := s.flag Reg.BEAM_PEAK_CFG Fld.BEAM_PEAK_CFG_FREEZE
  let b := [0x4B, 0x01] ++ le 1 (b2n low + 2 * b2n freeze + 64 * p) ++ zeros 1 ++ le 7 k ++ zeros 1 ++ le 2 ch ++ le 2 beam ++ le 4 v
    ++ le 4 s.beam.trigSeq ++ le 4 s.beam.supp ++ zeros 4
  let s := (s.count (Reg.BEAM_COUNT 3)).toStream (s.get Reg.BEAM_OUT Fld.BEAM_OUT_TRIG_STREAM) 0
    { producer := 0x07, bytes := b, alive := some 3, crc := some (28, 28) }
  { s with beam := { s.beam with trigSeq := (s.beam.trigSeq + 1) % 2 ^ 32 } }

/-- Examine one value (R257). -/
def peakValue (s : State) (k ch beam v : Nat) : State :=
  let i := (k - s.startIndex) / s.full Reg.BEAM_PEAK_SPAN
  let p := (mapFind s.beam.spans i).getD {}
  let key := (k * 2 ^ 12 + ch) * 2 ^ 10 + beam
  let up := decide (p.mx < v) || (v == p.mx && decide (key < p.mxk))
  let dn := decide (v < p.mn) || (v == p.mn && decide (key < p.mnk))
  let p := { p with
    mx := if up then v else p.mx, mxk := if up then key else p.mxk
    mn := if dn then v else p.mn, mnk := if dn then key else p.mnk, nv := satU 32 (p.nv + 1) }
  let s : State := { s with beam := { s.beam with spans := mapPut s.beam.spans i p } }
  let (hi, lo) := s.peakLimits k
  if hi < v ∨ (s.flag Reg.BEAM_PEAK_CFG Fld.BEAM_PEAK_CFG_LO_EN ∧ v < lo) then
    if s.beam.holdUntil ≤ k then
      let s := s.sendTrigger k ch beam v (decide (v ≤ hi))
      let s := if s.flag Reg.BEAM_PEAK_CFG Fld.BEAM_PEAK_CFG_FREEZE then (s.gleanRequest 6 k ch).1 else s
      { s with beam := { s.beam with holdUntil := k + s.get Reg.BEAM_PEAK_CFG Fld.BEAM_PEAK_CFG_HOLDOFF, supp := 0 } }
    else { (s.count (Reg.BEAM_COUNT 4)) with beam := { s.beam with supp := satU 32 (s.beam.supp + 1) } }
  else s

/-- Send a span's report (R263). -/
def sendReport (s : State) (i : Nat) : State :=
  let p := (mapFind s.beam.spans i).getD {}
  let key (x : Nat) : Nat × Nat × Nat := (x / 2 ^ 22, x / 2 ^ 10 % 2 ^ 12, x % 2 ^ 10)
  let (xk, xc, xb) := key p.mxk
  let (nk, nc, nb) := key p.mnk
  let b := [0x4D, 0x01] ++ le 1 (64 * (if s.mode = 0 then 0 else s.pos)) ++ zeros 1
    ++ le 7 (s.startIndex + i * s.full Reg.BEAM_PEAK_SPAN) ++ zeros 1 ++ le 4 p.mx ++ le 7 xk ++ zeros 1 ++ le 2 xc ++ le 2 xb
    ++ le 4 p.mn ++ le 7 nk ++ zeros 1 ++ le 2 nc ++ le 2 nb ++ le 4 p.nv ++ zeros 16
  let s : State := { s with beam := { s.beam with spans := mapDel s.beam.spans i, spanNext := i + 1 } }
  s.toDest (s.flag Reg.BEAM_OUT Fld.BEAM_OUT_REPORT_RING) (s.get Reg.BEAM_OUT Fld.BEAM_OUT_REPORT) 1
    { producer := 0x07, bytes := b, alive := some 3, crc := some (60, 60), full := .counts (Reg.BEAM_COUNT 9) }

/-- Sheaves of a channel that every source has been given: on a leader that adds exported partials, also its shared block (R258, R520). -/
def beamSeen (s : State) (ch : Nat) : Nat :=
  let own := (mapFind s.beam.seen ch).getD 0
  if s.mode = 2 ∨ !s.unitFlag Reg.WEAVE_CFG Fld.WEAVE_CFG_EXPORT_LEAD ∨ !s.blockOn (s.unitGet Reg.WEAVE_CFG Fld.WEAVE_CFG_EXPORT_BLOCK) then own
  else min own (((mapFind s.beam.emitted ch).map (s.seqOf ch)).getD 0)

/-- DINT, and the first index of the window in progress on a channel. -/
def detInt (s : State) : Nat := s.get Reg.BEAM_DET Fld.BEAM_DET_DINT
def winFirst (s : State) (ch : Nat) : Nat := s.indexOf ch (s.beamSeen ch / s.detInt * s.detInt)

/-- Send the reports of the spans that every selected channel has completed. -/
def endSpans (s : State) : State :=
  match s.beamChans.map s.winFirst with
  | [] => s
  | k :: t =>
    let lo := t.foldl min k
    let whole := (lo - s.startIndex) / s.full Reg.BEAM_PEAK_SPAN
    s.each (List.range (whole - s.beam.spanNext)) (fun s _ => s.sendReport s.beam.spanNext)

/-- Complete the BEAM_PEAK_SETs that have taken effect on every selected channel (R352): its window in progress begins at k or later.
Log: 79 (DEDUCED). -/
def endSets (s : State) : State :=
  let finished (k : Nat) : Bool := s.beamChans.all (fun c => decide (k ≤ s.winFirst c))
  let s' := s.each (s.beam.setCmds.filter (fun e => finished e.2.1)) (fun s e => s.finish e.1 { late := e.2.2.2, aux := e.2.2.1 })
  { s' with beam := { s'.beam with setCmds := s.beam.setCmds.filter (fun e => !finished e.2.1) } }

/-- BEAM_PEAK_SET's effect: it is LATE when a window whose first index is k or later has ended. Log: 79 (DEDUCED). -/
def peakSet (s : State) (ref : CmdRef) (d : List Byte) : State :=
  let k := descK d
  let ended (c : Nat) : Bool :=
    let w := (mapFind s.beam.seen c).getD 0 / s.detInt
    w != 0 && decide (k ≤ s.indexOf c ((w - 1) * s.detInt))
  let firstWin (c : Nat) : Nat :=
    let step := s.detInt * s.chanStep c
    max (s.winFirst c) (s.firstIndex c + ceilDiv (k - s.firstIndex c) step * step)
  let top := (s.beamChans.map firstWin).foldl max k
  ({ s with beam := { s.beam with
    sets := s.beam.sets ++ [⟨k, fieldAt d 40 4, fieldAt d 44 4⟩]
    setCmds := s.beam.setCmds ++ [(ref, k, top, s.beamChans.any ended)] } } : State).endSets

/-! ### Detection (R255, R256, R262) -/

/-- A window ends on a source: its values are examined, and recorded when the source sends detected frames. -/
def endWindow (s : State) (q ch first : Nat) (w : DetWin) : State :=
  let mode := s.detMode
  let n := if mode = 1 then 16 else if mode = 2 then 8 else 32
  let sums := (List.range n).map (fun i => w.sums.getD i 0)
  let out := sums.zipIdx.map (fun e => detOut mode (s.get Reg.BEAM_DET Fld.BEAM_DET_PSHIFT) e.2 e.1)
  let sats := (out.map (·.2)).sum
  let s := s.count (Reg.BEAM_COUNT 2) sats
  let flags := Nat.lor w.flags (b2n (decide (sats ≠ 0)))
  let s := if s.peakOn then
      (out.zipIdx.filter (fun e => mode != 3 || e.2 % 4 == 0)).foldl (fun s e =>
        let j := if mode = 1 then e.2 else if mode = 2 then 2 * e.2 else e.2 / 2
        s.peakValue first ch (q / 16 * 256 + q % 16 * 16 + j) e.1.1.toNat) s
    else s
  if s.flag (Reg.BEAM_DEST q) Fld.BEAM_DEST_D_EN then
    let bit (i : Nat) : Nat := flags / 2 ^ i % 2
    let rec_ := le 2 (ch + 2 ^ 12 * b2n (decide (s.cAll ≤ ch)) + 2 ^ 13 * bit 3 + 2 ^ 14 * Nat.lor (bit 1) (bit 2) + 2 ^ 15 * bit 0)
      ++ le 2 w.added ++ le 4 first ++ out.flatMap (fun o => le 4 (ofS 32 o.1))
    let f := (mapFind s.beam.det q).getD {}
    let f : FrameSt := { f with
      n := f.n + 1, bytes := f.bytes ++ rec_, first := if f.n = 0 then first else f.first, flags := Nat.lor f.flags flags }
    let s : State := { s with beam := { s.beam with det := mapPut s.beam.det q f } }
    if s.get Reg.BEAM_FRAME Fld.BEAM_FRAME_DPF ≤ f.n then s.sendDet q else s
  else s

/-- A sheaf enters the window of a source, and the window ends with its DINT-th sheaf. -/
def addDet (s : State) (q n : Nat) (m : SheafMark) (ys : List (Int × Int)) : State :=
  if s.detMode = 0 then s
  else
    let key := q * 4096 + m.chan
    let w := (mapFind s.beam.wins key).getD {}
    let skip := m.valid == 0 || (m.settling && !s.flag Reg.BEAM_DET Fld.BEAM_DET_SETTLE_DET)
    let sh := s.get Reg.BEAM_DET Fld.BEAM_DET_DSHIFT
    let yd := ys.map (fun y => (detPart sh y.1, detPart sh y.2))
    let clips := if skip then 0 else (yd.map (fun y => y.1.2 + y.2.2)).sum
    let vals := detValues s.detMode (yd.map (fun y => (y.1.1, y.2.1)))
    let w := if skip then w else
      { added := w.added + 1
        sums := vals.zipIdx.map (fun e => w.sums.getD e.2 0 + e.1)
        flags := Nat.lor w.flags (m.flags (decide (clips ≠ 0))) }
    let s := s.count (Reg.BEAM_COUNT 1) clips
    if (n + 1) % s.detInt = 0 then
      let s : State := { s with beam := { s.beam with wins := mapDel s.beam.wins key } }
      s.endWindow q m.chan (s.indexOf m.chan (n / s.detInt * s.detInt)) w
    else { s with beam := { s.beam with wins := mapPut s.beam.wins key w } }

/-- The sums of a sheaf on a list of sources: voltage records at an ordinal, then detection. -/
def sourceSums (s : State) (ord : Nat) (m : SheafMark) (l : List (Nat × List (Int × Int))) : State :=
  let s := s.each l (fun s e => if s.flag (Reg.BEAM_DEST e.1) Fld.BEAM_DEST_V_EN then s.addVolt e.1 ord m e.2 else s)
  s.each l (fun s e => s.addDet e.1 (s.seqOf m.chan m.k) m e.2)

/-- Spans and thresholds whose time has come. -/
def spansSettle (s : State) : State := (if s.peakOn then s.endSpans else s).endSets

/-- A channel's sheaf has been through detection on every source, or on every one but those whose sums wait for partials. -/
def sheafSeen (s : State) (ch k : Nat) : State :=
  ({ s with beam := { s.beam with seen := mapPut s.beam.seen ch (s.seqOf ch k + 1) } } : State).spansSettle

/-! ### Partial sums (R267, R516, R520) -/

/-- Blocks whose sums are added from several devices here, in layer 0: those that a quad position owns, or the leader's
EXPORT_BLOCK; and the positions whose partials are expected. Log: 78 (DEDUCED). -/
def sumBlocks (s : State) : List Nat :=
  if s.mode = 2 then (List.range 4).map (fun i => 4 * i + s.pos)
  else if s.unitFlag Reg.WEAVE_CFG Fld.WEAVE_CFG_EXPORT_LEAD then [s.unitGet Reg.WEAVE_CFG Fld.WEAVE_CFG_EXPORT_BLOCK] else []
def sumFrom (s : State) : List Nat :=
  if s.mode = 2 then List.range 4 else s.pos :: s.partners

/-- Parts of one origin's partials. -/
def sumParts (s : State) : Nat := if s.mode = 2 then 2 else 1

/-- Add one part of an origin to the sums of a sheaf that waits. Log: 81 (DEDUCED). -/
def mergePartial (p : Partial) (origin part at_ valid flags : Nat) (missing settling : Bool) (ys : List (Int × Int)) : Partial :=
  if p.got.contains (origin, part) then p
  else
    let first := !p.got.any (fun e => e.1 == origin)
    { p with
      sums := p.sums.zipIdx.map (fun e =>
        let y := if at_ ≤ e.2 then ys.getD (e.2 - at_) (0, 0) else (0, 0)
        (e.1.1 + y.1, e.1.2 + y.2))
      got := p.got ++ [(origin, part)]
      valid := p.valid + (if first then valid else 0)
      missing := p.missing || missing
      settling := p.settling || settling
      flags := Nat.lor p.flags flags }

/-- Origins of which every part has arrived. -/
def wholeFrom (s : State) (p : Partial) : List Nat :=
  s.sumFrom.filter (fun o => (List.range s.sumParts).all (fun i => p.got.contains (o, i)))

/-- Emit a sheaf from its partials: an origin that is not whole counts as missing. VALID of a record has no place for all 16,384 inputs, so it is
open then. Log: 80 (DEDUCED), 222 (DESIGN CHOICE). -/
def emitPartial (s : State) (p : Partial) : State :=
  let miss := s.sumFrom.length - (s.wholeFrom p).length
  let (v, s) := if p.valid < 2 ^ 14 then (p.valid, s) else s.free (2 ^ 14)
  let m : SheafMark := { chan := p.chan, k := p.k, fine := decide (s.cAll ≤ p.chan), settling := p.settling, missing := p.missing
                         partialMissing := decide (miss ≠ 0), cal := bitAt p.flags 3, overload := bitAt p.flags 2, valid := p.valid, shown := v }
  let l := (s.sumBlocks.zipIdx.filter (fun e => s.blockOn e.1)).map (fun e => (e.1, (p.sums.drop (16 * e.2)).take 16))
  let s := (s.count (Reg.BEAM_COUNT 7) miss).sourceSums s.beam.np m l
  let s : State := { s with beam := { s.beam with
    np := s.beam.np + 1
    partials := s.beam.partials.filter (fun x => !(x.chan == p.chan && x.k == p.k))
    emitted := mapPut s.beam.emitted p.chan (p.k + s.chanStep p.chan) } }
  if s.mode = 2 then s.sheafSeen p.chan p.k else s.spansSettle

/-- Emit, in order of index, the sheaves of a channel that are whole or whose wait is over. Log: 80 (DEDUCED). -/
def emitReady (s : State) (ch : Nat) : Nat → State
  | 0 => s
  | fuel + 1 =>
    let mine := s.beam.partials.filter (fun p => p.chan == ch)
    match mine.map (·.k) with
    | [] => s
    | k :: t =>
      let lo := t.foldl min k
      match mine.find? (fun p => p.k == lo) with
      | some p => if p.waitOver ∨ (s.wholeFrom p).length = s.sumFrom.length then (s.emitPartial p).emitReady ch fuel else s
      | none => s

/-- A part of a partial for (channel, index): opened by the first one; one that comes after its sheaf was emitted is late, and counts with its
last part. -/
def takePartial (s : State) (ch k origin part at_ valid flags : Nat) (missing settling : Bool) (ys : List (Int × Int)) : State :=
  if k < (mapFind s.beam.emitted ch).getD (s.firstIndex ch) then s.count (Reg.BEAM_COUNT 8) (b2n (part + 1 == s.sumParts))
  else
    let fresh : Partial := { chan := ch, k := k, sums := List.replicate (16 * s.sumBlocks.length) (0, 0), got := [] }
    let ps := if s.beam.partials.any (fun p => p.chan == ch && p.k == k) then s.beam.partials else s.beam.partials ++ [fresh]
    let ps := ps.map (fun p =>
      if p.chan = ch ∧ p.k = k then mergePartial p origin part at_ valid flags missing settling ys else p)
    ({ s with beam := { s.beam with partials := ps } } : State).emitReady ch ps.length

/-- The 10-byte header of a partial. Log: 81 (DEDUCED). -/
def partialHeader (origin part ch k valid : Nat) (missing settling : Bool) : List Byte :=
  [0x70] ++ le 1 (origin + 4 * part + 8 * b2n missing + 16 * b2n settling) ++ le 2 ch ++ le 4 k ++ le 2 (valid % 2 ^ 14)

/-- Beams of a partial, 24+24 bits. -/
def partialBeams (ys : List (Int × Int)) : List Byte := ys.flatMap (fun y => le 3 (ofS 24 y.1) ++ le 3 (ofS 24 y.2))

/-- Send a partial-beam flit on VC 0 to a position, and count it. -/
def sendPartial (s : State) (q : Nat) (p : List Byte) : State := match s.weaveLink q with
  | some k => (s.sendVc0 k p).count (Reg.WEAVE_COUNT 5)
  | none => s

/-- In a quad, send the partial sums of every other owner's beams: two flits of 39 and 25 beams. -/
def sendPartials (s : State) (m : SheafMark) (sums : Nat → List (Int × Int)) : State :=
  s.each ((List.range 4).filter (fun o => o != s.pos)) (fun s o =>
    let ys := (List.range 4).flatMap (fun i => sums (4 * i + o))
    let h (part : Nat) := partialHeader s.pos part m.chan m.k m.valid m.missing m.settling
    (s.sendPartial o (h 0 ++ partialBeams (ys.take 39))).sendPartial o (h 1 ++ partialBeams (ys.drop 39)))

/-- A contributor exports the partials of EXPORT_BLOCK: two consecutive records share a flit. -/
def exportRecord (s : State) (rec_ : List Byte) : State :=
  if s.beam.export_.isEmpty then { s with beam := { s.beam with export_ := rec_ } }
  else
    let p := s.beam.export_ ++ rec_
    ({ s with beam := { s.beam with export_ := [] } } : State).sendPartial 0 p

/-! ### A sheaf delivered to the engine (R23, R238, R254) -/

/-- Deliver a sheaf: the sums of every enabled source; those of a block that several devices add go out or wait. -/
def toBeam (s : State) (sh : Sheaf) : State :=
  if !s.beamOn ∨ !s.selBit Reg.BEAM_SEL sh.chan then s
  else
    let s := (s.setFlag Reg.BEAM_STATUS Fld.BEAM_STATUS_RUNNING true).queuedFades sh.k
    let xs := if s.mode = 2 then s.directPart sh.samples else sh.samples
    let vs := if s.mode = 2 then s.directPart sh.valid else sh.valid
    let xs := (xs.zip vs).map (fun e => if e.2 then e.1 else (0, 0))
    let all := s.beamSources.map (fun q => (q, s.blockSums sh.chan sh.k q xs))
    let s := s.count (Reg.BEAM_COUNT 6) (all.map (fun e => e.2.2)).sum
    let valid := (vs.filter (fun v => v)).length
    let m : SheafMark := { chan := sh.chan, k := sh.k, fine := decide (s.cAll ≤ sh.chan), settling := bitAt sh.flags 8
                           missing := decide (valid < vs.length), partialMissing := false, cal := bitAt sh.flags 3
                           overload := bitAt sh.flags 2, valid := valid, shown := valid }
    let sums (b : Nat) : List (Int × Int) := ((all.find? (fun e => e.1 == b)).map (fun e => e.2.1)).getD (List.replicate 16 (0, 0))
    let shared := s.sumBlocks
    let own := all.filter (fun e => s.mode != 2 && !(decide (e.1 < 16) && shared.contains e.1))
    let s := s.sourceSums s.beam.n m (own.map (fun e => (e.1, e.2.1)))
    let s : State := { s with beam := { s.beam with n := s.beam.n + 1 } }
    let s := if s.mode = 2 then s.sendPartials m sums else s.sheafSeen sh.chan sh.k
    let s := if s.mode = 0 ∧ s.unitFlag Reg.WEAVE_CFG Fld.WEAVE_CFG_EXPORT then
        s.exportRecord (partialHeader (s.unitGet Reg.WEAVE_CFG Fld.WEAVE_CFG_POS) 0 m.chan m.k m.valid m.missing m.settling
          ++ partialBeams (sums (s.unitGet Reg.WEAVE_CFG Fld.WEAVE_CFG_EXPORT_BLOCK)))
      else s
    if shared.isEmpty then s
    else
      (List.range s.sumParts).foldl (fun s i =>
        s.takePartial m.chan m.k s.pos i 0 m.valid sh.flags m.missing m.settling (if i = 0 then shared.flatMap sums else [])) s

/-- After releases: fades begin and end, and the registers show them. -/
def beamTick (s : State) : State :=
  if !s.beamOn && s.beam.blocks.isEmpty then s else s.fadesSettle

/-- The engine stops (R260): the frames in progress leave. Log: 82 (DEDUCED). -/
def beamStop (s : State) : State :=
  let s := s.each s.voltSources sendVolt
  let s := s.each s.detSources sendDet
  s.setFlag Reg.BEAM_STATUS Fld.BEAM_STATUS_RUNNING false

/-! ### Partials that arrive -/

/-- One record of a partial-beam payload: its index is the one nearest to the channel's next sheaf. -/
def partialRecord (s : State) (n : Nat) (b : List Byte) : State :=
  let f := byteAt b 1
  let ch := fieldAt b 2 2 % 4096
  let next := (mapFind s.beam.emitted ch).getD (s.firstIndex ch)
  let diff := toS 32 (fieldAt b 4 4 + 2 ^ 32 - next % 2 ^ 32)
  let k := ((next : Int) + diff).toNat
  let part := f / 4 % 2
  let ys := (List.range n).map (fun i => (toS 24 (fieldAt b (10 + 6 * i) 3), toS 24 (fieldAt b (13 + 6 * i) 3)))
  s.takePartial ch k (f % 4) part (39 * part) (fieldAt b 8 2 % 2 ^ 14) 0 (bitAt f 3) (bitAt f 4) ys

/-- A partial-beam payload (R516, R520): one part of a quad, or one or two records of an export. -/
def partialFlit (s : State) (b : List Byte) : State :=
  if s.sumBlocks.isEmpty ∨ !s.beamOn then s
  else if s.mode = 2 then s.partialRecord (if bitAt (byteAt b 1) 2 then 25 else 39) b
  else
    let s := s.partialRecord 16 b
    if byteAt b 106 = 0x70 then s.partialRecord 16 (b.drop 106) else s

end State

open State

/-- BEAM_LOAD (R246, R251): ring command 0x38, accepted whether or not the device runs. A load in progress takes its next bytes. -/
def execBeamLoad (src : CmdSrc) (data : HostRead) (s : State) : Result :=
  ok (match s.beam.loads.find? (fun l => l.src == src) with
    | some l => s.loadData l data
    | none => (s.handOver src 0x38 (fun ref d r s => s.beamLoad src data ref d r)).fadesSettle)

/-- BEAM_SWAP (R247–R251): ring command 0x39. -/
def execBeamSwap (src : CmdSrc) (s : State) : Result := ok (s.keyedCommand src 0x39 (fun ref d _ s => s.beamSwap ref d))

/-- BEAM_PEAK_SET (R259): ring command 0x3A. -/
def execBeamPeakSet (src : CmdSrc) (s : State) : Result := ok (s.keyedCommand src 0x3A (fun ref d _ s => s.peakSet ref d))

/-- PARTIAL_BEAM_FLIT (R267, R516, R520). -/
def execPartialBeamFlit (link : Link) (s : State) : Result :=
  ok (match s.takeVc0 link 0x70 with
    | some (b, s) => s.partialFlit b
    | none => s)

/-- PARTIAL_WAIT_EXPIRY (R267): WAIT_NS after the first partial of the channel's oldest sheaf that waits. -/
def execPartialWaitExpiry (channel : Chan) (s : State) : Result :=
  let mine := s.beam.partials.filter (fun p => p.chan == channel.val && !p.waitOver)
  ok (match mine with
    | [] => s
    | p :: _ =>
      let ps := s.beam.partials.map (fun x => if x.chan = p.chan ∧ x.k = p.k then { x with waitOver := true } else x)
      ({ s with beam := { s.beam with partials := ps } } : State).emitReady channel ps.length)

/-- EXPORT_RECORD_TIMEOUT (R520). -/
def execExportRecordTimeout (s : State) : Result :=
  ok (if s.beam.export_.isEmpty then s
      else ({ s with beam := { s.beam with export_ := [] } } : State).sendPartial 0 s.beam.export_)

end Sys2Proof.Machine
end

