-- ==== Sys2Proof/Machine/Release.lean ====
section
/-! DEFINITION. Releasing pairs as sheaves and delivering them to the branches (R23–R27, R94–R101, R104), and packets on ingest links. -/

namespace Sys2Proof.Machine

namespace State

/-! ### What a release waits for (R95, R98, R99) -/

/-- Has a stream stored all its slices of a pair?. Log: 36 (DEDUCED). -/
def streamWhole (d : StreamDef) (sl : List Slice) : Bool :=
  ((sl.filter (fun x => x.stream == d.key)).map (fun x => x.samples.length)).sum == d.count

/-- The slices stored of (c, k). -/
def slicesOf (s : State) (c k : Nat) : List Slice :=
  ((s.ingest.pairs.find? (fun p => p.chan == c && p.k == k)).map (·.slices)).getD []

/-- Is pair (c, k) complete: some covering stream is waited for, and every such stream has stored its slices? -/
def pairWhole (s : State) (c k : Nat) : Bool :=
  let ds := (s.coverOf c).filter (fun d => s.waitsFor d.key c k)
  !ds.isEmpty && ds.all (fun d => streamWhole d (s.slicesOf c k))

/-- A stream is declared absent (R98): nothing waits for it until it stores a pair again. -/
def streamGone (s : State) (d : StreamDef) : State :=
  let far := (List.range d.chCount).foldl (fun m i => mapPut m (d.key * 4096 + d.chFirst + i) (2 ^ 56)) s.ingest.rejoin
  let s : State := { s with ingest := { s.ingest with rejoin := far } }
  (s.setAbsent d.key true).raise Ev.INGEST_STREAM_ABSENT (d.key % 256)

/-- Count the misses of one stream on a released pair, and declare it absent at DEAD_COUNT. Log: 36 (DEDUCED). -/
def countMiss (s : State) (c : Nat) (sl : List Slice) (d : StreamDef) : State :=
  let key := d.key * 4096 + c
  let n := if streamWhole d sl then 0 else (mapFind s.ingest.misses key).getD 0 + 1
  let s : State := { s with ingest := { s.ingest with misses := mapSet 0 s.ingest.misses key n } }
  if n ≠ 0 ∧ !s.isAbsent d.key ∧ s.get Reg.INGEST_ALIGN Fld.INGEST_ALIGN_DEAD_COUNT ≤ n then s.streamGone d else s

/-! ### Delivery (R23, R104) -/

/-- The correlation branch is enabled. Log: 17 (DEDUCED). -/
def corrBranch (s : State) : Bool :=
  s.flag Reg.INGEST_CTL Fld.INGEST_CTL_CORR_BRANCH && s.flag Reg.TURN_CFG Fld.TURN_CFG_ENABLE

/-- The runs of equal marks of a list, each with its first place and length. Log: 213 (DEDUCED). -/
def runsFrom (at_ : Nat) : List Bool → List (Nat × Nat × Bool)
  | [] => []
  | b :: t =>
    match runsFrom (at_ + 1) t with
    | (a, n, c) :: rest => if b = c then (at_, n + 1, b) :: rest else (at_, 1, b) :: (a, n, c) :: rest
    | [] => [(at_, 1, b)]

/-- Fine sheaves of the own inputs: delivered on a single device; in a weave forwarded, and stored as slices of their channels until the
partners' fine sheaves join them (R112). A unit tells validity of all its samples at once, so each run of inputs that are valid, or
are not (R122), makes a unit. Log: 213 (DEDUCED). -/
def fineOut (s : State) (z : Nat) (fs : List Sheaf) : State :=
  match fs with
  | [] => s
  | f0 :: _ =>
    if s.mode = 0 then
      s.each fs (fun s f => let s := if s.corrBranch then s.toCorr f else s; s.toBeam f)
    else
      let unit (r : Nat × Nat × Bool) : Unit46 :=
        { origin := s.pos, stream := z, ss := 1, base := 4096 * s.pos + r.1, n := r.2.1, chan := f0.chan, sc := fs.length, k := f0.k
          invalid := !r.2.2, overload := bitAt f0.flags 2, cal := bitAt f0.flags 3, wide := s.width8
          samples := fs.flatMap (fun f => (f.samples.drop r.1).take r.2.1) }
      let s := s.each (runsFrom 0 f0.valid) (fun s r => s.forwardOwn (unit r))
      (s.each fs (fun s f =>
        s.storeSlice f.chan f.k
          { stream := fineKey s.pos z, base := 4096 * s.pos, invalid := false, overload := bitAt f.flags 2, cal := bitAt f.flags 3
            wide := s.width8, samples := f.samples, flags := f.flags, valid := f.valid })).showStoreKib

/-- Deliver a coarse sheaf to every branch that takes its channel, at the width of each. -/
def deliver (s : State) (c k : Nat) (sl : List Slice) (forced : Bool) (backlog : Nat) : State :=
  let (wide, narrow, clips) := s.buildSheaf c k sl forced
  let slot := s.slotOf c
  let ins := s.pairInputs c k sl
  let isWide := s.width8 || slot.isSome
  let glean := if isWide then ins else (ins.zip narrow.samples).map (fun e => { e.1 with x := e.2, wide := false })
  let any8 := (s.coverOf c).any (·.fmt8)
  let corr := s.corrBranch && s.coarseCorr c
  let beam := s.beamOn && s.selBit Reg.BEAM_SEL c
  let beamNarrow := s.width8 || slot.isNone
  let s := if (corr && !s.width8) || (beam && beamNarrow) || !isWide then s.count (Reg.INGEST_COUNT 10) clips else s
  let s := s.toGlean c k wide.flags glean (isWide && any8) backlog
  let s := if beam then s.toBeam (if beamNarrow then narrow else wide) else s
  let s := if corr then s.toCorr (if s.width8 then wide else narrow) else s
  match slot with
  | some z =>
    let (s, fs) := s.harrowSheaf z wide
    (s.fineOut z fs).showSettling
  | none => s

/-- Deliver a fine sheaf of a weave, which has its samples at the committed width. -/
def deliverFine (s : State) (c k : Nat) (sl : List Slice) (forced : Bool) : State :=
  let (sh, _, _) := s.buildSheaf c k sl forced
  let s := s.toBeam sh
  if s.corrBranch then s.toCorr sh else s

/-- Release pair (c, k) (R94, R95, R98, R101, R525): `waited` says by its wait. -/
def releasePair (s : State) (c k : Nat) (forced waited : Bool) (backlog : Nat) : State :=
  let pair := s.ingest.pairs.find? (fun p => p.chan == c && p.k == k)
  let sl := (pair.map (·.slices)).getD []
  let cover := s.coverOf c
  let g := { s.ingest with
    pairs := s.ingest.pairs.filter (fun p => !(p.chan == c && p.k == k))
    next := mapPut s.ingest.next c (k + s.chanStep c) }
  let s := ({ s with ingest := g } : State).showStoreKib
  let s := s.setFlag Reg.INGEST_STATUS Fld.INGEST_STATUS_RUNNING true
  let s := match pair with
    | some p => s.peak Reg.INGEST_SKEW Fld.INGEST_SKEW_PEAK
        (if waited then s.get Reg.INGEST_ALIGN Fld.INGEST_ALIGN_WAIT else (p.last - p.first) / 655360)
    | none => s
  let s := s.each cover (fun s d => s.countMiss c sl d)
  let s : State := { s with twin := { s.twin with relPos := s.twin.relPos + 1 } }
  let s := if s.twinOn ∧ s.role = 1 then s.twinVc 1 (le 4 (0x90 + c * 2 ^ 8)) else s
  let s := if c < s.cAll then s.deliver c k sl forced backlog else s.deliverFine c k sl forced
  s.endChanges.gleanCollect.beamTick

/-! ### When a pair is released -/

/-- May a channel release its next pair at all: the device runs with ingest enabled, its weave has started (R503), the reserved
index is not reached (R573), and the channel carries sheaves. -/
def mayRelease (s : State) (c : Nat) : Bool :=
  s.running && s.flag Reg.INGEST_CTL Fld.INGEST_CTL_ENABLE && decide (s.nextIndex c ≠ emptyKey)
    && (s.mode == 0 || s.get Reg.WEAVE_STATUS Fld.WEAVE_STATUS_STATE == 3 || s.get Reg.WEAVE_STATUS Fld.WEAVE_STATUS_STATE == 4)
    && (decide (c < s.cAll) || (s.mode != 0 && s.isCorr c))

/-- On a standby, is the channel the next one in the active's release order (R525)? -/
def isOrdered (s : State) (c : Nat) : Bool := !s.standby || s.twin.order.head? == some c

/-- Give up the release record that a standby has followed. -/
def ordered (s : State) : State :=
  if s.standby then { s with twin := { s.twin with order := s.twin.order.drop 1 } } else s

/-- Release the next pair of a channel when it is complete. Log: 31 (DESIGN CHOICE), 42 (DEDUCED). -/
def releaseWhole (s : State) (c backlog : Nat) : State :=
  let k := s.nextIndex c
  if s.mayRelease c && s.isOrdered c && s.pairWhole c k then (s.ordered).releasePair c k false false backlog else s

/-- Release the next pair of a channel when its wait ends: a pair that some slice has touched, or that some storage of its index or a
higher one has put to wait (R96). -/
def releaseWaited (s : State) (c backlog : Nat) : State :=
  let k := s.nextIndex c
  if s.mayRelease c && s.isOrdered c && (s.standby || !(s.slicesOf c k).isEmpty || decide (k < s.ingest.top)) then
    (s.ordered).releasePair c k false (!s.pairWhole c k) backlog
  else s

/-- Release the pair whose first slice is oldest, after the pairs of its channel below it, while the store is full (R101). -/
def forceFull (s : State) (backlog : Nat) : Nat → State
  | 0 => s
  | fuel + 1 =>
    match s.ingest.pairs with
    | [] => s
    | p :: _ =>
      if s.pendingBytes < s.storeRoom ∨ s.standby ∨ !s.mayRelease p.chan then s
      else
        let step := s.chanStep p.chan
        let n := (p.k - s.nextIndex p.chan) / step + 1
        let s := s.raise Ev.ALIGN_FULL p.chan
        let s := s.each (List.range n) (fun s _ => s.releasePair p.chan (s.nextIndex p.chan) true true backlog)
        s.forceFull backlog fuel

/-- A packet that an ingest link passes on: accepted, and the store kept below its room. Log: 35 (DEDUCED). -/
def ingestTakes (s : State) (link : Nat) (p : List Byte) (backlog : Nat) : State :=
  if s.running && s.flag Reg.INGEST_CTL Fld.INGEST_CTL_ENABLE then
    let s := s.acceptPacket link p
    s.forceFull backlog s.ingest.pairs.length
  else s

/-- Blocks of an ingest link that is UP, a complete packet with what stands before it (R64, R73, R74). Log: 35 (DEDUCED). -/
def ingestArrives (s : State) (link : Nat) (l : List Block257) (backlog : Nat) : State :=
  if !s.linkOn link ∨ s.linkBidir link ∨ s.linkState link ≠ 4 then s
  else
    let (s, ps) := s.framePackets link l
    s.each ps (fun s p => s.ingestTakes link p backlog)

end State

open State

/-- INGEST_PACKET (R73, R74, R88–R92, R101, R106, R507). Log: 17 (DEDUCED). -/
def execIngestPacket (link : Link) (blocks : List Block257) (gleanBacklog : Nat) (s : State) : Result :=
  ok (s.ingestArrives link blocks gleanBacklog)

/-- SHEAF_RELEASE (R23, R94, R95, R525). -/
def execSheafRelease (channel : Chan) (gleanBacklog : Nat) (s : State) : Result := ok (s.releaseWhole channel gleanBacklog)

/-- WAIT_EXPIRY (R95–R97, R525). -/
def execWaitExpiry (channel : Chan) (gleanBacklog : Nat) (s : State) : Result := ok (s.releaseWaited channel gleanBacklog)

end Sys2Proof.Machine
end

