-- ==== Sys2Proof/Machine/Dac.lean ====
section
/-! DEFINITION. The DAC channels: pending codes, strobes, slewing, clearing, parking, range changes, start and reset
(spec/17_housekeeping_analog.md). -/

namespace Sys2Proof.Machine

/-- The 0 V code of a range (R472). -/
def zeroCode (range : Nat) : Nat := if range = 2 then 0x8000 else 0

namespace State

/-- Channels 0–7 of a mask. -/
def maskList (m n : Nat) : List Nat := (List.range n).filter (fun c => bitAt m c)

/-- Set or clear bit `c` of a register field. -/
def setBit (s : State) (a : Nat) (f : Fld) (c : Nat) (b : Bool) : State :=
  let v := s.get a f
  s.set a f (if bitAt v c then (if b then v else v - 2 ^ c) else (if b then v + 2 ^ c else v))

/-- A channel's output, target and range; parked or not; slewing or not. -/
def dacOut (s : State) (c : Nat) : Nat := s.get (Reg.DAC_CH_CODE c) Fld.DAC_CH_CODE_OUTPUT
def dacTarget (s : State) (c : Nat) : Nat := s.get (Reg.DAC_CH_CODE c) Fld.DAC_CH_CODE_TARGET
def dacRange (s : State) (c : Nat) : Nat := s.get (Reg.DAC_CH_CFG c) Fld.DAC_CH_CFG_RANGE
def dacParked (s : State) (c : Nat) : Bool := bitAt (s.get Reg.DAC_STATUS Fld.DAC_STATUS_PARKED) c
def dacSlewing (s : State) (c : Nat) : Bool := bitAt (s.get Reg.DAC_STATUS Fld.DAC_STATUS_SLEWING) c

/-- Channel 0 belongs to the timing island (R479). -/
def dacOwned (s : State) : Bool := s.flag Reg.REF_CFG Fld.REF_CFG_EFC_EN && s.flag Reg.REF_CTL Fld.REF_CTL_RUN

/-- The fused settings of a channel: range, clear code, STEP, INTERVAL. -/
def dacFuse (s : State) (c : Nat) : Nat × Nat × Nat × Nat := s.fuses.dac.getD c (1, 0x8000, 64, 10)

/-- Where a channel is going: the 0 V code of its range while it parks, else its target. -/
def dacGoal (s : State) (c : Nat) : Nat := if bitAt s.dac.parking c then zeroCode (s.dacRange c) else s.dacTarget c

/-- READY once all eight channels have arrived (R473), and the DAC_PARK commands whose channels are parked or at their
targets complete (R481). Log: 155 (DEDUCED). -/
def dacSettle (s : State) : State :=
  let s := if s.get Reg.DAC_STATUS Fld.DAC_STATUS_SLEWING = 0 ∧ s.get Reg.DAC_STATUS Fld.DAC_STATUS_PARKED ≠ 0xFF
    then s.setFlag Reg.DAC_STATUS Fld.DAC_STATUS_READY true else s
  let done := s.dac.cmds.filter (fun x => (maskList x.2.1 8).all (fun c => s.dacParked c || !s.dacSlewing c))
  let s := { s with dac := { s.dac with cmds := s.dac.cmds.filter (fun x => !done.contains x) } }
  s.each done (fun s x => s.finishSt x.1 St.OK)

/-- A channel that reached its 0 V code parks; one that takes its fused range then unparks and slews on (R474, R478). -/
def dacPark (s : State) (c : Nat) : State :=
  let s := { s with dac := { s.dac with parking := s.dac.parking - (if bitAt s.dac.parking c then 2 ^ c else 0) } }
  if bitAt s.dac.reload c then
    let r := (s.dacFuse c).1
    let s := { s with dac := { s.dac with reload := s.dac.reload - 2 ^ c } }
    let s := (s.set (Reg.DAC_CH_CFG c) Fld.DAC_CH_CFG_RANGE r).set (Reg.DAC_CH_CODE c) Fld.DAC_CH_CODE_OUTPUT (zeroCode r)
    s.setBit Reg.DAC_STATUS Fld.DAC_STATUS_SLEWING c (decide (s.dacTarget c ≠ zeroCode r))
  else (s.setBit Reg.DAC_STATUS Fld.DAC_STATUS_PARKED c true).setBit Reg.DAC_STATUS Fld.DAC_STATUS_SLEWING c false

/-- A channel's output lands on a code. -/
def dacLand (s : State) (c v : Nat) : State :=
  let s := s.set (Reg.DAC_CH_CODE c) Fld.DAC_CH_CODE_OUTPUT v
  if v = s.dacGoal c then
    if bitAt s.dac.parking c then s.dacPark c else s.setBit Reg.DAC_STATUS Fld.DAC_STATUS_SLEWING c false
  else s

/-- The quiet profile as a channel's slew limiter holds it (R480); a kept reset keeps that of channel 0 (R42). -/
def dacQuiet (s : State) (c : Nat) : Bool := if c = 0 then s.sys.quiet0 else s.sys.quiet

/-- A channel sets out for its goal: by slewing with SLEW_EN as committed or in the quiet profile, else in one DAC cycle (R476,
R480); a fast clear bypasses the limiter unless quiet (R477). -/
def dacGo (s : State) (c : Nat) (fast : Bool) : State :=
  if s.dacParked c then s
  else if s.dacOut c = s.dacGoal c then s.dacLand c (s.dacGoal c)
  else if !s.dacQuiet c && (fast || !bitAt s.sys.slewEn c) then s.dacLand c (s.dacGoal c)
  else s.setBit Reg.DAC_STATUS Fld.DAC_STATUS_SLEWING c true

/-- A new target for a channel. -/
def dacAim (s : State) (c v : Nat) (fast : Bool := false) : State :=
  (s.set (Reg.DAC_CH_CODE c) Fld.DAC_CH_CODE_TARGET v).dacGo c fast

/-- Clear a pending code. -/
def dacUnpend (s : State) (c : Nat) : State :=
  (s.setFlag (Reg.DAC_CH_PEND c) Fld.DAC_CH_PEND_VALID false).setBit Reg.DAC_STATUS Fld.DAC_STATUS_PENDING c false

/-- Does a channel obey DAC_CLEAR_N (R477)? -/
def dacObeys (s : State) (c : Nat) : Bool := bitAt s.sys.dacCfg.toNat (c + 1)

/-- A load strobe on a mask of channels (R475): pending codes become targets; ignored by channels under a clear and, for
channel 0, while the island owns it (R477, R479). Strobes in one DAC cycle of 25 ticks act as one: they are counted once.
Log: 155 (DEDUCED), 229 (DESIGN CHOICE). -/
def dacStrobe (s : State) (m : Nat) : State :=
  let now := s.time.tick / 25
  let same := (s.dac.strobe.filter (fun t => t.1 == now)).map Prod.snd
  let s := if same.isSome then s else s.count (Reg.DAC_COUNT 0)
  let cs := (maskList m 8).filter (fun c => !(c == 0 && s.dacOwned))
  let clear := s.flag Reg.DAC_STATUS Fld.DAC_STATUS_CLEAR
  let ignored := clear && cs.any s.dacObeys
  let s := if ignored && same != some true then s.count (Reg.DAC_COUNT 1) else s
  let s : State := { s with dac := { s.dac with strobe := some (now, ignored || same == some true) } }
  let s := s.each (cs.filter (fun c => !(clear && s.dacObeys c) && s.flag (Reg.DAC_CH_PEND c) Fld.DAC_CH_PEND_VALID))
    (fun s c => (s.dacAim c (s.get (Reg.DAC_CH_PEND c) Fld.DAC_CH_PEND_CODE)).dacUnpend c)
  s.dacSettle

/-- DAC_CLEAR_N is low: the channels that obey it go to their clear codes (R477). Log: 155 (DEDUCED). -/
def dacClear (s : State) : State :=
  let fast := bitAt s.sys.dacCfg.toNat 0
  (s.each ((List.range 8).filter s.dacObeys) (fun s c => s.dacAim c (s.get (Reg.DAC_CH_CFG c) Fld.DAC_CH_CFG_CLEAR) fast)).dacSettle

/-- Parts per trillion in units of 2^-48 (R414), and back. -/
def pptToY (v : Int) : Int := roundDiv (v * 2 ^ 48) (10 ^ 12)
def yToPpt (y : Int) : Int := roundDiv (y * 10 ^ 12) (2 ^ 48)

/-- REF_LIMIT.PULL_PPB in units of y (R399). -/
def yLimit (s : State) : Int := pptToY (s.get Reg.REF_LIMIT Fld.REF_LIMIT_PULL_PPB * 1000)

/-- A demanded correction, limited to the pull range (R399). Log: 133 (DEDUCED). -/
def yLim (s : State) (want : Int) : Int := clampI (-s.yLimit) s.yLimit want

/-- The loop demands a correction: y takes it within the pull range, REF_FREQ reads y, and REF_LO_RANGE is raised when the
limit begins to act (R399). Log: 133 (DEDUCED). -/
def setY (s : State) (want : Int) : State :=
  let y := s.yLim want
  let out := decide (y ≠ want)
  let s := s.raiseIf (out && !s.ref.clamped) Ev.REF_LO_RANGE (s.get Reg.REF_STATUS Fld.REF_STATUS_SELECTED)
  ({ s with ref := { s.ref with y := y, clamped := out } } : State).wrN Reg.REF_FREQ (ofS 32 (yToPpt y))

/-- REF_EFC.GAIN, units of 0.01 ppt per LSB. -/
def efcGain (s : State) : Int := toS 16 (s.get Reg.REF_EFC Fld.REF_EFC_GAIN)

/-- As each step of the entry move lands, y falls by the step × GAIN, so the output frequency does not change (R418). -/
def efcLanded (s : State) : State :=
  let m := s.ref.efcMove
  let k := clampI (min 0 m) (max 0 m) ((s.dacOut 0 : Int) - s.ref.efcFrom)
  s.setY (pptToY s.ref.hoH - roundDiv (k * s.efcGain * 2 ^ 48) (10 ^ 14))

/-- One slew step of a channel (R476): STEP LSB toward the goal, the last step shortened. A step of channel 0 that the island
owns is summed for the measurements (R403, R418). -/
def dacStep (s : State) (c : Nat) : State :=
  if s.dacSlewing c then
    let o := s.dacOut c
    let g := s.dacGoal c
    let n := s.get (Reg.DAC_CH_SLEW c) Fld.DAC_CH_SLEW_STEP_M1 + 1
    let v := if o < g then min g (o + n) else max g (o - n)
    let s := if c = 0 ∧ s.dacOwned ∧ !s.flag Reg.DAC_STATUS Fld.DAC_STATUS_CLEAR then
        { s with ref := { s.ref with efcSum := s.ref.efcSum + ((v : Int) - o) } } else s
    let s := s.dacLand c v
    (if c = 0 ∧ s.dacOwned ∧ s.get Reg.REF_STATUS Fld.REF_STATUS_STATE = 3 then s.efcLanded else s).dacSettle
  else s

/-- Fuse-loaded settings of a channel at power-on and at a full reset (R472–R474). -/
def dacLoad (s : State) (c : Nat) : State :=
  let (_, clr, st, iv) := s.dacFuse c
  let s := s.set (Reg.DAC_CH_CFG c) Fld.DAC_CH_CFG_CLEAR clr
  let s := s.setFlag (Reg.DAC_CH_CFG c) Fld.DAC_CH_CFG_SLEW_EN true
  (s.set (Reg.DAC_CH_SLEW c) Fld.DAC_CH_SLEW_STEP_M1 (st - 1)).set (Reg.DAC_CH_SLEW c) Fld.DAC_CH_SLEW_INTERVAL iv

/-- The fuse stage ends (R473): every amplifier turns on at the 0 V code of its fused range and slews to its clear code. -/
def dacPowerUp (s : State) : State :=
  s.each (List.range 8) (fun s c =>
    let s := s.dacLoad c
    let r := (s.dacFuse c).1
    let s := s.set (Reg.DAC_CH_CFG c) Fld.DAC_CH_CFG_RANGE r
    let s := s.set (Reg.DAC_CH_CODE c) Fld.DAC_CH_CODE_OUTPUT (zeroCode r)
    let s := s.setBit Reg.DAC_STATUS Fld.DAC_STATUS_PARKED c false
    let s := s.set (Reg.DAC_CH_CODE c) Fld.DAC_CH_CODE_TARGET (s.dacFuse c).2.1
    s.setBit Reg.DAC_STATUS Fld.DAC_STATUS_SLEWING c (decide ((s.dacFuse c).2.1 ≠ zeroCode r))) |>.dacSettle

/-- A full reset other than power-on on one channel (R474), from its output, range and parked state before the reset. -/
def dacReset (s : State) (c out range : Nat) (parked : Bool) : State :=
  let s := s.dacLoad c
  let (fr, clr, _, _) := s.dacFuse c
  let s := s.set (Reg.DAC_CH_CODE c) Fld.DAC_CH_CODE_TARGET clr
  let s := s.setBit Reg.DAC_STATUS Fld.DAC_STATUS_PARKED c false
  if parked then
    let s := (s.set (Reg.DAC_CH_CFG c) Fld.DAC_CH_CFG_RANGE fr).set (Reg.DAC_CH_CODE c) Fld.DAC_CH_CODE_OUTPUT (zeroCode fr)
    s.setBit Reg.DAC_STATUS Fld.DAC_STATUS_SLEWING c (decide (clr ≠ zeroCode fr))
  else
    let s := (s.set (Reg.DAC_CH_CFG c) Fld.DAC_CH_CFG_RANGE range).set (Reg.DAC_CH_CODE c) Fld.DAC_CH_CODE_OUTPUT out
    if range = fr then s.setBit Reg.DAC_STATUS Fld.DAC_STATUS_SLEWING c (decide (clr ≠ out))
    else
      let s := { s with dac := { s.dac with parking := s.dac.parking + 2 ^ c, reload := s.dac.reload + 2 ^ c } }
      if out = zeroCode range then s.dacPark c else s.setBit Reg.DAC_STATUS Fld.DAC_STATUS_SLEWING c true

/-- A DAC command that names channel 0 while the island owns it (R479). -/
def dacRefuse (s : State) (ref : CmdRef) : State := (s.count (Reg.DAC_COUNT 2)).finishSt ref St.DAC_OWNED

/-- DAC_SET (R475). -/
def dacSet (s : State) (ref : CmdRef) (d : List Byte) : State :=
  let m := byteAt d 36
  if bitAt m 0 && s.dacOwned then s.dacRefuse ref
  else
    let s := s.each (maskList m 8) (fun s c =>
      let s := s.set (Reg.DAC_CH_PEND c) Fld.DAC_CH_PEND_CODE (fieldAt d (40 + 2 * c) 2)
      (s.setFlag (Reg.DAC_CH_PEND c) Fld.DAC_CH_PEND_VALID true).setBit Reg.DAC_STATUS Fld.DAC_STATUS_PENDING c true)
    (if bitAt (byteAt d 37) 0 then s.dacStrobe 0xFF else s).finishSt ref St.OK

/-- DAC_PARK (R478). -/
def dacParkCmd (s : State) (ref : CmdRef) (d : List Byte) : State :=
  let m := byteAt d 36
  let park := bitAt (byteAt d 37) 0
  if bitAt m 0 && s.dacOwned then s.dacRefuse ref
  else
    let s := s.each (maskList m 8) (fun s c =>
      if park then
        if s.dacParked c || bitAt s.dac.parking c then s
        else ({ s with dac := { s.dac with parking := s.dac.parking + 2 ^ c } } : State).dacGo c false
      else if s.dacParked c then
        let s := s.setBit Reg.DAC_STATUS Fld.DAC_STATUS_PARKED c false
        (s.set (Reg.DAC_CH_CODE c) Fld.DAC_CH_CODE_OUTPUT (zeroCode (s.dacRange c))).dacGo c false
      else if bitAt s.dac.parking c then
        ({ s with dac := { s.dac with parking := s.dac.parking - 2 ^ c } } : State).dacGo c false
      else s)
    ({ s with dac := { s.dac with cmds := s.dac.cmds ++ [(ref, m, park)] } } : State).dacSettle

/-- DAC_RANGE (R478). -/
def dacRangeCmd (s : State) (ref : CmdRef) (d : List Byte) : State :=
  let m := byteAt d 36
  let r := byteAt d 37
  if bitAt m 0 && s.dacOwned then s.dacRefuse ref
  else if 2 < r then s.finishSt ref St.BAD_PARAM
  else if (maskList m 8).any (fun c => !s.dacParked c) then (s.count (Reg.DAC_COUNT 3)).finishSt ref St.DAC_RANGE_BUSY
  else
    (s.each (maskList m 8) (fun s c =>
      let s := s.set (Reg.DAC_CH_CFG c) Fld.DAC_CH_CFG_RANGE r
      (s.set (Reg.DAC_CH_CODE c) Fld.DAC_CH_CODE_TARGET (zeroCode r)).dacUnpend c)).finishSt ref St.OK

end State

/-- DAC_SLEW_STEP (R476): INTERVAL µs have passed on a slewing channel. -/
def execDacSlewStep (channel : Fin 8) (s : State) : Result := ok (s.dacStep channel)

/-- LDAC_N_FALL (R475). -/
def execLdacNFall (s : State) : Result := ok (({ s with pins := { s.pins with ldacN := false } } : State).dacStrobe 0xFF)

/-- DAC_CTL_LOAD (R475): a write of 1 to DAC_CTL.LOAD. -/
def execDacCtlLoad (s : State) : Result := ok (if s.served then s.dacStrobe 0xFF else s)

/-- DAC_CLEAR_N_ASSERT (R477). -/
def execDacClearNAssert (s : State) : Result :=
  ok ((({ s with pins := { s.pins with dacClearN := false } } : State).setFlag Reg.DAC_STATUS Fld.DAC_STATUS_CLEAR true).dacClear)

/-- DAC_CLEAR_N_RELEASE (R477): channels hold their clear codes. -/
def execDacClearNRelease (s : State) : Result :=
  ok (({ s with pins := { s.pins with dacClearN := true } } : State).setFlag Reg.DAC_STATUS Fld.DAC_STATUS_CLEAR false)

/-- DAC_SET, opcode 0x75; accepted whether or not the device is running (R481). -/
def execDacSet (src : CmdSrc) (s : State) : Result := ok (s.handOver src 0x75 (fun ref d _ s => s.dacSet ref d))

/-- DAC_PARK, opcode 0x76. -/
def execDacPark (src : CmdSrc) (s : State) : Result := ok (s.handOver src 0x76 (fun ref d _ s => s.dacParkCmd ref d))

/-- DAC_RANGE, opcode 0x77. -/
def execDacRange (src : CmdSrc) (s : State) : Result := ok (s.handOver src 0x77 (fun ref d _ s => s.dacRangeCmd ref d))

end Sys2Proof.Machine
end

