-- ==== Sys2Proof/Machine/Ref.lean ====
section
/-! DEFINITION. References, qualification, selection, the loop, holdover, clock and pulse outputs
(spec/15_reference_and_clocks.md). -/

namespace Sys2Proof.Machine

/-- Widest bandwidth code of a reference (R400, R414). Log: 134 (DEDUCED). -/
def refWidest (r : Nat) : Nat := if r = 2 ∨ r = 3 then 4 else if r = 4 then 2 else 12

/-- θ_lock in ps (R411): 2 ns, or 50 ns for PPS and PTP references. -/
def refThetaLock (r : Nat) : Nat := if r = 2 ∨ r = 3 ∨ r = 4 then 50000 else 2000

/-- T_u in units of 10 µs (R400). Log: 135 (DESIGN CHOICE). -/
def refUpdate (r : Nat) : Nat := if r = 2 ∨ r = 3 ∨ r = 4 then 100000 else 1

/-- Closed-loop bandwidth f of a code in units of 10 µHz (R414). Log: 136 (DEDUCED). -/
def bwF (code : Nat) : Nat :=
  [100, 316, 1000, 3160, 10000, 31600, 100000, 316000, 1000000, 3160000, 10000000, 31600000, 100000000].getD code 0

/-- ω_n of a bandwidth code as the table of R414 gives it, in units of 10^-20 rad/s; R430's worked example uses these figures
(DEDUCED). Log: 136 (DEDUCED). -/
def bwOmega (code : Nat) : Nat :=
  [253, 801, 2530, 8010, 25300, 80100, 253000, 801000, 2530000, 8010000, 25300000, 80100000, 253200000].getD code 0 * 10 ^ 15

namespace State

/-! ### Fields -/

def refRun (s : State) : Bool := s.flag Reg.REF_CTL Fld.REF_CTL_RUN
def refFrozen (s : State) : Bool := s.flag Reg.REF_CTL Fld.REF_CTL_FREEZE
def refState (s : State) : Nat := s.get Reg.REF_STATUS Fld.REF_STATUS_STATE
def refSel (s : State) : Nat := s.get Reg.REF_STATUS Fld.REF_STATUS_SELECTED
def refSwitching (s : State) : Bool := s.flag Reg.REF_STATUS Fld.REF_STATUS_SWITCHING
def refQual (s : State) (r : Nat) : Bool := bitAt (s.get Reg.REF_STATUS Fld.REF_STATUS_QUAL) r
def refRank (s : State) (r : Nat) : Nat := s.get (Reg.REF_IN_CFG r) Fld.REF_IN_CFG_RANK
def refD (s : State) (r : Nat) : Int := toS 32 (s.full (Reg.REF_IN_OFFSET r))
def refChosen (s : State) : Nat := s.get Reg.REF_CFG Fld.REF_CFG_CHOSEN
def refH (s : State) : Int := toS 32 (s.full Reg.REF_HIST)
def refInState (s : State) (r : Nat) : Nat := s.get (Reg.REF_IN_STATUS r) Fld.REF_IN_STATUS_STATE

/-- A reference outside its registers. -/
def refIn (s : State) (r : Nat) : RefIn := s.ref.ins.getD r {}

/-- Replace it. -/
def setRefIn (s : State) (r : Nat) (x : RefIn) : State := { s with ref := { s.ref with ins := s.ref.ins.set r x } }

/-- The choice of R407; none means holdover. -/
def refChoose (s : State) (excl : List Nat) : Option Nat :=
  let ok := fun r => s.refQual r && !excl.contains r
  let c := s.refChosen
  if c = 7 then none
  else if c ≤ 5 && ok c then some c
  else
    let el := (List.range 6).filter (fun r => ok r && decide (s.refRank r < 7))
    let best := el.foldl (fun b r => min b (s.refRank r)) 7
    let el := el.filter (fun r => s.refRank r == best)
    match el with
    | [] => none
    | r0 :: _ =>
      let dmin := el.foldl (fun b r => min b (absN (s.refD r))) (absN (s.refD r0))
      el.find? (fun r => decide (absN (s.refD r) ≤ dmin + 1000))

/-! ### The loop -/

/-- The target code on a reference: REF_CFG.BW, but no wider than the reference permits (R414). Log: 134 (DEDUCED). -/
def refTarget (s : State) (r : Nat) : Nat := min (s.get Reg.REF_CFG Fld.REF_CFG_BW) (refWidest r)

/-- The first acquisition stage (R415). -/
def refFirst (s : State) (r : Nat) : Nat :=
  if s.flag Reg.REF_CFG Fld.REF_CFG_AUTO_BW then max (min 10 (refWidest r)) (s.refTarget r) else s.refTarget r

/-- The code in force. -/
def refStage (s : State) (code : Nat) : State := s.set Reg.REF_STATUS Fld.REF_STATUS_BW code

/-- Loop state of R411. -/
def refTo (s : State) (st : Nat) : State := s.set Reg.REF_STATUS Fld.REF_STATUS_STATE st

/-- The loop closes on a phase error of zero or as measured; I holds the frequency in force. Log: 133 (DEDUCED). -/
def refClose (s : State) : State := { s with ref := { s.ref with integ := s.ref.y, large := 0 } }

/-- Holdover begins (R417, R418): open at H, the OCXO steered when the island owns its channel. -/
def refHoldover (s : State) : State :=
  let h := s.refH
  let s := (s.refTo 3).set Reg.REF_STATUS Fld.REF_STATUS_SELECTED 7
  let s := s.setFlag Reg.REF_STATUS Fld.REF_STATUS_SWITCHING false
  let s := { s with ref := { s.ref with excl := [], hoSecs := 0, hoH := h, efcFrom := 0, efcMove := 0, efcAged := 0 } }
  let s := s.setY (pptToY h)
  let s := (s.raise Ev.REF_HOLDOVER 7).count (Reg.REF_COUNT 4)
  if s.dacOwned ∧ s.efcGain ≠ 0 then
    let g := s.efcGain
    let m := roundDiv (100 * h * (if g < 0 then -1 else 1)) g.natAbs
    let t := s.dacTarget 0
    let new := clampI 0 65535 (t + m)
    let s := { s with ref := { s.ref with efcFrom := t, efcMove := new - t } }
    let s := s.dacAim 0 new.toNat
    if s.dacSlewing 0 then s else s.efcLanded
  else s

/-- A switch to a reference begins (R412, R413). Log: 133 (DEDUCED). -/
def refSwitch (s : State) (new : Nat) (excl : List Nat) : State :=
  let old := s.refSel
  let s := s.set Reg.REF_STATUS Fld.REF_STATUS_SELECTED new
  let s := if old < 6 then (s.raise Ev.REF_SWITCH (old + new * 8)).count (Reg.REF_COUNT 0) else s
  let s := if s.refState = 2 then s.refStage (s.refTarget new)
    else s.refStage (min (s.get Reg.REF_STATUS Fld.REF_STATUS_BW) (refWidest new))
  if s.flag Reg.REF_CFG Fld.REF_CFG_BUILDOUT then
    let s := s.setFlag Reg.REF_STATUS Fld.REF_STATUS_SWITCHING true
    ({ s with ref := { s.ref with excl := excl } } : State).setY (pptToY s.refH)
  else s.refClose

/-- The loop acquires a reference without phase continuity (R413, R415, R419); the pulses are realigned after LOCKED. -/
def refAcquire (s : State) (r : Nat) : State :=
  let s := (s.set Reg.REF_STATUS Fld.REF_STATUS_SELECTED r).refTo 1
  let s := s.refStage (s.refFirst r)
  ({ s with ref := { s.ref with fallback := true } } : State).refClose

/-- Holdover ends on a reference (R419): with continuity through a build-out, else by acquisition. Log: 138 (DEDUCED). -/
def refExit (s : State) (r : Nat) : State :=
  if s.flag Reg.REF_CFG Fld.REF_CFG_HO_BUILDOUT ∧ s.ref.hoSecs ≤ s.get Reg.REF_HO Fld.REF_HO_CONT_S then
    let s := (s.set Reg.REF_STATUS Fld.REF_STATUS_SELECTED r).setFlag Reg.REF_STATUS Fld.REF_STATUS_SWITCHING true
    { s with ref := { s.ref with excl := [] } }
  else s.refAcquire r

/-- The state after a build-out from holdover (R419): LOCKED when the code in force is the target, else acquisition from the
stage at or below the target. -/
def refLand (s : State) : State :=
  let r := s.refSel
  if s.refState = 3 then
    let t := s.refTarget r
    if s.get Reg.REF_STATUS Fld.REF_STATUS_BW = t then s.refTo 2 else (s.refTo 1).refStage t
  else s

/-- Act on a REF_SELECT (R406, R407): CHOSEN is set; a switch completes it later. -/
def refActSelect (s : State) (ref : CmdRef) (c : Nat) : State :=
  let s := s.set Reg.REF_CFG Fld.REF_CFG_CHOSEN c
  if c ≤ 5 && !s.refQual c then s.finishSt ref St.REF_NOT_QUALIFIED
  else if s.refFrozen then s.finishSt ref St.OK
  else
    match s.refChoose [] with
    | none => (if s.refState = 1 ∨ s.refState = 2 then s.refHoldover else s).finishSt ref St.OK
    | some r =>
      if r = s.refSel then s.finishSt ref St.OK
      else
        let s := if s.refState = 0 then s.refAcquire r else if s.refState = 3 then s.refExit r else s.refSwitch r []
        if s.refSwitching then { s with ref := { s.ref with serving := some ref } } else s.finishSt ref St.OK

/-- A switch ended: its REF_SELECT completes and the next one that waits is acted on (R410). Log: 131 (DEDUCED). -/
def refServe (s : State) : Nat → State
  | 0 => s
  | fuel + 1 =>
    if s.refSwitching then s
    else
      let s := match s.ref.serving with
        | some ref => ({ s with ref := { s.ref with serving := none } } : State).finishSt ref St.OK
        | none => s
      match s.ref.selects with
      | [] => s
      | (ref, c) :: t => (({ s with ref := { s.ref with selects := t } } : State).refActSelect ref c).refServe fuel

/-- Serve all. -/
def refServeAll (s : State) : State := s.refServe (s.ref.selects.length + 1)

/-- One loop update (R414, R399): θ in ps. The rounding of the last place is open, so a free value chooses it. -/
def refUpdateLoop (s : State) (theta : Int) : State :=
  let r := s.refSel
  let closed := decide (s.refState = 1 ∨ s.refState = 2) && !s.refSwitching && !s.refFrozen && s.refRun && decide (r < 6)
  if closed then
    let s := s.wrN Reg.REF_PHASE (ofS 32 (satS 32 theta))
    let w : Int := bwOmega (s.get Reg.REF_STATUS Fld.REF_STATUS_BW)
    let tu : Int := refUpdate r
    let (f1, s) := s.free 3
    let (f2, s) := s.free 3
    let integ := s.ref.integ + roundDiv (w * w * tu * theta * 2 ^ 48) (10 ^ 57) + ((f1 : Int) - 1)
    let want := roundDiv (2 * w * theta * 2 ^ 48) (10 ^ 32) + integ + ((f2 : Int) - 1)
    let big := decide (8 * refThetaLock r < absN theta)
    let n := if big then s.ref.large + refUpdate r else 0
    let s := if s.refState = 2 ∧ s.ref.large < 100000 ∧ 100000 ≤ n
      then (s.raise Ev.REF_UNLOCK r).count (Reg.REF_COUNT 6) else s
    ({ s with ref := { s.ref with integ := integ, large := if s.refState = 2 then n else 0 } } : State).setY want
  else s

/-! ### Monitoring -/

/-- Soft and hard window in force, ppt (R404). -/
def refWindows (s : State) (r : Nat) : Nat × Nat :=
  if s.flag Reg.REF_STATUS Fld.REF_STATUS_HIST_VALID then
    (1000 * s.get (Reg.REF_IN_WIN r) Fld.REF_IN_WIN_SOFT_PPB, 1000 * s.get (Reg.REF_IN_WIN r) Fld.REF_IN_WIN_HARD_PPB)
  else let a := 1000 * s.get Reg.REF_ACQ Fld.REF_ACQ_ACQ_PPB; (a, a)

/-- Set a reference's state and its QUAL and PRESENT bits. -/
def refMark (s : State) (r st : Nat) : State :=
  let s := s.set (Reg.REF_IN_STATUS r) Fld.REF_IN_STATUS_STATE st
  let s := s.setBit Reg.REF_STATUS Fld.REF_STATUS_QUAL r (st == 3)
  s.setBit Reg.REF_STATUS Fld.REF_STATUS_PRESENT r (decide (2 ≤ st))

/-- A reference that was MEASURING or QUALIFIED is disqualified (R404): cause 1 hard window, 2 drift rate, 3 absent. Log: 132 (DEDUCED). -/
def refDisqualify (s : State) (r cause : Nat) : State :=
  let was := s.refInState r
  let s := s.refMark r (if cause = 3 then 1 else 4)
  let s := s.setRefIn r { d := if cause = 3 then [] else (s.refIn r).d, good := 0 }
  if was = 2 ∨ was = 3 then
    let s := s.set (Reg.REF_IN_STATUS r) Fld.REF_IN_STATUS_CAUSE cause
    (s.raise Ev.REF_DISQUALIFIED (r + cause * 2 ^ 8)).count (Reg.REF_COUNT 1)
  else s

/-- Is a reference present: a measurement, and for reference 4 a locked PTP servo, for reference 5 an UP link (R400)? -/
def refSeen (s : State) (r : Nat) (m : Option Int) : Option Int :=
  if r = 4 ∧ !(s.flag Reg.TIME_STATUS Fld.TIME_STATUS_LOCKED && s.timeGet Reg.TIME_CFG Fld.TIME_CFG_SRC == 3) then none
  else if r = 5 ∧ s.linkState (s.get Reg.REF_BALRAN Fld.REF_BALRAN_LINK) ≠ 4 then none
  else m

/-- One reference in one second (R403, R404). Log: 132 (DEDUCED). -/
def refMeasure (s : State) (r : Nat) (m : Option Int) : State :=
  if !s.flag (Reg.REF_IN_CFG r) Fld.REF_IN_CFG_EN then (s.refMark r 0).setRefIn r {}
  else match s.refSeen r m with
    | none => if s.refInState r = 0 then s.refMark r 1 else if s.refInState r = 1 then s else s.refDisqualify r 3
    | some f =>
      let d := f + roundDiv (s.ref.efcSum * s.efcGain) 100 - s.refH
      let s := s.wrN (Reg.REF_IN_OFFSET r) (ofS 32 (satS 32 d))
      let x := s.refIn r
      let rate : Int := match x.d.drop 15 with
        | d16 :: _ => d - d16
        | [] => 0
      let limit := 16 * 10 * s.get (Reg.REF_IN_RATE r) Fld.REF_IN_RATE_RATE
      let (soft, hard) := s.refWindows r
      let out := decide (soft < absN d)
      let s := if out && !s.flag (Reg.REF_IN_STATUS r) Fld.REF_IN_STATUS_SOFT
        then (s.raise Ev.REF_SOFT_ALARM r).count (Reg.REF_COUNT 2) else s
      let s := s.setFlag (Reg.REF_IN_STATUS r) Fld.REF_IN_STATUS_SOFT out
      let inside := !out && decide (absN rate ≤ limit)
      let good := if inside then x.good + 1 else 0
      let s := s.setRefIn r { d := (d :: x.d).take 17, good := good }
      let st := s.refInState r
      let st := if st < 2 then 2 else st
      if hard < absN d then (s.refMark r st).refDisqualify r 1
      else if limit < absN rate then (s.refMark r st).refDisqualify r 2
      else if st = 4 then (if inside then s.refMark r 2 else s)
      else if st = 2 ∧ s.get Reg.REF_MON Fld.REF_MON_HOLD_S ≤ good then (s.refMark r 3).raise Ev.REF_QUALIFIED r
      else s.refMark r st

/-- Compare qualified references of equal rank (R405). Log: 132 (DEDUCED). -/
def refConsensus (s : State) : State :=
  let ps := (List.range 6).flatMap (fun a => ((List.range 6).filter (fun b => a < b)).map (fun b => (a, b)))
  let bad := ps.filter (fun p => s.refQual p.1 && s.refQual p.2 && s.refRank p.1 == s.refRank p.2
    && decide (1000 * s.get Reg.REF_MON Fld.REF_MON_CONSENSUS_PPB < absN (s.refD p.1 - s.refD p.2)))
  let s := s.each (bad.filter (fun p => !s.ref.pairs.contains p))
    (fun s p => (s.raise Ev.REF_DISAGREE (p.1 + p.2 * 8)).count (Reg.REF_COUNT 3))
  ({ s with ref := { s.ref with pairs := bad } } : State).setFlag Reg.REF_STATUS Fld.REF_STATUS_DISAGREE (!bad.isEmpty)

/-- Selection, once per second (R406–R409, R411, R419). -/
def refSelection (s : State) : State :=
  if s.refFrozen then s
  else
    let sel := s.refSel
    match s.refState with
    | 0 => (match s.refChoose [] with
        | some r => s.refAcquire r
        | none => s)
    | 3 =>
      if s.refSwitching then
        if s.refQual sel then s
        else match s.refChoose (sel :: s.ref.excl) with
          | some r => { s.set Reg.REF_STATUS Fld.REF_STATUS_SELECTED r with ref := { s.ref with excl := sel :: s.ref.excl } }
          | none => (s.set Reg.REF_STATUS Fld.REF_STATUS_SELECTED 7).setFlag Reg.REF_STATUS Fld.REF_STATUS_SWITCHING false
      else (match s.refChoose [] with
        | some r => s.refExit r
        | none => s)
    | _ =>
      if s.refChosen = 7 then s.refHoldover
      else if s.refQual sel then s
      else
        let excl := if s.refSwitching then sel :: s.ref.excl else [sel]
        match s.refChoose excl with
        | some r => s.refSwitch r excl
        | none => s.refHoldover

/-- One second of holdover (R417, R418): the ageing term, on y or on the OCXO's code. -/
def refAge (s : State) : State :=
  if s.refState = 3 ∧ !s.refSwitching then
    let t := s.ref.hoSecs + 1
    let s := { s with ref := { s.ref with hoSecs := t } }
    let age := toS 32 (s.full Reg.REF_AGE) * t
    if s.dacOwned ∧ s.efcGain ≠ 0 then
      let g := s.efcGain
      let lsb := roundDiv (100 * age * (if g < 0 then -1 else 1)) (86400 * g.natAbs)
      if lsb = s.ref.efcAged then s
      else
        let new := clampI 0 65535 (s.dacTarget 0 + (lsb - s.ref.efcAged))
        ({ s with ref := { s.ref with efcAged := lsb } } : State).dacAim 0 new.toNat
    else if s.refFrozen then s
    else s.setY (pptToY s.ref.hoH + roundDiv (age * 2 ^ 48) (86400 * 10 ^ 12))
  else s

/-- One history sample (R402): LOCKED, neither switching nor frozen. -/
def refSample (s : State) : State :=
  if s.refState = 2 ∧ !s.refSwitching ∧ !s.refFrozen then
    let l := (s.ref.y :: s.ref.samples).take 1000
    let s := { s with ref := { s.ref with samples := l } }
    if l.length = 1000 then s.setFlag Reg.REF_STATUS Fld.REF_STATUS_HIST_VALID true else s
  else s

/-- The monitoring second (R403–R408): measurement with qualification and disqualification, comparison, selection. -/
def refSecond (s : State) (ms : List (Option Int)) : State :=
  if s.refRun then
    let s := s.refSample.refAge
    let s := s.each (List.range 6) (fun s r => s.refMeasure r (ms.getD r none))
    s.refConsensus.refSelection.refServeAll
  else s

/-- A new monitoring window (R402): H is frozen anew. -/
def refWindow (s : State) : State :=
  if s.refRun then
    if s.flag Reg.REF_STATUS Fld.REF_STATUS_HIST_VALID ∧ s.ref.samples ≠ [] then
      s.wrN Reg.REF_HIST (ofS 32 (yToPpt (roundDiv s.ref.samples.sum s.ref.samples.length)))
    else s.wrN Reg.REF_HIST (s.full Reg.REF_HIST_INIT)
  else s

/-! ### Build-out, stages, pulses -/

/-- Period of a reference in ps (R412); a recovered link clock's is not stated. -/
def refPeriod (s : State) (r : Nat) : Nat :=
  if r ≤ 1 then [200000, 100000, 10000].getD (s.get (Reg.REF_IN_CFG r) Fld.REF_IN_CFG_FREQ) 100000
  else if r = 5 then Config.balranPeriodPs else 10 ^ 12

/-- The phase measurement of a build-out ends (R412). -/
def refBuilt (s : State) (offset : Int) : State :=
  if s.refRun ∧ s.refSwitching ∧ !s.refFrozen then
    let p : Int := s.refPeriod s.refSel
    let o := s.ref.buildout + (if p = 0 then offset else offset % p)
    let s : State := { s with ref := { s.ref with buildout := toS 64 (ofS 64 o) } }
    let s := s.wrN Reg.REF_BUILDOUT_LO (ofS 64 o)
    let s := s.setFlag Reg.REF_STATUS Fld.REF_STATUS_SWITCHING false
    let s := { s with ref := { s.ref with excl := [] } }
    (s.refLand.refClose.wrN Reg.REF_PHASE 0).refServeAll
  else s

/-- A stage's dwell ends with |θ| below θ_lock (R415): LOCKED at the target, else the next stage. -/
def refDwell (s : State) : State :=
  let r := s.refSel
  if s.refRun ∧ s.refState = 1 ∧ !s.refSwitching ∧ !s.refFrozen ∧ absN (toS 32 (s.full Reg.REF_PHASE)) < refThetaLock r then
    let b := s.get Reg.REF_STATUS Fld.REF_STATUS_BW
    let t := s.refTarget r
    if b ≤ t then s.refTo 2 else s.refStage (max t (b - 2))
  else s

/-- The selected reference's alignment pulse (R422, R423): pending alignments are carried out as one, at the offset of the
REF_ALIGN; the fall-back waits for LOCKED. Reference 5 has a pulse where a PULSE_MARK announced it (R505). Log: 142 (DEDUCED). -/
def refPulse (s : State) : State :=
  if s.refRun ∧ s.refSel < 6 ∧ (s.refSel = 5 → s.weave.pulseAt.isSome) then
    let s : State := if s.refSel = 5 then { s with weave := { s.weave with pulseAt := none } } else s
    let fall := s.ref.fallback && decide (s.refState = 2)
    match s.ref.aligns.getLast? with
    | some (_, ofs, fine) =>
      let s := { s with ref := { s.ref with
        aligned := s.ref.aligned ++ s.ref.aligns.map Prod.fst, aligns := [], fallback := false, pulseTicks := ofs, pulseFine := fine } }
      (s.raise Ev.REF_PULSE_REALIGN s.refSel).count (Reg.REF_COUNT 5)
    | none =>
      if fall then
        let s := { s with ref := { s.ref with fallback := false
                                              pulseTicks := toS 28 (s.get Reg.REF_PULSE_OFS Fld.REF_PULSE_OFS_TICKS)
                                              pulseFine := s.get Reg.REF_PULSE_FINE Fld.REF_PULSE_FINE_FINE } }
        (s.raise Ev.REF_PULSE_REALIGN s.refSel).count (Reg.REF_COUNT 5)
      else s
  else s

/-- Complete the REF_OUT_SET commands that wait for no output any more. Log: 141 (DEDUCED). -/
def refOutDone (s : State) : State :=
  let done := s.ref.outCmds.filter (fun x => (maskList x.2 8).all (fun o => !bitAt s.ref.outStart o))
  let s := { s with ref := { s.ref with outCmds := s.ref.outCmds.filter (fun x => !done.contains x) } }
  s.each done (fun s x => s.finishSt x.1 St.OK)

/-- A PPS_OUT rising edge (R420–R422): pending outputs start; aligned REF_ALIGNs complete. Log: 143 (DEDUCED). -/
def refPps (s : State) : State :=
  if s.refRun then
    let done := s.ref.aligned
    let s := { s with ref := { s.ref with outRun := Nat.lor s.ref.outRun s.ref.outStart, outStart := 0, aligned := [] } }
    (s.each done (fun s c => s.finishSt c St.OK)).refOutDone
  else s

/-! ### Start, stop, freeze -/

/-- Is a servo setting permitted (R431): codes 0–8, f ≤ 0.1 / T, and f at least 100 mHz with source 3? -/
def servoBwOk (src bw : Nat) (log : Int) : Bool :=
  let f := bwF bw
  decide (bw ≤ 8) && decide (f ≤ 10000 * (if src = 3 then 2 ^ log.natAbs else 1))
    && (src != 3 || (decide (10000 ≤ f) && decide (-7 ≤ log) && decide (log ≤ 0)))

/-- CFG_ERR of the configuration (R425): 0 none; the codes of the table; a rule without a code gives a free nonzero one.
Log: 140 (DESIGN CHOICE). -/
def refCfgErr (s : State) : Nat × State :=
  let outBad := fun o =>
    let d := s.get (Reg.REF_OUT_CFG o) Fld.REF_OUT_CFG_DIV
    let l := s.get (Reg.REF_OUT_CFG o) Fld.REF_OUT_CFG_LEVEL
    decide (d < 4) || decide (1000 < d) || decide (5000000000 % d ≠ 0) || l == 3 || (l == 2 && decide (d < 20))
  let p := s.full Reg.REF_SYNC
  let bw := s.get Reg.REF_CFG Fld.REF_CFG_BW
  let ch := s.refChosen
  let w := s.get Reg.REF_MON Fld.REF_MON_WINDOW_S
  let other := w = 0 ∨ 1000 < w ∨ s.get Reg.REF_MON Fld.REF_MON_CONSENSUS_PPB = 0 ∨ s.get Reg.REF_MON Fld.REF_MON_HOLD_S < 16
    ∨ s.get Reg.REF_LIMIT Fld.REF_LIMIT_PULL_PPB < 100 ∨ 200000 < s.get Reg.REF_LIMIT Fld.REF_LIMIT_PULL_PPB
    ∨ s.get Reg.REF_PULSE Fld.REF_PULSE_PPS_W = 0 ∨ 50000 < s.get Reg.REF_PULSE Fld.REF_PULSE_PPS_W
    ∨ s.get Reg.REF_PULSE Fld.REF_PULSE_SYNC_W = 0
    ∨ ((List.range 2).any (fun r => s.get (Reg.REF_IN_CFG r) Fld.REF_IN_CFG_FREQ == 3) = true)
  if (List.range 8).any outBad then (1, s)
  else if p ≠ 0 ∧ 250000000 % p ≠ 0 then (2, s)
  else if 12 < bw ∨ (ch ≤ 5 ∧ refWidest ch < bw)
      ∨ !servoBwOk (s.get Reg.TIME_CFG Fld.TIME_CFG_SRC) (s.get Reg.TIME_CFG Fld.TIME_CFG_BW)
          (toS 4 (s.get Reg.TIME_CFG Fld.TIME_CFG_LOG_INTERVAL)) then (3, s)
  else if (List.range 6).any (fun r => decide (s.get (Reg.REF_IN_WIN r) Fld.REF_IN_WIN_HARD_PPB < s.get (Reg.REF_IN_WIN r) Fld.REF_IN_WIN_SOFT_PPB))
  then (4, s)
  else if s.flag Reg.REF_CFG Fld.REF_CFG_EFC_EN ∧ s.efcGain = 0 then (5, s)
  else if other then let (f, s) := s.free 7; (f + 1, s)
  else (0, s)

/-- The island stops (R425): outputs low, waiting commands end as R424 says of a stopped island. Log: 141 (DEDUCED). -/
def refStop (s : State) : State :=
  let waiting : List CmdRef := s.ref.serving.toList ++ s.ref.selects.map Prod.fst ++ s.ref.aligns.map Prod.fst ++ s.ref.aligned
    ++ s.ref.outCmds.map Prod.fst
  let s : State := { s with ref := { ({} : RefSt) with buildout := s.ref.buildout } }
  let s := (s.wrN Reg.REF_STATUS (s.get Reg.REF_STATUS Fld.REF_STATUS_CFG_ERR * 2 ^ 25)).set Reg.REF_STATUS Fld.REF_STATUS_SELECTED 7
  let s := s.each (List.range 6) (fun s r => s.set (Reg.REF_IN_STATUS r) Fld.REF_IN_STATUS_STATE 0)
  let s := s.setY 0
  let s := (s.setFlag Reg.REF_CTL Fld.REF_CTL_RUN false).setFlag Reg.REF_CTL Fld.REF_CTL_FREEZE_ACK false
  let s := s.setFlag (Reg.DAC_CH_CFG 0) Fld.DAC_CH_CFG_OWNED false
  s.each waiting (fun s c => s.finishSt c St.REF_STOPPED)

/-- RUN goes to 1 (R425): the configuration is checked and takes effect; enabled outputs start at the next PPS_OUT edge.
Log: 138 (DEDUCED). -/
def refStart (s : State) : State :=
  let (e, s) := s.refCfgErr
  let s := s.set Reg.REF_STATUS Fld.REF_STATUS_CFG_ERR e
  if e ≠ 0 then s
  else
    let outs := ((List.range 8).filter (fun o => s.flag (Reg.REF_OUT_CFG o) Fld.REF_OUT_CFG_EN)).foldl (fun m o => m + 2 ^ o) 0
    let s := { s with ref := { ({} : RefSt) with outStart := outs, buildout := s.ref.buildout } }
    let s := s.setFlag Reg.REF_CTL Fld.REF_CTL_RUN true
    let s : State := { s with time := { s.time with regs := s.regs.filter (fun e => timeSettings.contains e.1) } }
    let s := (s.wrN Reg.REF_HIST (s.full Reg.REF_HIST_INIT)).setFlag (Reg.DAC_CH_CFG 0) Fld.DAC_CH_CFG_OWNED s.dacOwned
    s.setFlag Reg.REF_CTL Fld.REF_CTL_FREEZE_ACK s.refFrozen

/-- A write of FREEZE (R416): open at the present y, or closed through a build-out. Log: 138 (DEDUCED). -/
def refFreeze (s : State) (on : Bool) : State :=
  let was := s.refFrozen
  let s := s.setFlag Reg.REF_CTL Fld.REF_CTL_FREEZE on
  if s.refRun then
    let s := s.setFlag Reg.REF_CTL Fld.REF_CTL_FREEZE_ACK on
    if was ∧ !on ∧ (s.refState = 1 ∨ s.refState = 2) then
      (s.setFlag Reg.REF_STATUS Fld.REF_STATUS_SWITCHING true).setY (pptToY s.refH)
    else s
  else s

/-! ### Commands -/

/-- A timing-island command: REF_STOPPED while RUN is clear (R424). -/
def refCommand (s : State) (src : CmdSrc) (op : Nat) (f : CmdRef → List Byte → State → State) : State :=
  s.handOver src op (fun ref d _ s => if s.refRun then f ref d s else s.finishSt ref St.REF_STOPPED)

/-- REF_SELECT (R406, R410). Log: 131 (DEDUCED). -/
def refSelectCmd (s : State) (ref : CmdRef) (d : List Byte) : State :=
  let c := byteAt d 36
  if 7 < c then s.finishSt ref St.BAD_PARAM
  else if s.refSwitching then { s with ref := { s.ref with selects := s.ref.selects ++ [(ref, c)] } }
  else s.refActSelect ref c

/-- REF_SET (R424). -/
def refSetCmd (s : State) (ref : CmdRef) (d : List Byte) : State :=
  let r := byteAt d 36
  let m := byteAt d 37
  let soft := fieldAt d 40 2
  let hard := fieldAt d 42 2
  if 5 < r ∨ (bitAt m 1 ∧ 7 < byteAt d 39) ∨ (bitAt m 2 ∧ hard < soft) then s.finishSt ref St.BAD_PARAM
  else
    let s := if bitAt m 0 then s.setFlag (Reg.REF_IN_CFG r) Fld.REF_IN_CFG_EN (bitAt (byteAt d 38) 0) else s
    let s := if bitAt m 1 then s.set (Reg.REF_IN_CFG r) Fld.REF_IN_CFG_RANK (byteAt d 39) else s
    let s := if bitAt m 2 then
        (s.set (Reg.REF_IN_WIN r) Fld.REF_IN_WIN_SOFT_PPB soft).set (Reg.REF_IN_WIN r) Fld.REF_IN_WIN_HARD_PPB hard else s
    let s := if bitAt m 3 then s.set (Reg.REF_IN_RATE r) Fld.REF_IN_RATE_RATE (fieldAt d 44 2) else s
    s.finishSt ref St.OK

/-- REF_BW (R424, R414): a change keeps I. -/
def refBwCmd (s : State) (ref : CmdRef) (d : List Byte) : State :=
  let b := byteAt d 36
  let r := s.refSel
  if 12 < b then s.finishSt ref St.BAD_PARAM
  else if r < 6 ∧ refWidest r < b then s.finishSt ref St.REF_BW_RANGE
  else
    let s := s.set Reg.REF_CFG Fld.REF_CFG_BW b
    let s := s.setFlag Reg.REF_CFG Fld.REF_CFG_AUTO_BW (bitAt (byteAt d 37) 0)
    let s := if s.refState = 2 then s.refStage b
      else if s.refState = 1 ∧ (!s.flag Reg.REF_CFG Fld.REF_CFG_AUTO_BW ∨ s.get Reg.REF_STATUS Fld.REF_STATUS_BW < b) then s.refStage b
      else s
    s.finishSt ref St.OK

/-- REF_ALIGN (R422): it waits for the alignment pulse. Log: 142 (DEDUCED). -/
def refAlignCmd (s : State) (ref : CmdRef) (d : List Byte) : State :=
  { s with ref := { s.ref with aligns := s.ref.aligns ++ [(ref, toS 28 (fieldAt d 40 4), byteAt d 44 % 128)] } }

/-- REF_OUT_SET (R420). Log: 141 (DEDUCED). -/
def refOutCmd (s : State) (ref : CmdRef) (d : List Byte) : State :=
  let m := byteAt d 36
  if bitAt (byteAt d 37) 0 then
    let new := (maskList m 8).filter (fun o => !bitAt s.ref.outRun o)
    ({ s with ref := { s.ref with outStart := Nat.lor s.ref.outStart (new.foldl (fun a o => a + 2 ^ o) 0)
                                  outCmds := s.ref.outCmds ++ [(ref, m)] } } : State).refOutDone
  else
    let keep := fun (v : Nat) => ((maskList v 8).filter (fun o => !bitAt m o)).foldl (fun a o => a + 2 ^ o) 0
    (({ s with ref := { s.ref with outRun := keep s.ref.outRun, outStart := keep s.ref.outStart } } : State).finishSt ref St.OK).refOutDone

/-- RUN is written (R425). Log: 140 (DESIGN CHOICE). -/
def refRunWrite (s : State) (on : Bool) : State :=
  if on then (if s.refRun then s else s.refStart) else (if s.refRun then s.refStop else s)

end State

/-- DPLL_UPDATE (R414): θ in ps at an update of the selected reference. -/
def execDpllUpdate (theta : Int) (s : State) : Result := ok (s.refUpdateLoop theta)

/-- MONITOR_SECOND (R408): each reference's mean fractional frequency against LO_CLK in ppt, none without a signal. -/
def execMonitorSecond (measured : List (Option Int)) (s : State) : Result := ok (s.refSecond measured)

/-- MONITOR_WINDOW_END (R402). -/
def execMonitorWindowEnd (s : State) : Result := ok s.refWindow

/-- REFERENCE_ABSENT (R400, R404). -/
def execReferenceAbsent (reference : Fin 6) (s : State) : Result :=
  ok (if s.refRun ∧ 2 ≤ s.refInState reference then s.refDisqualify reference 3 else s)

/-- REF_BUILDOUT_LO_READ (R412): the low word, with the high word captured. -/
def execRefBuildoutLoRead (s : State) : Result :=
  ok (s.answer Reg.REF_BUILDOUT_LO (ofS 64 s.ref.buildout % 2 ^ 32)
    (fun s => s.wrN Reg.REF_BUILDOUT_HI (ofS 64 s.ref.buildout / 2 ^ 32)))

/-- BUILDOUT_COMPLETE (R412): the measured offset in ps. -/
def execBuildoutComplete (offset : Int) (s : State) : Result := ok (s.refBuilt offset)

/-- STAGE_DWELL_END (R415). -/
def execStageDwellEnd (s : State) : Result := ok s.refDwell

/-- HOLDOVER_EXPIRED (R417): MAX_MIN minutes of this holdover have passed; holdover continues. Log: 139 (DEDUCED). -/
def execHoldoverExpired (s : State) : Result :=
  ok (if s.refRun ∧ s.refState = 3 ∧ s.get Reg.REF_HO Fld.REF_HO_MAX_MIN ≠ 0 then
    (s.setFlag Reg.REF_STATUS Fld.REF_STATUS_HO_EXPIRED true).raise Ev.REF_HO_EXPIRED 7 else s)

/-- PPS_OUT_EDGE (R421). -/
def execPpsOutEdge (s : State) : Result := ok s.refPps

/-- ALIGNMENT_PULSE (R422). -/
def execAlignmentPulse (s : State) : Result := ok s.refPulse

/-- REF_SELECT, opcode 0x60. -/
def execRefSelect (src : CmdSrc) (s : State) : Result := ok (s.refCommand src 0x60 (fun ref d s => s.refSelectCmd ref d))

/-- REF_SET, opcode 0x61. -/
def execRefSet (src : CmdSrc) (s : State) : Result := ok (s.refCommand src 0x61 (fun ref d s => s.refSetCmd ref d))

/-- REF_BW, opcode 0x62. -/
def execRefBw (src : CmdSrc) (s : State) : Result := ok (s.refCommand src 0x62 (fun ref d s => s.refBwCmd ref d))

/-- REF_ALIGN, opcode 0x63. -/
def execRefAlign (src : CmdSrc) (s : State) : Result := ok (s.refCommand src 0x63 (fun ref d s => s.refAlignCmd ref d))

/-- REF_ALIGN_TIMEOUT (R424): no alignment pulse within 2 s of the oldest REF_ALIGN. -/
def execRefAlignTimeout (s : State) : Result :=
  ok (match s.ref.aligns with
    | [] => s
    | (c, _, _) :: t => ({ s with ref := { s.ref with aligns := t } } : State).finishSt c St.REF_NO_PULSE)

/-- REF_OUT_SET, opcode 0x64. -/
def execRefOutSet (src : CmdSrc) (s : State) : Result := ok (s.refCommand src 0x64 (fun ref d s => s.refOutCmd ref d))

/-- REF_CTL_RUN (R425): a write of REF_CTL.RUN. -/
def execRefCtlRun (on : Bool) (s : State) : Result :=
  ok (if s.served then s.refRunWrite on else s)

/-- REF_CTL_FREEZE (R416): a write of REF_CTL.FREEZE. -/
def execRefCtlFreeze (on : Bool) (s : State) : Result := ok (if s.served then s.refFreeze on else s)

end Sys2Proof.Machine
end

