-- ==== Sys2Proof/Machine/Time.lean ====
section
/-! DEFINITION. The time counter, its servo, sets and steps, captured edge times (spec/16_time_and_almanac.md). -/

namespace Sys2Proof.Machine

/-- The counter as a count of 2^-32 ns. -/
def clockUnits (c : Clock) : Nat := (c.sec * 1000000000 + c.ns) * 2 ^ 32 + c.frac

/-- The counter's span: 2^48 s in units of 2^-32 ns. -/
def clockSpan : Int := 281474976710656 * 1000000000 * 4294967296

/-- The counter at a count of 2^-32 ns; SEC has 48 bits. -/
def clockOf (u : Int) : Clock :=
  let v := ofS 110 (u % clockSpan)
  ⟨v / 2 ^ 32 / 1000000000, v / 2 ^ 32 % 1000000000, v % 2 ^ 32⟩

namespace State

/-- What one tick adds, units of 2^-32 ns (R426). -/
def tickStep (s : State) : Int :=
  (s.timeGet Reg.TIME_INC Fld.TIME_INC_NS * 2 ^ 32 + s.timeFull Reg.TIME_INC_FRAC : Nat) + toS 32 (s.full Reg.TIME_ADJ)

/-- The counter advances by one tick. -/
def tickClock (s : State) : State :=
  { s with clock := clockOf (clockUnits s.clock + s.tickStep), time := { s.time with tick := s.time.tick + 1 } }

/-- Interpolated time of an edge, `fine` 1/128 ticks after the present tick (R428). -/
def edgeTime (s : State) (fine : Nat) : Stamp :=
  let c := clockOf (clockUnits s.clock + s.tickStep * fine / 128)
  ⟨c.sec, c.ns, c.frac / 65536⟩

/-- While reference 4 is selected, a step is a switch to the same reference, measured afresh (R435). Log: 133 (DEDUCED). -/
def refStepped (s : State) : State :=
  if s.refRun ∧ s.refSel = 4 ∧ (s.refState = 1 ∨ s.refState = 2) then
    let s := ((s.setRefIn 4 {}).raise Ev.REF_SWITCH (4 + 4 * 8)).count (Reg.REF_COUNT 0)
    (s.setFlag Reg.REF_STATUS Fld.REF_STATUS_SWITCHING true).setY (pptToY s.refH)
  else s

/-- A set or step of the counter takes effect (R435, R427); with reference 4 selected the loop makes a build-out. -/
def stepTime (s : State) (c : Clock) : State :=
  let s := { s with clock := c, time := { s.time with stepTick := some s.time.tick } }
  let s := s.setFlag Reg.TIME_STATUS Fld.TIME_STATUS_SET true
  let s := (s.raise Ev.TIME_STEPPED).count (Reg.TIME_COUNT 4)
  let s := s.set Reg.TIME_STATUS Fld.TIME_STATUS_STEP_COUNT (s.get Reg.TIME_STATUS Fld.TIME_STATUS_STEP_COUNT + 1)
  s.refStepped

/-- The sets and steps that wait take effect at this tick, in order. -/
def runJobs (s : State) : State :=
  let jobs := s.time.jobs
  ({ s with time := { s.time with jobs := [] } } : State).each jobs (fun s j =>
    let u : Int := j.2.2.units * 65536
    let c := if j.2.1 = 0 then clockOf u
      else if j.2.1 = 1 then clockOf (clockUnits s.clock + u) else clockOf (clockUnits s.clock - u)
    (s.stepTime c).finishSt j.1 St.OK)

/-- θ in whole ns as TIME_OFFSET_LAST and DETAIL hold it; how a fraction is rounded is open. -/
def thetaNs (s : State) (theta : Int) : Int × State :=
  if theta % 65536 = 0 then (satS 32 (theta / 65536), s)
  else let (f, s) := s.free 2; (satS 32 (theta / 65536 + f), s)

/-- The servo leaves LOCKED (R432). -/
def servoUnlock (s : State) : State :=
  if s.flag Reg.TIME_STATUS Fld.TIME_STATUS_LOCKED then
    ((s.setFlag Reg.TIME_STATUS Fld.TIME_STATUS_LOCKED false).raise Ev.TIME_UNLOCK).count (Reg.TIME_COUNT 5)
  else s

/-- An offset enters the lock rules (R432). -/
def servoLock (s : State) (theta : Int) : State :=
  let lim := s.timeGet Reg.TIME_LIMITS Fld.TIME_LIMITS_LOCK_NS * 65536
  let good := if absN theta ≤ lim then min 16 (s.time.good + 1) else 0
  let bad := if 4 * lim < absN theta then s.time.bad + 1 else 0
  let s := { s with time := { s.time with good := good, bad := bad } }
  let s := s.setFlag Reg.TIME_STATUS Fld.TIME_STATUS_COASTING false
  let s := if 16 ≤ good then s.setFlag Reg.TIME_STATUS Fld.TIME_STATUS_LOCKED true else s
  if 4 ≤ bad then s.servoUnlock else s

/-- One servo update (R430): θ in 2^-16 ns, T = 2^log s. The rounding of the last place of I is open. Log: 135 (DESIGN CHOICE). -/
def servoUpdate (s : State) (theta log : Int) : State :=
  let w : Int := bwOmega (s.timeGet Reg.TIME_CFG Fld.TIME_CFG_BW)
  let t := 2 ^ log.natAbs
  let (f, s) := s.free 3
  let integ := s.time.servoI + roundDiv (w * w * theta * 2 ^ 48) (10 ^ 49 * t) + ((f : Int) - 1)
  let want := -(roundDiv (2 * w * theta * 2 ^ 48) (10 ^ 29) + integ)
  let lim := roundDiv (s.timeGet Reg.TIME_LIMITS Fld.TIME_LIMITS_ADJ_MAX_PPB * 2 ^ 64) (10 ^ 9)
  let u := clampI (-lim) lim want
  let s := if u = want then { s with time := { s.time with servoI := integ } } else s
  s.wrN Reg.TIME_ADJ (ofS 32 (roundDiv u (2 ^ 30)))

/-- An offset (R434): refused beyond the jump threshold, answering false; otherwise accepted, and used unless frozen (R433).
Log: 145 (DEDUCED). -/
def servoOffset (s : State) (theta log : Int) : Bool × State :=
  let (ns, s) := s.thetaNs theta
  let s := s.wrN Reg.TIME_OFFSET_LAST (ofS 32 ns)
  if s.timeGet Reg.TIME_JUMP Fld.TIME_JUMP_NS * 65536 < absN theta then
    (false, (s.count (Reg.TIME_COUNT 0)).raise Ev.TIME_JUMP_REFUSED (ofS 32 ns))
  else
    let s := if s.flag Reg.TIME_CTL Fld.TIME_CTL_FREEZE then s else s.servoUpdate theta log
    (true, s.servoLock theta)

/-- A pulse edge on PPS_A (0) or PPS_B (1) (R429, R436): the servo's offset when the pin is its source. An edge in the tick before a
step that waits, or in the tick after one, is discarded. -/
def ppsEdge (s : State) (pin fine : Nat) : State :=
  if s.timeGet Reg.TIME_CFG Fld.TIME_CFG_SRC ≠ pin + 1 then s
  else if s.time.stepTick.any (fun t => decide (s.time.tick ≤ t + 1)) ∨ !s.time.jobs.isEmpty then s.count (Reg.TIME_COUNT 1)
  else
    let t := s.edgeTime fine
    let sec : Int := 65536000000000
    let x := (((t.ns * 65536 + t.frac : Nat) : Int) - toS 32 (s.timeFull Reg.TIME_PPS_OFS) * 65536) % sec
    (s.servoOffset (if sec < 2 * x then x - sec else x) 0).2

/-- TIME_OFFSET (R430, R434, R436). Log: 145 (DEDUCED), 146 (DESIGN CHOICE). -/
def timeOffsetCmd (s : State) (ref : CmdRef) (d : List Byte) : State :=
  if s.timeGet Reg.TIME_CFG Fld.TIME_CFG_SRC ≠ 3 ∨ s.flag Reg.TIME_CTL Fld.TIME_CTL_FREEZE then s.finishSt ref St.TIME_NOT_SERVO
  else if byteAt d 36 ≠ s.get Reg.TIME_STATUS Fld.TIME_STATUS_STEP_COUNT then
    (s.count (Reg.TIME_COUNT 1)).finishSt ref St.TIME_STALE
  else
    let (okay, s) := s.servoOffset (toS 64 (fieldAt d 40 8)) (toS 4 (s.timeGet Reg.TIME_CFG Fld.TIME_CFG_LOG_INTERVAL))
    s.finishSt ref (if okay then St.OK else St.TIME_JUMP_REFUSED)

/-- TIME_SERVO (R431). -/
def timeServoCmd (s : State) (ref : CmdRef) (d : List Byte) : State :=
  let src := byteAt d 36
  let bw := byteAt d 37
  let log := toS 8 (byteAt d 38)
  if 3 < src ∨ log < -7 ∨ 0 < log then s.finishSt ref St.BAD_PARAM
  else if !servoBwOk src bw log then s.finishSt ref St.TIME_BW_RANGE
  else
    let s := s.timePut Reg.TIME_CFG (src + bw * 4 + ofS 4 log * 64)
    let s := if bitAt (byteAt d 39) 0 then { s with time := { s.time with servoI := 0 } } else s
    s.finishSt ref St.OK

/-- TIME_SET and TIME_STEP wait for the next tick (R435); a bad time format is refused (R13). -/
def timeJob (s : State) (ref : CmdRef) (kind : Nat) (t : Stamp) : State :=
  if t.valid then { s with time := { s.time with jobs := s.time.jobs ++ [(ref, kind, t)] } } else s.finishSt ref St.TIME_FORMAT

/-- FREEZE of the servo is written (R433). -/
def timeFreeze (s : State) (on : Bool) : State :=
  (s.setFlag Reg.TIME_CTL Fld.TIME_CTL_FREEZE on).setFlag Reg.TIME_CTL Fld.TIME_CTL_FREEZE_ACK on

end State

/-- TIME_NOW_NS_READ (R428). -/
def execTimeNowNsRead (s : State) : Result :=
  ok (if s.isReady then
    let t := s.now
    let s := (s.wrN Reg.TIME_NOW_SEC_LO t.sec).wrN Reg.TIME_NOW_SEC_HI (t.sec / 2 ^ 32 % 65536 + t.frac * 65536)
    { s with readData := BitVec.ofNat 32 t.ns }
  else { s with readData := 0 })

/-- PPS_EDGE (R429): an edge on PPS_A or PPS_B, in 1/128 ticks after the present tick. -/
def execPpsEdge (pin : Fin 2) (fine : Fin 128) (s : State) : Result := ok (s.ppsEdge pin fine)

/-- TIME_SET, opcode 0x68. -/
def execTimeSet (src : CmdSrc) (s : State) : Result := ok (s.handOver src 0x68 (fun ref d _ s => s.timeJob ref 0 (stampAt d 40)))

/-- TIME_STEP, opcode 0x69. -/
def execTimeStep (src : CmdSrc) (s : State) : Result :=
  ok (s.handOver src 0x69 (fun ref d _ s => s.timeJob ref (if bitAt (byteAt d 36) 0 then 2 else 1) (stampAt d 40)))

/-- TIME_OFFSET, opcode 0x6A. -/
def execTimeOffset (src : CmdSrc) (s : State) : Result := ok (s.handOver src 0x6A (fun ref d _ s => s.timeOffsetCmd ref d))

/-- TIME_SERVO, opcode 0x6B. -/
def execTimeServo (src : CmdSrc) (s : State) : Result := ok (s.handOver src 0x6B (fun ref d _ s => s.timeServoCmd ref d))

/-- SERVO_COAST (R432): no offset accepted for 8 × T. -/
def execServoCoast (s : State) : Result :=
  ok (if s.timeGet Reg.TIME_CFG Fld.TIME_CFG_SRC = 0 then s
    else (s.setFlag Reg.TIME_STATUS Fld.TIME_STATUS_COASTING true).servoUnlock)

/-- TIME_CTL_FREEZE (R433): a write of TIME_CTL.FREEZE. -/
def execTimeCtlFreeze (on : Bool) (s : State) : Result :=
  ok (if s.served then s.timeFreeze on else s)

end Sys2Proof.Machine
end

