-- ==== Sys2Proof/Machine/Egress.lean ====
section
/-! DEFINITION. Egress (spec/12_egress_streams.md, R439–R441): packets as Ethernet frames, the port scheduler and shaper, link loss,
received frames, the management port, and ETH_STREAM_SET. -/

namespace Sys2Proof.Machine

/-! ### Frames (R310, R311) -/

/-- Sum of 16-bit words in network order, the last one filled with a zero byte. -/
def sum16 : List Byte → Nat
  | [] => 0
  | [a] => a.toNat * 256
  | a :: b :: t => a.toNat * 256 + b.toNat + sum16 t

/-- The Internet checksum of bytes. -/
def inetSum (bs : List Byte) : Nat :=
  let fold (v : Nat) : Nat := v % 65536 + v / 65536
  65535 - fold (fold (fold (sum16 bs)))

/-- A frame from its destination address to its FCS; a short one is filled to 60 bytes before the FCS. Log: 93 (PRESUMED). -/
def withFcs (f : List Byte) : List Byte :=
  let f := f ++ zeros (60 - f.length)
  f ++ le 4 (CheckKind.crc32.of f)

/-- The UDP datagram over a pseudo-header. Log: 94 (PRESUMED). -/
def udpBytes (src dst : Nat) (pseudo payload : List Byte) (sum : Bool) : List Byte :=
  let head := be 2 src ++ be 2 dst ++ be 2 (8 + payload.length)
  let c := inetSum (pseudo ++ head ++ [0, 0] ++ payload)
  head ++ (if sum then be 2 (if c = 0 then 65535 else c) else [0, 0]) ++ payload

namespace State

/-- MAC address of a port, and an address of `n` words from a register. -/
def portMac (s : State) (p : Nat) : List Byte :=
  le 4 (s.ethFull (Reg.ETH_PORT_SMAC_LO p)) ++ le 2 (s.ethGet (Reg.ETH_PORT_SMAC_HI p) Fld.ETH_PORT_SMAC_HI_MAC)
def addrBytes (s : State) (reg : Nat → Nat) (n : Nat) : List Byte := (List.range n).flatMap (fun w => le 4 (s.ethFull (reg w)))

/-- The packet of a stream on a port as an Ethernet II frame without FCS (R311). Log: 93 (PRESUMED). -/
def streamFrame (s : State) (p i : Nat) (payload : List Byte) : List Byte :=
  let cfg := Reg.ETH_STR_CFG i
  let v6 := s.ethFlag cfg Fld.ETH_STR_CFG_IPV6
  let dscp := s.ethGet cfg Fld.ETH_STR_CFG_DSCP
  let hops := s.ethGet (Reg.ETH_STR_L4 i) Fld.ETH_STR_L4_HOPS
  let n := if v6 then 4 else 1
  let src := s.addrBytes (Reg.ETH_PORT_SIP p) n
  let dst := s.addrBytes (Reg.ETH_STR_DIP i) n
  let len := 8 + payload.length
  let pseudo := src ++ dst ++ (if v6 then be 4 len ++ [0, 0, 0, 17] else [0, 17] ++ be 2 len)
  let udp := udpBytes (s.ethGet (Reg.ETH_STR_L4 i) Fld.ETH_STR_L4_UDP_SRC) (s.ethGet (Reg.ETH_STR_MAC_HI i) Fld.ETH_STR_MAC_HI_UDP_DST) pseudo payload
    (v6 || s.ethFlag cfg Fld.ETH_STR_CFG_CSUM)
  let ip :=
    if v6 then be 4 (6 * 2 ^ 28 + dscp * 4 * 2 ^ 20 + i) ++ be 2 len ++ [17] ++ le 1 hops ++ src ++ dst
    else
      let a := [0x45] ++ le 1 (dscp * 4) ++ be 2 (20 + len) ++ [0, 0, 0x40, 0] ++ le 1 hops ++ [17]
      a ++ be 2 (inetSum (a ++ [0, 0] ++ src ++ dst)) ++ src ++ dst
  le 4 (s.ethFull (Reg.ETH_STR_MAC_LO i)) ++ le 2 (s.ethGet (Reg.ETH_STR_MAC_HI i) Fld.ETH_STR_MAC_HI_MAC) ++ s.portMac p
    ++ (if v6 then [0x86, 0xDD] else [0x08, 0x00]) ++ ip ++ udp

/-- A packet's frame on a port, with FCS. -/
def pktFrame (s : State) (p : Nat) (k : Pkt) : List Byte := withFcs (match k.stream with
  | some i => s.streamFrame p i k.bytes
  | none => k.bytes)

/-- Wire length of a packet (R310). Log: 92 (DEDUCED). -/
def wireLen (s : State) (p : Nat) (k : Pkt) : Nat := 20 + (s.pktFrame p k).length

/-! ### The scheduler (R314, R318, R320–R323) -/

/-- The port to which a stream's next packet is dealt: the first one of its set after the last one used that is up and free.
Log: 95 (DEDUCED). -/
def dealPort (s : State) (i : Nat) : Option Nat :=
  let ps := s.streamPorts i
  let after := match (s.stream i).lastPort with
    | some l => ps.filter (fun p => decide (l < p)) ++ ps.filter (fun p => decide (p ≤ l))
    | none => ps
  after.find? (fun p => s.portUp p && (s.port p).wire.isNone)

/-- The packet that a source offers to a port: a stream, or 4,096 for the port's TX-ring frames. Log: 95 (DEDUCED). -/
def offered (s : State) (p src : Nat) : Option Pkt :=
  if src = 4096 then (s.port p).c3.head?
  else if s.dealPort src = some p then (s.stream src).queue.head? else none

/-- Sources with a packet of a class for a port, in round-robin order after the one served last. -/
def classSources (s : State) (p c : Nat) : List Nat :=
  let ids : List Nat := s.eth.streams.map (fun e => e.1)
  let all := (ids ++ [4096]).filter (fun i => (s.offered p i).any (fun (k : Pkt) => k.cls == c))
  let l := (s.port p).last.getD (c - 1) 0
  all.filter (fun i => decide (l < i)) ++ all.filter (fun i => decide (i ≤ l))

/-- Weight of a class on a port. Log: 96 (DESIGN CHOICE). -/
def classWeight (s : State) (p c : Nat) : Nat :=
  s.ethGet (Reg.ETH_PORT_SCHED p) (if c = 1 then Fld.ETH_PORT_SCHED_W1 else if c = 2 then Fld.ETH_PORT_SCHED_W2 else Fld.ETH_PORT_SCHED_W3)

/-- Deficit round robin over classes 1–3 (R318): the source to serve, and the scheduler after it. Log: 92 (DEDUCED). -/
def drr (s : State) (p : Nat) : Nat → PortSt → Option Nat × PortSt
  | 0, x => (none, x)
  | fuel + 1, x =>
    let c := x.turn
    let next := c % 3 + 1
    let have_ (d : Nat) : Bool := s.classWeight p d != 0 && !(s.classSources p d).isEmpty
    let serve := match s.classSources p c with
      | i :: _ =>
        let n := ((s.offered p i).map (s.wireLen p)).getD 0
        if have_ c ∧ n ≤ x.deficit.getD (c - 1) 0 then some (i, n) else none
      | [] => none
    match serve with
    | some (i, n) =>
      (some i, { x with deficit := x.deficit.set (c - 1) (x.deficit.getD (c - 1) 0 - n), last := x.last.set (c - 1) i })
    | none =>
      let d := if have_ c then x.deficit else x.deficit.set (c - 1) 0
      let d := if have_ next then d.set (next - 1) (d.getD (next - 1) 0 + 256 * s.classWeight p next) else d
      drr s p fuel { x with turn := next, deficit := d }

/-- The source of class 1–3 that a port serves next; classes of weight 0 only when no other has a packet. Log: 96 (DESIGN CHOICE). -/
def pickSource (s : State) (p : Nat) : Option Nat × PortSt :=
  let x := s.port p
  let busy := [1, 2, 3].filter (fun c => !(s.classSources p c).isEmpty)
  if busy.any (fun c => s.classWeight p c != 0) then s.drr p 256 x
  else match busy with
    | c :: _ =>
      let i := (s.classSources p c).headD 0
      (some i, { x with last := x.last.set (c - 1) i })
    | [] => (none, x)

/-- Put a packet on a port's wire: the frame leaves and is counted. -/
def sendPkt (s : State) (p : Nat) (k : Pkt) : State :=
  let f := s.pktFrame p k
  let x := s.port p
  let n := x.odd + f.length
  let s := s.setPort p { x with wire := some { k with again := false }, odd := n % 1024 }
  let s := (s.count (Reg.ETH_PORT_COUNT p 0)).count (Reg.ETH_PORT_COUNT p 1) (n / 1024)
  let s := s.count (Reg.ETH_PORT_COUNT p 3) (b2n (k.again && k.cls != 0))
  let s := match k.stream with
    | some i => s.setStream i { s.stream i with lastPort := some p, sentSeq := some k.seq }
    | none => s
  { s with out := { s.out with eth := s.out.eth ++ [(p, f)] } }

/-- Serve classes 1–3. -/
def sendLower (s : State) (p : Nat) : State :=
  let (src, x) := s.pickSource p
  match src with
  | none => s.setPort p x
  | some i =>
    match s.offered p i with
    | none => s
    | some k =>
      let s := s.setPort p x
      let s := if i = 4096 then s.setPort p { s.port p with c3 := (s.port p).c3.drop 1 }
        else s.setStream i { s.stream i with queue := (s.stream i).queue.drop 1 }
      s.sendPkt p k

/-- The shaper holds a class 0 packet (R321). -/
def holdClass0 (s : State) (p : Nat) : State :=
  let x := s.port p
  if x.held then s
  else
    let s := (s.setPort p { x with held := true }).count (Reg.ETH_PORT_COUNT p 4)
    let s := s.setFlag Reg.BEAM_LAT_BOUND Fld.BEAM_LAT_BOUND_VALID false
    if s.eth.heldRaised then s
    else ({ s with eth := { s.eth with heldRaised := true } } : State).raise Ev.ETH_C0_HELD p

/-- A standby discards its class 0 packets at their own time into retention (R528). Log: 172 (DEDUCED). -/
def retainClass0 (s : State) (p : Nat) : State :=
  let x := s.port p
  match x.c0 with
  | [] => s
  | k :: t =>
    let now := s.now.units
    let span := s.unitGet Reg.TWIN_CFG Fld.TWIN_CFG_RETAIN_US * 65536000
    let old := s.twin.retain.filter (fun e => decide (now ≤ e.1 + span))
    let s := s.setPort p { x with c0 := t, held := false }
    { s with twin := { s.twin with retain := old ++ [(now, p, k)] } }

/-- A port's transmitter is free (R318): what was on the wire has left, the bucket has filled for `elapsed` ns, and the next packet
goes. A TX-ring frame above the port's MTU is not sent (R307). Log: 226 (DEDUCED). -/
def transmit (s : State) (p elapsed : Nat) (frames : List (List Byte)) : State :=
  let x := s.port p
  if x.rate = 0 then s
  else
    let fill := x.tokens + elapsed * x.rate * s.ethGet (Reg.ETH_PORT_SCHED p) Fld.ETH_PORT_SCHED_C0_SHARE
    let fits := frames.filter (fun f => decide ((withFcs f).length ≤ s.ethGet (Reg.ETH_PORT_CFG p) Fld.ETH_PORT_CFG_MTU))
    let x := { x with
      wire := none, tokens := min fill (x.depth * 8192)
      c3 := x.c3 ++ fits.map (fun f => { stream := none, cls := 3, seq := 0, bytes := f }) }
    let s := s.setPort p x
    if !s.portUp p ∨ s.stopped then s
    else if s.standby then s.retainClass0 p
    else match x.c0 with
      | k :: t =>
        let cost := s.wireLen p k * 8192
        if cost ≤ x.tokens then (s.setPort p { x with c0 := t, tokens := x.tokens - cost, held := false }).sendPkt p k
        else (s.holdClass0 p).sendLower p
      | [] => s.sendLower p

/-- Lanes of a port (R306): consecutive ones of its quad, by the committed splits. -/
def portLanes (s : State) (p : Nat) : List Nat :=
  let quad (u : Nat) : List (List Nat) :=
    let l := 64 + 4 * u
    match s.ethGet Reg.ETH_CFG Fld.ETH_CFG_SPLIT / 4 ^ u % 4 with
    | 0 => [[l, l + 1, l + 2, l + 3]]
    | 1 => [[l, l + 1], [l + 2, l + 3]]
    | 2 => [[l], [l + 1], [l + 2], [l + 3]]
    | _ => []
  if s.ethFlag Reg.ETH_CFG Fld.ETH_CFG_ENABLE then ((List.range 4).flatMap quad).getD p [] else []

/-- A lane under an Ethernet PCS whose link comes up is UP, with its alignment lock; one whose link is lost adapts anew (R58).
Log: 204 (DEDUCED). -/
def laneRise (s : State) (l : Nat) : State :=
  if 3 ≤ s.laneState l then (s.laneTo l 5).setFlag (Reg.LANE_STATUS l) Fld.LANE_STATUS_MARKER_LOCK true else s
def laneDown (s : State) (l : Nat) : State := if s.laneState l = 5 then s.laneAdapt l else s

/-- A port's link goes down (R322, R323); `cut` says that the packet on the wire has not left whole. Log: 97 (DEDUCED). -/
def portDown (s : State) (p : Nat) (cut : Bool) : State :=
  if !s.portUp p then s
  else
    let x := s.port p
    let s := (s.set Reg.ETH_STATUS ⟨Fld.ETH_STATUS_PORT_UP.lo + p, 1⟩ 0).raise Ev.ETH_LINK_DOWN p
    let lost := x.c0.length + b2n (cut && x.wire.any (fun k => k.cls == 0))
    let s := s.count (Reg.ETH_PORT_COUNT p 2) lost
    let s := (s.setPort p { x with c0 := [], wire := none, held := false }).each (s.portLanes p) laneDown
    if !cut then s
    else match x.wire with
      | none => s
      | some k =>
        if k.cls = 0 then s
        else match k.stream with
          | some i => s.setStream i { s.stream i with queue := { k with again := true } :: (s.stream i).queue }
          | none => s.setPort p { s.port p with c3 := { k with again := true } :: (s.port p).c3 }

/-- A port's link comes up. -/
def portRise (s : State) (p : Nat) : State :=
  if (s.port p).rate = 0 then s else (s.set Reg.ETH_STATUS ⟨Fld.ETH_STATUS_PORT_UP.lo + p, 1⟩ 1).each (s.portLanes p) laneRise

/-! ### Received frames (R308, R324, R325, R438–R441) -/

end State

/-- EtherType and what follows it, past one IEEE 802.1Q tag. -/
def etherBody (f : List Byte) : Nat × List Byte :=
  let t := unbe ((f.drop 12).take 2)
  if t = 0x8100 then (unbe ((f.drop 16).take 2), f.drop 18) else (t, f.drop 14)

/-- Is a frame addressed to everyone? -/
def isBroadcast (f : List Byte) : Bool := f.take 6 == List.replicate 6 0xFF

/-- The IEEE 1588 message of a frame (R324, R438): EtherType 0x88F7, or UDP destination port 319 or 320 over IPv4 without options or
IPv6 without extension headers. -/
def ptpBody (f : List Byte) : Option (List Byte) :=
  let (t, b) := etherBody f
  let udp (h : List Byte) : Option (List Byte) :=
    let p := unbe ((h.drop 2).take 2)
    if p = 319 ∨ p = 320 then some (h.drop 8) else none
  if t = 0x88F7 then some b
  else if t = 0x0800 ∧ byteAt b 0 = 0x45 ∧ byteAt b 9 = 17 then udp (b.drop 20)
  else if t = 0x86DD ∧ byteAt b 0 / 16 = 6 ∧ byteAt b 6 = 17 then udp (b.drop 40)
  else none

namespace State

/-- A PAUSE or PFC frame (R307): MAC control with opcode 0x0001 or 0x0101. -/
def isPause (f : List Byte) : Bool :=
  decide (unbe ((f.drop 12).take 2) = 0x8808) && (decide (unbe ((f.drop 14).take 2) = 0x0001) || decide (unbe ((f.drop 14).take 2) = 0x0101))

/-- A frame without its FCS on a data port (R307, R308); one above the port's MTU is discarded. Log: 226 (DEDUCED). -/
def portFrame (s : State) (p : Nat) (f : List Byte) (good : Bool) : State :=
  if !s.portUp p then s
  else
    let s := s.count (Reg.ETH_PORT_COUNT p 5)
    let group := byteAt f 0 % 2 = 1
    if !good ∨ s.ethGet (Reg.ETH_PORT_CFG p) Fld.ETH_PORT_CFG_MTU < f.length + 4 then s.count (Reg.ETH_PORT_COUNT p 6)
    else if isPause f then s.count (Reg.ETH_PORT_COUNT p 7)
    else if f.take 6 = s.portMac p ∨ isBroadcast f ∨ (group ∧ s.ethFlag (Reg.ETH_PORT_RX p) Fld.ETH_PORT_RX_MCAST) then
      s.toRing (s.ethGet (Reg.ETH_PORT_RX p) Fld.ETH_PORT_RX_RING) { producer := 0x08, bytes := f, full := .counts (Reg.ETH_PORT_COUNT p 6) }
    else s.count (Reg.ETH_PORT_COUNT p 6)

/-- Picoseconds in units of 2^-16 ns. Log: 101 (DESIGN CHOICE). -/
def psUnits (ps : Nat) : Nat := (roundDiv ((ps : Int) * 65536) 1000).toNat

/-- The management link is up. -/
def mgmtUp (s : State) : Bool := s.flag Reg.ETH_STATUS Fld.ETH_STATUS_MGMT_UP

/-- A frame on the management port. -/
def mgmtFrame (s : State) (f : List Byte) (good : Bool) (fine : Nat) : State :=
  if !s.mgmtUp ∨ !good ∨ !(isBroadcast f || Config.mgmtAccepts (f.take 6)) then s
  else match ptpBody f with
    | none => s.toRing (s.ethGet Reg.ETH_MGMT_RINGS Fld.ETH_MGMT_RINGS_RX_RING) { producer := 0x08, bytes := f, full := .drops }
    | some _ =>
      let t := Stamp.ofUnits ((s.edgeTime fine).units - psUnits (s.timeGet Reg.TIME_PTP_LAT Fld.TIME_PTP_LAT_RX_PS))
      let prefix_ := t.bytes ++ le 2 f.length ++ le 1 (b2n (!s.flag Reg.TIME_STATUS Fld.TIME_STATUS_SET)) ++ zeros 1
      s.toRing (s.ethGet Reg.ETH_MGMT_PTP Fld.ETH_MGMT_PTP_PTP_RING) { producer := 0x09, bytes := prefix_ ++ f, full := .drops }

/-- A frame of the management TX ring leaves; an event message's transmit record (R440). Log: 98 (DESIGN CHOICE). -/
def mgmtSend (s : State) (f : List Byte) (fine : Nat) : State :=
  if !s.mgmtUp ∨ s.standby ∨ s.stopped then s
  else
    let s := { s with out := { s.out with eth := s.out.eth ++ [(16, withFcs f)] } }
    match ptpBody f with
    | none => s
    | some m =>
      if s.timeFlag Reg.TIME_CAP Fld.TIME_CAP_TX_EN ∧ byteAt m 0 % 16 < 4 then
        let t := Stamp.ofUnits ((s.edgeTime fine).units + psUnits (s.timeGet Reg.TIME_PTP_LAT Fld.TIME_PTP_LAT_TX_PS))
        let b := [0x74, 0x01] ++ le 1 (byteAt m 0 % 16) ++ le 1 (byteAt m 4) ++ le 2 (unbe ((m.drop 30).take 2))
          ++ ((m.drop 20).take 10 ++ zeros 10).take 10 ++ t.bytes ++ zeros 4
        s.toRing (s.ethGet Reg.ETH_MGMT_PTP Fld.ETH_MGMT_PTP_PTP_RING) { producer := 0x10, bytes := b, full := .counts (Reg.TIME_COUNT 6) }
      else s

/-! ### ETH_STREAM_SET (R326, R327) -/

/-- Is an entry named by a producer or a dump, or does it have a packet queued or in transmission? -/
def streamBusy (s : State) (i : Nat) : Bool :=
  s.producers.any (fun p => p.1 == i) || !(s.stream i).queue.isEmpty
    || s.glean.jobs.any (fun j => !j.ring && j.dest == i)
    || s.eth.ports.any (fun p => p.2.wire.any (fun k => k.stream == some i) || p.2.c0.any (fun k => k.stream == some i))

/-- A word of an entry that takes effect at once. -/
def ethPut (s : State) (a v : Nat) : State :=
  let s := s.wrN a v
  { s with eth := { s.eth with regs := mapSet (regReset a) s.eth.regs a (BitVec.ofNat 32 v) } }

/-- The new contents of an entry's words. -/
def streamSet (s : State) (ref : CmdRef) (d : List Byte) (r : Nat) (t : HostRead) : State :=
  let i := fieldAt d 36 2
  if 4096 ≤ i ∨ descCount d ≠ 32 then s.finishSt ref St.BAD_PARAM
  else if s.streamBusy i then s.finishSt ref St.ETH_STREAM_BUSY
  else match s.table r d 32 t with
    | .error st => s.tableFailed ref r st
    | .ok bs =>
      let word (w : Nat) : Nat := if w = 0 then fieldAt bs 0 4 % 2 ^ 27 else fieldAt bs (4 * w) 4
      (s.each (List.range 8) (fun s w => s.ethPut (Reg.ETH_STR_CFG i + 4 * w) (word w))).finish ref {}

end State

open State

/-- EGRESS_TRANSMIT (R312–R321, R526, R528, R532): the port's transmitter is free, `elapsed` ns after the last time; `frames` came from its TX
ring. -/
def execEgressTransmit (port : Port) (elapsed : Nat) (frames : List (List Byte)) (s : State) : Result := ok (s.transmit port elapsed frames)

/-- ETH_LINK_DOWN (R322, R323). -/
def execEthLinkDown (port : Port) (cut : Bool) (s : State) : Result := ok (s.portDown port cut)

/-- ETH_LINK_UP (R322). -/
def execEthLinkUp (port : Port) (s : State) : Result := ok (s.portRise port)

/-- ETH_FRAME_RECEIVE (R307, R308). Log: 100 (DESIGN CHOICE). -/
def execEthFrameReceive (port : Port) (frame : List Byte) (fcsGood : Bool) (s : State) : Result := ok (s.portFrame port frame fcsGood)

/-- MGMT_FRAME_RECEIVE (R324, R325, R439, R441). -/
def execMgmtFrameReceive (frame : List Byte) (fcsGood : Bool) (fine : Fin 128) (s : State) : Result := ok (s.mgmtFrame frame fcsGood fine)

/-- MGMT_FRAME_TRANSMIT (R324, R440, R441). Log: 100 (DESIGN CHOICE). -/
def execMgmtFrameTransmit (frame : List Byte) (fine : Fin 128) (s : State) : Result := ok (s.mgmtSend frame fine)

/-- MGMT_LINK_DOWN (R58, R324). -/
def execMgmtLinkDown (s : State) : Result := ok ((s.setFlag Reg.ETH_STATUS Fld.ETH_STATUS_MGMT_UP false).laneDown 96)

/-- MGMT_LINK_UP (R58, R324). -/
def execMgmtLinkUp (s : State) : Result := ok ((s.setFlag Reg.ETH_STATUS Fld.ETH_STATUS_MGMT_UP true).laneRise 96)

/-- ETH_STREAM_SET (R326, R327, R352): ring command 0x48, accepted whether or not the device runs. -/
def execEthStreamSet (src : CmdSrc) (table : HostRead) (s : State) : Result :=
  ok (s.handOver src 0x48 (fun ref d r s => s.streamSet ref d r table))

/-- ETH_STR_SEQ_LO_READ (R313): the low half of the next PKT_SEQ; the high half is captured. -/
def execEthStrSeqLoRead (stream : Fin 4096) (s : State) : Result :=
  let n := (s.stream stream).pktSeq
  ok (s.answer (Reg.ETH_STR_SEQ_LO stream) n (fun s => (s.wrN (Reg.ETH_STR_SEQ_LO stream) n).wrN (Reg.ETH_STR_SEQ_HI stream) (n / 2 ^ 32)))

end Sys2Proof.Machine
end

