-- ==== Sys2Proof/Machine/Almanac.lean ====
section
/-! DEFINITION. The tick of the time base, TIME_EVT pins and the almanac (spec/16_time_and_almanac.md, R44, R279). -/

namespace Sys2Proof.Machine

/-! ### Entries (R445) -/

namespace AlmImage

/-- Fields of an entry image. -/
def bySheaf (b : List Byte) : Bool := bitAt (byteAt b 0) 0
def action (b : List Byte) : Nat := byteAt b 1
def target (b : List Byte) : Nat := byteAt b 2
def period (b : List Byte) : Nat := fieldAt b 16 8
def param (b : List Byte) : Nat := fieldAt b 24 4
def desc (b : List Byte) : List Byte := (b.drop 64).take 64

/-- The key: a time in 2^-16 ns, or a sheaf index. -/
def key (b : List Byte) : Nat := if bySheaf b then fieldAt b 4 7 else (stampAt b 4).units

/-- The image with another key. -/
def withKey (b : List Byte) (k : Nat) : List Byte :=
  bytesPut b 4 (if bySheaf b then le 7 k ++ zeros 5 else (Stamp.ofUnits k).bytes)

/-- The step of the key per period. -/
def step (b : List Byte) : Nat := if bySheaf b then period b else period b * 65536

end AlmImage

/-- Does one entry stand before another in the firing order (R447)? -/
def almBefore (a b : Nat × AlmEntry) : Bool :=
  let ka := AlmImage.key a.2.image
  let kb := AlmImage.key b.2.image
  let ta := AlmImage.bySheaf a.2.image
  let tb := AlmImage.bySheaf b.2.image
  if ta != tb then tb else decide (ka < kb) || (ka == kb && decide (a.1 < b.1))

/-- The first of a list of entries in the firing order. -/
def almFirst : List (Nat × AlmEntry) → Option (Nat × AlmEntry)
  | [] => none
  | e :: t => match almFirst t with
    | none => some e
    | some f => if almBefore e f then some e else some f

namespace State

/-- The sheaf-index frontier (R444), plus 1: the lowest next index among the coarse channels; none while the core carries none.
Log: 147 (DEDUCED). -/
def frontier (s : State) : Option Nat :=
  if !s.running ∨ s.sys.keptReset then none
  else match (List.range s.cAll).map s.nextIndex with
    | [] => none
    | k :: t => some (t.foldl min k)

/-- Is a key at or before the present time or frontier? -/
def almReached (s : State) (sheaf : Bool) (key : Nat) : Bool :=
  if sheaf then s.frontier.any (fun f => decide (key < f)) else (Stamp.ofUnits key).le s.now

/-- An entry as it stands now: due, from a tick or passed by a step of the counter; a key that lies ahead again after a backward step
is waited for again (R437). Log: 150 (DEDUCED). -/
def almSettle (s : State) (stepped : Bool) (e : AlmEntry) : AlmEntry :=
  let sheaf := AlmImage.bySheaf e.image
  let there := s.almReached sheaf (AlmImage.key e.image)
  if e.dueAt.isNone && there then { e with dueAt := some s.time.tick, delayed := e.delayed || stepped }
  else if e.dueAt.isSome && !there && !sheaf then { e with dueAt := none, delayed := false }
  else e

/-- Mark the entries that fall due. -/
def almMark (s : State) (stepped : Bool) : State :=
  { s with alm := { s.alm with entries := s.alm.entries.map (fun e => (e.1, s.almSettle stepped e.2)) } }

/-- Entries that are due. -/
def almDue (s : State) : List (Nat × AlmEntry) := s.alm.entries.filter (fun e => e.2.dueAt.isSome)

/-- ALM_STATUS shows the armed entries and the next one in firing order, 0 when none is armed. Log: 151 (DESIGN CHOICE). -/
def showAlm (s : State) : State :=
  let s := s.set Reg.ALM_STATUS Fld.ALM_STATUS_ARMED s.alm.entries.length
  match almFirst (if s.almDue.isEmpty then s.alm.entries else s.almDue) with
  | some e => (s.set Reg.ALM_STATUS Fld.ALM_STATUS_NEXT e.1).setFlag Reg.ALM_STATUS Fld.ALM_STATUS_NEXT_VALID true
  | none => (s.set Reg.ALM_STATUS Fld.ALM_STATUS_NEXT 0).setFlag Reg.ALM_STATUS Fld.ALM_STATUS_NEXT_VALID false

/-- Arm an entry: its registers show the image. -/
def almArm (s : State) (i : Nat) (e : AlmEntry) : State :=
  let s : State := { s with alm := { s.alm with entries := mapPut s.alm.entries i e } }
  let s := s.each (List.range 32) (fun s w => s.wrN (Reg.ALM_ENTRY i w) (fieldAt e.image (4 * w) 4))
  ((s.setFlag (Reg.ALM_STATE i) Fld.ALM_STATE_ARMED true).set (Reg.ALM_STATE i) Fld.ALM_STATE_ACTION (AlmImage.action e.image)).showAlm

/-- Empty an entry. -/
def almEmpty (s : State) (i : Nat) : State :=
  let s : State := { s with alm := { s.alm with entries := mapDel s.alm.entries i } }
  (s.setFlag (Reg.ALM_STATE i) Fld.ALM_STATE_ARMED false).showAlm

/-! ### Pins (R442, R443) -/

/-- A TIME_EVT pin. -/
def evtPin (s : State) (p : Nat) : EvtPin := s.time.pins.getD p {}

/-- Replace it. -/
def setPin (s : State) (p : Nat) (x : EvtPin) : State := { s with time := { s.time with pins := s.time.pins.set p x } }

/-- Is the pin an output (OUT)? -/
def pinOut (s : State) (p : Nat) : Bool := s.timeFlag (Reg.TIME_EVT_CFG p) Fld.TIME_EVT_CFG_OUT

/-- Is the pin a driven output: in use, with OUT set (R443)? -/
def pinDriven (s : State) (p : Nat) : Bool := s.timeFlag (Reg.TIME_EVT_CFG p) Fld.TIME_EVT_CFG_EN && s.pinOut p

/-- The edge of a pulse: at the key when the entry fires in its due tick, to the resolution of 31.25 ps, whose rounding is open; else at
the firing tick. Log: 148 (DEDUCED). -/
def pulseEdge (s : State) (e : AlmEntry) (delayed : Bool) : Stamp × State :=
  if delayed ∨ e.late ∨ AlmImage.bySheaf e.image then (s.now, s)
  else
    let k := AlmImage.key e.image
    if k % 2048 = 0 then (Stamp.ofUnits k, s)
    else
      let (f, s) := s.free 2
      (Stamp.ofUnits (k / 2048 * 2048 + 2048 * f), s)

/-- An edge on an input TIME_EVT pin (R442, R279, R456); 8 ns are two ticks of the time base. Log: 228 (DEDUCED). -/
def evtEdge (s : State) (p fine : Nat) (falling : Bool) : State :=
  let a := Reg.TIME_EVT_CFG p
  let sel := s.timeGet a Fld.TIME_EVT_CFG_EDGE
  if !s.timeFlag a Fld.TIME_EVT_CFG_EN ∨ s.pinOut p ∨ !(sel == 2 || (sel == 0 && !falling) || (sel == 1 && falling)) then s
  else
    let t := s.edgeTime fine
    let here := 128 * s.time.tick + fine
    let x := s.evtPin p
    if x.lastEdge.any (fun l => decide (here ≤ l + 256)) then s.count (Reg.TIME_COUNT 3)
    else
      let s := s.setPin p { x with lastEdge := some here, captures := (x.captures + 1) % 2 ^ 32 }
      let s := if s.timeFlag Reg.TIME_CAP Fld.TIME_CAP_EN then
          s.toRing (s.timeGet Reg.TIME_CAP Fld.TIME_CAP_RING)
            { producer := 0x11, full := .counts (Reg.TIME_COUNT 2)
              bytes := [0x43, 0x01] ++ le 1 (p + 4 * b2n falling) ++ zeros 1 ++ t.bytes ++ le 4 x.captures ++ zeros 12 }
        else s
      if s.sys.keptReset then s
      else
        let s := if s.timeFlag a Fld.TIME_EVT_CFG_ADC then s.adcTrigger [] else s
        (s.gleanRequest (2 + p) (s.indexAt t.units) 0xFFFF).1

/-! ### Actions (R450, R451) -/

/-- Does an action need a block that is in reset (R44)? -/
def almBlocked (s : State) (b : List Byte) : Bool :=
  s.sys.keptReset && (match AlmImage.action b with
    | 3 => AlmImage.param b % 256 != 1
    | 4 => true
    | 5 => true
    | 6 => decide (descOpcode (AlmImage.desc b) < 0x60)
    | _ => false)

/-- An action other than EXEC takes effect. Log: 148 (DEDUCED). -/
def almAct (s : State) (e : AlmEntry) (delayed : Bool) : State :=
  let b := e.image
  let t := AlmImage.target b
  let p := AlmImage.param b
  match AlmImage.action b with
  | 1 =>
    if s.pinDriven t then
      let (edge, s) := s.pulseEdge e delayed
      s.setPin t { s.evtPin t with pulse := some (p % 2 ^ 24, edge), level := none }
    else s
  | 2 =>
    let on := bitAt p 0
    if t < 4 then (if s.pinDriven t then s.setPin t { s.evtPin t with level := some on, pulse := none } else s)
    else if t = 4 then { s with ref := { s.ref with ppsHeld := !on } }
    else { s with ref := { s.ref with syncHeld := !on } }
  | 3 => s.dacStrobe (p % 256)
  | 4 => s.adcTrigger []
  | 5 =>
    let k := AlmImage.key b
    (s.gleanRequest 1 (if AlmImage.bySheaf b then k else s.indexAt k) 0xFFFF).1
  | _ => s

/-- Re-arm with the next key that is not due (R449): the skipped firings, and the state. An index past the last one empties the entry.
Log: 149 (DEDUCED). -/
def almRearm (s : State) (i : Nat) (e : AlmEntry) : Nat × State :=
  let b := e.image
  let step := AlmImage.step b
  if step = 0 then (0, s.almEmpty i)
  else
    let k := AlmImage.key b
    let sheaf := AlmImage.bySheaf b
    let at_ := if sheaf then (s.frontier.map (· - 1)).getD 0 else s.now.units
    let n := if s.almReached sheaf (k + step) then (at_ - k) / step + 1 else 1
    let k' := k + n * step
    let missed := n - 1
    let s := s.count (Reg.ALM_COUNT 5) missed
    if sheaf && decide (emptyKey ≤ k') then (missed, s.almEmpty i)
    else (missed, s.almArm i { image := AlmImage.withKey b k', ring := e.ring })

/-- One entry fires. Log: 150 (DEDUCED). -/
def almFire (s : State) (i : Nat) (e : AlmEntry) : State :=
  let b := e.image
  let delayed := e.delayed || e.dueAt != some s.time.tick
  let q := s.full Reg.ALM_FIRE_SEQ
  let s := (s.wrN Reg.ALM_FIRE_SEQ (q + 1)).count (Reg.ALM_COUNT 0)
  let s := (s.count (Reg.ALM_COUNT 1) (b2n e.late)).count (Reg.ALM_COUNT 2) (b2n delayed)
  let s : State := { s with alm := { s.alm with last := some (s.time.tick, i) } }
  let (missed, s) := s.almRearm i e
  let record (st : Nat) : List Byte :=
    [0x41, 0x01] ++ le 1 i ++ le 1 (AlmImage.action b) ++ le 2 st
      ++ le 1 (b2n e.late + 2 * b2n delayed + 4 * b2n (AlmImage.bySheaf b)) ++ zeros 1 ++ (b.drop 4).take 12 ++ s.now.bytes
      ++ le 4 missed ++ le 4 q ++ zeros 8
  let done (s : State) (st : Nat) : State :=
    let s := s.set (Reg.ALM_STATE i) Fld.ALM_STATE_STATUS st
    if s.flag Reg.ALM_CFG Fld.ALM_CFG_REC_EN then
      s.toRing (s.get Reg.ALM_CFG Fld.ALM_CFG_RING) { producer := 0x12, bytes := record st, full := .counts (Reg.ALM_COUNT 4) }
    else s
  if s.almBlocked b then done (s.count (Reg.ALM_COUNT 3)) St.TARGET_IN_RESET
  else if AlmImage.action b = 6 then
    let d := AlmImage.desc b
    let x : AlmExec := { seq := q, entry := i, ring := e.ring, desc := if s.ewesen then descFromV1 d else d, record := record St.OK }
    let s : State := { s with alm := { s.alm with execs := s.alm.execs ++ [x] } }
    if descVersion d ≠ (if s.ewesen then 1 else 2) then s.finishSt (.exec q) St.BAD_VERSION else s
  else done (s.almAct e delayed) St.OK

/-- The entry that fires in this tick, if none has (R447). Log: 147 (DEDUCED), 149 (DEDUCED). -/
def almNext (s : State) : Option (Nat × AlmEntry) :=
  if s.alm.last.any (fun l => l.1 == s.time.tick) then none else almFirst s.almDue

/-- Fire one due entry. -/
def almTick (s : State) : State :=
  let s := s.almMark false
  match s.almNext with
  | some e => (s.almFire e.1 e.2).showAlm
  | none => s.showAlm

/-- The old entry fires first when a command meets it in its tick (R446); answers whether it fired in this tick. -/
def almMeets (s : State) (i : Nat) : Bool × State :=
  let s := s.almMark false
  match s.almNext with
  | some e => if e.1 = i then (true, s.almFire i e.2) else (false, s)
  | none => (s.alm.last == some (s.time.tick, i), s)

/-! ### Commands (R445, R446, R448) -/

/-- What is wrong with an image. Log: 147 (DEDUCED). -/
def almBad (s : State) (b : List Byte) : Option Nat :=
  let a := AlmImage.action b
  let t := AlmImage.target b
  let op := descOpcode (AlmImage.desc b)
  let sheaf := AlmImage.bySheaf b
  let badTarget := match a with
    | 1 => decide (3 < t) || !s.pinOut t
    | 2 => decide (5 < t) || (decide (t < 4) && !s.pinOut t)
    | _ => t != 0
  let badOp := a == 6 && !(blockOpcodes.contains op && ((decide (0x10 ≤ op) && decide (op < 0x50)) || (decide (0x60 ≤ op) && decide (op ≤ 0x6B))))
  let badPeriod := !sheaf && AlmImage.period b != 0 && decide (AlmImage.period b < 1024)
  if decide (6 < a) || badTarget || badOp || badPeriod || (sheaf && AlmImage.key b == emptyKey) then some St.ALM_BAD_ENTRY
  else if !sheaf && !(stampAt b 4).valid then some St.TIME_FORMAT
  else none

/-- ALM_SET's effect. -/
def almSetCmd (s : State) (ref : CmdRef) (d : List Byte) (r : Nat) (t : HostRead) : State :=
  match s.table r d 128 t with
  | .error st => s.tableFailed ref r st
  | .ok b =>
    match s.almBad b with
    | some st => s.finishSt ref st
    | none =>
      let i := byteAt d 36
      let (fired, s) := s.almMeets i
      let late := s.almReached (AlmImage.bySheaf b) (AlmImage.key b)
      let s := s.almArm i { image := b, ring := r, late := late, dueAt := if late then some s.time.tick else none }
      s.finish ref { status := if fired then St.ALM_FIRED else St.OK, late := late }

/-- ALM_CANCEL's effect on one entry or on all. -/
def almCancelCmd (s : State) (ref : CmdRef) (d : List Byte) : State :=
  let l := if bitAt (byteAt d 37) 0 then List.range 256 else [byteAt d 36]
  let (fired, s) := l.foldl (fun (acc : Bool × State) i =>
    let (f, s) := acc.2.almMeets i
    (acc.1 || f, s)) (false, s)
  let s := s.each l almEmpty
  s.finishSt ref (if fired then St.ALM_FIRED else St.OK)

/-! ### The tick (R426, R435, R437, R574) -/

/-- One tick of the time base: the counter advances, entries fall due, sets and steps take effect and make the entries that they pass
due. The tick that follows the counter's last second is a backward step, which fires nothing. Log: 20 (DEDUCED). -/
def tick (s : State) : State :=
  let s : State := { s with sys := { s.sys with staleTime := s.sys.staleTime && s.sys.keptReset } }
  let s := s.tickClock.almMark false
  if s.time.jobs.isEmpty then s.showAlm else (s.runJobs.almMark true).showAlm

end State

open State

/-- TIME_BASE_TICK (R426). -/
def execTimeBaseTick (s : State) : Result := ok s.tick

/-- TIME_EVT_EDGE (R442). -/
def execTimeEvtEdge (pin : Fin 4) (fine : Fin 128) (falling : Bool) (s : State) : Result := ok (s.evtEdge pin fine falling)

/-- PIN_PULSE_END (R443): the pin returns to IDLE. -/
def execPinPulseEnd (pin : Fin 4) (s : State) : Result :=
  ok (if (s.evtPin pin).pulse.isSome then s.setPin pin { s.evtPin pin with pulse := none, level := none } else s)

/-- ALM_SET (R445, R446, R448): opcode 0x70. -/
def execAlmSet (src : CmdSrc) (table : HostRead) (s : State) : Result :=
  ok (s.handOver src 0x70 (fun ref d r s => s.almSetCmd ref d r table))

/-- ALM_CANCEL (R446): opcode 0x71. -/
def execAlmCancel (src : CmdSrc) (s : State) : Result := ok (s.handOver src 0x71 (fun ref d _ s => s.almCancelCmd ref d))

/-- ALMANAC_FIRING (R447). -/
def execAlmanacFiring (s : State) : Result := ok s.almTick

end Sys2Proof.Machine
end

