-- ==== Sys2Proof/Machine/Avs.lean ====
section
/-! DEFINITION. Adaptive voltage scaling: field rails, the field clock, droop stretching (spec/17_housekeeping_analog.md). -/

namespace Sys2Proof.Machine

namespace State

/-- Committed fields of AVS_CFG (R578). -/
def avsSlo (s : State) : Nat := Fld.AVS_CFG_S_LO.of s.sys.avsCfg
def avsShi (s : State) : Nat := Fld.AVS_CFG_S_HI.of s.sys.avsCfg

/-- Present voltage request of a rail. -/
def railMv (s : State) (a : Nat) : Nat := s.get (Reg.AVS_RAIL a) Fld.AVS_RAIL_SET_MV

/-- Request a voltage of a rail with immediate commit (R466). -/
def railAsk (s : State) (a mv : Nat) : State :=
  let s := (s.set (Reg.AVS_RAIL a) Fld.AVS_RAIL_SET_MV mv).setFlag (Reg.AVS_RAIL a) Fld.AVS_RAIL_CONFIRMED false
  { s with out := { s.out with avs := s.out.avs ++ [(a, some mv)] }, avs := { s.avs with last := s.avs.last.set a (some mv) } }

/-- Read a rail's voltage. -/
def railRead (s : State) (a : Nat) : State :=
  { s with out := { s.out with avs := s.out.avs ++ [(a, none)] }, avs := { s.avs with last := s.avs.last.set a none } }

/-- Retry the last transaction of a rail (R466). -/
def railAgain (s : State) (a : Nat) : State := { s with out := { s.out with avs := s.out.avs ++ [(a, s.avs.last.getD a none)] } }

/-- A rail suspended after a failed transaction (R466). -/
def railOut (s : State) (a : Nat) : Bool := bitAt (s.get Reg.AVS_STATUS Fld.AVS_STATUS_BUS_ERR) a

/-- Set or clear a rail's bit of a status field. -/
def railBit (s : State) (f : Fld) (a : Nat) (b : Bool) : State :=
  let v := s.get Reg.AVS_STATUS f
  s.set Reg.AVS_STATUS f (if bitAt v a then (if b then v else v - 2 ^ a) else (if b then v + 2 ^ a else v))

/-- The least n that the load permits (R468, R480). Log: 156 (DEDUCED). -/
def avsNeed (s : State) : Nat :=
  if s.sys.quiet then 16
  else
    let (p, q) := s.avs.load
    if p = 0 then 12 else max 12 (min 16 (ceilDiv (16 * p) (max q 1) + 1))

/-- Step one field rail by its least slack (R467). Log: 156 (DEDUCED). -/
def railStep (s : State) (a slack : Nat) : State :=
  if s.railOut a then s
  else if s.railMv a = 0 then s.railRead a
  else
    let v := s.railMv a
    let lo := s.get (Reg.AVS_RAIL a) Fld.AVS_RAIL_V_MIN_MV
    let hi := s.get (Reg.AVS_RAIL a) Fld.AVS_RAIL_V_MAX_MV
    let new := if slack < s.avsSlo then max v (min hi (v + 5)) else if s.avsShi < slack then min v (max lo (v - 5)) else v
    let s := if v < new then (s.railAsk a new).count (Reg.AVS_COUNT 1)
      else if new < v then (s.railAsk a new).count (Reg.AVS_COUNT 2) else s
    let at' := decide (new ≤ lo) || decide (hi ≤ new)
    (s.raiseIf (at' && !bitAt (s.get Reg.AVS_STATUS Fld.AVS_STATUS_AT_LIMIT) a) Ev.AVS_LIMIT a).railBit Fld.AVS_STATUS_AT_LIMIT a at'

/-- Adjust n (R468, R469): an increase requests the voltages recorded for the new n and waits for them; a decrease precedes the
voltage decreases that it permits, and waits while a rail is suspended. -/
def avsClock (s : State) : State :=
  let n := s.get Reg.AVS_STATUS Fld.AVS_STATUS_N
  let need := s.avsNeed
  if need < n then
    if (List.range 4).any s.railOut ∨ s.flag Reg.AVS_CFG Fld.AVS_CFG_FREEZE then s
    else
      ({ s with avs := { s.avs with recorded := mapPut s.avs.recorded n ((List.range 4).map s.railMv), nWait := none } } : State).set
        Reg.AVS_STATUS Fld.AVS_STATUS_N need
  else if n < need then
    if s.avs.nWait = some need then s
    else
      let s := { s with avs := { s.avs with nWait := some need } }
      match mapFind s.avs.recorded need with
      | some vs => s.each (vs.zipIdx.filter (fun x => decide (s.railMv x.2 < x.1))) (fun s x => s.railAsk x.2 x.1)
      | none => s.each ((List.range 4).filter (fun a => !s.flag (Reg.AVS_RAIL a) Fld.AVS_RAIL_CONFIRMED)) railRead
  else s

/-- An increase of n takes effect once every field rail has confirmed its voltage (R469). -/
def avsRaise (s : State) : State :=
  match s.avs.nWait with
  | some n =>
    if (List.range 4).all (fun a => s.flag (Reg.AVS_RAIL a) Fld.AVS_RAIL_CONFIRMED) then
      ({ s with avs := { s.avs with nWait := none } } : State).set Reg.AVS_STATUS Fld.AVS_STATUS_N n
    else s
  | none => s

/-- One period of the loop (R467, R471). Log: 156 (DEDUCED). -/
def avsPeriodEnd (s : State) (slack : List Nat) : State :=
  if !s.sys.fwUp then s
  else if s.flag Reg.AVS_CFG Fld.AVS_CFG_FREEZE then
    (s.setFlag Reg.AVS_CFG Fld.AVS_CFG_FREEZE_ACK true).avsClock.avsRaise
  else
    let s := if s.railMv 4 = 0 ∧ !s.railOut 4 then s.railAsk 4 s.fuses.vddC else s
    let s := s.avsClock
    let s := if s.avs.nWait.isSome then s else s.each (List.range 4) (fun s a => s.railStep a (slack.getD a 0))
    s.avsRaise

/-- An AVSBus transaction ends (R466): a read-back voltage, or a failure that is retried three times. Log: 156 (DEDUCED). -/
def avsEnd (s : State) (a : Nat) (r : Option Nat) : State :=
  match r with
  | some mv =>
    let s := if s.railMv a = 0 then s.set (Reg.AVS_RAIL a) Fld.AVS_RAIL_SET_MV mv else s
    let s := s.setFlag (Reg.AVS_RAIL a) Fld.AVS_RAIL_CONFIRMED (s.railMv a == mv)
    let s := { s with avs := { s.avs with tries := s.avs.tries.set a 0, confirmed := s.avs.confirmed.set a mv } }
    (s.railBit Fld.AVS_STATUS_BUS_ERR a false).avsRaise
  | none =>
    if s.avs.tries.getD a 0 < 3 then
      let s := { s with avs := { s.avs with tries := s.avs.tries.set a (s.avs.tries.getD a 0 + 1) } }
      (s.count (Reg.AVS_COUNT 3)).railAgain a
    else
      let s := { s with avs := { s.avs with tries := s.avs.tries.set a 0 } }
      let s := s.set (Reg.AVS_RAIL a) Fld.AVS_RAIL_SET_MV (s.avs.confirmed.getD a 0)
      (s.railBit Fld.AVS_STATUS_BUS_ERR a true).raise Ev.AVS_BUS_ERR a

/-- FREEZE of the voltage loop is written (R471); FREEZE_ACK follows at the end of the period. -/
def avsFreeze (s : State) (on : Bool) : State :=
  let s := s.setFlag Reg.AVS_CFG Fld.AVS_CFG_FREEZE on
  if on then s else s.setFlag Reg.AVS_CFG Fld.AVS_CFG_FREEZE_ACK false

end State

/-- AVS_PERIOD (R467): the least slack of each field rail in the period, units of 5 ps. -/
def execAvsPeriod (slack : List Nat) (s : State) : Result := ok (s.avsPeriodEnd slack)

/-- AVS_TRANSACTION_END (R466): the rail's voltage read back, or none on a failed transaction. -/
def execAvsTransactionEnd (rail : Fin 5) (answer : Option (Fin 1024)) (s : State) : Result := ok (s.avsEnd rail (answer.map (·.val)))

/-- AVS_CFG_FREEZE (R471): FREEZE_ACK follows at the end of the present period. -/
def execAvsCfgFreeze (on : Bool) (s : State) : Result :=
  ok (if s.served then s.avsFreeze on else s)

/-- DROOP_DETECT (R470): every field stretches its cycles; each stretch run is counted. -/
def execDroopDetect (rail : Fin 4) (s : State) : Result :=
  ok (let s := if s.avs.droop.isEmpty then s.count (Reg.AVS_COUNT 0) else s
    { s with avs := { s.avs with droop := if s.avs.droop.contains rail.val then s.avs.droop else rail.val :: s.avs.droop } })

/-- DROOP_RECOVER (R470). -/
def execDroopRecover (rail : Fin 4) (s : State) : Result :=
  ok { s with avs := { s.avs with droop := s.avs.droop.filter (fun a => a != rail.val) } }

end Sys2Proof.Machine
end

