-- ==== Sys2Proof/Machine/FuseDbg.lean ====
section
/-! DEFINITION. Fuse programming (R581), the debug lock (R582, R598) and firmware messages (R583). -/

namespace Sys2Proof.Machine

namespace State

/-! ### Fuse programming (R581) -/

/-- Is a die sensor's last reading outside 0–85 °C? Readings are in sixteenths of a degree (R454). -/
def dieOutside (s : State) : Bool :=
  (List.range 16).any (fun t => let v := toS 16 (s.get (Reg.ADC_TEMP t) ⟨0, 16⟩); decide (v < 0) || decide (85 * 16 < v))

/-- The hash that software has written. -/
def progHash (s : State) : List Nat := (List.range 12).map (fun w => s.full (Reg.FUSE_PROG_DATA w))

/-- The first failing condition of a request, 0 for none: items bit 0 hash, bit 1 REQUIRE_SIGNED. -/
def progError (s : State) (items key : Nat) : Nat :=
  let hash := bitAt items 0
  let sign := bitAt items 1
  let zero := s.progHash.all (· == 0)
  if key ≠ 0x5EF0A1 then 1
  else if s.running ∨ s.dieOutside then 2
  else if (hash ∧ s.fuses.ownerSet) ∨ (sign ∧ s.fuses.requireSigned) then 3
  else if (hash ∧ zero) ∨ (sign ∧ !hash ∧ !s.fuses.ownerSet) then 4
  else 0

/-- Programming fails. -/
def progFail (s : State) (e : Nat) : State :=
  let s := (s.set Reg.FUSE_STATUS Fld.FUSE_STATUS_PROG 3).set Reg.FUSE_STATUS Fld.FUSE_STATUS_PROG_ERR e
  ({ s with sys := { s.sys with blow := 0 } } : State).raise Ev.FUSE_PROG_FAIL e

/-- A write of FUSE_PROG_CTL: refused, or BUSY. -/
def fuseProg (s : State) (v : Nat) : State :=
  if s.get Reg.FUSE_STATUS Fld.FUSE_STATUS_PROG = 1 ∨ s.sys.checking then s
  else
    let e := s.progError (v % 4) (v / 256)
    if e ≠ 0 then s.progFail e
    else
      let s := (s.set Reg.FUSE_STATUS Fld.FUSE_STATUS_PROG 1).set Reg.FUSE_STATUS Fld.FUSE_STATUS_PROG_ERR 0
      { s with sys := { s.sys with blow := v % 4 } }

/-- The read-back of both copies: the fuses are blown, or the programming has failed (R581). Log: 189 (DEDUCED). -/
def fuseProgEnd (s : State) (good : Bool) : State :=
  if s.get Reg.FUSE_STATUS Fld.FUSE_STATUS_PROG ≠ 1 then s
  else if !good then s.progFail 5
  else
    let hash := bitAt s.sys.blow 0
    let sign := bitAt s.sys.blow 1
    let data := s.progHash
    let items := s.sys.blow
    let s : State := { s with
      sys := { s.sys with blow := 0 }
      fuses := { s.fuses with
        ownerHash := if hash then data else s.fuses.ownerHash
        ownerSet := s.fuses.ownerSet || hash
        requireSigned := s.fuses.requireSigned || sign } }
    (s.set Reg.FUSE_STATUS Fld.FUSE_STATUS_PROG 2).raise Ev.FUSE_PROG_DONE items

/-! ### The debug lock (R582) -/

/-- The challenge registers. -/
def setChallenge (s : State) (l : List Word) : State :=
  s.each (List.range 8) (fun s w => s.wr (Reg.DBG_CHALLENGE w) (l.getD w 0))

/-- REQUEST: a new challenge in LOCKED and CHALLENGED; ignored in BARRED, and in UNLOCKED, which lasts until full reset.
Log: 189 (DEDUCED). -/
def dbgRequest (s : State) (l : List Word) : State :=
  let st := s.get Reg.DBG_LOCK Fld.DBG_LOCK_STATE
  if 2 ≤ st ∨ s.sys.checking then s
  else
    let s := (s.set Reg.DBG_LOCK Fld.DBG_LOCK_STATE 1).setChallenge l
    { s with sys := { s.sys with dbgWait := false } }

/-- Word 15 submits the response. Log: 159 (DESIGN CHOICE). -/
def dbgSubmit (s : State) (v : Word) : State :=
  if s.sys.checking then s
  else
    let s := s.wr (Reg.DBG_RESPONSE 15) v
    if s.get Reg.DBG_LOCK Fld.DBG_LOCK_STATE = 1 then { s with sys := { s.sys with dbgWait := true } } else s

/-- The check of a response ends. Log: 159 (DESIGN CHOICE). -/
def dbgChecked (s : State) (good : Bool) : State :=
  if !s.sys.dbgWait ∨ s.get Reg.DBG_LOCK Fld.DBG_LOCK_STATE ≠ 1 then s
  else
    let s : State := { s with sys := { s.sys with dbgWait := false } }
    let s := s.setChallenge []
    if good then (s.set Reg.DBG_LOCK Fld.DBG_LOCK_STATE 2).raise Ev.DBG_UNLOCKED
    else
      let n := s.get Reg.DBG_LOCK Fld.DBG_LOCK_FAILS + 1
      let s := s.set Reg.DBG_LOCK Fld.DBG_LOCK_FAILS n
      (s.set Reg.DBG_LOCK Fld.DBG_LOCK_STATE (if 3 ≤ n then 3 else 0)).raise Ev.DBG_UNLOCK_FAIL n

/-! ### Test multiplexers (R596, R597) -/

/-- Does a code of DBG_OBS_SEL select a signal? Other codes, and the crossing without a pointer, drive the ball low. -/
def obsListed (v : Nat) : Bool :=
  let within (lo hi : Nat) : Bool := decide (lo ≤ v) && decide (v ≤ hi)
  within 0x100 0x160 || within 0x200 0x260 || within 0x300 0x305 || within 0x310 0x315 || within 0x320 0x32B || within 0x400 0x402
    || within 0x500 0x60F || (within 0x701 0x711 && v != 0x710) || (within 0x741 0x751 && v != 0x750) || within 0x800 0x802

/-- Does a code of DBG_ATB_SEL name a node? -/
def atbListed (v : Nat) : Bool :=
  let within (lo hi : Nat) : Bool := decide (lo ≤ v) && decide (v ≤ hi)
  within 0x01 0x03 || within 0x10 0x1F || within 0x20 0x27 || within 0x40 0x4B || within 0x50 0x55 || within 0x60 0x63

/-- An observation ball carries the signal that its register selects (R596). Log: 197 (DEDUCED). -/
def obsShow (s : State) (o : Nat) : State :=
  let v := s.get (Reg.DBG_OBS_SEL o) Fld.DBG_OBS_SEL_SEL
  { s with pins := { s.pins with obs := s.pins.obs.set o (if obsListed v then v else 0) } }

/-- An analog test ball connects to the node that its register selects, unless the other ball holds that node (R597).
Log: 197 (DEDUCED). -/
def atbShow (s : State) (t : Nat) : State :=
  let v := s.get (Reg.DBG_ATB_SEL t) Fld.DBG_ATB_SEL_SEL
  let taken := s.pins.atb.getD (1 - t) 0
  { s with pins := { s.pins with atb := s.pins.atb.set t (if atbListed v && taken != v then v else 0) } }

end State

/-- FUSE_PROG (R581): the value written to FUSE_PROG_CTL. -/
def execFuseProg (value : Word) (s : State) : Result := ok (s.fuseProg value.toNat)

/-- FUSE_PROG_END (R581). -/
def execFuseProgEnd (readBackGood : Bool) (s : State) : Result := ok (s.fuseProgEnd readBackGood)

/-- DBG_REQUEST (R582): the words of the challenge come from the entropy source (R595). -/
def execDbgRequest (challenge : List Word) (s : State) : Result := ok (s.dbgRequest challenge)

/-- DBG_RESPONSE (R582): a write of word 15. -/
def execDbgResponse (word : Word) (s : State) : Result := ok (s.dbgSubmit word)

/-- DBG_RESPONSE_CHECKED (R598): the signature check's result. Log: 7 (DESIGN CHOICE). -/
def execDbgResponseChecked (good : Bool) (s : State) : Result := ok (s.dbgChecked good)

/-- FIRMWARE_MESSAGE (R583). Log: 188 (DESIGN CHOICE). -/
def execFirmwareMessage (code : BitVec 16) (s : State) : Result := ok (s.raiseIf s.sys.fwUp Ev.HKC_FW_MSG code.toNat)

end Sys2Proof.Machine
end

