-- ==== Sys2Proof/Machine/Events.lean ====
section
/-! DEFINITION. Event queues, arming, test occurrences, the wedged function, the memory scan (spec/18_integrity_and_events.md). -/

namespace Sys2Proof.Machine

/-- The 16 bytes of an event record (R487). -/
def evtBytes (r : EvtRec) : List Byte :=
  le 2 (r.event + (eventClass r.event).getD 0 * 2 ^ 11 + b2n (decide (1 < r.count)) * 2 ^ 14) ++ le 2 r.count ++ le 6 r.detail
    ++ le 6 ((r.sec * 1000000000 + r.ns) % 2 ^ 48)

/-- Records that one message takes: at most 64, closed before a TIME_LO 2^47 ns or more after the first (R488). -/
def evtBatch (l : List EvtRec) : List EvtRec :=
  match l with
  | [] => []
  | r :: t => r :: (t.take 63).takeWhile
      (fun x => decide ((x.sec * 1000000000 + x.ns + (2 ^ 48 - (r.sec * 1000000000 + r.ns) % 2 ^ 48)) % 2 ^ 48 < 2 ^ 47))

/-- The message of a queue (R488). -/
def evtMessage (q : Nat) (l : List EvtRec) : Msg :=
  let t : Stamp := match l with
    | r :: _ => ⟨r.sec, r.ns, r.frac⟩
    | [] => {}
  { producer := 0x14, bytes := [0x65, 0x01] ++ le 1 l.length ++ le 1 q ++ t.bytes ++ l.flatMap evtBytes }

namespace State

/-- Write one message of a queue (R488–R490): once its ring takes it; a disabled queue discards what its ring cannot take. -/
def evtFlush (s : State) (q : Nat) : State :=
  let mine := s.evt.store.filter (fun r => r.queue == q)
  let r := s.get (Reg.EVT_Q_CFG q) Fld.EVT_Q_CFG_RING
  if !s.flag Reg.EVT_CFG Fld.EVT_CFG_ENABLE ∨ mine.isEmpty then s
  else if s.ringTakes r then
    let l := evtBatch mine
    let s := ({ s with evt := { s.evt with store := s.evt.store.filter (fun x => !l.contains x) } } : State).showStore
    (s.toRing r (evtMessage q l)).count (Reg.EVT_Q_COUNT q 0) l.length
  else if s.flag (Reg.EVT_Q_CFG q) Fld.EVT_Q_CFG_EN then s
  else
    (({ s with evt := { s.evt with store := s.evt.store.filter (fun x => x.queue != q) } } : State).showStore).count
      (Reg.EVT_Q_COUNT q 1) mine.length

/-- ENABLE is written (R493): held island occurrences enter the store under the routing of the moment. -/
def evtEnable (s : State) (on : Bool) : State :=
  let s := s.setFlag Reg.EVT_CFG Fld.EVT_CFG_ENABLE on
  if on then
    let held := s.evt.held
    let s := { s with evt := { s.evt with held := [] } }
    (s.each held (fun s r => (s.count (Reg.EVT_SRC_CNT r.event) r.count).eventRecord r.event r.detail ⟨r.sec, r.ns, r.frac⟩ r.count)).showStore
  else s

/-- ARM is written (R491, R492). -/
def evtArm (s : State) (e : Nat) : State :=
  let a := Reg.EVT_SRC_CFG e
  if s.flag a Fld.EVT_SRC_CFG_IRQ_EN ∧ s.flag a Fld.EVT_SRC_CFG_PENDING then
    (((s.setFlag a Fld.EVT_SRC_CFG_PENDING false).setFlag a Fld.EVT_SRC_CFG_ARMED false)).signal (s.get a Fld.EVT_SRC_CFG_VECTOR)
  else s.setFlag a Fld.EVT_SRC_CFG_ARMED true

/-- The host function is wedged (R494, R495): detail 1 a fatal error, 2 a credit stall. Log: 158 (DEDUCED). -/
def wedge (s : State) (detail : Nat) : State :=
  if s.flag Reg.EVT_WEDGE Fld.EVT_WEDGE_WEDGED then s
  else
    let s := (s.setFlag Reg.EVT_WEDGE Fld.EVT_WEDGE_WEDGED true).raise Ev.PCIE_WEDGED detail
    if s.flag Reg.EVT_WEDGE Fld.EVT_WEDGE_SELF_RESET ∧ s.twinOn ∧ s.role = 1 then
      let s := s.selfFault 6
      if s.role = 3 then { s with sys := { s.sys with resetOnTaken := true } } else s
    else s

/-- CRC_SCAN begins (R498–R500): a transfer of the ring's channel over the bytes inside the window. -/
def scanStart (s : State) (ref : CmdRef) (d : List Byte) (r : Nat) : State :=
  let n := fieldAt d 4 4
  let a := fieldAt d 16 8
  let hbm := bitAt (byteAt d 37) 0
  let k := CheckKind.ofCode (byteAt d 36 % 4)
  let prior := if bitAt (byteAt d 37) 1 then fieldAt d 40 8 % (match k with
    | .crc16 => 2 ^ 16
    | .crc64 => 2 ^ 64
    | _ => 2 ^ 32) else k.empty
  let base := if hbm then s.get (Reg.RING_DWIN r) Fld.RING_DWIN_BASE_MIB * 2 ^ 20
    else (s.full (Reg.RING_HWIN_LO r) + s.get (Reg.RING_HWIN_HI r) Fld.RING_HWIN_HI_PAGE * 2 ^ 32) * 4096
  let size := if hbm then s.get (Reg.RING_DWIN_SIZE r) Fld.RING_DWIN_SIZE_MIB * 2 ^ 20 else s.full (Reg.RING_HWIN_PAGES r) * 4096
  let total := if base ≤ a ∧ a < base + size then min n (base + size - a) else 0
  let x : Xfer := { ref := ref, desc := d, scan := true, total := total, acc := prior, short := decide (total < n) }
  let s := s.set Reg.CRC_STATUS Fld.CRC_STATUS_ACTIVE (s.get Reg.CRC_STATUS Fld.CRC_STATUS_ACTIVE + 1)
  if total = 0 then (s.setRing r { s.ring r with xfer := some x }).endXfer r x (if n = 0 then St.OK else 0x0130)
  else (s.setRing r { s.ring r with xfer := some x }).showChannel (s.ringChannel r)

/-- The crossings of R38 that are dual-clock FIFOs. Log: 19 (DESIGN CHOICE). -/
def fifoCrossings : List Nat := [1, 2, 3, 5, 6, 7, 11, 13, 15]

/-- A dual-clock FIFO overflows or underflows (R40): the crossing raises CDC_FAULT. The word concerned is discarded, so it reaches no block
and changes nothing; the crossing goes on. A crossing with a side in reset is held empty (R41). Log: 19 (DESIGN CHOICE). -/
def cdcFault (s : State) (crossing : Nat) (overflow : Bool) (unit : Nat) : State :=
  s.raiseIf (s.pins.pwrOk && s.pins.loClk && !s.sys.keptReset && fifoCrossings.contains crossing) Ev.CDC_FAULT
    (crossing + 32 * b2n overflow + 256 * (unit % 256))

/-- What the block does while no command waits: a crossing may fault, which nothing else in the state decides.
Log: 1 (DESIGN CHOICE), 19 (DESIGN CHOICE). -/
def idleStep (s : State) : State :=
  let t : State := { s with freeIx := s.freeIx + 1 }
  match Config.cdcFault s.freeIx with
  | some (c, o, u) => t.cdcFault c o u
  | none => t

end State

/-- EVENT_QUEUE_FLUSH (R488): BATCH records wait, or TIME_US has passed. -/
def execEventQueueFlush (queue : Fin 8) (s : State) : Result := ok (s.evtFlush queue)

/-- EVT_SRC_ARM (R491): a write of ARM. -/
def execEvtSrcArm (source : Fin 2048) (s : State) : Result := ok (if s.served then s.evtArm source else s)

/-- EVT_RAISE (R489): one test occurrence, DETAIL all ones. -/
def execEvtRaise (source : Fin 2048) (s : State) : Result := ok (if s.served then s.raise source (2 ^ 48 - 1) else s)

/-- EVT_ENABLE (R493): a write of EVT_CFG.ENABLE. -/
def execEvtEnable (on : Bool) (s : State) : Result := ok (if s.served then s.evtEnable on else s)

/-- PCIE_CREDIT_STALL (R494): the link is up and TLPs have waited for EVT_WEDGE.MS. -/
def execPcieCreditStall (s : State) : Result :=
  ok (if s.flag Reg.DMA_PCIE_STATUS Fld.DMA_PCIE_STATUS_LINK_UP then s.wedge 2 else s)

/-- PCIE_FATAL_ERROR (R494): the AER status register that recorded it. -/
def execPcieFatalError (status : BitVec 32) (s : State) : Result :=
  ok (({ s with host := { s.host with aer := status.toNat } } : State).wedge 1)

/-- CRC_SCAN, opcode 0x78 (R498). -/
def execCrcScan (ring : Ring) (s : State) : Result := ok (s.command (.ring ring) 0x78 (fun ref d r s =>
    if descClean 0x78 d then s.scanStart ref d r else s.finishSt ref St.BAD_PARAM))

/-- PCIE_AER_ERROR (R328): a correctable or non-fatal error, with its AER status register. -/
def execPcieAerError (nonFatal : Bool) (status : BitVec 32) (s : State) : Result :=
  ok (({ s with host := { s.host with aer := status.toNat } } : State).raise (if nonFatal then Ev.PCIE_AER_NF else Ev.PCIE_AER_CE)
    status.toNat)

end Sys2Proof.Machine
end

