-- ==== Sys2Proof/Machine/Regs.lean ====
section
/-! DEFINITION. Reads and writes of BAR0 registers (R14–R19, R545, R554, R578): access codes, blocks served, which writes take effect
when. A field whose write has a row of its own is not written here. -/

namespace Sys2Proof.Machine

/-- What a write to a register's RW fields meets: it takes effect, it is ignored, or it is ignored and raises an event. -/
inductive Gate where
  | passes
  | ignored
  | busy (event detail : Nat)
deriving DecidableEq, Repr

/-- Fields of a register whose write has a row of its own in the command table, though they are plain RW fields.
Log: 10 (DESIGN CHOICE). -/
def ownRwFields (a : Nat) (d : RegDesc) : List Fld :=
  if d.base = Reg.LANE_EQ 0 then [Fld.LANE_EQ_FREEZE]
  else if a = Reg.CORR_PLACE then [Fld.CORR_PLACE_FREEZE]
  else if a = Reg.GLEAN_LEN_SHADOW then [⟨0, 32⟩]
  else if a = Reg.REF_CTL then [Fld.REF_CTL_RUN, Fld.REF_CTL_FREEZE]
  else if a = Reg.TIME_CTL then [Fld.TIME_CTL_FREEZE]
  else if a = Reg.AVS_CFG then [Fld.AVS_CFG_FREEZE]
  else if a = Reg.EVT_CFG then [Fld.EVT_CFG_ENABLE]
  else []

/-- Registers that may be written while the device runs, whatever their block's other registers do (R578).
Log: 14 (DEDUCED), 51 (DESIGN CHOICE). -/
def liveReg (a : Nat) (d : RegDesc) : Bool :=
  a == Reg.GLB_RESET_KEEP || a == Reg.GLB_GPIO || d.base == Reg.LANE_EQ 0 || d.base == Reg.LANE_EYE_CTL 0
    || a == Reg.HARROW_DC_SEL || a == Reg.WEED_PROBE_SEL || a == Reg.CORR_TILE_SEL || d.base == Reg.DMA_CH_CFG 0
    || d.base == Reg.DAC_CH_SLEW 0

namespace State

/-- What a write meets (R578 and the rules of the owning chapters). Log: 22 (DEDUCED), 144 (DEDUCED). -/
def gate (s : State) (w : Writer) (b : Nat) (a : Nat) (d : RegDesc) : Gate :=
  let whenIdle : Gate := if s.running then .ignored else .passes
  if b = 1 ∨ b = 19 then .passes
  else if b = 13 then
    let r := (a - d.base) / d.s1
    if s.ringState r = 0 then .passes else .busy Ev.RING_CFG_BUSY r
  else if b = 17 then (if s.flag Reg.REF_CTL Fld.REF_CTL_RUN then .busy Ev.REF_CFG_BUSY 0 else whenIdle)
  else if b = 18 then (if s.flag Reg.REF_CTL Fld.REF_CTL_RUN then .busy Ev.TIME_CFG_BUSY 0 else whenIdle)
  else if b = 20 then
    (if a = Reg.ADC_SINGLE then .passes else if s.adcOn ∧ a ≠ Reg.ADC_CFG then .busy Ev.ADC_CFG_BUSY 0 else .passes)
  else if b = 27 then (if s.get Reg.DBG_LOCK Fld.DBG_LOCK_STATE = 2 then .passes else .ignored)
  else if b = 28 then (if s.get Reg.FUSE_STATUS Fld.FUSE_STATUS_PROG = 1 then .ignored else whenIdle)
  else if a = Reg.XBAR_HKC_WIN ∧ w = .host then .ignored
  else if a = Reg.GLB_COMPAT then
    (if s.idle && (s.ringsWith (fun r => s.ringState r ≠ 0)).isEmpty then .passes else .ignored)
  else if liveReg a d then .passes
  else whenIdle

end State

/-- The word after a write by the access codes (R14): RW fields take the value, W1C bits are cleared where it holds a 1; the fields of
`skip` and every other field stay. Log: 9 (DEDUCED). -/
def written (fs : List FieldDesc) (skip : List Fld) (old : Word) (v : Nat) : Word :=
  fs.foldl (fun w f =>
    let fld : Fld := ⟨f.lo, f.width⟩
    if skip.contains fld then w
    else match f.acc with
      | .rw => fld.into w (fld.of (BitVec.ofNat 32 v))
      | .w1c => fld.into w (Nat.land (fld.of w) (2 ^ f.width - 1 - fld.of (BitVec.ofNat 32 v)))
      | _ => w) old

namespace State

/-- ADC_CFG is written (R482): while ENABLE is set only ENABLE itself can be cleared. Log: 144 (DEDUCED). -/
def adcCfgWrite (s : State) (v : Nat) : State :=
  let on : Bool := bitAt v 0
  let other : Word := Fld.ADC_CFG_ENABLE.into (BitVec.ofNat 32 v) (b2n s.adcOn)
  if s.adcOn then
    let s := s.raiseIf (other != s.reg Reg.ADC_CFG) Ev.ADC_CFG_BUSY
    if on then s else (s.setFlag Reg.ADC_CFG Fld.ADC_CFG_ENABLE false).adcDisable
  else
    let fs := match regAt Reg.ADC_CFG with
      | some d => d.fields
      | none => []
    let s := s.wr Reg.ADC_CFG (written fs [] (s.reg Reg.ADC_CFG) v)
    if on then s.adcEnable else s

/-- GLB_GPIO.IN reads what the device itself drives (R556); other balls read their outside level. Log: 14 (DEDUCED), 197 (DEDUCED). -/
def gpioShow (s : State) : State :=
  let oe := s.get Reg.GLB_GPIO Fld.GLB_GPIO_OE
  let out := s.get Reg.GLB_GPIO Fld.GLB_GPIO_OUT
  s.set Reg.GLB_GPIO Fld.GLB_GPIO_IN (Nat.land oe out)

/-- What follows a write at once, beyond the fields: an interrupt disabled loses its pending occurrence (R491), a queue disabled flushes
(R490), the tile probe (R578), the pins, the mode in force (R564). -/
def afterWrite (s : State) (a : Nat) (d : RegDesc) : State :=
  if d.base = Reg.EVT_SRC_CFG 0 then
    (if s.flag a Fld.EVT_SRC_CFG_IRQ_EN then s else s.setFlag a Fld.EVT_SRC_CFG_PENDING false)
  else if d.base = Reg.EVT_Q_CFG 0 then
    (if s.flag a Fld.EVT_Q_CFG_EN then s else s.evtFlush ((a - d.base) / d.s1))
  else if a = Reg.CORR_TILE_SEL then s.showTile
  else if a = Reg.GLB_GPIO then s.gpioShow
  else if d.base = Reg.DBG_OBS_SEL 0 then s.obsShow ((a - d.base) / 4)
  else if d.base = Reg.DBG_ATB_SEL 0 then s.atbShow ((a - d.base) / 4)
  else if a = Reg.GLB_COMPAT then
    s.setFlag Reg.GLB_STATUS Fld.GLB_STATUS_EWESEN (s.flag Reg.GLB_STRAP Fld.GLB_STRAP_EWESEN_MODE || s.flag a Fld.GLB_COMPAT_EWESEN)
  else s

/-- Does a register hold an RW or W1C field that a plain write can reach?. Log: 10 (DESIGN CHOICE). -/
def plainFields (a : Nat) (d : RegDesc) : Bool :=
  d.fields.any (fun f => (f.acc == .rw || f.acc == .w1c) && !(ownRwFields a d).contains ⟨f.lo, f.width⟩)

/-- Fields that ignore a write in the present state: the prototype's in Ewesen mode (R134), and a lane's CTLE and DFE values while its
FREEZE_ACK is clear (R54). -/
def heldFields (s : State) (a : Nat) (d : RegDesc) : List Fld :=
  if s.ewesen ∧ a = Reg.HARROW_CFG then [Fld.HARROW_CFG_PROTO, Fld.HARROW_CFG_TAPS]
  else if d.base = Reg.LANE_EQ 0 ∧ !s.flag a Fld.LANE_EQ_FREEZE_ACK then
    [Fld.LANE_EQ_CTLE, Fld.LANE_EQ_DFE1, Fld.LANE_EQ_DFE2, Fld.LANE_EQ_DFE3]
  else []

/-- HARROW_CFG as it reads in Ewesen mode (R134): PROTO 1, TAPS 0. -/
def ewesenView (s : State) (a : Nat) (w : Word) : Word :=
  if s.ewesen ∧ a = Reg.HARROW_CFG then Fld.HARROW_CFG_PROTO.into (Fld.HARROW_CFG_TAPS.into w 0) 1 else w

/-- One 32-bit write to a register of an assigned block, without the requests that have rows of their own. The response words of the
debug port are kept for the check (R582). Log: 9 (DEDUCED). -/
def regWrite (s : State) (w : Writer) (b a v : Nat) (d : RegDesc) : State :=
  if d.base = Reg.DBG_RESPONSE 0 then (if a = Reg.DBG_RESPONSE 15 then s else s.wrN a v)
  else if a = Reg.ADC_CFG then s.adcCfgWrite v
  else if !plainFields a d then s
  else match s.gate w b a d with
    | .passes => (s.wr a (written d.fields (ownRwFields a d ++ s.heldFields a d) (s.reg a) v)).afterWrite a d
    | .ignored => s
    | .busy e x => s.raise e x

/-- Master port of a writer (R389): PCIe inbound or the housekeeping controller. -/
def writerPort : Writer → Nat
  | .host => 0
  | .housekeeping => 23

/-- A block is served (R545): GLB, FUSE and DBG always, the others from READY. -/
def blockServed (s : State) (b : Nat) : Bool := s.isReady || b = 0 || b = 27 || b = 28

/-- A 32-bit write to BAR0 (R18, R19, R545, R554). Log: 11 (DEDUCED). -/
def barWrite (s : State) (w : Writer) (a v : Nat) : State :=
  if s.sys.checking then s
  else match blockOf a with
    | none => s.decodeError (writerPort w) 2 a true
    | some b =>
      if !s.blockServed b.index then s
      else match regAt a with
        | none => s
        | some d => s.regWrite w b.index a v d

end State

/-- The word that a read returns (R14): write-only fields read 0. -/
def readView (fs : List FieldDesc) (w : Word) : Word :=
  fs.foldl (fun w f => if f.acc = .wo then (⟨f.lo, f.width⟩ : Fld).into w 0 else w) w

/-- The word after a read (R14): RC fields return to their reset values. -/
def readClears (fs : List FieldDesc) (w : Word) : Word :=
  fs.foldl (fun w f => if f.acc = .rc then (⟨f.lo, f.width⟩ : Fld).into w f.rst else w) w

namespace State

/-- A 32-bit read of BAR0 (R14, R15, R18, R19, R545): the value in readData, RC fields cleared. The level of an undriven GPIO ball is a
free value. -/
def barRead (s : State) (m a : Nat) : State :=
  match blockOf a with
  | none => { s.decodeError m 2 a false with readData := 0 }
  | some b =>
    match regAt a with
    | none => { s with readData := 0 }
    | some d =>
      if !s.blockServed b.index then { s with readData := s.ewesenView a (readView d.fields (regReset a)) }
      else if a = Reg.GLB_GPIO then
        let (x, s) := s.free 256
        let oe := s.get a Fld.GLB_GPIO_OE
        { s with readData := Fld.GLB_GPIO_IN.into (s.reg a) (s.get a Fld.GLB_GPIO_IN + Nat.land x (255 - oe)) }
      else
        let v := s.reg a
        { s.wr a (readClears d.fields v) with readData := s.ewesenView a (readView d.fields v) }

end State

/-- REGISTER_WRITE (R14, R16, R18, R19, R578): a write of `size` bytes at a BAR0 offset; 64 bits are two 32-bit writes, lower address
first. Log: 9 (DEDUCED). -/
def execRegisterWrite (writer : Writer) (offset : Fin 67108864) (size : Nat) (value : BitVec 64) (s : State) : Result :=
  ok (if size < 4 then s.narrowAccess 0 offset
      else if offset % 4 ≠ 0 then s
      else if size = 8 then
        (s.barWrite writer offset (value.toNat % 2 ^ 32)).barWrite writer (offset + 4) (value.toNat / 2 ^ 32)
      else s.barWrite writer offset (value.toNat % 2 ^ 32))

/-- RC_READ (R14): a read by the host; a narrower read is a read of the whole word (R18). Log: 12 (DESIGN CHOICE). -/
def execRcRead (offset : Fin 67108864) (s : State) : Result := ok (s.barRead 0 (offset / 4 * 4))

end Sys2Proof.Machine
end

