-- ==== Sys2Proof/Machine/Stop.lean ====
section
/-! DEFINITION. Leaving the running state (R555): the pass in the array and the drains in progress complete, integrations still filling
are discarded, and the blocks return to IDLE. -/

namespace Sys2Proof.Machine

/-- A beam block at rest: every fade it holds has come to its end (R248). Log: 82 (DEDUCED). -/
def BeamBlk.rest (x : BeamBlk) : BeamBlk := { bank := x.bank != (x.fades.length % 2 == 1) }

namespace State

/-- Every tile of the passes in flight spills, without an error. Log: 182 (DEDUCED). -/
def spillAll (s : State) : State :=
  s.each s.corr.flights (fun s f => s.each f.left (fun s n =>
    match s.corr.flights.find? (fun x => x.chan == f.chan && x.pass == f.pass) with
    | some x => s.drainTile x n {}
    | none => s))

/-- Recomputes of the passes in flight end: on a spare where one is idle, given up where none is (R190). Log: 182 (DEDUCED). -/
def recomputeAll (s : State) : Nat → State
  | 0 => s
  | fuel + 1 =>
    match s.corr.suspects with
    | [] => s
    | x :: _ =>
      match x.spare with
      | some sp => (s.recomputeEnd sp []).recomputeAll fuel
      | none =>
        let t := s.recomputeStart
        match t.corr.suspects.find? (fun y => y.furrow == x.furrow && y.chan == x.chan && y.pass == x.pass) with
        | some y => (match y.spare with
            | some sp => t.recomputeEnd sp []
            | none => s.giveUp x).recomputeAll fuel
        | none => t.recomputeAll fuel

/-- Spills on their way to the adder are added. Log: 182 (DEDUCED). -/
def addAll (s : State) : State := s.each s.corr.spills (fun s t => s.granSpill t.chan t.tile [] [])

/-- A group's drains run to their end. -/
def drainGroup (s : State) (g : Nat) : Nat → State
  | 0 => s
  | fuel + 1 =>
    match (s.grp g).old, (s.grp g).drain with
    | some b, some d => (s.sendSegment g b d {}).drainGroup g fuel
    | _, _ => s

/-- A group returns to IDLE; an integration still filling, or that could not be completed, is discarded and counted. -/
def idleGroup (s : State) (g : Nat) : State :=
  let x := s.grp g
  let s := s.count (Reg.GLB_COUNT 0) (b2n x.fill.isSome + b2n x.old.isSome)
  let s := (s.set (Reg.GRAN_GRP_STATE g) Fld.GRAN_GRP_STATE_STATE 0).set (Reg.GRAN_GRP_STATE g) Fld.GRAN_GRP_STATE_DRAIN 0
  s.setFlag (Reg.GRAN_GRP_STATE g) Fld.GRAN_GRP_STATE_STRETCH false

/-- Commands that wait for an effect in a block. -/
def waitingRefs (s : State) : List CmdRef :=
  (s.ingest.changes.filter (fun c => !c.done)).filterMap (·.ref) ++ s.harrow.jobs.map (·.ref) ++ s.weed.jobs.map (·.ref)
    ++ s.corr.cmds.map (·.1) ++ s.gran.stops.map (·.1) ++ s.beam.swaps.map (·.ref) ++ s.beam.setCmds.map (·.1) ++ s.glean.jobs.map (·.ref)

/-- What the blocks hold of a run is gone; the beam tables, loads in progress and active banks stay (R241, R246). -/
def clearRun (s : State) : State :=
  { s with
    ingest := {}, harrow := {}, weed := { chans := s.weed.chans, init := s.weed.init }, turn := {}, corr := {}, gran := {}, glean := {}
    beam := { base := s.beam.base, offs := s.beam.offs, loads := s.beam.loads
              blocks := s.beam.blocks.foldl (fun m e => mapSet {} m e.1 (BeamBlk.rest e.2)) [] } }

/-- Status of the blocks that return to IDLE. -/
def blocksIdle (s : State) : State :=
  let s := (s.wrN Reg.INGEST_STATUS 0).wrN Reg.HARROW_STATUS 0
  let s := (s.setFlag Reg.TURN_STATUS Fld.TURN_STATUS_RUNNING false).setFlag Reg.TURN_STATUS Fld.TURN_STATUS_LAGGING false
  let s := (s.setFlag Reg.CORR_STATUS Fld.CORR_STATUS_RUNNING false).setFlag Reg.CORR_STATUS Fld.CORR_STATUS_WARM false
  let s := s.each (List.range 272) (fun s f => s.setWarm f false)
  let s := (s.wrN Reg.GRAN_STATUS 0).setFlag Reg.BALER_STATUS Fld.BALER_STATUS_RUNNING false
  let s := (s.setGleanState 0).setFlag Reg.GLEAN_STATUS Fld.GLEAN_STATUS_DUMPING false
  let s := s.set Reg.WEAVE_STATUS Fld.WEAVE_STATUS_STATE 0
  s.showBanks 0

/-- STOP (R555). Commands whose effect had not come end with NOT_RUNNING (R352). Log: 182 (DEDUCED). -/
def stopRun (s : State) : State :=
  let s := s.spillAll
  let s := (s.recomputeAll (4 * s.corr.suspects.length + 4)).addAll
  let s := s.each (List.range 8) (fun s g => s.drainGroup g (2 * s.grpCount g + 2))
  let s := s.beamStop
  let s := s.each (List.range 8) idleGroup
  let s := s.each s.waitingRefs (fun s r => s.finishSt r St.NOT_RUNNING)
  let s := s.clearRun.blocksIdle
  ({ s with weave := { s.weave with heard := [] } } : State).set Reg.GLB_STATUS Fld.GLB_STATUS_STATE 1

end State

/-- STOP (R555, R580): acts only in RUNNING. -/
def execStop (s : State) : Result := ok (if s.running ∧ !s.sys.checking then s.stopRun else s)

end Sys2Proof.Machine
end

