-- ==== Sys2Proof/Machine/Reset.lean ====
section
/-! DEFINITION. Power-on, full and island reset (R42, R43, R557–R561), what raises them, the watchdog, and the PCIe link
(spec/20_startup_reset_compat.md, R328, R589). -/

namespace Sys2Proof.Machine

/-- Nobody: stands for the ring of a command that a reset has discarded (R557); firing numbers are below 2^32. Log: 183 (DEDUCED). -/
def CmdRef.nobody : CmdRef := .exec (2 ^ 32)

/-- Offsets of the REF, TIME and ALM blocks (R577). -/
def islandReg (a : Nat) : Bool := 0x1D00000 ≤ a && a < 0x2000000

/-- Registers of DAC channel 0. -/
def dac0Reg (a : Nat) : Bool := a == Reg.DAC_CH_CFG 0 || a == Reg.DAC_CH_SLEW 0 || a == Reg.DAC_CH_CODE 0 || a == Reg.DAC_CH_PEND 0

/-- The reference unit with the commands that wait in it answering nobody. Log: 183 (DEDUCED). -/
def RefSt.orphan (r : RefSt) : RefSt :=
  { r with
    serving := r.serving.map (fun _ => CmdRef.nobody), selects := r.selects.map (fun e => (CmdRef.nobody, e.2))
    aligns := r.aligns.map (fun e => (CmdRef.nobody, e.2)), aligned := [], outCmds := r.outCmds.map (fun e => (CmdRef.nobody, e.2)) }

/-- The servo likewise. Log: 183 (DEDUCED). -/
def TimeSt.orphan (t : TimeSt) : TimeSt := { t with jobs := t.jobs.map (fun j => (CmdRef.nobody, j.2)) }

/-- The almanac in a kept reset (R44): entries stay armed; those keyed by sheaf index wait for the frontier again, also one that was due, and
will fire DELAYED with LATE clear; EXECs in blocks that are reset are gone. Log: 150 (DEDUCED), 183 (DEDUCED). -/
def AlmSt.kept (a : AlmSt) : AlmSt :=
  { a with
    entries := a.entries.map (fun e =>
      (e.1, if AlmImage.bySheaf e.2.image then { e.2 with delayed := true, late := false, dueAt := none } else e.2))
    execs := [] }

namespace State

/-- The balls that the device drives, at their POWER levels (R556); the levels of the others stay. -/
def pinsDown (p : PinSt) : PinSt := 
  { p with ready := false, yieldLow := false, twinHealth := 0, obs := List.replicate 16 0, atb := [0, 0] }

/-- What no reset touches: the commands that wait outside, what has left the device, the fuses, the free values. -/
def carried (s t : State) : State :=
  { t with pending := s.pending, readData := s.readData, out := s.out, freeIx := s.freeIx, fuses := s.fuses, hbmEpoch := s.hbmEpoch + 1 }

/-- Power-on reset (R557): everything, the timing island included, whatever GLB_RESET_KEEP.TIMING holds. Log: 184 (DEDUCED). -/
def powerReset (s : State) : State :=
  let t : State := s.carried { pins := pinsDown s.pins }
  t.setFlag Reg.DAC_STATUS Fld.DAC_STATUS_CLEAR (!s.pins.dacClearN)

/-- The straps that are in force (R543, R564). -/
def showStraps (s : State) : State :=
  let s := s.setFlag Reg.GLB_STATUS Fld.GLB_STATUS_EWESEN (s.flag Reg.GLB_STRAP Fld.GLB_STRAP_EWESEN_MODE)
  s.setFlag Reg.TWIN_CFG Fld.TWIN_CFG_PREF (s.flag Reg.GLB_STRAP Fld.GLB_STRAP_TWIN_PREF)

/-- DAC channels after a full reset other than power-on (R474, R42). -/
def dacsReset (s old : State) (from_ : Nat) : State :=
  if !old.sys.dacOn then s
  else
    let s := s.each ((List.range 8).filter (fun c => decide (from_ ≤ c))) (fun s c => s.dacReset c (old.dacOut c) (old.dacRange c) (old.dacParked c))
    let s := if from_ = 0 then s
      else ((s.setBit Reg.DAC_STATUS Fld.DAC_STATUS_PARKED 0 (old.dacParked 0)).setBit Reg.DAC_STATUS Fld.DAC_STATUS_SLEWING 0
        (old.dacSlewing 0)).setBit Reg.DAC_STATUS Fld.DAC_STATUS_PENDING 0 (bitAt (old.get Reg.DAC_STATUS Fld.DAC_STATUS_PENDING) 0)
    s.dacSettle

/-- Full reset (R42, R557, R560, R582): it restarts at the fuse stage; with GLB_RESET_KEEP.TIMING set the island and DAC channel 0 stay as
they are. In power-on reset it changes nothing. Log: 20 (DEDUCED), 183 (DEDUCED). -/
def fullReset (s : State) : State :=
  if !s.pins.pwrOk ∨ !s.pins.loClk then s
  else
    let keep := s.flag Reg.GLB_RESET_KEEP Fld.GLB_RESET_KEEP_TIMING
    let barred : Bool := s.get Reg.DBG_LOCK Fld.DBG_LOCK_STATE = 3
    let fails := s.get Reg.DBG_LOCK Fld.DBG_LOCK_FAILS
    let regs := s.regs.filter (fun r => r.1 == Reg.GLB_RESET_KEEP || r.1 == Reg.GLB_STRAP || (keep && (islandReg r.1 || dac0Reg r.1)))
    let t : State := s.carried {
      regs := regs, pins := pinsDown s.pins
      evt := { held := s.evt.held }
      sys := { keptReset := keep, staleTime := true, timeCopy := if keep then s.now else {}, dacOn := s.sys.dacOn
               quiet0 := keep && s.sys.quiet0, slewEn := if keep then 0xFE + s.sys.slewEn % 2 else 0xFF }
      clock := if keep then s.clock else {}
      time := if keep then s.time.orphan else {}
      alm := if keep then s.alm.kept else {}
      ref := if keep then s.ref.orphan else {}
      dac := if keep then { parking := s.dac.parking % 2, reload := s.dac.reload % 2 } else {} }
    let t := (t.showStraps.set Reg.GLB_STATUS Fld.GLB_STATUS_STAGE 1).showStore
    let t := (t.set Reg.DBG_LOCK Fld.DBG_LOCK_STATE (if barred then 3 else 0)).set Reg.DBG_LOCK Fld.DBG_LOCK_FAILS fails
    let t := t.setFlag Reg.DAC_STATUS Fld.DAC_STATUS_CLEAR (!s.pins.dacClearN)
    t.dacsReset s (b2n keep)

/-- Island reset (R558): refused while RUNNING; otherwise REF, TIME and ALM take their reset values, the outputs go low, and DAC channel 0
is reset under R474. -/
def islandReset (s : State) : State :=
  if s.running then s.raise Ev.GLB_RESET_REFUSED
  else
    let jobs := s.time.jobs
    let old := s
    let s := if s.refRun then s.refStop else s
    let s := s.each jobs (fun s j => s.finishSt j.1 St.REF_STOPPED)
    let s : State := { s with regs := s.regs.filter (fun r => !islandReg r.1), clock := {}, time := {}, alm := {}, ref := {} }
    let (tx, rx) := s.fuses.ptp.getD s.sys.ptpSel (0, 0)
    let s := s.timePut Reg.TIME_PTP_LAT (tx % 2 ^ 16 + rx % 2 ^ 16 * 2 ^ 16)
    let s := s.setFlag (Reg.DAC_CH_CFG 0) Fld.DAC_CH_CFG_OWNED false
    if old.sys.dacOn then (s.dacReset 0 (old.dacOut 0) (old.dacRange 0) (old.dacParked 0)).dacSettle else s

/-- A ball or register write that asks for a full reset is heard while no power-on reset holds the device. -/
def perst (s : State) (low : Bool) : State := { s with pins := { s.pins with perstN := !low } }

/-- The PCIe port can train: PERST_N is released and the fuse stage has ended, with or without an error (R545, R548). -/
def pcieReady (s : State) : Bool :=
  s.pins.perstN && s.pins.pwrOk && s.pins.loClk
    && (decide (2 ≤ s.get Reg.GLB_STATUS Fld.GLB_STATUS_STAGE) || s.flag Reg.GLB_STATUS Fld.GLB_STATUS_FUSE_ERR)

/-- The watchdog runs out (R559): the active unit of a pair yields and waits for TAKEN; every other unit resets.
Log: 158 (DEDUCED), 184 (DEDUCED). -/
def watchdog (s : State) : State :=
  if !s.sys.fwUp then s
  else
    let s := ((s.raise Ev.GLB_WATCHDOG).masterReset 23 none)
    if s.twinOn ∧ s.running ∧ s.role = 1 then
      let s := s.selfFault 5
      if s.role = 3 then { s with sys := { s.sys with resetOnTaken := true } } else s.fullReset
    else s.fullReset

/-- Configuration space (R328): payload and read request sizes as encoded powers of two from 128 bytes, no payload above 512.
Log: 185 (DESIGN CHOICE). -/
def pcieConfig (s : State) (master relaxed d3 : Bool) (payload request : Nat) : State :=
  if !s.flag Reg.DMA_PCIE_STATUS Fld.DMA_PCIE_STATUS_LINK_UP then s
  else
    let s : State := { s with host := { s.host with
      mps := min 512 (128 * 2 ^ payload), mrrs := min 4096 (128 * 2 ^ request), relaxed := relaxed, d3hot := d3 } }
    let s := s.setFlag Reg.DMA_PCIE_STATUS Fld.DMA_PCIE_STATUS_BUS_MASTER master
    if s.hostCan then s.sendHeld.sendPending else s

end State

/-- PWR_OK_RISE (R543): the straps are sampled, and the fuse stage begins once LO_CLK runs. -/
def execPwrOkRise (bootSrc ewesenMode twinPref : Bool) (s : State) : Result :=
  ok (if s.pins.pwrOk then s
      else
        let s : State := { s with pins := { s.pins with pwrOk := true, bootSrc := bootSrc, ewesenMode := ewesenMode, twinPref := twinPref } }
        let s := s.wrN Reg.GLB_STRAP (b2n bootSrc + 2 * b2n ewesenMode + 4 * b2n twinPref)
        let s := s.showStraps
        if s.pins.loClk then s.set Reg.GLB_STATUS Fld.GLB_STATUS_STAGE 1 else s)

/-- PWR_OK_FALL (R557). -/
def execPwrOkFall (s : State) : Result :=
  ok (({ s with pins := { s.pins with pwrOk := false } } : State).powerReset)

/-- LO_CLK_LOSS (R589): power-on reset, PWR_OK still high; the sampled straps stay (R543). -/
def execLoClkLoss (s : State) : Result :=
  ok (let strap := s.reg Reg.GLB_STRAP
    ((({ s with pins := { s.pins with loClk := false } } : State).powerReset).wr Reg.GLB_STRAP strap).showStraps)

/-- LO_CLK_RETURN (R589): the device restarts at POWER and, PWR_OK being high, goes on to the fuse stage. -/
def execLoClkReturn (s : State) : Result :=
  ok (if s.pins.loClk then s
      else
        let s : State := { s with pins := { s.pins with loClk := true } }
        if s.pins.pwrOk then s.set Reg.GLB_STATUS Fld.GLB_STATUS_STAGE 1 else s)

/-- PERST_N_ASSERT (R328). -/
def execPerstNAssert (s : State) : Result := ok (s.perst true).fullReset

/-- PERST_N_RELEASE (R545): PCIE_LINK_UP can follow once the fuse stage has ended. -/
def execPerstNRelease (s : State) : Result := ok (s.perst false)

/-- PCIE_HOT_RESET (R328). -/
def execPcieHotReset (s : State) : Result :=
  ok (if s.flag Reg.DMA_PCIE_STATUS Fld.DMA_PCIE_STATUS_LINK_UP then s.fullReset else s)

/-- PCIE_LINK_DOWN (R328). -/
def execPcieLinkDown (s : State) : Result :=
  ok (if s.flag Reg.DMA_PCIE_STATUS Fld.DMA_PCIE_STATUS_LINK_UP then s.fullReset else s)

/-- PCIE_LINK_UP (R328, R545): link training completes at a speed code 1–5 and a width of 1, 2, 4, 8 or 16 lanes. -/
def execPcieLinkUp (speed : Fin 6) (width : Fin 17) (s : State) : Result :=
  ok (if s.pcieReady ∧ 1 ≤ speed.val ∧ [1, 2, 4, 8, 16].contains width.val then
        let s := (s.set Reg.DMA_PCIE_STATUS Fld.DMA_PCIE_STATUS_SPEED speed).set Reg.DMA_PCIE_STATUS Fld.DMA_PCIE_STATUS_WIDTH width
        s.setFlag Reg.DMA_PCIE_STATUS Fld.DMA_PCIE_STATUS_LINK_UP true
      else s)

/-- PCIE_CONFIG_WRITE (R328): Bus Master Enable, Relaxed Ordering, power state, payload and read request codes. -/
def execPcieConfigWrite (busMaster relaxed d3hot : Bool) (payload request : Fin 8) (s : State) : Result :=
  ok (s.pcieConfig busMaster relaxed d3hot payload request)

/-- GLB_CTL_RESET (R580): discarded while commit checks run (R554). -/
def execGlbCtlReset (s : State) : Result := ok (if s.sys.checking then s else s.fullReset)

/-- ISLAND_RESET (R558): the key has been written. -/
def execIslandReset (s : State) : Result := ok (if s.sys.checking then s else s.islandReset)

/-- WATCHDOG_EXPIRY (R559). -/
def execWatchdogExpiry (s : State) : Result := ok s.watchdog

end Sys2Proof.Machine
end

