-- ==== Sys2Proof/Machine/Requests.lean ====
section
/-! DEFINITION. A register write or read with everything it asks for, the requests that have rows of their own included, as the boot ROM, a
configuration update and the chip matrix make it (R14, R390, R549, R562), and the requests of the GLB block. -/

namespace Sys2Proof.Machine

namespace State

/-- COMMIT is set (R554, R580): acts only in IDLE; the checks begin and it reads 1 until they end. -/
def commitStart (s : State) : State :=
  if s.idle ∧ !s.sys.checking then
    ({ s with sys := { s.sys with checking := true } } : State).setFlag Reg.GLB_CTL Fld.GLB_CTL_COMMIT true
  else s

/-- SWAP is set by firmware (R36, R392): the controller's next fetch sees it, and it stays until full reset. Log: 187 (DEDUCED). -/
def remapSwap (s : State) : State :=
  if 3 ≤ s.get Reg.GLB_STATUS Fld.GLB_STATUS_STAGE ∧ !s.flag Reg.GLB_STATUS Fld.GLB_STATUS_FW_ERR then
    s.setFlag Reg.GLB_REMAP Fld.GLB_REMAP_SWAP true
  else s

/-- GO is set (R553, R602): acts only while CONFIG waits. -/
def bootGo (s : State) : State :=
  if s.get Reg.GLB_STATUS Fld.GLB_STATUS_STAGE = 2 ∧ s.sys.configWait ∧ !s.flag Reg.GLB_BOOT_CTL Fld.GLB_BOOT_CTL_GO then
    (s.setFlag Reg.GLB_BOOT_CTL Fld.GLB_BOOT_CTL_GO true).setFlag Reg.GLB_BOOT_CTL Fld.GLB_BOOT_CTL_BUSY true
  else s

/-- A write of GLB_CTL (R580): RESET whatever the other bits hold. Log: 187 (DEDUCED). -/
def glbCtl (s : State) (v : Nat) : State :=
  if bitAt v 2 then s.fullReset
  else if bitAt v 0 ∧ s.idle then s.commitStart
  else if bitAt v 1 ∧ s.running then s.stopRun
  else s

/-- The bits of RING_CTL (R339–R342): RESET alone, or ENABLE, PAUSE and RESUME in that order. -/
def ringCtl (s : State) (r a v : Nat) : State :=
  let bit (f : Fld) : Bool := bitAt v f.lo
  if a ≠ Reg.RING_CTL r then s
  else if bit Fld.RING_CTL_RESET then (s.resetRing r).fadesSettle
  else
    let s := if bit Fld.RING_CTL_ENABLE then s.enableRing r else s
    let s := if bit Fld.RING_CTL_PAUSE then s.pauseRing r else s
    if bit Fld.RING_CTL_RESUME then s.resumeRing r else s

/-- DMA_CH_CTL (R366). Log: 114 (DEDUCED), 115 (DEDUCED). -/
def channelCtl (s : State) (c v : Nat) : State :=
  if bitAt v Fld.DMA_CH_CTL_ABORT.lo then (s.abortChannel c).fadesSettle
  else if bitAt v Fld.DMA_CH_CTL_RESUME.lo then s.resumeChannel c
  else s

/-- REF_CTL (R416, R425). -/
def refCtl (s : State) (v : Nat) : State :=
  let s := if bitAt v Fld.REF_CTL_RUN.lo = s.refRun then s else s.refRunWrite (!s.refRun)
  if bitAt v Fld.REF_CTL_FREEZE.lo = s.refFrozen then s else s.refFreeze (!s.refFrozen)

/-- The DMA channel that an outstanding host read serves. -/
def readChannel (s : State) (q : HostReq) : Option Nat := match q.use with
  | .entries r _ => some (s.ringChannel r)
  | .chain r _ => some (s.ringChannel r)
  | .burst r _ => some (s.ringChannel r)
  | .cut r _ => some (s.ringChannel r)
  | .matrix .. => none

/-- XBAR_MRST on one master port (R396): a DMA port's outstanding host reads end with an error response, and their data is drained when it
comes. Log: 130 (DEDUCED). -/
def portReset (s : State) (m : Nat) (delivered : Option Nat) : State :=
  let s := s.masterReset m delivered
  let mine (q : HostReq) : Bool := match s.readChannel q with
    | some c => c / 16 + 1 == m
    | none => false
  s.each (s.host.reads.filter mine) (fun s q =>
    let s := s.xbarErr m 3 1 q.addr false (min 4 (ceilDiv q.len 64))
    let s := s.count (Reg.XBAR_COUNT 3)
    ({ s with host := { s.host with lateTags := s.host.lateTags ++ [q.tag] } } : State).answered q .bus)

/-- A challenge of free words. -/
def freeWords : Nat → State → List Word × State
  | 0, s => ([], s)
  | n + 1, s =>
    let (x, s) := s.free (2 ^ 32)
    let (l, s) := freeWords n s
    (BitVec.ofNat 32 x :: l, s)

/-- The requests of a register write that have rows of their own, for the blocks up to the rings. -/
def requestLow (s : State) (w : Writer) (a v : Nat) (d : RegDesc) : State :=
  let i := (a - d.base) / d.s1
  if a = Reg.GLB_CTL then s.glbCtl v
  else if a = Reg.GLB_REMAP then (if w = .housekeeping ∧ bitAt v 0 then s.remapSwap else s)
  else if a = Reg.GLB_BOOT_CTL then (if bitAt v 0 then s.bootGo else s)
  else if a = Reg.GLB_ISLAND_RST then (if v = 0x15AD then s.islandReset else s)
  else if a = Reg.EVT_RAISE then s.raise (Fld.EVT_RAISE_EVENT.of (BitVec.ofNat 32 v)) (2 ^ 48 - 1)
  else if a = Reg.EVT_CFG then s.evtEnable (bitAt v Fld.EVT_CFG_ENABLE.lo)
  else if d.base = Reg.EVT_SRC_CFG 0 then (if bitAt v Fld.EVT_SRC_CFG_ARM.lo then s.evtArm i else s)
  else if d.base = Reg.LANE_EQ 0 then s.eqFreeze i (bitAt v Fld.LANE_EQ_FREEZE.lo)
  else if d.base = Reg.LANE_EYE_CTL 0 then (if bitAt v Fld.LANE_EYE_CTL_START.lo then s.startScan i else s)
  else if a = Reg.CORR_PLACE then s.placeFreeze (bitAt v Fld.CORR_PLACE_FREEZE.lo)
  else if a = Reg.GLEAN_LEN_SHADOW then s.shadowWrite v
  else if d.base = Reg.RING_CTL 0 then s.ringCtl i a v
  else s

/-- The requests of the remaining blocks. -/
def requestHigh (s : State) (a v : Nat) (d : RegDesc) : State :=
  let i := (a - d.base) / d.s1
  if d.base = Reg.DMA_CH_CTL 0 then s.channelCtl i v
  else if a = Reg.XBAR_MRST then s.each ((List.range 24).filter (bitAt v)) (fun s m => s.portReset m none)
  else if a = Reg.REF_CTL then s.refCtl v
  else if a = Reg.TIME_CTL then s.timeFreeze (bitAt v Fld.TIME_CTL_FREEZE.lo)
  else if a = Reg.ADC_SINGLE then
    (if bitAt v Fld.ADC_SINGLE_START.lo then s.adcSingle (Fld.ADC_SINGLE_CHANNEL.of (BitVec.ofNat 32 v)) else s)
  else if a = Reg.DAC_CTL then (if bitAt v Fld.DAC_CTL_LOAD.lo then s.dacStrobe 0xFF else s)
  else if a = Reg.AVS_CFG then s.avsFreeze (bitAt v Fld.AVS_CFG_FREEZE.lo)
  else if a = Reg.DBG_LOCK then
    (if bitAt v Fld.DBG_LOCK_REQUEST.lo then
      let (l, s) := freeWords 8 s
      s.dbgRequest l
    else s)
  else if a = Reg.DBG_RESPONSE 15 then s.dbgSubmit (BitVec.ofNat 32 v)
  else if a = Reg.FUSE_PROG_CTL then s.fuseProg v
  else s

/-- A 32-bit register write with everything it asks for, whatever the stage. -/
def fullWrite (s : State) (w : Writer) (a v : Nat) : State :=
  match blockOf a, regAt a with
  | some b, some d =>
    let s := s.regWrite w b.index a v d
    if b.index ≤ 13 then s.requestLow w a v d else s.requestHigh a v d
  | _, _ => s

/-- A 32-bit register write that crosses the chip matrix (R19, R545, R554). -/
def matrixWrite (s : State) (w : Writer) (a v : Nat) : State :=
  if s.sys.checking then s
  else match blockOf a with
    | none => s.decodeError (writerPort w) 2 a true
    | some b => if s.blockServed b.index then s.fullWrite w a v else s

end State

/-- The next state that a read answers. -/
def nextOf (s : State) : Result → State
  | .next t => t
  | _ => s

namespace State

/-- A 32-bit register read that crosses the chip matrix, the reads that have rows of their own included (R14). -/
def matrixRead (s : State) (m a : Nat) : State :=
  if a = Reg.HARROW_DC_RE then nextOf s (execHarrowDcReRead s)
  else if a = Reg.WEED_PROBE_SK then nextOf s (execWeedProbeSkRead s)
  else if a = Reg.TIME_NOW_NS then nextOf s (execTimeNowNsRead s)
  else if a = Reg.REF_BUILDOUT_LO then nextOf s (execRefBuildoutLoRead s)
  else if a = Reg.ADC_QUEUE_ENTRY then nextOf s (execAdcQueueEntryRead s)
  else if h : Reg.ETH_STR_SEQ_LO 0 ≤ a ∧ (a - Reg.ETH_STR_SEQ_LO 0) / (Reg.ETH_STR_SEQ_LO 1 - Reg.ETH_STR_SEQ_LO 0) < 4096 then
    (if (a - Reg.ETH_STR_SEQ_LO 0) % (Reg.ETH_STR_SEQ_LO 1 - Reg.ETH_STR_SEQ_LO 0) = 0 then
      nextOf s (execEthStrSeqLoRead ⟨_, h.2⟩ s)
    else s.barRead m a)
  else s.barRead m a

end State

/-- COMMIT (R554). -/
def execCommit (s : State) : Result := ok s.commitStart

/-- GLB_REMAP_SWAP (R36, R392). -/
def execGlbRemapSwap (s : State) : Result := ok (if s.sys.checking then s else s.remapSwap)

/-- RING_RESET (R341–R343): a load that it cuts may let a fade begin (R251). -/
def execRingReset (ring : Ring) (s : State) : Result := ok (if s.served then (s.resetRing ring).fadesSettle else s)

/-- DMA_CH_ABORT (R366, R367). -/
def execDmaChAbort (channel : DmaCh) (s : State) : Result := ok (if s.served then (s.abortChannel channel).fadesSettle else s)

/-- GLB_BOOT_GO (R553). -/
def execGlbBootGo (s : State) : Result := ok s.bootGo

end Sys2Proof.Machine
end

