-- ==== Sys2Proof/Machine/Boot.lean ====
section
/-! DEFINITION. The stages of start-up from the fuses to READY (R544–R553, R561, R563): fuse load, configuration image, firmware, stack
training, lane calibration. -/

namespace Sys2Proof.Machine

/-! ### The configuration image (R549, R550) -/

/-- An image's header fields. -/
def imgSections (b : List Byte) : Nat := fieldAt b 6 2
def imgBytes (b : List Byte) : Nat := fieldAt b 8 4
def imgSigned (b : List Byte) : Bool := bitAt (byteAt b 12) 0
def imgEwesen (b : List Byte) : Bool := bitAt (byteAt b 12) 1
def imgAuto (b : List Byte) : Bool := bitAt (byteAt b 12) 2

/-- Longest image: 16 MiB. -/
def imgLimit : Nat := 16 * 2 ^ 20

/-- A section of an image: type, offset, length, check value. -/
structure ImgSection where
  type : Nat
  offset : Nat
  length : Nat
  crc : Nat
deriving DecidableEq, Repr

/-- The section table. -/
def imgTable (b : List Byte) : List ImgSection :=
  (List.range (imgSections b)).map (fun i =>
    let o := 64 + 16 * i
    ⟨byteAt b o, fieldAt b (o + 4) 4, fieldAt b (o + 8) 4, fieldAt b (o + 12) 4⟩)

/-- A section's bytes. -/
def ImgSection.bytes (x : ImgSection) (b : List Byte) : List Byte := (b.drop x.offset).take x.length

/-- Offset of IMAGE_CRC: before the signature block of 193 bytes, where there is one. -/
def imgCrcAt (b : List Byte) : Nat := imgBytes b - 4 - (if imgSigned b then 193 else 0)

/-- The pairs of REGISTERS sections, in order. -/
def regPairs (bs : List Byte) : List (Nat × Nat) :=
  (List.range (bs.length / 8)).map (fun i => (fieldAt bs (8 * i) 4, fieldAt bs (8 * i + 4) 4))

/-- Every pair of an image. -/
def imgPairs (b : List Byte) : List (Nat × Nat) :=
  ((imgTable b).filter (fun x => x.type == 2)).flatMap (fun x => regPairs (x.bytes b))

/-- May an image's pair write this offset (R550, REG_OFFSET)?. Log: 186 (DEDUCED). -/
def pairAllowed (a : Nat) : Bool :=
  match blockOf a with
  | none => false
  | some b => a != Reg.GLB_REMAP && b.index != 27 && b.index != 28 &&
    match regAt a with
    | none => true
    | some d => d.fields.any (fun f => f.acc == .rw || f.acc == .wo || f.acc == .w1s || f.acc == .w1c)

/-- Codes 1–6: the image's own form and check values; 0 when it passes. Log: 186 (DEDUCED). -/
def imgForm (b : List Byte) : Nat :=
  let t := imgTable b
  let headEnd : Nat := 64 + 16 * imgSections b
  if b.take 4 ≠ [0x4B, 0x4C, 0x43, 0x42] then 1
  else if fieldAt b 4 2 ≠ 1 ∨ imgSections b = 0 ∨ 64 < imgSections b then 2
  else if fieldAt b 60 4 ≠ crc32c (b.take 60) then 3
  else if imgLimit < imgBytes b ∨ b.length < imgBytes b ∨ imgBytes b < headEnd + 4 + (if imgSigned b then 193 else 0) then 4
  else if t.any (fun x => decide (imgCrcAt b < x.offset + x.length) || decide (x.offset < headEnd)) then 4
  else if t.any (fun x => (x.type != 1 && x.type != 2) || x.offset % 8 != 0) || (t.filter (fun x => x.type == 1)).length != 1 then 2
  else if t.any (fun x => crc32c (x.bytes b) != x.crc) then 5
  else if fieldAt b (imgCrcAt b) 4 ≠ crc32c (b.take (imgCrcAt b)) then 6
  else 0

namespace State

/-- The first failing check of an image (R550), 0 for none. The key's hash and the two signatures are judged outside.
Log: 186 (DEDUCED). -/
def imgError (s : State) (b : List Byte) (keyGood signatureGood firmwareGood : Bool) : Nat :=
  let f := imgForm b
  if f ≠ 0 then f
  else if imgSigned b ∧ (!keyGood ∨ !s.flag Reg.FUSE_STATUS Fld.FUSE_STATUS_OWNER_SET) then 7
  else if imgSigned b ∧ !signatureGood then 8
  else if !imgSigned b ∧ s.flag Reg.FUSE_STATUS Fld.FUSE_STATUS_REQUIRE_SIGNED then 9
  else if !firmwareGood then 10
  else if (imgPairs b).any (fun p => !pairAllowed p.1) then 11
  else 0

/-- The stage, GLB_STATUS.STAGE. -/
def stage (s : State) : Nat := s.get Reg.GLB_STATUS Fld.GLB_STATUS_STAGE

/-- The device halts (R546). -/
def halt (s : State) : State := s.set Reg.GLB_STATUS Fld.GLB_STATUS_STATE 3

/-- One pair: applied, or skipped where it is addressed to an island that a reset kept (R561). -/
def applyPair (x : State × Nat) (p : Nat × Nat) : State × Nat :=
  if x.1.sys.keptReset && (islandReg p.1 || dac0Reg p.1) then (x.1, x.2 + 1) else (x.1.fullWrite .housekeeping p.1 p.2, x.2)

/-- A checked image passes to the firmware stage (R550, R552, R561); source 0 slot 0, 1 slot 1, 2 host. -/
def imagePassed (s : State) (b : List Byte) (source : Nat) : State :=
  let s := (s.set Reg.GLB_BOOT_INFO Fld.GLB_BOOT_INFO_SOURCE source).setFlag Reg.GLB_BOOT_INFO Fld.GLB_BOOT_INFO_BOOTED true
  let s := s.wrPair Reg.WEAVE_DIGEST_LO Reg.WEAVE_DIGEST_HI (fieldAt b 16 8)
  let s : State := { s with sys := { s.sys with configWait := false, autoCommit := imgAuto b, imageSeq := fieldAt b 24 4 } }
  let s := if imgEwesen b then
      (s.setFlag Reg.GLB_COMPAT Fld.GLB_COMPAT_EWESEN true).setFlag Reg.GLB_STATUS Fld.GLB_STATUS_EWESEN true
    else s
  let (s, skipped) := (imgPairs b).foldl applyPair (s, 0)
  let s := s.set Reg.GLB_BOOT_INFO Fld.GLB_BOOT_INFO_SKIPPED (satU 16 skipped)
  let s := s.raiseIf (decide (0 < skipped)) Ev.GLB_ISLAND_KEPT (satU 16 skipped)
  let s := s.raiseIf (source == 1) Ev.GLB_BOOT_SLOT (s.get Reg.GLB_BOOT_ERR Fld.GLB_BOOT_ERR_SLOT0)
  if s.stage = 2 then s.set Reg.GLB_STATUS Fld.GLB_STATUS_STAGE 3 else s

/-- A flash slot has been read and checked (R552): slot 0 first, then slot 1, then the wait for a host boot. -/
def slotChecked (s : State) (b : List Byte) (keyGood signatureGood firmwareGood : Bool) : State :=
  if s.stage ≠ 2 ∨ s.sys.configWait then s
  else
    let second : Bool := s.get Reg.GLB_BOOT_ERR Fld.GLB_BOOT_ERR_SLOT0 ≠ 0
    let e := s.imgError b keyGood signatureGood firmwareGood
    if e = 0 then s.imagePassed b (b2n second)
    else if second then
      let s := s.set Reg.GLB_BOOT_ERR Fld.GLB_BOOT_ERR_SLOT1 e
      { s with sys := { s.sys with configWait := true } }
    else s.set Reg.GLB_BOOT_ERR Fld.GLB_BOOT_ERR_SLOT0 e

/-- The host image ends (R553, R602): GO and BUSY clear. -/
def hostBootEnd (s : State) (e : Nat) : State :=
  let s := (s.setFlag Reg.GLB_BOOT_CTL Fld.GLB_BOOT_CTL_GO false).setFlag Reg.GLB_BOOT_CTL Fld.GLB_BOOT_CTL_BUSY false
  s.set Reg.GLB_BOOT_ERR Fld.GLB_BOOT_ERR_HOST e

/-- The code of a host image that could not be read: not stated, so a free code other than 0. Log: 116 (DEDUCED), 186 (DEDUCED). -/
def hostBootFailed (s : State) : State :=
  let (e, s) := s.free 255
  s.hostBootEnd (e + 1)

/-- The boot ROM's read of the host image through DMA port 0 (R553): it needs Bus Master Enable (R390) and meets R364 and R365. -/
def hostImage (s : State) (image : HostRead) (keyGood signatureGood firmwareGood : Bool) : State :=
  if s.stage ≠ 2 ∨ !s.flag Reg.GLB_BOOT_CTL Fld.GLB_BOOT_CTL_GO then s
  else if imgLimit < s.full Reg.GLB_BOOT_LEN then s.hostBootEnd 4
  else if !s.flag Reg.DMA_PCIE_STATUS Fld.DMA_PCIE_STATUS_BUS_MASTER then
    (s.decodeError 1 1 (s.pair Reg.GLB_BOOT_ADDR_LO Reg.GLB_BOOT_ADDR_HI) false).hostBootFailed
  else match image with
    | .timeout => ((s.count (Reg.DMA_COUNT 0)).raise Ev.DMA_TIMEOUT).hostBootFailed
    | .bus => ((s.count (Reg.DMA_COUNT 1)).raise Ev.DMA_BUS).hostBootFailed
    | .data bs =>
      let b := bs.take (s.full Reg.GLB_BOOT_LEN)
      let e := s.imgError b keyGood signatureGood firmwareGood
      if e = 0 then (s.hostBootEnd 0).imagePassed b 2 else s.hostBootEnd e

/-! ### Fuses (R548) -/

/-- Which fused latencies the rate and FEC of ETH_MGMT select (R441). Log: 190 (DEDUCED). -/
def ptpIndex (s : State) : Nat :=
  if s.flag Reg.ETH_MGMT Fld.ETH_MGMT_RATE then 3 else min (s.get Reg.ETH_MGMT Fld.ETH_MGMT_FEC) 2

/-- The fused latencies of an index as the word of TIME_PTP_LAT. -/
def ptpWord (s : State) (i : Nat) : Nat :=
  let (tx, rx) := s.fuses.ptp.getD i (0, 0)
  tx % 2 ^ 16 + rx % 2 ^ 16 * 2 ^ 16

/-- Identity, keys and options into the FUSE and DBG registers (R548, R582). Log: 190 (DEDUCED). -/
def loadIdentity (s : State) (corrected : Nat) : State :=
  let f := s.fuses
  let s := s.wrN Reg.FUSE_STATUS (f.variant % 2 + f.rev % 16 * 2 ^ 4 + b2n f.ownerSet * 2 ^ 8 + b2n f.requireSigned * 2 ^ 9
    + b2n f.dbgLocked * 2 ^ 10 + corrected % 256 * 2 ^ 11)
  let s := s.wrPair Reg.FUSE_SERIAL_LO Reg.FUSE_SERIAL_HI f.serial
  let s := s.each (List.range 12) (fun s w => s.wrN (Reg.FUSE_OWNER_HASH w) (f.ownerHash.getD w 0))
  if s.get Reg.DBG_LOCK Fld.DBG_LOCK_STATE = 3 then s
  else s.set Reg.DBG_LOCK Fld.DBG_LOCK_STATE (if f.dbgLocked then 0 else 2)

/-- Lane seeds (R52, R53), AVS limits (R467), latencies of the management lane (R441). -/
def loadSeeds (s : State) : State :=
  let s := s.each s.fuses.laneCfg (fun s e =>
    let a := Reg.LANE_CFG e.1
    let w : Word := BitVec.ofNat 32 e.2
    (s.set a Fld.LANE_CFG_TX_PRE (Fld.LANE_CFG_TX_PRE.of w)).set a Fld.LANE_CFG_TX_POST (Fld.LANE_CFG_TX_POST.of w))
  let s := s.each s.fuses.laneEq (fun s e => s.set (Reg.LANE_EQ e.1) ⟨0, 22⟩ e.2)
  let s := s.each (List.range 5) (fun s a =>
    let lo := if a = 4 then s.fuses.vddC else s.fuses.vMin
    let hi := if a = 4 then s.fuses.vddC else s.fuses.vMax
    (s.set (Reg.AVS_RAIL a) Fld.AVS_RAIL_V_MIN_MV lo).set (Reg.AVS_RAIL a) Fld.AVS_RAIL_V_MAX_MV hi)
  if s.sys.keptReset then s
  else ({ s with sys := { s.sys with ptpSel := 2 } } : State).timePut Reg.TIME_PTP_LAT (s.ptpWord 2)

/-- The spare map (R178): furrows retired in production, then 65 in service and 3 spares in each field. -/
def loadFurrows (s : State) : State :=
  s.each (List.range 272) (fun s i =>
    let a := Reg.CORR_FURROW (i / 68) (i % 68)
    if s.fuses.spares.contains i then (s.set a Fld.CORR_FURROW_STATE 6).set a Fld.CORR_FURROW_CAUSE 3
    else if 65 ≤ i % 68 then s.set a Fld.CORR_FURROW_STATE 1
    else s)

/-- The fuse stage ends (R548): the groups are loaded and the boot ROM goes on to CONFIG, where a high BOOT_SRC waits for the host.
Log: 189 (DEDUCED). -/
def fusesLoaded (s : State) (corrected : Nat) : State :=
  let s := ((s.loadIdentity corrected).loadSeeds).loadFurrows
  let s := if s.sys.dacOn then s else ({ s with sys := { s.sys with dacOn := true } } : State).dacPowerUp
  let s := s.set Reg.GLB_STATUS Fld.GLB_STATUS_STAGE 2
  { s with sys := { s.sys with configWait := s.flag Reg.GLB_STRAP Fld.GLB_STRAP_BOOT_SRC } }

/-! ### Firmware, results and lanes (R387, R544, R547) -/

/-- The firmware stage fails (R547). -/
def firmwareFailed (s : State) (cause : Nat) : State :=
  let s := s.set Reg.GLB_BOOT_ERR Fld.GLB_BOOT_ERR_FW cause
  (s.setFlag Reg.GLB_STATUS Fld.GLB_STATUS_FW_ERR true).halt

/-- Is the firmware stage in progress? -/
def firmwareStage (s : State) : Bool := s.stage == 3 && !s.halted

/-- One stack's training result. -/
def stackTrained (s : State) (st : Nat) (good : Bool) (attempts : Nat) : State :=
  let a := Reg.HBM_STACK st
  let s := (s.setFlag a Fld.HBM_STACK_TRAINED good).set a Fld.HBM_STACK_ATTEMPTS attempts
  let m := s.get Reg.HBM_STATUS Fld.HBM_STATUS_TRAINED
  if good then s.set Reg.HBM_STATUS Fld.HBM_STATUS_TRAINED (Nat.lor m (2 ^ st)) else s.raise Ev.HBM_TRAIN_FAIL st

/-- Training ends (R387). A stack without a result has failed its three attempts. Log: 190 (DEDUCED). -/
def trainingEnd (s : State) (results : List (Bool × Nat)) : State :=
  let s := s.each (List.range 6) (fun s st => let r := results.getD st (false, 3); s.stackTrained st r.1 r.2)
  let s := s.setFlag Reg.HBM_STATUS Fld.HBM_STATUS_ALL_TRAINED (s.get Reg.HBM_STATUS Fld.HBM_STATUS_TRAINED = 63)
  s.set Reg.GLB_STATUS Fld.GLB_STATUS_STAGE 5

/-- READY (R544, R551): the device is IDLE; with AUTO_COMMIT it commits. -/
def becomeReady (s : State) : State :=
  let s : State := { s with pins := { s.pins with ready := true }, sys := { s.sys with keptReset := false } }
  let s := (s.set Reg.GLB_STATUS Fld.GLB_STATUS_STAGE 6).setFlag Reg.GLB_STATUS Fld.GLB_STATUS_READY true
  let s := s.set Reg.GLB_STATUS Fld.GLB_STATUS_STATE 1
  let s := s.raise Ev.GLB_READY (s.get Reg.GLB_BOOT_INFO Fld.GLB_BOOT_INFO_SOURCE)
  if s.sys.autoCommit then s.commitStart else s

end State

/-- FUSE_STAGE_END (R548): corrected words, and whether a word was beyond correction. -/
def execFuseStageEnd (corrected : Fin 256) (uncorrectable : Bool) (s : State) : Result :=
  ok (if s.stage ≠ 1 ∨ s.halted then s
      else if uncorrectable then (s.setFlag Reg.GLB_STATUS Fld.GLB_STATUS_FUSE_ERR true).halt
      else s.fusesLoaded corrected)

/-- CONFIG_IMAGE_CHECKED (R550, R552). Log: 188 (DESIGN CHOICE). -/
def execConfigImageChecked (image : List Byte) (keyGood signatureGood firmwareGood : Bool) (s : State) : Result :=
  ok (s.slotChecked image keyGood signatureGood firmwareGood)

/-- HOST_IMAGE_READ_END (R553). -/
def execHostImageReadEnd (image : HostRead) (keyGood signatureGood firmwareGood : Bool) (s : State) : Result :=
  ok (s.hostImage image keyGood signatureGood firmwareGood)

/-- FIRMWARE_STARTED (R544, R547): the copy and the self-test have passed, or the stage fails. SWAP belongs to the stage.
Log: 7 (DESIGN CHOICE), 188 (DESIGN CHOICE), 198 (DESIGN CHOICE). -/
def execFirmwareStarted (version : BitVec 16) (copyGood selfTestGood : Bool) (s : State) : Result :=
  ok (if !s.firmwareStage then s
      else if !copyGood then s.firmwareFailed 1
      else if !selfTestGood then s.firmwareFailed 3
      else
        let s := ({ s with sys := { s.sys with fwUp := true } } : State).remapSwap
        let s := s.wrN Reg.HKC_STATUS (1 + version.toNat * 2 ^ 16)
        s.set Reg.GLB_STATUS Fld.GLB_STATUS_STAGE 4)

/-- FIRMWARE_TIMEOUT (R547). -/
def execFirmwareTimeout (s : State) : Result := ok (if s.firmwareStage then s.firmwareFailed 2 else s)

/-- HBM_TRAINING_END (R387): per stack, whether it is trained and after how many attempts. -/
def execHbmTrainingEnd (results : List (Bool × Fin 4)) (s : State) : Result :=
  ok (if s.stage = 4 ∧ !s.halted then s.trainingEnd (results.map (fun x => (x.1, x.2.val))) else s)

/-- LANES_STAGE_END (R544): the lane groups whose calibration failed. -/
def execLanesStageEnd (failed : BitVec 12) (s : State) : Result :=
  ok (if s.stage = 5 ∧ !s.halted then
        ({ s with sys := { s.sys with groupFailed := (List.range 12).filter (bitAt failed.toNat) } } : State).becomeReady
      else s)

end Sys2Proof.Machine
end

