-- ==== Sys2Proof/Machine/Checks.lean ====
section
/-! DEFINITION. The commit checks of R554 and R579, chapter by chapter, over a trial state that holds the requested mode, width and
placement, and the results that a commit computes. A failure is (register block of R577, code). A block that is not enabled is not
checked. -/

namespace Sys2Proof.Machine

/-! ### Rates as fractions -/

/-- A non-negative rational. -/
structure Frac where
  num : Nat
  den : Nat
deriving DecidableEq, Repr

/-- Sum. -/
def Frac.add (a b : Frac) : Frac := if a.den = b.den then ⟨a.num + b.num, a.den⟩ else ⟨a.num * b.den + b.num * a.den, a.den * b.den⟩

/-- Sum of a list. -/
def Frac.sum (l : List Frac) : Frac := l.foldl Frac.add ⟨0, 1⟩

/-- Does it exceed a whole number? -/
def Frac.above (a : Frac) (n : Nat) : Bool := n * a.den < a.num

/-- Scaled by n / d and rounded up. -/
def Frac.ceil (a : Frac) (n d : Nat) : Nat := ceilDiv (a.num * n) (a.den * d)

/-- A failure if a condition holds. -/
def failIf (c : Bool) (block code : Nat) : List (Nat × Nat) := if c then [(block, code)] else []

/-- Do two address ranges (base, size) meet? -/
def overlap (a b : Nat × Nat) : Bool := decide (0 < a.2) && decide (0 < b.2) && decide (a.1 < b.1 + b.2) && decide (b.1 < a.1 + a.2)

/-- Does a list hold two different places with equal values? -/
def repeats : List Nat → Bool
  | [] => false
  | a :: l => l.contains a || repeats l

/-- Bytes rounded up to whole MiB. -/
def mibUp (n : Nat) : Nat := ceilDiv n (2 ^ 20)

/-- Is a number outside a range? -/
def outside (v lo hi : Nat) : Bool := decide (v < lo) || decide (hi < v)

/-- Payload of a stream: bytes of one sheaf index over all its inputs and channels. -/
def StreamDef.area (d : StreamDef) : Nat := d.count * d.chCount * (if d.fmt8 then 2 else 1)

namespace State

/-- A ring that is not a delivery ring. -/
def notDelivery (s : State) (r : Nat) : Bool := s.ringType r != 1

/-! ### Placement (R178) -/

/-- Is a furrow retired by fuse, or by CORR_RETIRE_MASK? -/
def furFused (s : State) (f : Nat) : Bool := s.fuses.spares.contains f
def furMasked (s : State) (f : Nat) : Bool := bitAt (s.full (Reg.CORR_RETIRE_MASK (f / 68) (f % 68 / 32))) (f % 68 % 32)
def furGone (s : State) (f : Nat) : Bool := s.furFused f || s.furMasked f

/-- Spares of a field that are promoted: the lowest-numbered, until 65 furrows are in service. -/
def promoted (s : State) (m : Nat) : List Nat :=
  let missing := ((List.range 65).filter (fun f => s.furGone (68 * m + f))).length
  (([65, 66, 67].map (· + 68 * m)).filter (fun f => !s.furGone f)).take missing

/-- Is a furrow in service at commit? -/
def furServes (s : State) (f : Nat) : Bool := !s.furGone f && (decide (f % 68 < 65) || (s.promoted (f / 68)).contains f)

/-- The placement list: by furrow number, then by field. -/
def placement (s : State) : List Nat :=
  ((List.range 68).flatMap (fun f => (List.range 4).map (fun m => 68 * m + f))).filter s.furServes

/-- The state on which the checks are made: the requested mode, position, sample width, links and placement. -/
def trial (s : State) : State :=
  let t := s.set Reg.GLB_STATUS Fld.GLB_STATUS_MODE (s.get Reg.GLB_PROFILE Fld.GLB_PROFILE_MODE)
  let t := t.set Reg.GLB_STATUS Fld.GLB_STATUS_WEAVE_POS (s.get Reg.WEAVE_CFG Fld.WEAVE_CFG_POS)
  let t := (t.setFlag Reg.INGEST_CTL Fld.INGEST_CTL_WIDTH8 (s.flag Reg.CORR_CFG Fld.CORR_CFG_WIDTH8)).latchLinks.latchUnit
  { t with corr := { list := s.placement } }

/-! ### GLB and AVS (R564, R578, R579) -/

def glbChecks (s : State) : List (Nat × Nat) :=
  failIf (decide (s.mode = 3) || decide (s.positions ≤ s.pos)) 0 Code.GLB_MODE
  ++ failIf (s.ewesen && (decide (s.mode ≠ 0) || s.flag Reg.TWIN_CFG Fld.TWIN_CFG_ENABLE || s.flag Reg.WEAVE_CFG Fld.WEAVE_CFG_EXPORT
      || s.flag Reg.WEAVE_CFG Fld.WEAVE_CFG_EXPORT_LEAD || decide (1024 < s.nAll))) 0 Code.EWESEN_RANGE

def avsChecks (s : State) : List (Nat × Nat) :=
  let f (x : Fld) : Nat := s.get Reg.AVS_CFG x
  failIf (decide (f Fld.AVS_CFG_S_HI ≤ f Fld.AVS_CFG_S_LO) || outside (f Fld.AVS_CFG_PERIOD) 10 1000 || outside (f Fld.AVS_CFG_DROOP_MV) 5 127)
    25 Code.AVS_RANGE

/-! ### Lanes (R45–R47, R50, R72, R544) -/

/-- Enabled links and a link's width. -/
def links (s : State) : List Nat := (List.range 96).filter s.linkOn

/-- A field of a link outside its range, or a place that R72 forbids. Log: 192 (DEDUCED). -/
def linkBad (s : State) (k : Nat) : Bool :=
  let w := s.linkWidth k
  outside w 1 16 || decide (1 < s.get (Reg.LANE_LINK_CFG k) Fld.LANE_LINK_CFG_PROFILE)
    || (decide (w ≤ 8) && decide (8 < k % 8 + w)) || (decide (8 < w) && decide (k % 16 ≠ 0))
    || (s.linkBidir k && decide (s.get (Reg.LANE_LINK_CFG k) Fld.LANE_LINK_CFG_WINDOW < 16))
    || decide (s.get (Reg.LANE_LINK_TIMER k) Fld.LANE_LINK_TIMER_REPLAY_TIMEOUT = 0)
    || decide (s.get (Reg.LANE_LINK_TIMER k) Fld.LANE_LINK_TIMER_RETRY_LIMIT = 0)

/-- May a lane group carry a link of a profile in the committed mode (R45)? -/
def groupAllows (s : State) (bidir : Bool) (g : Nat) : Bool :=
  let ingest := if s.mode = 0 then 8 else if s.mode = 1 then 4 else 2
  if bidir then
    (decide (ingest ≤ g) && decide (g < 8)) || g == 11
      || (g == 10 && s.mode == 0 && (s.flag Reg.WEAVE_CFG Fld.WEAVE_CFG_EXPORT || s.flag Reg.WEAVE_CFG Fld.WEAVE_CFG_EXPORT_LEAD))
  else decide (g < ingest)

/-- Lane groups that a link occupies. -/
def linkGroups (s : State) (k : Nat) : List Nat := ((List.range (s.linkWidth k)).map (fun i => (k + i) / 8)).eraseDups

/-- Is a link's LINK_ID one of the weave's (R502)? -/
def weaveId (s : State) (k : Nat) : Bool := decide (0xA00 ≤ s.linkId k) && decide (s.linkId k < 0xA20)

/-- Lane groups of the weave links to a position (R45): in a quad, two groups for each partner in ascending order of position from group 2
on; in a pair, groups 4 to 7; of a device that exports partial beams, group 10. Log: 207 (DEDUCED). -/
def partnerGroups (s : State) (q : Nat) : List Nat :=
  match s.mode with
  | 0 => [10]
  | 1 => [4, 5, 6, 7]
  | _ =>
    let g := 2 + 2 * (((List.range 4).filter (fun p => p != s.pos)).idxOf q)
    [g, g + 1]

/-- A bidirectional link on lane groups of another function or partner (R45, R47): a weave link lies on its partner's groups and no other
link does, and a lane group carries the links of one partner. Log: 207 (DEDUCED). -/
def weaveMisplaced (s : State) (k : Nat) : Bool :=
  s.linkBidir k && (if s.weaveId k then (s.linkGroups k).any (fun g => !(s.partnerGroups (s.linkPeer k)).contains g)
    else (s.linkGroups k).any (fun g => decide (s.mode ≠ 0) && decide (g < 8)))

/-- SPLIT of a quad, lane quads in use, and the lane groups of the Ethernet ports (R306). -/
def quadSplit (s : State) (u : Nat) : Nat := s.get Reg.ETH_CFG Fld.ETH_CFG_SPLIT / 4 ^ u % 4
def quads (s : State) : List Nat :=
  if s.flag Reg.ETH_CFG Fld.ETH_CFG_ENABLE then (List.range 4).filter (fun u => s.quadSplit u != 3) else []

def laneChecks (s : State) : List (Nat × Nat) :=
  let ls := s.links
  let rate (l : Nat) : Nat := s.get (Reg.LANE_CFG l) Fld.LANE_CFG_RATE
  let lanes (k : Nat) : List Nat := (List.range (s.linkWidth k)).map (· + k)
  let misplaced : Bool := ls.any (fun k => (s.linkGroups k).any (fun g => !s.groupAllows (s.linkBidir k) g)
    || ((s.linkGroups k).contains 10 && (s.linkGroups k).contains 11) || s.weaveMisplaced k)
  let broken : Bool := (ls.flatMap s.linkGroups ++ s.quads.map (fun u => 8 + u / 2)).any s.sys.groupFailed.contains
  failIf (ls.any s.linkBad || repeats (ls.flatMap lanes) || misplaced || broken) 2 Code.LANE_CONFLICT
  ++ failIf (ls.any (fun k => (lanes k).any (fun l => decide (2 ≤ rate l) || rate l != rate k))
      || (List.range 96).any (fun l => decide (2 ≤ rate l) && decide (s.get (Reg.LANE_CFG l) Fld.LANE_CFG_TEST = 0))) 2 Code.LANE_RATE

/-! ### Ingest (R85–R87, R100, R104, R108, R564, R572) -/

/-- A slice that breaks R85, a link that is not an enabled ingest link, or a payload beyond one packet. Log: 180 (DEDUCED). -/
def sliceBad (s : State) (d : StreamDef) : Bool :=
  decide (d.si % 16 ≠ 0) || outside d.si 16 4096 || outside d.sc 1 4096 || outside d.ss 1 64 || decide (d.count % d.si ≠ 0) || outside d.count 16 8192
    || decide (d.chCount % d.sc ≠ 0) || outside d.chCount 1 4096 || !s.linkOn d.link || s.linkBidir d.link || decide (2097088 < declared d)

/-- The part of the committed plane that a stream covers: its direct inputs below N times its channels. -/
def covered (s : State) (d : StreamDef) : Nat :=
  ((List.range d.count).filter (fun i => s.isDirect (d.first + i) && decide (d.first + i < s.nAll))).length * d.chCount

/-- Do two streams share an (input, channel) pair? -/
def streamsMeet (a b : StreamDef) : Bool :=
  decide (a.first < b.first + b.count) && decide (b.first < a.first + a.count) && decide (a.chFirst < b.chFirst + b.chCount)
    && decide (b.chFirst < a.chFirst + a.chCount)

/-- Every direct pair of the plane covered once, and nothing else (R87). Log: 192 (DEDUCED). -/
def coverBad (s : State) : Bool :=
  let ls := s.localStreams
  let need := (s.directPlanes.map (fun p => min s.planeSize (s.nAll - 4096 * p))).sum * s.cAll
  ls.any (fun d => decide (d.first < 4096 * s.p0) || decide (4096 * s.p0 + s.nDirect < d.first + d.count)
      || decide (s.cAll < d.chFirst + d.chCount) || (s.ewesen && decide (1024 ≤ d.first)))
    || ls.any (fun d => ls.any (fun e => decide (d.key < e.key) && streamsMeet d e))
    || (ls.map s.covered).sum != need

def ingestChecks (s : State) : List (Nat × Nat) :=
  let wait := s.get Reg.INGEST_ALIGN Fld.INGEST_ALIGN_WAIT
  failIf (outside s.nAll 16 16384 || outside s.cAll 16 4096 || decide (1000000000 ≤ s.full Reg.INGEST_EPOCH_NS)
      || decide (emptyKey ≤ s.startIndex)) 3 Code.INGEST_MAP
  ++ failIf (outside wait 1 4000 || decide (s.get Reg.INGEST_ALIGN Fld.INGEST_ALIGN_DEAD_COUNT = 0)) 3 Code.INGEST_SKEW
  ++ failIf (decide (s.bHz = 0)) 3 Code.INGEST_BUDGET
  ++ (
    let ls := s.localStreams
    let total := (ls.map StreamDef.area).sum
    let perLink (k : Nat) : Frac := Frac.sum ((ls.filter (fun d => d.link == k && declared d != 0)).map (fun d =>
      ⟨d.area * 8 * s.bHz * (declared d + 96), max 1 s.cAll * max 1 (declared d)⟩))
    let room (k : Nat) : Bool := decide (s.linkWidth k * 100000000000 * 327679 * (perLink k).den < (perLink k).num * 327680)
    failIf s.coverBad 3 Code.INGEST_MAP
    ++ failIf (ls.any s.sliceBad) 3 Code.INGEST_SLICE
    ++ failIf ((s.flag Reg.INGEST_CTL Fld.INGEST_CTL_CORR_BRANCH && decide (s.get Reg.INGEST_RESERVE Fld.INGEST_RESERVE_CORR_MIB < 2))
        || (s.flag Reg.INGEST_CTL Fld.INGEST_CTL_GLEAN_BRANCH && decide (s.get Reg.INGEST_RESERVE Fld.INGEST_RESERVE_GLEAN_MIB < 2))
        || decide (s.storeRoom * s.cAll * 100000000 < wait * total * s.bHz)) 3 Code.INGEST_SKEW
    ++ failIf (s.width8 && ls.any (fun d => !d.fmt8)) 3 Code.INGEST_FORMAT
    ++ failIf (s.links.any room || decide (6270000000000 * s.cAll < total * 8 * s.bHz)) 3 Code.INGEST_BUDGET)

/-! ### Harrow and weeder (R109, R132, R134, R135, R137, R142) -/

/-- The harrow's checks hold at every commit, over the slots whose ENABLE is set. Log: 175 (DEDUCED). -/
def harrowChecks (s : State) : List (Nat × Nat) :=
  let zs := (List.range 64).filter (fun z => s.flag (Reg.HARROW_ZOOM z) Fld.HARROW_ZOOM_ENABLE)
  let top := (zs.getLast?.map (· + 1)).getD 0
  failIf (outside (s.get Reg.HARROW_CFG Fld.HARROW_CFG_LOG2M) 4 12
      || (List.range 64).any (fun z => outside (s.get (Reg.HARROW_ZOOM z) Fld.HARROW_ZOOM_DC_K) 8 20)
      || (decide (s.get Reg.HARROW_POWER Fld.HARROW_POWER_LEN ≠ 0) && s.notDelivery (s.get Reg.HARROW_POWER Fld.HARROW_POWER_RING))
      || repeats (zs.map s.zoomCoarse) || zs.any (fun z => decide (s.cAll ≤ s.zoomCoarse z))
      || decide (16384 < s.fineTaps * s.fineM) || decide (4096 < s.cAll + top * s.fineM)) 4 Code.HARROW_RANGE
  ++ failIf (if s.ewesen then decide (1024 < s.fineM) else s.flag Reg.HARROW_CFG Fld.HARROW_CFG_PROTO) 4 Code.HARROW_PROTO
  ++ failIf (decide (48000000000 * s.cAll < zs.length * s.nDirect * s.bHz)) 4 Code.HARROW_RATE

def weedChecks (s : State) : List (Nat × Nat) :=
  failIf (outside (s.get Reg.WEED_CFG Fld.WEED_CFG_LOG2_LEN) 4 10 || (s.weedOn && decide (s.turnT % s.skLen ≠ 0))) 5 Code.WEED_LEN
  ++ failIf ((s.flag Reg.WEED_CFG Fld.WEED_CFG_SHEAF_EN && decide (s.get Reg.WEED_THRESH Fld.WEED_THRESH_K_P = 0))
      || decide (s.get Reg.WEED_LIMIT Fld.WEED_LIMIT_M_HI < s.get Reg.WEED_LIMIT Fld.WEED_LIMIT_M_LO)
      || (s.flag Reg.WEED_REPORT Fld.WEED_REPORT_EN && s.notDelivery (s.get Reg.WEED_REPORT Fld.WEED_REPORT_RING))) 5 Code.WEED_RANGE

/-! ### Regions of HBM (R168, R217, R218, R272, R528) -/

def turnOn (s : State) : Bool := s.flag Reg.TURN_CFG Fld.TURN_CFG_ENABLE
def granOn (s : State) : Bool := s.flag Reg.GRAN_CFG Fld.GRAN_CFG_ENABLE
def groups (s : State) : List Nat := (List.range 8).filter s.grpOn

/-- Bytes of the turning region. -/
def turnBytes (s : State) : Nat :=
  if s.turnOn then
    s.corrChans.length * (s.turnRing * s.slotBytes + (if s.weedOn then s.planeRing * s.planeBytes else 0))
  else 0

/-- W_g in bytes, and the per-channel term Q_g of R217. -/
def grpW (s : State) (g : Nat) : Nat := if s.grpDeep g then 16 else 8
def grpQ (s : State) (g : Nat) : Nat :=
  let r64 (n : Nat) : Nat := ceilDiv n 64 * 64
  s.grpW g * s.nVis + r64 (ceilDiv s.nVis 4) + r64 (4 * s.nHeld) + r64 (ceilDiv s.nTiles 8) + 64

/-- Bytes of the granary region, in whole MiB. Log: 178 (DEDUCED). -/
def granBytes (s : State) : Nat := mibUp ((s.groups.map (fun g => 2 * s.grpCount g * s.grpQ g)).sum) * 2 ^ 20

/-- Bytes of the glean region (R272). -/
def gleanBytesAll (s : State) : Nat := s.gleanMax * (s.gleanNi * s.gleanW + s.gleanE)

/-- Base of the granary region. -/
def granBase (s : State) : Nat :=
  s.get Reg.GRAN_BASE_LO Fld.GRAN_BASE_LO_BASE * 2 ^ 20 + s.get Reg.GRAN_BASE_HI Fld.GRAN_BASE_HI_BASE * 2 ^ 32

/-! ### Class 0 on the ports (R260, R265, R267, R306, R319, R320) -/

/-- The ports that exist: rate in Gb/s, in ascending order of their first lane. -/
def portRates (s : State) : List Nat :=
  s.quads.flatMap (fun u => match s.quadSplit u with
    | 0 => [400]
    | 1 => [200, 200]
    | _ => [100, 100, 100, 100])

/-- The ports of a stream's set as the registers ask for them. -/
def portsAsked (s : State) (i : Nat) : List Nat :=
  (List.range 16).filter (fun p => bitAt (s.get (Reg.ETH_STR_CFG i) Fld.ETH_STR_CFG_PORTS) p)

/-- The port of a class 0 stream: the only one of its set. -/
def streamPort (s : State) (i : Nat) : Nat := (s.portsAsked i).headD 16

/-- Voltage sources whose stream is on a port. -/
def portSources (s : State) (p : Nat) : List Nat :=
  s.voltSources.filter (fun q => s.streamPort (s.get (Reg.BEAM_DEST q) Fld.BEAM_DEST_VSTREAM) == p)

/-- Is the trigger stream on a port? -/
def portTriggers (s : State) (p : Nat) : Bool := s.peakOn && s.streamPort (s.get Reg.BEAM_OUT Fld.BEAM_OUT_TRIG_STREAM) == p

/-- Does a port carry class 0? -/
def portHasC0 (s : State) (p : Nat) : Bool := !(s.portSources p).isEmpty || s.portTriggers p

def spf (s : State) : Nat := s.get Reg.BEAM_FRAME Fld.BEAM_FRAME_SPF

/-- Wire bytes of a full voltage frame. -/
def frameWire (s : State) : Nat := 32 + 40 * s.spf + 86

/-- Sheaves per second of a set of channels, as units of B / (C × M). -/
def rateUnits (s : State) (chs : List Nat) : Nat := (chs.map (fun c => if c < s.cAll then s.fineM else 1)).sum
def chanRate (s : State) (chs : List Nat) : Frac := ⟨s.rateUnits chs * s.bHz, max 1 (s.cAll * s.fineM)⟩

/-- R_b: sheaf rate of the channels selected in BEAM_SEL. -/
def beamRate (s : State) : Frac := s.chanRate s.beamChans

/-- Offset of a voltage source in ordinals. -/
def sourceOffset (s : State) (q : Nat) : Nat := s.voltSources.findIdx (fun x => x == q) * s.spf / s.voltSources.length

/-- W = ceil(t_c0 × R_b) on a port of a rate in Gb/s. -/
def portW (s : State) (rate : Nat) : Nat := s.beamRate.ceil (s.frameWire * 8) (rate * 1000000000)

/-- A_p of R265. -/
def portA (s : State) (p rate : Nat) : Nat :=
  let w := s.portW rate
  let qs := s.portSources p
  (qs.map (fun q => (qs.filter (fun r => r != q && decide ((s.sourceOffset q + s.spf - s.sourceOffset r % max 1 s.spf) % max 1 s.spf ≤ w))).length)).foldl max 0

/-- Enabled stream entries, and those of class 1–3 on a port. -/
def streamsOn (s : State) : List Nat := (List.range 4096).filter (fun i => s.flag (Reg.ETH_STR_CFG i) Fld.ETH_STR_CFG_ENABLE)
def strClass (s : State) (i : Nat) : Nat := s.get (Reg.ETH_STR_CFG i) Fld.ETH_STR_CFG_CLASS
def portLower (s : State) (p : Nat) : Bool := s.streamsOn.any (fun i => s.strClass i != 0 && (s.portsAsked i).contains p)

/-- L_p of R265 in ns, rounded up. -/
def portBound (s : State) (p rate : Nat) : Nat :=
  410 + ceilDiv (8 * (s.portA p rate * s.frameWire + (if s.portTriggers p then 118 else 0) + (if s.portLower p then 2048 else 0))) rate

/-- BEAM_LAT_BOUND.NS (R265, R267). Log: 103 (DEDUCED). -/
def latBound (s : State) : Nat :=
  let m := ((s.portRates.zipIdx.filter (fun x => s.portHasC0 x.2)).map (fun x => s.portBound x.2 x.1)).foldl max 0
  if m = 0 then 0 else if s.mode = 2 then m + 400 else m

/-- The largest accepted bound. -/
def latLimit (s : State) : Nat := if s.mode = 2 then 1600 else 800

/-- Tr_p: triggers per second of the trigger stream (R319). -/
def triggerRate (s : State) : Frac :=
  let h := s.get Reg.BEAM_PEAK_CFG Fld.BEAM_PEAK_CFG_HOLDOFF
  if h = 0 then
    ⟨(if s.detMode = 1 then 16 else 8) * s.beamSources.length * s.beamRate.num, s.beamRate.den * max 1 (s.get Reg.BEAM_DET Fld.BEAM_DET_DINT)⟩
  else ⟨s.bHz, max 1 s.cAll * h⟩

/-- R0_p in bits per second. -/
def portC0 (s : State) (p : Nat) : Frac :=
  Frac.add ⟨(s.portSources p).length * s.beamRate.num * s.frameWire * 8, s.beamRate.den * max 1 s.spf⟩
    (if s.portTriggers p then ⟨s.triggerRate.num * 944, s.triggerRate.den⟩ else ⟨0, 1⟩)

/-- C0_USE: R0_p in units of 1/1,024 of the port rate, rounded up. Log: 103 (DEDUCED). -/
def portUse (s : State) (p rate : Nat) : Nat := (s.portC0 p).ceil 1024 (rate * 1000000000)

/-- A port whose class 0 streams leave their reserved share (R319). -/
def shareBad (s : State) : Bool := s.portRates.zipIdx.any (fun x => s.portHasC0 x.2
  && decide (s.get (Reg.ETH_PORT_SCHED x.2) Fld.ETH_PORT_SCHED_C0_SHARE < s.portUse x.2 x.1))

/-- BEAM_LAT_BOUND.VALID: the conditions of R264. Log: 103 (DEDUCED). -/
def latValid (s : State) : Bool :=
  s.beamOn && s.beamChans.all (fun c => decide (c < s.cAll)) && !s.shareBad && decide (s.latBound ≤ s.latLimit)

/-- Class 0 rate of the device in bytes per second, for the retention ring (R528). -/
def retainMib (s : State) : Nat :=
  let r := Frac.sum ((List.range s.portRates.length).map s.portC0)
  mibUp (r.ceil (s.get Reg.TWIN_CFG Fld.TWIN_CFG_RETAIN_US) 8000000)

/-! ### The HBM budget (R166, R167) -/

/-- Use in bytes per second. Log: 176 (DEDUCED). -/
def budget (s : State) : Frac :=
  let bs := s.chanRate s.corrChans
  let scale (n d : Nat) (f : Frac) : Frac := ⟨f.num * n, f.den * d⟩
  let r (g : Nat) : Frac := scale 1 (max 1 s.turnT) (s.chanRate (s.grpChans g))
  let reads := max 1 (s.rounds s.corr.list.length).length
  Frac.sum ([
    if s.turnOn then scale (s.slotBytes * (1 + reads)) 1 bs else ⟨0, 1⟩,
    if s.turnOn && s.weedOn then scale (2 * s.planeBytes) s.skLen bs else ⟨0, 1⟩,
    if s.gleanOn then ⟨s.gleanNi * s.gleanW * s.bHz * s.gleanChans.length, max 1 s.cAll⟩ else ⟨0, 1⟩]
    ++ s.groups.map (fun g => scale (s.grpW g * s.nVis * (2 * s.grpP g - 1)) (max 1 (s.grpP g)) (r g))
    ++ s.groups.map (fun g => scale ((4 * s.grpW g + 1) * s.nVis) (4 * max 1 (s.grpP g)) (r g))
    ++ [⟨s.get Reg.TURN_BUDGET Fld.TURN_BUDGET_RESERVE * 1000000000, 1⟩])

/-- TURN_BUDGET_USE: units of 1/1,024 of 7,065.6 GB/s, rounded up. Log: 54 (DEDUCED), 218 (DESIGN CHOICE). -/
def budgetUse (s : State) : Nat := s.budget.ceil 1024 7065600000000

/-- The regions: turning, granary, glean, retention. -/
def regionTurn (s : State) : Nat × Nat := (s.turnBase, s.turnBytes)
def regionGran (s : State) : Nat × Nat := (s.granBase, s.granBytes)
def regionGlean (s : State) : Nat × Nat := (s.gleanBase, s.gleanBytesAll)
def regionRetain (s : State) : Nat × Nat :=
  (s.get Reg.TWIN_RETAIN Fld.TWIN_RETAIN_BASE_MIB * 2 ^ 20, if s.flag Reg.TWIN_CFG Fld.TWIN_CFG_ENABLE then s.retainMib * 2 ^ 20 else 0)

/-- A region that reaches beyond HBM or meets another. -/
def regionBad (r : Nat × Nat) (others : List (Nat × Nat)) : Bool := (decide (0 < r.2) && decide (hbmSize < r.1 + r.2)) || others.any (overlap r)

def turnChecks (s : State) : List (Nat × Nat) :=
  let limit := s.get Reg.TURN_BUDGET Fld.TURN_BUDGET_LIMIT
  failIf (decide (s.turnT = 0) || decide (s.turnH < 16) || outside limit 1 960
      || (s.flag Reg.TURN_CFG Fld.TURN_CFG_PASSREC_EN && s.notDelivery (s.get Reg.TURN_PASSREC Fld.TURN_PASSREC_RING))) 6 Code.TURN_RANGE
  ++ failIf (decide (s.turnT ≠ 0) && decide (limit < s.budgetUse)) 6 Code.HBM_BUDGET
  ++ failIf (regionBad s.regionTurn [s.regionGran, s.regionGlean]) 6 Code.HBM_CAPACITY

/-! ### Array, granary, baler (R182, R202, R213, R218, R289) -/

def corrChecks (s : State) : List (Nat × Nat) :=
  let l := s.corr.list
  let bs := s.chanRate s.corrChans
  let gov (f : Fld) : Nat := s.get Reg.CORR_GOV f
  failIf (s.corrOn && (l.isEmpty || decide (255 < s.mapK l.length)
      || (decide (s.turnT ≠ 0) && decide (1500000000 * bs.den * s.turnT < bs.num * s.mapP l)))) 7 Code.CORR_RATE
  ++ failIf (outside (gov Fld.CORR_GOV_STAGE) 1 8 || outside (gov Fld.CORR_GOV_INTERVAL) 10 100
      || decide (gov Fld.CORR_GOV_INTERVAL * 10 < gov Fld.CORR_GOV_STAGE * 30)) 7 Code.CORR_GOV_RANGE
  ++ failIf (decide (s.get Reg.CORR_RECOMP Fld.CORR_RECOMP_LIMIT_US < 100)
      || decide (105 < s.get Reg.CORR_PLACE Fld.CORR_PLACE_HOT_C)) 7 Code.CORR_RANGE

/-- A group's destination as one number, rings above streams. -/
def destKey (s : State) (g : Nat) : Nat := (s.grpDest g).2 + b2n (s.grpDest g).1 * 2 ^ 14

def granChecks (s : State) : List (Nat × Nat) :=
  let gs := s.groups
  let baled (g : Nat) : Bool := s.flag (Reg.GRAN_GRP_CFG g) Fld.GRAN_GRP_CFG_BALER
  failIf ((s.corrOn && !s.grpOn 0) || gs.any (fun g => (s.grpChans g).any (fun c => !s.isCorr c)
      || ((s.grpChans g).any (fun c => decide (c < s.cAll)) && (s.grpChans g).any (fun c => decide (s.cAll ≤ c))))) 8 Code.GRAN_GROUP
  ++ failIf (repeats (gs.map s.destKey) || (List.range 8).any (fun g => !(s.grpDest g).1 && decide (4096 ≤ (s.grpDest g).2))) 8 Code.GRAN_STREAM
  ++ failIf (gs.any (fun g => decide (s.grpP g = 0) || outside (s.grpCount g) 1 4096)
      || (List.range 8).any (fun g => decide (1000000000 ≤ s.full (Reg.GRAN_GRP_START_NS g)))) 8 Code.GRAN_RANGE
  ++ failIf ((List.range 8).any (fun g => baled g && (s.grpDeep g || s.flag (Reg.GRAN_GRP_CFG g) Fld.GRAN_GRP_CFG_FLOAT || s.ewesen))) 8 Code.GRAN_FORMAT
  ++ failIf (regionBad s.regionGran [s.regionTurn, s.regionGlean]) 8 Code.HBM_CAPACITY
  ++ failIf (if s.flag Reg.BALER_CFG Fld.BALER_CFG_ENABLE then !gs.any baled else (List.range 8).any baled) 11 Code.BALER_OFF
  ++ failIf (decide (4095 < s.get Reg.BALER_CFG Fld.BALER_CFG_RESTART)) 11 Code.BALER_RANGE

/-! ### Beams (R238, R239, R257, R265, R267) -/

/-- K_b. -/
def beamK (s : State) : Nat := ceilDiv s.beamNw 512 * s.beamDepth

/-- BEAM_SEL selects an index without a channel, a slot twice over, or a fine index in 8+8 mode (R239). -/
def beamSelBad (s : State) : Bool :=
  let cs := s.beamChans
  let fine := cs.filter (fun c => decide (s.cAll ≤ c))
  fine.any (fun c => !s.zoomOn (s.fineSlot c) || cs.contains (s.zoomCoarse (s.fineSlot c))) || (s.width8 && !fine.isEmpty)

def beamChecks (s : State) : List (Nat × Nat) :=
  let det (f : Fld) : Nat := s.get Reg.BEAM_DET f
  failIf (decide (s.get Reg.BEAM_CFG Fld.BEAM_CFG_DEPTH = 3) || outside s.spf 1 64 || outside (s.get Reg.BEAM_FRAME Fld.BEAM_FRAME_DPF) 1 64
      || outside (s.get Reg.BEAM_WEAVE Fld.BEAM_WEAVE_WAIT_NS) 400 1200 || decide (16 < det Fld.BEAM_DET_DSHIFT) || decide (det Fld.BEAM_DET_DINT = 0)
      || (s.flag Reg.BEAM_PEAK_CFG Fld.BEAM_PEAK_CFG_EN && decide (s.detMode = 0)) || decide (s.full Reg.BEAM_PEAK_SPAN = 0)
      || (List.range 16).any (fun b => decide (24 < s.get (Reg.BEAM_BLOCK b) Fld.BEAM_BLOCK_SHIFT))) 9 Code.BEAM_RANGE
  ++ failIf (s.beamOn && decide (s.get Reg.BEAM_CFG Fld.BEAM_CFG_DEPTH ≠ 3) && (decide (64 < s.beamK) || decide (1500000000 * s.beamRate.den < s.beamRate.num * s.beamK))) 9 Code.BEAM_RATE
  ++ failIf (s.beamOn && s.beamSelBad) 9 Code.BEAM_SOURCE
  ++ failIf (s.beamOn && decide (s.latLimit < s.latBound)) 9 Code.BEAM_LATENCY

/-! ### Glean ring (R269, R272, R277) -/

def gleanChecks (s : State) : List (Nat × Nat) :=
  failIf ((s.flag Reg.GLEAN_CFG Fld.GLEAN_CFG_NOTIFY && s.notDelivery (s.get Reg.GLEAN_NOTIFY Fld.GLEAN_NOTIFY_RING))
      || (s.gleanBranch && (s.gleanChans.isEmpty || ((List.range 4096).any (fun c => decide (s.cAll ≤ c) && s.selBit Reg.GLEAN_SEL c))
        || decide (s.nHeld < s.gleanFirst + s.gleanNi)))
      || outside (s.get Reg.GLEAN_INPUTS Fld.GLEAN_INPUTS_COUNT) 1 64 || decide (s.gleanMax < s.gleanLeast)) 10 Code.GLEAN_RANGE
  ++ failIf (regionBad s.regionGlean [s.regionTurn, s.regionGran]) 10 Code.HBM_CAPACITY

/-! ### Egress (R306, R309, R319) -/

/-- Wire bytes of the longest packet of an entry: class 1–3 by its payload size, class 0 by its message. -/
def longestWire (s : State) (i : Nat) : Nat :=
  let head := if s.flag (Reg.ETH_STR_CFG i) Fld.ETH_STR_CFG_IPV6 then 86 else 66
  if s.strClass i ≠ 0 then head + 16 + 64 * s.get (Reg.ETH_STR_L4 i) Fld.ETH_STR_L4_PAYLOAD
  else if s.voltSources.any (fun q => s.get (Reg.BEAM_DEST q) Fld.BEAM_DEST_VSTREAM == i) then head + 32 + 40 * s.spf
  else head + 32

/-- Commit checks of the egress block (R307, R309, R319, R579). Log: 179 (DEDUCED). -/
def ethChecks (s : State) : List (Nat × Nat) :=
  let rates := s.portRates
  let on := s.streamsOn
  let ps := s.producers
  let mtu (p : Nat) : Nat := s.get (Reg.ETH_PORT_CFG p) Fld.ETH_PORT_CFG_MTU
  let fec := s.get Reg.ETH_MGMT Fld.ETH_MGMT_FEC
  failIf (on.any (fun i => (s.portsAsked i).isEmpty || (s.portsAsked i).any (fun p => decide (rates.length ≤ p)))
      || (List.range 16).any (fun p => decide (s.get (Reg.ETH_PORT_CFG p) Fld.ETH_PORT_CFG_PMD = 3))
      || decide (fec = 3) || (s.flag Reg.ETH_MGMT Fld.ETH_MGMT_RATE && decide (fec ≠ 0))) 12 Code.ETH_PORT
  ++ failIf (ps.any (fun p => !on.contains p.1) || repeats (ps.map (·.1))) 12 Code.ETH_STREAM
  ++ failIf (ps.any (fun p => on.contains p.1 && s.strClass p.1 != p.2) || on.any (fun i => decide (s.strClass i = 0) && decide (1 < (s.portsAsked i).length)))
      12 Code.ETH_CLASS
  ++ failIf ((List.range 4096).any (fun i => outside (s.get (Reg.ETH_STR_L4 i) Fld.ETH_STR_L4_PAYLOAD) 1 140) || on.any (fun i => (s.portsAsked i).any (fun p => decide (mtu p + 20 < s.longestWire i)
        || (s.strClass i != 0 && s.portHasC0 p && decide (2048 < s.longestWire i))))) 12 Code.ETH_MTU
  ++ failIf s.shareBad 12 Code.ETH_C0_SHARE

/-! ### Memory controller (R387 and the register tables) -/

/-- The block that needs an untrained stack is the one that fails. -/
def hbmChecks (s : State) : List (Nat × Nat) :=
  let untrained := !s.flag Reg.HBM_STATUS Fld.HBM_STATUS_ALL_TRAINED
  failIf (outside (s.get Reg.HBM_CFG Fld.HBM_CFG_NBR_K) 8 16 || decide (s.get Reg.HBM_CFG Fld.HBM_CFG_SCRUB_H = 0)
      || (List.range 8).any (fun n => decide (s.get (Reg.HBM_PORT_LT n) Fld.HBM_PORT_LT_LT < 10))) 15 Code.HBM_RANGE
  ++ failIf (s.turnOn && untrained) 6 Code.HBM_UNTRAINED
  ++ failIf (s.granOn && untrained) 8 Code.HBM_UNTRAINED
  ++ failIf (s.gleanOn && untrained) 10 Code.HBM_UNTRAINED

/-! ### Twin and weave (R510, R516, R520, R527, R528) -/

def twinChecks (s : State) : List (Nat × Nat) :=
  let on := s.flag Reg.TWIN_CFG Fld.TWIN_CFG_ENABLE
  failIf (outside (s.get Reg.TWIN_CFG Fld.TWIN_CFG_RETAIN_US) 16 1023 || (on && s.sharedRings.any s.unitRings.contains)) 23 Code.TWIN_CONFIG
  ++ failIf (on && regionBad s.regionRetain [s.regionTurn, s.regionGran, s.regionGlean]) 23 Code.HBM_CAPACITY

/-- Input ranges, local to their plane, that a device forwards or relays to a position (R511, R514). -/
def sentRanges (s : State) (q : Nat) : List (Nat × Nat) :=
  if s.mode = 1 then [(0, 4096)]
  else if s.mode = 2 then
    (if q = (s.pos + 3) % 4 then [(2048, 4096), (2048, 3072)]
     else if q = (s.pos + 2) % 4 then [(0, 2048), (3072, 4096)]
     else [(0, 2048)])
  else []

/-- Flits per second of the forwarded units of one stream over a range: one unit per packet that meets it. -/
def unitFlits (s : State) (d : StreamDef) (lo hi : Nat) : Frac :=
  let w := if d.fmt8 && s.width8 then 2 else 1
  let n (i : Nat) : Nat := let b := d.first % 4096 + i * d.si; min hi (b + d.si) - max lo b
  let bytes := ((List.range (d.count / max 1 d.si)).map (fun i => if n i = 0 then 0 else 24 + d.ss * d.sc * n i * w)).sum
  ⟨s.bHz * (d.chCount / max 1 d.sc) * bytes, 248 * max 1 (s.cAll * d.ss)⟩

/-- Flits per second of the fine sheaves of one slot over a range (R112): one unit per frame. -/
def fineFlits (s : State) (lo hi : Nat) : Frac :=
  ⟨s.bHz * (24 + s.fineM * (hi - lo) * s.sampleBytes), 248 * max 1 (s.cAll * s.fineM)⟩

/-- Flit rate of one direction of a weave link (R510). -/
def linkFlits (s : State) (k : Nat) : Frac :=
  let q := s.linkPeer k
  let j := s.linkId k / 16 % 2
  let mine (x : Nat) : Bool := s.mode != 1 || decide (x % 2 = j)
  let fwd := (s.sentRanges q).flatMap (fun r => ((s.localStreams.filter (fun d => mine d.key)).map (fun d => s.unitFlits d r.1 r.2))
    ++ ((s.zoomSlots.filter mine).map (fun _ => s.fineFlits r.1 r.2)))
  let bs := s.chanRate s.corrChans
  let partials : Nat := if s.mode = 2 then 4 else if s.flag Reg.WEAVE_CFG Fld.WEAVE_CFG_EXPORT ∧ s.mode = 0 then 1 else 0
  let msgs : List Frac := if j = 0 then
      [⟨100000, 1⟩, if s.weedOn ∧ s.mode ≠ 0 then ⟨bs.num * (16 + ceilDiv s.skLen 64 * 8), bs.den * s.skLen * 248⟩ else ⟨0, 1⟩]
    else []
  Frac.sum (fwd ++ [⟨s.beamRate.num * partials, s.beamRate.den * 2⟩] ++ msgs)

/-- Flits per second that a link carries: W × 48.828125 million at 106.25 Gb/s, half at 53.125. -/
def linkCarries (s : State) (k : Nat) : Nat :=
  s.linkWidth k * 48828125 / (if s.get (Reg.LANE_CFG k) Fld.LANE_CFG_RATE = 0 then 1 else 2)

/-- Does a device own the frames of a source's block (R516, R520)? -/
def ownsSource (s : State) (q : Nat) : Bool :=
  if s.mode = 2 then q % 16 % 4 == s.pos
  else !(s.mode == 0 && s.flag Reg.WEAVE_CFG Fld.WEAVE_CFG_EXPORT && q % 16 == s.get Reg.WEAVE_CFG Fld.WEAVE_CFG_EXPORT_BLOCK)

def weaveChecks (s : State) : List (Nat × Nat) :=
  failIf (s.weaveLinks.any (fun k => decide (s.linkCarries k * (s.linkFlits k).den < (s.linkFlits k).num))) 24 Code.WEAVE_BUDGET
  ++ failIf ((List.range 64).any (fun q => !s.ownsSource q && (s.flag (Reg.BEAM_DEST q) Fld.BEAM_DEST_V_EN || s.flag (Reg.BEAM_DEST q) Fld.BEAM_DEST_D_EN)))
      24 Code.WEAVE_BEAM

/-! ### All of them (R579) -/

/-- Every failure, in no order. Log: 175 (DEDUCED), 177 (DEDUCED). -/
def commitFails (s : State) : List (Nat × Nat) :=
  s.glbChecks ++ s.laneChecks ++ s.ingestChecks ++ s.harrowChecks ++ s.weedChecks ++ s.turnChecks ++ s.corrChecks ++ s.granChecks
    ++ s.beamChecks ++ s.gleanChecks ++ s.ethChecks ++ s.hbmChecks ++ s.twinChecks ++ s.weaveChecks ++ s.avsChecks

/-- The failure that is reported: the first block, then the lowest code. Log: 176 (DEDUCED). -/
def firstFail : List (Nat × Nat) → Option (Nat × Nat)
  | [] => none
  | x :: l => match firstFail l with
    | none => some x
    | some y => some (if x.1 < y.1 ∨ (x.1 = y.1 ∧ x.2 ≤ y.2) then x else y)

/-- Results that a commit computes, accepted or not (R167, R182, R217, R238, R265, R272, R319, R320, R528); `t` is the trial state.
Log: 218 (DESIGN CHOICE), 219 (DESIGN CHOICE). -/
def commitResults (s t : State) : State :=
  let s := s.set Reg.TURN_SIZE Fld.TURN_SIZE_MIB (mibUp t.turnBytes)
  let s := s.set Reg.TURN_BUDGET_USE Fld.TURN_BUDGET_USE_USE (satU 12 t.budgetUse)
  let p := t.mapP t.corr.list
  let s := s.set Reg.CORR_CAPACITY Fld.CORR_CAPACITY_SHEAF_KHZ (satU 24 (if p = 0 then 0 else 1500000 * t.turnT / p))
  let s := s.set Reg.GRAN_SIZE Fld.GRAN_SIZE_MIB (mibUp t.granBytes)
  let s := s.set Reg.GLEAN_SIZE Fld.GLEAN_SIZE_MIB (mibUp t.gleanBytesAll)
  let s := s.set Reg.BEAM_CAPACITY Fld.BEAM_CAPACITY_SHEAF_KHZ (1500000 / max 1 t.beamK)
  let s := (s.set Reg.BEAM_LAT_BOUND Fld.BEAM_LAT_BOUND_NS (satU 11 t.latBound)).setFlag Reg.BEAM_LAT_BOUND Fld.BEAM_LAT_BOUND_VALID t.latValid
  let s := s.each t.portRates.zipIdx (fun s x =>
    let a := Reg.ETH_PORT_STATUS x.2
    let s := s.set a Fld.ETH_PORT_STATUS_C0_USE (satU 10 (t.portUse x.2 x.1))
    s.set a Fld.ETH_PORT_STATUS_C0_DEPTH (if t.portHasC0 x.2 then satU 16 ((t.portA x.2 x.1 + 1) * t.frameWire + 236) else 0))
  s.set Reg.TWIN_RETAIN_SIZE Fld.TWIN_RETAIN_SIZE_MIB t.retainMib

end State

end Sys2Proof.Machine
end

