-- ==== Sys2Proof/Machine/Weave.lean ====
section
/-! DEFINITION. Messages between the devices of a weave: bring-up, timing leadership, forwarded samples, mask updates, weeder messages,
status, relayed commands (R502–R519, R536–R539). -/

namespace Sys2Proof.Machine

namespace State

/-! ### Bring-up (R503) -/

/-- A WEAVE_HELLO's digest is kept, and compared with the own one once the device is committed. Log: 32 (DEDUCED), 230 (DEDUCED). -/
def helloArrived (s : State) (k : Nat) (m : List Byte) : State :=
  let d := fieldAt m 4 8
  let s : State := { s with weave := { s.weave with heard := (k, d) :: s.weave.heard.filter (fun e => e.1 != k) } }
  if s.get Reg.WEAVE_STATUS Fld.WEAVE_STATUS_STATE = 0 then s
  else if d = s.digest then s.showWeave
  else s.digestDiffers k

/-! ### Timing leadership (R504, R505) -/

/-- The time counter with a fine part in steps of 10 ps, in 2^-16 ns. Log: 161 (DEDUCED). -/
def fineNow (s : State) (fine : Nat) : Nat := s.now.units + fine * 65536 / 100

/-- A device of a weave, or of an export arrangement, other than the leader. -/
def follower (s : State) : Bool := decide (s.positions ≠ 1) && decide (s.unitGet Reg.WEAVE_CFG Fld.WEAVE_CFG_POS ≠ 0)

/-- The leader of a weave or of an export arrangement. -/
def leader (s : State) : Bool := decide (s.positions ≠ 1) && s.unitGet Reg.WEAVE_CFG Fld.WEAVE_CFG_POS == 0

/-- A follower sends DELAY_REQ to the leader at t1. -/
def measureDelay (s : State) (fine : Nat) : State :=
  match s.weaveLink 0 with
  | none => s
  | some k =>
    if !s.follower then s
    else
      let q := s.weave.reqSeq
      let t1 := s.fineNow fine
      let s : State := { s with weave := { s.weave with reqSeq := (q + 1) % 65536, asked := some (q, t1) } }
      s.sendVc0 k ([0x85] ++ le 1 s.pos ++ le 2 q)

/-- The leader answers a DELAY_REQ: t2 is its reception, t3 = t2 + 2 µs the launch of DELAY_RESP. Log: 161 (DEDUCED). -/
def answerDelay (s : State) (k fine : Nat) (m : List Byte) : State :=
  if !s.leader then s
  else
    let t2 := s.fineNow fine
    s.sendVc0 k ([0x86] ++ le 1 s.pos ++ le 2 (fieldAt m 2 2) ++ (Stamp.ofUnits t2).bytes ++ (Stamp.ofUnits (t2 + 2000 * 65536)).bytes)

/-- Mean of the last 16 measurements in ps, with the asymmetry; how a fraction of a picosecond is rounded is not stated.
Log: 160 (DESIGN CHOICE). -/
def showDelay (s : State) : State :=
  let n := s.weave.delays.length
  let num := s.weave.delays.sum * 1000
  let den : Nat := 65536 * 2 * n
  let (up, s) := if num % den = 0 then (0, s) else s.free 2
  s.set (Reg.WEAVE_PEER_DELAY 0) Fld.WEAVE_PEER_DELAY_PS
    (ofS 24 (num.fdiv den + (up : Int) + toS 16 (s.unitGet Reg.WEAVE_ASYM Fld.WEAVE_ASYM_ASYM_PS)))

/-- A follower takes the answer to its outstanding DELAY_REQ at t4. -/
def delayAnswered (s : State) (fine : Nat) (m : List Byte) : State :=
  match s.weave.asked with
  | none => s
  | some (q, t1) =>
    if fieldAt m 2 2 ≠ q then s
    else
      let t4 : Int := s.fineNow fine
      let x : Int := (t4 - t1) - (((stampAt m 16).units : Int) - ((stampAt m 4).units : Int))
      ({ s with weave := { s.weave with asked := none, delays := (x :: s.weave.delays).take 16 } } : State).showDelay

/-- The leader sends PULSE_MARK to every follower 10 µs before a PPS_OUT rising edge. -/
def sendMarks (s : State) : State :=
  if s.leader ∧ s.refRun then
    let t := Stamp.ofUnits (s.now.units + 10000 * 65536)
    s.each s.partners (fun s q => match s.weaveLink q with
      | some k => s.sendVc0 k ([0x87] ++ le 1 s.pos ++ zeros 2 ++ t.bytes)
      | none => s)
  else s

/-- A follower's alignment pulse of reference 5: the arrival of PULSE_MARK plus 10 µs minus the measured delay. Log: 143 (DEDUCED). -/
def markArrived (s : State) (k fine : Nat) : State :=
  if s.follower ∧ k = s.get Reg.REF_BALRAN Fld.REF_BALRAN_LINK then
    let d := s.get (Reg.WEAVE_PEER_DELAY 0) Fld.WEAVE_PEER_DELAY_PS * 65536 / 1000
    { s with weave := { s.weave with pulseAt := some (s.fineNow fine + 10000 * 65536 - d) } }
  else s

/-! ### Samples and masks (R507–R509) -/

/-- A forwarded unit: counted, relayed where R514 says so, and stored under its remote stream. A unit of fine channels carries the
slot's number as its stream. -/
def unitArrived (s : State) (k : Nat) (m : List Byte) (backlog : Nat) : State :=
  let s := s.count (Reg.WEAVE_COUNT 1)
  let u := unit46 m
  let s := s.relayUnit (s.linkPeer k) u
  if s.running && s.flag Reg.INGEST_CTL Fld.INGEST_CTL_ENABLE then
    let fine := decide (s.cAll ≤ u.chan)
    let x : Slice := { stream := if fine then fineKey u.origin u.stream else 256 * (u.origin + 1) + u.stream
                       base := u.base, invalid := u.invalid, overload := u.overload, cal := u.cal, wide := u.wide, samples := u.samples }
    let s := s.storeUnit u.ss u.sc u.n u.k u.chan (if fine then s.fineM else 1) x
    s.forceFull backlog s.ingest.pairs.length
  else s

/-- A MASK_UPDATE changes the shadow of the origin's mask from k on; late on a channel that has released k (R508).
Log: 41 (DESIGN CHOICE), 162 (DEDUCED). -/
def masksArrived (s : State) (m : List Byte) : State :=
  let o := byteAt m 1 % 4
  let items := (List.range (fieldAt m 2 2)).map (fun i =>
    let e := fieldAt m (16 + 4 * i) 4
    (e % 2 ^ 13, e / 2 ^ 15 % 2))
  let late := (s.changeUnits (.mask o)).filter (s.unitPast (fieldAt m 4 7))
  let s := s.addChange (.mask o) (fieldAt m 4 7) items none
  match late with
  | [] => s
  | c :: _ => (s.count (Reg.WEAVE_COUNT 4)).raise Ev.WEAVE_MASK_LATE (o + 4 * c)

/-! ### Status (R510, R518) -/

/-- The WEAVE_STATUS message. -/
def weaveStatus (s : State) : List Byte :=
  ([0xA2] : List Byte) ++ le 1 s.pos ++ zeros 2 ++ s.now.bytes ++ (List.range 8).flatMap (fun g =>
    let x := s.grp g
    let (seq, epoch, done) := x.drained.getD (0, 0, 0)
    le 4 seq ++ le 2 epoch ++ le 1 (b2n x.drain.isSome + 2 * b2n (s.grpOn g)) ++ zeros 1 ++ (Stamp.ofUnits done).bytes ++ zeros 4)

/-- A weave is committed and the device runs. -/
def inWeave (s : State) : Bool := s.running && decide (s.mode ≠ 0)

/-- Handle the message of a type at the front of a weave link's byte stream. -/
def onMsg (s : State) (k vc type : Nat) (f : List Byte → State → State) : State :=
  match s.takeMsg k vc type with
  | some (m, s) => f m s
  | none => s

/-- Handle a link's oldest VC 0 message of a type. -/
def onVc0 (s : State) (k type : Nat) (f : List Byte → State → State) : State :=
  match s.takeVc0 k type with
  | some (m, s) => f m s
  | none => s

end State

open State

/-- WEAVE_HELLO (R503). -/
def execWeaveHello (link : Link) (s : State) : Result := ok (s.onMsg link 3 0xB0 (fun m s => s.helloArrived link m))

/-- DELAY_MEASURE (R504, R537). -/
def execDelayMeasure (fine : Fin 400) (s : State) : Result := ok (s.measureDelay fine)

/-- DELAY_REQ (R537). -/
def execDelayReq (link : Link) (fine : Fin 400) (s : State) : Result := ok (s.onVc0 link 0x85 (fun m s => s.answerDelay link fine m))

/-- DELAY_RESP (R504). -/
def execDelayResp (link : Link) (fine : Fin 400) (s : State) : Result := ok (s.onVc0 link 0x86 (fun m s => s.delayAnswered fine m))

/-- PULSE_MARK_DUE (R505). -/
def execPulseMarkDue (s : State) : Result := ok s.sendMarks

/-- PULSE_MARK (R505). -/
def execPulseMark (link : Link) (fine : Fin 400) (s : State) : Result := ok (s.onVc0 link 0x87 (fun _ s => s.markArrived link fine))

/-- FORWARDED_UNIT (R507–R509, R514). -/
def execForwardedUnit (link : Link) (gleanBacklog : Nat) (s : State) : Result :=
  ok (s.onMsg link 1 0x46 (fun m s => s.unitArrived link m gleanBacklog))

/-- MASK_UPDATE (R508). -/
def execMaskUpdate (link : Link) (s : State) : Result := ok (s.onMsg link 2 0xA0 (fun m s => if s.inWeave then s.masksArrived m else s))

/-- WEEDER_MESSAGE (R517). -/
def execWeederMessage (arrival : WeederArrival) (s : State) : Result :=
  ok (s.onMsg arrival.link 2 0xA1 (fun m s => if s.inWeave then s.weederMsg m arrival.inputs else s))

/-- WEAVE_STATUS_DUE (R510, R539). -/
def execWeaveStatusDue (s : State) : Result :=
  ok (if s.inWeave then s.each s.partners (fun t q => t.weaveVc q 2 s.weaveStatus) else s)

/-- WEAVE_STATUS_MESSAGE (R518). -/
def execWeaveStatusMessage (link : Link) (s : State) : Result :=
  ok (s.onMsg link 2 0xA2 (fun m s => if s.inWeave then (s.statusArrived m).settleHolds else s))

/-- GRAN_RELAY (R519). -/
def execGranRelay (link : Link) (s : State) : Result :=
  ok (s.onMsg link 3 0xB1 (fun m s => if s.inWeave && s.follower then s.granRelayed m else s))

end Sys2Proof.Machine
end

