-- ==== Sys2Proof/Machine/Twin.lean ====
section
/-! DEFINITION. The twin pair: roles, heartbeats, progress, yield and takeover, the order stream (R521–R540). TAKEN and the
configuration update are in TwinCfg.lean. -/

namespace Sys2Proof.Machine

namespace State

/-! ### Roles (R521–R523) -/

/-- SPLIT: both units act as ACTIVE (R534). Log: 169 (DEDUCED). -/
def split (s : State) : State :=
  if s.flag Reg.TWIN_STATUS Fld.TWIN_STATUS_SPLIT then s
  else (s.setFlag Reg.TWIN_STATUS Fld.TWIN_STATUS_SPLIT true).raise Ev.TWIN_SPLIT 0

/-- At commit (R521, R522): STANDBY to a partner that is seen active, else ACTIVE by a high strap, else no role until the partner or the
50 µs decide. Log: 168 (DEDUCED). -/
def twinCommit (s : State) : State :=
  let near : Bool := match s.twinLink with
    | some k => s.linkState k == 4 && (s.link k).peerActive
    | none => false
  let t : TwinSt := { seenLink := s.twin.seenLink, seenWave := s.twin.seenWave, peerRole := s.twin.peerRole, peerSynced := s.twin.peerSynced
                      peerPref := s.twin.peerPref, peerIngest := s.twin.peerIngest, peerPos := s.twin.peerPos, alive := s.twin.alive }
  let s : State := { s with twin := t, stopped := false, heldWrites := [], pins := { s.pins with yieldLow := false } }
  let s := s.wrN Reg.TWIN_STATUS 0
  if !s.twinOn then { s with pins := { s.pins with twinHealth := 0 } }
  else if near ∨ s.twin.seenWave = 1000 ∨ (s.twin.seenLink ∧ s.twin.peerRole ≤ 1) then (s.takeRole 2).showPeer.showLinks
  else if s.flag Reg.TWIN_CFG Fld.TWIN_CFG_PREF then (s.takeRole 1).showPeer.showLinks
  else
    let s : State := { s with twin := { s.twin with undecided := true }, pins := { s.pins with twinHealth := 0 } }
    s.showPeer.showLinks

/-- A unit without a role takes STANDBY to an active partner; a SOLO unit that sees a partner is ACTIVE. Log: 168 (DEDUCED). -/
def meetPartner (s : State) (active : Bool) : State :=
  if s.twin.undecided then
    if active then ({ s with twin := { s.twin with undecided := false } } : State).takeRole 2 else s
  else if s.role = 0 then s.takeRole 1 else s

/-- A yielded unit starts nothing any more (R532); after a yield with cause PREF it is STANDBY at once (R522). Log: 170 (DEDUCED). -/
def stopYielded (s : State) : State :=
  if s.role ≠ 3 then s
  else if s.get Reg.TWIN_STATUS Fld.TWIN_STATUS_LAST_CAUSE = 9 then
    let s : State := { s with stopped := false, pins := { s.pins with yieldLow := false }, twin := { s.twin with since := some [], compared := true } }
    (s.setFlag Reg.TWIN_STATUS Fld.TWIN_STATUS_SYNCED false).takeRole 2
  else { s with stopped := true }

/-- Equal straps: the preference comes from the serial numbers (R522). Log: 169 (DEDUCED). -/
def prefConflict (s : State) : State :=
  if s.twin.peerPref = s.flag Reg.TWIN_CFG Fld.TWIN_CFG_PREF ∧ !s.flag Reg.TWIN_STATUS Fld.TWIN_STATUS_PREF_CONFLICT then
    let s : State := { s with twin := { s.twin with noRevert := true } }
    (s.setFlag Reg.TWIN_STATUS Fld.TWIN_STATUS_PREF_CONFLICT true).raise Ev.TWIN_PREF_CONFLICT 0
  else s

/-- Two units that both act as ACTIVE are split; over the link the one that is not preferred yields. Log: 169 (DEDUCED). -/
def bothActive (s : State) (byLink : Bool) : State :=
  if s.twin.undecided ∨ 2 ≤ s.role ∨ s.twin.pinTaken then s
  else if byLink && !s.preferred then s.split.yieldNow 9
  else s.split

/-- Ingest links that are UP, one bit each. -/
def ingestUp (s : State) : Nat :=
  (((List.range 64).filter (fun k => s.linkOn k && !s.linkBidir k && s.linkState k == 4)).map (2 ^ ·)).sum

/-- The HEARTBEAT payload (R537). -/
def heartbeatMsg (s : State) : List Byte :=
  [0x80] ++ le 1 (s.role + 4 * b2n (s.flag Reg.TWIN_STATUS Fld.TWIN_STATUS_SYNCED) + 8 * b2n (s.flag Reg.TWIN_CFG Fld.TWIN_CFG_PREF)
      + 16 * b2n (s.flag Reg.TWIN_STATUS Fld.TWIN_STATUS_PREF_CONFLICT))
    ++ zeros 2 ++ le 8 s.ingestUp ++ le 8 s.twin.relPos ++ s.now.bytes

/-- Is the twin link UP? -/
def twinUp (s : State) : Bool := s.twinLink.any (fun k => s.linkState k == 4)

/-- A HEARTBEAT arrives. -/
def heartbeatArrived (s : State) (m : List Byte) : State :=
  let f := byteAt m 1
  let t := { s.twin with
    seenLink := true, peerRole := f % 4, peerSynced := bitAt f 2, peerPref := bitAt f 3, peerIngest := fieldAt m 4 8, peerPos := fieldAt m 12 8
    pinTaken := s.twin.pinTaken && decide (f % 4 < 2) }
  let s := ({ s with twin := t } : State)
  if !s.twinOn ∨ !s.running then s.showPeer
  else
    let s := s.prefConflict
    let s := if f % 4 < 2 then s.bothActive true
      else s.setFlag Reg.TWIN_STATUS Fld.TWIN_STATUS_SPLIT false
    (s.meetPartner (decide (f % 4 < 2))).showPeer

/-- A wave is recognised on TWIN_PEER_HEALTH: 0 held low, 1 250 kHz, 2 1 MHz. A yielded unit stops at the partner's 1 MHz. -/
def waveSeen (s : State) (w : Nat) : State :=
  let khz := if w = 2 then 1000 else if w = 1 then 250 else 0
  let s := ({ s with twin := { s.twin with seenWave := khz } } : State)
  if !s.twinOn ∨ !s.running then s.showPeer
  else
    let s := if w = 2 then s.stopYielded.bothActive false else s
    (if w = 0 then s else s.meetPartner (decide (w = 2))).showPeer

/-! ### Progress (R528) -/

/-- What has advanced since the last PROGRESS: (stream, or 2^15 + ring; position). -/
def advanced (s : State) : List (Nat × Nat) :=
  (s.eth.streams.filterMap (fun (x : Nat × StreamSt) => x.2.sentSeq.map (fun v => (x.1, v))) ++ s.usedRings.map (fun r => (2 ^ 15 + r, s.devPos r))).filter
    (fun e => if e.1 < 2 ^ 15 then mapFind s.twin.told e.1 != some e.2 else (mapFind s.twin.told e.1).getD 0 != e.2)

/-- PROGRESS flits of at most 20 entries. -/
def progressFlits : Nat → List (Nat × Nat) → List (List Byte)
  | 0, _ => []
  | n + 1, l =>
    if l.isEmpty then []
    else
      let es := l.take 20
      ([0x83] ++ le 1 es.length ++ zeros 6 ++ es.flatMap (fun e => le 2 e.1 ++ zeros 2 ++ le 8 e.2)) :: progressFlits n (l.drop 20)

/-- The active unit reports. -/
def sendProgress (s : State) : State :=
  if s.twinOn ∧ s.role = 1 ∧ s.twinUp then
    let l := s.advanced
    let s := s.each (progressFlits (l.length / 20 + 1) l) (fun s p => s.twinVc0 p)
    { s with twin := { s.twin with told := l.foldl (fun m e => mapPut m e.1 e.2) s.twin.told } }
  else s

/-- Is a packet covered?. Log: 173 (DEDUCED). -/
def isCovered (s : State) (stream seq : Nat) : Bool := (mapFind s.twin.covered stream).any (fun v => decide ((v + 2 ^ 64 - seq) % 2 ^ 64 < 2 ^ 63))

/-- A stream without its covered packets. -/
def sweepStream (s : State) (x : Nat × StreamSt) : Nat × StreamSt := (x.1, { x.2 with queue := x.2.queue.filter (fun p => !s.isCovered x.1 p.seq) })

/-- Is a held host write covered (R528)?. Log: 173 (DEDUCED). -/
def writeCovered (s : State) (w : HeldWrite) : Bool :=
  (mapFind s.twin.covered (2 ^ 15 + w.ring)).any (fun v => decide (posDiff (s.ringSize w.ring) v w.pos ≤ s.ringSize w.ring))

/-- Covered packets and host writes leave the standby's queues. Log: 173 (DEDUCED). -/
def sweepCovered (s : State) : State :=
  let streams := s.eth.streams.map (s.sweepStream ·)
  let gone := s.heldWrites.filter s.writeCovered
  ({ s with eth := { s.eth with streams := streams }, heldWrites := s.heldWrites.filter (fun w => !s.writeCovered w) } : State).recordsWritten gone

/-- A PROGRESS arrives on a standby. -/
def progressArrived (s : State) (m : List Byte) : State :=
  if s.role ≠ 2 then s
  else
    let es := (List.range (byteAt m 1)).map (fun i => (fieldAt m (8 + 12 * i) 2, fieldAt m (12 + 12 * i) 8))
    ({ s with twin := { s.twin with covered := es.foldl (fun c e => mapPut c e.1 e.2) s.twin.covered } } : State).sweepCovered

/-! ### Takeover (R533, R534) -/

/-- Class 0 packets in retention that PROGRESS has not covered are sent again, ahead of what waits; those of a port that is down are lost
(R322). Log: 172 (DEDUCED). -/
def resendRetained (s : State) : State :=
  let span := s.unitGet Reg.TWIN_CFG Fld.TWIN_CFG_RETAIN_US * 65536000
  let l := s.twin.retain.filter (fun e =>
    decide (s.now.units ≤ e.1 + span) && !(e.2.2.stream.any (fun i => s.isCovered i e.2.2.seq)))
  let s := s.each l.reverse (fun s e =>
    if s.portUp e.2.1 then s.setPort e.2.1 { s.port e.2.1 with c0 := { e.2.2 with again := true } :: (s.port e.2.1).c0 }
    else s.count (Reg.ETH_PORT_COUNT e.2.1 2))
  ({ s with twin := { s.twin with retain := [] } } : State).count (Reg.TWIN_COUNT 5) l.length

/-- The standby takes over. Log: 170 (DEDUCED), 172 (DEDUCED). -/
def takeOver (s : State) (cause : Nat) : State :=
  let s := (s.setFlag Reg.TWIN_STATUS Fld.TWIN_STATUS_SYNCED false).takeRole 1
  let s := s.twinVc0 ([0x82] ++ zeros 3 ++ le 8 s.twin.relPos)
  let s := ((s.raise Ev.TWIN_TAKEOVER cause).count (Reg.TWIN_COUNT 1)).sweepCovered
  let s := s.sendHeld.resendRetained
  let s := s.raiseIf s.twin.reclaimed Ev.TWIN_RETURN cause
  let t := { s.twin with order := [], points := [], blocks := [], copy := none, compared := true, since := none, clean := false, reclaimed := false }
  ({ s with twin := t } : State).showPeer

/-- A YIELD arrives: a standby takes over; of two units whose yields cross, the preferred one remains ACTIVE. Log: 170 (DEDUCED). -/
def yieldArrived (s : State) (m : List Byte) : State :=
  let s : State := { s with twin := { s.twin with pinTaken := false, peerRole := 3 } }
  if s.role = 2 then s.takeOver (byteAt m 1 % 16)
  else if s.role = 3 ∧ !s.stopped ∧ s.preferred then ({ s with pins := { s.pins with yieldLow := false } } : State).takeRole 1
  else s

/-- No partner heartbeat on either path for 50 µs (R534). Log: 168 (DEDUCED). -/
def lostPartner (s : State) (runs : Bool) : State :=
  if !s.twinOn ∨ !s.running ∨ s.twin.undecided then s
  else
    let t := { s.twin with seenLink := false, seenWave := 0 }
    let s := (({ s with twin := t } : State).count (Reg.TWIN_COUNT 4)).showPeer
    let s := if s.role = 2 then (s.takeOver 0).raise Ev.TWIN_PEER_LOST 0 else s
    if runs && decide (s.role ≤ 1) then s.split else s

/-- Handle the oldest message of a type on VC 0 of the twin link. -/
def onTwin0 (s : State) (type : Nat) (f : List Byte → State → State) : State :=
  match s.twinLink with
  | some k => s.onVc0 k type f
  | none => s

/-- Handle the message of a type at the front of a byte stream of the twin link. -/
def onTwin (s : State) (vc type : Nat) (f : List Byte → State → State) : State :=
  match s.twinLink with
  | some k => s.onMsg k vc type f
  | none => s

/-- TWIN_YIELD's effect (R540). -/
def yieldCommand (s : State) (ref : CmdRef) : State :=
  if s.twinOn ∧ s.role = 1 ∧ s.eligible then
    ({ s with twin := { s.twin with cmds := s.twin.cmds ++ [ref] } } : State).yieldNow 7
  else s.finishSt ref St.BAD_PARAM

end State

open State

/-- HEARTBEAT_DUE (R523, R537). -/
def execHeartbeatDue (s : State) : Result :=
  ok (if s.twinOn && s.running && !s.twin.undecided && s.twinUp then s.twinVc0 s.heartbeatMsg else s)

/-- HEARTBEAT (R521–R523, R537). -/
def execHeartbeat (s : State) : Result := ok (s.onTwin0 0x80 (fun m s => s.heartbeatArrived m))

/-- PROGRESS_DUE (R528, R537). -/
def execProgressDue (s : State) : Result := ok s.sendProgress

/-- PROGRESS (R528). -/
def execProgress (s : State) : Result := ok (s.onTwin0 0x83 (fun m s => s.progressArrived m))

/-- YIELD (R533). -/
def execYield (s : State) : Result := ok (s.onTwin0 0x81 (fun m s => s.yieldArrived m))

/-- RECLAIM (R535): the active unit yields with cause RETURN. -/
def execReclaim (s : State) : Result := ok (s.onTwin0 0x84 (fun _ s => if s.twinOn ∧ s.role = 1 then s.yieldNow 8 else s))

/-- RELEASE_RECORD (R525, R538). -/
def execReleaseRecord (s : State) : Result :=
  ok (s.onTwin 1 0x90 (fun m s =>
    if s.standby then { s with twin := { s.twin with order := s.twin.order ++ [fieldAt m 1 2 % 4096] } } else s))

/-- COMMAND_POINT (R525, R538). -/
def execCommandPoint (s : State) : Result :=
  ok (s.onTwin 1 0x91 (fun m s => if s.standby then { s with twin := { s.twin with points := s.twin.points ++ [m] } } else s))

/-- STATE_BLOCK (R529, R530). -/
def execStateBlock (s : State) : Result := ok (s.onTwin 2 0x73 (fun m s => s.stateBlock m))

/-- CONFIG_UPDATE_RETRY (R562): what has arrived of an incomplete set is given up. No TYPE is assigned to the request itself. -/
def execConfigUpdateRetry (s : State) : Result :=
  ok (if s.twin.cfgBlocks.isEmpty then s else { s with twin := { s.twin with cfgBlocks := [], cfgCount := 0, cfgSeq := 0 } })

/-- TWIN_YIELD_N_LOW (R533). -/
def execTwinYieldNLow (s : State) : Result :=
  ok (if s.twinOn ∧ s.role = 2 ∧ s.running then ({ s with twin := { s.twin with pinTaken := true } } : State).takeOver 0 else s)

/-- PEER_HEALTH_WAVE (R523, R532). -/
def execPeerHealthWave (wave : Fin 3) (s : State) : Result := ok (s.waveSeen wave)

/-- YIELD_TIMEOUT (R532). -/
def execYieldTimeout (s : State) : Result := ok s.stopYielded

/-- PEER_LOST (R534). -/
def execPeerLost (partnerRuns : Bool) (s : State) : Result := ok (s.lostPartner partnerRuns)

/-- SOLO_TIMEOUT (R521). -/
def execSoloTimeout (s : State) : Result :=
  ok (if s.twinOn && s.running && (s.twin.undecided || decide (s.role = 1)) && !s.twin.seenLink && s.twin.seenWave == 0 then
      ({ s with twin := { s.twin with undecided := false } } : State).takeRole 0
    else s)

/-- INGEST_LOSS_TIMEOUT (R531). -/
def execIngestLossTimeout (link : Fin 64) (s : State) : Result :=
  ok (if s.running && s.linkOn link && !s.linkBidir link && s.linkState link != 4 && bitAt s.twin.peerIngest link then s.selfFault 3 else s)

/-- TWIN_YIELD (R540): ring command 0x4C. -/
def execTwinYield (src : CmdSrc) (s : State) : Result := ok (s.runCommand src 0x4C (fun ref _ _ s => s.yieldCommand ref))

end Sys2Proof.Machine
end

