-- ==== Sys2Proof/Machine/Commit.lean ====
section
/-! DEFINITION. The end of the commit checks (R554, R579): a rejection with its code, or the commit, chapter by chapter. -/

namespace Sys2Proof.Machine

namespace State

/-- Registers that keyed changes act on while the device runs (R107, R121): their values as committed are kept. -/
def keyedReg (a : Nat) : Bool :=
  (decide (Reg.INGEST_INPUT_MASK 0 ≤ a) && decide (a ≤ Reg.INGEST_INPUT_MASK 255))
    || (decide (Reg.INGEST_RQ_GAIN 0 ≤ a) && decide (a ≤ Reg.INGEST_RQ_GAIN 4095))
    || (decide (Reg.HARROW_FGAIN 0 ≤ a) && decide (a ≤ Reg.HARROW_FGAIN 4095))

/-- Registers of a run that count from the commit: stream status, alive counters of the egress streams (R315), group sequence and pass
counts (R215). -/
def runReg (a : Nat) : Bool :=
  let step := Reg.ETH_STR_ALIVE 1 - Reg.ETH_STR_ALIVE 0
  let st := Reg.STREAM_STATUS 1 - Reg.STREAM_STATUS 0
  (decide (Reg.ETH_STR_ALIVE 0 ≤ a) && decide (a ≤ Reg.ETH_STR_ALIVE 4095) && (a - Reg.ETH_STR_ALIVE 0) % step == 0)
    || (decide (Reg.STREAM_STATUS 0 ≤ a) && decide (a ≤ Reg.STREAM_STATUS 255) && (a - Reg.STREAM_STATUS 0) % st == 0)

/-- Mode, position, sample width, and the settings that act from the commit on (R104, R178, R480, R578). Log: 54 (DEDUCED). -/
def commitSettings (s t : State) : State :=
  let s := s.set Reg.GLB_STATUS Fld.GLB_STATUS_MODE t.mode
  let s := s.set Reg.GLB_STATUS Fld.GLB_STATUS_WEAVE_POS t.pos
  let s := s.setFlag Reg.INGEST_CTL Fld.INGEST_CTL_WIDTH8 t.width8
  let slew := ((List.range 8).map (fun c => 2 ^ c * s.get (Reg.DAC_CH_CFG c) Fld.DAC_CH_CFG_SLEW_EN)).sum
  let sys := { s.sys with
    quiet := s.flag Reg.GLB_PROFILE Fld.GLB_PROFILE_QUIET, quiet0 := s.flag Reg.GLB_PROFILE Fld.GLB_PROFILE_QUIET, dacCfg := s.reg Reg.DAC_CFG, slewEn := slew, avsCfg := s.reg Reg.AVS_CFG }
  let s : State := { s with sys := sys, mem := { s.mem with
    cfg := s.reg Reg.HBM_CFG, lt := (List.range 8).map (fun p => s.get (Reg.HBM_PORT_LT p) Fld.HBM_PORT_LT_LT) } }
  let bs := t.chanRate t.corrChans
  let load : Nat × Nat := if t.corrOn then (bs.num * t.mapP t.corr.list, bs.den * max 1 t.turnT * 1500000000) else (0, 1)
  { s with avs := { s.avs with load := load }, regs := s.regs.filter (fun e => !runReg e.1) }

/-- Latencies of the management lane follow its committed rate and FEC, where software has not changed the register (R441). -/
def commitPtp (s : State) : State :=
  let i := s.ptpIndex
  if i = s.sys.ptpSel then s
  else
    let old := s.ptpWord s.sys.ptpSel
    let live := s.full Reg.TIME_PTP_LAT
    let same := decide (live = old)
    let inForce := decide (s.timeFull Reg.TIME_PTP_LAT = old)
    let s : State := { s with sys := { s.sys with ptpSel := i } }
    let s := if inForce then (s.timePut Reg.TIME_PTP_LAT (s.ptpWord i)).wrN Reg.TIME_PTP_LAT live else s
    if same then s.wrN Reg.TIME_PTP_LAT (s.ptpWord i) else s

/-- One furrow at commit (R32, R178): retired by fuse (cause 3) or mask (4), in service, or a spare. Log: 64 (DEDUCED). -/
def commitFurrow (s : State) (f : Nat) : State :=
  let (st, cause) := if s.furFused f then (fRetired, 3) else if s.furMasked f then (fRetired, 4)
    else if s.furServes f then (fActive, 0) else (fSpare, 0)
  let s := (s.furTo f st).set (furReg f) Fld.CORR_FURROW_CAUSE cause
  (s.setFlag (furReg f) Fld.CORR_FURROW_WARM false).set (furReg f) Fld.CORR_FURROW_ERRORS 0

/-- The array at commit: placement list and mapping; fields without a spare are reported (R198). Log: 64 (DEDUCED). -/
def commitArray (s t : State) : State :=
  let s := s.wrN Reg.CORR_STATUS 0
  let s := s.set Reg.CORR_GOV_STATUS Fld.CORR_GOV_STATUS_ACTIVE 0
  let s := s.each (List.range 272) commitFurrow
  let s : State := { s with corr := { list := if t.corrOn then t.corr.list else [] } }
  let capacity := s.reg Reg.CORR_CAPACITY
  let s := s.showMapping
  if t.corrOn then s.checkSpares else s.wr Reg.CORR_CAPACITY capacity

/-- Harrow slots at commit: freeze and k from the zoom table, and the reset that begins the first frame (R125). -/
def commitSlots (s : State) : State :=
  s.each s.zoomSlots (fun s z =>
    let a := Reg.HARROW_ZOOM z
    s.setSlot z { frozen := s.flag a Fld.HARROW_ZOOM_DC_FREEZE, k := s.get a Fld.HARROW_ZOOM_DC_K, resetFrame := s.firstFrame })

/-- Accumulation groups at commit: WAITING for the pass that START names (R214, R215). Log: 68 (DEDUCED). -/
def commitGroups (s : State) : State :=
  s.each (List.range 8) (fun s g =>
    let a := Reg.GRAN_GRP_STATE g
    let s := ((s.wrN a 0).wrN (Reg.GRAN_GRP_SEQ g) 0).wrN (Reg.GRAN_GRP_PASSES g) 0
    if s.grpOn g then
      let start : Stamp := ⟨s.full (Reg.GRAN_GRP_START_SEC_LO g) + s.get (Reg.GRAN_GRP_START_SEC_HI g) Fld.GRAN_GRP_START_SEC_HI_SEC * 2 ^ 32,
        s.full (Reg.GRAN_GRP_START_NS g), s.get (Reg.GRAN_GRP_START_SEC_HI g) Fld.GRAN_GRP_START_SEC_HI_FRAC_NS⟩
      let q := if start.units = 0 then 0 else (s.startPass g start.units).1
      (s.setGrp g { q0 := q }).set a Fld.GRAN_GRP_STATE_STATE 1
    else s)

/-- The glean ring at commit: with ENABLE set it is ARMED over its whole region (R272, R276); a length that was written waits or is bad by the
committed settings (R284). Log: 90 (DEDUCED). -/
def commitGlean (s : State) : State :=
  let s := if s.shadowWritten then s.judgeShadow else s
  if s.flag Reg.GLEAN_CFG Fld.GLEAN_CFG_ENABLE then ((s.wrN Reg.GLEAN_LEN s.gleanMax).wrN Reg.GLEAN_WPTR 0).setGleanState 1 else s

/-- One data port at commit (R306, R320): rate and a full shaper; what waits for it goes on. Log: 102 (DEDUCED). -/
def commitPort (s : State) (p rate : Nat) : State :=
  let x := s.port p
  if rate = 0 then (s.setPort p {}).set Reg.ETH_STATUS ⟨Fld.ETH_STATUS_PORT_UP.lo + p, 1⟩ 0
  else
    let depth := s.get (Reg.ETH_PORT_STATUS p) Fld.ETH_PORT_STATUS_C0_DEPTH
    s.setPort p { c0 := x.c0, c3 := x.c3, wire := x.wire, rate := rate, depth := depth, tokens := depth * 8192 }

/-- Egress at commit: its registers take effect (R326), ports, and streams that number their packets from 0 (R313). Log: 102 (DEDUCED). -/
def commitEgress (s : State) : State :=
  let mine (a : Nat) : Bool := decide (Reg.ETH_CFG ≤ a) && decide (a < Reg.RING_BASE_LO 0)
  let s : State := { s with eth := { s.eth with regs := s.regs.filter (fun e => mine e.1) } }
  let rates := s.portRates
  let s := s.each (List.range 16) (fun s p => s.commitPort p (rates.getD p 0))
  let streams := s.eth.streams.map (fun (x : Nat × StreamSt) => (x.1, ({ queue := x.2.queue, lastPort := x.2.lastPort } : StreamSt)))
  { s with eth := { s.eth with streams := streams.filter (fun x => x.2 != {}), heldRaised := false } }

/-- Token buckets of the DMA channels are full (R363). Log: 102 (DEDUCED). -/
def commitChannels (s : State) : State :=
  s.each (List.range 64) (fun s c =>
    s.setChan c { s.chan c with tokens := max 1 (s.get (Reg.DMA_CH_CFG c) Fld.DMA_CH_CFG_BURST) * 4096 * 1024 })

/-- Lanes of a quad's ports, and every lane that a committed function uses (R45, R46, R58): lane group 11 with a twin pair enabled or a link
on it. Log: 181 (DEDUCED). -/
def laneUsed (s : State) (l : Nat) : Bool :=
  let g := l / 8
  if l = 96 then true
  else if g = 8 ∨ g = 9 then s.quads.contains ((l - 64) / 4)
  else if g = 11 then s.unitFlag Reg.TWIN_CFG Fld.TWIN_CFG_ENABLE || s.twinLink.isSome
  else s.groupAllows true g || s.groupAllows false g

/-- A link starts anew at a commit that enables it or moves it to another profile or width; any other goes on under the settings of its last
full bring-up (R84). Log: 208 (DESIGN CHOICE). -/
def linkStarts (s : State) (k : Nat) : Bool :=
  let w := s.reg (Reg.LANE_LINK_CFG k)
  !s.linkOn k || Fld.LANE_LINK_CFG_PROFILE.of w != s.linkCfg k Fld.LANE_LINK_CFG_PROFILE || Fld.LANE_LINK_CFG_WIDTH.of w != s.linkWidth k

/-- Lanes of a link that are UP go back to LOCKED, to be aligned anew. -/
def lanesWait (s : State) (k : Nat) : State := s.each (s.linkLanes k) (fun s i => if s.laneState i = 5 then s.laneTo i 4 else s)

/-- One link at commit: `starts` are the lanes that begin their bring-up. Log: 181 (DEDUCED), 208 (DESIGN CHOICE). -/
def commitLink (starts : List Nat) (s : State) (k : Nat) : State :=
  if s.flag (Reg.LANE_LINK_CFG k) Fld.LANE_LINK_CFG_ENABLE then
    if s.linkStarts k ∨ (s.linkLanes k).any starts.contains ∨ s.linkState k = 0 then
      let ramp := (s.link k).ramp
      let s := ((s.setLink k { txCount := (s.link k).txCount }).latchLink k true).lanesWait k
      let s := s.linkTo k (if (s.linkLanes k).all (fun i => 4 ≤ s.laneState i) then 2 else 1)
      if s.linkBidir k && s.flag (Reg.LANE_CFG k) Fld.LANE_CFG_TX_EN then
        s.setLink k { s.link k with ramp := if ramp = .off then .rising 0 else ramp }
      else s
    else s
  else if s.linkOn k then ((s.lanesWait k).linkTo k 0).setLink k {}
  else s

/-- Lanes and links at commit: an enabled lane that is OFF starts its bring-up, a lane that is not used is switched off (R46, R58); a
link whose lanes start waits for them, and a bidirectional one raises its transmitters (R65). Log: 181 (DEDUCED). -/
def commitLanes (s : State) : State :=
  let used := s.latchLinks
  let on := (List.range 97).filter (fun l => used.laneUsed l && s.flag (Reg.LANE_CFG l) Fld.LANE_CFG_RX_EN)
  let starts := on.filter (fun l => s.laneState l == 0)
  let s := s.each ((List.range 97).filter (fun l => !on.contains l)) (fun s l => if s.laneState l = 0 then s else s.laneOff l)
  let s := s.each starts laneAdapt
  s.each (List.range 96) (commitLink starts)

/-- The weave at commit: LINKING, with a WEAVE_HELLO on every link that is UP already; digests that came since the last STOP are compared
with the own one (R503). Log: 230 (DEDUCED). -/
def commitWeave (s : State) : State :=
  let s := s.wrN Reg.WEAVE_STATUS 0
  let s := if s.weaveLinks.isEmpty then s else s.set Reg.WEAVE_STATUS Fld.WEAVE_STATUS_STATE 1
  let s := s.each (s.weaveLinks.filter (fun k => s.linkState k == 4)) sendHello
  let bad := s.weaveLinks.filter (fun k => s.weave.heard.any (fun e => e.1 == k && e.2 != s.digest))
  (s.each bad digestDiffers).showLinks

/-- The commit (R554): every block takes its settings and the device is RUNNING. Log: 65 (DEDUCED). -/
def commitNow (s : State) : State :=
  let t := s.trial
  let s := s.clearRun.blocksIdle
  let s := (s.commitSettings t).latchUnit.commitPtp
  let base := s.regs.filter (fun e => keyedReg e.1)
  let s : State := { s with ingest := { base := base }, weed := { init := some s.weedInit } }
  let s := (s.commitArray t).commitSlots.commitGroups.commitGlean
  let s := s.setFlag Reg.BEAM_STATUS Fld.BEAM_STATUS_RUNNING false
  let s := s.commitEgress.commitChannels.commitLanes.commitWeave
  s.twinCommit.set Reg.GLB_STATUS Fld.GLB_STATUS_STATE 2

/-- The checks end: the results are written in both cases (R579). -/
def checksEnd (s : State) : State :=
  let t := s.trial
  let fails := t.commitFails
  let s : State := { s with sys := { s.sys with checking := false } }
  let s := (s.setFlag Reg.GLB_CTL Fld.GLB_CTL_COMMIT false).commitResults t
  match firstFail fails with
  | none => (s.wrN Reg.GLB_COMMIT_ERR 0).commitNow
  | some (b, code) =>
    let n := satU 8 (fails.map (·.2)).eraseDups.length
    let s := ((s.set Reg.GLB_COMMIT_ERR Fld.GLB_COMMIT_ERR_CODE code).set Reg.GLB_COMMIT_ERR Fld.GLB_COMMIT_ERR_BLOCK b).set
      Reg.GLB_COMMIT_ERR Fld.GLB_COMMIT_ERR_COUNT n
    (s.count (Reg.GLB_COUNT 1)).raise Ev.GLB_COMMIT_REJECT (code + b * 2 ^ 16)

end State

/-- COMMIT_CHECKS_END (R554, R579). -/
def execCommitChecksEnd (s : State) : Result := ok (if s.sys.checking then s.checksEnd else s)

end Sys2Proof.Machine
end

