-- ==== Sys2Proof/Machine/Hbm.lean ====
section
/-! DEFINITION. The memory controller: address map, pseudo-channel queues and scheduling, refresh, check bits, poison, scrub
(spec/14_memory_and_interconnect.md). A part takes effect on the bytes when it enters its queue, which is the arrival order of
R376; the queues decide what is issued when. Reads of the blocks of the device are parts that HBM_COMMAND_SLOT presents. -/

namespace Sys2Proof.Machine

namespace State

/-- Latency target of a port as committed, units of 10 ns (R372). -/
def portLt (s : State) (p : Nat) : Nat := s.mem.lt.getD p 0

/-- Urgency of a request (R374). -/
def urgency (s : State) (q : Queued) : Nat :=
  let lt := s.portLt q.part.port
  if 2 * q.age < lt then 0 else if 4 * q.age < 3 * lt then 1 else if q.age < lt then 2 else 3

/-- The largest urgency of a queue. -/
def maxUrgency (s : State) (l : List Queued) : Nat := l.foldl (fun m q => max m (s.urgency q)) 0

/-- Queues grow older; a request that reaches level 3 is counted once (R374). -/
def ageQueues (s : State) (p elapsed : Nat) : State :=
  let older := fun (q : Queued) => { q with age := q.age + elapsed }
  let x := s.pcSt p
  let l := x.rq.map older ++ x.wq.map older
  let s := s.each (l.filter (fun q => !q.late && s.urgency q == 3)) (fun s q => s.count (Reg.HBM_PORT_LATE q.part.port))
  let mark := fun (q : Queued) => { q with late := q.late || s.urgency q == 3 }
  s.setPc p { x with rq := (x.rq.map older).map mark, wq := (x.wq.map older).map mark, issued := x.issued.map older }

/-- A read has its data: it goes to the matrix master that waits for it, an error response in place of poison (R384). -/
def readDone (s : State) (q : Queued) : State :=
  match q.master with
  | some m => s.respond m (if s.poisoned q.part.addr q.part.len then none else some q.data)
  | none => s

/-- A part enters its queue with its effect: a write changes the bytes, a read captures them; a read whose bursts all have a queued write is
answered from it at once (R373, R376). Log: 121 (DEDUCED). -/
def enterQueue (s : State) (p : Nat) (q : Queued) : State :=
  if q.part.write then
    let s := if q.done then s else s.strobeWrite q.part.port q.part.addr q.part.data
    s.queueWrite p q
  else
    let x := s.pcSt p
    let fwd := (partBursts q.part).filter (fun b => x.wq.any (fun w => (partBursts w.part).contains b))
    let q := { q with data := s.hbmRead q.part.addr q.part.len, fwd := fwd }
    if fwd == partBursts q.part then s.readDone q else s.setPc p { x with rq := x.rq ++ [q] }

/-- Waiting parts enter while their queue has room; a part waits behind an earlier one of its port (R373). -/
def takeIn (s : State) (p : Nat) : List Nat → List Queued → State
  | _, [] => s
  | blocked, q :: t =>
    let x := s.pcSt p
    let full := if q.part.write then !s.writeRoom p q.part else decide (64 ≤ x.rq.length)
    if full || blocked.contains q.part.port.val then
      (s.setPc p { x with waiting := x.waiting ++ [q] }).takeIn p (q.part.port.val :: blocked) t
    else (s.enterQueue p q).takeIn p blocked t

/-- New parts arrive behind those that wait. Log: 121 (DEDUCED). -/
def arrive (s : State) (p : Nat) (l : List Queued) : State :=
  let x := s.pcSt p
  (s.setPc p { x with waiting := [] }).takeIn p [] (x.waiting ++ l)

/-- Does a request hit an open row? -/
def rowHit (x : PcSt) (q : Queued) : Bool :=
  let m := hbmMap q.part.addr
  mapFind x.rows m.bank == some m.row

/-- The pick of R375: highest level, then row hit, then oldest. -/
def pick (s : State) (x : PcSt) (l : List Queued) : Option Queued :=
  let top := l.filter (fun q => s.urgency q == s.maxUrgency l)
  match top.find? (rowHit x) with
  | some q => some q
  | none => top.head?

/-- One refresh of a bank is issued. -/
def issueRefresh (s : State) (p bank : Nat) : State :=
  let x := s.pcSt p
  let n := (mapFind x.due bank).getD 0
  s.setPc p { x with due := mapSet 0 x.due bank (n - 1), rows := mapDel x.rows bank }

/-- One activate in a bank's rolling counter; at the stack's threshold an RFM follows and the count starts anew (R379).
Log: 120 (DESIGN CHOICE). -/
def countActivate (s : State) (p bank : Nat) : State :=
  let x := s.pcSt p
  let n := (mapFind x.acts bank).getD 0 + 1
  s.setPc p { x with acts := mapSet 0 x.acts bank (if Config.rfmThreshold ≤ n then 0 else n) }

/-- An RFM to a bank (R379, R380). -/
def issueRfm (s : State) (p bank : Nat) : State :=
  let x := s.pcSt p
  s.setPc p { x with acts := mapDel x.acts bank, rows := mapDel x.rows bank }

/-- The pseudo-channel's LFSR moves one step, seeded with a free value where it has not been since training (R380).
Log: 223 (DESIGN CHOICE). -/
def nbrDraw (s : State) (p : Nat) : Word × State :=
  let (x, s) :=
    if (s.pcSt p).lfsr = 0 then
      let (n, s) := s.free (2 ^ 32 - 1)
      (BitVec.ofNat 32 (n + 1), s)
    else ((s.pcSt p).lfsr, s)
  let next := lfsrNext x
  (next, s.setPc p { s.pcSt p with lfsr := next })
where
  /-- One step of the LFSR of x^32 + x^22 + x^2 + x + 1. -/
  lfsrNext (x : Word) : Word :=
    BitVec.ofNat 32 (2 * x.toNat + b2n (x.getLsbD 31 ^^ x.getLsbD 21 ^^ x.getLsbD 1 ^^ x.getLsbD 0))

/-- Activate a row (R379, R380): it is selected for a neighbour refresh when the draw's low NBR_K bits are 0; a selection that finds four
pending in the bank becomes an RFM. -/
def activate (s : State) (p : Nat) (m : HbmPlace) : State :=
  let s := s.countActivate p m.bank
  let s := s.setPc p { s.pcSt p with rows := mapPut (s.pcSt p).rows m.bank m.row }
  if Fld.HBM_CFG_NBR_EN.of s.mem.cfg = 1 then
    let (d, s) := s.nbrDraw p
    if d.toNat % 2 ^ Fld.HBM_CFG_NBR_K.of s.mem.cfg = 0 then
      let x := s.pcSt p
      if 4 ≤ (x.nbr.filter (fun b => b.1 == m.bank)).length then (s.issueRfm p m.bank).count (Reg.HBM_COUNT 4)
      else s.setPc p { x with nbr := x.nbr ++ [(m.bank, m.row)] }
    else s
  else s

/-- A request is issued: a write is complete, but for the bursts that it leaves bytes of unwritten, which are read first (R377); a read waits
for its data. -/
def issueRequest (s : State) (p : Nat) (q : Queued) : State :=
  let m := hbmMap q.part.addr
  let s := if rowHit (s.pcSt p) q then s else s.activate p m
  let x := s.pcSt p
  if q.part.write then
    let rmw := (partialBursts q.part).filter (fun b => !s.poison.contains b)
    let x := { x with wq := x.wq.erase q, issued := if rmw.isEmpty then x.issued else x.issued ++ [{ q with rmw := rmw }] }
    (s.setPc p x).peak (Reg.HBM_PORT_MAXLAT q.part.port) Fld.HBM_PORT_MAXLAT_MAX q.age
  else s.setPc p { x with rq := x.rq.erase q, issued := x.issued ++ [q] }

/-- The rows beside a row (R380). Log: 122 (DESIGN CHOICE). -/
def neighbours (r : Nat) : List Nat := (if r = 0 then [] else [r - 1]) ++ (if r < 24575 then [r + 1] else [])

/-- A neighbour refresh: the rows beside the selected one are activated and precharged, which leaves the bank without an open row.
Log: 122 (DESIGN CHOICE). -/
def refreshNeighbours (s : State) (p bank row : Nat) : State :=
  let s := s.each (neighbours row) (fun s _ => s.countActivate p bank)
  (s.setPc p { s.pcSt p with rows := mapDel (s.pcSt p).rows bank }).count (Reg.HBM_COUNT 3)

/-- An idle slot serves a pending neighbour refresh, or else a refresh that is due (R375, R380). Log: 122 (DESIGN CHOICE). -/
def idleSlot (s : State) (p : Nat) : State :=
  let x := s.pcSt p
  match x.nbr with
  | (bank, row) :: t => (s.setPc p { x with nbr := t }).refreshNeighbours p bank row
  | [] => match x.due with
    | (b, _) :: _ => s.issueRefresh p b
    | [] => s

/-- One command slot of a pseudo-channel (R375), `elapsed` × 10 ns after the one before, with the parts that arrived. -/
def commandSlot (s : State) (p elapsed : Nat) (parts : List HbmPart) : State :=
  let s := s.ageQueues p elapsed
  let s := s.arrive p ((parts.filter (fun q => (hbmMap q.addr).pc == p && decide (q.addr < hbmSize))).map (fun q => { part := q }))
  let x := s.pcSt p
  match x.due.find? (fun d => decide (8 ≤ d.2)) with
  | some (b, _) => s.issueRefresh p b
  | none =>
    let wl := s.maxUrgency x.wq
    let drain := x.drain || decide (48 ≤ x.wq.length) || wl == 3
    let drain := drain && !(decide (x.wq.length ≤ 16) && decide (wl < 3))
    let s := s.setPc p { x with drain := drain }
    let x := s.pcSt p
    let cand := if drain then (if s.maxUrgency x.rq = 3 then x.rq.filter (fun q => s.urgency q == 3) else x.wq)
      else if x.rq.isEmpty then x.wq else x.rq
    match s.pick x cand with
    | some q => s.issueRequest p q
    | none => s.idleSlot p

/-- HBM_CE at most once per second per pseudo-channel (R382). Log: 123 (DEDUCED). -/
def hbmCe (s : State) (p a : Nat) : State :=
  let x := s.pcSt p
  let t := s.now.units
  if x.ceAt.all (fun t0 => decide (t0 + 65536000000000 ≤ t)) then
    (s.setPc p { x with ceAt := some t }).raise Ev.HBM_CE (a % 2 ^ 40 + p * 2 ^ 40)
  else s

/-- Errors that the check bits show in a burst with so many erroneous symbols (R381): one is corrected, two are detected; with more, whether
they are detected is free. Log: 224 (DESIGN CHOICE). -/
def symbolsSeen (s : State) (n : Nat) : Nat × State :=
  if n ≤ 2 then (n, s)
  else
    let (f, s) := s.free 2
    (1 + f, s)

/-- A corrected burst is written back unless a write to it is queued (R382, R386). -/
def writeBack (s : State) (burst port : Nat) : State :=
  let a := burst * 32
  if (s.pcSt (hbmMap a).pc).wq.any (fun w => (partBursts w.part).contains burst) then s
  else s.sendDone { port := ⟨port % 8, by omega⟩, write := true, addr := a, len := 32, data := (s.hbmRead a 32).map some }

/-- A correctable error of a read (R382). -/
def readCorrected (s : State) (p burst port : Nat) : State :=
  ((s.count (Reg.HBM_COUNT 0)).hbmCe p (burst * 32)).writeBack burst port

/-- An uncorrectable error of a read that its second read did not mend: poison for its reader, which is the write itself where the read
belongs to one (R377, R383, R384). Log: 124 (DEDUCED). -/
def readPoisoned (s : State) (q : Queued) (burst : Nat) : State :=
  let s := s.poisonBurst burst
  if q.part.write then s.rmwPoison burst q.part.port else (s.count (Reg.HBM_COUNT 1)).hbmUe burst q.part.port false

/-- The burst in which a returned read of `q` may meet errors: one that decodes as uncorrectable on every read (R383, R385) before any other;
else the one named. A burst that a queued write answers is not read (R376). Log: 124 (DEDUCED). -/
def readBurst (s : State) (q : Queued) (named : Nat) : Nat :=
  let l := if q.part.write then q.rmw else partBursts q.part
  (l.find? (fun b => s.poison.contains b && (q.part.write || !q.fwd.contains b))).getD (l.getD (named % max 1 l.length) 0)

/-- Erroneous symbols of a read of a burst: a poisoned burst decodes as uncorrectable (R385). Log: 124 (DEDUCED). -/
def symbolsAt (s : State) (burst n : Nat) : Nat × State := s.symbolsSeen (if s.poison.contains burst then 2 else n)

/-- What a burst of a returned read shows (R381–R383). Log: 224 (DESIGN CHOICE). -/
def readErrors (s : State) (p : Nat) (q : Queued) (e : ReadErrors) : State :=
  let s := s.count (Reg.HBM_COUNT 0) (b2n e.onDie)
  let l := if q.part.write then q.rmw else partBursts q.part
  let b := s.readBurst q e.burst
  if l.isEmpty ∨ (q.fwd.contains b ∧ !q.part.write) then s
  else
    let (n, s) := s.symbolsAt b e.first
    if n = 0 then s
    else if n = 1 then (if q.part.write then (s.count (Reg.HBM_COUNT 0)).hbmCe p (b * 32) else s.readCorrected p b q.part.port)
    else
      let (n, s) := s.symbolsAt b e.second
      if n ≤ 1 then s.count (Reg.HBM_COUNT 2) else s.readPoisoned q b

/-- Read data returns for the oldest issued read (R382–R384): corrected, mended by a second read, or poison for its reader; the read of a
partial write is not counted against LT (R377). Log: 12 (DESIGN CHOICE). -/
def readData' (s : State) (p elapsed : Nat) (e : ReadErrors) : State :=
  let x := s.pcSt p
  match x.issued with
  | [] => s
  | q :: t =>
    let s := s.setPc p { x with issued := t }
    if q.part.write then s.readErrors p q e
    else
      let s := s.peak (Reg.HBM_PORT_MAXLAT q.part.port) Fld.HBM_PORT_MAXLAT_MAX (q.age + elapsed)
      (s.readErrors p q e).readDone q

/-- A parity error report on a burst that a port wrote (R385): a reissue, or after three failed issues the poison pattern. -/
def parityError (s : State) (burst port : Nat) : State :=
  let n := (mapFind s.mem.reissue burst).getD 0 + 1
  if n < 3 then ({ s with mem := { s.mem with reissue := mapPut s.mem.reissue burst n } } : State).count (Reg.HBM_COUNT 5)
  else
    let s := { s with mem := { s.mem with reissue := mapDel s.mem.reissue burst } }
    ((s.poisonBurst burst).count (Reg.HBM_COUNT 7)).hbmUe burst port true

/-- A stack's temperature (R378, R465). -/
def stackTemp (s : State) (k : Nat) (t : Int) : State :=
  let s := s.set (Reg.HBM_STACK k) Fld.HBM_STACK_TEMP_C (ofS 8 (satS 8 t))
  let s := s.set (Reg.HBM_STACK k) Fld.HBM_STACK_RATE (if 95 < t then 2 else if 85 < t then 1 else 0)
  let hot := s.get Reg.HBM_STATUS Fld.HBM_STATUS_HOT
  let now := decide (100 ≤ t)
  let s := s.raiseIf (now && !bitAt hot k) Ev.HBM_HOT k
  let s := s.set Reg.HBM_STATUS Fld.HBM_STATUS_HOT (if bitAt hot k then (if now then hot else hot - 2 ^ k) else (if now then hot + 2 ^ k else hot))
  if 105 ≤ t then s.thermalTrip (16 + k) else s

/-- The patrol scrub reads its next burst (R386): a correction is written back, an uncorrectable error poisons nothing.
Log: 123 (DEDUCED). -/
def scrub (s : State) (e : ReadErrors) : State :=
  if Fld.HBM_CFG_SCRUB_EN.of s.mem.cfg = 1 ∧ s.flag Reg.HBM_STATUS Fld.HBM_STATUS_ALL_TRAINED then
    let b := s.mem.scrubAt
    let s := { s with mem := { s.mem with scrubAt := if (b + 1) * 32 < hbmSize then b + 1 else 0 } }
    let s := s.count (Reg.HBM_COUNT 0) (b2n e.onDie)
    let (n, s) := s.symbolsAt b e.first
    if n = 0 then s
    else if n = 1 then (s.count (Reg.HBM_COUNT 6)).writeBack b 7
    else
      let (n, s) := s.symbolsAt b e.second
      if n ≤ 1 then s.count (Reg.HBM_COUNT 2) else s.hbmUe b 7 false
  else s

end State

/-- HBM_COMMAND_SLOT (R375): the time since the channel's last slot in units of 10 ns, and the parts that the dedicated ports
present. -/
def execHbmCommandSlot (pc : Fin 192) (elapsed : Nat) (parts : List HbmPart) (s : State) : Result := ok (s.commandSlot pc elapsed parts)

/-- HBM_READ_DATA (R381–R383): the oldest read issued on a pseudo-channel returns. -/
def execHbmReadData (pc : Fin 192) (elapsed : Nat) (errors : ReadErrors) (s : State) : Result := ok (s.readData' pc elapsed errors)

/-- HBM_PARITY_ERROR (R385). -/
def execHbmParityError (report : ParityReport) (s : State) : Result := ok (s.parityError report.burst report.port)

/-- REFRESH_DUE (R378): at most eight are postponed. -/
def execRefreshDue (pc : Fin 192) (bank : Fin 48) (s : State) : Result :=
  ok (let x := s.pcSt pc
    s.setPc pc { x with due := mapPut x.due bank (min 8 ((mapFind x.due bank).getD 0 + 1)) })

/-- HBM_TEMP_READ (R378): a stack's temperature in °C. -/
def execHbmTempRead (stack : Fin 6) (celsius : Int) (s : State) : Result := ok (s.stackTemp stack celsius)

/-- SCRUB_READ (R386). -/
def execScrubRead (errors : ReadErrors) (s : State) : Result := ok (s.scrub errors)

end Sys2Proof.Machine
end

