-- ==== Sys2Proof/Machine/TwinCfg.lean ====
section
/-! DEFINITION. Messages of the twin partner that end in a reset or a commit (R495, R532, R540, R562). -/

namespace Sys2Proof.Machine

namespace State

/-- TAKEN: a yielded unit stops, TWIN_YIELD completes, and a full reset that has waited for it comes (R495, R532, R540, R559).
Log: 171 (DEDUCED). -/
def takenArrived (s : State) : State :=
  let cmds := s.twin.cmds
  let s := ({ s with twin := { s.twin with cmds := [] } } : State).stopYielded
  let s := s.each cmds (fun s r => s.finishSt r St.OK)
  if s.sys.resetOnTaken then s.fullReset else s

/-- The whole set has arrived: settings that differ from the unit's own are applied in block order and committed; a set that does not
differ changes nothing (R562). Log: 171 (DEDUCED). -/
def applyConfig (s : State) (blocks : List (Nat × List Byte)) : State :=
  let bytes := (List.range s.twin.cfgCount).flatMap (fun n => (mapFind blocks n).getD [])
  let s : State := { s with twin := { s.twin with cfgBlocks := [], cfgCount := 0, cfgSeq := 0 } }
  if bytes = s.settings then s
  else
    let s := if s.running then s.stopRun else s
    (s.each (regPairs bytes) (fun s p => s.fullWrite .housekeeping p.1 p.2)).commitStart

/-- A configuration update block arrives on a unit that is not active (R497, R562): one that fails its check or has been accepted
already is discarded; a set of another image or of another size starts afresh. Log: 174 (DESIGN CHOICE). -/
def configBlock (s : State) (b : List Byte) : State :=
  let seq := fieldAt b 4 4
  let n := fieldAt b 8 2
  let count := fieldAt b 10 2
  if !s.standby ∨ s.sys.checking ∨ byteAt b 1 ≠ 1 ∨ fieldAt b 28 4 ≠ blockCrc b ∨ count ≤ n then s
  else
    let had := if s.twin.cfgSeq = seq ∧ s.twin.cfgCount = count then s.twin.cfgBlocks else []
    if (mapFind had n).isSome then s
    else
      let blocks := mapPut had n (b.drop 32)
      let s : State := { s with twin := { s.twin with cfgBlocks := blocks, cfgCount := count, cfgSeq := seq } }
      if blocks.length = count then s.applyConfig blocks else s

end State

/-- TAKEN (R532, R540): VC 0 of the twin link. -/
def execTaken (s : State) : Result := ok (s.onTwin0 0x82 (fun _ s => s.takenArrived))

/-- CONFIG_UPDATE_BLOCK (R562): VC 3 of the twin link. -/
def execConfigUpdateBlock (s : State) : Result := ok (s.onTwin 3 0x63 (fun m s => s.configBlock m))

end Sys2Proof.Machine
end

