-- ==== Sys2Proof/Machine/Xbar.lean ====
section
/-! DEFINITION. The chip matrix (R34–R37, R389–R397): decoding, grants by class and round robin, targets, promotion, reset of master ports.
Targets: 0–11 HBM, two per stack, 12 boot ROM, 13 working SRAM, 14 register space, 15 PCIe outbound, 16 the default target. -/

namespace Sys2Proof.Machine

/-- Size of the working SRAM and of the boot ROM. -/
def sramSize : Nat := 2 ^ 20
def romSize : Nat := 2 ^ 17

namespace State

/-! ### Decoding (R370, R390, R391) -/

/-- An HBM address. -/
def hbmTarget (a : Nat) : Nat × Nat := if a < hbmSize then (2 * ((hbmMap a).pc / 32) + (hbmMap a).pc % 32 / 16, a) else (16, a)

/-- A BAR0 offset. -/
def regTarget (a : Nat) : Nat × Nat := if (blockOf a).isSome then (14, a) else (16, a)

/-- An address of the housekeeping controller (R391), before or after the swap. -/
def houseTarget (s : State) (a : Nat) : Nat × Nat :=
  let swap := s.flag Reg.GLB_REMAP Fld.GLB_REMAP_SWAP
  if a < romSize then (if swap then (13, a) else (12, a))
  else if a < 0x100000 then (if swap then (13, a) else (16, a))
  else if a < 0x100000 + romSize then (if swap then (12, a - 0x100000) else (13, a - 0x100000))
  else if a < 0x200000 then (if swap then (16, a) else (13, a - 0x100000))
  else if 0x10000000 ≤ a ∧ a < 0x14000000 then regTarget (a - 0x10000000)
  else if 0x40000000 ≤ a ∧ a < 0x80000000 then
    hbmTarget (s.get Reg.XBAR_HKC_WIN Fld.XBAR_HKC_WIN_BASE_GIB * 2 ^ 30 + (a - 0x40000000))
  else (16, a)

/-- Target and address of a request; a master that is not admitted, and every other case, goes to the default target.
Log: 128 (DEDUCED). -/
def matrixTarget (s : State) (r : MatrixReq) : Nat × Nat :=
  match r.space.val with
  | 0 => if 1 ≤ r.master.val then hbmTarget r.addr else (16, r.addr)
  | 1 => if 1 ≤ r.master.val ∧ r.master.val ≤ 4 ∧ s.flag Reg.DMA_PCIE_STATUS Fld.DMA_PCIE_STATUS_BUS_MASTER then (15, r.addr)
    else (16, r.addr)
  | 2 => if r.master.val = 0 ∨ r.master.val = 23 then regTarget r.addr else (16, r.addr)
  | _ => if r.master.val = 23 then s.houseTarget r.addr else (16, r.addr)

/-- The form of a request (R389): 1–4 beats within one aligned 256-byte block. Log: 128 (DEDUCED). -/
def requestOk (r : MatrixReq) : Bool := decide (1 ≤ r.beats.val) && decide (r.addr % 256 + 64 * r.beats.val ≤ 256 || r.beats.val = 1)

/-! ### Targets -/

/-- Bytes of the working SRAM; what it holds where the matrix has not written is not stated. Log: 120 (DESIGN CHOICE). -/
def sramByte (s : State) (a : Nat) : Byte := (mapFind s.xbar.sram a).getD (Config.sramByte s.hbmEpoch a)

/-- An answer of `n` bytes. -/
def matrixBytes (n : Nat) (f : Nat → Byte) : List Byte := (List.range n).map f

/-- A write burst that has been served to its end takes effect at its target (R389, R393); it carries the target's own address.
Log: 125 (DESIGN CHOICE). -/
def completeBurst (s : State) (t : Nat) (r : MatrixReq) : State :=
  let a := r.addr
  let data := r.data.take (64 * r.beats)
  if t < 12 then
    let p := (hbmMap a).pc
    let part : HbmPart := { port := masterPort r.master, write := true, addr := a, len := data.length, data := data.map some }
    (s.arrive p [{ part := part }]).respond r.master (some [])
  else if t = 13 then
    let sram := data.zipIdx.foldl (fun m x => mapPut m (a + x.2) x.1) s.xbar.sram
    ({ s with xbar := { s.xbar with sram := sram } } : State).respond r.master (some [])
  else if s.hostFree then (s.matrixOut a data).respond r.master (some [])
  else s.respond r.master none

/-- The burst in progress at a target comes to its end. -/
def endActive (s : State) (t : Nat) : State :=
  let mine := s.xbar.active.filter (fun w => w.1 == t)
  let s : State := { s with xbar := { s.xbar with active := s.xbar.active.filter (fun w => w.1 != t) } }
  s.each mine (fun s w => s.completeBurst t w.2)

/-- One register access: by the host or by the housekeeping controller (R389, R390). Log: 128 (DEDUCED). -/
def registerAccess (s : State) (r : MatrixReq) (a : Nat) : State :=
  let w : Writer := if r.master.val = 23 then .housekeeping else .host
  let a := a / 4 * 4
  if r.write then (s.matrixWrite w a (unle (r.data.take 4))).respond r.master (some [])
  else
    let t := s.matrixRead r.master a
    let v := le 4 t.readData.toNat
    (if r.master.val = 23 then { t with readData := s.readData } else t).respond r.master (some v)

/-- A request at the default target (R35, R395): a read from PCIe inbound is completed with zero data, every other one with an error. -/
def defaultTarget (s : State) (r : MatrixReq) : State :=
  let s := s.decodeError r.master r.space r.addr r.write
  if r.master.val = 0 ∧ !r.write then ({ s with readData := 0 } : State).respond 0 (some (zeros 4)) else s.respond r.master none

/-- A double-bit error on the datapath (R394): an error response, no effect at the target. Log: 129 (DEDUCED). -/
def datapathError (s : State) (r : MatrixReq) : State :=
  let kind := s.get (Reg.XBAR_ERR_INFO r.master) Fld.XBAR_ERR_INFO_KIND
  let beats := s.get (Reg.XBAR_ERR_INFO r.master) Fld.XBAR_ERR_INFO_BEATS
  let s := (s.xbarErr r.master kind r.space r.addr r.write beats).setFlag (Reg.XBAR_ERR_INFO r.master) Fld.XBAR_ERR_INFO_UE true
  ((s.count (Reg.XBAR_COUNT 2)).raise Ev.XBAR_UE (xbarDetail r.master r.space r.addr r.write)).respond r.master none

/-- A granted request at its target. A write burst is in progress until the target's next grant; a read captures its data at once. -/
def granted (s : State) (t : Nat) (r : MatrixReq) : State :=
  let (_, a) := s.matrixTarget r
  let n := 64 * r.beats.val
  if t = 16 then s.defaultTarget r
  else if t = 14 then s.registerAccess r a
  else if r.write ∧ t ≠ 12 then
    let space : Fin 4 := if t < 12 then 0 else if t = 13 then 3 else 1
    { s with xbar := { s.xbar with active := s.xbar.active ++ [(t, { r with space := space, addr := a })] } }
  else if t = 12 then s.respond r.master (some (if r.write then [] else matrixBytes n (fun i => Config.romByte (a + i))))
  else if t = 13 then s.respond r.master (some (matrixBytes n (fun i => s.sramByte (a + i))))
  else if t = 15 then (if s.hostFree && s.tagFree then s.hostRead a (min s.host.mrrs n) (.matrix r.master [] (n - min s.host.mrrs n)) s.dataRo else s.respond r.master none)
  else
    let part : HbmPart := { port := masterPort r.master, write := false, addr := a, len := n, data := [] }
    s.arrive (hbmMap a).pc [{ part := part, master := some r.master }]

/-! ### Arbitration (R34, R393) -/

/-- The requests at a target that contend for its grant, in order of arrival: every waiting one but those behind an older one of their
master to the same 256-byte block (R393). Log: 128 (DEDUCED). -/
def contenders (t : Nat) (older : List MatrixReq) : List (Nat × MatrixReq) → List MatrixReq
  | [] => []
  | w :: l =>
    if w.1 ≠ t then contenders t older l
    else if older.any (fun r => r.master == w.2.master && r.addr / 256 == w.2.addr / 256) then contenders t older l
    else w.2 :: contenders t (w.2 :: older) l

/-- Has the memory controller room for a request's part? A request without room waits at its HBM target, and those of other ports go on
(R373). Other targets always have. Log: 127 (DEDUCED). -/
def hbmRoom (s : State) (t : Nat) (r : MatrixReq) : Bool :=
  if t < 12 then
    let a := (s.matrixTarget r).2
    let p := (hbmMap a).pc
    let part : HbmPart := { port := masterPort r.master, write := r.write, addr := a, len := 64 * r.beats, data := r.data.map some }
    !s.waitsOn p (masterPort r.master).val && (if r.write then s.writeRoom p part else decide ((s.pcSt p).rq.length < 64))
  else true

/-- The request that a target grants (R34): the lowest class number, then round robin among the masters that have a request of that class,
then the master's oldest one. Log: 128 (DEDUCED). -/
def choose (s : State) (t : Nat) : Option MatrixReq :=
  let hs := (contenders t [] s.xbar.waiting).filter (s.hbmRoom t)
  let cls := (hs.map (·.cls.val)).foldl min 3
  let top := hs.filter (fun r => r.cls.val == cls)
  let masters := (List.range 24).filter (fun m => top.any (fun r => r.master.val == m))
  let last := (mapFind s.xbar.last (4 * t + cls)).getD 23
  let next := ((masters.find? (fun m => decide (last < m))).or masters.head?).getD 24
  top.find? (fun r => r.master.val == next)

/-- Remove the first occurrence of a request. Log: 127 (DEDUCED). -/
def dropWaiting (t : Nat) (r : MatrixReq) : List (Nat × MatrixReq) → List (Nat × MatrixReq)
  | [] => []
  | w :: l => if w.1 = t ∧ w.2 = r then l else w :: dropWaiting t r l

/-- The class of the traffic that a master serves, where the spec fixes it: 1 the baler (R290), 1 harvests, 2 the glean engine (R34, R317).
Log: 225 (DEDUCED). -/
def classed (r : MatrixReq) : MatrixReq :=
  if r.master.val = 5 ∨ r.master.val = 6 ∨ r.master.val = 19 ∨ r.master.val = 20 then { r with cls := 1 }
  else if 7 ≤ r.master.val ∧ r.master.val ≤ 18 then { r with cls := 2 }
  else r

/-- One grant of a target, with the requests that have arrived on the matrix and the SECDED outcome of the granted burst (R394). An HBM target
whose burst in progress finds its queue full grants nothing (R373). Log: 125 (DESIGN CHOICE). -/
def matrixGrantAt (s : State) (t : Nat) (arrivals : List MatrixReq) (ecc : Secded) : State :=
  let stuck := s.xbar.active.any (fun w => w.1 == t && !s.hbmRoom t w.2)
  let s := if stuck then s else s.endActive t
  let new := (arrivals.filter requestOk).map (fun r => ((s.matrixTarget r).1, classed r))
  let s : State := { s with xbar := { s.xbar with waiting := s.xbar.waiting ++ new } }
  match (if stuck then none else s.choose t) with
  | none => s
  | some r =>
    let s : State := { s with xbar := { s.xbar with
      waiting := dropWaiting t r s.xbar.waiting, last := mapPut s.xbar.last (4 * t + r.cls.val) r.master.val } }
    match ecc with
    | .double => s.datapathError r
    | .single => (s.count (Reg.XBAR_COUNT 1)).granted t r
    | .clean => s.granted t r

/-- Promote one waiting request of a master by one class: the one with `n` older ones of that master before it. -/
def promote (m : Nat) : Nat → List (Nat × MatrixReq) → List (Nat × MatrixReq)
  | _, [] => []
  | n, w :: l =>
    if w.2.master.val = m then
      match n with
      | 0 => (w.1, { w.2 with cls := ⟨w.2.cls.val - 1, by omega⟩ }) :: l
      | n + 1 => w :: promote m n l
    else w :: promote m n l

end State

/-- MATRIX_GRANT (R34, R389, R390, R394). Log: 198 (DESIGN CHOICE). -/
def execMatrixGrant (target : Fin 17) (arrivals : List MatrixReq) (ecc : Secded) (s : State) : Result :=
  ok (s.matrixGrantAt target arrivals ecc)

/-- MATRIX_PROMOTION (R34): a waiting request has waited 4 µs. -/
def execMatrixPromotion (req : WaitingReq) (s : State) : Result :=
  ok { s with xbar := { s.xbar with waiting := State.promote req.master req.older s.xbar.waiting } }

/-- XBAR_MRST (R396): the master ports named, and how many beats of their bursts in progress had been delivered. -/
def execXbarMrst (ports : BitVec 24) (delivered : Nat) (s : State) : Result :=
  ok (if s.served then s.each ((List.range 24).filter (bitAt ports.toNat)) (fun s m => s.portReset m (some delivered)) else s)

end Sys2Proof.Machine
end

