-- ==== Sys2Proof/Machine/Dispatch.lean ====
section
/-! DEFINITION. The dispatch: one arm per command, each one direct call of its meaning. -/

namespace Sys2Proof.Machine

/-- What a command does to everything but the queue. -/
def exec (i : Instr) (s : State) : Host.Outcome State Fault Refusal :=
  match i with
  | .registerWrite writer offset size value => Sys2Proof.Machine.execRegisterWrite writer offset size value s
  | .rcRead offset => Sys2Proof.Machine.execRcRead offset s
  | .harrowDcReRead => Sys2Proof.Machine.execHarrowDcReRead s
  | .weedProbeSkRead => Sys2Proof.Machine.execWeedProbeSkRead s
  | .timeNowNsRead => Sys2Proof.Machine.execTimeNowNsRead s
  | .ethStrSeqLoRead stream => Sys2Proof.Machine.execEthStrSeqLoRead stream s
  | .refBuildoutLoRead => Sys2Proof.Machine.execRefBuildoutLoRead s
  | .adcQueueEntryRead => Sys2Proof.Machine.execAdcQueueEntryRead s
  | .msixTableWrite line byte access => Sys2Proof.Machine.execMsixTableWrite line byte access s
  | .doorbell ring byte access => Sys2Proof.Machine.execDoorbell ring byte access s
  | .cqDoorbell ring byte access => Sys2Proof.Machine.execCqDoorbell ring byte access s
  | .cqArm ring byte write => Sys2Proof.Machine.execCqArm ring byte write s
  | .commit => Sys2Proof.Machine.execCommit s
  | .stop => Sys2Proof.Machine.execStop s
  | .glbCtlReset => Sys2Proof.Machine.execGlbCtlReset s
  | .glbRemapSwap => Sys2Proof.Machine.execGlbRemapSwap s
  | .glbBootGo => Sys2Proof.Machine.execGlbBootGo s
  | .hostImageReadEnd image keyGood signatureGood firmwareGood => Sys2Proof.Machine.execHostImageReadEnd image keyGood signatureGood firmwareGood s
  | .islandReset => Sys2Proof.Machine.execIslandReset s
  | .pwrOkRise bootSrc ewesenMode twinPref => Sys2Proof.Machine.execPwrOkRise bootSrc ewesenMode twinPref s
  | .pwrOkFall => Sys2Proof.Machine.execPwrOkFall s
  | .perstNAssert => Sys2Proof.Machine.execPerstNAssert s
  | .perstNRelease => Sys2Proof.Machine.execPerstNRelease s
  | .pcieHotReset => Sys2Proof.Machine.execPcieHotReset s
  | .pcieLinkDown => Sys2Proof.Machine.execPcieLinkDown s
  | .fuseStageEnd corrected uncorrectable => Sys2Proof.Machine.execFuseStageEnd corrected uncorrectable s
  | .configImageChecked image keyGood signatureGood firmwareGood => Sys2Proof.Machine.execConfigImageChecked image keyGood signatureGood firmwareGood s
  | .firmwareStarted version copyGood selfTestGood => Sys2Proof.Machine.execFirmwareStarted version copyGood selfTestGood s
  | .firmwareTimeout => Sys2Proof.Machine.execFirmwareTimeout s
  | .hbmTrainingEnd results => Sys2Proof.Machine.execHbmTrainingEnd results s
  | .lanesStageEnd failed => Sys2Proof.Machine.execLanesStageEnd failed s
  | .watchdogExpiry => Sys2Proof.Machine.execWatchdogExpiry s
  | .loClkLoss => Sys2Proof.Machine.execLoClkLoss s
  | .loClkReturn => Sys2Proof.Machine.execLoClkReturn s
  | .adaptationUpdate lane ctle dfe1 dfe2 dfe3 height width => Sys2Proof.Machine.execAdaptationUpdate lane ctle dfe1 dfe2 dfe3 height width s
  | .laneEqFreeze lane on => Sys2Proof.Machine.execLaneEqFreeze lane on s
  | .cdrLockLoss loss => Sys2Proof.Machine.execCdrLockLoss loss s
  | .adaptDone lane => Sys2Proof.Machine.execAdaptDone lane s
  | .adaptTimeout lane => Sys2Proof.Machine.execAdaptTimeout lane s
  | .alignmentMarker lane marker => Sys2Proof.Machine.execAlignmentMarker lane marker s
  | .searchTimeout lane => Sys2Proof.Machine.execSearchTimeout lane s
  | .eidle link => Sys2Proof.Machine.execEidle link s
  | .lossOfSignal loss => Sys2Proof.Machine.execLossOfSignal loss s
  | .fastExit link amp long => Sys2Proof.Machine.execFastExit link amp long s
  | .fastExitMarkerTimeout link => Sys2Proof.Machine.execFastExitMarkerTimeout link s
  | .txRampEnd link => Sys2Proof.Machine.execTxRampEnd link s
  | .laneEyeStart lane => Sys2Proof.Machine.execLaneEyeStart lane s
  | .eyeScanDone lane errors => Sys2Proof.Machine.execEyeScanDone lane errors s
  | .ingestPacket link blocks gleanBacklog => Sys2Proof.Machine.execIngestPacket link blocks gleanBacklog s
  | .dataFlit link flit => Sys2Proof.Machine.execDataFlit link flit s
  | .nakFlit link flit => Sys2Proof.Machine.execNakFlit link flit s
  | .nullFlit link flit => Sys2Proof.Machine.execNullFlit link flit s
  | .initFlit link flit => Sys2Proof.Machine.execInitFlit link flit s
  | .replayTimeout link => Sys2Proof.Machine.execReplayTimeout link s
  | .nakRepeat link => Sys2Proof.Machine.execNakRepeat link s
  | .retrainTimeout link => Sys2Proof.Machine.execRetrainTimeout link s
  | .failedRetry link => Sys2Proof.Machine.execFailedRetry link s
  | .sheafRelease channel gleanBacklog => Sys2Proof.Machine.execSheafRelease channel gleanBacklog s
  | .waitExpiry channel gleanBacklog => Sys2Proof.Machine.execWaitExpiry channel gleanBacklog s
  | .ingestMask src table => Sys2Proof.Machine.execIngestMask src table s
  | .ingestGain src table => Sys2Proof.Machine.execIngestGain src table s
  | .harrowReset src => Sys2Proof.Machine.execHarrowReset src s
  | .harrowDc src => Sys2Proof.Machine.execHarrowDc src s
  | .harrowGain src table => Sys2Proof.Machine.execHarrowGain src table s
  | .weedCtl src => Sys2Proof.Machine.execWeedCtl src s
  | .turningWrite channel => Sys2Proof.Machine.execTurningWrite channel s
  | .passDispatch => Sys2Proof.Machine.execPassDispatch s
  | .operandBusTransfer field furrow operand good => Sys2Proof.Machine.execOperandBusTransfer field furrow operand good s
  | .bankSpill field slot bank buffer path => Sys2Proof.Machine.execBankSpill field slot bank buffer path s
  | .recomputeStart => Sys2Proof.Machine.execRecomputeStart s
  | .recomputeEnd field furrow banks buffers paths => Sys2Proof.Machine.execRecomputeEnd field furrow banks buffers paths s
  | .recomputeDeadline field furrow => Sys2Proof.Machine.execRecomputeDeadline field furrow s
  | .governorStage => Sys2Proof.Machine.execGovernorStage s
  | .governorHoldExpiry => Sys2Proof.Machine.execGovernorHoldExpiry s
  | .corrRetire src => Sys2Proof.Machine.execCorrRetire src s
  | .corrPlaceFreeze on => Sys2Proof.Machine.execCorrPlaceFreeze on s
  | .granarySpill channel tile poison badCounts => Sys2Proof.Machine.execGranarySpill channel tile poison badCounts s
  | .harvestSegment view => Sys2Proof.Machine.execHarvestSegment view s
  | .holdExpiry group => Sys2Proof.Machine.execHoldExpiry group s
  | .granStart src => Sys2Proof.Machine.execGranStart src s
  | .granStop src => Sys2Proof.Machine.execGranStop src s
  | .beamLoad src data => Sys2Proof.Machine.execBeamLoad src data s
  | .beamSwap src => Sys2Proof.Machine.execBeamSwap src s
  | .beamPeakSet src => Sys2Proof.Machine.execBeamPeakSet src s
  | .partialBeamFlit link => Sys2Proof.Machine.execPartialBeamFlit link s
  | .partialWaitExpiry channel => Sys2Proof.Machine.execPartialWaitExpiry channel s
  | .exportRecordTimeout => Sys2Proof.Machine.execExportRecordTimeout s
  | .gleanFreeze src => Sys2Proof.Machine.execGleanFreeze src s
  | .gleanResume src => Sys2Proof.Machine.execGleanResume src s
  | .gleanDump src => Sys2Proof.Machine.execGleanDump src s
  | .dumpEnd overtaken => Sys2Proof.Machine.execDumpEnd overtaken s
  | .gleanLenShadowWrite value => Sys2Proof.Machine.execGleanLenShadowWrite value s
  | .egressTransmit port elapsed frames => Sys2Proof.Machine.execEgressTransmit port elapsed frames s
  | .ethLinkDown port cut => Sys2Proof.Machine.execEthLinkDown port cut s
  | .ethLinkUp port => Sys2Proof.Machine.execEthLinkUp port s
  | .ethFrameReceive port frame fcsGood => Sys2Proof.Machine.execEthFrameReceive port frame fcsGood s
  | .mgmtFrameReceive frame fcsGood fine => Sys2Proof.Machine.execMgmtFrameReceive frame fcsGood fine s
  | .mgmtFrameTransmit frame fine => Sys2Proof.Machine.execMgmtFrameTransmit frame fine s
  | .ethStreamSet src table => Sys2Proof.Machine.execEthStreamSet src table s
  | .descriptorFetch ring count => Sys2Proof.Machine.execDescriptorFetch ring count s
  | .copy ring => Sys2Proof.Machine.execCopy ring s
  | .link ring => Sys2Proof.Machine.execLink ring s
  | .nop ring => Sys2Proof.Machine.execNop ring s
  | .buffer ring => Sys2Proof.Machine.execBuffer ring s
  | .dmaBurst channel elapsed => Sys2Proof.Machine.execDmaBurst channel elapsed s
  | .hostReadCompletion tag answer => Sys2Proof.Machine.execHostReadCompletion tag answer s
  | .completionTimeout tag => Sys2Proof.Machine.execCompletionTimeout tag s
  | .completionRecordWrite ring => Sys2Proof.Machine.execCompletionRecordWrite ring s
  | .deliveryMessage ring => Sys2Proof.Machine.execDeliveryMessage ring s
  | .cqCoalesceTimeout ring => Sys2Proof.Machine.execCqCoalesceTimeout ring s
  | .dmaChAbort channel => Sys2Proof.Machine.execDmaChAbort channel s
  | .dmaChResume channel => Sys2Proof.Machine.execDmaChResume channel s
  | .ringEnable ring => Sys2Proof.Machine.execRingEnable ring s
  | .ringPause ring => Sys2Proof.Machine.execRingPause ring s
  | .ringResume ring => Sys2Proof.Machine.execRingResume ring s
  | .ringReset ring => Sys2Proof.Machine.execRingReset ring s
  | .hbmCommandSlot pc elapsed parts => Sys2Proof.Machine.execHbmCommandSlot pc elapsed parts s
  | .hbmReadData pc elapsed errors => Sys2Proof.Machine.execHbmReadData pc elapsed errors s
  | .hbmParityError report => Sys2Proof.Machine.execHbmParityError report s
  | .refreshDue pc bank => Sys2Proof.Machine.execRefreshDue pc bank s
  | .hbmTempRead stack celsius => Sys2Proof.Machine.execHbmTempRead stack celsius s
  | .scrubRead errors => Sys2Proof.Machine.execScrubRead errors s
  | .matrixGrant target arrivals ecc => Sys2Proof.Machine.execMatrixGrant target arrivals ecc s
  | .matrixPromotion req => Sys2Proof.Machine.execMatrixPromotion req s
  | .xbarMrst ports delivered => Sys2Proof.Machine.execXbarMrst ports delivered s
  | .dpllUpdate theta => Sys2Proof.Machine.execDpllUpdate theta s
  | .monitorSecond measured => Sys2Proof.Machine.execMonitorSecond measured s
  | .monitorWindowEnd => Sys2Proof.Machine.execMonitorWindowEnd s
  | .referenceAbsent reference => Sys2Proof.Machine.execReferenceAbsent reference s
  | .buildoutComplete offset => Sys2Proof.Machine.execBuildoutComplete offset s
  | .stageDwellEnd => Sys2Proof.Machine.execStageDwellEnd s
  | .holdoverExpired => Sys2Proof.Machine.execHoldoverExpired s
  | .ppsOutEdge => Sys2Proof.Machine.execPpsOutEdge s
  | .alignmentPulse => Sys2Proof.Machine.execAlignmentPulse s
  | .refSelect src => Sys2Proof.Machine.execRefSelect src s
  | .refSet src => Sys2Proof.Machine.execRefSet src s
  | .refBw src => Sys2Proof.Machine.execRefBw src s
  | .refAlign src => Sys2Proof.Machine.execRefAlign src s
  | .refAlignTimeout => Sys2Proof.Machine.execRefAlignTimeout s
  | .refOutSet src => Sys2Proof.Machine.execRefOutSet src s
  | .refCtlRun on => Sys2Proof.Machine.execRefCtlRun on s
  | .refCtlFreeze on => Sys2Proof.Machine.execRefCtlFreeze on s
  | .timeBaseTick => Sys2Proof.Machine.execTimeBaseTick s
  | .ppsEdge pin fine => Sys2Proof.Machine.execPpsEdge pin fine s
  | .timeSet src => Sys2Proof.Machine.execTimeSet src s
  | .timeStep src => Sys2Proof.Machine.execTimeStep src s
  | .timeOffset src => Sys2Proof.Machine.execTimeOffset src s
  | .timeServo src => Sys2Proof.Machine.execTimeServo src s
  | .servoCoast => Sys2Proof.Machine.execServoCoast s
  | .timeCtlFreeze on => Sys2Proof.Machine.execTimeCtlFreeze on s
  | .timeEvtEdge pin fine falling => Sys2Proof.Machine.execTimeEvtEdge pin fine falling s
  | .pinPulseEnd pin => Sys2Proof.Machine.execPinPulseEnd pin s
  | .almSet src table => Sys2Proof.Machine.execAlmSet src table s
  | .almCancel src => Sys2Proof.Machine.execAlmCancel src s
  | .almanacFiring => Sys2Proof.Machine.execAlmanacFiring s
  | .adcSingleStart channel => Sys2Proof.Machine.execAdcSingleStart channel s
  | .conversionEnd code => Sys2Proof.Machine.execConversionEnd code s
  | .guardConversionDue => Sys2Proof.Machine.execGuardConversionDue s
  | .regLapDue => Sys2Proof.Machine.execRegLapDue s
  | .adcInject src => Sys2Proof.Machine.execAdcInject src s
  | .adcBatchTimeout => Sys2Proof.Machine.execAdcBatchTimeout s
  | .avsPeriod slack => Sys2Proof.Machine.execAvsPeriod slack s
  | .avsTransactionEnd rail answer => Sys2Proof.Machine.execAvsTransactionEnd rail answer s
  | .avsCfgFreeze on => Sys2Proof.Machine.execAvsCfgFreeze on s
  | .droopDetect rail => Sys2Proof.Machine.execDroopDetect rail s
  | .droopRecover rail => Sys2Proof.Machine.execDroopRecover rail s
  | .dacSlewStep channel => Sys2Proof.Machine.execDacSlewStep channel s
  | .ldacNFall => Sys2Proof.Machine.execLdacNFall s
  | .dacCtlLoad => Sys2Proof.Machine.execDacCtlLoad s
  | .dacClearNAssert => Sys2Proof.Machine.execDacClearNAssert s
  | .dacClearNRelease => Sys2Proof.Machine.execDacClearNRelease s
  | .dacSet src => Sys2Proof.Machine.execDacSet src s
  | .dacPark src => Sys2Proof.Machine.execDacPark src s
  | .dacRange src => Sys2Proof.Machine.execDacRange src s
  | .eventQueueFlush queue => Sys2Proof.Machine.execEventQueueFlush queue s
  | .evtSrcArm source => Sys2Proof.Machine.execEvtSrcArm source s
  | .evtRaise source => Sys2Proof.Machine.execEvtRaise source s
  | .evtEnable on => Sys2Proof.Machine.execEvtEnable on s
  | .pcieCreditStall => Sys2Proof.Machine.execPcieCreditStall s
  | .pcieFatalError status => Sys2Proof.Machine.execPcieFatalError status s
  | .crcScan ring => Sys2Proof.Machine.execCrcScan ring s
  | .weaveHello link => Sys2Proof.Machine.execWeaveHello link s
  | .delayMeasure fine => Sys2Proof.Machine.execDelayMeasure fine s
  | .delayReq link fine => Sys2Proof.Machine.execDelayReq link fine s
  | .delayResp link fine => Sys2Proof.Machine.execDelayResp link fine s
  | .pulseMarkDue => Sys2Proof.Machine.execPulseMarkDue s
  | .pulseMark link fine => Sys2Proof.Machine.execPulseMark link fine s
  | .forwardedUnit link gleanBacklog => Sys2Proof.Machine.execForwardedUnit link gleanBacklog s
  | .maskUpdate link => Sys2Proof.Machine.execMaskUpdate link s
  | .weederMessage arrival => Sys2Proof.Machine.execWeederMessage arrival s
  | .weaveStatusDue => Sys2Proof.Machine.execWeaveStatusDue s
  | .weaveStatusMessage link => Sys2Proof.Machine.execWeaveStatusMessage link s
  | .granRelay link => Sys2Proof.Machine.execGranRelay link s
  | .flagWaitTimeout channel => Sys2Proof.Machine.execFlagWaitTimeout channel s
  | .decideWaitTimeout group => Sys2Proof.Machine.execDecideWaitTimeout group s
  | .heartbeatDue => Sys2Proof.Machine.execHeartbeatDue s
  | .heartbeat => Sys2Proof.Machine.execHeartbeat s
  | .progressDue => Sys2Proof.Machine.execProgressDue s
  | .progress => Sys2Proof.Machine.execProgress s
  | .yield => Sys2Proof.Machine.execYield s
  | .taken => Sys2Proof.Machine.execTaken s
  | .reclaim => Sys2Proof.Machine.execReclaim s
  | .releaseRecord => Sys2Proof.Machine.execReleaseRecord s
  | .commandPoint => Sys2Proof.Machine.execCommandPoint s
  | .stateBlock => Sys2Proof.Machine.execStateBlock s
  | .configUpdateBlock => Sys2Proof.Machine.execConfigUpdateBlock s
  | .configUpdateRetry => Sys2Proof.Machine.execConfigUpdateRetry s
  | .twinYieldNLow => Sys2Proof.Machine.execTwinYieldNLow s
  | .peerHealthWave wave => Sys2Proof.Machine.execPeerHealthWave wave s
  | .yieldTimeout => Sys2Proof.Machine.execYieldTimeout s
  | .peerLost partnerRuns => Sys2Proof.Machine.execPeerLost partnerRuns s
  | .soloTimeout => Sys2Proof.Machine.execSoloTimeout s
  | .ingestLossTimeout link => Sys2Proof.Machine.execIngestLossTimeout link s
  | .twinYield src => Sys2Proof.Machine.execTwinYield src s
  | .fuseProg value => Sys2Proof.Machine.execFuseProg value s
  | .fuseProgEnd readBackGood => Sys2Proof.Machine.execFuseProgEnd readBackGood s
  | .dbgRequest challenge => Sys2Proof.Machine.execDbgRequest challenge s
  | .dbgResponse word => Sys2Proof.Machine.execDbgResponse word s
  | .dbgResponseChecked good => Sys2Proof.Machine.execDbgResponseChecked good s
  | .commitChecksEnd => Sys2Proof.Machine.execCommitChecksEnd s
  | .pcieLinkUp speed width => Sys2Proof.Machine.execPcieLinkUp speed width s
  | .pcieConfigWrite busMaster relaxed d3hot payload request => Sys2Proof.Machine.execPcieConfigWrite busMaster relaxed d3hot payload request s
  | .pcieAerError nonFatal status => Sys2Proof.Machine.execPcieAerError nonFatal status s
  | .mgmtLinkDown => Sys2Proof.Machine.execMgmtLinkDown s
  | .mgmtLinkUp => Sys2Proof.Machine.execMgmtLinkUp s
  | .firmwareMessage code => Sys2Proof.Machine.execFirmwareMessage code s

end Sys2Proof.Machine
end

