-- ==== Sys2Proof/Safety.lean ====
section
/-! DEFINITION. The terms in which claims about the block are stated: what a command completes with, and what it leaves alone. -/

namespace Sys2Proof.Machine

/-- A command answers a next state of which something holds. -/
def Completes (i : Instr) (s : State) (p : State → Prop) : Prop := ∃ t, exec i s = .next t ∧ p t

/-- Every register outside a set reads as before. -/
def KeepsRegs (s t : State) (changed : Nat → Prop) : Prop := ∀ a, ¬ changed a → t.reg a = s.reg a

/-- Every byte of HBM reads as before. -/
def KeepsHbm (s t : State) : Prop := ∀ a, t.hbmByte a = s.hbmByte a

/-- Every byte of HBM outside `n` bytes from an address reads as before. -/
def KeepsHbmBut (s t : State) (addr n : Nat) : Prop := ∀ a, a < addr ∨ addr + n ≤ a → t.hbmByte a = s.hbmByte a

/-- The registers that one occurrence of an event may change: its counter, its configuration word and EVT_STATUS (R489–R491). -/
def EventRegs (e a : Nat) : Prop := a = Reg.EVT_SRC_CNT e ∨ a = Reg.EVT_SRC_CFG e ∨ a = Reg.EVT_STATUS

/-- The registers that occurrences of events may change. -/
def AnyEventRegs (a : Nat) : Prop := ∃ e < 2048, EventRegs e a

/-- The registers of a range of offsets. -/
def Between (first last a : Nat) : Prop := first ≤ a ∧ a ≤ last

/-- The registers of some blocks, by their numbers in R577. -/
def InBlock (l : List Nat) (a : Nat) : Prop := ∃ b, blockOf a = some b ∧ b.index ∈ l

/-- An occurrence of an event has been counted once, saturating, unless the island holds it in a kept reset (R489, R493). -/
def Counted (s t : State) (e : Nat) : Prop :=
  (s.sys.keptReset && islandEvent e) = false → t.full (Reg.EVT_SRC_CNT e) = min (s.full (Reg.EVT_SRC_CNT e) + 1) (2 ^ 32 - 1)

/-- The parts of the state that a frame speaks of. -/
inductive Part where
  /-- the queue of commands. -/
  | pending
  /-- the registers. -/
  | regs
  /-- the value that the last read returned. -/
  | readData
  /-- the bytes of HBM. -/
  | hbm
  /-- the poisoned bursts of HBM. -/
  | poison
  /-- the position in the stream of free values. -/
  | free
  /-- the fuse array. -/
  | fuses
  /-- the balls. -/
  | pins
  /-- start-up and reset progress. -/
  | sys
  /-- the time counter. -/
  | clock
  /-- the servo, time commands that wait, TIME_EVT pins. -/
  | time
  /-- armed almanac entries. -/
  | almanac
  /-- EXECs in flight. -/
  | firings
  /-- lanes outside their registers. -/
  | lanes
  /-- links outside their registers. -/
  | links
  /-- rings outside their registers. -/
  | rings
  /-- DMA channels outside their registers. -/
  | channels
  /-- outstanding host reads. -/
  | reads
  /-- the MSI-X table, Device Control, power state and AER status. -/
  | pcie
  /-- what the last read of BAR2 or BAR4 returned. -/
  | barData
  /-- pending MSI-X bits. -/
  | pba
  /-- egress streams outside their registers. -/
  | streams
  /-- the egress registers as they took effect at the last commit. -/
  | ethSettings
  /-- data ports outside their registers. -/
  | ports
  /-- the event store and held occurrences. -/
  | evt
  /-- ingest outside the registers. -/
  | ingest
  /-- the harrow outside the registers. -/
  | harrow
  /-- the weeder outside the registers. -/
  | weed
  /-- the turning buffer outside the registers. -/
  | turn
  /-- the correlation array outside the registers. -/
  | corr
  /-- the granary outside the registers. -/
  | gran
  /-- the glean ring outside the registers. -/
  | glean
  /-- the beamformer outside the registers. -/
  | beam
  /-- the memory controller outside the registers. -/
  | mem
  /-- the chip matrix outside the registers. -/
  | xbar
  /-- references and loop outside the registers. -/
  | ref
  /-- the converter outside the registers. -/
  | adc
  /-- the DAC outside the registers. -/
  | dac
  /-- voltage scaling outside the registers. -/
  | avs
  /-- the weave outside the registers. -/
  | weave
  /-- the twin pair outside the registers. -/
  | twin
  /-- host writes that a standby holds. -/
  | heldWrites
  /-- the stop after a yield. -/
  | stopped
  /-- host writes that have left. -/
  | outHost
  /-- MSI-X messages that have left. -/
  | outMsix
  /-- Ethernet frames that have left. -/
  | outEth
  /-- flits that have left. -/
  | outFlits
  /-- control blocks that have left. -/
  | outCtrl
  /-- input-block flags that have left for weave partners. -/
  | outInputFlags
  /-- AVSBus requests that have left. -/
  | outAvs
deriving DecidableEq, Repr

/-- A part is as it was. -/
def SamePart (s t : State) : Part → Prop
  | .pending => t.pending = s.pending
  | .regs => ∀ a, t.reg a = s.reg a
  | .readData => t.readData = s.readData
  | .hbm => ∀ a, t.hbmByte a = s.hbmByte a
  | .poison => t.poison = s.poison
  | .free => t.freeIx = s.freeIx
  | .fuses => t.fuses = s.fuses
  | .pins => t.pins = s.pins
  | .sys => t.sys = s.sys
  | .clock => t.clock = s.clock
  | .time => t.time = s.time
  | .almanac => t.alm.entries = s.alm.entries ∧ t.alm.last = s.alm.last
  | .firings => t.alm.execs = s.alm.execs
  | .lanes => t.lanes.lanes = s.lanes.lanes
  | .links => t.lanes.links = s.lanes.links
  | .rings => ∀ r, t.ring r = s.ring r
  | .channels => t.host.chans = s.host.chans
  | .reads => t.host.reads = s.host.reads ∧ t.host.lateTags = s.host.lateTags ∧ t.host.nextTag = s.host.nextTag
  | .pcie => t.host.msix = s.host.msix ∧ t.host.mps = s.host.mps ∧ t.host.mrrs = s.host.mrrs ∧ t.host.relaxed = s.host.relaxed
      ∧ t.host.d3hot = s.host.d3hot ∧ t.host.aer = s.host.aer
  | .barData => t.host.barData = s.host.barData
  | .pba => t.host.pba = s.host.pba
  | .ethSettings => t.eth.regs = s.eth.regs
  | .streams => ∀ i, t.stream i = s.stream i
  | .ports => (∀ p, t.port p = s.port p) ∧ t.eth.heldRaised = s.eth.heldRaised
  | .evt => t.evt = s.evt
  | .ingest => t.ingest = s.ingest
  | .harrow => t.harrow = s.harrow
  | .weed => t.weed = s.weed
  | .turn => t.turn = s.turn
  | .corr => t.corr = s.corr
  | .gran => t.gran = s.gran
  | .glean => t.glean = s.glean
  | .beam => t.beam = s.beam
  | .mem => t.mem = s.mem
  | .xbar => t.xbar = s.xbar
  | .ref => t.ref = s.ref
  | .adc => t.adc = s.adc
  | .dac => t.dac = s.dac
  | .avs => t.avs = s.avs
  | .weave => t.weave = s.weave
  | .twin => t.twin = s.twin
  | .heldWrites => t.heldWrites = s.heldWrites
  | .stopped => t.stopped = s.stopped
  | .outHost => t.out.host = s.out.host
  | .outMsix => t.out.msix = s.out.msix
  | .outEth => t.out.eth = s.out.eth
  | .outFlits => t.out.flits = s.out.flits
  | .outCtrl => t.out.ctrl = s.out.ctrl
  | .outInputFlags => t.out.inputFlags = s.out.inputFlags
  | .outAvs => t.out.avs = s.out.avs

/-- Nothing outside the parts listed has changed. -/
def Only (ps : List Part) (s t : State) : Prop := ∀ p, p ∉ ps → SamePart s t p

/-- What an occurrence of an event touches: registers, the event store, pending MSI-X bits, messages sent. -/
def eventParts : List Part := [.regs, .evt, .pba, .outMsix]

/-- What answering a command touches: its ring, or its firing with a fire record on a ring and the registers of both. -/
def answerParts : List Part := [.regs, .rings, .firings]

/-- What sending messages on Balran links touches: links, flits that leave, and the backlog event (R83). -/
def sendParts : List Part := ([.links, .outFlits] : List Part) ++ eventParts

/-- What handing messages to rings and egress streams touches (R315, R322, R359, R360). -/
def destParts : List Part := [.regs, .rings, .streams, .ports]

/-- The registers that messages to rings and egress streams may change. -/
def DestRegs (a : Nat) : Prop :=
  (∃ r < 16384, a = Reg.RING_COUNT r) ∨ (∃ i < 16384, a = Reg.ETH_STR_ALIVE i) ∨ (∃ p < 16, a = Reg.ETH_PORT_COUNT p 2)

/-- A field that lies in a 32-bit word. -/
def Fld.fits (f : Fld) : Bool := decide (f.lo + f.width ≤ 32)

/-- Two fields without a bit in common. -/
def Fld.apart (f g : Fld) : Bool := decide (f.lo + f.width ≤ g.lo) || decide (g.lo + g.width ≤ f.lo)

/-- In one register, every field without a bit in common with those named reads as before. -/
def KeepsFields (s t : State) (a : Nat) (fs : List Fld) : Prop := ∀ g : Fld, (∀ f ∈ fs, f.apart g) → t.get a g = s.get a g

/-- A command that waits for its answer: its slot of a ring's record store, or its firing, exists (R358, R451). -/
def Awaits (s : State) : CmdRef → Prop
  | .slot r id => (∃ l ∈ (s.ring r).slots, l.id = id) ∧ id < (s.ring r).nextId
  | .exec q => ∃ x ∈ s.alm.execs, x.seq = q

/-- A command has been answered with a record of which something holds: the record stands in its slot of the ring's record store, or the
firing has ended (R358, R451). -/
def Answered (t : State) (ref : CmdRef) (p : CplRec → Prop) : Prop :=
  match ref with
  | .slot r id => ∃ l ∈ (t.ring r).slots, l.id = id ∧ ∃ c, l.result = some c ∧ p c
  | .exec q => ∀ x ∈ t.alm.execs, x.seq ≠ q

/-- The registers that answering a command may change: none for a command of a ring; for one of the almanac the entry's STATUS, and the
counters of a fire record that its ring discards (R451, R359). -/
def AnswerRegs (s : State) (src : CmdSrc) (a : Nat) : Prop :=
  match src with
  | .ring _ => False
  | .almanac _ => (∃ x ∈ s.alm.execs, a = Reg.ALM_STATE x.entry) ∨ a = Reg.RING_COUNT (s.get Reg.ALM_CFG Fld.ALM_CFG_RING) ∨ a = Reg.ALM_COUNT 4

/-- A ring or almanac command is handed to its block, in the state `u`, and taken there, the bits that its table does not list all 0: whom
to answer, the descriptor, the ring that serves it, and the state in which its block acts (R351, R525, R538). -/
def Issued (s : State) (src : CmdSrc) (op : Nat) (u s1 : State) (ref : CmdRef) (d : List Byte) (r : Nat) : Prop :=
  s.handed src op = some u ∧ u.take src op = some (ref, d, r, s1) ∧ descClean op d = true

/-- The same while the device runs (R352). -/
def Handed (s : State) (src : CmdSrc) (op : Nat) (u s1 : State) (ref : CmdRef) (d : List Byte) (r : Nat) : Prop :=
  Issued s src op u s1 ref d r ∧ u.running = true

/-- The source and the opcode of a block or island command (R345, R351). -/
def blockCommand : Instr → Option (CmdSrc × Nat)
  | .ingestMask x _ => some (x, 0x10)
  | .ingestGain x _ => some (x, 0x11)
  | .harrowReset x => some (x, 0x18)
  | .harrowDc x => some (x, 0x19)
  | .harrowGain x _ => some (x, 0x1A)
  | .weedCtl x => some (x, 0x20)
  | .corrRetire x => some (x, 0x28)
  | .granStart x => some (x, 0x30)
  | .granStop x => some (x, 0x31)
  | .beamSwap x => some (x, 0x39)
  | .beamPeakSet x => some (x, 0x3A)
  | .gleanFreeze x => some (x, 0x40)
  | .gleanResume x => some (x, 0x41)
  | .gleanDump x => some (x, 0x42)
  | .ethStreamSet x _ => some (x, 0x48)
  | .twinYield x => some (x, 0x4C)
  | .refSelect x => some (x, 0x60)
  | .refSet x => some (x, 0x61)
  | .refBw x => some (x, 0x62)
  | .refAlign x => some (x, 0x63)
  | .refOutSet x => some (x, 0x64)
  | .timeSet x => some (x, 0x68)
  | .timeStep x => some (x, 0x69)
  | .timeOffset x => some (x, 0x6A)
  | .timeServo x => some (x, 0x6B)
  | .almSet x _ => some (x, 0x70)
  | .almCancel x => some (x, 0x71)
  | .adcInject x => some (x, 0x74)
  | .dacSet x => some (x, 0x75)
  | .dacPark x => some (x, 0x76)
  | .dacRange x => some (x, 0x77)
  | _ => none

/-- A lane whose alignment the IEEE 802.3 PCS finds (R58): those of the data ports, and lane 96. -/
def pcsLane (l : Nat) : Bool := (decide (64 ≤ l) && decide (l < 80)) || l == 96

/-- A lane whose transmitter is enabled under the settings in force (R84). -/
def State.sends (s : State) (i : Nat) : Bool := bitAt (s.lane i).cfg.toNat Fld.LANE_CFG_TX_EN.lo

/-- The sparse parts of a state are in canonical form: keys strictly rising, no register listed at its reset value. -/
def State.Canonical (s : State) : Prop :=
  mapRising s.regs = true ∧ (∀ e ∈ s.regs, e.2 ≠ regReset e.1) ∧ mapRising s.hbm = true

end Sys2Proof.Machine
end

