-- ==== Sys2Proof/Certificates/Slice0/Obligations.lean ====
section
/-! DEFINITION. The statements for the provers, one definition each, in the order of OBLIGATIONS.json. They speak of `exec` through
the vocabulary of Safety.lean: a command completes, and what it keeps. -/

open Sys2Proof Sys2Proof.Machine

/-- What a step does: the command at the front of the queue runs on the rest; on an empty queue the block idles, but for a fault of a clock
crossing, which is counted (R40).
Where the spec leaves a point open this states the model's choice: log entries 1 and 19. -/
def Obligations.StepRunsTheFrontCommand : Prop :=
  (∀ (c : Instr) (rest : List Instr) (s : State), step { s with pending := c :: rest } = exec c { s with pending := rest })
  ∧ (∀ s : State, s.pending = [] → ∃ t, step s = .next t ∧ t.pending = [] ∧ KeepsRegs s t (EventRegs Ev.CDC_FAULT)
      ∧ Only (([.free] : List Part) ++ eventParts) s t
      ∧ (Config.cdcFault s.freeIx = none → ∀ p, p ≠ Part.free → SamePart s t p)
      ∧ (∀ (c : Nat) (o : Bool) (u : Nat), Config.cdcFault s.freeIx = some (c, o, u) → c ∈ State.fifoCrossings → s.pins.pwrOk → s.pins.loClk →
          s.sys.keptReset = false → Counted s t Ev.CDC_FAULT))
  ∧ (∀ (s : State) (nbits w : Nat), decodeTableWord nbits w = none → s.withFetchWord nbits w = s)

/-- R548, R581, and the block's queue: every command completes, no command touches the commands that wait behind it, and of all commands only FUSE_PROG_END
changes the fuse array.
Where the spec leaves a point open this states the model's choice: log entry 1. -/
def Obligations.QueueAndFusesAreKept : Prop :=
  ∀ (i : Instr) (s : State), Completes i s (fun t =>
    t.pending = s.pending ∧ ((∀ good, i ≠ Instr.fuseProgEnd good) → t.fuses = s.fuses))

/-- The sparse parts of the state stay in their canonical form through every step, from every state that has it: register offsets and HBM
addresses strictly rising, no register listed at its reset value.
Where the spec leaves a point open this states the model's choice: log entry 2. -/
def Obligations.EveryStepKeepsCanonicalForm : Prop :=
  ∀ s t : State, s.Canonical → step s = .next t → t.Canonical

/-- The state after power-on reset is in canonical form, with an empty queue, nothing in HBM and nothing sent.
Where the spec leaves a point open this states the model's choice: log entry 2. -/
def Obligations.ResetIsCanonical : Prop :=
  State.reset.Canonical ∧ State.reset.pending = [] ∧ State.reset.hbm = [] ∧ State.reset.out = {}
  ∧ step State.reset = .next { State.reset with freeIx := 1 }

/-- R17 and the register tables: what registers read after reset, some of every kind of instance.
Where the spec leaves a point open this states the model's choice: log entry 3. -/
def Obligations.RegistersAfterReset : Prop :=
  let s := State.reset
  s.full Reg.GLB_STATUS = 0 ∧ s.full Reg.GLB_CTL = 0
  ∧ (∀ l : Lane, s.full (Reg.LANE_STATUS l) = 0 ∧ s.get (Reg.LANE_CFG l) Fld.LANE_CFG_RATE = (if l.val = 96 then 2 else 0))
  ∧ (∀ k : Link, s.get (Reg.LANE_LINK_CFG k) Fld.LANE_LINK_CFG_WIDTH = 8
      ∧ s.get (Reg.LANE_LINK_CFG k) Fld.LANE_LINK_CFG_WINDOW = 0x3FF ∧ s.get (Reg.LANE_LINK_CFG k) Fld.LANE_LINK_CFG_LINK_ID = 0xFFF
      ∧ s.get (Reg.LANE_LINK_TIMER k) Fld.LANE_LINK_TIMER_REPLAY_TIMEOUT = 0x190
      ∧ s.get (Reg.LANE_LINK_TIMER k) Fld.LANE_LINK_TIMER_RETRY_LIMIT = 8)
  ∧ (∀ r : Ring, s.ringState r = 0 ∧ s.devPos r = 0 ∧ s.hostPos r = 0)
  ∧ (∀ e : Fin 2048, s.full (Reg.EVT_SRC_CNT e) = 0 ∧ s.flag (Reg.EVT_SRC_CFG e) Fld.EVT_SRC_CFG_ARMED = false
      ∧ s.get (Reg.EVT_SRC_CFG e) Fld.EVT_SRC_CFG_VECTOR = e)
  ∧ (List.range 8).map (fun i => s.full (Reg.HBM_PORT_LT i)) = [400, 200, 400, 2000, 800, 2000, 2000, 5000]
  ∧ (List.range 6).map (fun r => s.full (Reg.REF_IN_WIN r))
      = [0x0032000A, 0x0032000A, 0x00C80032, 0x00C80032, 0x00C80032, 0x0032000A]

/-- R14, R578: a 32-bit write of a register whose block is served and whose fields may be written now sets its RW fields, clears the W1C bits
that hold a 1, and leaves every other field and register alone. Fields whose write is a command of its own, the CTLE and DFE values of a
lane that is not frozen and the prototype in Ewesen mode are not written (R54, R134).
Where the spec leaves a point open this states the model's choice: log entry 10. -/
def Obligations.RegisterWriteSetsItsFields : Prop :=
  ∀ (w : Writer) (a : Fin 67108864) (v : BitVec 64) (s : State) (b : Block) (d : RegDesc),
    a % 4 = 0 → s.sys.checking = false → blockOf a = some b → s.blockServed b.index → regAt a = some d → s.gate w b.index a d = Gate.passes →
    State.plainFields a d → a.val ≠ Reg.ADC_CFG → d.base ≠ Reg.DBG_RESPONSE 0 → d.base ≠ Reg.EVT_SRC_CFG 0 → d.base ≠ Reg.EVT_Q_CFG 0 →
    a.val ≠ Reg.CORR_TILE_SEL → a.val ≠ Reg.GLB_GPIO → a.val ≠ Reg.GLB_COMPAT → d.base ≠ Reg.DBG_OBS_SEL 0 → d.base ≠ Reg.DBG_ATB_SEL 0 →
    Completes (.registerWrite w a 4 v) s (fun t =>
      (∀ f ∈ d.fields, t.get a ⟨f.lo, f.width⟩ =
        (if (ownRwFields a d ++ s.heldFields a d).contains ⟨f.lo, f.width⟩ then s.get a ⟨f.lo, f.width⟩
        else match f.acc with
          | .rw => v.toNat / 2 ^ f.lo % 2 ^ f.width
          | .w1c => Nat.land (s.get a ⟨f.lo, f.width⟩) (2 ^ f.width - 1 - v.toNat / 2 ^ f.lo % 2 ^ f.width)
          | _ => s.get a ⟨f.lo, f.width⟩))
      ∧ KeepsRegs s t (fun x => x = a) ∧ Only [.regs] s t)

/-- R18, R19, R545, R554, R578: writes that set nothing. A narrow one raises ACCESS_SIZE; one outside every assigned block goes to the default
target; one to an offset that holds no register, to a block not yet served, while commit checks run, or to a register that may not be
written now changes nothing; a 64-bit write is two 32-bit writes, lower address first.
Where the spec leaves a point open this states the model's choice: log entry 144. -/
def Obligations.RegisterWritesDiscardedAndSplit : Prop :=
  (∀ (w : Writer) (a : Fin 67108864) (n : Nat) (v : BitVec 64) (s : State), n < 4 →
    Completes (.registerWrite w a n v) s (fun t =>
      Counted s t Ev.ACCESS_SIZE ∧ KeepsRegs s t (EventRegs Ev.ACCESS_SIZE) ∧ Only eventParts s t))
  ∧ (∀ (w : Writer) (a : Fin 67108864) (v : BitVec 64) (s : State), a % 4 = 0 → s.sys.checking = false → blockOf a = none →
    Completes (.registerWrite w a 4 v) s (fun t =>
      Counted s t Ev.XBAR_DECODE ∧ t.full (Reg.XBAR_ERR_ADDR_LO (State.writerPort w)) = a.val
      ∧ t.full (Reg.XBAR_COUNT 0) = min (s.full (Reg.XBAR_COUNT 0) + 1) (2 ^ 32 - 1)
      ∧ KeepsRegs s t (fun x => x = Reg.XBAR_ERR_INFO (State.writerPort w) ∨ x = Reg.XBAR_ERR_ADDR_LO (State.writerPort w)
          ∨ x = Reg.XBAR_ERR_ADDR_HI (State.writerPort w) ∨ x = Reg.XBAR_COUNT 0 ∨ EventRegs Ev.XBAR_DECODE x)
      ∧ Only eventParts s t))
  ∧ (∀ (w : Writer) (a : Fin 67108864) (v : BitVec 64) (s : State) (b : Block), a % 4 = 0 → blockOf a = some b →
    (s.sys.checking ∨ s.blockServed b.index = false ∨ regAt a = none
      ∨ (∃ d, regAt a = some d ∧ s.gate w b.index a d = Gate.ignored ∧ d.base ≠ Reg.DBG_RESPONSE 0 ∧ a.val ≠ Reg.ADC_CFG)) →
    Completes (.registerWrite w a 4 v) s (fun t => t = s))
  ∧ (∀ (w : Writer) (a : Fin 67108860) (v : BitVec 64) (s : State), a % 4 = 0 →
    ∃ u, exec (.registerWrite w ⟨a, by omega⟩ 4 (v % 2 ^ 32)) s = .next u
      ∧ Completes (.registerWrite w ⟨a, by omega⟩ 8 v) s (fun t => exec (.registerWrite w ⟨a + 4, by omega⟩ 4 (v / 2 ^ 32)) u = .next t))

/-- R14, R15, R18: a read returns the value with write-only fields as 0 and then returns every RC field to its reset value, at whatever
width it is made. -/
def Obligations.ReadsReturnAndClear : Prop :=
  ∀ (a : Fin 67108864) (s : State) (b : Block) (d : RegDesc), blockOf (a / 4 * 4) = some b → regAt (a / 4 * 4) = some d →
    s.blockServed b.index → a.val / 4 * 4 ≠ Reg.GLB_GPIO → a.val / 4 * 4 ≠ Reg.HARROW_CFG →
    Completes (.rcRead a) s (fun t =>
      (∀ f ∈ d.fields, (⟨f.lo, f.width⟩ : Fld).of t.readData
          = (if f.acc = Access.wo then 0 else s.get (a / 4 * 4) ⟨f.lo, f.width⟩))
      ∧ (∀ f ∈ d.fields, t.get (a / 4 * 4) ⟨f.lo, f.width⟩
          = (if f.acc = Access.rc then f.rst % 2 ^ f.width else s.get (a / 4 * 4) ⟨f.lo, f.width⟩))
      ∧ KeepsRegs s t (fun x => x = a / 4 * 4) ∧ Only [.regs, .readData] s t)

/-- R53–R55, R57, R58, R84: one adaptation update measures the eyes and moves each value by at most one code, unless the loop is held, or an
eye scan holds the sampler: then nothing is measured or moved, but for the update that the scan found in progress. It lets a requested freeze
take effect; a write of FREEZE is the request; CDR lock with an adequate eye leads to SEARCH; the two time limits restart ADAPT from the
seeds, or from the held values where FREEZE is set.
Where the spec leaves a point open this states the model's choice: log entries 22 and 202. -/
def Obligations.LaneAdaptationAndFreeze : Prop :=
  (∀ (l : Lane) (c d1 d2 d3 : Nudge) (h w : Nat) (s : State), 2 ≤ s.laneState l →
    Completes (.adaptationUpdate l c d1 d2 d3 h w) s (fun t =>
      t.flag (Reg.LANE_EQ l) Fld.LANE_EQ_FREEZE_ACK = s.flag (Reg.LANE_EQ l) Fld.LANE_EQ_FREEZE
      ∧ (if (s.lane l).held then t.reg (Reg.LANE_STATUS l) = s.reg (Reg.LANE_STATUS l) ∧ t.lane l = s.lane l
        else
          t.get (Reg.LANE_STATUS l) Fld.LANE_STATUS_EYE_HEIGHT = min h 255
          ∧ t.get (Reg.LANE_STATUS l) Fld.LANE_STATUS_EYE_WIDTH = min w 255
          ∧ t.lane l = { s.lane l with held := (s.lane l).scanning })
      ∧ (if s.flag (Reg.LANE_EQ l) Fld.LANE_EQ_FREEZE_ACK ∨ (s.lane l).held then
          KeepsFields s t (Reg.LANE_EQ l) [Fld.LANE_EQ_FREEZE_ACK]
        else
          (t.get (Reg.LANE_EQ l) Fld.LANE_EQ_CTLE : Int) = nudged c 0 15 (s.get (Reg.LANE_EQ l) Fld.LANE_EQ_CTLE)
          ∧ toS 7 (t.get (Reg.LANE_EQ l) Fld.LANE_EQ_DFE1) = nudged d1 (-64) 63 (toS 7 (s.get (Reg.LANE_EQ l) Fld.LANE_EQ_DFE1))
          ∧ toS 6 (t.get (Reg.LANE_EQ l) Fld.LANE_EQ_DFE2) = nudged d2 (-32) 31 (toS 6 (s.get (Reg.LANE_EQ l) Fld.LANE_EQ_DFE2))
          ∧ toS 5 (t.get (Reg.LANE_EQ l) Fld.LANE_EQ_DFE3) = nudged d3 (-16) 15 (toS 5 (s.get (Reg.LANE_EQ l) Fld.LANE_EQ_DFE3))
          ∧ t.flag (Reg.LANE_EQ l) Fld.LANE_EQ_FREEZE = s.flag (Reg.LANE_EQ l) Fld.LANE_EQ_FREEZE)
      ∧ KeepsFields s t (Reg.LANE_STATUS l) [Fld.LANE_STATUS_EYE_HEIGHT, Fld.LANE_STATUS_EYE_WIDTH]
      ∧ (∀ j, j ≠ l.val → t.lane j = s.lane j)
      ∧ KeepsRegs s t (fun a => a = Reg.LANE_STATUS l ∨ a = Reg.LANE_EQ l) ∧ Only [.regs, .lanes] s t))
  ∧ (∀ (l : Lane) (on : Bool) (s : State), s.served →
    Completes (.laneEqFreeze l on) s (fun t =>
      t.flag (Reg.LANE_EQ l) Fld.LANE_EQ_FREEZE = on ∧ KeepsFields s t (Reg.LANE_EQ l) [Fld.LANE_EQ_FREEZE]
      ∧ KeepsRegs s t (fun a => a = Reg.LANE_EQ l) ∧ Only [.regs] s t))
  ∧ (∀ (l : Lane) (s : State), s.laneState l = 2 →
    Completes (.adaptDone l) s (fun t =>
      t.laneState l = 3 ∧ t.flag (Reg.LANE_STATUS l) Fld.LANE_STATUS_CDR_LOCK
      ∧ KeepsFields s t (Reg.LANE_STATUS l) [Fld.LANE_STATUS_STATE, Fld.LANE_STATUS_CDR_LOCK]
      ∧ KeepsRegs s t (fun a => a = Reg.LANE_STATUS l) ∧ Only [.regs] s t))
  ∧ (∀ (l : Lane) (s : State), (s.laneState l = 2 ∨ s.laneState l = 3) → s.flag (Reg.LANE_CFG l) Fld.LANE_CFG_RX_EN →
    Completes (if s.laneState l = 2 then Instr.adaptTimeout l else Instr.searchTimeout l) s (fun t =>
      t.laneState l = 2 ∧ t.flag (Reg.LANE_STATUS l) Fld.LANE_STATUS_CDR_LOCK = false
      ∧ t.flag (Reg.LANE_STATUS l) Fld.LANE_STATUS_MARKER_LOCK = false
      ∧ t.get (Reg.LANE_EQ l) ⟨0, 22⟩
        = (if s.flag (Reg.LANE_EQ l) Fld.LANE_EQ_FREEZE then s.get (Reg.LANE_EQ l) ⟨0, 22⟩ else s.eqSeed l)
      ∧ t.flag (Reg.LANE_EQ l) Fld.LANE_EQ_FREEZE_ACK = s.flag (Reg.LANE_EQ l) Fld.LANE_EQ_FREEZE
      ∧ t.flag (Reg.LANE_EQ l) Fld.LANE_EQ_FREEZE = s.flag (Reg.LANE_EQ l) Fld.LANE_EQ_FREEZE
      ∧ t.lane l = { s.lane l with cfg := s.reg (Reg.LANE_CFG l), first := none, mark := none, misses := 0, fast := false }
      ∧ (∀ j, j ≠ l.val → t.lane j = s.lane j)
      ∧ KeepsRegs s t (fun a => a = Reg.LANE_STATUS l ∨ a = Reg.LANE_EQ l) ∧ Only [.regs, .lanes] s t))

/-- R51, R58–R60, R64, R66, R69: what a marker position does in SEARCH, LOCKED and UP, with the FEC counts since the marker before; loss of
CDR lock and loss of signal take a lane to ADAPT, and an UP link with it.
Where the spec leaves a point open this states the model's choice: log entries 199, 201, 203, 204 and 206. -/
def Obligations.MarkersAndLaneLoss : Prop :=
  (∀ (l : Lane) (m : MarkerView) (s : State), Completes (.alignmentMarker l m) s (fun t =>
    t.full (Reg.LANE_FEC_CORR l) = min (s.full (Reg.LANE_FEC_CORR l) + m.corrected) (2 ^ 32 - 1)
    ∧ t.full (Reg.LANE_FEC_UNCORR l) = min (s.full (Reg.LANE_FEC_UNCORR l) + m.uncorrectable) (2 ^ 32 - 1)
    ∧ (pcsLane l →
        (m.pcsLock → t.laneState l = (if s.laneState l = 3 then 4 else s.laneState l)
          ∧ (s.laneState l = 3 → t.flag (Reg.LANE_STATUS l) Fld.LANE_STATUS_MARKER_LOCK))
        ∧ (m.pcsLock = false → s.laneState l = 4 → t.laneState l = 3 ∧ t.flag (Reg.LANE_STATUS l) Fld.LANE_STATUS_MARKER_LOCK = false)
        ∧ (m.pcsLock = false → s.laneState l = 5 → s.flag (Reg.LANE_CFG l) Fld.LANE_CFG_RX_EN → t.laneState l = 2)
        ∧ (m.pcsLock = false → s.laneState l ≤ 3 → t.laneState l = s.laneState l))
    ∧ (pcsLane l = false →
        (s.laneState l = 3 → markerErrors (markerRead m.bytes) ≤ 3 → m.onTime → (s.lane l).first = some (markerImage m.bytes) →
          t.laneState l = 4 ∧ t.flag (Reg.LANE_STATUS l) Fld.LANE_STATUS_RX_INVERTED = markerImage m.bytes
          ∧ t.flag (Reg.LANE_STATUS l) Fld.LANE_STATUS_MARKER_LOCK
          ∧ t.get (Reg.LANE_STATUS l) Fld.LANE_STATUS_MARKER_LANE = markerPos (markerRead m.bytes))
        ∧ (s.laneState l = 3 → markerErrors (markerRead m.bytes) ≤ 3 →
            ¬ (m.onTime ∧ (s.lane l).first = some (markerImage m.bytes)) →
            t.laneState l = 3 ∧ t.lane l = { s.lane l with first := some (markerImage m.bytes) })
        ∧ (s.laneState l = 3 → 3 < markerErrors (markerRead m.bytes) → t.laneState l = 3 ∧ t.lane l = s.lane l)
        ∧ (s.laneState l = 4 → markerErrors m.bytes ≤ 3 → (t.laneState l = 4 ∨ t.laneState l = 5)
            ∧ t.get (Reg.LANE_STATUS l) Fld.LANE_STATUS_MARKER_LANE = markerPos m.bytes ∧ (t.lane l).count = markerCount m.bytes)
        ∧ (s.laneState l = 4 → 3 < markerErrors m.bytes → t.laneState l = 4 ∧ t.lane l = s.lane l)
        ∧ (s.laneState l = 5 → markerErrors m.bytes ≤ 3 → m.onTime →
            t.laneState l = 5 ∧ t.lane l = { s.lane l with count := markerCount m.bytes, misses := 0 })
        ∧ (s.laneState l = 5 → 3 < markerErrors m.bytes ∨ m.onTime = false → Counted s t Ev.LANE_MARKER_MISS
            ∧ ((s.lane l).misses < 2 → t.laneState l = 5 ∧ t.lane l = { s.lane l with misses := (s.lane l).misses + 1 })
            ∧ (2 ≤ (s.lane l).misses → s.flag (Reg.LANE_CFG l) Fld.LANE_CFG_RX_EN → t.laneState l = 2)))
    ∧ KeepsRegs s t (fun a => Between 0x200000 0x23FFFF a ∨ AnyEventRegs a ∨ a = Reg.WEAVE_STATUS ∨ a = Reg.TWIN_STATUS)
    ∧ Only (([.lanes, .links, .outFlits, .outCtrl] : List Part) ++ eventParts) s t))
  ∧ (∀ (l : Lane) (cut : Bool) (s : State), 2 ≤ s.laneState l → s.flag (Reg.LANE_CFG l) Fld.LANE_CFG_RX_EN →
    Completes (.cdrLockLoss ⟨l, cut⟩) s (fun t =>
      t.laneState l = 2 ∧ t.flag (Reg.LANE_STATUS l) Fld.LANE_STATUS_CDR_LOCK = false
      ∧ (∀ k, s.laneLink l = some k → s.laneState l = 5 → s.linkState k = 4 →
          t.linkState k = (if s.linkBidir k then 5 else 1) ∧ Counted s t Ev.LINK_DOWN
          ∧ (s.linkBidir k = false → t.full (Reg.LANE_LINK_COUNT k 0)
              = (if cut then min (s.full (Reg.LANE_LINK_COUNT k 0) + 1) (2 ^ 32 - 1) else s.full (Reg.LANE_LINK_COUNT k 0))))
      ∧ KeepsRegs s t (fun a => Between 0x200000 0x23FFFF a ∨ AnyEventRegs a ∨ a = Reg.WEAVE_STATUS ∨ a = Reg.TWIN_STATUS)
      ∧ Only (([.lanes, .links] : List Part) ++ eventParts) s t)
    ∧ Completes (.lossOfSignal ⟨l, cut⟩) s (fun t =>
      t.laneState l = 2 ∧ Counted s t Ev.LANE_DOWN
      ∧ (∀ k, s.laneLink l = some k → s.laneState l = 5 → s.linkState k = 4 →
          t.linkState k = (if s.linkBidir k then 5 else 1) ∧ Counted s t Ev.LINK_DOWN
          ∧ (s.linkBidir k = false → t.full (Reg.LANE_LINK_COUNT k 0)
              = (if cut then min (s.full (Reg.LANE_LINK_COUNT k 0) + 1) (2 ^ 32 - 1) else s.full (Reg.LANE_LINK_COUNT k 0))))
      ∧ KeepsRegs s t (fun a => Between 0x200000 0x23FFFF a ∨ AnyEventRegs a ∨ a = Reg.WEAVE_STATUS ∨ a = Reg.TWIN_STATUS)
      ∧ Only (([.lanes, .links] : List Part) ++ eventParts) s t))

/-- R56–R58, R65–R68, R73, R84: electrical idle of a link, its fast and full exits, the transmitter's ramp with the marker that ends it, and
eye scans.
Where the spec leaves a point open this states the model's choice: log entries 21, 205 and 217. -/
def Obligations.ElectricalIdleAndEyeScan : Prop :=
  (∀ (k : Link) (s : State), s.linkOn k → s.linkState k = 4 →
    Completes (.eidle k) s (fun t =>
      t.linkState k = 0 ∧ (∀ i ∈ s.linkLanes k, t.laneState i = 1)
      ∧ (t.link k).ramp = (if s.linkBidir k then Ramp.falling else (s.link k).ramp)
      ∧ t.out.ctrl = s.out.ctrl ++ (if s.linkBidir k then
          ((s.linkLanes k).filter s.sends).map (fun i => (i, BitVec.ofNat 8 ctrlEidle :: zeros 31)) else [])
      ∧ (∀ i, t.reg (Reg.LANE_EQ i) = s.reg (Reg.LANE_EQ i))
      ∧ (∀ i ∈ s.linkLanes k, KeepsFields s t (Reg.LANE_STATUS i) [Fld.LANE_STATUS_STATE])
      ∧ KeepsRegs s t (fun a => Between 0x200000 0x23FFFF a ∨ a = Reg.WEAVE_STATUS ∨ a = Reg.TWIN_STATUS)
      ∧ Only [.regs, .lanes, .links, .outCtrl] s t))
  ∧ (∀ (k : Link) (amp : Nat) (long : Bool) (s : State), s.linkOn k → (∀ i ∈ s.linkLanes k, s.laneState i = 1) →
    Completes (.fastExit k amp long) s (fun t =>
      (t.link k).ramp = (if s.linkBidir k then
        (match (s.link k).ramp with
          | .falling => Ramp.rising (min amp 1000)
          | .off => Ramp.rising 0
          | r => r) else (s.link k).ramp)
      ∧ (if long ∨ s.linkCfg k Fld.LANE_LINK_CFG_FAST_EXIT ≠ 1 then
          t.linkState k = 1
          ∧ ∀ i ∈ (s.latchLink k true).linkLanes k, s.flag (Reg.LANE_CFG i) Fld.LANE_CFG_RX_EN → t.laneState i = 2
        else KeepsRegs s t (fun _ => False) ∧ ∀ i ∈ s.linkLanes k, t.laneState i = 1 ∧ (t.lane i).fast)
      ∧ KeepsRegs s t (Between 0x200000 0x23FFFF) ∧ Only [.regs, .lanes, .links] s t))
  ∧ (∀ (k : Link) (s : State), (∃ i ∈ s.linkLanes k, (s.lane i).fast) →
    Completes (.fastExitMarkerTimeout k) s (fun t =>
      t.linkState k = 1
      ∧ (∀ i ∈ (s.latchLink k (s.linkOn k)).linkLanes k, s.flag (Reg.LANE_CFG i) Fld.LANE_CFG_RX_EN →
          t.laneState i = 2 ∧ (t.lane i).fast = false)
      ∧ KeepsRegs s t (Between 0x200000 0x23FFFF) ∧ Only [.regs, .lanes, .links] s t))
  ∧ (∀ (k : Link) (s : State), Completes (.txRampEnd k) s (fun t =>
      (match (s.link k).ramp with
        | .rising _ => t.link k = { s.link k with ramp := .on, txCount := ((s.link k).txCount + 1) % 2 ^ 32 }
            ∧ t.out.ctrl = s.out.ctrl ++ ((List.range (s.linkWidth k)).filter (fun i => s.sends (k + i))).map (fun i =>
                (k.val + i, markerBytes i (s.linkWidth k) (s.linkId k) (s.link k).txCount))
        | .falling => t.link k = { s.link k with ramp := .off } ∧ t.out.ctrl = s.out.ctrl
        | _ => t = s)
      ∧ (∀ j, j ≠ k.val → t.link j = s.link j) ∧ Only [.links, .outCtrl] s t))
  ∧ (∀ (l : Lane) (s : State), s.served → 2 ≤ s.laneState l → (s.lane l).scanning = false →
    Completes (.laneEyeStart l) s (fun t =>
      t.flag (Reg.LANE_EYE_CTL l) Fld.LANE_EYE_CTL_START ∧ t.full (Reg.LANE_EYE_RESULT l) = 0
      ∧ t.lane l = { s.lane l with scanning := true, held := false } ∧ (∀ j, j ≠ l.val → t.lane j = s.lane j)
      ∧ KeepsFields s t (Reg.LANE_EYE_CTL l) [Fld.LANE_EYE_CTL_START]
      ∧ KeepsRegs s t (fun a => a = Reg.LANE_EYE_CTL l ∨ a = Reg.LANE_EYE_RESULT l) ∧ Only [.regs, .lanes] s t))
  ∧ (∀ (l : Lane) (errors : Nat) (s : State), (s.lane l).scanning →
    Completes (.eyeScanDone l errors) s (fun t =>
      t.flag (Reg.LANE_EYE_RESULT l) Fld.LANE_EYE_RESULT_DONE
      ∧ t.get (Reg.LANE_EYE_RESULT l) Fld.LANE_EYE_RESULT_ERRORS = min errors 0xFFFFFF
      ∧ t.flag (Reg.LANE_EYE_CTL l) Fld.LANE_EYE_CTL_START = false
      ∧ t.lane l = { s.lane l with scanning := false, held := false } ∧ (∀ j, j ≠ l.val → t.lane j = s.lane j)
      ∧ KeepsFields s t (Reg.LANE_EYE_CTL l) [Fld.LANE_EYE_CTL_START]
      ∧ KeepsRegs s t (fun a => a = Reg.LANE_EYE_CTL l ∨ a = Reg.LANE_EYE_RESULT l) ∧ Only [.regs, .lanes] s t))

/-- R75–R79, R81: an in-order DATA flit is accepted and any other is answered with one NAK; a NULL flit's header acknowledges and gives
credits, and an idle sender answers its flit time with a NULL flit; a NAK starts a replay of the oldest flit; an INIT flit brings the link up
or leaves it FAILED.
Where the spec leaves a point open this states the model's choice: log entries 24, 25, 26, 27 and 200. -/
def Obligations.FlitReception : Prop :=
  (∀ (k : Link) (f : List Byte) (s : State) (h : Nat), s.flitHeader k 1 4 f = some h →
    h / 16 % 1024 = ((s.link k).lastAcc + 1) % 1024 →
    Completes (.dataFlit k f) s (fun t =>
      (t.linkState k = 4 ∧ (t.link k).lastAcc = h / 16 % 1024 ∧ (t.link k).nakked = false
        ∧ (t.link k).freed = (s.link k).freed.set (h / 4 % 4) ((s.link k).freed.getD (h / 4 % 4) 0 + 1)
        ∧ (t.link k).inbox = (s.link k).inbox ++ (if h / 4 % 4 = 0 then [(f.drop 4).take 248] else [])
        ∧ (h / 4 % 4 ≠ 0 → (t.link k).rx = (s.link k).rx.set (h / 4 % 4 - 1)
            ((s.link k).rx.getD (h / 4 % 4 - 1) [] ++ (f.drop 4).take 248)))
      ∨ (t.linkState k = 6 ∧ Counted s t Ev.LINK_PEER_MISMATCH)))
  ∧ (∀ (k : Link) (f : List Byte) (s : State), s.linkOn k → s.linkBidir k → s.linkState k = 4 → s.flitHeader k 1 4 f = none →
    Completes (.dataFlit k f) s (fun t =>
      (t.link k).nakked ∧ (t.link k).lastAcc = (s.link k).lastAcc ∧ (t.link k).rx = (s.link k).rx ∧ (t.link k).inbox = (s.link k).inbox
      ∧ (if (s.link k).nakked then KeepsRegs s t (fun _ => False) else
        t.get (Reg.LANE_LINK_RETRY k) Fld.LANE_LINK_RETRY_NAKS = min (s.get (Reg.LANE_LINK_RETRY k) Fld.LANE_LINK_RETRY_NAKS + 1) 65535
        ∧ ∃ more, t.out.flits = s.out.flits ++ (k.val, flitBytes 2 0 0 (s.link k).lastAcc (s.link k).crTurn
            ((s.link k).freed.getD (s.link k).crTurn 0 % 64) []) :: more)
      ∧ (∀ j, j ≠ k.val → t.link j = s.link j)
      ∧ KeepsRegs s t (fun a => a = Reg.LANE_LINK_RETRY k) ∧ Only [.regs, .links, .outFlits] s t))
  ∧ (∀ (k : Link) (f : List Byte) (s : State) (h : Nat), s.flitHeader k 0 4 f = some h →
    Completes (.nullFlit k f) s (fun t =>
      (t.link k).lastCr = (s.link k).lastCr.set (h / 2 ^ 24 % 4) (h / 2 ^ 26 % 64)
      ∧ (t.link k).lastAcc = (s.link k).lastAcc ∧ (t.link k).rx = (s.link k).rx ∧ (t.link k).inbox = (s.link k).inbox
      ∧ ((s.link k).vc0 = [] → (∀ q ∈ (s.link k).txq, q = []) → (s.link k).resend = [] →
          (t.link k).credit = (s.link k).credit.set (h / 2 ^ 24 % 4) ((s.link k).credit.getD (h / 2 ^ 24 % 4) 0
            + (h / 2 ^ 26 % 64 + 64 - (s.link k).lastCr.getD (h / 2 ^ 24 % 4) 0 % 64) % 64)
          ∧ ((∀ e ∈ (s.link k).replay, e.1 ≠ h / 2 ^ 14 % 1024) → (t.link k).replay = (s.link k).replay)
          ∧ (∀ old q v p rest, (s.link k).replay = old ++ (q, v, p) :: rest → q = h / 2 ^ 14 % 1024 → (∀ e ∈ old, e.1 ≠ q) →
              (t.link k).replay = rest ∧ (t.link k).tries = 0)
          ∧ t.out.flits = s.out.flits ++ [(k.val, flitBytes 0 0 0 (s.link k).lastAcc (s.link k).crTurn
              ((s.link k).freed.getD (s.link k).crTurn 0 % 64) [])])
      ∧ (∀ j, j ≠ k.val → t.link j = s.link j) ∧ Only [.links, .outFlits] s t))
  ∧ (∀ (k : Link) (f : List Byte) (s : State) (h : Nat) (q v : Nat) (p : List Byte) (rest : List (Nat × Nat × List Byte)),
    s.flitHeader k 2 4 f = some h → ((s.takeHeader k h).link k).replay = (q, v, p) :: rest →
    Completes (.nakFlit k f) s (fun t =>
      if ((s.takeHeader k h).link k).replaying = some q then t = (s.takeHeader k h).flitSlot k
      else if s.linkTimer k Fld.LANE_LINK_TIMER_RETRY_LIMIT ≤ ((s.takeHeader k h).link k).tries then
        t.linkState k = 5 ∧ Counted s t Ev.BALRAN_RETRAIN
      else Counted s t Ev.BALRAN_RETRY ∧ (t.link k).resend = rest ∧ (∃ new, (t.link k).replay = (q, v, p) :: rest ++ new)
        ∧ (rest ≠ [] → (t.link k).replaying = some q)
        ∧ (t.link k).tries = ((s.takeHeader k h).link k).tries + 1
        ∧ ∃ more, t.out.flits = s.out.flits ++ (k.val, flitBytes 1 v q (s.link k).lastAcc (s.link k).crTurn
            ((s.link k).freed.getD (s.link k).crTurn 0 % 64) p) :: more ∧ (rest ≠ [] → more = [])))
  ∧ (∀ (k : Link) (f : List Byte) (s : State) (h : Nat), s.flitHeader k 3 3 f = some h →
    Completes (.initFlit k f) s (fun t =>
      if fieldAt f 4 2 ≠ 1 ∨ (s.linkId k ≠ 0xFFF ∧ fieldAt f 6 2 % 4096 ≠ s.linkId k) then
        t.linkState k = 6 ∧ (t.link k).replay = [] ∧ (t.link k).resume = false ∧ (t.link k).failed ∧ Counted s t Ev.LINK_PEER_MISMATCH
      else t.linkState k = 4 ∧ (t.link k).peerSerial = fieldAt f 22 8 ∧ (t.link k).peerPos = byteAt f 8 % 4
        ∧ (t.link k).nakked = false ∧ (t.link k).failed = false))

/-- R78–R80: the retry timers of a bidirectional link: replay or retrain, the repeated NAK, FAILED, and the next bring-up. -/
def Obligations.LinkRetryTimers : Prop :=
  (∀ (k : Link) (s : State) (q v : Nat) (p : List Byte) (rest : List (Nat × Nat × List Byte)), s.linkState k = 4 → s.linkBidir k →
    (s.link k).replay = (q, v, p) :: rest →
    Completes (.replayTimeout k) s (fun t =>
      if s.linkTimer k Fld.LANE_LINK_TIMER_RETRY_LIMIT ≤ (s.link k).tries then
        t.linkState k = 5 ∧ (t.link k).resume ∧ (t.link k).replay = (s.link k).replay ∧ Counted s t Ev.BALRAN_RETRAIN
        ∧ ∀ i ∈ (s.latchLink k (s.linkOn k)).linkLanes k, s.flag (Reg.LANE_CFG i) Fld.LANE_CFG_RX_EN → t.laneState i = 2
      else
        (t.link k).resend = rest ∧ (t.link k).tries = (s.link k).tries + 1
        ∧ (∃ more, t.out.flits = s.out.flits ++ (k.val, flitBytes 1 v q (s.link k).lastAcc (s.link k).crTurn
            ((s.link k).freed.getD (s.link k).crTurn 0 % 64) p) :: more ∧ (rest ≠ [] → more = []))
        ∧ (rest ≠ [] → (t.link k).replaying = some q ∧ (t.link k).replay = (s.link k).replay)
        ∧ t.get (Reg.LANE_LINK_RETRY k) Fld.LANE_LINK_RETRY_REPLAYS
          = min (s.get (Reg.LANE_LINK_RETRY k) Fld.LANE_LINK_RETRY_REPLAYS + 1) 65535
        ∧ Counted s t Ev.BALRAN_RETRY
        ∧ KeepsRegs s t (fun a => a = Reg.LANE_LINK_RETRY k ∨ EventRegs Ev.BALRAN_RETRY a)
        ∧ Only (([.links, .outFlits] : List Part) ++ eventParts) s t))
  ∧ (∀ (k : Link) (s : State), s.linkState k = 4 → (s.link k).nakked →
    Completes (.nakRepeat k) s (fun t =>
      t.get (Reg.LANE_LINK_RETRY k) Fld.LANE_LINK_RETRY_NAKS = min (s.get (Reg.LANE_LINK_RETRY k) Fld.LANE_LINK_RETRY_NAKS + 1) 65535
      ∧ t.out.flits = s.out.flits ++ [(k.val, flitBytes 2 0 0 (s.link k).lastAcc (s.link k).crTurn
          ((s.link k).freed.getD (s.link k).crTurn 0 % 64) [])]
      ∧ KeepsRegs s t (fun a => a = Reg.LANE_LINK_RETRY k) ∧ Only [.regs, .links, .outFlits] s t))
  ∧ (∀ (k : Link) (s : State), (s.link k).resume → s.linkState k ≠ 4 → s.linkState k ≠ 6 →
    Completes (.retrainTimeout k) s (fun t =>
      t.linkState k = 6
      ∧ t.link k = { cfg := (s.link k).cfg, timer := (s.link k).timer, ramp := (s.link k).ramp, txCount := (s.link k).txCount, failed := true }
      ∧ (∀ j, j ≠ k.val → t.link j = s.link j) ∧ Counted s t Ev.BALRAN_LINK_FAILED
      ∧ Only (([.links, .xbar, .mem, .free, .weave] : List Part) ++ eventParts) s t))
  ∧ (∀ (k : Link) (s : State), s.linkOn k → (s.link k).failed → s.linkState k ≠ 4 →
    Completes (.failedRetry k) s (fun t =>
      t.linkState k = 1
      ∧ (∀ i ∈ (s.latchLink k true).linkLanes k, s.flag (Reg.LANE_CFG i) Fld.LANE_CFG_RX_EN → t.laneState i = 2)
      ∧ t.link k = { s.link k with
          cfg := Fld.LANE_LINK_CFG_ENABLE.into (s.reg (Reg.LANE_LINK_CFG k)) 1, timer := s.reg (Reg.LANE_LINK_TIMER k) }
      ∧ (∀ j, j ≠ k.val → t.link j = s.link j)
      ∧ KeepsRegs s t (Between 0x200000 0x23FFFF) ∧ Only [.regs, .lanes, .links] s t))

/-- R64, R73, R74, R88–R92, R106: what becomes of the blocks of an ingest link. SOP, data blocks and EOP frame a packet, which is passed on or
dropped under its cause; the ingest block rejects one by the first test of R90 that it fails; of an accepted one, each pair that is neither
released, stored nor below INGEST_START is stored with its samples in R89's order, LATE and DUP are counted once, and SYM_FIX by components.
A link that is not UP passes nothing on.
Where the spec leaves a point open this states the model's choice: log entries 23, 33, 35, 38, 209, 210 and 211. -/
def Obligations.IngestPackets : Prop :=
  (∀ (ds : List (List Byte × Bool)) (sop eop : List Byte) (b0 b1 : Bool), byteAt sop 0 = 0x2D → byteAt eop 0 = 0x4B →
    let r := frameBlocks ((⟨false, sop, b0⟩ : Block257) :: ds.map (fun (x : List Byte × Bool) => (⟨true, x.1, x.2⟩ : Block257))
      ++ [(⟨false, eop, b1⟩ : Block257)])
    let valid : List Byte := (ds.map (·.1)).dropLast.flatten ++ (((ds.map (·.1)).getLast?).getD []).take (byteAt eop 1)
    r.ctrlBad = 0
    ∧ (if b0 ∨ b1 ∨ (∃ x ∈ ds, x.2 = true) then r.packets = [] ∧ r.drops = [2]
      else if ds = [] ∨ fieldAt eop 2 2 ≠ ds.length ∨ byteAt eop 1 = 0 ∨ 32 < byteAt eop 1 then r.packets = [] ∧ r.drops = [0]
      else if crc32c valid = fieldAt eop 4 4 then r.packets = [valid] ∧ r.drops = []
      else r.packets = [] ∧ r.drops = [1]))
  ∧ (∀ (l : Link) (bs : List Block257) (b : Nat) (s : State), s.linkState l ≠ 4 → Completes (.ingestPacket l bs b) s (fun t => t = s))
  ∧ (∀ (l : Link) (bs : List Block257) (b : Nat) (s : State), s.linkOn l → s.linkBidir l = false → s.linkState l = 4 →
    (frameBlocks bs).packets = [] →
    Completes (.ingestPacket l bs b) s (fun t =>
      (∀ n < 3, t.full (Reg.LANE_LINK_COUNT l n)
        = min (s.full (Reg.LANE_LINK_COUNT l n) + (frameBlocks bs).drops.count n) (2 ^ 32 - 1))
      ∧ t.full (Reg.LANE_LINK_COUNT l 3) = min (s.full (Reg.LANE_LINK_COUNT l 3) + (frameBlocks bs).ctrlBad) (2 ^ 32 - 1)
      ∧ KeepsRegs s t (fun a => ∃ n < 4, a = Reg.LANE_LINK_COUNT l n) ∧ Only [.regs] s t))
  ∧ (∀ (l : Link) (bs : List Block257) (p : List Byte) (b n : Nat) (s : State), s.linkOn l → s.linkBidir l = false → s.linkState l = 4 →
    (frameBlocks bs).packets = [p] → (frameBlocks bs).drops = [] → s.running → s.flag Reg.INGEST_CTL Fld.INGEST_CTL_ENABLE →
    s.packetCause l p = some n → s.pendingBytes < s.storeRoom →
    Completes (.ingestPacket l bs b) s (fun t =>
      t.full (Reg.INGEST_COUNT n) = min (s.full (Reg.INGEST_COUNT n) + 1) (2 ^ 32 - 1)
      ∧ (s.full (Reg.INGEST_COUNT n) = 0 → n ≠ 7 → Counted s t (Ev.INGEST_COUNT_0 + n))
      ∧ KeepsRegs s t (fun a => a = Reg.INGEST_COUNT n ∨ a = Reg.LANE_LINK_COUNT l 3
          ∨ (s.full (Reg.INGEST_COUNT n) = 0 ∧ n ≠ 7 ∧ EventRegs (Ev.INGEST_COUNT_0 + n) a))
      ∧ Only eventParts s t))
  ∧ (∀ (l : Link) (bs : List Block257) (p : List Byte) (b : Nat) (s : State), s.linkOn l → s.linkBidir l = false → s.linkState l = 4 →
    (frameBlocks bs).packets = [p] → (frameBlocks bs).drops = [] → s.running → s.flag Reg.INGEST_CTL Fld.INGEST_CTL_ENABLE →
    s.packetCause l p = none →
    let h := ingestHdr p
    let d := s.streamDef h.stream
    s.pendingBytes + State.declared d < s.storeRoom →
    Completes (.ingestPacket l bs b) s (fun t =>
      let fate : Nat → Nat → State.PairFate := fun c i => s.pairFate (h.chanBase + c) (h.k + i) h.stream h.inputBase d.si
      let some_ : State.PairFate → Prop := fun f => ∃ c < d.sc, ∃ i < d.ss, fate c i = f
      let sample : Nat → Int × Int := fun n => if d.fmt8 then (toS 8 (byteAt p (32 + 2 * n)), toS 8 (byteAt p (33 + 2 * n)))
        else (toS 4 (byteAt p (32 + n) / 16), toS 4 (byteAt p (32 + n)))
      let low : Int := if d.fmt8 then -128 else -8
      let fixed : Int → Int := fun x => if d.sym ∧ x = low then x + 1 else x
      let mends : Nat := ((List.range (d.ss * d.sc * d.si)).map (fun n =>
        b2n (d.sym && decide ((sample n).1 = low)) + b2n (d.sym && decide ((sample n).2 = low)))).sum
      (∀ c < d.sc, ∀ i < d.ss, fate c i = State.PairFate.stored →
        ∃ x : Slice, t.slicesOf (h.chanBase + c) (h.k + i) = s.slicesOf (h.chanBase + c) (h.k + i) ++ [x]
          ∧ x.stream = h.stream ∧ x.base = h.inputBase ∧ x.invalid = h.invalid ∧ x.overload = h.overload ∧ x.cal = h.cal
          ∧ x.samples.length = d.si
          ∧ ∀ j < d.si, x.samples.getD j (0, 0) = (fixed (sample ((i * d.sc + c) * d.si + j)).1, fixed (sample ((i * d.sc + c) * d.si + j)).2))
      ∧ (∀ c k, (∀ c' < d.sc, ∀ i < d.ss, c = h.chanBase + c' → k = h.k + i → fate c' i ≠ State.PairFate.stored) → t.slicesOf c k = s.slicesOf c k)
      ∧ (some_ State.PairFate.late → t.full (Reg.INGEST_COUNT 8) = min (s.full (Reg.INGEST_COUNT 8) + 1) (2 ^ 32 - 1))
      ∧ (¬ some_ State.PairFate.late → t.full (Reg.INGEST_COUNT 8) = s.full (Reg.INGEST_COUNT 8))
      ∧ (some_ State.PairFate.dup → t.full (Reg.INGEST_COUNT 9) = min (s.full (Reg.INGEST_COUNT 9) + 1) (2 ^ 32 - 1))
      ∧ (¬ some_ State.PairFate.dup → t.full (Reg.INGEST_COUNT 9) = s.full (Reg.INGEST_COUNT 9))
      ∧ t.full (Reg.INGEST_COUNT 11) = min (s.full (Reg.INGEST_COUNT 11) + mends) (2 ^ 32 - 1)
      ∧ (some_ State.PairFate.stored → t.flag (Reg.STREAM_STATUS h.stream) Fld.STREAM_STATUS_SEEN ∧ t.isAbsent h.stream = false)
      ∧ (∀ c, t.nextIndex c = s.nextIndex c)
      ∧ KeepsRegs s t (fun a => a = Reg.INGEST_COUNT 8 ∨ a = Reg.INGEST_COUNT 9 ∨ a = Reg.INGEST_COUNT 11 ∨ a = Reg.LANE_LINK_COUNT l 3
          ∨ a = Reg.STREAM_STATUS h.stream ∨ a = Reg.INGEST_STATUS ∨ a = Reg.INGEST_STORE ∨ a = Reg.WEAVE_COUNT 0 ∨ AnyEventRegs a)
      ∧ Only (([.ingest] : List Part) ++ sendParts) s t ∧ (s.mode = 0 → Only (([.ingest] : List Part) ++ eventParts) s t)))

/-- R94–R96, R525: a channel's next pair is released when every stream it waits for has stored its slices, or when its wait ends, and
then alone: its release point rises by one sheaf, the pair leaves the store, and no other coarse pair and no other release point moves. A
channel that may not release, or has nothing to release, leaves the state as it was.
Where the spec leaves a point open this states the model's choice: log entries 36 and 210. -/
def Obligations.Releases : Prop :=
  ∀ (c : Chan) (b : Nat) (s : State),
    let k := s.nextIndex c
    let done := fun t : State =>
      t.nextIndex c = k + s.chanStep c ∧ t.slicesOf c k = [] ∧ t.flag Reg.INGEST_STATUS Fld.INGEST_STATUS_RUNNING
      ∧ t.twin.relPos = s.twin.relPos + 1
      ∧ (s.standby = true → t.twin.order = s.twin.order.drop 1)
      ∧ (∀ c', c' ≠ c.val → t.nextIndex c' = s.nextIndex c')
      ∧ (∀ c' k', c' < s.cAll → c' ≠ c.val ∨ k' ≠ k → t.slicesOf c' k' = s.slicesOf c' k')
      ∧ ((∀ x ∈ s.ingest.changes, ∀ e ∈ x.items, e.1 < 8192) → KeepsRegs s t (fun a => InBlock [1, 3, 4, 5, 6, 9, 10, 15] a ∨ DestRegs a
          ∨ (∃ x ∈ s.alm.execs, a = Reg.ALM_STATE x.entry) ∨ a = Reg.ALM_COUNT 4 ∨ a = Reg.TWIN_STATUS ∨ a = Reg.TWIN_COUNT 0
          ∨ a = Reg.WEAVE_COUNT 0 ∨ a = Reg.WEAVE_COUNT 5))
      ∧ Only (([.ingest, .harrow, .weed, .turn, .glean, .beam, .hbm, .poison, .mem, .free, .twin, .firings, .pins] : List Part) ++ sendParts ++ destParts) s t
    (s.mayRelease c → s.isOrdered c → s.pairWhole c k → Completes (.sheafRelease c b) s done)
    ∧ (s.mayRelease c → s.isOrdered c → (s.standby ∨ s.slicesOf c k ≠ [] ∨ k < s.ingest.top) → Completes (.waitExpiry c b) s done)
    ∧ ((s.mayRelease c = false ∨ s.isOrdered c = false ∨ s.pairWhole c k = false) → Completes (.sheafRelease c b) s (fun t => t = s))
    ∧ ((s.mayRelease c = false ∨ s.isOrdered c = false ∨ (s.standby = false ∧ s.slicesOf c k = [] ∧ s.ingest.top ≤ k)) →
        Completes (.waitExpiry c b) s (fun t => t = s))

/-- R102, R103, R105, R106, R120: a sheaf's samples, validity and flags, and the rounding and clipping of both requantisers. An input is
zero and invalid where its slice is missing, INVALID or masked; requantising rounds to the nearest value, ties away from zero, and
counts exactly the components that it clips.
Where the spec leaves a point open this states the model's choice: log entries 33, 40 and 213. -/
def Obligations.SheafContentsAndRequantisation : Prop :=
  (∀ (s : State) (c k : Nat) (sl : List Slice) (forced : Bool) (h : Nat), c < s.cAll → h < s.nHeld → (∀ x ∈ sl, x.flags = 0 ∧ x.valid = []) →
    let (wide, narrow, clips) := s.buildSheaf c k sl forced
    let g := s.heldInput h
    wide.samples.length = s.nHeld ∧ narrow.samples.length = s.nHeld ∧ narrow.valid = wide.valid
    ∧ (match State.sliceOf sl g with
      | none => wide.valid.getD h true = false
      | some x => wide.valid.getD h true = (!x.invalid && !s.maskedAt c k g)
          ∧ (wide.valid.getD h true = true → wide.samples.getD h (0, 0) = x.samples.getD (g - x.base) (0, 0)
              ∧ narrow.samples.getD h (0, 0) = (if x.wide then (requantSample (s.gainAt c k g) (s.streamSym x.stream)
                  (x.samples.getD (g - x.base) (0, 0))).1 else x.samples.getD (g - x.base) (0, 0))))
    ∧ (wide.valid.getD h true = false → wide.samples.getD h (1, 1) = (0, 0) ∧ narrow.samples.getD h (1, 1) = (0, 0))
    ∧ (bitAt wide.flags 0 ↔ ∃ j < s.nHeld, State.sliceOf sl (s.heldInput j) = none)
    ∧ (bitAt wide.flags 1 ↔ ∃ x ∈ sl, x.invalid) ∧ (bitAt wide.flags 2 ↔ ∃ x ∈ sl, x.overload) ∧ (bitAt wide.flags 3 ↔ ∃ x ∈ sl, x.cal)
    ∧ (bitAt wide.flags 4 ↔ (∃ x ∈ sl, x.cal) ∧ ∃ x ∈ sl, x.cal = false) ∧ (bitAt wide.flags 5 ↔ forced)
    ∧ (bitAt wide.flags 6 ↔ ∃ j < s.nHeld, s.maskedAt c k (s.heldInput j)) ∧ wide.flags < 128 ∧ clips ≤ 2 * s.nHeld)
  ∧ (∀ (g : Nat) (sym : Bool) (x : Int),
    ∃ y : Int, -65536 ≤ 2 * (65536 * y - x * g) ∧ 2 * (65536 * y - x * g) ≤ 65536
      ∧ (2 * (65536 * y - x * g) = 65536 → 0 ≤ y) ∧ (2 * (65536 * y - x * g) = -65536 → y ≤ 0)
      ∧ (requant g sym x).1 = max (if sym then -7 else -8) (min 7 y)
      ∧ (requant g sym x).2 = (if (requant g sym x).1 = y then 0 else 1))
  ∧ (∀ (g gf shift : Nat) (w8 sym : Bool) (x : Int),
    let top : Int := if w8 then 127 else 7
    ∃ y : Int, -(2 ^ (32 + shift)) ≤ 2 * (2 ^ (32 + shift) * y - x * g * gf) ∧ 2 * (2 ^ (32 + shift) * y - x * g * gf) ≤ 2 ^ (32 + shift)
      ∧ (2 * (2 ^ (32 + shift) * y - x * g * gf) = 2 ^ (32 + shift) → 0 ≤ y)
      ∧ (2 * (2 ^ (32 + shift) * y - x * g * gf) = -(2 ^ (32 + shift)) → y ≤ 0)
      ∧ (requantFine g gf shift w8 sym x).1 = max (if sym then -top else -top - 1) (min top y)
      ∧ (requantFine g gf shift w8 sym x).2 = (if (requantFine g gf shift w8 sym x).1 = y then 0 else 1))

/-- R107, R121, R351, R352: a keyed change of masks or gains takes effect on each of its units at the first sheaf with the index of the
command or more that the unit has not released; it is LATE when some unit had released such a sheaf; what it writes to an input last is
the input's value there; and the command waits until the change has taken effect everywhere.
Where the spec leaves a point open this states the model's choice: log entry 43. -/
def Obligations.KeyedMaskAndGainChanges : Prop :=
  ∀ (op top : Nat) (i : CmdSrc → HostRead → Instr) (kinds : State → List ChangeKind) (good : State → Nat → Bool)
    (items : ChangeKind → Nat → Option (Nat × Nat)),
    (op = 0x10 ∧ top = 8192 ∧ i = Instr.ingestMask ∧ kinds = (fun s => [ChangeKind.mask s.p0])
        ∧ good = (fun s e => decide (e % 8192 < s.nDirect) && decide (e / 8192 % 4 = 0) && decide (e / 65536 = 0))
        ∧ items = (fun _ e => some (e % 8192, e / 32768 % 2)))
      ∨ (op = 0x11 ∧ top = 8192 ∧ i = Instr.ingestGain ∧ kinds = (fun _ => [ChangeKind.gain])
        ∧ good = (fun s e => decide (e % 8192 < s.nDirect) && decide (e / 8192 % 8 = 0)) ∧ items = (fun _ e => some (e % 8192, e / 65536)))
      ∨ (op = 0x1A ∧ top = 16384 ∧ i = Instr.harrowGain ∧ kinds = (fun _ => [.harrowGain, ChangeKind.fineGain])
        ∧ good = (fun s e => decide (e / 2 ^ 29 % 4 = 0)
            && (if bitAt e 31 then decide (e / 65536 % 8192 < s.fineM * s.zoomTop) else decide (e / 65536 % 8192 < s.nDirect)))
        ∧ items = (fun kind e => if bitAt e 31 = (kind == ChangeKind.fineGain) then some (e / 65536 % 8192, e % 65536) else none)) →
    ∀ (src : CmdSrc) (tb : HostRead) (s u s1 : State) (ref : CmdRef) (d : List Byte) (r : Nat), Handed s src op u s1 ref d r →
    (∀ x ∈ u.ingest.changes, x.done ∨ u.changeDone x = false) →
    (∀ bs, descK d ≠ emptyKey → 1 ≤ descCount d → descCount d ≤ top → s1.table r d (4 * descCount d) tb = .ok bs → (words bs).all (good u) →
      (∃ kind ∈ kinds u, u.changeUnits kind ≠ []) →
      Completes (i src tb) s (fun t =>
        ∃ new, t.ingest.changes = u.ingest.changes ++ new ∧ new.map (·.kind) = kinds u
        ∧ (∀ x ∈ new, x.k = descK d ∧ x.ref = some ref ∧ x.done = false ∧ x.items = (words bs).filterMap (items x.kind)
          ∧ (∀ v ∈ u.changeUnits x.kind, x.eff u.fineM v = (if v < 4096 then max (descK d) (u.unitNext v)
              else max (descK d) (u.unitNext v) / u.fineM * u.fineM + u.fineM - 1))
          ∧ (x.late = true ↔ ∃ v ∈ u.changeUnits x.kind, u.firstIndex (if v < 4096 then v else u.cAll) < u.unitNext v
              ∧ descK d + (if v < 4096 then 1 else u.fineM) ≤ u.unitNext v)
          ∧ (∀ v ∈ u.changeUnits x.kind, ∀ n val base, (x.items.filter (fun e => e.1 == n)).getLast? = some (n, val) →
              t.keyedValue [x.kind] v (x.eff u.fineM v) n base = val))
        ∧ (∀ c, t.nextIndex c = u.nextIndex c) ∧ KeepsRegs u t AnyEventRegs
        ∧ Only (([.ingest, .rings, .firings] : List Part) ++ sendParts) u t ∧ (op ≠ 0x10 ∨ u.mode = 0 → Only [.ingest, .rings, .firings] u t)))
    ∧ ((descK d = emptyKey ∨ descCount d = 0 ∨ top < descCount d) →
      Completes (i src tb) s (fun t => Answered t ref (fun c => c.status = St.BAD_PARAM)
        ∧ KeepsRegs u t (AnswerRegs s1 src) ∧ Only answerParts u t))

/-- R113–R115, R125, R129, R352: HARROW_RESET and HARROW_DC take effect on each enabled slot of their mask, a reset at the first frame
boundary and a DC command at the first sheaf that the slot has not yet passed, and are LATE when that is not the one asked for; the
blocker's estimate holds while it is frozen and never leaves its 28 bits; a read of HARROW_DC_RE captures both parts.
Where the spec leaves a point open this states the model's choice: log entry 47. -/
def Obligations.HarrowSlotCommandsAndBlocker : Prop :=
  (∀ (src : CmdSrc) (s u s1 : State) (ref : CmdRef) (d : List Byte) (r : Nat) (reset : Bool),
    Handed s src (if reset then 0x18 else 0x19) u s1 ref d r → descK d ≠ emptyKey →
    (reset = false → byteAt d 36 ≤ 2 ∧ (byteAt d 36 = 2 → 8 ≤ byteAt d 37 ∧ byteAt d 37 ≤ 20)) →
    let zs := u.zoomSlots.filter (bitAt (fieldAt d 40 8))
    let due := fun z => if reset then ceilDiv (max (descK d) (u.nextIndex (u.zoomCoarse z))) u.fineM * u.fineM
      else max (descK d) (u.nextIndex (u.zoomCoarse z))
    let asked := if reset then ceilDiv (descK d) u.fineM * u.fineM else descK d
    Completes (if reset then Instr.harrowReset src else Instr.harrowDc src) s (fun t =>
      (zs ≠ [] → ∃ j, t.harrow.jobs = u.harrow.jobs ++ [j] ∧ j.ref = ref ∧ j.at_ = zs.map (fun z => (z, due z))
        ∧ j.action = (if reset then 0 else byteAt d 36 + 1) ∧ (reset = false → j.value = byteAt d 37)
        ∧ (j.late = true ↔ ∃ z ∈ zs, due z ≠ asked) ∧ ∀ z ∈ zs, due z ≤ j.top)
      ∧ (zs = [] → t.harrow = u.harrow ∧ Answered t ref (fun c => c.status = 0 ∧ c.aux = descK d ∧ c.late = false))
      ∧ t.harrow.slots = u.harrow.slots
      ∧ KeepsRegs u t (fun a => (reset ∧ a = Reg.HARROW_STATUS) ∨ AnswerRegs s1 src a) ∧ Only (([.harrow] : List Part) ++ answerParts) u t))
  ∧ (∀ (src : CmdSrc) (s u s1 : State) (ref : CmdRef) (d : List Byte) (r : Nat), Handed s src 0x19 u s1 ref d r →
    (descK d = emptyKey ∨ 2 < byteAt d 36 ∨ (byteAt d 36 = 2 ∧ (byteAt d 37 < 8 ∨ 20 < byteAt d 37))) →
    Completes (.harrowDc src) s (fun t => Answered t ref (fun c => c.status = St.BAD_PARAM) ∧ Only answerParts u t))
  ∧ (∀ (on frozen valid : Bool) (k : Nat) (x e : Int), -128 ≤ x → x ≤ 127 → -(2 ^ 27) ≤ e → e < 2 ^ 27 →
    let (y, e') := dcStep on frozen k x e valid
    e' < 2 ^ 27 ∧ -(2 ^ 27) ≤ e' ∧ (on = false ∨ frozen ∨ valid = false → e' = e) ∧ (valid = false → y = 0)
    ∧ (on = false → valid → y = 16 * x) ∧ (on → valid → -(2 ^ 15) ≤ 2 ^ 16 * y - (x * 2 ^ 20 - e) ∧ 2 ^ 16 * y - (x * 2 ^ 20 - e) ≤ 2 ^ 15))
  ∧ (∀ s : State, s.isReady →
    let e := (s.slot (s.get Reg.HARROW_DC_SEL Fld.HARROW_DC_SEL_SLOT)).est.getD (s.get Reg.HARROW_DC_SEL Fld.HARROW_DC_SEL_INPUT) (0, 0)
    Completes .harrowDcReRead s (fun t =>
      t.readData.toNat = ofS 32 e.1 ∧ t.full Reg.HARROW_DC_RE = ofS 32 e.1 ∧ t.full Reg.HARROW_DC_IM = ofS 32 e.2
      ∧ KeepsRegs s t (fun a => a = Reg.HARROW_DC_RE ∨ a = Reg.HARROW_DC_IM) ∧ Only [.regs, .readData] s t))

/-- R137, R139, R151, R517: WEED_CTL takes effect on each correlated channel of its range at the first block boundary at or after its index
that the channel has not begun; a block whose partners stay silent is flagged whole and its flag-plane entry written; the probe reads
the trackers.
Where the spec leaves a point open this states the model's choice: log entries 50, 51 and 215. -/
def Obligations.WeederCommandsAndProbe : Prop :=
  (∀ (src : CmdSrc) (s u s1 : State) (ref : CmdRef) (d : List Byte) (r : Nat), Handed s src 0x20 u s1 ref d r → descK d ≠ emptyKey →
    let c0 := fieldAt d 36 2
    let n := fieldAt d 38 2
    let bad := n = 0 ∨ 4096 < c0 + n ∨ (bitAt (byteAt d 40) 2 ∧ bitAt (byteAt d 40) 3)
    let chs := ((List.range n).map (· + c0)).filter u.isCorr
    let want := fun ch => ceilDiv (ceilDiv (descK d - u.firstIndex ch) (u.chanStep ch)) u.skLen
    let due := fun ch => max (want ch) (ceilDiv (u.weedChan ch).seen u.skLen)
    Completes (.weedCtl src) s (fun t =>
      (bad → t.weed = u.weed ∧ Answered t ref (fun c => c.status = St.BAD_PARAM))
      ∧ (¬ bad → chs ≠ [] → ∃ j, t.weed = { u.weed with jobs := u.weed.jobs ++ [j] } ∧ j.ref = ref ∧ j.desc = d
          ∧ j.at_ = chs.map (fun ch => (ch, due ch)) ∧ (j.late = true ↔ ∃ ch ∈ chs, want ch < due ch)
          ∧ ∀ ch ∈ chs, u.indexOf ch (due ch * u.skLen) ≤ j.top)
      ∧ (¬ bad → chs = [] → t.weed = u.weed ∧ Answered t ref (fun c => c.status = 0))
      ∧ KeepsRegs u t (AnswerRegs s1 src) ∧ Only (([.weed] : List Part) ++ answerParts) u t))
  ∧ (∀ s : State, s.isReady → s.weed.init.isSome →
    let x := s.weedChan (s.get Reg.WEED_PROBE_SEL Fld.WEED_PROBE_SEL_CHANNEL)
    x.m < 65536 → x.dev < 65536 → x.pm < 2 ^ 32 →
    Completes .weedProbeSkRead s (fun t =>
      t.readData.toNat = x.m + 65536 * x.dev ∧ t.get Reg.WEED_PROBE_SK Fld.WEED_PROBE_SK_M = x.m
      ∧ t.get Reg.WEED_PROBE_SK Fld.WEED_PROBE_SK_DEV = x.dev ∧ t.full Reg.WEED_PROBE_PM = x.pm
      ∧ KeepsRegs s t (fun a => a = Reg.WEED_PROBE_SK ∨ a = Reg.WEED_PROBE_PM) ∧ Only [.regs, .readData] s t))
  ∧ (∀ (c : Chan) (b : WeedBlock) (s : State), s.weed.blocks.find? (fun x => x.chan == c.val) = some b → s.nHeld % 8 = 0 →
    b.inputs.length = s.nDirect → s.directAt + s.nDirect ≤ s.nHeld →
    Completes (.flagWaitTimeout c) s (fun t =>
      t.full (Reg.WEAVE_COUNT 2) = min (s.full (Reg.WEAVE_COUNT 2) + 1) (2 ^ 32 - 1) ∧ Counted s t Ev.WEAVE_FLAG_TIMEOUT
      ∧ t.weed.blocks = s.weed.blocks.filter (fun x => !(x.chan == b.chan && x.block == b.block))
      ∧ bitAt (t.hbmByte (s.planeAddr b.chan b.block + s.nHeld / 8)).toNat 0 = true
      ∧ (∀ i < s.nDirect, bitAt (t.hbmByte (s.planeAddr b.chan b.block + (s.directAt + i) / 8)).toNat ((s.directAt + i) % 8)
          = b.inputs.getD i false)
      ∧ KeepsHbmBut s t (s.planeAddr b.chan b.block) s.planeBytes
      ∧ KeepsRegs s t (fun a => a = Reg.WEAVE_COUNT 2 ∨ InBlock [5, 15] a ∨ AnyEventRegs a ∨ DestRegs a ∨ a = Reg.TWIN_STATUS ∨ a = Reg.TWIN_COUNT 0)
      ∧ Only (([.weed, .hbm, .poison, .mem, .turn, .rings, .pins, .twin] : List Part) ++ sendParts) s t))
  ∧ (∀ (c : Chan) (s : State), s.weed.blocks.find? (fun x => x.chan == c.val) = none → Completes (.flagWaitTimeout c) s (fun t => t = s))

/-- R138, R139, R142: spectral kurtosis is the floor that R138 computes, 0 for a steady tone and absent where the block is not judged;
the trackers move by at most STEP per judged value and never leave their limits, whatever values a block brings; the sheaf-power
tracker moves toward its target by at most PSTEP and never passes it. -/
def Obligations.WeederArithmetic : Prop :=
  (∀ s1 s2 n : Nat, s1 * s1 ≤ n * s2 →
    (kurtosis s1 s2 n = none ↔ n < 2 ∨ s1 = 0)
    ∧ (∀ q, kurtosis s1 s2 n = some q →
        q ≤ 0xFFFF ∧ q * ((n - 1) * s1 * s1) ≤ (n + 1) * (n * s2 - s1 * s1) * 4096
        ∧ (q < 0xFFFF → (n + 1) * (n * s2 - s1 * s1) * 4096 < (q + 1) * ((n - 1) * s1 * s1))
        ∧ (n * s2 = s1 * s1 → q = 0)))
  ∧ (∀ (step lo hi dMax : Nat) (qs : List Nat) (t : Nat × Nat), lo ≤ t.1 → t.1 ≤ hi → 1 ≤ t.2 → t.2 ≤ dMax →
    let r := qs.foldl (trackStep step lo hi dMax) t
    lo ≤ r.1 ∧ r.1 ≤ hi ∧ 1 ≤ r.2 ∧ r.2 ≤ dMax ∧ r.1 ≤ t.1 + step * qs.length ∧ t.1 ≤ r.1 + step * qs.length
    ∧ r.2 ≤ t.2 + step * qs.length ∧ t.2 ≤ r.2 + step * qs.length)
  ∧ (∀ m dev k : Nat, upperOf m dev k = min (m + k * dev / 16) 0xFFFF ∧ (m ≤ 0xFFFF → lowerOf m dev k ≤ m ∧ m ≤ upperOf m dev k))
  ∧ (∀ step pm target : Nat, 1 ≤ pm → pm < 2 ^ 32 →
    let r := pmStep step pm target
    1 ≤ r ∧ r < 2 ^ 32 ∧ (pm ≤ target → pm ≤ r ∧ r ≤ pm + step ∧ r ≤ target) ∧ (target ≤ pm → r ≤ pm ∧ pm ≤ r + step ∧ (1 ≤ target → target ≤ r)))

/-- R139, R142, R155–R160, R373: a turning write puts the channel's oldest waiting sheaf past the weeder into the slot of its sequence number,
and nowhere else but the flag-plane entry of a block that ends; a retained slot, or a write part of port 0 that waits for room, makes it wait;
a withheld sheaf advances the sequence and stores nothing; and what was written is what the turning read delivers.
Where the spec leaves a point open this states the model's choice: log entries 17 and 52. -/
def Obligations.TurningWriteAndRead : Prop :=
  (∀ (c : Chan) (s : State) (sh : Sheaf), s.turn.queue.find? (fun e => e.1 == c.val) = some (c.val, some sh) → s.slotKept c = false →
    s.portWaits 0 = false → s.weedOn = false → sh.samples.length = s.nHeld → sh.valid.length = s.nHeld → s.nHeld % 8 = 0 →
    let n := (s.turnChan c).wr
    Completes (.turningWrite c) s (fun t =>
      t.hbmRead (s.slotAddr c n) s.slotBytes = s.slotImage sh ∧ KeepsHbmBut s t (s.slotAddr c n) s.slotBytes
      ∧ (t.turnChan c).wr = n + 1 + (((s.turn.queue.filter (fun e => e.1 == c.val)).drop 1).takeWhile (fun e => e.2.isNone)).length
      ∧ (∀ ch, ch ≠ c.val → t.turnChan ch = s.turnChan ch ∧ t.turn.queue.filter (fun e => e.1 == ch) = s.turn.queue.filter (fun e => e.1 == ch))
      ∧ ((s.turnChan c).withheld.all (fun i => i != n) → sh.flags % 2 ^ 16 = sh.flags → bitAt sh.flags 8 = false →
          bitAt sh.flags 14 = false →
          (∀ x ∈ sh.samples, ∀ y ∈ [x.1, x.2], if s.width8 then -128 ≤ y ∧ y ≤ 127 else -8 ≤ y ∧ y ≤ 7) →
          let p := t.readSheaf c n
          p.full = false ∧ p.withheld = false ∧ p.sheaf.k = sh.k % 2 ^ 56 ∧ p.sheaf.flags = sh.flags ∧ p.sheaf.valid = sh.valid
          ∧ ∀ i < s.nHeld, p.sheaf.samples.getD i (0, 0) = (if sh.valid.getD i false then sh.samples.getD i (0, 0) else (0, 0)))
      ∧ KeepsRegs s t (fun a => a = Reg.TURN_STATUS ∨ a = Reg.TURN_MARGIN_MIN ∨ EventRegs Ev.TURN_LAG a)
      ∧ Only (([.turn, .hbm, .poison, .mem] : List Part) ++ eventParts) s t))
  ∧ (∀ (c : Chan) (s : State) (sh : Sheaf), s.turn.queue.find? (fun e => e.1 == c.val) = some (c.val, some sh) → s.slotKept c = false →
    s.portWaits 0 = false → s.weedOn → s.mode = 0 → s.weed.jobs = [] → sh.samples.length = s.nHeld → sh.valid.length = s.nHeld →
    s.nHeld % 8 = 0 → sh.chan = c.val →
    (∀ e ∈ ((s.turn.queue.filter (fun e => e.1 == c.val)).drop 1).head?, e.2.isSome) →
    let n := (s.turnChan c).wr
    let seen := (s.weedChan c).seen
    Completes (.turningWrite c) s (fun t =>
      (∃ hit : Bool, t.hbmRead (s.slotAddr c n) s.slotBytes = s.slotImage { sh with flags := Nat.lor sh.flags (b2n hit * 2 ^ 14) }
        ∧ t.full (Reg.WEED_COUNT 4) = min (s.full (Reg.WEED_COUNT 4) + b2n hit) (2 ^ 32 - 1)
        ∧ (s.flag Reg.WEED_CFG Fld.WEED_CFG_SHEAF_EN = false → hit = false))
      ∧ (t.turnChan c).wr = n + 1 ∧ (t.weedChan c).seen = seen + 1
      ∧ (∀ a, (a < s.slotAddr c n ∨ s.slotAddr c n + s.slotBytes ≤ a) →
          ((seen + 1) % s.skLen ≠ 0 ∨ a < s.planeAddr c (seen / s.skLen) ∨ s.planeAddr c (seen / s.skLen) + s.planeBytes ≤ a) →
          t.hbmByte a = s.hbmByte a)
      ∧ KeepsRegs s t (fun a => InBlock [5, 6, 15] a ∨ AnyEventRegs a ∨ DestRegs a ∨ a = Reg.TWIN_STATUS ∨ a = Reg.TWIN_COUNT 0)
      ∧ Only (([.turn, .weed, .hbm, .poison, .mem, .pins, .twin] : List Part) ++ sendParts ++ destParts) s t))
  ∧ (∀ (c : Chan) (s : State) (sh : Sheaf), s.turn.queue.find? (fun e => e.1 == c.val) = some (c.val, some sh) → s.slotKept c = false →
    s.portWaits 0 → Completes (.turningWrite c) s (fun t => t = s))
  ∧ (∀ (c : Chan) (s : State) (sh : Sheaf), s.turn.queue.find? (fun e => e.1 == c.val) = some (c.val, some sh) → s.slotKept c = true →
    Completes (.turningWrite c) s (fun t =>
      ((s.turnChan c).waiting → t = s)
      ∧ ((s.turnChan c).waiting = false → t.turnChan c = { s.turnChan c with waiting := true }
          ∧ t.full (Reg.TURN_COUNT 0) = min (s.full (Reg.TURN_COUNT 0) + 1) (2 ^ 32 - 1) ∧ Counted s t Ev.TURN_WRITE_WAIT)
      ∧ t.turn.queue = s.turn.queue ∧ KeepsHbm s t
      ∧ KeepsRegs s t (fun a => a = Reg.TURN_COUNT 0 ∨ EventRegs Ev.TURN_WRITE_WAIT a) ∧ Only (([.turn] : List Part) ++ eventParts) s t))
  ∧ (∀ (c : Chan) (s : State), s.turn.queue.find? (fun e => e.1 == c.val) = some (c.val, none) →
    Completes (.turningWrite c) s (fun t =>
      (∃ m, (t.turnChan c).wr = (s.turnChan c).wr + 1 + m ∧ (s.turnChan c).wr ∈ (t.turnChan c).withheld)
      ∧ (s.weedOn = false → KeepsHbm s t ∧ Only (([.turn] : List Part) ++ eventParts) s t)
      ∧ Only (([.turn, .weed, .hbm, .poison, .mem, .firings, .pins, .twin, .outInputFlags] : List Part) ++ sendParts ++ destParts) s t))
  ∧ (∀ (c : Chan) (s : State), s.turn.queue.find? (fun e => e.1 == c.val) = none → Completes (.turningWrite c) s (fun t => t = s))

/-- R169, R172, R183, R185, R186: the witness identity. The words of a tile over any sheaves add up to the sum of the products of its group
sums, exactly; so a bank that drains with errors fails its witness exactly when the net error of its words differs from that of its
witness modulo 2^24 in some component, and every flip of one bit of one accumulator is seen. -/
def Obligations.WitnessIdentity : Prop :=
  (∀ (l : List PassSheaf) (row col : Nat → Option Nat),
    (tileWords l row col).foldl (fun (a : Int × Int) x => (a.1 + x.1, a.2 + x.2)) (0, 0) = tileWitness l row col)
  ∧ (∀ (s : State) (f : Flight) (n : Nat) (r : SpillReport),
    let net := (r.deltas.filter (fun d => decide (d.1 < 4096))).foldl (fun (a : Int × Int) d => (a.1 + d.2.1, a.2 + d.2.2)) (0, 0)
    (s.witnessFails f n (s.spilledTile f n r) r = true ↔ ofS 24 net.1 ≠ ofS 24 r.witness.1 ∨ ofS 24 net.2 ≠ ofS 24 r.witness.2))
  ∧ (∀ (s : State) (f : Flight) (n w b : Nat) (up re : Bool), w < 4096 → b < 24 →
    let e : Int := if up then 2 ^ b else -(2 ^ b)
    s.witnessFails f n (s.spilledTile f n { deltas := [(w, if re then (e, 0) else (0, e))] }) {} = true)

/-- R169–R171, R179: tiles are numbered without gaps in row-major order, a single device holds every one of them, and the placement gives each
held tile one furrow, round and slot of its own: the tile found there is that tile again.
Where the spec leaves a point open this states the model's choice: log entry 55. -/
def Obligations.TilesAndPlacement : Prop :=
  (∀ g a b : Nat, a ≤ b → b < g → 2 * (State.tileNumber g a b) + 2 ≤ g * (g + 1))
  ∧ (∀ g a b c d : Nat, a ≤ b → b < g → c ≤ d → d < g → (State.tileNumber g a b = State.tileNumber g c d ↔ a = c ∧ b = d))
  ∧ (∀ s : State, s.mode = 0 →
    2 * s.nTiles = s.tileGroups * (s.tileGroups + 1)
    ∧ (∀ a b : Nat, a ≤ b → b < s.tileGroups → s.heldTiles[State.tileNumber s.tileGroups a b]? = some (a, b))
    ∧ 2 * s.nVis = 64 * s.tileGroups * (64 * s.tileGroups + 1))
  ∧ (∀ (s : State) (l : List Nat), l.Nodup → l ≠ [] →
    (∀ n : Nat, n < s.nTiles →
      let p := s.tilePlace l n
      p.1 ∈ l ∧ p.2.2 < s.tileSlots ∧ p.2.1 < (s.rounds l.length).length ∧ s.tileAt l p.1 p.2.1 p.2.2 = some n)
    ∧ (∀ f round slot n : Nat, s.tileAt l f round slot = some n → n < s.nTiles ∧ s.tilePlace l n = (f, round, slot)))

/-- R146, R163, R164, R191, R195, R198, R201–R205, R373: the scheduler sends the first ready pass that no recompute holds, once the array is
warm and no part of the turning ports waits for room in a queue; a dispatch waits for the ramp of a spare that is to replace a retiring
furrow; a retiring furrow gives its list position to the lowest idle spare of its field at the dispatch; the governor brings spares and
listed furrows up and down in stages; CORR_RETIRE completes as R205's table says; FREEZE of the placement loop is acknowledged.
Where the spec leaves a point open this states the model's choice: log entries 62 and 63. -/
def Obligations.DispatchRetirementAndGovernor : Prop :=
  (∀ (s : State) (ch : Nat), s.turn.rdy.find? s.dispatchable = some ch → s.running → s.corrOn → s.corrWarm →
    s.portWaits 0 = false → s.portWaits 1 = false →
    (∀ f ∈ s.corr.flights.dropLast, f.left = []) → s.corr.list ≠ [] → s.corr.placeRun = false →
    (∀ f ∈ s.corr.list, s.furState f ≠ fRetiring) →
    Completes .passDispatch s (fun t =>
      let q := (s.turnChan ch).nd
      (∃ f, t.corr = { s.corr with flights := s.corr.flights ++ [f] } ∧ f.chan = ch ∧ f.pass = q ∧ f.list = s.corr.list
        ∧ f.sheaves = (List.range s.turnT).map (fun i => s.readSheaf ch (q * s.turnT + i)) ∧ f.left = List.range s.nTiles
        ∧ f.coming = s.nTiles ∧ f.owed = s.nTiles ∧ f.bad = [] ∧ f.loose = [] ∧ f.looseRounds = [] ∧ f.ended = false ∧ f.told = false)
      ∧ t.turnChan ch = { s.turnChan ch with nd := q + 1, live := (s.turnChan ch).live ++ [q] }
      ∧ (∀ c, c ≠ ch → t.turnChan c = s.turnChan c) ∧ t.turn.rdy = s.turn.rdy.erase ch ∧ t.turn.queue = s.turn.queue
      ∧ t.flag Reg.CORR_STATUS Fld.CORR_STATUS_RUNNING ∧ t.flag Reg.TURN_STATUS Fld.TURN_STATUS_RUNNING
      ∧ t.full (Reg.WEED_COUNT 6) = min (s.full (Reg.WEED_COUNT 6) + ((s.readPass ch q).map (fun (p : PassSheaf) => p.zeroed)).sum) (2 ^ 32 - 1)
      ∧ KeepsFields s t Reg.CORR_STATUS [Fld.CORR_STATUS_RUNNING] ∧ KeepsFields s t Reg.TURN_STATUS [Fld.TURN_STATUS_RUNNING]
      ∧ KeepsRegs s t (fun a => a = Reg.CORR_STATUS ∨ a = Reg.TURN_STATUS ∨ a = Reg.WEED_COUNT 6) ∧ Only [.regs, .turn, .corr] s t))
  ∧ (∀ s : State, (s.turn.rdy.find? s.dispatchable = none ∨ s.running = false ∨ s.corrOn = false ∨ s.corrWarm = false
      ∨ s.portWaits 0 = true ∨ s.portWaits 1 = true ∨ ∃ f ∈ s.corr.flights.dropLast, f.left ≠ []) → Completes .passDispatch s (fun t => t = s))
  ∧ (∀ (s : State) (ch : Nat), s.turn.rdy.find? s.dispatchable = some ch → s.running → s.corrOn → s.corrWarm →
    s.portWaits 0 = false → s.portWaits 1 = false → (∀ f ∈ s.corr.flights.dropLast, f.left = []) → s.coldSpares ≠ [] →
    Completes .passDispatch s (fun t =>
      t.corr = { s.corr with ramps := t.corr.ramps } ∧ (∀ f, f ∈ t.corr.ramps ↔ f ∈ s.corr.ramps ∨ f ∈ s.coldSpares) ∧ Only [.corr] s t))
  ∧ (∀ (s : State) (ch f a b : Nat) (rest : List Nat), s.turn.rdy.find? s.dispatchable = some ch → s.running → s.corrOn → s.corrWarm →
    s.portWaits 0 = false → s.portWaits 1 = false →
    (∀ x ∈ s.corr.flights.dropLast, x.left = []) → s.corr.list.filter (fun x => s.furState x == fRetiring) = [f] →
    s.idleSpares (f / 68) = a :: b :: rest → s.furWarm a → s.corr.resting = [] → s.corr.cmds = [] → s.corr.placeRun = false →
    (∀ m < 4, s.idleSpares m ≠ []) → f < 272 → (∀ x ∈ s.corr.list, x < 272) → a ∉ s.corr.list → s.corr.list.Nodup →
    Completes .passDispatch s (fun t =>
      t.corr.list = s.corr.list.map (fun x => if x = f then a else x) ∧ t.furState f = fRetired ∧ t.furState a = fActive
      ∧ t.furWarm f = false ∧ t.furWarm a ∧ a ∉ t.corr.ramps ∧ Counted s t Ev.CORR_RETIRED
      ∧ t.full (Reg.CORR_COUNT 10) = min (s.full (Reg.CORR_COUNT 10) + 1) (2 ^ 32 - 1)
      ∧ t.get (Reg.CORR_FURROW (a / 68) (a % 68)) Fld.CORR_FURROW_POSITION = s.corr.list.findIdx (fun x => x == f)
      ∧ KeepsRegs s t (fun x => InBlock [7] x ∨ x = Reg.TURN_STATUS ∨ x = Reg.WEED_COUNT 6 ∨ EventRegs Ev.CORR_RETIRED x)
      ∧ Only (([.turn, .corr] : List Part) ++ eventParts) s t))
  ∧ (∀ s : State, s.corrOn → s.running → s.corr.ramps = [] → s.corrWarm = false → (s.corr.rampDown = false ∨ s.turn.rdy ≠ []) →
    let up := (s.corr.list.filter (fun f => !s.furWarm f)).take (s.get Reg.CORR_GOV Fld.CORR_GOV_STAGE)
    Completes .governorStage s (fun t =>
      (∀ f, t.furWarm f = (s.furWarm f || up.contains f)) ∧ (t.corrWarm = s.corr.list.all t.furWarm) ∧ t.corr.rampDown = false
      ∧ (∀ f, KeepsFields s t (Reg.CORR_FURROW (f / 68) (f % 68)) [Fld.CORR_FURROW_WARM])
      ∧ KeepsRegs s t (fun a => a = Reg.CORR_STATUS ∨ a = Reg.CORR_GOV_STATUS ∨ ∃ f ∈ up, a = Reg.CORR_FURROW (f / 68) (f % 68))
      ∧ Only [.regs, .corr] s t))
  ∧ (∀ s : State, s.corrOn → s.running → s.corr.ramps = [] → s.corrWarm = false → s.corr.rampDown → s.turn.rdy = [] →
    let down := (s.corr.list.reverse.filter s.furWarm).take (s.get Reg.CORR_GOV Fld.CORR_GOV_STAGE)
    Completes .governorStage s (fun t =>
      (∀ f, t.furWarm f = (s.furWarm f && !down.contains f)) ∧ t.corrWarm = false
      ∧ KeepsRegs s t (fun a => a = Reg.CORR_GOV_STATUS ∨ ∃ f ∈ down, a = Reg.CORR_FURROW (f / 68) (f % 68)) ∧ Only [.regs] s t))
  ∧ (∀ (s : State) (sp : Nat) (l : List Nat), s.corrOn → s.running → s.corrWarm → s.corr.ramps = sp :: l →
    Completes .governorStage s (fun t =>
      t.corr = { s.corr with ramps := l }
      ∧ t.furWarm sp = (s.furWarm sp || (decide (s.furState sp = fSpare) || decide (s.furState sp = fRecompute)))
      ∧ KeepsFields s t (Reg.CORR_FURROW (sp / 68) (sp % 68)) [Fld.CORR_FURROW_WARM]
      ∧ KeepsRegs s t (fun a => a = Reg.CORR_GOV_STATUS ∨ a = Reg.CORR_FURROW (sp / 68) (sp % 68)) ∧ Only [.regs, .corr] s t))
  ∧ (∀ s : State,
    let busy := (∃ f ∈ s.corr.flights, f.left ≠ []) ∨ ∃ x ∈ s.corr.suspects, x.spare ≠ none
    (s.corrWarm → ¬ busy → s.get Reg.CORR_GOV Fld.CORR_GOV_HOLD_US ≠ 0 → Completes .governorHoldExpiry s (fun t =>
      t.corrWarm = false ∧ t.corr = { s.corr with rampDown := true } ∧ KeepsFields s t Reg.CORR_STATUS [Fld.CORR_STATUS_WARM]
      ∧ KeepsRegs s t (fun a => a = Reg.CORR_STATUS) ∧ Only [.regs, .corr] s t))
    ∧ ((s.corrWarm = false ∨ busy ∨ s.get Reg.CORR_GOV Fld.CORR_GOV_HOLD_US = 0) → Completes .governorHoldExpiry s (fun t => t = s)))
  ∧ (∀ (src : CmdSrc) (s u s1 : State) (ref : CmdRef) (d : List Byte) (r : Nat), Handed s src 0x28 u s1 ref d r →
    let m := byteAt d 36
    let n := byteAt d 37
    let f := 68 * m + n
    Completes (.corrRetire src) s (fun t =>
      ((u.corrOn = false ∨ 3 < m ∨ 67 < n) → Answered t ref (fun c => c.status = St.BAD_PARAM) ∧ t.corr = u.corr)
      ∧ (u.corrOn → m ≤ 3 → n ≤ 67 → u.furState f = fRetired → Answered t ref (fun c => c.status = 0) ∧ t.corr = u.corr)
      ∧ (u.corrOn → m ≤ 3 → n ≤ 67 → (u.furState f = fActive ∨ u.furState f = fThermal) → t.furState f = fRetiring
          ∧ t.get (Reg.CORR_FURROW m n) Fld.CORR_FURROW_CAUSE = 5
          ∧ t.corr = { u.corr with
              cmds := u.corr.cmds ++ [(ref, f)]
              ramps := match (u.idleSpares m).find? (fun g => !u.furWarm g && !u.corr.ramps.contains g) with
                | some g => u.corr.ramps ++ [g]
                | none => u.corr.ramps })
      ∧ (u.corrOn → m ≤ 3 → n ≤ 67 → u.furState f = fSpare → t.furState f = fRetired ∧ t.furWarm f = false
          ∧ t.full (Reg.CORR_COUNT 10) = min (u.full (Reg.CORR_COUNT 10) + 1) (2 ^ 32 - 1) ∧ Counted u t Ev.CORR_RETIRED
          ∧ Answered t ref (fun c => c.status = 0))
      ∧ (u.corrOn → m ≤ 3 → n ≤ 67 → u.furState f = fRecompute → t.furState f = fRecompute
          ∧ t.corr = { u.corr with cmds := u.corr.cmds ++ [(ref, f)], doomed := u.corr.doomed ++ [(f, 5)] })
      ∧ (u.twinOn = false → u.corr.cmds = [] → KeepsRegs u t (fun a => InBlock [7] a ∨ AnyEventRegs a ∨ AnswerRegs s1 src a) ∧ Only (([.corr, .twin, .firings, .rings] : List Part) ++ eventParts) u t)))
  ∧ (∀ (on : Bool) (s : State), s.served →
    Completes (.corrPlaceFreeze on) s (fun t =>
      t.flag Reg.CORR_PLACE Fld.CORR_PLACE_FREEZE = on ∧ t.flag Reg.CORR_PLACE Fld.CORR_PLACE_FREEZE_ACK = on
      ∧ KeepsFields s t Reg.CORR_PLACE [Fld.CORR_PLACE_FREEZE, Fld.CORR_PLACE_FREEZE_ACK]
      ∧ KeepsRegs s t (fun a => a = Reg.CORR_PLACE) ∧ Only [.regs] s t))

/-- R29, R31–R33, R174–R177, R180, R186–R194: the spill port of a field serves its furrows round robin, an earlier round first; a bank that
drains clean is on its way to the adder with the exact words; one that fails its witness retires its furrow and is held for a recompute, or
goes on marked UNVERIFIED when the store is full; a recompute runs on the spare that R187 names, puts its own words in the place of the
suspect ones, or retires its spare, or ends with them marked UNVERIFIED at its deadline; the third CRC failure in a row on a main bus makes
the passes in flight suspect, on a recompute bus the recomputes there start again.
Where the spec leaves a point open this states the model's choice: log entries 56, 57 and 58. -/
def Obligations.SpillsAndRecomputes : Prop :=
  (∀ (s : State) (m fur round : Nat) (f : Flight), s.portNext m = some (f, fur, round) →
    let last := (mapFind s.corr.port m).getD 67
    f ∈ s.corr.flights ∧ fur / 68 = m ∧ (∃ i ∈ f.left, (s.tilePlace f.list i).1 = fur ∧ (s.tilePlace f.list i).2.1 = round)
    ∧ (∀ i ∈ f.left, let p := s.tilePlace f.list i
        p.1 / 68 = m → round ≤ p.2.1
          ∧ (p.2.1 = round → if last < fur % 68 then last < p.1 % 68 → fur ≤ p.1 else p.1 % 68 ≤ last ∧ fur ≤ p.1)))
  ∧ (∀ (m : Fin 4) (slot : Fin 8) (bank : BankReport) (buffer path : WordErrors) (s : State) (f : Flight) (fur round i : Nat),
    let r := spillReport bank buffer path
    let mine := fun (x : TileSum) => x.furrow == fur && x.chan == f.chan && x.pass == f.pass
    let place := fun (x : TileSum) => (s.tilePlace f.list x.tile).2.1
    let t0 : TileSum := { chan := f.chan, pass := f.pass, tile := i, furrow := fur, words := s.spilledTile f i r }
    let rs := (round :: (s.corr.spills.filter mine).map place).eraseDups
    s.twinOn = false → s.portNext m = some (f, fur, round) → s.tileAt f.list fur round slot = some i → i ∈ f.left →
    fur ∉ f.loose → (fur, round) ∉ f.looseRounds → m.val ∉ f.bad → (∀ x ∈ s.corr.suspects, x.furrow = fur → x.chan = f.chan → x.pass ≠ f.pass) →
    bank.parity = false → buffer = {} → path = {} →
    Completes (.bankSpill m slot bank buffer path) s (fun t =>
      (∀ x ∈ t.corr.flights, x.chan = f.chan → x.pass = f.pass → i ∉ x.left) ∧ mapFind t.corr.port m.val = some (fur % 68)
      ∧ (s.witnessFails f i t0.words r = false →
          t.corr.spills = s.corr.spills ++ [t0] ∧ t.corr.suspects = s.corr.suspects
          ∧ (∀ k < 12, t.reg (Reg.CORR_COUNT k) = s.reg (Reg.CORR_COUNT k)) ∧ (∀ g < 272, t.furState g = s.furState g))
      ∧ (s.witnessFails f i t0.words r = true → s.furState fur = fActive →
          t.furState fur = fRetiring ∧ t.get (Reg.CORR_FURROW m (fur % 68)) Fld.CORR_FURROW_CAUSE = 1
          ∧ t.full (Reg.CORR_COUNT 0) = min (s.full (Reg.CORR_COUNT 0) + 1) (2 ^ 32 - 1) ∧ Counted s t Ev.CORR_WITNESS
          ∧ (s.storeUse m + rs.length ≤ 8 →
              t.corr.suspects = s.corr.suspects ++ [⟨fur, f.chan, f.pass, s.corr.spills.filter mine ++ [t0], none, 0, rs⟩]
              ∧ t.corr.spills = s.corr.spills.filter (fun (x : TileSum) => !mine x))
          ∧ (8 ≤ s.storeUse m → t.corr.suspects = s.corr.suspects ∧ { t0 with unverified := true } ∈ t.corr.spills
              ∧ t.full (Reg.CORR_COUNT 9) = min (s.full (Reg.CORR_COUNT 9) + 1) (2 ^ 32 - 1)))
      ∧ KeepsHbm s t ∧ Only (([.corr, .turn, .weed, .rings, .firings, .twin] : List Part) ++ eventParts) s t))
  ∧ (∀ (m : Fin 4) (slot : Fin 8) (bank : BankReport) (buffer path : WordErrors) (s : State),
    (∀ (f : Flight) (fur round i : Nat), s.portNext m = some (f, fur, round) → s.tileAt f.list fur round slot = some i → i ∉ f.left) →
    Completes (.bankSpill m slot bank buffer path) s (fun t => t = s))
  ∧ (∀ s : State,
    match s.corr.suspects.find? (fun (x : Suspect) => x.spare.isNone) with
    | none => Completes .recomputeStart s (fun t => t = s)
    | some x =>
      (s.chooseSpare x.furrow = none → Completes .recomputeStart s (fun t => t = s))
      ∧ (∀ sp, s.chooseSpare x.furrow = some sp → Completes .recomputeStart s (fun t =>
        t.corr = { s.corr with
            suspects := s.corr.suspects.map (fun (y : Suspect) => if y = x then { y with spare := some sp } else y)
            ramps := if s.furWarm sp = true ∨ sp ∈ s.corr.ramps then s.corr.ramps else s.corr.ramps ++ [sp] }
        ∧ t.furState sp = fRecompute ∧ t.furWarm sp = s.furWarm sp
        ∧ t.full (Reg.CORR_COUNT 7) = min (s.full (Reg.CORR_COUNT 7) + 1) (2 ^ 32 - 1)
        ∧ t.full (Reg.TURN_COUNT 2) = min (s.full (Reg.TURN_COUNT 2) + 1) (2 ^ 32 - 1)
        ∧ KeepsRegs s t (fun a => a = Reg.CORR_FURROW (sp / 68) (sp % 68) ∨ a = Reg.CORR_COUNT 7 ∨ a = Reg.TURN_COUNT 2)
        ∧ Only [.regs, .corr] s t)))
  ∧ (∀ (s : State) (fur : Nat), fur < 272 →
    match s.chooseSpare fur with
    | some sp => sp < 272 ∧ s.furState sp = fSpare
        ∧ (∀ g < 272, s.furState g = fSpare → g / 68 ≠ fur / 68 → sp / 68 ≠ fur / 68 ∧ sp ≤ g)
        ∧ (∀ g < 272, s.furState g = fSpare → g / 68 = fur / 68 → sp / 68 = fur / 68 → sp ≤ g)
    | none => ∀ g < 272, s.furState g ≠ fSpare)
  ∧ (∀ (m : Fin 4) (n : Fin 68) (bs : List (Nat × Nat × BankReport)) (es ps : List (Nat × Nat × WordErrors)) (s : State) (x : Suspect) (f : Flight),
    let reports := spillReports bs es ps
    let sp := 68 * m.val + n.val
    let fl : Flight := { f with sheaves := s.readPass x.chan x.pass }
    let shown : Nat → SpillReport := fun b =>
      ((reports.find? (fun e => e.1 == (s.tilePlace f.list b).2.1 && e.2.1 == (s.tilePlace f.list b).2.2)).map (fun e => e.2.2)).getD {}
    let banks := (List.range s.nTiles).filter (fun b => (s.tilePlace f.list b).1 == x.furrow)
    let fails := fun b => s.witnessFails fl b (s.spilledTile fl b (shown b)) (shown b)
    s.corr.suspects.find? (fun (x : Suspect) => x.spare == some sp) = some x →
    s.corr.flights.find? (fun (f : Flight) => f.chan == x.chan && f.pass == x.pass) = some f →
    (∀ i ∈ f.left, (s.tilePlace f.list i).1 ≠ x.furrow) → (∀ d ∈ s.corr.doomed, d.1 ≠ sp) →
    (s.get Reg.GRAN_CFG Fld.GRAN_CFG_HOLD_US ≠ 0 ∨ ∀ g < 8, (s.grp g).drain = none) →
    ((∀ b ∈ banks, fails b = false) → (∀ e ∈ reports, e.2.2 = { deltas := e.2.2.deltas, witness := e.2.2.witness }) →
      Completes (.recomputeEnd m n bs es ps) s (fun t =>
        t.corr.suspects = s.corr.suspects.filter (fun (y : Suspect) => y != x) ∧ t.furState sp = fSpare ∧ t.furWarm sp = false
        ∧ t.full (Reg.CORR_COUNT 8) = min (s.full (Reg.CORR_COUNT 8) + 1) (2 ^ 32 - 1)
        ∧ (∀ y ∈ x.tiles, y.tile ∈ banks →
            { y with words := s.spilledTile fl y.tile (shown y.tile), recomputed := true, unverified := false } ∈ t.corr.spills)
        ∧ (∀ z ∈ s.corr.spills, z ∈ t.corr.spills) ∧ t.corr.spills.length = s.corr.spills.length + x.tiles.length
        ∧ ((∀ y ∈ t.corr.suspects, y.chan ≠ x.chan) →
            t.turn.rdy = s.turn.rdy.filter (fun c => c != x.chan) ++ s.turn.rdy.filter (fun c => c == x.chan))
        ∧ KeepsHbm s t ∧ Only (([.corr, .turn, .weed, .rings] : List Part) ++ eventParts) s t))
    ∧ ((∃ b ∈ banks, fails b = true ∨ (shown b).parity = true ∨ (shown b).bufUe = true ∨ (shown b).pathUe = true) → s.twinOn = false →
      Completes (.recomputeEnd m n bs es ps) s (fun t =>
        t.furState sp = fRetired ∧ t.get (Reg.CORR_FURROW m n) Fld.CORR_FURROW_CAUSE = 6
        ∧ t.get (Reg.CORR_FURROW m n) Fld.CORR_FURROW_ERRORS
            = satU Fld.CORR_FURROW_ERRORS.width (s.get (Reg.CORR_FURROW m n) Fld.CORR_FURROW_ERRORS + (banks.map (fun b => State.reportErrors (shown b))).sum)
        ∧ t.full (Reg.CORR_COUNT 8) = s.full (Reg.CORR_COUNT 8) ∧ KeepsHbm s t)))
  ∧ (∀ (m : Fin 4) (n : Fin 68) (s : State) (x : Suspect), s.corr.suspects.find? (fun (x : Suspect) => x.furrow == 68 * m.val + n.val) = some x →
    (∀ sp, x.spare = some sp → sp < 272 ∧ ∀ d ∈ s.corr.doomed, d.1 ≠ sp) →
    (s.get Reg.GRAN_CFG Fld.GRAN_CFG_HOLD_US ≠ 0 ∨ ∀ g < 8, (s.grp g).drain = none) →
    Completes (.recomputeDeadline m n) s (fun t =>
      t.corr.suspects = s.corr.suspects.filter (fun (y : Suspect) => !(y.furrow == x.furrow && y.chan == x.chan && y.pass == x.pass))
      ∧ (∀ y ∈ x.tiles, { y with unverified := true } ∈ t.corr.spills) ∧ (∀ z ∈ s.corr.spills, z ∈ t.corr.spills)
      ∧ (∀ sp, x.spare = some sp → t.furState sp = fSpare)
      ∧ t.full (Reg.CORR_COUNT 9) = min (s.full (Reg.CORR_COUNT 9) + 1) (2 ^ 32 - 1) ∧ Counted s t Ev.CORR_RECOMPUTE_GIVEUP
      ∧ KeepsHbm s t ∧ Only (([.corr, .turn, .weed, .rings] : List Part) ++ eventParts) s t))
  ∧ (∀ (m : Fin 4) (fur : Fin 68) (rec col good : Bool) (s : State),
    let key := 4 * m.val + 2 * b2n rec + b2n col
    let n := (mapFind s.corr.bus key).getD 0
    Completes (.operandBusTransfer m fur ⟨rec, col⟩ good) s (fun t =>
      (good → (mapFind t.corr.bus key).getD 0 = 0 ∧ Only [.corr] s t)
      ∧ (good = false → Counted s t Ev.CORR_BUS_CRC ∧ t.full (Reg.CORR_COUNT 4) = min (s.full (Reg.CORR_COUNT 4) + 1) (2 ^ 32 - 1)
          ∧ (mapFind t.corr.bus key).getD 0 = (if n + 1 < 3 then n + 1 else 0)
          ∧ (n + 1 < 3 → KeepsRegs s t (fun a => a = Reg.CORR_COUNT 4 ∨ EventRegs Ev.CORR_BUS_CRC a) ∧ Only (([.corr] : List Part) ++ eventParts) s t)
          ∧ (3 ≤ n + 1 → Counted s t Ev.CORR_BUS_SUSPECT)
          ∧ (3 ≤ n + 1 → rec = false →
              t.corr.flights = s.corr.flights.map (fun (f : Flight) => if f.left.isEmpty then f else { f with bad := m.val :: f.bad })
              ∧ t.corr.suspects = s.corr.suspects ∧ Only (([.corr] : List Part) ++ eventParts) s t)
          ∧ (3 ≤ n + 1 → rec = true → s.twinOn = false → ∀ x ∈ t.corr.suspects, ∀ sp, x.spare = some sp → sp / 68 ≠ m.val))
      ∧ (∀ j, j ≠ key → (mapFind t.corr.bus j).getD 0 = (mapFind s.corr.bus j).getD 0)))

/-- R207, R210–R212, R234: saturating addition in pass order. A component whose flag is clear holds the exact sum; the flag is set exactly
when some running sum has left the range; no component ever leaves it. Float output rounds to the nearest binary32 value, exactly below
2^24. -/
def Obligations.SaturationFlagsAreExact : Prop :=
  (∀ (deep : Bool) (xs : List Int), xs ≠ [] →
    let lim : Int := if deep then 2 ^ 63 - 1 else 2 ^ 31 - 1
    let r := xs.zipIdx.foldl (fun (a : Int × Bool) e => let y := addSat lim a.1 e.1 a.2 (e.2 == 0) false; (y.1, y.2.1)) (0, false)
    r.1 ≤ lim ∧ -lim ≤ r.1 ∧ (r.2 = false → r.1 = xs.sum)
    ∧ (r.2 = true ↔ ∃ n ≤ xs.length, lim < (xs.take n).sum ∨ (xs.take n).sum < -lim))
  ∧ (∀ (lim a x : Int) (f : Bool), 0 ≤ lim → (addSat lim a x f false true).1 = clampI (-lim) lim x ∧ (addSat lim a x f false true).2.1 = true
      ∧ (addSat lim a x f true true).2.1 = (decide (lim < x) || decide (x < -lim)))
  ∧ (∀ v : Int, v.natAbs < 2 ^ 127 → v ≠ 0 →
    let w := float32 v
    let e := w / 2 ^ 23 % 256
    let m := w % 2 ^ 23 + 2 ^ 23
    w < 2 ^ 32 ∧ (2 ^ 31 ≤ w ↔ v < 0) ∧ 127 ≤ e ∧ e ≤ 254
    ∧ (e ≤ 150 → m = v.natAbs * 2 ^ (150 - e))
    ∧ (150 < e → 2 * (m * 2 ^ (e - 150)) ≤ 2 * v.natAbs + 2 ^ (e - 150) ∧ 2 * v.natAbs ≤ 2 * (m * 2 ^ (e - 150)) + 2 ^ (e - 150)
        ∧ (2 * (m * 2 ^ (e - 150)) = 2 * v.natAbs + 2 ^ (e - 150) ∨ 2 * v.natAbs = 2 * (m * 2 ^ (e - 150)) + 2 ^ (e - 150) → m % 2 = 0)))
  ∧ float32 0 = 0

/-- R177, R206, R210, R219, R227, R373, R384: a spill that waits at the adder and that no earlier recompute and no open decision holds back is
added into the integration of every group that its pass feeds, word by word with saturation, and the pass's sample counts once; an input whose
count has gone past 2^32 - 1 is counted once. Else the next spill of the tile in pass order arrives, and its pass has then reached the
granary in every group of the channel. A spill that is held back stays where it is, and while a part of the adder's port waits for room in a
queue none moves.
Where the spec leaves a point open this states the model's choice: log entries 56 and 66. -/
def Obligations.GranarySpillAdds : Prop :=
  (∀ (c : Chan) (tile : Nat) (ps bs : List Nat) (s : State) (x : TileSum) (f : Flight) (g : Nat) (b : Bank),
    let ch := c.val
    s.portWaits 2 = false → (s.get Reg.GRAN_CFG Fld.GRAN_CFG_HOLD_US ≠ 0 ∨ ∀ h < 8, (s.grp h).drain = none) →
    s.corr.spills.find? (fun (t : TileSum) => t.chan == ch && t.tile == tile) = some x → x.arrived = true →
    (∀ y ∈ s.corr.suspects, y.chan = ch → y.pass < x.pass → ∀ z ∈ y.tiles, z.tile ≠ tile) → s.passUndecided ch x.pass = false →
    s.corr.flights.find? (fun (f : Flight) => f.chan == ch && f.pass == x.pass) = some f →
    g < 8 → s.grpHas g ch → (s.grp g).fill = some b → b.has x.pass →
    Completes (.granarySpill c tile ps bs) s (fun t =>
      ∃ b', (t.grp g).fill = some b' ∧ b'.first = b.first ∧ b'.last = b.last ∧ b'.seq = b.seq
      ∧ (let old := (mapFind b.chans ch).getD {}
         let new := (mapFind b'.chans ch).getD {}
         let lim : Int := if s.grpDeep g then 2 ^ 63 - 1 else 2 ^ 31 - 1
         let first := x.pass == b.first
         let wOld := fun i => ((mapFind old.words tile).getD []).getD i (0, 0)
         let fOld := fun i => ((mapFind old.sat tile).getD []).getD i (false, false)
         (∀ i < x.words.length,
           let re := addSat lim (wOld i).1 (x.words.getD i (0, 0)).1 (fOld i).1 first (ps.contains (2 * i))
           let im := addSat lim (wOld i).2 (x.words.getD i (0, 0)).2 (fOld i).2 first (ps.contains (2 * i + 1))
           ((mapFind new.words tile).getD []).getD i (0, 0) = (re.1, im.1)
           ∧ ((mapFind new.sat tile).getD []).getD i (false, false) = (re.2.1, im.2.1))
         ∧ (∀ j, j ≠ tile → mapFind new.words j = mapFind old.words j ∧ mapFind new.sat j = mapFind old.sat j)
         ∧ new.added = old.added + 1
         ∧ (x.pass ∈ old.counted → new.counts = old.counts ∧ new.excluded = old.excluded)
         ∧ (x.pass ∉ old.counted → bs = [] → (∀ i < s.nHeld,
              new.counts.getD i 0 = min (old.counts.getD i 0 + (f.sheaves.filter (fun (p : PassSheaf) => p.sheaf.valid.getD i false)).length) (2 ^ 32 - 1))
            ∧ t.full (Reg.GRAN_GRP_COUNT g 5) = min (s.full (Reg.GRAN_GRP_COUNT g 5) + ((List.range s.nHeld).filter (fun i =>
                decide (2 ^ 32 ≤ old.counts.getD i 0 + (f.sheaves.filter (fun (p : PassSheaf) => p.sheaf.valid.getD i false)).length)
                  && !old.full.contains i)).length) (2 ^ 32 - 1)
            ∧ new.excluded = min (old.excluded + (f.sheaves.filter (fun (p : PassSheaf) => !p.sheaf.valid.any id)).length) (2 ^ 32 - 1))
         ∧ (x.unverified → tile ∈ new.unverified))
      ∧ (∀ j, j ≠ ch → mapFind b'.chans j = mapFind b.chans j)
      ∧ t.corr.spills = s.corr.spills.erase x
      ∧ (∀ h, h < 8 → s.grpHas h ch = false → t.grp h = s.grp h)
      ∧ t.flag Reg.GRAN_STATUS Fld.GRAN_STATUS_RUNNING
      ∧ KeepsRegs s t (fun a => a = Reg.GRAN_STATUS ∨ (∃ h < 8, a = Reg.GRAN_GRP_COUNT h 2 ∨ a = Reg.GRAN_GRP_COUNT h 5 ∨ a = Reg.GRAN_GRP_STATE h)
          ∨ EventRegs Ev.GRAN_SATURATE a ∨ a = Reg.TURN_COUNT 1 ∨ ∃ r < 16384, a = Reg.RING_COUNT r)
      ∧ Only (([.corr, .gran, .rings] : List Part) ++ eventParts) s t))
  ∧ (∀ (c : Chan) (tile : Nat) (ps bs : List Nat) (s : State) (q : Nat),
    let ch := c.val
    let new := fun (t : TileSum) => t.chan == ch && t.tile == tile && !t.arrived
    let all := s.corr.spills ++ s.corr.suspects.flatMap (fun (x : Suspect) => x.tiles)
    s.portWaits 2 = false → (s.get Reg.GRAN_CFG Fld.GRAN_CFG_HOLD_US ≠ 0 ∨ s.gran.groups = []) →
    (∀ x, s.corr.spills.find? (fun (t : TileSum) => t.chan == ch && t.tile == tile) = some x → x.arrived = false ∨ s.canAdd x = false) →
    (∃ y ∈ all, new y = true ∧ y.pass = q) → (∀ y ∈ all, new y = true → q ≤ y.pass) →
    Completes (.granarySpill c tile ps bs) s (fun t =>
      (∀ h < 8, (t.grp h).top = if s.grpHas h ch then max (s.grp h).top (q + 1) else (s.grp h).top)
      ∧ (∀ y ∈ t.corr.spills, y.chan = ch → y.tile = tile → y.pass = q → y.arrived = true)
      ∧ (∀ z ∈ s.corr.spills, z.chan ≠ ch ∨ z.tile ≠ tile → z ∈ t.corr.spills) ∧ (∀ h < 8, s.grpHas h ch = false → t.grp h = s.grp h)
      ∧ KeepsHbm s t))
  ∧ (∀ (c : Chan) (tile : Nat) (ps bs : List Nat) (s : State), s.portWaits 2 = true → Completes (.granarySpill c tile ps bs) s (fun t => t = s))
  ∧ (∀ (c : Chan) (tile : Nat) (ps bs : List Nat) (s : State),
    (s.get Reg.GRAN_CFG Fld.GRAN_CFG_HOLD_US ≠ 0 ∨ ∀ h < 8, (s.grp h).drain = none) →
    (∀ y ∈ s.corr.spills ++ s.corr.suspects.flatMap (fun (x : Suspect) => x.tiles), y.chan = c.val → y.tile = tile → y.arrived = true) →
    (∀ x, s.corr.spills.find? (fun (t : TileSum) => t.chan == c.val && t.tile == tile) = some x →
      s.passUndecided c x.pass ∨ ∃ y ∈ s.corr.suspects, y.chan = c.val ∧ y.pass < x.pass ∧ ∃ z ∈ y.tiles, z.tile = tile) →
    Completes (.granarySpill c tile ps bs) s (fun t =>
      t.gran = s.gran ∧ t.corr.spills = s.corr.spills ∧ t.corr.suspects = s.corr.suspects
      ∧ KeepsRegs s t (fun a => a = Reg.GRAN_STATUS ∨ (∃ h < 8, a = Reg.GRAN_GRP_STATE h) ∨ a = Reg.TURN_COUNT 1 ∨ ∃ r < 16384, a = Reg.RING_COUNT r)
      ∧ Only [.regs, .corr, .rings] s t))

/-- R214–R216, R219, R220, R352, R518, R519: GRAN_START puts its idle groups to wait for the first pass that is not too late; GRAN_STOP
stops a waiting group at once and a running one after its integration; a decision that a partner holds up ends as a stretch; and a pass that
finds the other bank busy stretches the integration, while an idle one begins the next.
Where the spec leaves a point open this states the model's choice: log entries 67 and 68. -/
def Obligations.GroupsStartStopAndStretch : Prop :=
  (∀ (src : CmdSrc) (s u s1 : State) (ref : CmdRef) (d : List Byte) (r : Nat), Handed s src 0x30 u s1 ref d r → u.mode = 0 →
    let mask := byteAt d 36
    let named := fun g => u.passAfter g (stampAt d 40).units 64 0 (2 ^ 62)
    let on := fun g => bitAt mask g && u.grpOn g && u.grpState g != 2
    Completes (.granStart src) s (fun t =>
      ((stampAt d 40).valid = false → Answered t ref (fun c => c.status = St.TIME_FORMAT) ∧ t.gran = u.gran)
      ∧ ((stampAt d 40).valid → (∃ g < 8, bitAt mask g ∧ (u.grp g).exhausted) →
          Answered t ref (fun c => c.status = St.BAD_PARAM) ∧ t.gran = u.gran)
      ∧ ((stampAt d 40).valid → (∀ g < 8, bitAt mask g → (u.grp g).exhausted = false) →
          (∃ late, Answered t ref (fun c => c.status = 0 ∧ c.late = late) ∧ (late = true ↔ ∃ g < 8, on g ∧ named g < (u.grp g).top))
          ∧ ∀ g < 8, if on g then
              t.grpState g = 1 ∧ t.grp g = { u.grp g with
                q0 := max (named g) (u.grp g).top, stopping := false, stopAt := none, lateStart := decide (named g < (u.grp g).top) }
            else t.grpState g = u.grpState g ∧ t.grp g = u.grp g)
      ∧ KeepsRegs u t (fun a => InBlock [8] a ∨ AnswerRegs s1 src a) ∧ Only (([.gran] : List Part) ++ answerParts) u t))
  ∧ (∀ (src : CmdSrc) (s u s1 : State) (ref : CmdRef) (d : List Byte) (r : Nat), Handed s src 0x31 u s1 ref d r → u.mode = 0 →
    u.gran.stops = [] → (∀ g < 8, ∀ b, (u.grp g).fill = some b ∨ (u.grp g).old = some b → u.bankWhole g b = false) →
    let on := fun g => bitAt (byteAt d 36) g
    let runs := fun g => on g && u.grpState g == 2 && (u.grp g).fill.isSome
    Completes (.granStop src) s (fun t =>
      (∀ g < 8, t.grpState g = (if on g ∧ (u.grpState g = 1 ∨ (u.grpState g = 2 ∧ (u.grp g).fill = none)) then 3 else u.grpState g)
        ∧ t.grp g = (if on g ∧ u.grpState g = 2 then { u.grp g with stopping := true } else u.grp g))
      ∧ ((∃ g < 8, runs g) → t.gran.stops = [(ref, byteAt d 36)])
      ∧ ((∀ g < 8, runs g = false) → t.gran.stops = [] ∧ Answered t ref (fun c => c.status = 0))
      ∧ KeepsRegs u t (fun a => InBlock [8] a ∨ AnswerRegs s1 src a) ∧ Only (([.gran] : List Part) ++ answerParts) u t))
  ∧ (∀ (g : Group) (s : State) (b : Bank), (s.grp g).waits → (s.grp g).fill = some b → b.passes ≠ 2 ^ 32 - 1 →
    s.grpState g = 2 → (s.grp g).top = (s.grp g).decided + 1 → (s.grp g).old ≠ none →
    Completes (.decideWaitTimeout g) s (fun t =>
      (t.grp g).waits = false ∧ (t.grp g).fill = some { b with last := (s.grp g).decided, stretched := true }
      ∧ (t.grp g).decided = (s.grp g).decided + 1
      ∧ t.full (Reg.GRAN_GRP_COUNT g 1) = min (s.full (Reg.GRAN_GRP_COUNT g 1) + 1) (2 ^ 32 - 1)
      ∧ t.full (Reg.WEAVE_COUNT 3) = min (s.full (Reg.WEAVE_COUNT 3) + 1) (2 ^ 32 - 1) ∧ Counted s t Ev.WEAVE_DECISION_WAIT
      ∧ (∀ h, h ≠ g.val → t.grp h = s.grp h)
      ∧ (s.get Reg.GRAN_CFG Fld.GRAN_CFG_HOLD_US ≠ 0 → Only (([.gran, .corr, .rings, .firings] : List Part) ++ eventParts) s t)))
  ∧ (∀ (g : Group) (s : State), (s.grp g).waits = false → Completes (.decideWaitTimeout g) s (fun t =>
      t.gran = s.gran ∧ ((∀ h < 8, (s.grp h).drain = none) → t = s)))
  ∧ (∀ (g : Fin 8) (s : State) (b : Bank) (q : Nat), s.mode = 0 → (s.grp g).fill = some b → (s.grp g).stopping = false → (s.grp g).stopAt = none →
    ((s.grp g).old ≠ none → b.passes ≠ 2 ^ 32 - 1 →
      ((s.decidePass g q).grp g).fill = some { b with last := q, stretched := true }
      ∧ ((s.decidePass g q).grp g).old = (s.grp g).old
      ∧ (s.decidePass g q).full (Reg.GRAN_GRP_COUNT g 1) = min (s.full (Reg.GRAN_GRP_COUNT g 1) + 1) (2 ^ 32 - 1)
      ∧ (b.stretched = false → Counted s (s.decidePass g q) Ev.GRAN_STRETCH))
    ∧ ((s.grp g).old = none → (s.grp g).fresh = false → s.twinOn = false → s.full (Reg.GRAN_GRP_SEQ g) < 2 ^ 32 - 2 →
      ((s.decidePass g q).grp g).old = some b
      ∧ ∃ n, ((s.decidePass g q).grp g).fill = some n ∧ n.first = q ∧ n.last = q + s.grpP g - 1 ∧ n.seq = s.full (Reg.GRAN_GRP_SEQ g) + 1
          ∧ n.stretched = false ∧ n.chans = []
          ∧ (s.decidePass g q).get (Reg.GRAN_GRP_STATE g) Fld.GRAN_GRP_STATE_FILL_BANK
            = 1 - s.get (Reg.GRAN_GRP_STATE g) Fld.GRAN_GRP_STATE_FILL_BANK))

/-- R222–R224, R228–R232: the harvest engine sends the next segment of the group whose turn it is, the header before the first and the
trailer after the last, and only when every pass of the channel has been added; a drain that a command brings to a channel under recompute is
HOLDING from that moment, and DRAINING again when the recompute has ended; at HOLD_US, at once when it is 0, the held spills are requested.
Where the spec leaves a point open this states the model's choice: log entries 69, 70 and 71. -/
def Obligations.HarvestOrderAndHolds : Prop :=
  (∀ (v : HarvestView) (s : State) (g : Nat) (b : Bank) (d : Drain),
    let order := (List.range 8).map (fun i => (s.gran.served + 1 + i) % 8)
    s.get Reg.GRAN_CFG Fld.GRAN_CFG_HOLD_US ≠ 0 →
    order.find? (fun g => match (s.grp g).old, (s.grp g).drain with
      | some b, some d => s.chanAdded b d.next && s.destReady g
      | _, _ => false) = some g →
    (s.grp g).old = some b → (s.grp g).drain = some d → s.gran.stops = [] → s.ewesen = false → s.flag (Reg.GRAN_GRP_CFG g) Fld.GRAN_GRP_CFG_BALER = false →
    let last := d.next + 1 = s.grpFirst g + s.grpCount g
    let c := (mapFind b.chans d.next).getD {}
    let vs := s.segmentValues c v.comps
    let vis := vs.flatMap (fun x => State.compBytes (s.grpDeep g) (s.flag (Reg.GRAN_GRP_CFG g) Fld.GRAN_GRP_CFG_FLOAT) x.1.1
      ++ State.compBytes (s.grpDeep g) (s.flag (Reg.GRAN_GRP_CFG g) Fld.GRAN_GRP_CFG_FLOAT) x.2.1)
    let seg := s.segment g d.next b c vs false vis v
    let sent := (if d.header then [] else [s.harvestHeader g b]) ++ [seg]
      ++ (if last then [s.harvestTrailer g b { d with
            header := true, next := d.next + 1, unverified := d.unverified + c.unverified.length
            satComp := d.satComp + (vs.map (fun x => b2n x.1.2 + b2n x.2.2)).sum
            bytes := d.bytes + seg.length + (if d.header then 0 else 64) }] else [])
    Completes (.harvestSegment v) s (fun t =>
      (let (ring, dest) := s.grpDest g
       (ring → s.ringState dest = 1 ∨ s.ringState dest = 2 → (t.ring dest).msgs = (s.ring dest).msgs ++ sent.map headedMsg)
       ∧ (ring = false → t.get (Reg.ETH_STR_ALIVE dest) Fld.ETH_STR_ALIVE_ALIVE
            = (s.get (Reg.ETH_STR_ALIVE dest) Fld.ETH_STR_ALIVE_ALIVE + sent.length) % 2 ^ Fld.ETH_STR_ALIVE_ALIVE.width))
      ∧ t.gran.served = g
      ∧ (¬ last → ∃ d', (t.grp g).drain = some d' ∧ d'.next = d.next + 1 ∧ d'.header ∧ d'.bytes = d.bytes + seg.length + (if d.header then 0 else 64)
          ∧ (t.grp g).old = some b)
      ∧ (last → (t.grp g).drained = some (b.seq, b.epoch, s.now.units)
          ∧ t.full (Reg.GRAN_GRP_COUNT g 0) = min (s.full (Reg.GRAN_GRP_COUNT g 0) + 1) (2 ^ 32 - 1))
      ∧ (∀ h, h ≠ g → t.grp h = s.grp h)
      ∧ Only (([.gran, .rings, .streams, .ports, .firings] : List Part) ++ eventParts) s t))
  ∧ (∀ (v : HarvestView) (s : State), (∀ h < 8, (s.grp h).old = none ∨ (s.grp h).drain = none) →
    Completes (.harvestSegment v) s (fun t => t = s))
  ∧ (∀ (i : Instr) (s : State),
    ((∃ v, i = .harvestSegment v) ∨ (∃ c tile ps bs, i = .granarySpill c tile ps bs ∧ s.portWaits 2 = false) ∨ (∃ m n l es ps, i = .recomputeEnd m n l es ps)
      ∨ (∃ g, i = .decideWaitTimeout g)) → s.twinOn = false →
    Completes i s (fun t => ∀ h < 8, ∀ b d, (t.grp h).old = some b → (t.grp h).drain = some d →
      (s.get Reg.GRAN_CFG Fld.GRAN_CFG_HOLD_US ≠ 0 →
        t.get (Reg.GRAN_GRP_STATE h) Fld.GRAN_GRP_STATE_DRAIN = (if t.holders b d.next = [] then 1 else 2)
        ∧ t.get Reg.GRAN_STATUS ⟨Fld.GRAN_STATUS_HOLDING.lo + h, 1⟩ = (if t.holders b d.next = [] then 0 else 1))
      ∧ (s.get Reg.GRAN_CFG Fld.GRAN_CFG_HOLD_US = 0 →
          t.holders b d.next = [] ∧ t.get (Reg.GRAN_GRP_STATE h) Fld.GRAN_GRP_STATE_DRAIN = 1)))
  ∧ (∀ (g : Group) (s : State) (b : Bank) (d : Drain), (s.grp g).old = some b → (s.grp g).drain = some d →
    s.get (Reg.GRAN_GRP_STATE g) Fld.GRAN_GRP_STATE_DRAIN = 2 → s.holders b d.next ≠ [] →
    Completes (.holdExpiry g) s (fun t =>
      t.holders b d.next = [] ∧ (∀ x ∈ s.holders b d.next, ∀ y ∈ x.tiles, { y with unverified := true } ∈ t.corr.spills)
      ∧ t.get (Reg.GRAN_GRP_STATE g) Fld.GRAN_GRP_STATE_DRAIN = 1 ∧ Counted s t Ev.GRAN_HOLD_EXPIRED
      ∧ t.full (Reg.GRAN_GRP_COUNT g 4) = min (s.full (Reg.GRAN_GRP_COUNT g 4) + 1) (2 ^ 32 - 1)
      ∧ KeepsHbm s t ∧ (s.twinOn = false → Only (([.corr, .turn, .weed, .rings, .firings, .twin] : List Part) ++ eventParts) s t)))

/-- R240, R243, R245, R248, R252, R253, R256: the neutral offset changes nothing and a sum of delays saturates; a fade ends on the new bank's
triplet and stays between the two; a weight's components lie in ±127, and the worked example's weight is 37 − 31j; no beam sum leaves
±16,646,144; a component is requantised by a floor and a clip that is counted; detected sums saturate. -/
def Obligations.BeamWeightsAndSums : Prop :=
  (∀ t o : Triplet, -(2 ^ 23) ≤ t.d → t.d < 2 ^ 23 → 0 ≤ t.g → t.g < 2 ^ 16 → 0 ≤ t.p → t.p < 2 ^ 16 → 0 ≤ o.g → o.g < 2 ^ 16 →
    effective t ⟨0x8000, 0, 0⟩ = (t, false)
    ∧ (let e := effective t o
       e.1.d = max (-8388608) (min 8388607 (t.d + o.d)) ∧ (e.2 = true ↔ e.1.d ≠ t.d + o.d)
       ∧ 0 ≤ e.1.p ∧ e.1.p < 65536 ∧ (65536 : Int) ∣ t.p + o.p - e.1.p
       ∧ 0 ≤ e.1.g ∧ e.1.g ≤ 65535 ∧ (e.1.g < 65535 → t.g * o.g - 16384 < 32768 * e.1.g ∧ 32768 * e.1.g ≤ t.g * o.g + 16384)))
  ∧ (∀ (a b : Triplet) (l : Nat), 0 ≤ b.p → b.p < 65536 → 0 < l →
    fadeTriplet a b l l = b
    ∧ ∀ m, 0 < m → m ≤ l →
        min a.g b.g ≤ (fadeTriplet a b m l).g ∧ (fadeTriplet a b m l).g ≤ max a.g b.g
        ∧ min a.d b.d ≤ (fadeTriplet a b m l).d ∧ (fadeTriplet a b m l).d ≤ max a.d b.d)
  ∧ (∀ k (bank : Bool) (f : Fade) (rest : List Fade), 0 < f.len →
    (k < f.k0 → bankAt k bank (f :: rest) = (bank, none))
    ∧ (f.k0 ≤ k → k < f.k0 + f.len → bankAt k bank (f :: rest) = (bank, some f))
    ∧ (f.k0 + f.len ≤ k → bankAt k bank (f :: rest) = bankAt k (!bank) rest))
  ∧ (∀ (t : Triplet) (f : Nat), (beamWeight t f).1.natAbs ≤ 127 ∧ (beamWeight t f).2.natAbs ≤ 127)
  ∧ beamWeight ⟨0x6000, 0x1000, 0x20000⟩ 1468006 = (37, -31)
  ∧ (∀ (s : State) (ch k beta : Nat) (xs : List (Int × Int)), xs.length ≤ 8192 →
    (∀ x ∈ xs, x.1.natAbs ≤ 8 ∧ x.2.natAbs ≤ 8) →
    (s.beamSum ch k beta xs).1.1.natAbs ≤ 16646144 ∧ (s.beamSum ch k beta xs).1.2.natAbs ≤ 16646144)
  ∧ (∀ (sh : Nat) (v : Int), ∃ q : Int, q * 2 ^ sh ≤ v ∧ v < (q + 1) * 2 ^ sh
      ∧ (truncate sh v).1 = max (-128) (min 127 q) ∧ ((truncate sh v).2 = 1 ↔ (truncate sh v).1 ≠ q) ∧ (truncate sh v).2 ≤ 1)
  ∧ (∀ (mode sh i : Nat) (v : Int), ∃ q : Int, q * 2 ^ sh ≤ v ∧ v < (q + 1) * 2 ^ sh
      ∧ (detOut mode sh i v).1 = (if mode = 3 ∧ i % 4 ≠ 0 then max (-2147483647) (min 2147483647 q) else max 0 (min 4294967295 q))
      ∧ ((detOut mode sh i v).2 = 1 ↔ (detOut mode sh i v).1 ≠ q) ∧ (detOut mode sh i v).2 ≤ 1)

/-- R246–R251, R259, R268, R356, R364: a load stores its triplets in the entries named and nowhere else, or is refused whole, or ends with its
read, the remaining bytes in RESIDUE; a swap on blocks that do not fade places their fades at k, or LATE at the lowest index not released,
or waits for a load into its bank; on a fading block it is queued, and replaces the one queued there; BEAM_PEAK_SET sets the thresholds of
every window from k on.
Where the spec leaves a point open this states the model's choice: log entries 74, 75, 76, 77, 79 and 221. -/
def Obligations.BeamCommands : Prop :=
  (∀ (src : CmdSrc) (data : HostRead) (s u s1 : State) (ref : CmdRef) (d : List Byte) (r : Nat),
    Issued s src 0x38 u s1 ref d r → u.beam.loads = [] → s.beam.loads = [] → u.beam.swaps = [] →
    (∀ b, (u.beamBlk b).fades = [] ∧ (u.beamBlk b).queued = none ∧ (u.beamBlk b).waits = none) →
    let n := descCount d
    let bank := byteAt d 36
    let table := byteAt d 37
    let first := fieldAt d 40 4
    let lo := (u.beamSpan.map (·.1)).getD 0
    let quiet := fun t => (∀ b, t.beamBlk b = u.beamBlk b)
      ∧ KeepsRegs u t (fun a => (∃ b < 16, a = Reg.BEAM_BANK b) ∨ a = Reg.BEAM_STATUS ∨ AnswerRegs s1 src a)
      ∧ Only (([.beam] : List Part) ++ answerParts) u t
    let bad := fun st => Completes (.beamLoad src data) s (fun t =>
      Answered t ref (fun c => c.status = st) ∧ t.beam = { u.beam with blocks := t.beam.blocks } ∧ quiet t)
    let busy := u.running && (u.loadBlocks table first n).any (fun b => u.bankBusy (bank == 1) b lo)
    let fits := first + n ≤ (if table = 0 then 2 ^ 20 else 2 ^ 15)
    let window := u.inHostWin r (descAddr d) (descAddr d + 8 * n)
    (n = 0 ∨ 1 < bank ∨ 1 < table → bad St.BAD_PARAM)
    ∧ (n ≠ 0 → bank ≤ 1 → table ≤ 1 → ¬ fits → bad St.BEAM_RANGE)
    ∧ (n ≠ 0 → bank ≤ 1 → table ≤ 1 → fits → window = false → bad St.BAD_BOUNDS)
    ∧ (n ≠ 0 → bank ≤ 1 → table ≤ 1 → fits → window → busy → bad St.BEAM_BANK_BUSY)
    ∧ (∀ bs m, data = HostRead.data bs → bs.length = 8 * m → m ≤ n → n ≠ 0 → bank ≤ 1 → table ≤ 1 → fits → window → busy = false →
      Completes (.beamLoad src data) s (fun t =>
        let base := bank * (if table = 0 then 2 ^ 20 else 2 ^ 15) + first
        let old := if table = 0 then u.beam.base else u.beam.offs
        let new := if table = 0 then t.beam.base else t.beam.offs
        (∀ j < m, (mapFind new (base + j)).getD 0 = fieldAt bs (8 * j) 8)
        ∧ (∀ a, a < base ∨ base + m ≤ a → (mapFind new a).getD 0 = (mapFind old a).getD 0)
        ∧ (if table = 0 then t.beam.offs = u.beam.offs else t.beam.base = u.beam.base)
        ∧ (m = n → t.beam.loads = [] ∧ Answered t ref (fun c => c.status = 0 ∧ c.count = n))
        ∧ (m < n → ∃ l, t.beam.loads = [l] ∧ l.src = src ∧ l.ref = ref ∧ l.count = n ∧ l.done = m ∧ l.bank = bank ∧ l.table = table ∧ l.first = first
            ∧ l.ring = r ∧ l.desc = d)
        ∧ quiet t)))
  ∧ (∀ (src : CmdSrc) (s : State) (l : BeamLoad) (bs : List Byte) (m : Nat), s.beam.loads = [l] → l.src = src →
    bs.length = 8 * m → l.done + m < l.count →
    Completes (.beamLoad src (HostRead.data bs)) s (fun t =>
      t.beam.loads = [{ l with done := l.done + m }]
      ∧ (∀ a, a < l.bank * (if l.table = 0 then 2 ^ 20 else 2 ^ 15) + l.first + l.done
          ∨ l.bank * (if l.table = 0 then 2 ^ 20 else 2 ^ 15) + l.first + l.done + m ≤ a →
        (mapFind t.beam.base a).getD 0 = (mapFind s.beam.base a).getD 0 ∧ (mapFind t.beam.offs a).getD 0 = (mapFind s.beam.offs a).getD 0)
      ∧ Only [.beam] s t))
  ∧ (∀ (src : CmdSrc) (s : State) (l : BeamLoad), s.beam.loads = [l] → l.src = src → Awaits s l.ref → s.beam.swaps = [] →
    (∀ b, (s.beamBlk b).fades = [] ∧ (s.beamBlk b).queued = none ∧ (s.beamBlk b).waits = none) →
    Completes (.beamLoad src HostRead.timeout) s (fun t =>
      t.beam.loads = [] ∧ Answered t l.ref (fun c => c.status = St.BAD_TIMEOUT ∧ c.residue = State.loadResidue l ∧ c.count = l.done)
      ∧ t.full (Reg.DMA_COUNT 0) = min (s.full (Reg.DMA_COUNT 0) + 1) (2 ^ 32 - 1) ∧ Counted s t Ev.DMA_TIMEOUT
      ∧ t.beam.base = s.beam.base ∧ t.beam.offs = s.beam.offs ∧ (∀ b, t.beamBlk b = s.beamBlk b)))
  ∧ (∀ (src : CmdSrc) (s u s1 : State) (ref : CmdRef) (d : List Byte) (r lo hi : Nat), Handed s src 0x39 u s1 ref d r → descK d ≠ emptyKey →
    u.beamSpan = some (lo, hi) → u.beam.swaps = [] →
    let k := descK d
    let mask := fieldAt d 36 2
    let len := fieldAt d 38 2
    let quiet := fun t => KeepsRegs u t (fun a => (∃ b < 16, a = Reg.BEAM_BANK b) ∨ a = Reg.BEAM_STATUS ∨ AnswerRegs s1 src a)
      ∧ Only (([.beam] : List Part) ++ answerParts) u t
    (len = 0 → Completes (.beamSwap src) s (fun t => Answered t ref (fun c => c.status = St.BEAM_RANGE) ∧ t.beam = u.beam ∧ quiet t))
    ∧ (len ≠ 0 → mask = 0 → Completes (.beamSwap src) s (fun t => Answered t ref (fun c => c.status = St.BAD_PARAM) ∧ t.beam = u.beam ∧ quiet t))
    ∧ (len ≠ 0 → mask ≠ 0 → (∀ b, s1.loadsInto b = []) →
      (∀ b, (u.beamBlk b).fades = [] ∧ (u.beamBlk b).queued = none ∧ (u.beamBlk b).waits = none) →
      Completes (.beamSwap src) s (fun t =>
        (∀ b < 16, t.beamBlk b = if bitAt mask b then { u.beamBlk b with fades := [⟨max k hi, len⟩] } else u.beamBlk b)
        ∧ (∃ j, t.beam.swaps = [j] ∧ j.ref = ref ∧ j.mask = mask ∧ j.sup = 0 ∧ j.open_ = 0 ∧ j.top = max k hi ∧ j.late = decide (k < hi))
        ∧ (∀ b < 16, t.full (Reg.BEAM_BANK b) = b2n (u.beamBlk b).bank) ∧ quiet t))
    ∧ (∀ b l, b < 16 → len ≠ 0 → mask = 2 ^ b → l ∈ s1.beam.loads → (l.bank == 1) = !(u.beamBlk b).bank →
      (∀ b, (u.beamBlk b).fades = [] ∧ (u.beamBlk b).queued = none ∧ (u.beamBlk b).waits = none) →
      Completes (.beamSwap src) s (fun t =>
        t.beamBlk b = { u.beamBlk b with waits := some ⟨k, len, ref, s1.loadsInto (!(u.beamBlk b).bank)⟩ }
        ∧ (∀ b', b' ≠ b → t.beamBlk b' = u.beamBlk b') ∧ quiet t))
    ∧ (∀ b f, b < 16 → len ≠ 0 → mask = 2 ^ b → (u.beamBlk b).fades = [f] → hi ≤ f.k0 + f.len - 1 → (u.beamBlk b).queued = none →
      (u.beamBlk b).waits = none → (∀ b', b' ≠ b → (u.beamBlk b').queued = none ∧ (u.beamBlk b').fades = [] ∧ (u.beamBlk b').waits = none) →
      Completes (.beamSwap src) s (fun t =>
        t.beamBlk b = { u.beamBlk b with queued := some ⟨k, len, ref, s1.loadsInto (u.beamBlk b).bank⟩ } ∧ (∀ b', b' ≠ b → t.beamBlk b' = u.beamBlk b')
        ∧ t.get (Reg.BEAM_BANK b) Fld.BEAM_BANK_QUEUED = 1 ∧ quiet t)))
  ∧ (∀ (src : CmdSrc) (s u s1 : State) (ref : CmdRef) (d : List Byte) (r lo hi b : Nat) (f : Fade) (old : SwapReq) (j : SwapJob),
    Handed s src 0x39 u s1 ref d r → descK d ≠ emptyKey → u.beamSpan = some (lo, hi) → (u.beamBlk b).waits = none →
    b < 16 → fieldAt d 38 2 ≠ 0 → fieldAt d 36 2 = 2 ^ b → (u.beamBlk b).fades = [f] → hi ≤ f.k0 + f.len - 1 → (u.beamBlk b).queued = some old →
    u.beam.swaps = [j] → j.ref = old.ref → old.ref ≠ ref → j.open_ = 2 ^ b → j.mask = 2 ^ b → j.sup = 0 → j.starts = [] →
    (∀ b', b' ≠ b → (u.beamBlk b').queued = none ∧ (u.beamBlk b').fades = [] ∧ (u.beamBlk b').waits = none) → Awaits u old.ref →
    Completes (.beamSwap src) s (fun t =>
      (t.beamBlk b).queued = some ⟨descK d, fieldAt d 38 2, ref, s1.loadsInto (u.beamBlk b).bank⟩ ∧ (t.beamBlk b).fades = [f]
      ∧ Answered t old.ref (fun c => c.status = St.SUPERSEDED ∧ c.count = 2 ^ b ∧ c.aux = emptyKey)
      ∧ t.full (Reg.BEAM_COUNT 5) = min (u.full (Reg.BEAM_COUNT 5) + 1) (2 ^ 32 - 1)
      ∧ KeepsRegs u t (fun a => (∃ b < 16, a = Reg.BEAM_BANK b) ∨ a = Reg.BEAM_STATUS ∨ a = Reg.BEAM_COUNT 5 ∨ AnswerRegs u (CmdSrc.almanac 0) a)
      ∧ Only (([.beam] : List Part) ++ answerParts) u t))
  ∧ (∀ (src : CmdSrc) (s u s1 : State) (ref : CmdRef) (d : List Byte) (r : Nat), Handed s src 0x3A u s1 ref d r → descK d ≠ emptyKey →
    u.beam.setCmds = [] → 0 < u.detInt →
    let k := descK d
    let late := u.beamChans.any (fun c => (List.range ((mapFind u.beam.seen c).getD 0 / u.detInt)).any (fun w => decide (k ≤ u.indexOf c (w * u.detInt))))
    Completes (.beamPeakSet src) s (fun t =>
      t.beam.sets = u.beam.sets ++ [⟨k, fieldAt d 40 4, fieldAt d 44 4⟩]
      ∧ (∀ k', k ≤ k' → (∀ e ∈ u.beam.sets, e.k ≤ k) → t.peakLimits k' = (fieldAt d 40 4, fieldAt d 44 4))
      ∧ (∀ k', k' < k → t.peakLimits k' = u.peakLimits k')
      ∧ ((∀ c ∈ u.beamChans, k ≤ u.winFirst c) → t.beam.setCmds = [] ∧ Answered t ref (fun c => c.status = 0 ∧ c.late = late))
      ∧ ((∃ c ∈ u.beamChans, u.winFirst c < k) → ∃ top, t.beam.setCmds = [(ref, k, top, late)] ∧ k ≤ top)
      ∧ KeepsRegs u t (AnswerRegs s1 src) ∧ Only (([.beam] : List Part) ++ answerParts) u t))

/-- R267, R516, R520: partial sums that arrive are added to those of their sheaf, or are late; the wait ends with the sheaf emitted and the
missing partials counted; an export record that found no second one leaves alone.
Where the spec leaves a point open this states the model's choice: log entries 80, 81 and 222. -/
def Obligations.PartialSums : Prop :=
  (∀ (l : Link) (s : State), s.takeVc0 l 0x70 = none → Completes (.partialBeamFlit l) s (fun t => t = s))
  ∧ (∀ (l : Link) (s : State) (b : List Byte) (rest : List (List Byte)), (s.link l).inbox = b :: rest → byteAt b 0 = 0x70 →
    let ch := fieldAt b 2 2 % 4096
    let next := (mapFind s.beam.emitted ch).getD (s.firstIndex ch)
    let origin := byteAt b 1 % 4
    let ys := (List.range 16).map (fun i => (toS 24 (fieldAt b (10 + 6 * i) 3), toS 24 (fieldAt b (13 + 6 * i) 3)))
    ((s.sumBlocks = [] ∨ s.beamOn = false) →
      Completes (.partialBeamFlit l) s (fun t => t.link l = { s.link l with inbox := rest } ∧ Only [.links] s t))
    ∧ (∀ k, s.sumBlocks ≠ [] → s.beamOn → s.mode = 0 → byteAt b 106 ≠ 0x70 → byteAt b 1 / 4 % 2 = 0 → next ≤ k → k < next + 2 ^ 31 → k % 2 ^ 32 = fieldAt b 4 4 →
        (∀ p ∈ s.beam.partials, p.chan ≠ ch) → (∃ o ∈ s.sumFrom, o ≠ origin) →
        Completes (.partialBeamFlit l) s (fun t =>
          (∃ p, t.beam.partials = s.beam.partials ++ [p] ∧ p.chan = ch ∧ p.k = k ∧ p.sums = ys ∧ p.got = [(origin, 0)]
            ∧ p.valid = fieldAt b 8 2 % 2 ^ 14 ∧ p.missing = bitAt (byteAt b 1) 3 ∧ p.settling = bitAt (byteAt b 1) 4)
          ∧ t.link l = { s.link l with inbox := rest } ∧ Only [.beam, .links] s t))
    ∧ (∀ k, s.sumBlocks ≠ [] → s.beamOn → s.mode = 0 → byteAt b 106 ≠ 0x70 → byteAt b 1 / 4 % 2 = 0 → k < next → next ≤ k + 2 ^ 31 → k % 2 ^ 32 = fieldAt b 4 4 →
        Completes (.partialBeamFlit l) s (fun t =>
          t.full (Reg.BEAM_COUNT 8) = min (s.full (Reg.BEAM_COUNT 8) + 1) (2 ^ 32 - 1)
          ∧ KeepsRegs s t (fun a => a = Reg.BEAM_COUNT 8) ∧ Only [.links, .regs] s t)))
  ∧ (∀ (c : Chan) (s : State), (∀ p ∈ s.beam.partials, p.chan = c.val → p.waitOver) →
    Completes (.partialWaitExpiry c) s (fun t => t = s))
  ∧ (∀ (c : Chan) (s : State) (p : Partial), p ∈ s.beam.partials → p.chan = c.val → p.waitOver = false → s.mode = 0 →
    (∀ x ∈ s.beam.partials, x.chan = c.val → x = p) →
    (∀ e ∈ s.sumBlocks, s.flag (Reg.BEAM_DEST e) Fld.BEAM_DEST_V_EN = false) → s.detMode = 0 → s.peakOn = false → s.beam.setCmds = [] →
    Completes (.partialWaitExpiry c) s (fun t =>
      t.beam.partials = s.beam.partials.filter (fun x => x.chan != c.val)
      ∧ mapFind t.beam.emitted c = some (p.k + s.chanStep c) ∧ t.beam.np = s.beam.np + 1
      ∧ t.full (Reg.BEAM_COUNT 7) = min (s.full (Reg.BEAM_COUNT 7) + (s.sumFrom.length - (s.wholeFrom p).length)) (2 ^ 32 - 1)
      ∧ KeepsRegs s t (fun a => a = Reg.BEAM_COUNT 7) ∧ Only [.beam, .regs, .free] s t))
  ∧ (∀ s : State, s.beam.export_ = [] → Completes .exportRecordTimeout s (fun t => t = s))
  ∧ (∀ s : State, s.beam.export_ ≠ [] → Completes .exportRecordTimeout s (fun t =>
      t.beam = { s.beam with export_ := [] }
      ∧ (∀ l, s.weaveLink 0 = some l → s.linkState l = 4 → s.linkTakes l 248 → (s.link l).vc0 = [] → (s.link l).txq = [[], [], []] →
          0 < (s.link l).credit.getD 0 0 → (s.link l).credit.length = 4 →
          (s.link l).resend = [] → (s.link l).replay.length < s.linkCfg l Fld.LANE_LINK_CFG_WINDOW →
          ∃ f, t.out.flits = s.out.flits ++ [(l, f)] ∧ (f.drop 4).take 248 = (s.beam.export_ ++ zeros (248 - s.beam.export_.length)).take 248
            ∧ t.full (Reg.WEAVE_COUNT 5) = min (s.full (Reg.WEAVE_COUNT 5) + 1) (2 ^ 32 - 1))
      ∧ (s.weaveLink 0 = none → t = { s with beam := { s.beam with export_ := [] } })
      ∧ KeepsRegs s t (fun a => a = Reg.WEAVE_COUNT 5 ∨ EventRegs Ev.BALRAN_TX_BACKLOG a)
      ∧ Only (([.beam] : List Part) ++ sendParts) s t))

/-- R271–R274, R284, R285: a sheaf's record takes the slot at the write pointer: its samples and its index entry stand in HBM at that slot's
two places, the pointer advances and returns to 0 after the last slot, and the record replaces the one that lay there. A valid length that is
pending takes effect when the writer comes round to slot 0, and a shorter ring gives up the slots beyond it; a channel whose newest record lay
there has no preceding record.
Where the spec leaves a point open this states the model's choice: log entries 17, 18, 83 and 91. -/
def Obligations.GleanRecords : Prop :=
  (∀ (s : State) (c k flags : Nat) (ins : List State.InputView) (d8 : Bool),
    s.full Reg.GLEAN_WPTR ≠ 0 ∨ s.glean.wrapped = false ∨ s.flag Reg.GLEAN_STATUS Fld.GLEAN_STATUS_PENDING = false →
    s.full Reg.GLEAN_WPTR < s.gleanMax → 1 ≤ s.gleanNi → s.gleanFirst + s.gleanNi ≤ ins.length →
    let j := s.full Reg.GLEAN_WPTR
    let t := s.gleanWrite c k flags ins d8
    let sel := (ins.drop s.gleanFirst).take s.gleanNi
    let gap := ¬ ∃ p, mapFind s.glean.last c = some p ∧ p = k ∧ p ≠ 0
    (∀ i < s.gleanNi, ∀ v, ins[s.gleanFirst + i]? = some v → s.gleanWide ∨ v.wide = false ∨ v.valid = false →
      t.hbmRead (s.gleanSamples j + i * s.gleanW) s.gleanW = sampleOut s.gleanWide v.x)
    ∧ (let e := t.hbmRead (s.gleanIndex j) s.gleanE
       fieldAt e 0 7 = k % 2 ^ 56 ∧ fieldAt e 8 2 = flags % 256
       ∧ (c < 4096 → fieldAt e 10 2 % 4096 = c) ∧ (c < 4096 → (bitAt (fieldAt e 10 2) 12 ↔ gap))
       ∧ (c < 4096 → (bitAt (fieldAt e 10 2) 13 ↔ s.gleanWide ≠ d8)) ∧ fieldAt e 12 2 = (sel.filter (fun (v : State.InputView) => v.valid)).length % 2 ^ 16
       ∧ ∀ h < s.gleanNi / 16, (bitAt (byteAt e (16 + h / 8)) (h % 8) ↔ ∃ i < 16, ∃ v, sel[16 * h + i]? = some v ∧ v.masked = false ∧ v.valid = false))
    ∧ t.full Reg.GLEAN_WPTR = (if s.full Reg.GLEAN_LEN ≤ j + 1 then 0 else j + 1)
    ∧ t.glean.recs = s.glean.recs.filter (fun r => r.slot != j) ++ [⟨j, c, k⟩]
    ∧ (∀ c', c' ≠ c → mapFind t.glean.last c' = mapFind s.glean.last c') ∧ mapFind t.glean.last c = some (k + 1)
    ∧ (∀ a, (a < s.gleanSamples j ∨ s.gleanSamples (j + 1) ≤ a) → (a < s.gleanIndex j ∨ s.gleanIndex (j + 1) ≤ a) → t.hbmByte a = s.hbmByte a))
  ∧ (∀ s : State,
    (s.flag Reg.GLEAN_STATUS Fld.GLEAN_STATUS_PENDING → s.lenValid (s.full Reg.GLEAN_LEN_SHADOW) →
      let v := s.full Reg.GLEAN_LEN_SHADOW
      let t := s.lenSwitch
      t.full Reg.GLEAN_LEN = v ∧ t.flag Reg.GLEAN_STATUS Fld.GLEAN_STATUS_PENDING = false
      ∧ (∀ r, r ∈ t.glean.recs ↔ r ∈ s.glean.recs ∧ r.slot < v)
      ∧ (∀ r ∈ s.glean.recs, v ≤ r.slot → (r.chan, r.k) ∈ t.glean.gone)
      ∧ (mapRising s.glean.last → ∀ c k, mapFind s.glean.last c = some k →
          (((∃ r ∈ s.glean.recs, v ≤ r.slot ∧ r.chan = c ∧ r.k + 1 = k) → mapFind t.glean.last c = none)
          ∧ ((∀ r ∈ s.glean.recs, v ≤ r.slot → r.chan = c → r.k + 1 ≠ k) → mapFind t.glean.last c = some k)))
      ∧ KeepsRegs s t (fun a => a = Reg.GLEAN_LEN ∨ a = Reg.GLEAN_STATUS) ∧ Only [.regs, .glean] s t)
    ∧ (s.flag Reg.GLEAN_STATUS Fld.GLEAN_STATUS_PENDING = false ∨ s.lenValid (s.full Reg.GLEAN_LEN_SHADOW) = false → s.lenSwitch = s))

/-- R276–R284, R287: GLEAN_FREEZE is accepted, merged, refused or ignored; GLEAN_RESUME arms a frozen ring; GLEAN_DUMP starts, waits or is
refused; the end of a dump sends its capture, SHORT when records that stood first in it were overtaken, DISCONTINUOUS with the count in LOST
when others were; and a shadow length is pending exactly when it is valid.
Where the spec leaves a point open this states the model's choice: log entries 84, 85, 86, 87, 88, 89 and 90. -/
def Obligations.GleanCommands : Prop :=
  (∀ (src : CmdSrc) (s u s1 : State) (ref : CmdRef) (d : List Byte) (r : Nat), Handed s src 0x40 u s1 ref d r → descK d ≠ emptyKey →
    let k := descK d
    let on := bitAt (u.get Reg.GLEAN_CFG Fld.GLEAN_CFG_TRIG) 0
    let refuse := Completes (.gleanFreeze src) s (fun t =>
      Answered t ref (fun c => c.status = St.GLEAN_STATE) ∧ t.glean = { u.glean with told := true }
      ∧ t.full (Reg.GLEAN_COUNT 2) = min (u.full (Reg.GLEAN_COUNT 2) + 1) (2 ^ 32 - 1)
      ∧ (u.glean.told = false → Counted u t Ev.GLEAN_FREEZE_REFUSED)
      ∧ KeepsRegs u t (fun a => a = Reg.GLEAN_COUNT 2 ∨ (u.glean.told = false ∧ EventRegs Ev.GLEAN_FREEZE_REFUSED a) ∨ AnswerRegs s1 src a)
      ∧ Only (([.glean, .rings, .firings] : List Part) ++ eventParts) u t)
    let taken := fun cap seq => Completes (.gleanFreeze src) s (fun t =>
      Answered t ref (fun c => c.status = 0 ∧ c.aux = k) ∧ t.glean.cap = some cap ∧ t.glean.seq = seq ∧ t.glean.recs = u.glean.recs
      ∧ t.gleanState = (if u.gleanReleased (k + u.gleanPost) then 3 else 2)
      ∧ KeepsRegs u t (fun a => a = Reg.GLEAN_STATUS ∨ (∃ r < 16384, a = Reg.RING_COUNT r) ∨ AnswerRegs s1 src a)
      ∧ Only (([.glean] : List Part) ++ answerParts) u t)
    (on = false → Completes (.gleanFreeze src) s (fun t =>
        Answered t ref (fun c => c.status = 0) ∧ t.glean = u.glean ∧ KeepsRegs u t (AnswerRegs s1 src) ∧ Only answerParts u t))
    ∧ (on → u.gleanState = 0 ∨ u.gleanState = 3 → refuse)
    ∧ (on → u.gleanState = 1 → (∃ c ∈ u.gleanChans, u.nextIndex c + 2 ^ 20 ≤ k) → refuse)
    ∧ (on → u.gleanState = 1 → (∀ c ∈ u.gleanChans, k < u.nextIndex c + 2 ^ 20) →
        taken ⟨k, 0, 0xFFFF, k - u.gleanPre, k + u.gleanPost, 0, u.glean.seq⟩ ((u.glean.seq + 1) % 2 ^ 32))
    ∧ (∀ c, on → u.gleanState = 2 → u.glean.cap = some c → u.full Reg.GLEAN_LEN < (k + u.gleanPost - c.lo + 64) * u.gleanChans.length → refuse)
    ∧ (∀ c, on → u.gleanState = 2 → u.glean.cap = some c → (k + u.gleanPost - c.lo + 64) * u.gleanChans.length ≤ u.full Reg.GLEAN_LEN →
        taken { c with hi := k + u.gleanPost, merged := c.merged + 1 } u.glean.seq))
  ∧ (∀ (src : CmdSrc) (s u s1 : State) (ref : CmdRef) (d : List Byte) (r : Nat), Handed s src 0x41 u s1 ref d r →
    Completes (.gleanResume src) s (fun t =>
      (u.gleanState = 3 → Answered t ref (fun c => c.status = 0) ∧ t.gleanState = 1 ∧ t.glean = { u.glean with cap := none, last := [] })
      ∧ (u.gleanState ≠ 3 → Answered t ref (fun c => c.status = St.GLEAN_STATE) ∧ t.gleanState = u.gleanState ∧ t.glean = u.glean)
      ∧ KeepsRegs u t (fun a => (u.gleanState = 3 ∧ a = Reg.GLEAN_STATUS) ∨ AnswerRegs s1 src a) ∧ Only (([.glean] : List Part) ++ answerParts) u t))
  ∧ (∀ (src : CmdSrc) (s u s1 : State) (ref : CmdRef) (d : List Byte) (r : Nat), Handed s src 0x42 u s1 ref d r →
    let live := bitAt (byteAt d 36) 0
    let ring := bitAt (byteAt d 36) 1
    let dest := fieldAt d 38 2 % 2 ^ 14
    let lo := descK d
    let hi := fieldAt d 40 7
    let to_ := if ring then u.ringType dest = 1
      else dest < 4096 ∧ u.ethFlag (Reg.ETH_STR_CFG dest) Fld.ETH_STR_CFG_ENABLE ∧ u.ethGet (Reg.ETH_STR_CFG dest) Fld.ETH_STR_CFG_CLASS = 2
        ∧ ∀ p ∈ u.producers, p.1 ≠ dest
    let refuse := fun st => Completes (.gleanDump src) s (fun t =>
      Answered t ref (fun c => c.status = st) ∧ t.glean = u.glean
      ∧ KeepsRegs u t (fun a => a = Reg.GLEAN_STATUS ∨ AnswerRegs s1 src a) ∧ Only answerParts u t)
    (live → lo = emptyKey ∨ hi = emptyKey → refuse St.BAD_PARAM)
    ∧ ((live → lo ≠ emptyKey ∧ hi ≠ emptyKey) → u.glean.jobs ≠ [] → Completes (.gleanDump src) s (fun t =>
        t.glean = { u.glean with jobs := u.glean.jobs ++ [{ ref := ref, live := live, ring := ring, dest := dest, lo := lo, hi := hi }] }
        ∧ KeepsRegs u t (AnswerRegs s1 src) ∧ Only (([.glean] : List Part) ++ answerParts) u t))
    ∧ ((live → lo ≠ emptyKey ∧ hi ≠ emptyKey) → u.glean.jobs = [] →
        (ring → u.ringType dest ≠ 1 → refuse St.BAD_PARAM)
        ∧ (ring = false → 4096 ≤ dest → refuse St.BAD_PARAM)
        ∧ (ring = false → dest < 4096 → ¬ to_ → refuse St.ETH_CLASS)
        ∧ (to_ → live = false → u.gleanState ≠ 3 → refuse St.GLEAN_STATE)
        ∧ (to_ → live → u.gleanState = 0 ∨ u.gleanState = 3 → refuse St.GLEAN_STATE)
        ∧ (to_ → live → u.gleanState = 1 ∨ u.gleanState = 2 → hi < lo ∨ (∃ c ∈ u.gleanChans, u.nextIndex c ≤ hi) → refuse St.GLEAN_RANGE)
        ∧ (to_ → (live = false ∧ u.gleanState = 3) ∨
              (live ∧ (u.gleanState = 1 ∨ u.gleanState = 2) ∧ lo ≤ hi ∧ ∀ c ∈ u.gleanChans, hi < u.nextIndex c) →
            Completes (.gleanDump src) s (fun t =>
              (∃ j, t.glean.jobs = [j] ∧ j.ref = ref ∧ j.live = live ∧ j.ring = ring ∧ j.dest = dest ∧ j.cap.isSome
                ∧ (live → j.recs.map (·.item) = u.glean.recs.filter (fun x => decide (lo ≤ x.k) && decide (x.k ≤ hi)))
                ∧ (∀ c, live = false → u.glean.cap = some c →
                    j.recs.map (·.item) = u.glean.recs.filter (fun x => decide (c.lo ≤ x.k) && decide (x.k ≤ c.hi))))
              ∧ t.flag Reg.GLEAN_STATUS Fld.GLEAN_STATUS_DUMPING ∧ t.glean.recs = u.glean.recs
              ∧ KeepsRegs u t (fun a => a = Reg.GLEAN_STATUS ∨ AnswerRegs s1 src a) ∧ Only (([.glean] : List Part) ++ answerParts) u t))))
  ∧ (∀ (l : List Nat) (s : State), (∀ j ∈ s.glean.jobs.head?, j.cap = none) → Completes (.dumpEnd l) s (fun t => t = s))
  ∧ (∀ (s : State) (j : DumpJob) (cap : Capture), s.glean.jobs = [j] → j.cap = some cap → j.dest < 16384 → Awaits s j.ref →
    Completes (.dumpEnd []) s (fun t =>
      let sent := j.recs.filter (fun r => r.bytes.isSome)
      let body := sent.flatMap (fun r => r.bytes.getD [])
      t.glean.jobs = [] ∧ t.flag Reg.GLEAN_STATUS Fld.GLEAN_STATUS_DUMPING = false
      ∧ Answered t j.ref (fun c => c.status = 0 ∧ c.count = sent.length)
      ∧ (j.ring → s.ringState j.dest = 1 ∨ s.ringState j.dest = 2 → ∃ m, (t.ring j.dest).msgs = (s.ring j.dest).msgs ++ [m]
          ∧ m.producer = 0x02 ∧ m.bytes.drop 64 = body ++ [0x67, 0x01, 0, 0] ++ le 4 (crc32c body) ++ le 8 sent.length
          ∧ byteAt m.bytes 0 = 0x47 ∧ fieldAt m.bytes 4 4 = cap.seq % 2 ^ 32 ∧ fieldAt m.bytes 36 4 = sent.length % 2 ^ 32)
      ∧ (let again := j.live = false ∧ s.flag Reg.GLEAN_CFG Fld.GLEAN_CFG_AUTO_RESUME ∧ s.gleanState = 3
         t.gleanState = (if again then 1 else s.gleanState) ∧ t.glean.recs = s.glean.recs)
      ∧ KeepsRegs s t (fun a => a = Reg.GLEAN_STATUS ∨ DestRegs a ∨ AnswerRegs s (CmdSrc.almanac 0) a)
      ∧ Only (([.glean, .firings] : List Part) ++ destParts) s t))
  ∧ (∀ (l : List Nat) (s : State) (j : DumpJob) (cap : Capture), s.glean.jobs = [j] → j.cap = some cap → j.ring → j.dest < 16384 →
    (s.ringState j.dest = 1 ∨ s.ringState j.dest = 2) →
    let missed := (j.recs.zipIdx.filter (fun (e : DumpRec × Nat) => l.contains e.2 && !s.glean.recs.contains e.1.item)).map
      (fun (e : DumpRec × Nat) => e.1.item)
    let first := (j.recs.map (fun (x : DumpRec) => x.item)).takeWhile (fun (x : GleanRec) =>
      missed.contains x && !s.glean.gone.contains (x.chan, x.k))
    let bad := (j.recs.filter (fun (x : DumpRec) => x.bytes.isNone)).length
    let inside := missed.length - first.length
    Completes (.dumpEnd l) s (fun t => ∃ m, (t.ring j.dest).msgs = (s.ring j.dest).msgs ++ [m]
      ∧ (bitAt (byteAt m.bytes 2) 0 ↔ j.short ∨ first ≠ [])
      ∧ (bitAt (byteAt m.bytes 2) 1 ↔ j.disc ∨ inside ≠ 0 ∨ bad ≠ 0)
      ∧ fieldAt m.bytes 56 4 = (j.lost + inside + bad) % 2 ^ 32))
  ∧ (∀ (v : Word) (s : State), s.served → Completes (.gleanLenShadowWrite v) s (fun t =>
      t.reg Reg.GLEAN_LEN_SHADOW = v
      ∧ (let ok := s.gleanLeast ≤ v.toNat ∧ v.toNat ≤ s.gleanMax
         (t.flag Reg.GLEAN_STATUS Fld.GLEAN_STATUS_PENDING ↔ ok) ∧ (t.flag Reg.GLEAN_STATUS Fld.GLEAN_STATUS_LEN_BAD ↔ ¬ ok))
      ∧ KeepsFields s t Reg.GLEAN_STATUS [Fld.GLEAN_STATUS_PENDING, Fld.GLEAN_STATUS_LEN_BAD]
      ∧ KeepsRegs s t (fun a => a = Reg.GLEAN_LEN_SHADOW ∨ a = Reg.GLEAN_STATUS) ∧ Only [.regs] s t))
  ∧ (∀ (v : Word) (s : State), s.served = false → Completes (.gleanLenShadowWrite v) s (fun t => t = s))

/-- R293–R300: the baler is lossless. Whatever a block's values and predictors, decoding its bits against the same predictors gives the values
and leaves the rest of the stream; the selector is 61 exactly when the check failed, 62 exactly when every residue is 0, else the lowest
Rice parameter with the shortest code, or 63 when none is shorter than the raw words. A segment's stream holds the blocks' bits in order. -/
def Obligations.BalerIsLossless : Prop :=
  (∀ (vs ps : List Int) (fail : Bool) (rest : List Bool), vs.length = ps.length → 1 ≤ vs.length → vs.length ≤ 64 →
    (∀ v ∈ vs ++ ps, -2147483648 ≤ v ∧ v < 2147483648) →
    let x := balerBlock vs ps fail
    let us := (vs.zip ps).map (fun e => residueCode e.1 e.2)
    balerDecode ps (x.2 ++ rest) = some (vs, rest)
    ∧ us = (vs.zip ps).map (fun e => if e.2 ≤ e.1 then (2 * (e.1 - e.2)).toNat else (2 * (e.2 - e.1) - 1).toNat)
    ∧ (∀ k, riceLength us k = us.length * (k + 1) + (us.map (fun u => u / 2 ^ k)).sum)
    ∧ (x.1 = 61 ↔ fail = true)
    ∧ (fail = false → (x.1 = 62 ↔ vs = ps))
    ∧ (x.1 = 61 ∨ x.1 = 63 → x.2.length = 6 + 32 * vs.length) ∧ (x.1 = 62 → x.2.length = 6)
    ∧ (fail = false → vs ≠ ps → x.1 ≤ 32 ∨ x.1 = 63)
    ∧ (x.1 ≤ 32 → x.2.length = 6 + riceLength us x.1 ∧ riceLength us x.1 < 32 * vs.length
        ∧ (∀ k ≤ 32, riceLength us x.1 ≤ riceLength us k) ∧ (∀ k < x.1, riceLength us x.1 < riceLength us k))
    ∧ (x.1 = 63 → ∀ k ≤ 32, 32 * vs.length ≤ riceLength us k))
  ∧ (∀ (ch vis : Nat) (pred : Option Nat) (bs : List (Nat × List Bool)), ch < 4096 → (∀ c ∈ pred, c < 4096) → vis < 2 ^ 32 → bs.length < 2 ^ 32 →
    let bits := bs.flatMap (·.2)
    let seg := balerSegment ch vis pred bs
    let cnt := fun (p : Nat → Bool) => (bs.filter (fun b => p b.1)).length
    bits.length < 2 ^ 32 →
    seg.length = 32 + (bits.length + 7) / 8
    ∧ (∀ m < bits.length, bitAt (byteAt seg (32 + m / 8)) (m % 8) = bits.getD m false)
    ∧ (∀ m, bits.length ≤ m → bitAt (byteAt seg (32 + m / 8)) (m % 8) = false)
    ∧ byteAt seg 0 = 0x62 ∧ byteAt seg 1 = 1 ∧ byteAt seg 2 = b2n pred.isNone + 2 * b2n (decide (cnt (fun s => s == 61 || s == 63) ≠ 0))
    ∧ fieldAt seg 4 2 = ch ∧ fieldAt seg 6 2 = pred.getD 0xFFFF ∧ fieldAt seg 8 4 = vis ∧ fieldAt seg 12 4 = bs.length
    ∧ fieldAt seg 16 4 = cnt (· == 62) ∧ fieldAt seg 20 4 = cnt (fun s => s == 61 || s == 63) ∧ fieldAt seg 24 4 = cnt (· == 61)
    ∧ fieldAt seg 28 4 = bits.length)
  ∧ (let rs : List Int := (List.replicate 16 [37, -12, -90, 5]).flatten
     let x := balerBlock (rs.map (· + 1204811)) (rs.map (fun _ => 1204811)) false
     x.1 = 5 ∧ x.2.length = 502 ∧ (packBits x.2.length x.2).take 2 = [0xC5, 0x94])

/-- R311–R315: what a message becomes on a stream. A class 1–3 message is cut into packets of the stream's size whose bytes put together again
are the message as sent, numbered in order, FIRST and LAST on the first and the last; a class 0 message is one packet, lost and counted when
its port is down. ALIVE rises by 1. An IPv4 frame's header checksum and UDP checksum verify, and its FCS is the CRC-32 of the frame.
Where the spec leaves a point open this states the model's choice: log entries 92, 93 and 94. -/
def Obligations.PacketsAndFrames : Prop :=
  (∀ (s : State) (i cls : Nat) (m : Msg), cls ≠ 0 → s.ethGet (Reg.ETH_STR_L4 i) Fld.ETH_STR_L4_PAYLOAD ≠ 0 →
    let t := s.toStream i cls m
    let size := 64 * s.ethGet (Reg.ETH_STR_L4 i) Fld.ETH_STR_L4_PAYLOAD
    let first := (s.stream i).pktSeq
    ∃ ps, (t.stream i).queue = (s.stream i).queue ++ ps ∧ (t.stream i).pktSeq = (first + ps.length) % 2 ^ 64
      ∧ (ps.map (fun k => k.bytes.drop 16)).flatten = State.sealed m (s.get (Reg.ETH_STR_ALIVE i) Fld.ETH_STR_ALIVE_ALIVE)
      ∧ ps ≠ []
      ∧ (∀ n k, ps[n]? = some k → k.stream = some i ∧ k.cls = cls ∧ k.seq = (first + n) % 2 ^ 64 ∧ byteAt k.bytes 0 = 0x7A ∧ byteAt k.bytes 1 = 1
          ∧ (bitAt (byteAt k.bytes 2) 0 ↔ n = 0) ∧ (bitAt (byteAt k.bytes 2) 1 ↔ n + 1 = ps.length) ∧ fieldAt k.bytes 4 8 = k.seq
          ∧ 16 + fieldAt k.bytes 12 2 = k.bytes.length ∧ k.bytes.length ≤ 16 + size ∧ (n + 1 < ps.length → k.bytes.length = 16 + size))
      ∧ t.get (Reg.ETH_STR_ALIVE i) Fld.ETH_STR_ALIVE_ALIVE = (s.get (Reg.ETH_STR_ALIVE i) Fld.ETH_STR_ALIVE_ALIVE + 1) % 256
      ∧ (∀ j, j ≠ i → t.stream j = s.stream j) ∧ KeepsRegs s t (fun a => a = Reg.ETH_STR_ALIVE i) ∧ Only [.regs, .streams] s t)
  ∧ (∀ (s : State) (i p : Nat) (rest : List Nat) (m : Msg), s.streamPorts i = p :: rest → i < 4096 →
    let t := s.toStream i 0 m
    let b := State.sealed m (s.get (Reg.ETH_STR_ALIVE i) Fld.ETH_STR_ALIVE_ALIVE)
    (t.stream i).pktSeq = ((s.stream i).pktSeq + 1) % 2 ^ 64
    ∧ t.get (Reg.ETH_STR_ALIVE i) Fld.ETH_STR_ALIVE_ALIVE = (s.get (Reg.ETH_STR_ALIVE i) Fld.ETH_STR_ALIVE_ALIVE + 1) % 256
    ∧ (s.portUp p → (t.port p).c0 = (s.port p).c0 ++ [{ stream := some i, cls := 0, seq := (s.stream i).pktSeq, bytes := b }]
        ∧ KeepsRegs s t (fun a => a = Reg.ETH_STR_ALIVE i))
    ∧ (s.portUp p = false → (∀ q, t.port q = s.port q) ∧ t.full (Reg.ETH_PORT_COUNT p 2) = min (s.full (Reg.ETH_PORT_COUNT p 2) + 1) (2 ^ 32 - 1)
        ∧ KeepsRegs s t (fun a => a = Reg.ETH_STR_ALIVE i ∨ a = Reg.ETH_PORT_COUNT p 2))
    ∧ Only [.regs, .streams, .ports] s t)
  ∧ (∀ (s : State) (p i : Nat) (payload : List Byte), payload.length < 2 ^ 15 → s.ethFlag (Reg.ETH_STR_CFG i) Fld.ETH_STR_CFG_IPV6 = false →
    let f := s.streamFrame p i payload
    let ip := (f.drop 14).take 20
    let udp := f.drop 34
    f.length = 42 + payload.length ∧ udp.drop 8 = payload ∧ (f.drop 6).take 6 = s.portMac p ∧ (f.drop 12).take 2 = [0x08, 0x00]
    ∧ inetSum ip = 0 ∧ unbe ((ip.drop 2).take 2) = 28 + payload.length ∧ byteAt ip 9 = 17
    ∧ (ip.drop 12).take 4 = s.addrBytes (Reg.ETH_PORT_SIP p) 1 ∧ ip.drop 16 = s.addrBytes (Reg.ETH_STR_DIP i) 1
    ∧ (s.ethFlag (Reg.ETH_STR_CFG i) Fld.ETH_STR_CFG_CSUM → inetSum (ip.drop 12 ++ [0, 17] ++ be 2 (8 + payload.length) ++ udp) = 0)
    ∧ (s.ethFlag (Reg.ETH_STR_CFG i) Fld.ETH_STR_CFG_CSUM = false → (udp.drop 6).take 2 = [0, 0]))
  ∧ (∀ f : List Byte, 60 ≤ f.length → (withFcs f).take f.length = f ∧ (withFcs f).length = f.length + 4
      ∧ unle ((withFcs f).drop f.length) = CheckKind.crc32.of f)

/-- R58, R307, R308, R314, R318–R323, R528: a port's transmitter when it is free, and its link's loss and return. The bucket fills to its depth; a
class 0 packet goes first when the bucket holds its wire length and is held, once counted and raised, otherwise; a lower class's only packet
goes; a port that is down, stopped or of a standby sends nothing; a TX-ring frame above the port's MTU is not sent. The lanes of a port follow its link.
Where the spec leaves a point open this states the model's choice: log entries 92, 95, 96, 97, 98 and 226. -/
def Obligations.PortTransmission : Prop :=
  (∀ (p : Port) (ns : Nat) (fs : List (List Byte)) (s : State), (s.port p).rate = 0 → Completes (.egressTransmit p ns fs) s (fun t => t = s))
  ∧ (∀ (p : Port) (ns : Nat) (fs : List (List Byte)) (s : State), (s.port p).rate ≠ 0 →
    let x : PortSt := { s.port p with
      wire := none
      tokens := min ((s.port p).tokens + ns * (s.port p).rate * s.ethGet (Reg.ETH_PORT_SCHED p) Fld.ETH_PORT_SCHED_C0_SHARE) ((s.port p).depth * 8192)
      c3 := (s.port p).c3 ++ (fs.filter (fun f => decide ((withFcs f).length ≤ s.ethGet (Reg.ETH_PORT_CFG p) Fld.ETH_PORT_CFG_MTU))).map
        (fun f => { stream := none, cls := 3, seq := 0, bytes := f }) }
    let u := s.setPort p x
    let sends := fun (k : Pkt) (t : State) => t.out.eth = s.out.eth ++ [(p.val, s.pktFrame p k)] ∧ (t.port p).wire = some { k with again := false }
      ∧ t.full (Reg.ETH_PORT_COUNT p 0) = min (s.full (Reg.ETH_PORT_COUNT p 0) + 1) (2 ^ 32 - 1)
      ∧ t.full (Reg.ETH_PORT_COUNT p 3) = min (s.full (Reg.ETH_PORT_COUNT p 3) + b2n (k.again && k.cls != 0)) (2 ^ 32 - 1)
      ∧ (∀ i, k.stream = some i → (t.stream i).sentSeq = some k.seq)
    let counts := fun (a : Nat) => a = Reg.ETH_PORT_COUNT p 0 ∨ a = Reg.ETH_PORT_COUNT p 1 ∨ a = Reg.ETH_PORT_COUNT p 3
    (s.portUp p = false ∨ s.stopped → Completes (.egressTransmit p ns fs) s (fun t => t.port p = x ∧ (∀ q, q ≠ p.val → t.port q = s.port q) ∧ Only [.ports] s t))
    ∧ (s.portUp p → s.stopped = false → s.standby → Completes (.egressTransmit p ns fs) s (fun t =>
        t.port p = (if x.c0 = [] then x else { x with c0 := x.c0.drop 1, held := false }) ∧ (∀ k rest, x.c0 = k :: rest → (s.now.units, p.val, k) ∈ t.twin.retain) ∧ Only [.ports, .twin] s t))
    ∧ (∀ k rest, s.portUp p → s.stopped = false → s.standby = false → x.c0 = k :: rest → s.wireLen p k * 8192 ≤ x.tokens →
        Completes (.egressTransmit p ns fs) s (fun t => sends k t ∧ (t.port p).c0 = rest ∧ (t.port p).held = false ∧ (t.port p).tokens = x.tokens - s.wireLen p k * 8192
          ∧ (∀ i, (t.stream i).queue = (s.stream i).queue) ∧ KeepsRegs s t counts ∧ Only [.regs, .ports, .streams, .outEth] s t))
    ∧ (s.portUp p → s.stopped = false → s.standby = false → x.c0 = [] → (∀ c, c = 1 ∨ c = 2 ∨ c = 3 → u.classSources p c = []) →
        Completes (.egressTransmit p ns fs) s (fun t => t.out.eth = s.out.eth ∧ (t.port p).wire = none ∧ Only [.ports] s t))
    ∧ (∀ c i k, s.portUp p → s.stopped = false → s.standby = false → x.c0 = [] → 1 ≤ c → c ≤ 3 → u.classSources p c = [i] →
        (∀ d, 1 ≤ d → d ≤ 3 → d ≠ c → u.classSources p d = []) → u.offered p i = some k → s.wireLen p k ≤ 9256 →
        1 ≤ x.turn → x.turn ≤ 3 → x.deficit.length = 3 → x.last.length = 3 →
        Completes (.egressTransmit p ns fs) s (fun t => sends k t
          ∧ (i ≠ 4096 → (t.stream i).queue = ((s.stream i).queue).drop 1) ∧ (i = 4096 → (t.port p).c3 = x.c3.drop 1)
          ∧ KeepsRegs s t counts ∧ Only [.regs, .ports, .streams, .outEth] s t))
    ∧ (∀ k rest, s.portUp p → s.stopped = false → s.standby = false → x.c0 = k :: rest → x.tokens < s.wireLen p k * 8192 → x.held = false →
        (∀ c, c = 1 ∨ c = 2 ∨ c = 3 → u.classSources p c = []) →
        Completes (.egressTransmit p ns fs) s (fun t => (t.port p).c0 = x.c0 ∧ (t.port p).held ∧ t.flag Reg.BEAM_LAT_BOUND Fld.BEAM_LAT_BOUND_VALID = false
          ∧ t.full (Reg.ETH_PORT_COUNT p 4) = min (s.full (Reg.ETH_PORT_COUNT p 4) + 1) (2 ^ 32 - 1)
          ∧ (s.eth.heldRaised = false → Counted s t Ev.ETH_C0_HELD) ∧ t.out.eth = s.out.eth
          ∧ KeepsRegs s t (fun a => a = Reg.ETH_PORT_COUNT p 4 ∨ a = Reg.BEAM_LAT_BOUND ∨ EventRegs Ev.ETH_C0_HELD a)
          ∧ Only (([.ports] : List Part) ++ eventParts) s t)))
  ∧ (∀ (p : Port) (cut : Bool) (s : State), s.portUp p = false → Completes (.ethLinkDown p cut) s (fun t => t = s))
  ∧ (∀ (p : Port) (cut : Bool) (s : State), s.portUp p → Completes (.ethLinkDown p cut) s (fun t =>
      let lost := (s.port p).c0.length + (match (s.port p).wire with
        | some k => if cut ∧ k.cls = 0 then 1 else 0
        | none => 0)
      t.portUp p = false ∧ (t.port p).c0 = [] ∧ (t.port p).wire = none ∧ (t.port p).held = false ∧ Counted s t Ev.ETH_LINK_DOWN
      ∧ t.full (Reg.ETH_PORT_COUNT p 2) = min (s.full (Reg.ETH_PORT_COUNT p 2) + lost) (2 ^ 32 - 1)
      ∧ (∀ k i, cut → (s.port p).wire = some k → k.cls ≠ 0 → k.stream = some i →
          (t.stream i).queue = { k with again := true } :: (s.stream i).queue ∧ ∀ j, j ≠ i → t.stream j = s.stream j)
      ∧ ((cut = false ∨ ∀ k, (s.port p).wire = some k → k.cls = 0) → ∀ i, t.stream i = s.stream i)
      ∧ (∀ q : Port, q ≠ p → t.portUp q = s.portUp q ∧ t.port q = s.port q)
      ∧ (∀ l ∈ s.portLanes p, t.laneState l = if s.laneState l ≠ 5 then s.laneState l
          else if s.flag (Reg.LANE_CFG l) Fld.LANE_CFG_RX_EN then 2 else 0)
      ∧ KeepsRegs s t (fun a => a = Reg.ETH_STATUS ∨ a = Reg.ETH_PORT_COUNT p 2 ∨ EventRegs Ev.ETH_LINK_DOWN a
          ∨ ∃ l ∈ s.portLanes p, a = Reg.LANE_STATUS l ∨ a = Reg.LANE_EQ l ∨ a = Reg.LANE_EYE_CTL l ∨ a = Reg.LANE_EYE_RESULT l)
      ∧ Only (([.ports, .streams, .lanes] : List Part) ++ eventParts) s t))
  ∧ (∀ (p : Port) (s : State), (s.port p).rate ≠ 0 → Completes (.ethLinkUp p) s (fun t => t.portUp p
      ∧ (∀ q : Port, q ≠ p → t.portUp q = s.portUp q) ∧ KeepsFields s t Reg.ETH_STATUS [Fld.ETH_STATUS_PORT_UP]
      ∧ (∀ l ∈ s.portLanes p, t.laneState l = (if 3 ≤ s.laneState l then 5 else s.laneState l)
          ∧ (3 ≤ s.laneState l → t.flag (Reg.LANE_STATUS l) Fld.LANE_STATUS_MARKER_LOCK))
      ∧ KeepsRegs s t (fun a => a = Reg.ETH_STATUS ∨ ∃ l ∈ s.portLanes p, a = Reg.LANE_STATUS l) ∧ Only [.regs] s t))
  ∧ (∀ (p : Port) (s : State), (s.port p).rate = 0 → Completes (.ethLinkUp p) s (fun t => t = s))

/-- R58, R307, R308, R313, R324–R327, R440, R441, R545: frames received, the management port and its lane; ETH_STREAM_SET writes an entry that is
free, and it takes effect at once; a read of the low half of a packet number captures the high half.
Where the spec leaves a point open this states the model's choice: log entries 99, 101 and 226. -/
def Obligations.ReceivedFramesAndStreamTable : Prop :=
  (∀ (p : Port) (f : List Byte) (good : Bool) (s : State), s.portUp p = false → Completes (.ethFrameReceive p f good) s (fun t => t = s))
  ∧ (∀ (p : Port) (f : List Byte) (good : Bool) (s : State), s.portUp p →
    let r := s.ethGet (Reg.ETH_PORT_RX p) Fld.ETH_PORT_RX_RING
    let bad := good = false ∨ s.ethGet (Reg.ETH_PORT_CFG p) Fld.ETH_PORT_CFG_MTU < f.length + 4
    let pause := unbe ((f.drop 12).take 2) = 0x8808 ∧ (unbe ((f.drop 14).take 2) = 0x0001 ∨ unbe ((f.drop 14).take 2) = 0x0101)
    let mine := f.take 6 = s.portMac p ∨ isBroadcast f ∨ (byteAt f 0 % 2 = 1 ∧ s.ethFlag (Reg.ETH_PORT_RX p) Fld.ETH_PORT_RX_MCAST)
    let up := fun (t : State) n => t.full (Reg.ETH_PORT_COUNT p n) = min (s.full (Reg.ETH_PORT_COUNT p n) + 1) (2 ^ 32 - 1)
    Completes (.ethFrameReceive p f good) s (fun t => up t 5
      ∧ (bad ∨ (¬ pause ∧ ¬ mine) → up t 6 ∧ KeepsRegs s t (fun a => a = Reg.ETH_PORT_COUNT p 5 ∨ a = Reg.ETH_PORT_COUNT p 6) ∧ Only [.regs] s t)
      ∧ (¬ bad → pause → up t 7 ∧ KeepsRegs s t (fun a => a = Reg.ETH_PORT_COUNT p 5 ∨ a = Reg.ETH_PORT_COUNT p 7) ∧ Only [.regs] s t)
      ∧ (¬ bad → ¬ pause → mine →
          (s.ringState r = 1 ∨ s.ringState r = 2 →
            (t.ring r).msgs = (s.ring r).msgs ++ [{ producer := 0x08, bytes := f, full := NoBuffer.counts (Reg.ETH_PORT_COUNT p 6) }]
            ∧ KeepsRegs s t (fun a => a = Reg.ETH_PORT_COUNT p 5))
          ∧ (s.ringState r = 0 ∨ s.ringState r = 3 → (t.ring r).msgs = (s.ring r).msgs ∧ up t 6)
          ∧ KeepsRegs s t (fun a => a = Reg.ETH_PORT_COUNT p 5 ∨ a = Reg.ETH_PORT_COUNT p 6 ∨ a = Reg.RING_COUNT r)
          ∧ (∀ q, q ≠ r → t.ring q = s.ring q) ∧ Only [.regs, .rings] s t)))
  ∧ (∀ (f : List Byte) (good : Bool) (fine : Fin 128) (s : State),
    (s.mgmtUp = false ∨ good = false ∨ (isBroadcast f = false ∧ Config.mgmtAccepts (f.take 6) = false)) →
    Completes (.mgmtFrameReceive f good fine) s (fun t => t = s))
  ∧ (∀ (f : List Byte) (fine : Fin 128) (s : State), s.mgmtUp → isBroadcast f ∨ Config.mgmtAccepts (f.take 6) →
    let r := if (ptpBody f).isSome then s.ethGet Reg.ETH_MGMT_PTP Fld.ETH_MGMT_PTP_PTP_RING else s.ethGet Reg.ETH_MGMT_RINGS Fld.ETH_MGMT_RINGS_RX_RING
    Completes (.mgmtFrameReceive f true fine) s (fun t =>
      (s.ringState r = 1 ∨ s.ringState r = 2 → ∃ m, (t.ring r).msgs = (s.ring r).msgs ++ [m]
        ∧ (ptpBody f = none → m.producer = 0x08 ∧ m.bytes = f)
        ∧ ((ptpBody f).isSome → m.producer = 0x09 ∧ m.bytes.drop 16 = f ∧ fieldAt m.bytes 12 2 = f.length % 2 ^ 16
            ∧ (byteAt m.bytes 14 = 1 ↔ s.flag Reg.TIME_STATUS Fld.TIME_STATUS_SET = false)))
      ∧ KeepsRegs s t (fun a => a = Reg.RING_COUNT r) ∧ (∀ q, q ≠ r → t.ring q = s.ring q) ∧ Only [.regs, .rings] s t))
  ∧ (∀ (f : List Byte) (fine : Fin 128) (s : State), (s.mgmtUp = false ∨ s.standby ∨ s.stopped) →
    Completes (.mgmtFrameTransmit f fine) s (fun t => t = s))
  ∧ (∀ (f : List Byte) (fine : Fin 128) (s : State), s.mgmtUp → s.standby = false → s.stopped = false →
    let r := s.ethGet Reg.ETH_MGMT_PTP Fld.ETH_MGMT_PTP_PTP_RING
    let stamped := s.timeFlag Reg.TIME_CAP Fld.TIME_CAP_TX_EN ∧ ∃ m, ptpBody f = some m ∧ byteAt m 0 % 16 < 4
    Completes (.mgmtFrameTransmit f fine) s (fun t =>
      t.out.eth = s.out.eth ++ [(16, withFcs f)] ∧ (¬ stamped → KeepsRegs s t (fun _ => False) ∧ Only [.outEth] s t)
      ∧ (stamped → (s.ringState r = 1 ∨ s.ringState r = 2 → ∃ m, (t.ring r).msgs = (s.ring r).msgs ++ [m] ∧ m.producer = 0x10 ∧ byteAt m.bytes 0 = 0x74))
      ∧ KeepsRegs s t (fun a => a = Reg.RING_COUNT r ∨ a = Reg.TIME_COUNT 6) ∧ Only [.regs, .rings, .outEth] s t))
  ∧ (∀ (up : Bool) (s : State), Completes (if up then Instr.mgmtLinkUp else Instr.mgmtLinkDown) s (fun t => t.mgmtUp = up
      ∧ KeepsFields s t Reg.ETH_STATUS [Fld.ETH_STATUS_MGMT_UP]
      ∧ (up → t.laneState 96 = if 3 ≤ s.laneState 96 then 5 else s.laneState 96)
      ∧ (up = false → t.laneState 96 = if s.laneState 96 ≠ 5 then s.laneState 96 else if s.flag (Reg.LANE_CFG 96) Fld.LANE_CFG_RX_EN then 2 else 0)
      ∧ KeepsRegs s t (fun a => a = Reg.ETH_STATUS ∨ a = Reg.LANE_STATUS 96 ∨ a = Reg.LANE_EQ 96 ∨ a = Reg.LANE_EYE_CTL 96
          ∨ a = Reg.LANE_EYE_RESULT 96)
      ∧ Only [.regs, .lanes] s t))
  ∧ (∀ (src : CmdSrc) (tb : HostRead) (s u s1 : State) (ref : CmdRef) (d : List Byte) (r : Nat),
    Issued s src 0x48 u s1 ref d r →
    let i := fieldAt d 36 2
    let refuse := fun st => Completes (.ethStreamSet src tb) s (fun t =>
      Answered t ref (fun c => c.status = st) ∧ KeepsRegs u t (AnswerRegs s1 src) ∧ Only answerParts u t)
    (4096 ≤ i ∨ descCount d ≠ 32 → refuse St.BAD_PARAM)
    ∧ (i < 4096 → descCount d = 32 → u.streamBusy i → refuse St.ETH_STREAM_BUSY)
    ∧ (i < 4096 → descCount d = 32 → u.streamBusy i = false → u.inHostWin r (descAddr d) (descAddr d + 32) = false → refuse St.BAD_BOUNDS)
    ∧ (∀ bs, i < 4096 → descCount d = 32 → u.streamBusy i = false → u.inHostWin r (descAddr d) (descAddr d + 32) → tb = HostRead.data bs → bs.length = 32 →
        Completes (.ethStreamSet src tb) s (fun t => Answered t ref (fun c => c.status = 0)
          ∧ t.full (Reg.ETH_STR_CFG i) = fieldAt bs 0 4 % 2 ^ 27 ∧ (∀ w, 1 ≤ w → w < 8 → t.full (Reg.ETH_STR_CFG i + 4 * w) = fieldAt bs (4 * w) 4)
          ∧ (∀ w, w < 8 → t.ethReg (Reg.ETH_STR_CFG i + 4 * w) = t.reg (Reg.ETH_STR_CFG i + 4 * w))
          ∧ (∀ a, ¬ Between (Reg.ETH_STR_CFG i) (Reg.ETH_STR_CFG i + 31) a → t.ethReg a = u.ethReg a)
          ∧ KeepsRegs u t (fun a => Between (Reg.ETH_STR_CFG i) (Reg.ETH_STR_CFG i + 31) a ∨ AnswerRegs s1 src a)
          ∧ Only (([.ethSettings] : List Part) ++ answerParts) u t)))
  ∧ (∀ (i : Fin 4096) (s : State),
    (s.isReady → Completes (.ethStrSeqLoRead i) s (fun t =>
      let n := (s.stream i).pktSeq
      t.readData.toNat = n % 2 ^ 32 ∧ t.full (Reg.ETH_STR_SEQ_LO i) = n % 2 ^ 32 ∧ t.full (Reg.ETH_STR_SEQ_HI i) = n / 2 ^ 32 % 2 ^ 32
      ∧ KeepsRegs s t (fun a => a = Reg.ETH_STR_SEQ_LO i ∨ a = Reg.ETH_STR_SEQ_HI i) ∧ Only [.regs, .readData] s t))
    ∧ (s.isReady = false → Completes (.ethStrSeqLoRead i) s (fun t => t.readData = regReset (Reg.ETH_STR_SEQ_LO i) ∧ Only [.readData] s t)))

/-- R329, R334–R338, R368: doorbells. A position is discarded and counted while the ring is DISABLED, taken when valid, and otherwise halts the
ring; ARM arms a completion ring's coalescing, whose time-out or COUNT-th record signals; a narrow write raises ACCESS_SIZE; a read answers
the value last written with HALTED in bit 63, or its bytes; a word of the MSI-X table changes that word of its vector, and a pending vector
that is unmasked is sent; the table and the pending bits read back.
Where the spec leaves a point open this states the model's choice: log entry 112. -/
def Obligations.DoorbellsAndVectors : Prop :=
  (∀ (cq : Bool) (r : Ring) (b : Fin 8) (n : Nat) (v : BitVec 64) (s : State), (s.ringType r = 2 ↔ cq = true) →
    let i : Instr := if cq then Instr.cqDoorbell r b (BarAccess.write n v) else Instr.doorbell r b (BarAccess.write n v)
    let low := 4 ≤ n ∧ (8 ≤ n ∨ b.val < 4)
    let old := (s.ring r).doorbell
    let val := if n = 8 then v.toNat else old / 2 ^ 32 * 2 ^ 32 + v.toNat % 2 ^ 32
    let pos := val % 2 ^ 17
    let valid := pos % 65536 < s.ringSize r
      ∧ (if cq then posDiff (s.ringSize r) (s.devPos r) pos else posDiff (s.ringSize r) pos (s.devPos r)) ≤ s.ringSize r
    let arm := cq = true ∧ n = 8 ∧ bitAt v.toNat 32
    let rings := fun (t : State) => (∀ q, q ≠ r.val → t.ring q = s.ring q)
      ∧ t.ring r = (if arm ∧ s.ringState r ≠ 0 then { s.ring r with doorbell := val, armed := true, since := 0 } else { s.ring r with doorbell := val })
    (n < 4 → Completes i s (fun t => Counted s t Ev.ACCESS_SIZE ∧ KeepsRegs s t (EventRegs Ev.ACCESS_SIZE) ∧ Only eventParts s t))
    ∧ (low → s.ringState r = 0 → Completes i s (fun t => rings t
        ∧ t.get (Reg.RING_COUNT r) Fld.RING_COUNT_DOORBELLS = min (s.get (Reg.RING_COUNT r) Fld.RING_COUNT_DOORBELLS + 1) 65535
        ∧ t.hostPos r = s.hostPos r ∧ KeepsFields s t (Reg.RING_COUNT r) [Fld.RING_COUNT_DOORBELLS]
        ∧ KeepsRegs s t (fun a => a = Reg.RING_COUNT r) ∧ Only [.regs, .rings] s t))
    ∧ (low → s.ringState r ≠ 0 → valid → Completes i s (fun t => rings t ∧ t.hostPos r = pos ∧ t.devPos r = s.devPos r ∧ t.ringState r = s.ringState r
        ∧ KeepsRegs s t (fun a => a = Reg.RING_HOST_POS r) ∧ Only [.regs, .rings] s t))
    ∧ (low → s.ringState r ≠ 0 → ¬ valid → Completes i s (fun t => rings t ∧ t.hostPos r = s.hostPos r ∧ t.devPos r = s.devPos r
        ∧ t.ringState r = 3 ∧ t.get (Reg.RING_STATE r) Fld.RING_STATE_CAUSE = 2 ∧ Counted s t Ev.RING_DOORBELL_BAD
        ∧ t.full (Reg.DMA_COUNT 5) = min (s.full (Reg.DMA_COUNT 5) + 1) (2 ^ 32 - 1)
        ∧ KeepsRegs s t (fun a => a = Reg.RING_STATE r ∨ a = Reg.DMA_COUNT 5 ∨ EventRegs Ev.RING_DOORBELL_BAD a) ∧ Only (([.rings] : List Part) ++ eventParts) s t)))
  ∧ (∀ (r : Ring) (a : BarAccess) (b : Fin 8) (s : State),
    (s.ringType r = 2 → Completes (.doorbell r b a) s (fun t => t = s)) ∧ (s.ringType r ≠ 2 → Completes (.cqDoorbell r b a) s (fun t => t = s)))
  ∧ (∀ (i : Instr) (r : Ring) (b : Fin 8) (n : Nat) (s : State),
    (i = .doorbell r b (BarAccess.read n) ∧ s.ringType r ≠ 2) ∨ (i = .cqDoorbell r b (BarAccess.read n) ∧ s.ringType r = 2) →
    let whole := (s.ring r).doorbell % 2 ^ 63 + if s.ringState r = 3 then 2 ^ 63 else 0
    Completes i s (fun t =>
      (n = 8 → t.host.barData = whole) ∧ (n = 4 → t.host.barData = whole / 2 ^ (32 * (b.val / 4)) % 2 ^ 32)
      ∧ (n = 1 ∨ n = 2 → b.val % 4 + n ≤ 4 → t.host.barData = whole / 2 ^ (8 * b.val) % 2 ^ (8 * n)) ∧ Only [.barData] s t))
  ∧ (∀ (i : Instr) (r : Ring) (n : Nat) (v : BitVec 64) (s : State),
    (∃ b, i = .cqArm r b ⟨n, v⟩) ∨ (∃ b : Fin 8, 4 ≤ b.val ∧ 4 ≤ n ∧ n < 8 ∧ ((i = .doorbell r b (BarAccess.write n v) ∧ s.ringType r ≠ 2)
      ∨ (i = .cqDoorbell r b (BarAccess.write n v) ∧ s.ringType r = 2))) →
    (n < 4 → Completes i s (fun t => Counted s t Ev.ACCESS_SIZE ∧ KeepsRegs s t (EventRegs Ev.ACCESS_SIZE) ∧ Only eventParts s t))
    ∧ (4 ≤ n → Completes i s (fun t =>
        let x := { s.ring r with doorbell := (s.ring r).doorbell % 2 ^ 32 + v.toNat % 2 ^ 32 * 2 ^ 32 }
        let on := v.toNat % 2 = 1 ∧ s.ringType r = 2
        t.ring r = (if on ∧ s.ringState r ≠ 0 then { x with armed := true, since := 0 } else x)
        ∧ (on ∧ s.ringState r = 0 → t.get (Reg.RING_COUNT r) Fld.RING_COUNT_DOORBELLS = min (s.get (Reg.RING_COUNT r) Fld.RING_COUNT_DOORBELLS + 1) 65535)
        ∧ (∀ q, q ≠ r.val → t.ring q = s.ring q)
        ∧ KeepsRegs s t (fun a => on ∧ s.ringState r = 0 ∧ a = Reg.RING_COUNT r) ∧ Only [.regs, .rings] s t)))
  ∧ (∀ (r : Ring) (s : State),
    let due := (s.ring r).armed ∧ (s.ring r).since ≠ 0 ∧ s.get (Reg.RING_CQ r) Fld.RING_CQ_TIME_US ≠ 0 ∧ s.get (Reg.RING_CQ r) Fld.RING_CQ_COUNT ≠ 0
    (due → s.standby = false → Completes (.cqCoalesceTimeout r) s (fun t =>
      let v := s.get (Reg.RING_CQ r) Fld.RING_CQ_VECTOR
      let now := s.hostCan ∧ s.stopped = false ∧ bitAt (s.vector v).2.2 0 = false
      t.ring r = { s.ring r with armed := false, since := 0 } ∧ (∀ q, q ≠ r.val → t.ring q = s.ring q)
      ∧ (now → t.out.msix = s.out.msix ++ [v] ∧ t.host.pba = s.host.pba) ∧ (¬ now → t.out.msix = s.out.msix ∧ v ∈ t.host.pba)
      ∧ Only [.rings, .pba, .outMsix] s t))
    ∧ (due → s.standby → Completes (.cqCoalesceTimeout r) s (fun t =>
      let v := s.get (Reg.RING_CQ r) Fld.RING_CQ_VECTOR
      t.ring r = { s.ring r with armed := false, since := 0 } ∧ (bitAt (s.vector v).2.2 0 = false → t.host.pba = s.host.pba)
      ∧ (bitAt (s.vector v).2.2 0 → v ∈ t.host.pba) ∧ Only [.rings, .pba] s t))
    ∧ (¬ due → Completes (.cqCoalesceTimeout r) s (fun t => t = s)))
  ∧ (∀ (line : Fin 4096) (byte : Fin 16) (n : Nat) (v : BitVec 64) (s : State),
    let i := line.val
    let o := 16 * line.val + byte.val
    (n < 4 → Completes (.msixTableWrite line byte (BarAccess.write n v)) s (fun t =>
      Counted s t Ev.ACCESS_SIZE ∧ KeepsRegs s t (EventRegs Ev.ACCESS_SIZE) ∧ Only eventParts s t))
    ∧ (4 ≤ n → 0x8000 ≤ o → Completes (.msixTableWrite line byte (BarAccess.write n v)) s (fun t => t = s))
    ∧ (4 ≤ n → n ≠ 8 → o < 0x8000 → s.host.pba = [] → Completes (.msixTableWrite line byte (BarAccess.write n v)) s (fun t =>
        let w := v.toNat % 2 ^ 32
        t.vector i = (match o / 4 % 4 with
          | 0 => ((s.vector i).1 / 2 ^ 32 * 2 ^ 32 + w / 4 * 4, (s.vector i).2.1, (s.vector i).2.2)
          | 1 => ((s.vector i).1 % 2 ^ 32 + w * 2 ^ 32, (s.vector i).2.1, (s.vector i).2.2)
          | 2 => ((s.vector i).1, w, (s.vector i).2.2)
          | _ => ((s.vector i).1, (s.vector i).2.1, w % 2))
        ∧ (∀ j, j ≠ i → t.vector j = s.vector j) ∧ Only [.pcie] s t))
    ∧ (n = 8 → o % 8 = 0 → o < 0x8000 → s.host.pba = [] → Completes (.msixTableWrite line byte (BarAccess.write n v)) s (fun t =>
        t.vector i = (if o % 16 = 0 then (v.toNat / 4 * 4, (s.vector i).2.1, (s.vector i).2.2)
          else ((s.vector i).1, v.toNat % 2 ^ 32, v.toNat / 2 ^ 32 % 2))
        ∧ (∀ j, j ≠ i → t.vector j = s.vector j) ∧ Only [.pcie] s t))
    ∧ (o = 16 * i + 12 → o < 0x8000 → v.toNat = 0 → s.host.pba = [i] → s.standby = false → s.hostCan → s.stopped = false →
        Completes (.msixTableWrite line byte (BarAccess.write 4 v)) s (fun t =>
          t.host.pba = [] ∧ t.out.msix = s.out.msix ++ [i] ∧ Only [.pcie, .pba, .outMsix] s t))
    ∧ (o % 4 = 0 → Completes (.msixTableWrite line byte (BarAccess.read 4)) s (fun t =>
        (o < 0x8000 → t.host.barData = (match o / 4 % 4 with
          | 0 => (s.vector i).1 % 2 ^ 32
          | 1 => (s.vector i).1 / 2 ^ 32
          | 2 => (s.vector i).2.1
          | _ => (s.vector i).2.2) % 2 ^ 32)
        ∧ (0x8000 ≤ o → o < 0x8100 → s.host.pba.Nodup → ∀ j < 32, (bitAt t.host.barData j ↔ 32 * ((o - 0x8000) / 4) + j ∈ s.host.pba))
        ∧ (0x8100 ≤ o → t.host.barData = 0) ∧ Only [.barData] s t)))

/-- R339–R343, R359, R361, R387: the transitions of a ring. ENABLE passes or is refused with its cause; PAUSE, RESUME and RESET act in the
states that admit them; RESET gives the descriptor in progress, a transfer, a chain fetch or a load, a RESET record with its residue, after
its outstanding read if it has one, and discards the rest; a completion ring that owns a live ring is not reset, and another one's reset
discards the records that wait for it.
Where the spec leaves a point open this states the model's choice: log entry 113. -/
def Obligations.RingTransitions : Prop :=
  (∀ (r : Ring) (s : State), s.served = false ∨ s.ringState r ≠ 0 → Completes (.ringEnable r) s (fun t => t = s))
  ∧ (∀ (r : Ring) (s : State), s.served → s.ringState r = 0 →
    let l := s.get (Reg.RING_CFG r) Fld.RING_CFG_LOG2SIZE
    let q := s.ringCq r
    let shape := 4 ≤ l ∧ l ≤ 16 ∧ s.ringType r ≠ 3
    let owner := s.inHostWin r (s.ringBase r) (s.ringBase r + 64 * s.ringSize r) ∧ s.inHostWin r (s.ringBase q) (s.ringBase q + 32 * s.ringSize q)
      ∧ s.ringType q = 2 ∧ s.ringState q = 1
    let good := shape ∧ (if s.ringType r = 2 then q ≠ r.val else owner)
    let trained := s.ringType r = 2 ∨ s.get (Reg.RING_DWIN_SIZE r) Fld.RING_DWIN_SIZE_MIB = 0 ∨ s.flag Reg.HBM_STATUS Fld.HBM_STATUS_ALL_TRAINED
    Completes (.ringEnable r) s (fun t =>
      (good → trained → t.ringState r = 1 ∧ t.get (Reg.RING_STATE r) Fld.RING_STATE_CAUSE = 0 ∧ t.devPos r = 0 ∧ t.hostPos r = 0
        ∧ (t.ring r).alive = 0 ∧ (t.ring r).fetchPos = 0 ∧ (t.ring r).queue = [] ∧ (t.ring r).bufs = [] ∧ (t.ring r).slots = (s.ring r).slots
        ∧ (t.ring r).dropped = (s.ring r).dropped)
      ∧ (¬ good → t.ringState r = 0 ∧ t.get (Reg.RING_STATE r) Fld.RING_STATE_CAUSE = 1 ∧ t.ring r = s.ring r)
      ∧ (good → ¬ trained → t.ringState r = 0 ∧ t.get (Reg.RING_STATE r) Fld.RING_STATE_CAUSE = 4 ∧ t.ring r = s.ring r)
      ∧ (∀ x, x ≠ r.val → t.ring x = s.ring x) ∧ KeepsRegs s t (fun a => a = Reg.RING_STATE r ∨ a = Reg.RING_HOST_POS r) ∧ Only [.regs, .rings] s t))
  ∧ (∀ (r : Ring) (s : State),
    (s.served → s.ringState r = 1 → Completes (.ringPause r) s (fun t => t.ringState r = 2
      ∧ KeepsFields s t (Reg.RING_STATE r) [Fld.RING_STATE_STATE] ∧ KeepsRegs s t (fun a => a = Reg.RING_STATE r) ∧ Only [.regs] s t))
    ∧ (s.served = false ∨ s.ringState r ≠ 1 → Completes (.ringPause r) s (fun t => t = s))
    ∧ (s.served → s.ringState r = 2 → Completes (.ringResume r) s (fun t => t.ringState r = 1
      ∧ ((∀ e, (s.ring r).queue.head? = some e → s.badStatus r e.bytes = none) → t.ring r = s.ring r) ∧ (∀ x, x ≠ r.val → t.ring x = s.ring x)
      ∧ KeepsFields s t (Reg.RING_STATE r) [Fld.RING_STATE_STATE] ∧ KeepsRegs s t (fun a => a = Reg.RING_STATE r) ∧ Only [.regs, .rings] s t))
    ∧ (s.served = false ∨ s.ringState r ≠ 2 → Completes (.ringResume r) s (fun t => t = s))
    ∧ (s.served = false ∨ s.ringState r = 0 → Completes (.ringReset r) s (fun t => t = s))
    ∧ (s.served → s.ringState r ≠ 0 → s.beam.blocks = [] → s.beam.swaps = [] →
        let shown := fun (a : Nat) => (∃ b < 16, a = Reg.BEAM_BANK b) ∨ a = Reg.BEAM_STATUS
        let zero := fun (t : State) => t.ringState r = 0 ∧ t.devPos r = 0 ∧ t.hostPos r = 0 ∧ t.get (Reg.RING_STATE r) Fld.RING_STATE_CAUSE = 0
        (s.beam.loads = [] → s.ringType r = 2 → (∃ x < 16384, s.ringState x ≠ 0 ∧ s.ringType x ≠ 2 ∧ s.ringCq x = r.val) →
          Completes (.ringReset r) s (fun t =>
            Counted s t Ev.RING_CFG_BUSY ∧ KeepsRegs s t (fun a => EventRegs Ev.RING_CFG_BUSY a ∨ shown a) ∧ Only eventParts s t))
        ∧ (s.beam.loads = [] → s.ringType r = 2 → (∀ x < 16384, s.ringState x = 0 ∨ s.ringType x = 2 ∨ s.ringCq x ≠ r.val) →
          Completes (.ringReset r) s (fun t => zero t ∧ t.ring r = { doorbell := (s.ring r).doorbell }
            ∧ (∀ q, q ≠ r.val → t.ring q = if s.ringType q ≠ 2 ∧ s.ringCq q = r.val
                then { s.ring q with slots := (s.ring q).slots.filter (fun (l : RecSlot) => l.result.isNone) } else s.ring q)
            ∧ KeepsRegs s t (fun a => a = Reg.RING_STATE r ∨ a = Reg.RING_HOST_POS r ∨ shown a) ∧ Only [.regs, .rings] s t))
        ∧ (s.ringType r ≠ 2 → (s.ring r).msgs = [] →
          let cut := fun (l : RecSlot) done left => ({ l with
            head := 0, result := some { tag := l.tag, status := St.RESET, cut := true, chained := l.chained, count := done, residue := left } } : RecSlot)
          let mine := fun id => (s.ring r).slots.filter (fun (l : RecSlot) => l.id == id)
          Completes (.ringReset r) s (fun t => zero t
            ∧ (t.ring r).queue = [] ∧ (t.ring r).bufs = [] ∧ (t.ring r).chain = none ∧ (t.ring r).alive = 0
            ∧ (t.ring r).doorbell = (s.ring r).doorbell ∧ (t.ring r).dropped = (s.ring r).dropped
            ∧ ((s.ring r).xfer = none → s.beam.loads = [] → (∀ q ∈ s.host.reads, ∀ n, q.use ≠ ReadUse.chain r n) → (t.ring r).slots = [])
            ∧ (∀ q, (s.ring r).xfer = none → s.beam.loads = [] → q ∈ s.host.reads → q.use = ReadUse.chain r (q.len / 64) →
                (t.ring r).slots = [⟨(s.ring r).nextId, 0, 0, true, none⟩] ∧ { q with use := ReadUse.cut r (s.ring r).nextId } ∈ t.host.reads)
            ∧ (∀ x id l, (s.ring r).xfer = some x → x.ref = CmdRef.slot r id → mine id = [l] →
                (x.busy = none → x.begun → (t.ring r).slots = [cut l x.done (x.total - x.done)] ∧ (t.ring r).xfer = none)
                ∧ (x.busy = none → x.begun = false → (t.ring r).slots = [] ∧ (t.ring r).xfer = none)
                ∧ (x.busy.isSome → (t.ring r).xfer = some { x with cut := some St.RESET } ∧ (t.ring r).slots = [{ l with head := 0 }]))
            ∧ (∀ b id l, (s.ring r).xfer = none → s.beam.loads = [b] → b.ref = CmdRef.slot r id → mine id = [l] →
                (t.ring r).slots = [cut l b.done (State.loadResidue b)] ∧ t.beam.loads = [])
            ∧ (∀ q, q ≠ r.val → t.ring q = { s.ring q with waiting := (t.ring q).waiting } ∧ (q ≠ s.ringCq r → t.ring q = s.ring q))
            ∧ t.beam.base = s.beam.base ∧ t.beam.offs = s.beam.offs
            ∧ KeepsRegs s t (fun a => a = Reg.RING_STATE r ∨ a = Reg.RING_HOST_POS r ∨ a = Reg.DMA_CH_STATUS (s.ringChannel r) ∨ a = Reg.CRC_STATUS
                ∨ a = Reg.CRC_COUNT 3 ∨ shown a)
            ∧ Only [.regs, .rings, .reads, .beam] s t))))

/-- R328, R336, R344–R346, R353–R355, R360, R364, R366: tags of host reads, fetching posted entries, LINK and chains, NOP, BUFFER, and answers to reads that failed or
came too late.
Where the spec leaves a point open this states the model's choice: log entries 105, 106, 107 and 108. -/
def Obligations.DescriptorsAndChains : Prop :=
  (∀ s : State, s.host.nextTag < 768 → s.host.reads.length + s.host.lateTags.length < 768 →
    s.newTag < 768 ∧ s.newTag ∉ s.host.lateTags ∧ ∀ q ∈ s.host.reads, q.tag ≠ s.newTag)
  ∧ (∀ (r : Ring) (n : Fin 9) (s : State),
    let can := s.ringState r = 1 ∧ s.ringType r ≠ 2 ∧ (s.ring r).fetching = false ∧ s.host.reads.length + s.host.lateTags.length < 768
      ∧ (s.hostFree ∨ s.standby) ∧ min n.val (s.host.mrrs / 64) ≠ 0 ∧ s.get (Reg.DMA_CH_STATUS (s.ringChannel r)) Fld.DMA_CH_STATUS_STATE ≠ 2
    let posted := posDiff (s.ringSize r) (s.hostPos r) (s.ring r).fetchPos
    let at_ := (s.ring r).fetchPos % 65536
    (¬ can → Completes (.descriptorFetch r n) s (fun t => t = s))
    ∧ (can → (s.ring r).chain = none → posted = 0 ∨ s.ringSize r ≤ at_ → Completes (.descriptorFetch r n) s (fun t => t = s))
    ∧ (can → (s.ring r).chain = none → 0 < posted → at_ < s.ringSize r → Completes (.descriptorFetch r n) s (fun t =>
        ∃ m, 1 ≤ m ∧ m ≤ n.val ∧ 64 * m ≤ s.host.mrrs ∧ m ≤ posted ∧ at_ + m ≤ s.ringSize r
        ∧ t.host.reads = s.host.reads ++ [⟨s.newTag, s.ringBase r + 64 * at_, 64 * m, ReadUse.entries r m, false⟩]
        ∧ t.ring r = { s.ring r with fetching := true } ∧ (∀ q, q ≠ r.val → t.ring q = s.ring q) ∧ Only [.rings, .reads] s t))
    ∧ (∀ c, can → (s.ring r).chain = some c → (∀ e ∈ (s.ring r).queue, e.chained = false) → s.inHostWin r c.addr (c.addr + 64) = false →
        Completes (.descriptorFetch r n) s (fun t => (t.ring r).chain = none
          ∧ (∃ l x, (t.ring r).slots = (s.ring r).slots ++ [l] ∧ l.head = c.nextPos ∧ l.result = some x ∧ x.status = St.BAD_BOUNDS ∧ x.tag = 0 ∧ x.chained)
          ∧ (∀ q, q ≠ r.val → t.ring q = s.ring q) ∧ Only [.rings] s t))
    ∧ (∀ c, can → (s.ring r).chain = some c → (∀ e ∈ (s.ring r).queue, e.chained = false) → s.inHostWin r c.addr (c.addr + 64) → c.addr % 64 = 0 →
        Completes (.descriptorFetch r n) s (fun t => ∃ m, 1 ≤ m ∧ m ≤ n.val ∧ 64 * m ≤ s.host.mrrs
          ∧ s.inHostWin r c.addr (c.addr + 64 * m) ∧ c.addr % 4096 + 64 * m ≤ 4096
          ∧ t.host.reads = s.host.reads ++ [⟨s.newTag, c.addr, 64 * m, ReadUse.chain r m, false⟩] ∧ t.ring r = { s.ring r with fetching := true }
          ∧ (∀ q, q ≠ r.val → t.ring q = s.ring q) ∧ Only [.rings, .reads] s t)))
  ∧ (∀ (r : Ring) (s : State) (q : HostReq) (m : Nat) (bs : List Byte), s.host.lateTags = [] → s.host.reads = [q] → q.use = ReadUse.entries r m → q.len = 64 * m →
    bs.length = 64 * m → 1 ≤ m → s.ewesen = false → (s.ring r).queue = [] → (s.ring r).chain = none → s.badStatus r (bs.take 64) = none →
    Completes (.hostReadCompletion q.tag (HostRead.data bs)) s (fun t =>
      (t.ring r).queue.map (fun (e : Entry) => e.bytes) = (List.range m).map (fun i => (bs.drop (64 * i)).take 64)
      ∧ (∀ i e, (t.ring r).queue[i]? = some e → e.chained = false ∧ e.pos = posStep (s.ringSize r) (s.ring r).fetchPos i
          ∧ e.head = posStep (s.ringSize r) (s.ring r).fetchPos (i + 1))
      ∧ (t.ring r).fetchPos = posStep (s.ringSize r) (s.ring r).fetchPos m ∧ (t.ring r).fetching = false ∧ t.host.reads = []
      ∧ (∀ x, x ≠ r.val → t.ring x = s.ring x) ∧ Only [.rings, .reads] s t))
  ∧ (∀ (tag : Nat) (a : HostRead) (s : State),
    (tag ∈ s.host.lateTags → Completes (.hostReadCompletion tag a) s (fun t =>
      t.host.lateTags = s.host.lateTags.filter (· ≠ tag) ∧ t.host.reads = s.host.reads
      ∧ t.full (Reg.DMA_COUNT 2) = min (s.full (Reg.DMA_COUNT 2) + 1) (2 ^ 32 - 1)
      ∧ KeepsRegs s t (fun x => x = Reg.DMA_COUNT 2) ∧ Only [.regs, .reads] s t))
    ∧ (tag ∉ s.host.lateTags → (∀ q ∈ s.host.reads, q.tag ≠ tag) → Completes (.hostReadCompletion tag a) s (fun t => t = s))
    ∧ (tag ∈ s.host.lateTags → Completes (.completionTimeout tag) s (fun t =>
      t.host.lateTags = s.host.lateTags.filter (· ≠ tag) ∧ t.host.reads = s.host.reads ∧ Only [.reads] s t))
    ∧ (tag ∉ s.host.lateTags → (∀ q ∈ s.host.reads, q.tag ≠ tag) → Completes (.completionTimeout tag) s (fun t => t = s)))
  ∧ (∀ (r : Ring) (s : State), (∀ e, s.nextEntry r = some e → descOpcode e.bytes ≠ 0x02 ∧ descOpcode e.bytes ≠ 0x03) ∨ s.canStart r = false →
    Completes (.link r) s (fun t => t = s) ∧ Completes (.nop r) s (fun t => t = s))
  ∧ (∀ (r : Ring) (s : State) (e : Entry), s.nextEntry r = some e → descOpcode e.bytes = 0x02 → s.badStatus r e.bytes = none → s.canStart r →
    let addr := fieldAt e.bytes 16 8
    let ends := fun st (t : State) => (t.ring r).chain = none
      ∧ (∃ l c, l ∈ (t.ring r).slots ∧ l.id = (s.ring r).nextId ∧ l.result = some c ∧ c.status = st ∧ c.tag = descTag e.bytes
        ∧ l.head = (match (s.ring r).chain with
          | some x => x.nextPos
          | none => e.head))
      ∧ (∀ q, q ≠ r.val → t.ring q = s.ring q)
    ((s.ring r).links < 4096 → addr % 64 = 0 → s.inHostWin r addr (addr + 64) → Completes (.link r) s (fun t =>
      (∃ c, (t.ring r).chain = some c ∧ c.addr = addr ∧ (match (s.ring r).chain with
        | some x => c.linkPos = x.linkPos ∧ c.nextPos = x.nextPos
        | none => c.linkPos = e.pos ∧ c.nextPos = e.head))
      ∧ (t.ring r).slots = (s.ring r).slots ∧ (t.ring r).links = (s.ring r).links + 1 ∧ (∀ x ∈ (t.ring r).queue, x.chained = false)
      ∧ (∀ q, q ≠ r.val → t.ring q = s.ring q) ∧ Only [.rings] s t))
    ∧ ((s.ring r).links < 4096 → addr % 64 ≠ 0 → Completes (.link r) s (fun t => ends St.BAD_PARAM t ∧ Only [.rings] s t))
    ∧ ((s.ring r).links < 4096 → addr % 64 = 0 → s.inHostWin r addr (addr + 64) = false → Completes (.link r) s (fun t =>
        ends St.BAD_BOUNDS t ∧ Only [.rings] s t))
    ∧ (4096 ≤ (s.ring r).links → Completes (.link r) s (fun t => ends St.RUNAWAY t ∧ t.ringState r = 3
        ∧ t.get (Reg.RING_STATE r) Fld.RING_STATE_CAUSE = 3 ∧ Counted s t Ev.RING_RUNAWAY
        ∧ t.full (Reg.DMA_COUNT 3) = min (s.full (Reg.DMA_COUNT 3) + 1) (2 ^ 32 - 1)
        ∧ KeepsRegs s t (fun a => a = Reg.RING_STATE r ∨ a = Reg.DMA_COUNT 3 ∨ EventRegs Ev.RING_RUNAWAY a) ∧ Only (([.rings] : List Part) ++ eventParts) s t)))
  ∧ (∀ (r : Ring) (s : State) (e : Entry), s.nextEntry r = some e → descOpcode e.bytes = 0x03 → s.badStatus r e.bytes = none → s.canStart r →
    (e.chained = false ∨ descChainEnd e.bytes → Completes (.nop r) s (fun t =>
      (∃ l c, l ∈ (t.ring r).slots ∧ l.id = (s.ring r).nextId ∧ l.result = some c ∧ c.status = 0 ∧ c.tag = descTag e.bytes ∧ c.chained = e.chained)
      ∧ (e.chained → (t.ring r).chain = none) ∧ (∀ q, q ≠ r.val → t.ring q = s.ring q) ∧ Only [.rings] s t))
    ∧ (e.chained → descChainEnd e.bytes = false → (s.ring r).queue = [e] → Completes (.nop r) s (fun t =>
        (t.ring r).slots = (s.ring r).slots ∧ (t.ring r).queue = [] ∧ (t.ring r).chain = (s.ring r).chain ∧ (t.ring r).links = 0
        ∧ (∀ q, q ≠ r.val → t.ring q = s.ring q) ∧ Only [.rings] s t)))
  ∧ (∀ (r : Ring) (s s1 : State) (ref : CmdRef) (d : List Byte) (q : Nat), s.take (.ring r) 0x05 = some (ref, d, q, s1) →
    let a := fieldAt d 16 8
    let n := fieldAt d 24 4
    let fits := 64 ≤ n ∧ n ≤ 16777216 ∧ n % 8 = 0
    let kept := fun (t : State) => (∀ q, q ≠ r.val → t.ring q = s.ring q) ∧ Only [.rings] s t
    (¬ fits → Completes (.buffer r) s (fun t => Answered t ref (fun c => c.status = St.BAD_LENGTH) ∧ kept t))
    ∧ (fits → s.inHostWin r a (a + n) = false → Completes (.buffer r) s (fun t => Answered t ref (fun c => c.status = St.BAD_BOUNDS) ∧ kept t))
    ∧ (fits → s.inHostWin r a (a + n) → Completes (.buffer r) s (fun t =>
        (t.ring r).bufs = (s.ring r).bufs ++ [⟨(s.ring r).nextId, a, n⟩] ∧ kept t)))

/-- R347, R348: a pattern's extent holds every byte of its transfer, so a COPY that passes its checks touches no byte outside its ring's
windows; one that fails completes with the first failing check's status and moves nothing. -/
def Obligations.CopiesStayInTheirWindows : Prop :=
  (∀ (p : Pattern) (len m : Nat), m < len → p.line ≤ 2 ^ 24 → 0 ≤ (p.extent len).1 →
    (p.extent len).1 ≤ p.addr m ∧ (p.addr m : Int) < (p.extent len).2)
  ∧ (∀ (s : State) (r m : Nat) (d : List Byte), s.copyCheck r d = none → m < fieldAt d 4 4 →
    ∀ p, p = srcPattern d ∨ p = dstPattern d →
      if p.hbm then s.inDevWin r (p.addr m) (p.addr m + 1) ∧ p.addr m < 2 ^ 40 else s.inHostWin r (p.addr m) (p.addr m + 1) ∧ p.addr m < 2 ^ 64)
  ∧ (∀ (r : Ring) (s s1 : State) (ref : CmdRef) (d : List Byte) (q : Nat), s.take (.ring r) 0x01 = some (ref, d, q, s1) →
    let len := fieldAt d 4 4
    let a := srcPattern d
    let b := dstPattern d
    let kept := fun (t : State) => (∀ q, q ≠ r.val → t.ring q = s.ring q)
    (len = 0 → Completes (.copy r) s (fun t => Answered t ref (fun c => c.status = St.BAD_LENGTH) ∧ kept t ∧ Only [.rings] s t))
    ∧ (len ≠ 0 → s.ewesen = false → 2 ^ 24 < a.line ∨ 2 ^ 24 < b.line ∨ 2 ^ 20 < a.lines len ∨ 2 ^ 20 < b.lines len →
        Completes (.copy r) s (fun t => Answered t ref (fun c => c.status = St.BAD_PATTERN) ∧ kept t ∧ Only [.rings] s t))
    ∧ (len ≠ 0 → s.ewesen = false → a.line ≤ 2 ^ 24 → b.line ≤ 2 ^ 24 → a.lines len ≤ 2 ^ 20 → b.lines len ≤ 2 ^ 20 →
        s.patternFits r len a = false ∨ s.patternFits r len b = false →
        Completes (.copy r) s (fun t => Answered t ref (fun c => c.status = St.BAD_BOUNDS) ∧ kept t ∧ Only [.rings] s t))
    ∧ (s.copyCheck r d = none → Completes (.copy r) s (fun t =>
        (∃ x, (t.ring r).xfer = some x ∧ x.ref = ref ∧ x.desc = d ∧ x.scan = false ∧ x.total = len ∧ x.done = 0 ∧ x.begun = false ∧ x.busy = none ∧ x.cut = none)
        ∧ kept t ∧ KeepsRegs s t (fun a => a = Reg.DMA_CH_STATUS (s.ringChannel r)) ∧ Only [.regs, .rings] s t)))

/-- R349, R350, R362–R367: one burst of a transfer moves at most 4 KiB from its source to its destination and no other byte, or reads the host;
the last one completes the descriptor; data, errors and time-outs of a host read end or continue it; an abort ends what is under way and
pauses the channel.
Where the spec leaves a point open this states the model's choice: log entries 110, 111, 115 and 227. -/
def Obligations.TransfersAndAborts : Prop :=
  (∀ (c : DmaCh) (dt : Nat) (s : State), s.get (Reg.DMA_CH_STATUS c) Fld.DMA_CH_STATUS_STATE = 2 ∨
      (∀ x ∈ s.host.rings, ∀ t, x.2.xfer = some t → s.ringChannel x.1 ≠ c.val ∨ t.busy.isSome ∨ s.ringState x.1 = 3) →
    Completes (.dmaBurst c dt) s (fun t =>
      (t.chan c).tokens = min (max 1 (s.get (Reg.DMA_CH_CFG c) Fld.DMA_CH_CFG_BURST) * 4096 * 1024)
        ((s.chan c).tokens + dt * 96 * max 1 (s.get (Reg.DMA_CH_CFG c) Fld.DMA_CH_CFG_RATE)) ∧ Only [.channels] s t))
  ∧ (∀ (c : DmaCh) (dt : Nat) (s : State) (r : Ring) (x : Xfer), s.get (Reg.DMA_CH_STATUS c) Fld.DMA_CH_STATUS_STATE ≠ 2 →
    s.nextXfer c = some (r.val, x) → (s.ring r).xfer = some x → s.ringChannel r = c.val → x.scan = false → x.short = false → x.cut = none → x.done < x.total →
    (s.chan c).aborting = [] → (s.chan c).abortOpen = false → x.total = fieldAt x.desc 4 4 → s.copyCheck r x.desc = none → 64 ≤ s.host.mrrs →
    let a := srcPattern x.desc
    let b := dstPattern x.desc
    let n := s.burstLen x
    let rate := s.get (Reg.DMA_CH_CFG c) Fld.DMA_CH_CFG_RATE
    let bucket := min (max 1 (s.get (Reg.DMA_CH_CFG c) Fld.DMA_CH_CFG_BURST) * 4096 * 1024) ((s.chan c).tokens + dt * 96 * max 1 rate)
    let ready := 1024 ≤ rate ∨ n * 1024 ≤ bucket
    let clean := a.addr x.done + n ≤ State.hbmSize
      ∧ ∀ p ∈ s.poison, p * 32 + 32 ≤ a.addr x.done / 64 * 64 ∨ (a.addr x.done + n + 63) / 64 * 64 ≤ p * 32
    1 ≤ n ∧ n ≤ 4096 ∧ x.done + n ≤ x.total
    ∧ (∀ i < n, a.addr (x.done + i) = a.addr x.done + i ∧ b.addr (x.done + i) = b.addr x.done + i)
    ∧ (a.hbm → b.hbm → ready → clean → b.addr x.done + n ≤ State.hbmSize →
        (∀ p ∈ s.poison, p * 32 + 32 ≤ b.addr x.done ∨ b.addr x.done + n ≤ p * 32) →
        Completes (.dmaBurst c dt) s (fun t =>
          t.hbmRead (b.addr x.done) n = s.hbmRead (a.addr x.done) n ∧ KeepsHbmBut s t (b.addr x.done) n
          ∧ (x.done + n < x.total → (t.ring r).xfer = some { x with done := x.done + n, begun := true })
          ∧ (x.done + n = x.total → Awaits s x.ref → (t.ring r).xfer = none ∧ Answered t x.ref (fun c => c.status = 0 ∧ c.count = x.total ∧ c.residue = 0))
          ∧ (t.chan c).tokens = (if rate < 1024 then bucket - n * 1024 else bucket) ∧ t.poison = s.poison
          ∧ KeepsRegs s t (fun y => y = Reg.DMA_CH_STATUS c ∨ AnswerRegs s (CmdSrc.almanac 0) y)
          ∧ Only [.regs, .rings, .channels, .hbm, .mem, .firings] s t))
    ∧ (a.hbm → b.hbm = false → ready → clean → s.hostFree → s.standby = false → x.done + n < x.total → Completes (.dmaBurst c dt) s (fun t =>
        t.out.host = s.out.host ++ (State.hostPieces s.host.mps (n / s.host.mps + 1) (b.addr x.done) (s.hbmRead (a.addr x.done) n)).map
          (fun (w : Nat × List Byte) => (⟨w.1, w.2, s.dataRo⟩ : HostWrite))
        ∧ (t.ring r).xfer = some { x with done := x.done + n, begun := true } ∧ Only [.rings, .channels, .outHost] s t))
    ∧ (a.hbm = false → ready → (s.hostFree ∨ s.standby) → s.host.reads.length + s.host.lateTags.length < 768 → Completes (.dmaBurst c dt) s (fun t =>
        let first := a.addr x.done / 64 * 64
        let len := (a.addr x.done + n + 63) / 64 * 64 - first
        (s.host.mrrs % 64 = 0 → len ≤ s.host.mrrs) ∧ first % 4096 + len ≤ 4096
        ∧ t.host.reads = s.host.reads ++ [⟨s.newTag, first, len, ReadUse.burst r n, s.dataRo⟩]
        ∧ (t.ring r).xfer = some { x with begun := true, busy := some s.newTag } ∧ Only [.rings, .channels, .reads] s t))
    ∧ (¬ ready → Completes (.dmaBurst c dt) s (fun t => Only [.channels] s t)))
  ∧ (∀ (s : State) (q : HostReq) (r : Ring) (x : Xfer) (n : Nat) (bs : List Byte), s.host.reads = [q] → s.host.lateTags = [] → q.use = ReadUse.burst r n → (srcPattern x.desc).addr x.done % 64 + n ≤ q.len →
    (s.ring r).xfer = some x → x.busy = some q.tag → x.scan = false → x.cut = none → (s.chan (s.ringChannel r)).abortOpen = false →
    r.val ∉ (s.chan (s.ringChannel r)).aborting →
    let b := dstPattern x.desc
    let ends := fun st (t : State) => (t.ring r).xfer = none ∧ Answered t x.ref (fun c => c.status = st ∧ c.count = x.done ∧ c.residue = x.total - x.done)
      ∧ KeepsHbm s t ∧ t.out.host = s.out.host
    (b.hbm → bs.length = q.len → b.addr x.done + n ≤ State.hbmSize → s.poison = [] → x.done + n < x.total → Completes (.hostReadCompletion q.tag (HostRead.data bs)) s (fun t =>
      t.hbmRead (b.addr x.done) n = (bs.drop ((srcPattern x.desc).addr x.done % 64)).take n ∧ KeepsHbmBut s t (b.addr x.done) n ∧ t.host.reads = []
      ∧ (t.ring r).xfer = some { x with done := x.done + n, busy := none } ∧ (∀ y, y ≠ r.val → t.ring y = s.ring y) ∧ Only [.rings, .reads, .hbm, .mem] s t))
    ∧ (Awaits s x.ref → Completes (.hostReadCompletion q.tag HostRead.bus) s (fun t => ends St.BAD_BUS t ∧ Counted s t Ev.DMA_BUS
        ∧ t.full (Reg.DMA_COUNT 1) = min (s.full (Reg.DMA_COUNT 1) + 1) (2 ^ 32 - 1)
        ∧ Only (([.rings, .reads, .firings] : List Part) ++ eventParts) s t))
    ∧ (Awaits s x.ref → Completes (.completionTimeout q.tag) s (fun t => ends St.BAD_TIMEOUT t ∧ Counted s t Ev.DMA_TIMEOUT
        ∧ t.full (Reg.DMA_COUNT 0) = min (s.full (Reg.DMA_COUNT 0) + 1) (2 ^ 32 - 1) ∧ t.host.lateTags = [q.tag] ∧ t.host.reads = []
        ∧ Only (([.rings, .reads, .firings] : List Part) ++ eventParts) s t)))
  ∧ (∀ (c : DmaCh) (s : State), s.served = false ∨ (s.chan c).abortOpen → Completes (.dmaChAbort c) s (fun t => t = s))
  ∧ (∀ (c : DmaCh) (s : State), s.served → (s.chan c).abortOpen = false → s.beam.blocks = [] → s.beam.swaps = [] → s.beam.loads = [] →
    (∀ x ∈ s.host.rings, s.ringChannel x.1 = c.val → x.2.cur = none ∧ ∀ t, x.2.xfer = some t → t.begun = false) →
    Completes (.dmaChAbort c) s (fun t => t.get (Reg.DMA_CH_STATUS c) Fld.DMA_CH_STATUS_STATE = 2 ∧ t.full (Reg.DMA_CH_RESIDUE c) = 0
      ∧ Counted s t Ev.DMA_ABORT ∧ t.full (Reg.DMA_COUNT 4) = min (s.full (Reg.DMA_COUNT 4) + 1) (2 ^ 32 - 1) ∧ (∀ r, t.ring r = s.ring r)
      ∧ KeepsRegs s t (fun a => a = Reg.DMA_CH_STATUS c ∨ a = Reg.DMA_CH_RESIDUE c ∨ a = Reg.DMA_COUNT 4 ∨ EventRegs Ev.DMA_ABORT a
        ∨ (∃ b < 16, a = Reg.BEAM_BANK b) ∨ a = Reg.BEAM_STATUS)
      ∧ Only (([.channels] : List Part) ++ eventParts) s t))
  ∧ (∀ (c : DmaCh) (s : State) (r : Ring) (x : Xfer), s.served → (s.chan c).abortOpen = false →
    s.beam.blocks = [] → s.beam.swaps = [] → s.beam.loads = [] → s.host.rings = [(r.val, { s.ring r with xfer := some x })] →
    (s.ring r).xfer = some x → s.ringChannel r = c.val → (s.ring r).cur = none → x.begun → x.busy = none → x.scan = false → Awaits s x.ref → x.total - x.done < 2 ^ 32 →
    Completes (.dmaChAbort c) s (fun t => t.get (Reg.DMA_CH_STATUS c) Fld.DMA_CH_STATUS_STATE = 2 ∧ (t.ring r).xfer = none
      ∧ Answered t x.ref (fun k => k.status = St.ABORTED ∧ k.cut ∧ k.count = x.done ∧ k.residue = x.total - x.done)
      ∧ t.full (Reg.DMA_CH_RESIDUE c) = x.total - x.done ∧ Counted s t Ev.DMA_ABORT
      ∧ t.full (Reg.DMA_COUNT 4) = min (s.full (Reg.DMA_COUNT 4) + 1) (2 ^ 32 - 1) ∧ Only (([.rings, .channels, .firings] : List Part) ++ eventParts) s t))
  ∧ (∀ (c : DmaCh) (s : State) (r : Ring) (p : Nat) (bs : List Byte), s.served → (s.chan c).abortOpen = false →
    s.beam.blocks = [] → s.beam.swaps = [] → s.beam.loads = [] → s.host.rings = [(r.val, s.ring r)] →
    (s.ring r).xfer = none → s.ringChannel r = c.val → (s.ring r).cur = some (p, bs) → bs.length < 2 ^ 32 →
    Completes (.dmaChAbort c) s (fun t => t.get (Reg.DMA_CH_STATUS c) Fld.DMA_CH_STATUS_STATE = 2 ∧ (t.ring r).cur = none
      ∧ (∃ l k, (t.ring r).slots = (s.ring r).slots ++ [l] ∧ l.result = some k ∧ k.status = St.ABORTED ∧ k.cut ∧ k.last ∧ k.residue = bs.length
        ∧ k.aux = p + (s.ring r).dropped * 2 ^ 16)
      ∧ t.full (Reg.DMA_CH_RESIDUE c) = bs.length ∧ Counted s t Ev.DMA_ABORT
      ∧ t.full (Reg.DMA_COUNT 4) = min (s.full (Reg.DMA_COUNT 4) + 1) (2 ^ 32 - 1) ∧ Only (([.rings, .channels] : List Part) ++ eventParts) s t))
  ∧ (∀ (c : DmaCh) (s : State) (b : BeamLoad), s.served → (s.chan c).abortOpen = false → s.beam.blocks = [] → s.beam.swaps = [] → s.beam.loads = [b] →
    s.ringChannel b.ring = c.val → Awaits s b.ref → 8 * (b.count - b.done) < 2 ^ 32 →
    (∀ x ∈ s.host.rings, s.ringChannel x.1 = c.val → x.2.cur = none ∧ ∀ t, x.2.xfer = some t → t.begun = false) →
    Completes (.dmaChAbort c) s (fun t => t.get (Reg.DMA_CH_STATUS c) Fld.DMA_CH_STATUS_STATE = 2 ∧ t.beam.loads = []
      ∧ Answered t b.ref (fun k => k.status = St.ABORTED ∧ k.cut ∧ k.count = b.done ∧ k.residue = 8 * (b.count - b.done))
      ∧ t.beam.base = s.beam.base ∧ t.beam.offs = s.beam.offs ∧ t.full (Reg.DMA_CH_RESIDUE c) = 8 * (b.count - b.done)
      ∧ Counted s t Ev.DMA_ABORT ∧ Only (([.rings, .channels, .firings, .beam] : List Part) ++ eventParts) s t))
  ∧ (∀ (c : DmaCh) (s : State),
    (s.served → s.get (Reg.DMA_CH_STATUS c) Fld.DMA_CH_STATUS_STATE = 2 → Completes (.dmaChResume c) s (fun t =>
      t.get (Reg.DMA_CH_STATUS c) Fld.DMA_CH_STATUS_STATE = (if ∃ x ∈ s.host.rings, x.2.xfer.isSome ∧ s.ringChannel x.1 = c.val then 1 else 0)
      ∧ (∀ q, (s.ringChannel q ≠ c.val ∨ ∀ e, (s.ring q).queue.head? = some e → s.badStatus q e.bytes = none) → t.ring q = s.ring q)
      ∧ KeepsRegs s t (fun a => a = Reg.DMA_CH_STATUS c) ∧ Only [.regs, .rings] s t))
    ∧ (s.served = false ∨ s.get (Reg.DMA_CH_STATUS c) Fld.DMA_CH_STATUS_STATE ≠ 2 → Completes (.dmaChResume c) s (fun t => t = s)))

/-- R331, R332, R356, R358–R361, R368, R526, R528: the oldest finished record of a ring is written to its completion ring, or waits for room; a
message is written into posted buffers, waits, or is dropped whole; and the host port's link and configuration.
Where the spec leaves a point open this states the model's choice: log entries 109 and 114. -/
def Obligations.RecordsAndDelivery : Prop :=
  (∀ (r : Ring) (s : State), (∀ l, (s.ring r).slots.head? = some l → l.result = none) → Completes (.completionRecordWrite r) s (fun t => t = s))
  ∧ (∀ (r : Ring) (s : State) (l : RecSlot) (rest : List RecSlot) (c : CplRec), (s.ring r).slots = l :: rest → l.result = some c →
    let q := s.ringCq r
    let size := s.ringSize q
    let p := s.devPos q
    let room := s.ringState q = 1 ∧ posDiff size p (s.hostPos q) < size
    let bytes := recordBytes r l.head (1 - p / 65536 % 2) c
    let place := s.ringBase q + p % 65536 * 32
    (room → s.hostFree → s.standby = false → q ≠ r.val → (s.ring q).armed = false → Completes (.completionRecordWrite r) s (fun t =>
      t.out.host = s.out.host ++ [⟨place, bytes, false⟩] ∧ t.devPos q = posNext size p % 2 ^ 17 ∧ t.devPos r = l.head % 2 ^ 17
      ∧ ((t.ring r).slots.map (·.id)).take rest.length = rest.map (·.id) ∧ (t.ring q).waiting = false ∧ (∀ x, x ≠ q → x ≠ r.val → t.ring x = s.ring x)
      ∧ KeepsRegs s t (fun a => a = Reg.RING_STATE q ∨ a = Reg.RING_STATE r) ∧ Only [.regs, .rings, .outHost] s t))
    ∧ (room → s.hostFree → s.standby = false → q ≠ r.val → (s.ring q).armed → s.get (Reg.RING_CQ q) Fld.RING_CQ_COUNT ≠ 0 →
        s.get (Reg.RING_CQ q) Fld.RING_CQ_COUNT = (s.ring q).since + 1 → bitAt (s.vector (s.get (Reg.RING_CQ q) Fld.RING_CQ_VECTOR)).2.2 0 = false →
        Completes (.completionRecordWrite r) s (fun t => t.out.host = s.out.host ++ [⟨place, bytes, false⟩]
          ∧ t.out.msix = s.out.msix ++ [s.get (Reg.RING_CQ q) Fld.RING_CQ_VECTOR] ∧ (t.ring q).armed = false ∧ (t.ring q).since = 0
          ∧ Only [.regs, .rings, .outHost, .outMsix] s t))
    ∧ (room → s.standby → Completes (.completionRecordWrite r) s (fun t => t.out.host = s.out.host
        ∧ t.heldWrites = s.heldWrites ++ [⟨q, posNext size p, place, bytes, false⟩] ∧ (q ≠ r.val → (t.ring q).armed = (s.ring q).armed) ∧ Only [.regs, .rings, .heldWrites] s t))
    ∧ (room → s.hostFree = false → s.standby = false → Completes (.completionRecordWrite r) s (fun t => t = s))
    ∧ (¬ room → (s.ring q).waiting = false → Completes (.completionRecordWrite r) s (fun t =>
        t.ring q = { s.ring q with waiting := true } ∧ (∀ x, x ≠ q → t.ring x = s.ring x) ∧ Counted s t Ev.RING_CQ_FULL
        ∧ KeepsRegs s t (EventRegs Ev.RING_CQ_FULL) ∧ Only (([.rings] : List Part) ++ eventParts) s t))
    ∧ (¬ room → (s.ring q).waiting → Completes (.completionRecordWrite r) s (fun t => t = s)))
  ∧ (∀ (r head phase : Nat) (c : CplRec), r < 16384 → head < 2 ^ 17 → phase < 2 → c.tag < 2 ^ 64 → c.status < 2 ^ 16 → c.aux < 2 ^ 64 →
    let b := recordBytes r head phase c
    b.length = 32 ∧ fieldAt b 0 8 = c.tag ∧ fieldAt b 8 2 = r ∧ fieldAt b 10 2 = head % 65536 ∧ fieldAt b 12 2 = c.status
    ∧ (bitAt (byteAt b 14) 0 = c.late ∧ bitAt (byteAt b 14) 1 = c.cut ∧ bitAt (byteAt b 14) 2 = c.first ∧ bitAt (byteAt b 14) 3 = c.last
      ∧ bitAt (byteAt b 14) 4 = c.chained)
    ∧ byteAt b 15 = phase + 2 * (head / 65536) ∧ fieldAt b 16 4 = min c.count (2 ^ 32 - 1) ∧ fieldAt b 20 4 = min c.residue (2 ^ 32 - 1)
    ∧ fieldAt b 24 8 = c.aux)
  ∧ (∀ (mps a : Nat) (bs : List Byte), 0 < mps →
    let l := State.hostPieces mps (bs.length / mps + 1) a bs
    l.flatMap (fun w => w.2) = bs ∧ (∀ w ∈ l, a ≤ w.1 ∧ w.1 % mps + w.2.length ≤ mps)
    ∧ ∀ i w, l[i]? = some w → w.1 = a + ((l.take i).map (fun (v : Nat × List Byte) => v.2.length)).sum)
  ∧ (∀ (r : Ring) (s : State) (p : Nat) (bs : List Byte) (b : PostedBuf) (bufs : List PostedBuf), (s.ring r).cur = some (p, bs) → s.ringState r = 1 →
    s.get (Reg.DMA_CH_STATUS (s.ringChannel r)) Fld.DMA_CH_STATUS_STATE ≠ 2 → s.hostFree → s.standby = false → (s.ring r).bufs = b :: bufs →
    bs.length ≤ b.len → (∃ l ∈ (s.ring r).slots, l.id = b.slot) → Completes (.deliveryMessage r) s (fun t =>
      t.out.host = s.out.host ++ (State.hostPieces s.host.mps (bs.length / s.host.mps + 1) b.addr bs).map
        (fun (w : Nat × List Byte) => (⟨w.1, w.2, s.dataRo⟩ : HostWrite))
      ∧ (t.ring r).cur = none ∧ (t.ring r).bufs = bufs ∧ (t.ring r).msgs = (s.ring r).msgs
      ∧ (∃ x ∈ (t.ring r).slots, x.id = b.slot ∧ ∃ c, x.result = some c ∧ c.status = 0 ∧ c.first = false ∧ c.last ∧ c.count = bs.length)
      ∧ (∀ q, q ≠ r.val → t.ring q = s.ring q) ∧ Only [.rings, .outHost] s t))
  ∧ (∀ (r : Ring) (s : State) (m : Msg) (rest : List Msg), (s.ring r).msgs = m :: rest → (s.ring r).cur = none →
    let running := s.ringState r = 1 ∧ s.get (Reg.DMA_CH_STATUS (s.ringChannel r)) Fld.DMA_CH_STATUS_STATE ≠ 2 ∧ s.hostFree ∧ s.standby = false
    let dropped := fun (t : State) => (t.ring r).msgs = rest
      ∧ t.get (Reg.RING_COUNT r) Fld.RING_COUNT_DROPS = min (s.get (Reg.RING_COUNT r) Fld.RING_COUNT_DROPS + 1) 65535
      ∧ t.out.host = s.out.host ∧ (∀ q, q ≠ r.val → t.ring q = s.ring q) ∧ Only [.regs, .rings] s t
    (s.ringState r = 0 ∨ s.ringState r = 3 → m.full = NoBuffer.waits ∨ m.full = NoBuffer.drops → Completes (.deliveryMessage r) s dropped)
    ∧ (running → (s.ring r).bufs = [] → m.full = NoBuffer.waits → (∀ x ∈ rest, x.full = NoBuffer.waits ∨ x.full = NoBuffer.drops) →
        Completes (.deliveryMessage r) s (fun t =>
          let lost := (rest.filter (fun (x : Msg) => x.full == NoBuffer.drops)).length
          (t.ring r).msgs = m :: rest.filter (fun (x : Msg) => x.full == NoBuffer.waits)
          ∧ t.get (Reg.RING_COUNT r) Fld.RING_COUNT_DROPS = min (s.get (Reg.RING_COUNT r) Fld.RING_COUNT_DROPS + lost) 65535
          ∧ (t.ring r).dropped = (if lost = 0 then (s.ring r).dropped else min ((s.ring r).dropped + lost) 65535)
          ∧ KeepsFields s t (Reg.RING_COUNT r) [Fld.RING_COUNT_DROPS] ∧ KeepsRegs s t (fun a => a = Reg.RING_COUNT r)
          ∧ (∀ q, q ≠ r.val → t.ring q = s.ring q) ∧ Only [.regs, .rings] s t))
    ∧ (running → m.full = NoBuffer.drops → (State.bufsFor m.bytes.length (s.ring r).bufs = false ∨ (s.ring r).bufs = [] ∨ s.cqRoom (s.ringCq r) = false) →
        Completes (.deliveryMessage r) s dropped)
    ∧ (∀ b bufs l, running → (s.ring r).bufs = b :: bufs → m.bytes.length ≤ b.len → 1 ≤ m.bytes.length → (m.full = NoBuffer.waits ∨ s.cqRoom (s.ringCq r)) →
        (s.ring r).slots.find? (fun l => l.id == b.slot) = some l → (State.sealed m (s.ring r).alive).length = m.bytes.length →
        Completes (.deliveryMessage r) s (fun t =>
          let bytes := State.sealed m (s.ring r).alive
          t.out.host = s.out.host ++ (State.hostPieces s.host.mps (bytes.length / s.host.mps + 1) b.addr bytes).map
            (fun (w : Nat × List Byte) => (⟨w.1, w.2, s.dataRo⟩ : HostWrite)) ∧ (t.ring r).msgs = rest ∧ (t.ring r).bufs = bufs
          ∧ (t.ring r).alive = ((s.ring r).alive + b2n m.alive.isSome) % 256
          ∧ (∃ x ∈ (t.ring r).slots, x.id = b.slot ∧ ∃ c, x.result = some c ∧ c.status = 0 ∧ c.first ∧ c.last ∧ c.count = m.bytes.length
              ∧ c.aux = m.producer + (s.ring r).dropped * 2 ^ 16)
          ∧ (∀ q, q ≠ r.val → t.ring q = s.ring q) ∧ Only [.rings, .outHost] s t)))
  ∧ (∀ (r : Ring) (s : State), (s.ring r).msgs = [] → (s.ring r).cur = none → Completes (.deliveryMessage r) s (fun t => t = s))
  ∧ (∀ (sp : Fin 6) (w : Fin 17) (s : State), s.pcieReady → 1 ≤ sp.val → w.val ∈ [1, 2, 4, 8, 16] → Completes (.pcieLinkUp sp w) s (fun t =>
      t.get Reg.DMA_PCIE_STATUS Fld.DMA_PCIE_STATUS_SPEED = sp.val ∧ t.get Reg.DMA_PCIE_STATUS Fld.DMA_PCIE_STATUS_WIDTH = w.val
      ∧ t.flag Reg.DMA_PCIE_STATUS Fld.DMA_PCIE_STATUS_LINK_UP
      ∧ t.get Reg.DMA_PCIE_STATUS Fld.DMA_PCIE_STATUS_BUS_MASTER = s.get Reg.DMA_PCIE_STATUS Fld.DMA_PCIE_STATUS_BUS_MASTER
      ∧ KeepsRegs s t (fun a => a = Reg.DMA_PCIE_STATUS) ∧ Only [.regs] s t))
  ∧ (∀ (sp : Fin 6) (w : Fin 17) (s : State), s.pcieReady = false ∨ sp.val = 0 ∨ w.val ∉ [1, 2, 4, 8, 16] → Completes (.pcieLinkUp sp w) s (fun t => t = s))
  ∧ (∀ (bm ro d3 : Bool) (p q : Fin 8) (s : State),
    (s.flag Reg.DMA_PCIE_STATUS Fld.DMA_PCIE_STATUS_LINK_UP = false → Completes (.pcieConfigWrite bm ro d3 p q) s (fun t => t = s))
    ∧ (s.flag Reg.DMA_PCIE_STATUS Fld.DMA_PCIE_STATUS_LINK_UP → Completes (.pcieConfigWrite bm ro d3 p q) s (fun t =>
        t.host.mps = min 512 (128 * 2 ^ p.val) ∧ t.host.mrrs = min 4096 (128 * 2 ^ q.val) ∧ t.host.relaxed = ro ∧ t.host.d3hot = d3
        ∧ t.flag Reg.DMA_PCIE_STATUS Fld.DMA_PCIE_STATUS_BUS_MASTER = bm ∧ t.flag Reg.DMA_PCIE_STATUS Fld.DMA_PCIE_STATUS_LINK_UP
        ∧ (∀ v, s.host.pba = [v] → s.heldWrites = [] → bm → d3 = false → s.flag Reg.EVT_WEDGE Fld.EVT_WEDGE_WEDGED = false → s.standby = false → s.stopped = false →
            bitAt (s.vector v).2.2 0 = false → t.host.pba = [] ∧ t.out.msix = s.out.msix ++ [v])
        ∧ (bm → d3 = false → s.flag Reg.EVT_WEDGE Fld.EVT_WEDGE_WEDGED = false → s.standby = false → s.stopped = false → t.heldWrites = []
            ∧ t.out.host = s.out.host ++ s.heldWrites.map (fun (w : HeldWrite) => (⟨w.addr, w.bytes, w.ro⟩ : HostWrite)))
        ∧ (s.heldWrites = [] → Only [.regs, .pcie, .pba, .outMsix] s t)
        ∧ KeepsRegs s t (fun a => a = Reg.DMA_PCIE_STATUS) ∧ Only [.regs, .pcie, .pba, .outMsix, .rings, .heldWrites, .outHost] s t)))

/-- R22, R370, R371: the address map. Every HBM address has a pseudo-channel, a bank, a row and a byte in the page within the numbers of R369; no
two addresses share a place; the bytes of a 256-byte block lie in one page; an aligned run of 49,152 bytes touches each of the 192 pseudo-channels
with exactly one of its blocks; and the worked example.
Where the spec leaves a point open this states the model's choice: log entry 119. -/
def Obligations.HbmAddressMap : Prop :=
  (∀ a, a < State.hbmSize → (hbmMap a).pc < 192 ∧ (hbmMap a).bank < 48 ∧ (hbmMap a).row < 24576 ∧ (hbmMap a).col < 1024)
  ∧ (∀ a b, a < State.hbmSize → b < State.hbmSize → hbmMap a = hbmMap b → a = b)
  ∧ (∀ x i, i < 256 → hbmMap (256 * x + i) = { hbmMap (256 * x) with col := (hbmMap (256 * x)).col + i })
  ∧ (∀ run pc, pc < 192 → ∃ i < 192, (hbmMap (49152 * run + 256 * i)).pc = pc
      ∧ ∀ j < 192, (hbmMap (49152 * run + 256 * j)).pc = pc → j = i)
  ∧ hbmMap 0x1234567890 = ⟨18, 8, 8285, 144⟩ ∧ (hbmMap 0x1234567900).pc = 50

/-- R373–R388: a pseudo-channel's command slot, its parts, refresh, read data, check bits, temperature and scrub. The slot chooses by the rule of
R375 for every content of the queues; a part that is a write has its effect on the bytes with its strobes; read data answers its reader, poison
where it stands. (A unit that is the active one of a twin pair also judges a failure: TwinYieldCauses.)
Where the spec leaves a point open this states the model's choice: log entries 120, 121, 122, 123, 124, 223 and 224. -/
def Obligations.MemoryController : Prop :=
  let alone := fun (s : State) => ¬ (s.twinOn ∧ s.role = 1)
  let up := fun (s t : State) a n => t.full a = min (s.full a + n) (2 ^ 32 - 1)
  let ue := fun (s t : State) (burst port : Nat) (w : Bool) =>
    t.get Reg.HBM_UE_INFO Fld.HBM_UE_INFO_PC = (hbmMap (32 * burst)).pc ∧ t.get Reg.HBM_UE_INFO Fld.HBM_UE_INFO_PORT = port
    ∧ t.flag Reg.HBM_UE_INFO Fld.HBM_UE_INFO_WRITE = w ∧ t.flag Reg.HBM_UE_INFO Fld.HBM_UE_INFO_VALID
    ∧ t.full Reg.HBM_UE_ADDR_LO = 32 * burst % 2 ^ 32 ∧ t.full Reg.HBM_UE_ADDR_HI = 32 * burst / 2 ^ 32 % 2 ^ 32 ∧ Counted s t Ev.HBM_UE
  let ueRegs := fun a => a = Reg.HBM_UE_INFO ∨ a = Reg.HBM_UE_ADDR_LO ∨ a = Reg.HBM_UE_ADDR_HI ∨ EventRegs Ev.HBM_UE a
  let slotRegs := fun a => (∃ p < 8, a = Reg.HBM_PORT_LATE p ∨ a = Reg.HBM_PORT_MAXLAT p) ∨ a = Reg.HBM_COUNT 3 ∨ a = Reg.HBM_COUNT 4
  (∀ (pc : Fin 192) (elapsed : Nat) (s : State), (s.pcSt pc).waiting = [] →
    let x := s.pcSt pc
    let older := fun (q : Queued) => { q with age := q.age + elapsed }
    let aged := fun (q : Queued) => { older q with late := q.late || s.urgency (older q) == 3 }
    let rq := x.rq.map aged
    let wq := x.wq.map aged
    let urgent := fun (l : List Queued) => ∃ q ∈ l, s.urgency q = 3
    let drain0 := x.drain = true ∨ 48 ≤ wq.length ∨ urgent wq
    let drain := drain0 ∧ ¬ (wq.length ≤ 16 ∧ ¬ urgent wq)
    let hit := fun q => State.rowHit x q = true
    let reads := fun (q : Queued) => (partialBursts q.part).filter (fun b => !s.poison.contains b)
    Completes (.hbmCommandSlot pc elapsed []) s (fun t =>
      let y := t.pcSt pc
      y.waiting = [] ∧ (∀ p < 192, p ≠ pc.val → t.pcSt p = s.pcSt p)
      ∧ (∀ p : Fin 8, up s t (Reg.HBM_PORT_LATE p) ((x.rq ++ x.wq).filter (fun q => q.part.port == p && !q.late && s.urgency (older q) == 3)).length)
      ∧ (∀ b n, x.due.find? (fun d => decide (8 ≤ d.2)) = some (b, n) → y.rq = rq ∧ y.wq = wq ∧ y.issued = x.issued.map older
          ∧ (mapFind y.due b).getD 0 = (mapFind x.due b).getD 0 - 1 ∧ (∀ c, c ≠ b → mapFind y.due c = mapFind x.due c) ∧ mapFind y.rows b = none)
      ∧ ((∀ d ∈ x.due, d.2 < 8) → (y.drain = true ↔ drain) ∧
          ∀ cand, (drain → urgent rq → cand = rq.filter (fun q => s.urgency q == 3)) → (drain → ¬ urgent rq → cand = wq) → (¬ drain → rq ≠ [] → cand = rq) →
            (¬ drain → rq = [] → cand = wq) →
            (cand ≠ [] → y.due = x.due ∧ ∃ l q r, cand = l ++ q :: r ∧ (∀ o ∈ cand, s.urgency o ≤ s.urgency q ∧ (s.urgency o = s.urgency q → hit o → hit q))
              ∧ (∀ o ∈ l, s.urgency o = s.urgency q → hit q ∧ ¬ hit o)
              ∧ (q.part.write = false → y.rq = rq.erase q ∧ y.wq = wq ∧ y.issued = x.issued.map older ++ [q])
              ∧ (q.part.write → y.rq = rq ∧ y.wq = wq.erase q
                  ∧ y.issued = x.issued.map older ++ (if reads q = [] then [] else [{ q with rmw := reads q }])
                  ∧ t.get (Reg.HBM_PORT_MAXLAT q.part.port) Fld.HBM_PORT_MAXLAT_MAX
                    = max (s.get (Reg.HBM_PORT_MAXLAT q.part.port) Fld.HBM_PORT_MAXLAT_MAX) (min q.age 65535))
              ∧ (hit q → y.rows = x.rows ∧ y.nbr = x.nbr)
              ∧ (Fld.HBM_CFG_NBR_EN.of s.mem.cfg = 0 → mapFind y.rows (hbmMap q.part.addr).bank = some (hbmMap q.part.addr).row)
              ∧ (y.nbr = x.nbr ∨ y.nbr = x.nbr ++ [((hbmMap q.part.addr).bank, (hbmMap q.part.addr).row)])
              ∧ (∀ b, b ≠ (hbmMap q.part.addr).bank → mapFind y.rows b = mapFind x.rows b))
            ∧ (cand = [] → y.rq = rq ∧ y.wq = wq
              ∧ (∀ b l, x.nbr = b :: l → y.nbr = l ∧ up s t (Reg.HBM_COUNT 3) 1 ∧ y.due = x.due ∧ mapFind y.rows b.1 = none
                ∧ (b.2 = 5 → (mapFind x.acts b.1).getD 0 + 2 < Config.rfmThreshold → (mapFind y.acts b.1).getD 0 = (mapFind x.acts b.1).getD 0 + 2)
                ∧ (b.2 = 0 ∨ b.2 = 24575 → (mapFind x.acts b.1).getD 0 + 1 < Config.rfmThreshold → (mapFind y.acts b.1).getD 0 = (mapFind x.acts b.1).getD 0 + 1))
              ∧ (∀ b n l, x.nbr = [] → x.due = (b, n) :: l → (mapFind y.due b).getD 0 = n - 1)
              ∧ (x.nbr = [] → x.due = [] → y.rows = x.rows ∧ y.due = [])))
      ∧ KeepsRegs s t slotRegs ∧ Only [.regs, .mem, .free] s t))
  ∧ (∀ (pc : Fin 192) (q : HbmPart) (s : State), (s.pcSt pc).waiting = [] → (hbmMap q.addr).pc = pc → q.addr < State.hbmSize → s.poison = [] →
    let room := if q.write then (s.pcSt pc).wq.length < 64 ∨ ∃ w ∈ (s.pcSt pc).wq, shareBurst w.part q else (s.pcSt pc).rq.length < 64
    let held := (partBursts q).filter (fun b => (s.pcSt pc).wq.any (fun w => (partBursts w.part).contains b))
    Completes (.hbmCommandSlot pc 0 [q]) s (fun t =>
      (q.write → room → (∀ i v, q.data[i]? = some (some v) → t.hbmByte (q.addr + i) = v)
        ∧ (∀ a, (∀ i v, q.data[i]? = some (some v) → a ≠ q.addr + i) → t.hbmByte a = s.hbmByte a) ∧ (t.pcSt pc).waiting = []
        ∧ ((∃ w ∈ (s.pcSt pc).wq, shareBurst w.part q) → (t.pcSt pc).wq.length ≤ (s.pcSt pc).wq.length))
      ∧ (q.write = false → room → (t.pcSt pc).waiting = [] ∧ KeepsHbm s t
        ∧ (held ≠ partBursts q → ∃ e ∈ (t.pcSt pc).rq ++ (t.pcSt pc).issued, e.part = q ∧ e.fwd = held
          ∧ e.data = (List.range q.len).map (fun i => s.hbmByte (q.addr + i))))
      ∧ (¬ room → (t.pcSt pc).waiting = [{ part := q }] ∧ KeepsHbm s t)
      ∧ KeepsRegs s t slotRegs ∧ Only [.regs, .mem, .free, .hbm, .poison] s t))
  ∧ (∀ (pc : Fin 192) (q : HbmPart) (s : State) (b : Nat), (s.pcSt pc).waiting = [] → (hbmMap q.addr).pc = pc → q.addr < State.hbmSize → q.write →
    ((s.pcSt pc).wq.length < 64 ∨ ∃ w ∈ (s.pcSt pc).wq, shareBurst w.part q) → q.addr = 32 * b → q.data.length = 32 → (∀ x ∈ q.data, x.isSome) →
    Completes (.hbmCommandSlot pc 0 [q]) s (fun t => b ∉ t.poison ∧ (∀ c, c ≠ b → (c ∈ t.poison ↔ c ∈ s.poison)) ∧ mapFind t.mem.reissue b = none))
  ∧ (∀ (pc : Fin 192) (q : HbmPart) (s : State) (b : Nat), alone s → (s.pcSt pc).waiting = [] → (hbmMap q.addr).pc = pc → q.addr < State.hbmSize → q.write →
    (s.pcSt pc).wq.length < 64 → b ∈ s.poison → q.addr = 32 * b → 1 ≤ q.data.length → q.data.length < 32 → (∀ x ∈ q.data, x.isSome) →
    Completes (.hbmCommandSlot pc 0 [q]) s (fun t => t.poison = s.poison ∧ (∀ i v, q.data[i]? = some (some v) → t.hbmByte (q.addr + i) = v)
      ∧ KeepsHbmBut s t q.addr q.data.length ∧ up s t (Reg.HBM_COUNT 1) 1 ∧ up s t (Reg.HBM_COUNT 7) 1 ∧ ue s t b q.port true
      ∧ KeepsRegs s t (fun a => slotRegs a ∨ a = Reg.HBM_COUNT 1 ∨ a = Reg.HBM_COUNT 7 ∨ ueRegs a)
      ∧ Only (([.mem, .free, .hbm, .twin] : List Part) ++ eventParts) s t))
  ∧ (∀ (pc : Fin 192) (bank : Fin 48) (s : State), Completes (.refreshDue pc bank) s (fun t =>
      mapFind (t.pcSt pc).due bank = some (min 8 ((mapFind (s.pcSt pc).due bank).getD 0 + 1))
      ∧ (∀ b, b ≠ bank.val → mapFind (t.pcSt pc).due b = mapFind (s.pcSt pc).due b)
      ∧ t.pcSt pc = { s.pcSt pc with due := (t.pcSt pc).due } ∧ (∀ p < 192, p ≠ pc.val → t.pcSt p = s.pcSt p) ∧ Only [.mem] s t))
  ∧ (∀ (pc : Fin 192) (elapsed : Nat) (e : ReadErrors) (s : State), alone s →
    ((s.pcSt pc).issued = [] → Completes (.hbmReadData pc elapsed e) s (fun t => t = s))
    ∧ (∀ q l, (s.pcSt pc).issued = q :: l → Completes (.hbmReadData pc elapsed e) s (fun t =>
      let lat := Reg.HBM_PORT_MAXLAT q.part.port
      let bursts := if q.part.write then q.rmw else partBursts q.part
      let b := s.readBurst q e.burst
      let dead := b ∈ s.poison
      let first := if dead then 2 else e.first
      let second := if dead then 2 else e.second
      let seen := bursts ≠ [] ∧ (q.part.write ∨ b ∉ q.fwd)
      let die := b2n e.onDie
      let wrote := (s.pcSt (hbmMap (b * 32)).pc).wq.any (fun w => (partBursts w.part).contains b)
      let answers := fun (bad : Bool) => match q.master with
        | some m => t.xbar = (if q.part.write then s.xbar else { s.xbar with responses := s.xbar.responses ++ [(m, if bad then none else some q.data)] })
        | none => t.xbar = s.xbar
      let keeps := fun (p : Nat → Prop) => KeepsRegs s t (fun a => (q.part.write = false ∧ a = lat) ∨ (e.onDie ∧ a = Reg.HBM_COUNT 0) ∨ p a)
      (∀ c ∈ s.poison, c ∈ bursts → (q.part.write ∨ c ∉ q.fwd) → dead) ∧ (dead ∨ b = bursts.getD (e.burst % max 1 bursts.length) 0)
      ∧ (t.pcSt pc).issued = l ∧ (t.pcSt pc).rq = (s.pcSt pc).rq
      ∧ (q.part.write = false → t.get lat Fld.HBM_PORT_MAXLAT_MAX = max (s.get lat Fld.HBM_PORT_MAXLAT_MAX) (min (q.age + elapsed) 65535))
      ∧ (¬ seen ∨ first ≤ 1 ∨ (first = 2 ∧ second ≤ 1) → answers (s.poisoned q.part.addr q.part.len) ∧ t.poison = s.poison)
      ∧ (¬ (seen ∧ first = 1 ∧ q.part.write = false) → first ≤ 2 → (t.pcSt pc).wq = (s.pcSt pc).wq)
      ∧ (¬ seen ∨ first = 0 → up s t (Reg.HBM_COUNT 0) die ∧ keeps (fun _ => False))
      ∧ (seen → first = 1 → up s t (Reg.HBM_COUNT 0) (die + 1) ∧ keeps (fun a => a = Reg.HBM_COUNT 0 ∨ EventRegs Ev.HBM_CE a)
          ∧ ((s.pcSt pc).ceAt = none → Counted s t Ev.HBM_CE)
          ∧ (∀ t0, (s.pcSt pc).ceAt = some t0 → s.now.units < t0 + 65536000000000 → keeps (fun a => a = Reg.HBM_COUNT 0))
          ∧ (q.part.write = false → wrote = false → ∃ w ∈ (t.pcSt (hbmMap (b * 32)).pc).wq ++ (t.pcSt (hbmMap (b * 32)).pc).waiting,
              w.part.write ∧ w.part.addr = b * 32 ∧ w.part.data = (List.range 32).map (fun i => some (s.hbmByte (b * 32 + i)))))
      ∧ (seen → first = 2 → second ≤ 1 → up s t (Reg.HBM_COUNT 2) 1 ∧ keeps (fun a => a = Reg.HBM_COUNT 2))
      ∧ (seen → first = 2 → second = 2 →
          up s t (Reg.HBM_COUNT 1) 1 ∧ ue s t b q.part.port q.part.write ∧ (∀ c, c ∈ t.poison ↔ c = b ∨ c ∈ s.poison)
          ∧ (q.part.write → up s t (Reg.HBM_COUNT 7) 1)
          ∧ (32 * b < q.part.addr + q.part.len → q.part.addr < 32 * b + 32 → answers true)
          ∧ keeps (fun a => a = Reg.HBM_COUNT 1 ∨ (q.part.write ∧ a = Reg.HBM_COUNT 7) ∨ ueRegs a))
      ∧ (first ≤ 2 → second ≤ 2 → t.freeIx = s.freeIx) ∧ KeepsHbm s t
      ∧ keeps (fun a => (∃ n < 8, a = Reg.HBM_COUNT n) ∨ ueRegs a ∨ EventRegs Ev.HBM_CE a)
      ∧ Only (([.mem, .xbar, .poison, .twin, .free] : List Part) ++ eventParts) s t)))
  ∧ (∀ (burst : Fin 7247757312) (port : Fin 8) (s : State), alone s → Completes (.hbmParityError ⟨burst, port⟩) s (fun t =>
      let n := (mapFind s.mem.reissue burst).getD 0
      (n < 2 → mapFind t.mem.reissue burst = some (n + 1) ∧ up s t (Reg.HBM_COUNT 5) 1 ∧ KeepsRegs s t (fun a => a = Reg.HBM_COUNT 5)
        ∧ Only [.regs, .mem] s t)
      ∧ (2 ≤ n → mapFind t.mem.reissue burst = none ∧ (∀ c, c ∈ t.poison ↔ c = burst.val ∨ c ∈ s.poison) ∧ up s t (Reg.HBM_COUNT 7) 1 ∧ ue s t burst port true
        ∧ KeepsRegs s t (fun a => a = Reg.HBM_COUNT 7 ∨ ueRegs a) ∧ Only (([.mem, .poison, .twin] : List Part) ++ eventParts) s t)))
  ∧ (∀ (k : Fin 6) (c : Int) (s : State), (105 ≤ c → alone s) → Completes (.hbmTempRead k c) s (fun t =>
      toS 8 (t.get (Reg.HBM_STACK k) Fld.HBM_STACK_TEMP_C) = max (-128) (min 127 c)
      ∧ t.get (Reg.HBM_STACK k) Fld.HBM_STACK_RATE = (if 95 < c then 2 else if 85 < c then 1 else 0)
      ∧ (∀ j < 6, bitAt (t.get Reg.HBM_STATUS Fld.HBM_STATUS_HOT) j = (if j = k.val then decide (100 ≤ c) else bitAt (s.get Reg.HBM_STATUS Fld.HBM_STATUS_HOT) j))
      ∧ (c < 105 → (100 ≤ c → bitAt (s.get Reg.HBM_STATUS Fld.HBM_STATUS_HOT) k = false → Counted s t Ev.HBM_HOT)
        ∧ KeepsFields s t (Reg.HBM_STACK k) [Fld.HBM_STACK_TEMP_C, Fld.HBM_STACK_RATE] ∧ KeepsFields s t Reg.HBM_STATUS [Fld.HBM_STATUS_HOT]
        ∧ KeepsRegs s t (fun a => a = Reg.HBM_STACK k ∨ a = Reg.HBM_STATUS ∨ EventRegs Ev.HBM_HOT a) ∧ Only eventParts s t)
      ∧ (105 ≤ c → s.sys.tripped = false → Counted s t Ev.THERM_TRIP ∧ t.sys.tripped ∧ t.get Reg.GLB_STATUS Fld.GLB_STATUS_STATE = 3
        ∧ t.isReady = false ∧ t.pins.ready = false)))
  ∧ (∀ (e : ReadErrors) (s : State), alone s →
    let on := Fld.HBM_CFG_SCRUB_EN.of s.mem.cfg = 1 ∧ s.flag Reg.HBM_STATUS Fld.HBM_STATUS_ALL_TRAINED
    let b := s.mem.scrubAt
    let first := if b ∈ s.poison then 2 else e.first
    let second := if b ∈ s.poison then 2 else e.second
    (¬ on → Completes (.scrubRead e) s (fun t => t = s))
    ∧ (on → Completes (.scrubRead e) s (fun t =>
        let keeps := fun (p : Nat → Prop) => KeepsRegs s t (fun a => (e.onDie ∧ a = Reg.HBM_COUNT 0) ∨ p a)
        (t.mem.scrubAt = b + 1 ∨ (t.mem.scrubAt = 0 ∧ State.hbmSize ≤ 32 * (b + 1))) ∧ t.poison = s.poison ∧ KeepsHbm s t
        ∧ (first ≤ 2 → first ≠ 1 → t.mem = { s.mem with scrubAt := t.mem.scrubAt })
        ∧ (e.onDie → up s t (Reg.HBM_COUNT 0) 1)
        ∧ (first = 0 → keeps (fun _ => False))
        ∧ (first = 1 → up s t (Reg.HBM_COUNT 6) 1 ∧ keeps (fun a => a = Reg.HBM_COUNT 6)
          ∧ ((s.pcSt (hbmMap (b * 32)).pc).wq.any (fun w => (partBursts w.part).contains b) = false →
              ∃ w ∈ (t.pcSt (hbmMap (b * 32)).pc).wq ++ (t.pcSt (hbmMap (b * 32)).pc).waiting,
              w.part.write ∧ w.part.port = 7 ∧ w.part.addr = b * 32 ∧ w.part.data = (List.range 32).map (fun i => some (s.hbmByte (b * 32 + i)))))
        ∧ (first = 2 → second ≤ 1 → up s t (Reg.HBM_COUNT 2) 1 ∧ keeps (fun a => a = Reg.HBM_COUNT 2))
        ∧ (first = 2 → second = 2 → ue s t b 7 false ∧ keeps ueRegs)
        ∧ keeps (fun a => a = Reg.HBM_COUNT 6 ∨ a = Reg.HBM_COUNT 2 ∨ ueRegs a)
        ∧ Only (([.mem, .twin, .free] : List Part) ++ eventParts) s t)))

/-- R34–R37, R389–R398: one grant of the chip matrix by class and round robin, what the granted request does at its target, promotion, and the
reset of a master port.
Where the spec leaves a point open this states the model's choice: log entries 125, 126, 127, 128, 129, 130 and 225. -/
def Obligations.MatrixGrantsAndResets : Prop :=
  let up := fun (s t : State) a => t.full a = min (s.full a + 1) (2 ^ 32 - 1)
  let record := fun (t : State) (r : MatrixReq) kind beats (ue : Bool) =>
    let i := Reg.XBAR_ERR_INFO r.master
    t.get i Fld.XBAR_ERR_INFO_SPACE = r.space.val ∧ t.flag i Fld.XBAR_ERR_INFO_WRITE = r.write
    ∧ t.flag i Fld.XBAR_ERR_INFO_UE = ue ∧ (ue = false → t.get i Fld.XBAR_ERR_INFO_KIND = kind ∧ t.get i Fld.XBAR_ERR_INFO_BEATS = beats)
    ∧ t.full (Reg.XBAR_ERR_ADDR_LO r.master) = r.addr % 2 ^ 32 ∧ t.full (Reg.XBAR_ERR_ADDR_HI r.master) = r.addr / 2 ^ 32 % 2 ^ 32
  let recordRegs := fun m a => a = Reg.XBAR_ERR_INFO m ∨ a = Reg.XBAR_ERR_ADDR_LO m ∨ a = Reg.XBAR_ERR_ADDR_HI m
  (∀ (tgt : Fin 17) (ecc : Secded) (s : State), (∀ w ∈ s.xbar.active, w.1 ≠ tgt.val) → tgt.val ≠ 14 →
    let cyc := fun (c m : Nat) => if (mapFind s.xbar.last (4 * tgt + c)).getD 23 < m then m else m + 24
    let contends := fun (i : Nat) (o : MatrixReq) => s.xbar.waiting[i]? = some (tgt.val, o) ∧ s.hbmRoom tgt o = true
      ∧ ∀ j < i, ∀ p : MatrixReq, s.xbar.waiting[j]? = some (tgt.val, p) → ¬ (p.master = o.master ∧ p.addr / 256 = o.addr / 256)
    ((∀ i o, ¬ contends i o) → Completes (.matrixGrant tgt [] ecc) s (fun t => t = s))
    ∧ ((∃ i o, contends i o) → Completes (.matrixGrant tgt [] ecc) s (fun t =>
        ∃ i r, contends i r ∧ t.xbar.waiting = s.xbar.waiting.eraseIdx i ∧ mapFind t.xbar.last (4 * tgt + r.cls) = some r.master.val
        ∧ ∀ j o, contends j o → r.cls ≤ o.cls ∧ (o.cls = r.cls → cyc r.cls r.master ≤ cyc o.cls o.master ∧ (o.master = r.master → i ≤ j)))))
  ∧ (∀ (tgt : Fin 17) (r : MatrixReq) (ecc : Secded) (s : State), s.xbar.waiting = [] → s.xbar.active = [] → State.requestOk r →
    (s.matrixTarget r).1 = tgt → s.hbmRoom tgt r →
    let a := (s.matrixTarget r).2
    let n := 64 * r.beats.val
    let good := ecc = Secded.clean
    let part : HbmPart := { port := masterPort r.master, write := false, addr := a, len := n, data := [] }
    let held := (partBursts part).filter (fun b => (s.pcSt (hbmMap a).pc).wq.any (fun w => (partBursts w.part).contains b))
    let answers := fun (t : State) x => t.xbar.responses = s.xbar.responses ++ [(r.master.val, x)]
    (ecc = Secded.double → Completes (.matrixGrant tgt [r] ecc) s (fun t => record t r 0 0 true ∧ up s t (Reg.XBAR_COUNT 2) ∧ Counted s t Ev.XBAR_UE
      ∧ answers t none ∧ t.xbar.active = [] ∧ KeepsRegs s t (fun x => recordRegs r.master x ∨ x = Reg.XBAR_COUNT 2 ∨ EventRegs Ev.XBAR_UE x)
      ∧ Only (([.xbar] : List Part) ++ eventParts) s t))
    ∧ (good → tgt.val = 16 → Completes (.matrixGrant tgt [r] ecc) s (fun t => record t r 1 0 false ∧ up s t (Reg.XBAR_COUNT 0) ∧ Counted s t Ev.XBAR_DECODE
      ∧ answers t (if r.master = 0 ∧ r.write = false then some [0, 0, 0, 0] else none) ∧ (r.master = 0 → r.write = false → t.readData = 0)
      ∧ KeepsRegs s t (fun x => recordRegs r.master x ∨ x = Reg.XBAR_COUNT 0 ∨ EventRegs Ev.XBAR_DECODE x) ∧ Only (([.xbar, .readData] : List Part) ++ eventParts) s t))
    ∧ (good → tgt.val ≠ 16 → tgt.val ≠ 14 → tgt.val ≠ 12 → r.write → Completes (.matrixGrant tgt [r] ecc) s (fun t => ∃ q,
        t.xbar.active = [(tgt.val, q)] ∧ q.master = r.master ∧ q.addr = a ∧ q.data = r.data ∧ q.beats = r.beats ∧ q.cls = (State.classed r).cls ∧ t.xbar.responses = s.xbar.responses
        ∧ Only [.xbar] s t))
    ∧ (good → tgt.val = 12 → r.write = false → Completes (.matrixGrant tgt [r] ecc) s (fun t =>
        answers t (some ((List.range n).map (fun i => Config.romByte (a + i)))) ∧ Only [.xbar] s t))
    ∧ (good → tgt.val = 12 → r.write → Completes (.matrixGrant tgt [r] ecc) s (fun t => answers t (some []) ∧ t.xbar.sram = s.xbar.sram ∧ Only [.xbar] s t))
    ∧ (good → tgt.val = 13 → r.write = false → Completes (.matrixGrant tgt [r] ecc) s (fun t =>
        answers t (some ((List.range n).map (fun i => s.sramByte (a + i)))) ∧ Only [.xbar] s t))
    ∧ (good → tgt.val = 15 → r.write = false → s.hostFree → s.tagFree → Completes (.matrixGrant tgt [r] ecc) s (fun t =>
        t.host.reads = s.host.reads ++ [⟨s.newTag, a, min s.host.mrrs n, ReadUse.matrix r.master [] (n - min s.host.mrrs n), s.dataRo⟩] ∧ t.xbar.responses = s.xbar.responses ∧ Only [.xbar, .reads] s t))
    ∧ (good → tgt.val < 12 → r.write = false → (s.pcSt (hbmMap a).pc).waiting = [] → (s.pcSt (hbmMap a).pc).rq.length < 64 → held ≠ partBursts part →
        Completes (.matrixGrant tgt [r] ecc) s (fun t => ∃ q, (t.pcSt (hbmMap a).pc).rq = (s.pcSt (hbmMap a).pc).rq ++ [q] ∧ q.master = some r.master.val
          ∧ q.part.addr = a ∧ q.part.len = n ∧ q.part.port = masterPort r.master ∧ q.data = (List.range n).map (fun i => s.hbmByte (a + i))
          ∧ q.fwd = held ∧ t.xbar.responses = s.xbar.responses ∧ Only [.xbar, .mem] s t))
    ∧ (good → tgt.val < 12 → r.write = false → (s.pcSt (hbmMap a).pc).waiting = [] → held = partBursts part → s.poison = [] →
        Completes (.matrixGrant tgt [r] ecc) s (fun t => answers t (some ((List.range n).map (fun i => s.hbmByte (a + i)))) ∧ Only [.xbar, .mem] s t))
    ∧ (ecc = Secded.single → tgt.val = 13 → Completes (.matrixGrant tgt [r] ecc) s (fun t => up s t (Reg.XBAR_COUNT 1)
        ∧ KeepsRegs s t (fun x => x = Reg.XBAR_COUNT 1) ∧ Only [.regs, .xbar] s t)))
  ∧ (∀ (o : Fin 67108864) (s u : State), s.xbar.waiting = [] → s.xbar.active = [] → (blockOf o).isSome → o.val % 4 = 0 → exec (.rcRead o) s = .next u →
    o.val ∉ [Reg.HARROW_DC_RE, Reg.WEED_PROBE_SK, Reg.TIME_NOW_NS, Reg.REF_BUILDOUT_LO, Reg.ADC_QUEUE_ENTRY] →
    o.val < Reg.ETH_STR_SEQ_LO 0 ∨ Reg.ETH_STR_SEQ_LO 4096 ≤ o.val →
    Completes (.matrixGrant 14 [{ master := 0, cls := 0, space := 2, addr := o, write := false, beats := 1, data := [] }] Secded.clean) s (fun t =>
      t.readData = u.readData ∧ t.regs = u.regs ∧ t.xbar.responses = s.xbar.responses ++ [(0, some (le 4 u.readData.toNat))] ∧ Only [.regs, .readData, .xbar, .free] s t))
  ∧ (∀ (tgt : Fin 17) (q : MatrixReq) (s : State), s.xbar.waiting = [] → s.xbar.active = [(tgt.val, q)] →
    let bs := q.data.take (64 * q.beats)
    (s.hbmRoom tgt q = false → Completes (.matrixGrant tgt [] Secded.clean) s (fun t => t = s))
    ∧ (tgt.val = 13 → Completes (.matrixGrant tgt [] Secded.clean) s (fun t => (∀ i (h : i < bs.length), t.sramByte (q.addr + i) = bs[i])
        ∧ (∀ x, x < q.addr ∨ q.addr + bs.length ≤ x → t.sramByte x = s.sramByte x) ∧ t.xbar.active = []
        ∧ t.xbar.responses = s.xbar.responses ++ [(q.master.val, some [])] ∧ Only [.xbar] s t))
    ∧ (tgt.val = 15 → s.hostFree → Completes (.matrixGrant tgt [] Secded.clean) s (fun t => t.out.host = s.out.host ++ (State.hostPieces s.host.mps (bs.length / s.host.mps + 1) q.addr bs).map
        (fun (w : Nat × List Byte) => (⟨w.1, w.2, s.dataRo⟩ : HostWrite)) ∧ t.xbar.active = []
        ∧ t.xbar.responses = s.xbar.responses ++ [(q.master.val, some [])] ∧ Only [.xbar, .outHost] s t))
    ∧ (tgt.val < 12 → s.poison = [] → s.hbmRoom tgt q → (s.pcSt (hbmMap q.addr).pc).waiting = [] → (s.pcSt (hbmMap q.addr).pc).wq.length < 64 →
        Completes (.matrixGrant tgt [] Secded.clean) s (fun t => (∀ i (h : i < bs.length), t.hbmByte (q.addr + i) = bs[i]) ∧ KeepsHbmBut s t q.addr bs.length
          ∧ t.xbar.active = [] ∧ t.xbar.responses = s.xbar.responses ++ [(q.master.val, some [])] ∧ Only [.xbar, .mem, .hbm] s t)))
  ∧ (∀ (m : Fin 24) (n : Nat) (s : State), Completes (.matrixPromotion ⟨m, n⟩) s (fun t =>
      let mine := fun (l : List (Nat × MatrixReq)) => (l.filter (fun w => w.2.master == m)).length
      (mine s.xbar.waiting ≤ n → t = s)
      ∧ (∀ a w b, s.xbar.waiting = a ++ w :: b → mine a = n → w.2.master = m → ∃ r, t.xbar.waiting = a ++ (w.1, r) :: b
          ∧ r.cls.val = w.2.cls.val - 1 ∧ r = { w.2 with cls := r.cls })
      ∧ t.xbar = { s.xbar with waiting := t.xbar.waiting } ∧ Only [.xbar] s t))
  ∧ (∀ (ports : BitVec 24) (d : Nat) (s : State), s.served = false ∨ ports = 0 → Completes (.xbarMrst ports d) s (fun t => t = s))
  ∧ (∀ (m : Fin 24) (d : Nat) (s : State), s.served → s.host.reads = [] → s.mem.pcs = [] →
    let gone := s.xbar.waiting.filter (fun w => w.2.master == m)
    let other := fun (w : Nat × MatrixReq) => w.2.master != m
    ((∀ w ∈ s.xbar.active, w.2.master ≠ m) → Completes (.xbarMrst (BitVec.ofNat 24 (2 ^ m.val)) d) s (fun t =>
        t.xbar = { s.xbar with waiting := s.xbar.waiting.filter other
                               responses := s.xbar.responses ++ gone.map (fun _ => (m.val, none)) } ∧ Only [.xbar] s t))
    ∧ (∀ tgt r, s.xbar.active.filter (fun w => w.2.master == m) = [(tgt, r)] → r.master = m →
        let left := min d (r.beats.val - 1)
        Completes (.xbarMrst (BitVec.ofNat 24 (2 ^ m.val)) d) s (fun t =>
          record t r (if r.write then 2 else 3) (r.beats.val - left) false ∧ up s t (Reg.XBAR_COUNT 3)
          ∧ t.xbar.waiting = s.xbar.waiting.filter other ∧ t.xbar.active = s.xbar.active.filter other
          ∧ t.xbar.responses = s.xbar.responses ++ gone.map (fun _ => (m.val, none)) ++ [(m.val, none)]
          ∧ (r.write → r.space = 0 → 0 < left → ∃ p, (t.pcSt (hbmMap r.addr).pc).waiting = [{ part := p }] ∧ p.addr = r.addr ∧ p.write ∧ p.port = masterPort m
              ∧ (∀ i, i < 64 * left → p.data[i]? = (r.data[i]?).map some ∨ r.data.length ≤ i) ∧ (∀ i x, 64 * left ≤ i → p.data[i]? = some x → x = none))
          ∧ (r.space ≠ 1 ∨ r.write = false ∨ s.hostFree = false → t.out.host = s.out.host)
          ∧ (r.space = 1 → r.write → 0 < left → s.hostFree → t.out.host = s.out.host
              ++ (State.hostPieces s.host.mps ((r.data.take (64 * left)).length / s.host.mps + 1) r.addr (r.data.take (64 * left))).map
                (fun (w : Nat × List Byte) => (⟨w.1, w.2, s.dataRo⟩ : HostWrite)))
          ∧ KeepsRegs s t (fun a => recordRegs m.val a ∨ a = Reg.XBAR_COUNT 3) ∧ Only [.regs, .xbar, .mem, .outHost] s t)))
  ∧ (∀ (m : Fin 24) (p : Nat) (q : Queued) (d : Nat) (s : State), s.served → s.host.reads = [] → s.xbar.active = [] → s.xbar.waiting = [] →
    s.mem.pcs = [(p, { issued := [q] })] → q.master = some m.val → q.part.write = false →
    Completes (.xbarMrst (BitVec.ofNat 24 (2 ^ m.val)) d) s (fun t =>
      (t.pcSt p).issued = [{ q with master := none }] ∧ t.xbar.responses = s.xbar.responses ++ [(m.val, none)]
      ∧ t.get (Reg.XBAR_ERR_INFO m) Fld.XBAR_ERR_INFO_KIND = 3 ∧ up s t (Reg.XBAR_COUNT 3)
      ∧ KeepsRegs s t (fun a => recordRegs m.val a ∨ a = Reg.XBAR_COUNT 3) ∧ Only [.regs, .xbar, .mem] s t))

/-- R399–R419: the choice of a reference, one loop update, one monitoring second with what it makes of every reference and of the selection, the
history, absence, build-out, acquisition stages and the end of a holdover's time. (OCXO steering by DAC channel 0 off.)
Where the spec leaves a point open this states the model's choice: log entries 132, 133, 134, 135, 138 and 139. -/
def Obligations.ReferenceMonitoringAndLoop : Prop :=
  let up := fun (s t : State) n => t.full (Reg.REF_COUNT n) = min (s.full (Reg.REF_COUNT n) + 1) (2 ^ 32 - 1)
  (∀ (s : State) (excl : List Nat),
    let ok := fun r => r < 6 ∧ s.refQual r = true ∧ r ∉ excl
    let peer := fun r b => ok b ∧ s.refRank b = s.refRank r
    let dist := fun r => (s.refD r).natAbs
    (s.refChosen = 7 → s.refChoose excl = none) ∧ (s.refChosen ≤ 5 → ok s.refChosen → s.refChoose excl = some s.refChosen)
    ∧ (s.refChosen ≠ 7 → ¬ ok s.refChosen →
        (s.refChoose excl = none ↔ ∀ r, ok r → s.refRank r = 7)
        ∧ ∀ r, s.refChoose excl = some r ↔ ok r ∧ s.refRank r < 7 ∧ (∀ b, ok b → s.refRank r ≤ s.refRank b)
          ∧ (∀ b, peer r b → dist r ≤ dist b + 1000) ∧ (∀ b, peer r b → b < r → ∃ c, peer r c ∧ dist c + 1000 < dist b)))
  ∧ (∀ (theta : Int) (s : State),
    let r := s.refSel
    let closed := (s.refState = 1 ∨ s.refState = 2) ∧ s.refSwitching = false ∧ s.refFrozen = false ∧ s.refRun ∧ r < 6
    let w : Int := bwOmega (s.get Reg.REF_STATUS Fld.REF_STATUS_BW)
    let lim := State.pptToY (s.get Reg.REF_LIMIT Fld.REF_LIMIT_PULL_PPB * 1000)
    let big := 8 * refThetaLock r < theta.natAbs
    let n := if big then s.ref.large + refUpdate r else 0
    (¬ closed → Completes (.dpllUpdate theta) s (fun t => t = s))
    ∧ (closed → Completes (.dpllUpdate theta) s (fun t => ∃ e1 e2 : Int, e1.natAbs ≤ 1 ∧ e2.natAbs ≤ 1
      ∧ t.ref.integ = s.ref.integ + roundDiv (w * w * refUpdate r * theta * 2 ^ 48) (10 ^ 57) + e1
      ∧ (let want := roundDiv (2 * w * theta * 2 ^ 48) (10 ^ 32) + t.ref.integ + e2
         t.ref.y = max (-lim) (min lim want) ∧ (t.ref.clamped ↔ t.ref.y ≠ want) ∧ (t.ref.y ≠ want → s.ref.clamped = false → Counted s t Ev.REF_LO_RANGE))
      ∧ toS 32 (t.full Reg.REF_PHASE) = satS 32 theta ∧ t.full Reg.REF_FREQ = ofS 32 (State.yToPpt t.ref.y)
      ∧ (s.refState = 2 → t.ref.large = n ∧ (s.ref.large < 100000 → 100000 ≤ n → Counted s t Ev.REF_UNLOCK ∧ up s t 6)) ∧ t.refState = s.refState
      ∧ KeepsRegs s t (fun a => a = Reg.REF_PHASE ∨ a = Reg.REF_FREQ ∨ EventRegs Ev.REF_LO_RANGE a ∨ (100000 ≤ n ∧ (a = Reg.REF_COUNT 6 ∨ EventRegs Ev.REF_UNLOCK a)))
      ∧ Only (([.ref, .free] : List Part) ++ eventParts) s t)))
  ∧ (∀ (ms : List (Option Int)) (s : State), s.refRun = false → Completes (.monitorSecond ms) s (fun t => t = s))
  ∧ (∀ (ms : List (Option Int)) (s : State), s.refRun → s.dacOwned = false → s.ref.serving = none → s.ref.selects = [] → s.ref.ins.length = 6 →
    let sel := s.refSel
    Completes (.monitorSecond ms) s (fun t =>
      let valid := t.flag Reg.REF_STATUS Fld.REF_STATUS_HIST_VALID
      let locked := s.refState = 2 ∧ s.refSwitching = false ∧ s.refFrozen = false
      let limits := fun (want : Int) => t.ref.y = s.yLim want ∧ (t.ref.clamped ↔ s.yLim want ≠ want)
        ∧ (s.yLim want ≠ want → s.ref.clamped = false → Counted s t Ev.REF_LO_RANGE)
      let holds := t.refState = 3 ∧ t.refSel = 7 ∧ limits (State.pptToY s.refH) ∧ up s t 4 ∧ Counted s t Ev.REF_HOLDOVER
      let switches := fun r => t.refSel = r ∧ t.refState = s.refState ∧ (sel < 6 → up s t 0 ∧ Counted s t Ev.REF_SWITCH)
        ∧ (s.flag Reg.REF_CFG Fld.REF_CFG_BUILDOUT → t.refSwitching ∧ limits (State.pptToY s.refH))
        ∧ (s.flag Reg.REF_CFG Fld.REF_CFG_BUILDOUT = false → t.refSwitching = s.refSwitching ∧ t.ref.y = s.ref.y ∧ t.ref.integ = s.ref.y)
      let acquires := fun r => t.refSel = r ∧ t.refState = 1 ∧ t.ref.fallback ∧ t.get Reg.REF_STATUS Fld.REF_STATUS_BW
        = (if s.flag Reg.REF_CFG Fld.REF_CFG_AUTO_BW then max (min 10 (refWidest r)) (s.refTarget r) else s.refTarget r)
      (locked → t.ref.samples = (s.ref.y :: s.ref.samples).take 1000) ∧ (¬ locked → t.ref.samples = s.ref.samples)
      ∧ (valid ↔ s.flag Reg.REF_STATUS Fld.REF_STATUS_HIST_VALID ∨ (locked ∧ 999 ≤ s.ref.samples.length))
      ∧ (∀ r < 6,
          let was := s.refInState r
          let cause := t.get (Reg.REF_IN_STATUS r) Fld.REF_IN_STATUS_CAUSE
          (s.flag (Reg.REF_IN_CFG r) Fld.REF_IN_CFG_EN = false → t.refInState r = 0)
          ∧ (s.flag (Reg.REF_IN_CFG r) Fld.REF_IN_CFG_EN → s.refSeen r (ms.getD r none) = none → t.refInState r = 1 ∧ (was = 2 ∨ was = 3 → cause = 3))
          ∧ (∀ f, s.flag (Reg.REF_IN_CFG r) Fld.REF_IN_CFG_EN → s.refSeen r (ms.getD r none) = some f →
              let d := f + roundDiv (s.ref.efcSum * s.efcGain) 100 - s.refH
              let rate := match (s.refIn r).d[15]? with
                | some d16 => (d - d16).natAbs
                | none => 0
              let limit := 160 * s.get (Reg.REF_IN_RATE r) Fld.REF_IN_RATE_RATE
              let acq := 1000 * s.get Reg.REF_ACQ Fld.REF_ACQ_ACQ_PPB
              let soft := if valid then 1000 * s.get (Reg.REF_IN_WIN r) Fld.REF_IN_WIN_SOFT_PPB else acq
              let hard := if valid then 1000 * s.get (Reg.REF_IN_WIN r) Fld.REF_IN_WIN_HARD_PPB else acq
              let inside := d.natAbs ≤ soft ∧ rate ≤ limit
              let held := s.get Reg.REF_MON Fld.REF_MON_HOLD_S ≤ (t.refIn r).good
              t.refD r = satS 32 d ∧ (t.flag (Reg.REF_IN_STATUS r) Fld.REF_IN_STATUS_SOFT ↔ soft < d.natAbs)
              ∧ (hard < d.natAbs → t.refInState r = 4 ∧ (was < 4 → cause = 1))
              ∧ (d.natAbs ≤ hard → limit < rate → t.refInState r = 4 ∧ (was < 4 → cause = 2))
              ∧ (d.natAbs ≤ hard → rate ≤ limit → (t.refIn r).good = (if inside then (s.refIn r).good + 1 else 0)
                  ∧ (was = 4 → t.refInState r = if inside then 2 else 4) ∧ (was = 3 → t.refInState r = 3)
                  ∧ (was ≤ 2 → t.refInState r = if held then 3 else 2)))
          ∧ (s.refQual r = (was == 3) → t.refQual r = (t.refInState r == 3)))
      ∧ t.full (Reg.REF_COUNT 1) = min (s.full (Reg.REF_COUNT 1) + ((List.range 6).filter (fun r => (t.refInState r == 4 && decide (s.refInState r < 4))
          || (t.refInState r == 1 && (s.refInState r == 2 || s.refInState r == 3)))).length) (2 ^ 32 - 1)
      ∧ (t.flag Reg.REF_STATUS Fld.REF_STATUS_DISAGREE ↔ t.ref.pairs ≠ [])
      ∧ (∀ a b, (a, b) ∈ t.ref.pairs ↔ a < b ∧ b < 6 ∧ t.refQual a ∧ t.refQual b ∧ s.refRank a = s.refRank b
          ∧ 1000 * s.get Reg.REF_MON Fld.REF_MON_CONSENSUS_PPB < (t.refD a - t.refD b).natAbs)
      ∧ (t.full (Reg.REF_COUNT 3) = min (s.full (Reg.REF_COUNT 3) + (t.ref.pairs.filter (fun p => !s.ref.pairs.contains p)).length) (2 ^ 32 - 1))
      ∧ (s.refFrozen → t.refSel = sel ∧ t.refState = s.refState ∧ t.refSwitching = s.refSwitching ∧ t.ref.y = s.ref.y)
      ∧ (s.refFrozen = false →
          (s.refState = 0 → (∀ r, t.refChoose [] = some r → acquires r) ∧ (t.refChoose [] = none → t.refState = 0 ∧ t.refSel = sel))
          ∧ (s.refState = 1 ∨ s.refState = 2 → s.refChosen = 7 → holds)
          ∧ (s.refState = 1 ∨ s.refState = 2 → s.refChosen ≠ 7 → (t.refQual sel → sel < 6 → t.refSel = sel ∧ t.refState = s.refState ∧ t.refSwitching = s.refSwitching)
              ∧ ∀ excl, (s.refSwitching → excl = sel :: s.ref.excl) → (s.refSwitching = false → excl = [sel]) → t.refQual sel = false →
                  (∀ r, t.refChoose excl = some r → switches r) ∧ (t.refChoose excl = none → holds))
          ∧ (s.refState = 3 → s.refSwitching = false →
              let secs := s.ref.hoSecs + 1
              let cont := s.flag Reg.REF_CFG Fld.REF_CFG_HO_BUILDOUT ∧ secs ≤ s.get Reg.REF_HO Fld.REF_HO_CONT_S
              limits (State.pptToY s.ref.hoH + roundDiv (toS 32 (s.full Reg.REF_AGE) * secs * 2 ^ 48) (86400 * 10 ^ 12)) ∧ t.ref.hoSecs = secs
              ∧ (t.refChoose [] = none → t.refState = 3 ∧ t.refSwitching = false)
              ∧ ∀ r, t.refChoose [] = some r → (cont → t.refSel = r ∧ t.refState = 3 ∧ t.refSwitching) ∧ (¬ cont → acquires r ∧ t.refSwitching = false))
          ∧ (s.refState = 3 → s.refSwitching → t.refQual sel = false → t.ref.y = s.ref.y
              ∧ (∀ r, t.refChoose (sel :: s.ref.excl) = some r → t.refSel = r ∧ t.refSwitching) ∧ (t.refChoose (sel :: s.ref.excl) = none → t.refSel = 7 ∧ t.refSwitching = false)))
      ∧ KeepsRegs s t (fun a => a = Reg.REF_STATUS ∨ a = Reg.REF_FREQ ∨ (∃ r < 6, a = Reg.REF_IN_STATUS r ∨ a = Reg.REF_IN_OFFSET r) ∨ (∃ n < 5, a = Reg.REF_COUNT n)
          ∨ ∃ e ∈ [Ev.REF_SWITCH, Ev.REF_HOLDOVER, Ev.REF_LO_RANGE, Ev.REF_SOFT_ALARM, Ev.REF_DISQUALIFIED, Ev.REF_QUALIFIED, Ev.REF_DISAGREE], EventRegs e a)
      ∧ Only (([.ref] : List Part) ++ eventParts) s t))
  ∧ (∀ s : State,
    (s.refRun = false → Completes .monitorWindowEnd s (fun t => t = s))
    ∧ (s.refRun → Completes .monitorWindowEnd s (fun t =>
        (s.flag Reg.REF_STATUS Fld.REF_STATUS_HIST_VALID → s.ref.samples ≠ [] →
          t.full Reg.REF_HIST = ofS 32 (State.yToPpt (roundDiv s.ref.samples.sum s.ref.samples.length)))
        ∧ (s.flag Reg.REF_STATUS Fld.REF_STATUS_HIST_VALID = false → t.full Reg.REF_HIST = s.full Reg.REF_HIST_INIT)
        ∧ KeepsRegs s t (fun a => a = Reg.REF_HIST) ∧ Only [.regs] s t)))
  ∧ (∀ (r : Fin 6) (s : State),
    (s.refRun = false ∨ s.refInState r < 2 → Completes (.referenceAbsent r) s (fun t => t = s))
    ∧ (s.refRun → s.refInState r = 2 ∨ s.refInState r = 3 → Completes (.referenceAbsent r) s (fun t =>
        t.refInState r = 1 ∧ t.get (Reg.REF_IN_STATUS r) Fld.REF_IN_STATUS_CAUSE = 3 ∧ t.refQual r = false
        ∧ bitAt (t.get Reg.REF_STATUS Fld.REF_STATUS_PRESENT) r = false ∧ up s t 1 ∧ Counted s t Ev.REF_DISQUALIFIED
        ∧ (∀ q : Fin 6, q ≠ r → t.refQual q = s.refQual q ∧ t.refInState q = s.refInState q ∧ t.refIn q = s.refIn q) ∧ t.refSel = s.refSel ∧ t.refState = s.refState
        ∧ KeepsRegs s t (fun a => a = Reg.REF_STATUS ∨ a = Reg.REF_IN_STATUS r ∨ a = Reg.REF_COUNT 1 ∨ EventRegs Ev.REF_DISQUALIFIED a)
        ∧ Only (([.ref] : List Part) ++ eventParts) s t)))
  ∧ (∀ (o : Int) (s : State),
    (s.refRun = false ∨ s.refSwitching = false ∨ s.refFrozen → Completes (.buildoutComplete o) s (fun t => t = s))
    ∧ (s.refRun → s.refSwitching → s.refFrozen = false → s.ref.selects = [] →
      let p : Int := if s.refSel ≤ 1 then [200000, 100000, 10000].getD (s.get (Reg.REF_IN_CFG s.refSel) Fld.REF_IN_CFG_FREQ) 100000 else 10 ^ 12
      let done := fun (t : State) => (s.refSel ≤ 4 → t.ref.buildout = toS 64 (ofS 64 (s.ref.buildout + o % p)))
        ∧ t.refSwitching = false ∧ t.full Reg.REF_PHASE = 0 ∧ t.ref.integ = s.ref.y ∧ t.ref.y = s.ref.y
        ∧ (s.refState ≠ 3 → t.refState = s.refState)
        ∧ (s.refState = 3 → t.refState = if s.get Reg.REF_STATUS Fld.REF_STATUS_BW = s.refTarget s.refSel then 2 else 1)
        ∧ (s.refState = 3 → t.get Reg.REF_STATUS Fld.REF_STATUS_BW = s.refTarget s.refSel) ∧ t.refSel = s.refSel
      let regs := fun a => a = Reg.REF_STATUS ∨ a = Reg.REF_BUILDOUT_LO ∨ a = Reg.REF_PHASE
      (s.ref.serving = none → Completes (.buildoutComplete o) s (fun t => done t ∧ KeepsRegs s t regs ∧ Only [.regs, .ref] s t))
      ∧ (∀ r id, s.ref.serving = some (CmdRef.slot r id) → Awaits s (CmdRef.slot r id) → Completes (.buildoutComplete o) s (fun t => done t
          ∧ Answered t (CmdRef.slot r id) (fun c => c.status = 0) ∧ t.ref.serving = none ∧ KeepsRegs s t regs ∧ Only [.regs, .ref, .rings] s t))))
  ∧ (∀ s : State,
    let lands := s.refRun ∧ s.refState = 1 ∧ s.refSwitching = false ∧ s.refFrozen = false ∧ (toS 32 (s.full Reg.REF_PHASE)).natAbs < refThetaLock s.refSel
    let b := s.get Reg.REF_STATUS Fld.REF_STATUS_BW
    (¬ lands → Completes .stageDwellEnd s (fun t => t = s))
    ∧ (lands → Completes .stageDwellEnd s (fun t => (b ≤ s.refTarget s.refSel → t.refState = 2 ∧ t.get Reg.REF_STATUS Fld.REF_STATUS_BW = b)
        ∧ (s.refTarget s.refSel < b → t.refState = 1 ∧ t.get Reg.REF_STATUS Fld.REF_STATUS_BW = max (s.refTarget s.refSel) (b - 2))
        ∧ KeepsRegs s t (fun a => a = Reg.REF_STATUS) ∧ KeepsFields s t Reg.REF_STATUS [Fld.REF_STATUS_STATE, Fld.REF_STATUS_BW] ∧ Only [.regs] s t)))
  ∧ (∀ s : State,
    let due := s.refRun ∧ s.refState = 3 ∧ s.get Reg.REF_HO Fld.REF_HO_MAX_MIN ≠ 0
    (¬ due → Completes .holdoverExpired s (fun t => t = s))
    ∧ (due → Completes .holdoverExpired s (fun t => t.flag Reg.REF_STATUS Fld.REF_STATUS_HO_EXPIRED ∧ Counted s t Ev.REF_HO_EXPIRED ∧ t.refState = 3
        ∧ KeepsFields s t Reg.REF_STATUS [Fld.REF_STATUS_HO_EXPIRED] ∧ KeepsRegs s t (fun a => a = Reg.REF_STATUS ∨ EventRegs Ev.REF_HO_EXPIRED a)
        ∧ Only eventParts s t)))

/-- R406, R410, R412, R416, R420–R425: the timing island's commands, its pulses, and the writes of RUN and FREEZE.
Where the spec leaves a point open this states the model's choice: log entries 131, 140, 141, 142 and 143. -/
def Obligations.ReferenceCommandsAndPulses : Prop :=
  let issued := fun (s : State) (src : CmdSrc) op (s1 : State) ref d => ∃ u r, Issued s src op u s1 ref d r
  let tells := fun (i : Instr) (s s1 : State) (src : CmdSrc) ref st => Completes i s (fun t =>
    Answered t ref (fun c => c.status = st) ∧ KeepsRegs s1 t (AnswerRegs s1 src) ∧ Only answerParts s1 t)
  let ok := fun (i : Instr) (s s1 : State) (src : CmdSrc) ref (regs : Nat → Prop) (ps : List Part) (p : State → Prop) => Completes i s (fun t =>
    Answered t ref (fun c => c.status = 0) ∧ p t ∧ KeepsRegs s1 t (fun a => regs a ∨ AnswerRegs s1 src a) ∧ Only (answerParts ++ ps) s1 t)
  (∀ (src : CmdSrc) (s s1 : State) (ref : CmdRef) (d : List Byte), s1.refRun = false →
    (issued s src 0x60 s1 ref d → tells (Instr.refSelect src) s s1 src ref St.REF_STOPPED) ∧ (issued s src 0x61 s1 ref d → tells (Instr.refSet src) s s1 src ref St.REF_STOPPED)
    ∧ (issued s src 0x62 s1 ref d → tells (Instr.refBw src) s s1 src ref St.REF_STOPPED) ∧ (issued s src 0x63 s1 ref d → tells (Instr.refAlign src) s s1 src ref St.REF_STOPPED)
    ∧ (issued s src 0x64 s1 ref d → tells (Instr.refOutSet src) s s1 src ref St.REF_STOPPED))
  ∧ (∀ (src : CmdSrc) (s s1 : State) (ref : CmdRef) (d : List Byte), issued s src 0x60 s1 ref d → s1.refRun → s1.dacOwned = false →
    let c := byteAt d 36
    let chosen := fun (t : State) => t.refChosen = c
    let cfg := fun a => a = Reg.REF_CFG
    let st := fun a => a = Reg.REF_CFG ∨ a = Reg.REF_STATUS ∨ a = Reg.REF_FREQ ∨ a = Reg.REF_COUNT 0 ∨ a = Reg.REF_COUNT 4 ∨ EventRegs Ev.REF_SWITCH a ∨ EventRegs Ev.REF_HOLDOVER a
      ∨ EventRegs Ev.REF_LO_RANGE a
    (7 < c → tells (Instr.refSelect src) s s1 src ref St.BAD_PARAM)
    ∧ (c ≤ 7 → s1.refSwitching → Completes (.refSelect src) s (fun t => t.ref = { s1.ref with selects := s1.ref.selects ++ [(ref, c)] } ∧ Only [.ref, .rings] s1 t))
    ∧ (c ≤ 5 → s1.refSwitching = false → s1.refQual c = false → Completes (.refSelect src) s (fun t => chosen t
        ∧ Answered t ref (fun x => x.status = St.REF_NOT_QUALIFIED) ∧ KeepsRegs s1 t (fun a => cfg a ∨ AnswerRegs s1 src a) ∧ Only answerParts s1 t))
    ∧ (c ≤ 7 → s1.refSwitching = false → (c ≤ 5 → s1.refQual c) → s1.refFrozen → ok (Instr.refSelect src) s s1 src ref cfg [] chosen)
    ∧ (c ≤ 7 → s1.refSwitching = false → (c ≤ 5 → s1.refQual c) → s1.refFrozen = false →
        let i := Instr.refSelect src
        ∀ pick, (s1.set Reg.REF_CFG Fld.REF_CFG_CHOSEN c).refChoose [] = pick →
          (pick = some s1.refSel → ok i s s1 src ref cfg [] chosen)
          ∧ (pick = none → s1.refState = 1 ∨ s1.refState = 2 → ok i s s1 src ref st (([.ref] : List Part) ++ eventParts) (fun t => chosen t ∧ t.refState = 3 ∧ t.refSel = 7
              ∧ t.ref.y = s1.yLim (State.pptToY s1.refH) ∧ Counted s1 t Ev.REF_HOLDOVER))
          ∧ (pick = none → s1.refState = 0 ∨ s1.refState = 3 → ok i s s1 src ref cfg [] chosen)
          ∧ (∀ r, pick = some r → r ≠ s1.refSel → s1.refState = 1 ∨ s1.refState = 2 → s1.flag Reg.REF_CFG Fld.REF_CFG_BUILDOUT →
              Completes i s (fun t => chosen t ∧ t.refSel = r ∧ t.refSwitching ∧ t.ref.serving = some ref ∧ t.ref.y = s1.yLim (State.pptToY s1.refH)
                ∧ (s1.refSel < 6 → Counted s1 t Ev.REF_SWITCH) ∧ KeepsRegs s1 t st ∧ Only (([.ref, .rings] : List Part) ++ eventParts) s1 t))
          ∧ (∀ r, pick = some r → r ≠ s1.refSel → s1.refState = 1 ∨ s1.refState = 2 → s1.flag Reg.REF_CFG Fld.REF_CFG_BUILDOUT = false →
              ok i s s1 src ref st (([.ref] : List Part) ++ eventParts) (fun t => chosen t ∧ t.refSel = r ∧ t.refSwitching = false ∧ t.ref.integ = t.ref.y ∧ t.ref.buildout = s1.ref.buildout))
          ∧ (∀ r, pick = some r → r ≠ s1.refSel → s1.refState = 0 → ok i s s1 src ref st [Part.ref] (fun t => chosen t ∧ t.refSel = r ∧ t.refState = 1 ∧ t.ref.fallback))
          ∧ (∀ r, pick = some r → s1.refSel = 7 → s1.refState = 3 →
              let cont := s1.flag Reg.REF_CFG Fld.REF_CFG_HO_BUILDOUT ∧ s1.ref.hoSecs ≤ s1.get Reg.REF_HO Fld.REF_HO_CONT_S
              (cont → Completes i s (fun t => chosen t ∧ t.refSel = r ∧ t.refState = 3 ∧ t.refSwitching ∧ t.ref.serving = some ref ∧ t.ref.y = s1.ref.y
                ∧ KeepsRegs s1 t st ∧ Only [.regs, .ref, .rings] s1 t))
              ∧ (¬ cont → ok i s s1 src ref st [Part.ref] (fun t => chosen t ∧ t.refSel = r ∧ t.refState = 1 ∧ t.ref.fallback)))))
  ∧ (∀ (src : CmdSrc) (s s1 : State) (ref : CmdRef) (d : List Byte), issued s src 0x61 s1 ref d → s1.refRun →
    let r := byteAt d 36
    let m := byteAt d 37
    let bad := 5 < r ∨ (bitAt m 1 ∧ 7 < byteAt d 39) ∨ (bitAt m 2 ∧ fieldAt d 42 2 < fieldAt d 40 2)
    (bad → tells (Instr.refSet src) s s1 src ref St.BAD_PARAM)
    ∧ (¬ bad → ok (Instr.refSet src) s s1 src ref (fun a => a = Reg.REF_IN_CFG r ∨ a = Reg.REF_IN_WIN r ∨ a = Reg.REF_IN_RATE r) [] (fun t =>
        let same := fun a f => t.get a f = s1.get a f
        (if bitAt m 0 then t.flag (Reg.REF_IN_CFG r) Fld.REF_IN_CFG_EN = bitAt (byteAt d 38) 0 else same (Reg.REF_IN_CFG r) Fld.REF_IN_CFG_EN)
        ∧ (if bitAt m 1 then t.refRank r = byteAt d 39 else same (Reg.REF_IN_CFG r) Fld.REF_IN_CFG_RANK)
        ∧ (if bitAt m 2 then t.get (Reg.REF_IN_WIN r) Fld.REF_IN_WIN_SOFT_PPB = fieldAt d 40 2 ∧ t.get (Reg.REF_IN_WIN r) Fld.REF_IN_WIN_HARD_PPB = fieldAt d 42 2
            else t.reg (Reg.REF_IN_WIN r) = s1.reg (Reg.REF_IN_WIN r))
        ∧ (if bitAt m 3 then t.get (Reg.REF_IN_RATE r) Fld.REF_IN_RATE_RATE = fieldAt d 44 2 else same (Reg.REF_IN_RATE r) Fld.REF_IN_RATE_RATE)
        ∧ KeepsFields s1 t (Reg.REF_IN_CFG r) [Fld.REF_IN_CFG_EN, Fld.REF_IN_CFG_RANK])))
  ∧ (∀ (src : CmdSrc) (s s1 : State) (ref : CmdRef) (d : List Byte), issued s src 0x62 s1 ref d → s1.refRun →
    let b := byteAt d 36
    let auto := bitAt (byteAt d 37) 0
    let now := s1.get Reg.REF_STATUS Fld.REF_STATUS_BW
    (12 < b → tells (Instr.refBw src) s s1 src ref St.BAD_PARAM)
    ∧ (b ≤ 12 → s1.refSel < 6 → refWidest s1.refSel < b → tells (Instr.refBw src) s s1 src ref St.REF_BW_RANGE)
    ∧ (b ≤ 12 → 6 ≤ s1.refSel ∨ b ≤ refWidest s1.refSel → ok (Instr.refBw src) s s1 src ref (fun a => a = Reg.REF_CFG ∨ a = Reg.REF_STATUS) [] (fun t =>
        t.get Reg.REF_CFG Fld.REF_CFG_BW = b ∧ t.flag Reg.REF_CFG Fld.REF_CFG_AUTO_BW = auto
        ∧ t.get Reg.REF_STATUS Fld.REF_STATUS_BW = (if s1.refState = 2 ∨ (s1.refState = 1 ∧ (auto = false ∨ now < b)) then b else now)
        ∧ KeepsFields s1 t Reg.REF_CFG [Fld.REF_CFG_BW, Fld.REF_CFG_AUTO_BW] ∧ KeepsFields s1 t Reg.REF_STATUS [Fld.REF_STATUS_BW])))
  ∧ (∀ (src : CmdSrc) (s s1 : State) (ref : CmdRef) (d : List Byte), issued s src 0x63 s1 ref d → s1.refRun → Completes (.refAlign src) s (fun t =>
      t.ref = { s1.ref with aligns := s1.ref.aligns ++ [(ref, toS 28 (fieldAt d 40 4), byteAt d 44 % 128)] } ∧ Only [.ref, .rings] s1 t))
  ∧ (∀ s : State,
    (s.ref.aligns = [] → Completes .refAlignTimeout s (fun t => t = s))
    ∧ (∀ r id ofs fine l, s.ref.aligns = (CmdRef.slot r id, ofs, fine) :: l → Awaits s (CmdRef.slot r id) → Completes .refAlignTimeout s (fun t =>
        Answered t (CmdRef.slot r id) (fun c => c.status = St.REF_NO_PULSE) ∧ t.ref = { s.ref with aligns := l } ∧ Only [.ref, .rings] s t)))
  ∧ (∀ (src : CmdSrc) (s s1 : State) (ref : CmdRef) (d : List Byte), issued s src 0x64 s1 ref d → s1.refRun → s1.ref.outCmds = [] →
    let m := byteAt d 36
    let starts := bitAt (byteAt d 37) 0
    let i := Instr.refOutSet src
    let run := fun (t : State) o => bitAt t.ref.outRun o
    (starts = false → ok i s s1 src ref (fun _ => False) [Part.ref] (fun t => ∀ o < 8, run t o = (run s1 o && !bitAt m o)
        ∧ bitAt t.ref.outStart o = (bitAt s1.ref.outStart o && !bitAt m o)))
    ∧ (starts → (∀ o < 8, bitAt m o → run s1 o ∧ bitAt s1.ref.outStart o = false) → ok i s s1 src ref (fun _ => False) [Part.ref] (fun t =>
        ∀ o < 8, run t o = run s1 o ∧ bitAt t.ref.outStart o = bitAt s1.ref.outStart o))
    ∧ (starts → (∃ o < 8, bitAt m o ∧ (run s1 o = false ∨ bitAt s1.ref.outStart o)) → Completes i s (fun t => t.ref.outCmds = [(ref, m)]
        ∧ (∀ o < 8, run t o = run s1 o ∧ bitAt t.ref.outStart o = (bitAt s1.ref.outStart o || (bitAt m o && !run s1 o))) ∧ Only [.ref, .rings] s1 t)))
  ∧ (∀ s : State,
    (s.refRun = false → Completes .ppsOutEdge s (fun t => t = s))
    ∧ (s.refRun →
      let edge := fun (t : State) => (∀ o < 8, bitAt t.ref.outRun o = (bitAt s.ref.outRun o || bitAt s.ref.outStart o)) ∧ t.ref.outStart = 0
        ∧ t.ref.aligned = [] ∧ t.ref.outCmds = []
      (s.ref.aligned = [] → s.ref.outCmds = [] → Completes .ppsOutEdge s (fun t => edge t ∧ Only [.ref] s t))
      ∧ (∀ r id m, (s.ref.aligned = [CmdRef.slot r id] ∧ s.ref.outCmds = []) ∨ (s.ref.aligned = [] ∧ s.ref.outCmds = [(CmdRef.slot r id, m)]) → Awaits s (CmdRef.slot r id) →
          Completes .ppsOutEdge s (fun t => edge t ∧ Answered t (CmdRef.slot r id) (fun c => c.status = 0) ∧ Only [.ref, .rings] s t))))
  ∧ (∀ s : State,
    let pulse := s.refRun ∧ s.refSel < 6 ∧ (s.refSel = 5 → s.weave.pulseAt.isSome)
    let moved := fun (t : State) ofs fine => t.ref.pulseTicks = ofs ∧ t.ref.pulseFine = fine ∧ t.ref.fallback = false ∧ t.ref.aligns = []
      ∧ t.full (Reg.REF_COUNT 5) = min (s.full (Reg.REF_COUNT 5) + 1) (2 ^ 32 - 1) ∧ Counted s t Ev.REF_PULSE_REALIGN
      ∧ (∀ o < 8, bitAt t.ref.outRun o = bitAt s.ref.outRun o) ∧ t.ref.y = s.ref.y
      ∧ KeepsRegs s t (fun a => a = Reg.REF_COUNT 5 ∨ EventRegs Ev.REF_PULSE_REALIGN a) ∧ Only (([.ref, .weave] : List Part) ++ eventParts) s t
    (¬ pulse → Completes .alignmentPulse s (fun t => t = s))
    ∧ (pulse → s.ref.aligns = [] → s.ref.fallback = false ∨ s.refState ≠ 2 → Completes .alignmentPulse s (fun t =>
        (s.refSel ≠ 5 → t = s) ∧ t.ref = s.ref ∧ KeepsRegs s t (fun _ => False) ∧ Only [.weave] s t))
    ∧ (pulse → s.ref.aligns = [] → s.ref.fallback → s.refState = 2 → Completes .alignmentPulse s (fun t => t.ref.aligned = s.ref.aligned
        ∧ moved t (toS 28 (s.get Reg.REF_PULSE_OFS Fld.REF_PULSE_OFS_TICKS)) (s.get Reg.REF_PULSE_FINE Fld.REF_PULSE_FINE_FINE)))
    ∧ (∀ l c ofs fine, pulse → s.ref.aligns = l ++ [(c, ofs, fine)] → Completes .alignmentPulse s (fun t =>
        t.ref.aligned = s.ref.aligned ++ l.map Prod.fst ++ [c] ∧ moved t ofs fine)))
  ∧ (∀ s : State,
    (s.isReady → Completes .refBuildoutLoRead s (fun t => t.readData.toNat = ofS 64 s.ref.buildout % 2 ^ 32
        ∧ t.full Reg.REF_BUILDOUT_HI = ofS 64 s.ref.buildout / 2 ^ 32 ∧ KeepsRegs s t (fun a => a = Reg.REF_BUILDOUT_HI) ∧ Only [.regs, .readData] s t))
    ∧ (s.isReady = false → Completes .refBuildoutLoRead s (fun t => t.readData = 0 ∧ Only [.readData] s t)))
  ∧ (∀ (on : Bool) (s : State), s.served = false ∨ (s.refRun ↔ on = true) → Completes (.refCtlRun on) s (fun t => t = s))
  ∧ (∀ s : State, s.served → s.refRun = false →
    let g := fun a f => s.get a f
    let src := g Reg.TIME_CFG Fld.TIME_CFG_SRC
    let outs := ∀ o < 8, 4 ≤ g (Reg.REF_OUT_CFG o) Fld.REF_OUT_CFG_DIV ∧ g (Reg.REF_OUT_CFG o) Fld.REF_OUT_CFG_DIV ≤ 1000
      ∧ 5000000000 % g (Reg.REF_OUT_CFG o) Fld.REF_OUT_CFG_DIV = 0 ∧ g (Reg.REF_OUT_CFG o) Fld.REF_OUT_CFG_LEVEL ≠ 3
      ∧ (g (Reg.REF_OUT_CFG o) Fld.REF_OUT_CFG_LEVEL = 2 → 20 ≤ g (Reg.REF_OUT_CFG o) Fld.REF_OUT_CFG_DIV)
    let period := s.full Reg.REF_SYNC = 0 ∨ 250000000 % s.full Reg.REF_SYNC = 0
    let band := g Reg.REF_CFG Fld.REF_CFG_BW ≤ 12 ∧ (s.refChosen ≤ 5 → g Reg.REF_CFG Fld.REF_CFG_BW ≤ refWidest s.refChosen)
    let windows := ∀ r < 6, g (Reg.REF_IN_WIN r) Fld.REF_IN_WIN_SOFT_PPB ≤ g (Reg.REF_IN_WIN r) Fld.REF_IN_WIN_HARD_PPB
    let efc := s.flag Reg.REF_CFG Fld.REF_CFG_EFC_EN → s.efcGain ≠ 0
    let ranges := 1 ≤ g Reg.REF_MON Fld.REF_MON_WINDOW_S ∧ g Reg.REF_MON Fld.REF_MON_WINDOW_S ≤ 1000 ∧ 1 ≤ g Reg.REF_MON Fld.REF_MON_CONSENSUS_PPB
      ∧ 16 ≤ g Reg.REF_MON Fld.REF_MON_HOLD_S ∧ 100 ≤ g Reg.REF_LIMIT Fld.REF_LIMIT_PULL_PPB ∧ g Reg.REF_LIMIT Fld.REF_LIMIT_PULL_PPB ≤ 200000
      ∧ 1 ≤ g Reg.REF_PULSE Fld.REF_PULSE_PPS_W ∧ g Reg.REF_PULSE Fld.REF_PULSE_PPS_W ≤ 50000 ∧ 1 ≤ g Reg.REF_PULSE Fld.REF_PULSE_SYNC_W
      ∧ (∀ r < 2, g (Reg.REF_IN_CFG r) Fld.REF_IN_CFG_FREQ ≠ 3)
    let servo := State.servoBwOk src (g Reg.TIME_CFG Fld.TIME_CFG_BW) (toS 4 (g Reg.TIME_CFG Fld.TIME_CFG_LOG_INTERVAL)) = true
    let err := fun (p : Nat → Prop) => Completes (.refCtlRun true) s (fun t => p (t.get Reg.REF_STATUS Fld.REF_STATUS_CFG_ERR) ∧ t.refRun = false
      ∧ KeepsFields s t Reg.REF_STATUS [Fld.REF_STATUS_CFG_ERR] ∧ KeepsRegs s t (fun a => a = Reg.REF_STATUS) ∧ Only [.regs, .free] s t)
    (outs → period → band → servo → windows → efc → ranges → Completes (.refCtlRun true) s (fun t => t.refRun ∧ t.get Reg.REF_STATUS Fld.REF_STATUS_CFG_ERR = 0
        ∧ (∀ o < 8, bitAt t.ref.outStart o = s.flag (Reg.REF_OUT_CFG o) Fld.REF_OUT_CFG_EN) ∧ t.ref.outRun = 0 ∧ t.ref.samples = [] ∧ t.ref.buildout = s.ref.buildout
        ∧ t.full Reg.REF_HIST = s.full Reg.REF_HIST_INIT ∧ t.flag Reg.REF_CTL Fld.REF_CTL_FREEZE_ACK = s.refFrozen
        ∧ t.flag (Reg.DAC_CH_CFG 0) Fld.DAC_CH_CFG_OWNED = s.flag Reg.REF_CFG Fld.REF_CFG_EFC_EN
        ∧ KeepsRegs s t (fun a => a = Reg.REF_CTL ∨ a = Reg.REF_STATUS ∨ a = Reg.REF_HIST ∨ a = Reg.DAC_CH_CFG 0)
        ∧ (∀ a ∈ State.timeSettings, t.timeReg a = s.reg a) ∧ Only [.regs, .ref, .time] s t))
    ∧ (¬ outs → err (· = 1)) ∧ (outs → ¬ period → err (· = 2)) ∧ (outs → period → ¬ (band ∧ servo) → err (· = 3))
    ∧ (outs → period → band → servo → ¬ windows → err (· = 4)) ∧ (outs → period → band → servo → windows → ¬ efc → err (· = 5))
    ∧ (outs → period → band → servo → windows → efc → ¬ ranges → err (· ≠ 0)))
  ∧ (∀ s : State, s.served → s.refRun → s.ref.selects = [] → s.ref.aligns = [] → s.ref.aligned = [] → s.ref.outCmds = [] →
    let low := fun (t : State) => t.refRun = false ∧ t.ref.outRun = 0 ∧ t.ref.outStart = 0 ∧ t.ref.y = 0 ∧ t.refState = 0 ∧ t.refSel = 7 ∧ t.ref.buildout = s.ref.buildout
      ∧ (∀ r < 6, t.refInState r = 0) ∧ t.dacOwned = false ∧ t.ref.serving = none
      ∧ KeepsRegs s t (fun a => a = Reg.REF_CTL ∨ a = Reg.REF_STATUS ∨ a = Reg.REF_FREQ ∨ a = Reg.DAC_CH_CFG 0 ∨ ∃ r < 6, a = Reg.REF_IN_STATUS r)
    (s.ref.serving = none → Completes (.refCtlRun false) s (fun t => low t ∧ Only [.regs, .ref] s t))
    ∧ (∀ r id, s.ref.serving = some (CmdRef.slot r id) → Awaits s (CmdRef.slot r id) → Completes (.refCtlRun false) s (fun t => low t
        ∧ Answered t (CmdRef.slot r id) (fun c => c.status = St.REF_STOPPED) ∧ Only [.regs, .ref, .rings] s t)))
  ∧ (∀ (on : Bool) (s : State),
    (s.served = false → Completes (.refCtlFreeze on) s (fun t => t = s))
    ∧ (s.served → Completes (.refCtlFreeze on) s (fun t =>
        let closes := s.refRun ∧ s.refFrozen ∧ on = false ∧ (s.refState = 1 ∨ s.refState = 2)
        t.refFrozen = on ∧ (s.refRun → t.flag Reg.REF_CTL Fld.REF_CTL_FREEZE_ACK = on) ∧ KeepsFields s t Reg.REF_CTL [Fld.REF_CTL_FREEZE, Fld.REF_CTL_FREEZE_ACK]
        ∧ (closes → t.refSwitching ∧ t.ref.y = s.yLim (State.pptToY s.refH) ∧ t.full Reg.REF_FREQ = ofS 32 (State.yToPpt t.ref.y)
            ∧ KeepsFields s t Reg.REF_STATUS [Fld.REF_STATUS_SWITCHING]
            ∧ KeepsRegs s t (fun a => a = Reg.REF_CTL ∨ a = Reg.REF_STATUS ∨ a = Reg.REF_FREQ ∨ EventRegs Ev.REF_LO_RANGE a)
            ∧ Only (([.ref] : List Part) ++ eventParts) s t)
        ∧ (¬ closes → KeepsRegs s t (fun a => a = Reg.REF_CTL) ∧ Only [.regs] s t))))

/-- R426–R437, R452: a tick of the counter and the sets and steps that wait for it, the servo and its lock, and the commands and reads of TIME.
Where the spec leaves a point open this states the model's choice: log entries 135, 136, 145 and 146. -/
def Obligations.TimeCounterAndServo : Prop :=
  let up := fun (s t : State) n => t.full (Reg.TIME_COUNT n) = min (s.full (Reg.TIME_COUNT n) + 1) (2 ^ 32 - 1)
  let issued := fun (s : State) (src : CmdSrc) op (s1 : State) ref d => ∃ u r, Issued s src op u s1 ref d r
  let tells := fun (i : Instr) (s s1 : State) (src : CmdSrc) ref st (regs : Nat → Prop) (ps : List Part) (p : State → Prop) => Completes i s (fun t =>
    Answered t ref (fun c => c.status = st) ∧ p t ∧ KeepsRegs s1 t (fun a => regs a ∨ AnswerRegs s1 src a) ∧ Only (answerParts ++ ps) s1 t)
  let adj := fun (t : State) => toS 32 (t.full Reg.TIME_ADJ)
  let frozen := fun (s : State) => s.flag Reg.TIME_CTL Fld.TIME_CTL_FREEZE
  let jump := fun (s : State) => s.timeGet Reg.TIME_JUMP Fld.TIME_JUMP_NS * 65536
  let shows := fun (t : State) (theta : Int) => (toS 32 (t.full Reg.TIME_OFFSET_LAST) = satS 32 (theta / 65536)
    ∨ (theta % 65536 ≠ 0 ∧ toS 32 (t.full Reg.TIME_OFFSET_LAST) = satS 32 (theta / 65536 + 1)))
  let accepts := fun (s t : State) (theta log : Int) =>
    let w : Int := bwOmega (s.timeGet Reg.TIME_CFG Fld.TIME_CFG_BW)
    let lim := roundDiv (s.timeGet Reg.TIME_LIMITS Fld.TIME_LIMITS_ADJ_MAX_PPB * 2 ^ 64) (10 ^ 9)
    let lock := s.timeGet Reg.TIME_LIMITS Fld.TIME_LIMITS_LOCK_NS * 65536
    let good := if theta.natAbs ≤ lock then min 16 (s.time.good + 1) else 0
    let bad := if 4 * lock < theta.natAbs then s.time.bad + 1 else 0
    (frozen s → adj t = adj s ∧ t.time.servoI = s.time.servoI)
    ∧ (frozen s = false → ∃ e : Int, e.natAbs ≤ 1 ∧
        let integ := s.time.servoI + roundDiv (w * w * theta * 2 ^ 48) (10 ^ 49 * 2 ^ log.natAbs) + e
        let want := -(roundDiv (2 * w * theta * 2 ^ 48) (10 ^ 29) + integ)
        adj t = toS 32 (ofS 32 (roundDiv (max (-lim) (min lim want)) (2 ^ 30)))
        ∧ t.time.servoI = (if -lim ≤ want ∧ want ≤ lim then integ else s.time.servoI))
    ∧ shows t theta ∧ t.time.good = good ∧ t.time.bad = bad ∧ t.flag Reg.TIME_STATUS Fld.TIME_STATUS_COASTING = false
    ∧ (let was := s.flag Reg.TIME_STATUS Fld.TIME_STATUS_LOCKED
       (bad < 4 → t.flag Reg.TIME_STATUS Fld.TIME_STATUS_LOCKED = (was || decide (16 ≤ good)))
       ∧ (4 ≤ bad → t.flag Reg.TIME_STATUS Fld.TIME_STATUS_LOCKED = false) ∧ (4 ≤ bad → was → up s t 5 ∧ Counted s t Ev.TIME_UNLOCK))
    ∧ t.clock = s.clock ∧ t.get Reg.TIME_STATUS Fld.TIME_STATUS_STEP_COUNT = s.get Reg.TIME_STATUS Fld.TIME_STATUS_STEP_COUNT
  let servoRegs := fun a => a = Reg.TIME_ADJ ∨ a = Reg.TIME_OFFSET_LAST ∨ a = Reg.TIME_STATUS ∨ a = Reg.TIME_COUNT 5 ∨ EventRegs Ev.TIME_UNLOCK a
  let refuses := fun (s t : State) (theta : Int) => shows t theta ∧ up s t 0 ∧ Counted s t Ev.TIME_JUMP_REFUSED ∧ t.time = s.time
  let refusedRegs := fun a => a = Reg.TIME_OFFSET_LAST ∨ a = Reg.TIME_COUNT 0 ∨ EventRegs Ev.TIME_JUMP_REFUSED a
  (∀ s : State, s.clock.ns < 1000000000 → s.clock.frac < 2 ^ 32 → s.clock.sec < 2 ^ 48 →
    let step : Int := s.timeGet Reg.TIME_INC Fld.TIME_INC_NS * 2 ^ 32 + s.timeFull Reg.TIME_INC_FRAC + adj s
    let next : Int := s.clock.ns * 2 ^ 32 + s.clock.frac + step
    let billion : Int := 1000000000 * 4294967296
    let ticked := fun (c : Clock) => c.ns < 1000000000 ∧ c.frac < 2 ^ 32
      ∧ (c.ns * 2 ^ 32 + c.frac : Int) = (if next < 0 then next + billion else if next < billion then next else next - billion)
      ∧ c.sec = (if next < 0 then (s.clock.sec + 2 ^ 48 - 1) % 2 ^ 48 else if next < billion then s.clock.sec else (s.clock.sec + 1) % 2 ^ 48)
    (s.time.jobs = [] → Completes .timeBaseTick s (fun t => ticked t.clock ∧ t.time = { s.time with tick := s.time.tick + 1 }
        ∧ t.alm.entries.map (fun e => (e.1, e.2.image, e.2.ring, e.2.late)) = s.alm.entries.map (fun e => (e.1, e.2.image, e.2.ring, e.2.late))
        ∧ (∀ i e, (i, e) ∈ t.alm.entries → (e.dueAt.isSome ↔ t.almReached (AlmImage.bySheaf e.image) (AlmImage.key e.image) ∨ (AlmImage.bySheaf e.image ∧ e.dueAt.isSome)))
        ∧ KeepsRegs s t (fun a => a = Reg.ALM_STATUS) ∧ Only [.regs, .clock, .time, .almanac, .sys] s t))
    ∧ (∀ r id kind x, s.time.jobs = [(CmdRef.slot r id, kind, x)] → Awaits s (CmdRef.slot r id) → x.ns < 1000000000 → x.sec < 2 ^ 48 → x.frac < 65536 →
        ¬ (s.refRun ∧ s.refSel = 4 ∧ (s.refState = 1 ∨ s.refState = 2)) →
        Completes .timeBaseTick s (fun t => Answered t (CmdRef.slot r id) (fun c => c.status = 0) ∧ t.time.jobs = [] ∧ up s t 4 ∧ Counted s t Ev.TIME_STEPPED
          ∧ t.flag Reg.TIME_STATUS Fld.TIME_STATUS_SET ∧ t.get Reg.TIME_STATUS Fld.TIME_STATUS_STEP_COUNT = (s.get Reg.TIME_STATUS Fld.TIME_STATUS_STEP_COUNT + 1) % 256
          ∧ adj t = adj s ∧ t.time.servoI = s.time.servoI ∧ t.time.stepTick = some (s.time.tick + 1)
          ∧ (kind = 0 → t.clock = ⟨x.sec, x.ns, x.frac * 65536⟩)
          ∧ (kind ≠ 0 → ∃ c, ticked c ∧ ((clockUnits t.clock : Int) = (clockUnits c + (if kind = 1 then 1 else -1) * (x.units * 65536 : Int)) % clockSpan))
          ∧ (∀ i e, (i, e) ∈ t.alm.entries → AlmImage.bySheaf e.image = false → (e.dueAt.isSome ↔ (Stamp.ofUnits (AlmImage.key e.image)).le t.now))
          ∧ KeepsRegs s t (fun a => a = Reg.ALM_STATUS ∨ a = Reg.TIME_STATUS ∨ a = Reg.TIME_COUNT 4 ∨ EventRegs Ev.TIME_STEPPED a)
          ∧ Only (([.clock, .time, .almanac, .sys, .rings] : List Part) ++ eventParts) s t))
    ∧ (∀ r id kind x, s.time.jobs = [(CmdRef.slot r id, kind, x)] → s.refRun → s.refSel = 4 → s.refState = 1 ∨ s.refState = 2 →
        Completes .timeBaseTick s (fun t => t.refSwitching ∧ t.ref.y = s.yLim (State.pptToY s.refH) ∧ t.refSel = 4 ∧ t.refState = s.refState
          ∧ (t.refIn 4).d = [] ∧ up s t 4 ∧ Counted s t Ev.REF_SWITCH ∧ t.full (Reg.REF_COUNT 0) = min (s.full (Reg.REF_COUNT 0) + 1) (2 ^ 32 - 1))))
  ∧ (∀ (pin : Fin 2) (fine : Fin 128) (s : State),
    let mine := s.timeGet Reg.TIME_CFG Fld.TIME_CFG_SRC = pin.val + 1
    let near := (∃ t0, s.time.stepTick = some t0 ∧ s.time.tick ≤ t0 + 1) ∨ s.time.jobs ≠ []
    (¬ mine → Completes (.ppsEdge pin fine) s (fun t => t = s))
    ∧ (mine → near → Completes (.ppsEdge pin fine) s (fun t => up s t 1 ∧ KeepsRegs s t (fun a => a = Reg.TIME_COUNT 1) ∧ Only [.regs] s t))
    ∧ (mine → ¬ near → ∀ theta : Int, -32768000000000 < theta → theta ≤ 32768000000000 →
        (theta - ((s.edgeTime fine).ns * 65536 + (s.edgeTime fine).frac - toS 32 (s.timeFull Reg.TIME_PPS_OFS) * 65536)) % 65536000000000 = 0 →
        (jump s < theta.natAbs → Completes (.ppsEdge pin fine) s (fun t => refuses s t theta ∧ KeepsRegs s t refusedRegs ∧ Only (([.free] : List Part) ++ eventParts) s t))
        ∧ (theta.natAbs ≤ jump s → Completes (.ppsEdge pin fine) s (fun t => accepts s t theta 0 ∧ KeepsRegs s t servoRegs ∧ Only (([.time, .free] : List Part) ++ eventParts) s t))))
  ∧ (∀ (s : State), s.clock.ns < 1000000000 → s.clock.frac < 2 ^ 32 → s.clock.sec < 2 ^ 48 → s.edgeTime 0 = s.now)
  ∧ (∀ (src : CmdSrc) (s s1 : State) (ref : CmdRef) (d : List Byte),
    (issued s src 0x68 s1 ref d → let x := stampAt d 40
      (x.ns < 1000000000 → Completes (.timeSet src) s (fun t => t.time.jobs = s1.time.jobs ++ [(ref, 0, x)] ∧ t.clock = s.clock ∧ Only [.time, .rings] s1 t))
      ∧ (1000000000 ≤ x.ns → tells (Instr.timeSet src) s s1 src ref St.TIME_FORMAT (fun _ => False) [] (fun _ => True)))
    ∧ (issued s src 0x69 s1 ref d → let x := stampAt d 40
      (x.ns < 1000000000 → Completes (.timeStep src) s (fun t => t.time.jobs = s1.time.jobs ++ [(ref, if bitAt (byteAt d 36) 0 then 2 else 1, x)]
        ∧ t.clock = s.clock ∧ Only [.time, .rings] s1 t))
      ∧ (1000000000 ≤ x.ns → tells (Instr.timeStep src) s s1 src ref St.TIME_FORMAT (fun _ => False) [] (fun _ => True))))
  ∧ (∀ (src : CmdSrc) (s s1 : State) (ref : CmdRef) (d : List Byte), issued s src 0x6A s1 ref d →
    let i := Instr.timeOffset src
    let theta := toS 64 (fieldAt d 40 8)
    let open_ := s1.timeGet Reg.TIME_CFG Fld.TIME_CFG_SRC = 3 ∧ frozen s1 = false
    let fresh := byteAt d 36 = s1.get Reg.TIME_STATUS Fld.TIME_STATUS_STEP_COUNT
    (¬ open_ → tells i s s1 src ref St.TIME_NOT_SERVO (fun _ => False) [] (fun _ => True))
    ∧ (open_ → ¬ fresh → tells i s s1 src ref St.TIME_STALE (fun a => a = Reg.TIME_COUNT 1) [] (fun t => up s1 t 1))
    ∧ (open_ → fresh → jump s1 < theta.natAbs → tells i s s1 src ref St.TIME_JUMP_REFUSED refusedRegs (([.free] : List Part) ++ eventParts) (fun t => refuses s1 t theta))
    ∧ (open_ → fresh → theta.natAbs ≤ jump s1 → tells i s s1 src ref 0 servoRegs (([.time, .free] : List Part) ++ eventParts) (fun t =>
        accepts s1 t theta (toS 4 (s1.timeGet Reg.TIME_CFG Fld.TIME_CFG_LOG_INTERVAL))
        ∧ (theta = 200 * 65536 → s1.timeGet Reg.TIME_CFG Fld.TIME_CFG_BW = 4 → s1.timeGet Reg.TIME_CFG Fld.TIME_CFG_LOG_INTERVAL = 0 → s1.time.servoI = 0 →
            s1.timeGet Reg.TIME_LIMITS Fld.TIME_LIMITS_ADJ_MAX_PPB = 20000 → adj t = -1959))))
  ∧ (∀ (src : CmdSrc) (s s1 : State) (ref : CmdRef) (d : List Byte), issued s src 0x6B s1 ref d →
    let i := Instr.timeServo src
    let n := byteAt d 36
    let bw := byteAt d 37
    let log := toS 8 (byteAt d 38)
    let range := n ≤ 3 ∧ -7 ≤ log ∧ log ≤ 0
    let band := bw ≤ 8 ∧ bwF bw ≤ 10000 * (if n = 3 then 2 ^ log.natAbs else 1) ∧ (n = 3 → 10000 ≤ bwF bw)
    (¬ range → tells i s s1 src ref St.BAD_PARAM (fun _ => False) [] (fun _ => True))
    ∧ (range → ¬ band → tells i s s1 src ref St.TIME_BW_RANGE (fun _ => False) [] (fun _ => True))
    ∧ (range → band → tells i s s1 src ref 0 (fun a => a = Reg.TIME_CFG) [Part.time] (fun t => t.get Reg.TIME_CFG Fld.TIME_CFG_SRC = n
        ∧ t.get Reg.TIME_CFG Fld.TIME_CFG_BW = bw ∧ toS 4 (t.get Reg.TIME_CFG Fld.TIME_CFG_LOG_INTERVAL) = log
        ∧ t.timeReg Reg.TIME_CFG = t.reg Reg.TIME_CFG ∧ (∀ a, a ≠ Reg.TIME_CFG → t.timeReg a = s1.timeReg a)
        ∧ t.time = { s1.time with servoI := if bitAt (byteAt d 39) 0 then 0 else s1.time.servoI, regs := t.time.regs })))
  ∧ ((List.range 13).map bwOmega = [253, 801, 2530, 8010, 25300, 80100, 253000, 801000, 2530000, 8010000, 25300000, 80100000, 253200000].map (· * 10 ^ 15))
  ∧ (∀ s : State,
    (s.timeGet Reg.TIME_CFG Fld.TIME_CFG_SRC = 0 → Completes .servoCoast s (fun t => t = s))
    ∧ (s.timeGet Reg.TIME_CFG Fld.TIME_CFG_SRC ≠ 0 → Completes .servoCoast s (fun t => t.flag Reg.TIME_STATUS Fld.TIME_STATUS_COASTING
        ∧ t.flag Reg.TIME_STATUS Fld.TIME_STATUS_LOCKED = false ∧ (s.flag Reg.TIME_STATUS Fld.TIME_STATUS_LOCKED → up s t 5 ∧ Counted s t Ev.TIME_UNLOCK)
        ∧ KeepsFields s t Reg.TIME_STATUS [Fld.TIME_STATUS_COASTING, Fld.TIME_STATUS_LOCKED]
        ∧ KeepsRegs s t (fun a => a = Reg.TIME_STATUS ∨ (s.flag Reg.TIME_STATUS Fld.TIME_STATUS_LOCKED = true ∧ (a = Reg.TIME_COUNT 5 ∨ EventRegs Ev.TIME_UNLOCK a)))
        ∧ Only eventParts s t)))
  ∧ (∀ (on : Bool) (s : State),
    (s.served = false → Completes (.timeCtlFreeze on) s (fun t => t = s))
    ∧ (s.served → Completes (.timeCtlFreeze on) s (fun t => frozen t = on ∧ t.flag Reg.TIME_CTL Fld.TIME_CTL_FREEZE_ACK = on
        ∧ KeepsRegs s t (fun a => a = Reg.TIME_CTL) ∧ KeepsFields s t Reg.TIME_CTL [Fld.TIME_CTL_FREEZE, Fld.TIME_CTL_FREEZE_ACK] ∧ Only [.regs] s t)))
  ∧ (∀ s : State,
    (s.isReady → s.clock.ns < 2 ^ 32 → s.clock.sec < 2 ^ 48 → s.clock.frac < 2 ^ 32 → Completes .timeNowNsRead s (fun t =>
        t.readData.toNat = s.clock.ns ∧ t.full Reg.TIME_NOW_SEC_LO = s.clock.sec % 2 ^ 32
        ∧ t.get Reg.TIME_NOW_SEC_HI Fld.TIME_NOW_SEC_HI_SEC = s.clock.sec / 2 ^ 32 ∧ t.get Reg.TIME_NOW_SEC_HI Fld.TIME_NOW_SEC_HI_FRAC_NS = s.clock.frac / 65536
        ∧ KeepsRegs s t (fun a => a = Reg.TIME_NOW_SEC_LO ∨ a = Reg.TIME_NOW_SEC_HI) ∧ Only [.regs, .readData] s t))
    ∧ (s.isReady = false → Completes .timeNowNsRead s (fun t => t.readData = 0 ∧ Only [.readData] s t)))

/-- R442–R451: edges on TIME_EVT pins, ALM_SET and ALM_CANCEL, and the firing of the almanac: the order, one firing per tick, its counters,
re-arming, records and actions.
Where the spec leaves a point open this states the model's choice: log entries 147, 148, 149, 150, 151 and 228. -/
def Obligations.PinsAndAlmanac : Prop :=
  let up := fun (s t : State) a n => t.full a = min (s.full a + n) (2 ^ 32 - 1)
  let issued := fun (s : State) (src : CmdSrc) op (s1 : State) ref d r => (∃ u, Issued s src op u s1 ref d r)
    ∧ ∀ x ∈ s1.alm.execs, x.entry < 256
  let tells := fun (i : Instr) (s s1 : State) (src : CmdSrc) ref st (regs : Nat → Prop) (ps : List Part) (p : State → Prop) => Completes i s (fun t =>
    Answered t ref (fun c => c.status = st) ∧ p t ∧ KeepsRegs s1 t (fun a => regs a ∨ AnswerRegs s1 src a) ∧ Only (answerParts ++ ps) s1 t)
  let entryRegs := fun i a => a = Reg.ALM_STATUS ∨ a = Reg.ALM_STATE i ∨ Between (Reg.ALM_ENTRY i 0) (Reg.ALM_ENTRY i 31) a
  let fired := fun (s : State) => (s.almMark false).almNext
  let shows := fun (t : State) i (b : List Byte) => t.flag (Reg.ALM_STATE i) Fld.ALM_STATE_ARMED ∧ t.get (Reg.ALM_STATE i) Fld.ALM_STATE_ACTION = AlmImage.action b
    ∧ ∀ w < 32, t.full (Reg.ALM_ENTRY i w) = fieldAt b (4 * w) 4
  (∀ (p : Fin 4) (fine : Fin 128) (falling : Bool) (s : State),
    let a := Reg.TIME_EVT_CFG p
    let edge := s.timeGet a Fld.TIME_EVT_CFG_EDGE
    let hears := s.timeFlag a Fld.TIME_EVT_CFG_EN ∧ s.pinOut p = false ∧ (edge = 2 ∨ (edge = 0 ∧ falling = false) ∨ (edge = 1 ∧ falling = true))
    let x := s.edgeTime fine
    let here := 128 * s.time.tick + fine.val
    let close := ∃ l, (s.evtPin p).lastEdge = some l ∧ here ≤ l + 256
    let r := s.timeGet Reg.TIME_CAP Fld.TIME_CAP_RING
    (¬ hears → Completes (.timeEvtEdge p fine falling) s (fun t => t = s))
    ∧ (hears → close → Completes (.timeEvtEdge p fine falling) s (fun t => up s t (Reg.TIME_COUNT 3) 1
        ∧ KeepsRegs s t (fun a => a = Reg.TIME_COUNT 3) ∧ Only [.regs] s t))
    ∧ (hears → ¬ close → s.time.pins.length = 4 →
        s.sys.keptReset = true ∨ (s.timeFlag a Fld.TIME_EVT_CFG_ADC = false ∧ bitAt (s.get Reg.GLEAN_CFG Fld.GLEAN_CFG_TRIG) (2 + p) = false) →
        Completes (.timeEvtEdge p fine falling) s (fun t =>
          (t.evtPin p).lastEdge = some here ∧ (t.evtPin p).captures = ((s.evtPin p).captures + 1) % 2 ^ 32 ∧ (∀ q : Fin 4, q ≠ p → t.evtPin q = s.evtPin q)
          ∧ (s.timeFlag Reg.TIME_CAP Fld.TIME_CAP_EN = false → KeepsRegs s t (fun _ => False) ∧ Only [.time] s t)
          ∧ (s.timeFlag Reg.TIME_CAP Fld.TIME_CAP_EN → s.ringState r = 1 ∨ s.ringState r = 2 → ∃ m, (t.ring r).msgs = (s.ring r).msgs ++ [m] ∧ m.producer = 0x11
              ∧ m.bytes.length = 32 ∧ m.bytes.take 2 = [0x43, 0x01] ∧ byteAt m.bytes 2 = p.val + (if falling then 4 else 0) ∧ stampAt m.bytes 4 = ⟨x.sec % 2 ^ 48, x.ns % 2 ^ 32, x.frac % 2 ^ 16⟩
              ∧ fieldAt m.bytes 16 4 = (s.evtPin p).captures % 2 ^ 32)
          ∧ (s.timeFlag Reg.TIME_CAP Fld.TIME_CAP_EN → s.ringState r = 0 ∨ s.ringState r = 3 → up s t (Reg.TIME_COUNT 2) 1)
          ∧ KeepsRegs s t (fun a => a = Reg.TIME_COUNT 2 ∨ a = Reg.RING_COUNT r) ∧ Only [.time, .regs, .rings] s t))
    ∧ (hears → ¬ close → s.sys.keptReset = false → s.timeFlag Reg.TIME_CAP Fld.TIME_CAP_EN = false → s.timeFlag a Fld.TIME_EVT_CFG_ADC → s.adcOn → s.adcSeq = false → (∀ w, s.adc.trig ≠ some (s.adcCycle, w)) →
        bitAt (s.get Reg.GLEAN_CFG Fld.GLEAN_CFG_TRIG) (2 + p) = false →
        Completes (.timeEvtEdge p fine falling) s (fun t => up s t (Reg.ADC_COUNT 4) 1 ∧ t.adc = { s.adc with trig := some (s.adcCycle, 2) }
          ∧ KeepsRegs s t (fun a => a = Reg.ADC_COUNT 4) ∧ Only [.time, .regs, .adc] s t)))
  ∧ (∀ (p : Fin 4) (s : State), s.time.pins.length = 4 →
    ((s.evtPin p).pulse = none → Completes (.pinPulseEnd p) s (fun t => t = s))
    ∧ (∀ x, (s.evtPin p).pulse = some x → Completes (.pinPulseEnd p) s (fun t => t.evtPin p = { s.evtPin p with pulse := none, level := none }
        ∧ (∀ q : Fin 4, q ≠ p → t.evtPin q = s.evtPin q) ∧ Only [.time] s t)))
  ∧ (∀ (src : CmdSrc) (tb : HostRead) (s s1 : State) (ref : CmdRef) (d : List Byte) (r : Nat), issued s src 0x70 s1 ref d r →
    let i := byteAt d 36
    let inside := s1.inHostWin r (descAddr d) (descAddr d + 128)
    (inside = false → tells (Instr.almSet src tb) s s1 src ref St.BAD_BOUNDS (fun _ => False) [] (fun _ => True))
    ∧ (inside → tb = HostRead.timeout → tells (Instr.almSet src tb) s s1 src ref St.BAD_TIMEOUT (fun a => a = Reg.DMA_COUNT 0 ∨ EventRegs Ev.DMA_TIMEOUT a)
        eventParts (fun t => up s1 t (Reg.DMA_COUNT 0) 1))
    ∧ (inside → tb = HostRead.bus → tells (Instr.almSet src tb) s s1 src ref St.BAD_BUS (fun a => a = Reg.DMA_COUNT 1 ∨ EventRegs Ev.DMA_BUS a)
        eventParts (fun t => up s1 t (Reg.DMA_COUNT 1) 1))
    ∧ (∀ b, inside → tb = HostRead.data b → b.length = 128 →
      let a := AlmImage.action b
      let n := AlmImage.target b
      let op := descOpcode (AlmImage.desc b)
      let sheaf := AlmImage.bySheaf b
      let served := op ∈ blockOpcodes ∧ ((0x10 ≤ op ∧ op < 0x50) ∨ (0x60 ≤ op ∧ op ≤ 0x6B))
      let bad := 6 < a ∨ (a = 1 ∧ (3 < n ∨ s1.pinOut n = false)) ∨ (a = 2 ∧ (5 < n ∨ (n < 4 ∧ s1.pinOut n = false))) ∨ (a ≠ 1 ∧ a ≠ 2 ∧ n ≠ 0) ∨ (a = 6 ∧ ¬ served)
        ∨ (sheaf = false ∧ AlmImage.period b ≠ 0 ∧ AlmImage.period b < 1024) ∨ (sheaf = true ∧ AlmImage.key b = 2 ^ 56 - 1)
      (bad → tells (Instr.almSet src tb) s s1 src ref St.ALM_BAD_ENTRY (fun _ => False) [] (fun _ => True))
      ∧ (¬ bad → sheaf = false → 1000000000 ≤ (stampAt b 4).ns → tells (Instr.almSet src tb) s s1 src ref St.TIME_FORMAT (fun _ => False) [] (fun _ => True))
      ∧ (¬ bad → (sheaf = false → (stampAt b 4).ns < 1000000000) → (∀ e, fired s1 = some e → e.1 ≠ i) → s1.alm.last ≠ some (s1.time.tick, i) →
          let late := s1.almReached sheaf (AlmImage.key b)
          tells (Instr.almSet src tb) s s1 src ref 0 (entryRegs i) [Part.almanac] (fun t =>
            mapFind t.alm.entries i = some { image := b, ring := r, late := late, dueAt := if late then some s1.time.tick else none } ∧ shows t i b
            ∧ Answered t ref (fun c => c.late = late) ∧ (∀ j, j ≠ i → mapFind t.alm.entries j = mapFind (s1.almMark false).alm.entries j)))
      ∧ (¬ bad → (sheaf = false → (stampAt b 4).ns < 1000000000) → (∀ e ∈ s1.alm.entries, e.1 < 256) → s1.alm.last = some (s1.time.tick, i) →
          tells (Instr.almSet src tb) s s1 src ref St.ALM_FIRED (entryRegs i) [Part.almanac] (fun t => shows t i b))))
  ∧ (∀ (src : CmdSrc) (s s1 : State) (ref : CmdRef) (d : List Byte) (r : Nat), issued s src 0x71 s1 ref d r →
    let i := byteAt d 36
    (bitAt (byteAt d 37) 0 = false → (∀ e, fired s1 = some e → e.1 ≠ i) → s1.alm.last ≠ some (s1.time.tick, i) →
        tells (Instr.almCancel src) s s1 src ref 0 (fun a => a = Reg.ALM_STATUS ∨ a = Reg.ALM_STATE i) [Part.almanac] (fun t =>
          mapFind t.alm.entries i = none ∧ t.flag (Reg.ALM_STATE i) Fld.ALM_STATE_ARMED = false
          ∧ ∀ j, j ≠ i → mapFind t.alm.entries j = mapFind (s1.almMark false).alm.entries j))
    ∧ (bitAt (byteAt d 37) 0 = false → s1.alm.last = some (s1.time.tick, i) →
        tells (Instr.almCancel src) s s1 src ref St.ALM_FIRED (fun a => a = Reg.ALM_STATUS ∨ a = Reg.ALM_STATE i) [Part.almanac] (fun t => mapFind t.alm.entries i = none))
    ∧ (bitAt (byteAt d 37) 0 → fired s1 = none → (∀ j, s1.alm.last ≠ some (s1.time.tick, j)) →
        tells (Instr.almCancel src) s s1 src ref 0 (fun a => a = Reg.ALM_STATUS ∨ ∃ j < 256, a = Reg.ALM_STATE j) [Part.almanac] (fun t => ∀ j < 256,
          mapFind t.alm.entries j = none ∧ t.flag (Reg.ALM_STATE j) Fld.ALM_STATE_ARMED = false)))
  ∧ (∀ s : State, fired s = none → Completes .almanacFiring s (fun t => t.alm.execs = s.alm.execs ∧ t.alm.last = s.alm.last
      ∧ KeepsRegs s t (fun a => a = Reg.ALM_STATUS) ∧ Only [.regs, .almanac] s t))
  ∧ (∀ s : State, ((∃ j, s.alm.last = some (s.time.tick, j)) → fired s = none)
      ∧ ∀ i e, fired s = some (i, e) → e.dueAt.isSome ∧ ∀ j f, (j, f) ∈ (s.almMark false).alm.entries → f.dueAt.isSome →
          let ta := AlmImage.bySheaf e.image
          let tb := AlmImage.bySheaf f.image
          (ta = true → tb = true) ∧ (ta = tb → AlmImage.key e.image ≤ AlmImage.key f.image ∧ (AlmImage.key e.image = AlmImage.key f.image → i ≤ j)))
  ∧ (∀ (s : State) (i : Nat) (e : AlmEntry), fired s = some (i, e) → (∀ x ∈ s.alm.entries, x.1 < 256) → e.image.length = 128 → s.time.pins.length = 4 →
    let b := e.image
    let a := AlmImage.action b
    let n := AlmImage.target b
    let sheaf := AlmImage.bySheaf b
    let delayed := e.delayed = true ∨ e.dueAt ≠ some s.time.tick
    let q := s.full Reg.ALM_FIRE_SEQ
    let step := AlmImage.step b
    let key := AlmImage.key b
    let rec_ := s.flag Reg.ALM_CFG Fld.ALM_CFG_REC_EN
    let r := s.get Reg.ALM_CFG Fld.ALM_CFG_RING
    let blocked := s.sys.keptReset = true ∧ ((a = 3 ∧ AlmImage.param b % 256 ≠ 1) ∨ a = 4 ∨ a = 5 ∨ (a = 6 ∧ descOpcode (AlmImage.desc b) < 0x60))
    let fires := fun (t : State) => t.full Reg.ALM_FIRE_SEQ = (q + 1) % 2 ^ 32 ∧ up s t (Reg.ALM_COUNT 0) 1
      ∧ (up s t (Reg.ALM_COUNT 1) (if e.late then 1 else 0)) ∧ (delayed → up s t (Reg.ALM_COUNT 2) 1) ∧ (¬ delayed → t.full (Reg.ALM_COUNT 2) = s.full (Reg.ALM_COUNT 2))
      ∧ t.alm.last = some (s.time.tick, i)
      ∧ (step = 0 → mapFind t.alm.entries i = none ∧ t.flag (Reg.ALM_STATE i) Fld.ALM_STATE_ARMED = false)
      ∧ (step ≠ 0 → s.almReached sheaf (key + step) = false → (sheaf = true → key + step < 2 ^ 56 - 1) →
          mapFind t.alm.entries i = some { image := AlmImage.withKey b (key + step), ring := e.ring } ∧ shows t i (AlmImage.withKey b (key + step))
          ∧ t.full (Reg.ALM_COUNT 5) = s.full (Reg.ALM_COUNT 5))
      ∧ (step ≠ 0 → sheaf = false → s.almReached sheaf (key + step) = true → key + step < 2 ^ 48 * 65536000000000 → s.clock.ns < 1000000000 → s.clock.sec < 2 ^ 48 → s.clock.frac < 2 ^ 32 →
          ∃ m, key + m * step ≤ s.now.units ∧ s.now.units < key + (m + 1) * step
          ∧ mapFind t.alm.entries i = some { image := AlmImage.withKey b (key + (m + 1) * step), ring := e.ring } ∧ up s t (Reg.ALM_COUNT 5) m)
      ∧ (∀ j, j ≠ i → mapFind t.alm.entries j = mapFind (s.almMark false).alm.entries j)
    let recorded := fun (t : State) st => t.get (Reg.ALM_STATE i) Fld.ALM_STATE_STATUS = st
      ∧ (rec_ → s.ringState r = 1 ∨ s.ringState r = 2 → ∃ m, (t.ring r).msgs = (s.ring r).msgs ++ [m] ∧ m.producer = 0x12 ∧ m.bytes.length = 48
          ∧ m.bytes.take 2 = [0x41, 0x01] ∧ byteAt m.bytes 2 = i ∧ byteAt m.bytes 3 = a ∧ fieldAt m.bytes 4 2 = st ∧ (bitAt (byteAt m.bytes 6) 0 ↔ e.late = true)
          ∧ (bitAt (byteAt m.bytes 6) 1 ↔ delayed) ∧ bitAt (byteAt m.bytes 6) 2 = sheaf ∧ (m.bytes.drop 8).take 12 = (b.drop 4).take 12 ∧ fieldAt m.bytes 36 4 = q)
      ∧ (rec_ → s.ringState r = 0 ∨ s.ringState r = 3 → up s t (Reg.ALM_COUNT 4) 1) ∧ (¬ rec_ → t.full (Reg.ALM_COUNT 4) = s.full (Reg.ALM_COUNT 4) ∧ ∀ x, t.ring x = s.ring x)
    let regs := fun x => entryRegs i x ∨ x = Reg.ALM_FIRE_SEQ ∨ (∃ c < 6, x = Reg.ALM_COUNT c) ∨ x = Reg.RING_COUNT r
    let done := fun st (ps : List Part) (more : Nat → Prop) (p : State → Prop) => Completes .almanacFiring s (fun t => fires t ∧ recorded t st ∧ p t
      ∧ KeepsRegs s t (fun x => regs x ∨ more x) ∧ Only (([.regs, .almanac, .rings] : List Part) ++ ps) s t)
    let none_ : Nat → Prop := fun _ => False
    (blocked → done St.TARGET_IN_RESET [] none_ (fun t => up s t (Reg.ALM_COUNT 3) 1))
    ∧ (a = 0 → done 0 [] none_ (fun _ => True))
    ∧ (a = 1 ∨ a = 2 → n < 4 → s.pinDriven n = false → done 0 [] none_ (fun t => t.evtPin n = s.evtPin n))
    ∧ (a = 1 → n < 4 → s.pinDriven n → done 0 [Part.time, Part.free] none_ (fun t => ∃ x, (t.evtPin n).pulse = some (AlmImage.param b % 2 ^ 24, x) ∧ (t.evtPin n).level = none
        ∧ (delayed ∨ e.late = true ∨ sheaf = true → x = s.now)
        ∧ (¬ delayed → e.late = false → sheaf = false → ∃ k < 2, x = Stamp.ofUnits (key / 2048 * 2048 + 2048 * k) ∧ (key % 2048 = 0 → k = 0))))
    ∧ (a = 2 → n < 4 → s.pinDriven n → done 0 [Part.time] none_ (fun t => (t.evtPin n).level = some (bitAt (AlmImage.param b) 0) ∧ (t.evtPin n).pulse = none))
    ∧ (a = 2 → n = 4 → done 0 [Part.ref] none_ (fun t => t.ref = { s.ref with ppsHeld := !bitAt (AlmImage.param b) 0 }))
    ∧ (a = 2 → n = 5 → done 0 [Part.ref] none_ (fun t => t.ref = { s.ref with syncHeld := !bitAt (AlmImage.param b) 0 }))
    ∧ (a = 4 → s.sys.keptReset = false → s.adcOn → s.adcSeq = false → (∀ w, s.adc.trig ≠ some (s.adcCycle, w)) → done 0 [Part.adc] (fun x => x = Reg.ADC_COUNT 4) (fun t => up s t (Reg.ADC_COUNT 4) 1))
    ∧ (a = 5 → s.sys.keptReset = false → bitAt (s.get Reg.GLEAN_CFG Fld.GLEAN_CFG_TRIG) 1 = false → done 0 [] none_ (fun t => t.glean = s.glean))
    ∧ (a = 6 → ¬ blocked → s.ewesen = false → descVersion (AlmImage.desc b) = 2 → Completes .almanacFiring s (fun t => fires t
        ∧ (∃ x, t.alm.execs = s.alm.execs ++ [x] ∧ x.seq = q ∧ x.entry = i ∧ x.ring = e.ring ∧ x.desc = AlmImage.desc b ∧ x.taken = false)
        ∧ KeepsRegs s t regs ∧ Only [.regs, .almanac, .firings] s t)))

/-- R454–R465, R481, R482: the converter. What follows at a conversion boundary, the results of single, regular, injected and guard conversions,
the queue and its messages, urgent triggers and the ADC_INJECT command.
Where the spec leaves a point open this states the model's choice: log entries 152, 153, 154 and 229. -/
def Obligations.ConverterSequencesAndResults : Prop :=
  let up := fun (s t : State) n k => t.full (Reg.ADC_COUNT n) = min (s.full (Reg.ADC_COUNT n) + k) (2 ^ 32 - 1)
  let state := fun (t : State) => t.get Reg.ADC_STATUS Fld.ADC_STATUS_STATE
  let pending := fun (t : State) => t.flag Reg.ADC_STATUS Fld.ADC_STATUS_INJ_PENDING
  let busy := fun (t : State) => t.flag Reg.ADC_SINGLE Fld.ADC_SINGLE_BUSY
  let follows := fun (s t : State) (begun : Bool) =>
    if s.adc.guardDue = true ∧ begun = false then
      t.adc.conv = some ⟨3, s.adc.guardNext, 0, s.now⟩ ∧ t.adc.guardDue = false ∧ t.adc.guardNext = (s.adc.guardNext + 1) % 16
    else t.adc.guardDue = s.adc.guardDue ∧ t.adc.guardNext = s.adc.guardNext ∧ match t.adc.inj with
      | some e => t.adc.conv = some ⟨2, t.get (Reg.ADC_INJ_SEQ e) Fld.ADC_INJ_SEQ_CHANNEL, e, s.now⟩ ∧ state t = 2 ∧ t.adc.injBegun = true
          ∧ up s t 2 (if begun then 0 else 1)
      | none =>
        if busy t then t.adc.conv = some ⟨0, t.get Reg.ADC_SINGLE Fld.ADC_SINGLE_CHANNEL, 0, s.now⟩ ∧ state t = 3
        else if t.adc.lap then
          let e := t.get Reg.ADC_STATUS Fld.ADC_STATUS_REG_NEXT
          t.adc.conv = some ⟨1, t.get (Reg.ADC_REG_SEQ e) Fld.ADC_REG_SEQ_CHANNEL, e, s.now⟩ ∧ state t = 1
        else t.adc.conv = none ∧ state t = 0
  let nextRegs := fun a => a = Reg.ADC_STATUS ∨ a = Reg.ADC_COUNT 2
  let issued := fun (s : State) (src : CmdSrc) op (s1 : State) ref d => (∃ u r, Issued s src op u s1 ref d r)
    ∧ ∀ x ∈ s1.alm.execs, x.entry < 256
  (∀ (ch : Fin 32) (s : State),
    let starts := s.served ∧ s.adcOn ∧ s.adcSeq = false ∧ busy s = false
    (¬ starts → Completes (.adcSingleStart ch) s (fun t => t = s))
    ∧ (starts → Completes (.adcSingleStart ch) s (fun t => t.get Reg.ADC_SINGLE Fld.ADC_SINGLE_CHANNEL = ch.val ∧ busy t
        ∧ t.flag Reg.ADC_SINGLE Fld.ADC_SINGLE_START ∧ t.flag Reg.ADC_SINGLE Fld.ADC_SINGLE_DONE = false
        ∧ (s.adc.conv = none → follows s t s.adc.injBegun) ∧ (s.adc.conv.isSome → t.adc = s.adc)
        ∧ KeepsRegs s t (fun a => a = Reg.ADC_SINGLE ∨ nextRegs a) ∧ Only [.regs, .adc] s t)))
  ∧ (∀ (code : BitVec 12) (s : State), s.adc.conv = none → Completes (.conversionEnd code) s (fun t => t = s))
  ∧ (∀ (code : BitVec 12) (s : State) (c : Conv), s.adc.conv = some c → c.channel < 32 → c.entry < 32 → s.adcDma = false →
    let full := 64 ≤ s.adc.queue.length
    let word := code.toNat + c.channel * 2 ^ 12 + c.kind * 2 ^ 17 + c.entry * 2 ^ 19
    let queued := fun (t : State) =>
      (¬ full → t.adc.queue = s.adc.queue ++ [(word, c.time)] ∧ t.adc.losing = false ∧ t.get Reg.ADC_STATUS Fld.ADC_STATUS_LEVEL = s.adc.queue.length + 1)
      ∧ (full → t.adc.queue = s.adc.queue ∧ up s t 0 1 ∧ (s.adc.losing = false → Counted s t Ev.ADC_QUEUE_FULL) ∧ t.adc.losing)
    let queueRegs := fun a => a = Reg.ADC_COUNT 0 ∨ EventRegs Ev.ADC_QUEUE_FULL a
    let parts := ([.adc] : List Part) ++ eventParts
    (c.kind = 0 → Completes (.conversionEnd code) s (fun t => t.get Reg.ADC_SINGLE Fld.ADC_SINGLE_RESULT = code.toNat ∧ t.flag Reg.ADC_SINGLE Fld.ADC_SINGLE_DONE
        ∧ busy t = false ∧ t.flag Reg.ADC_SINGLE Fld.ADC_SINGLE_START = false ∧ queued t ∧ follows s t s.adc.injBegun
        ∧ KeepsRegs s t (fun a => a = Reg.ADC_SINGLE ∨ queueRegs a ∨ nextRegs a) ∧ Only parts s t))
    ∧ (c.kind = 1 → Completes (.conversionEnd code) s (fun t => queued t ∧ follows s t s.adc.injBegun
        ∧ (let more := c.entry + 1 < s.get Reg.ADC_CFG Fld.ADC_CFG_REG_LEN
           let runs := s.adcOn = true ∧ s.adc.lap = true
           (runs → more → t.get Reg.ADC_STATUS Fld.ADC_STATUS_REG_NEXT = c.entry + 1 ∧ t.adc.lap)
           ∧ (runs → ¬ more → t.get Reg.ADC_STATUS Fld.ADC_STATUS_REG_NEXT = 0 ∧ t.adc.lapDue = false
              ∧ (t.adc.lap ↔ s.get Reg.ADC_REG_PERIOD Fld.ADC_REG_PERIOD_PERIOD = 0 ∨ s.adc.lapDue))
           ∧ (¬ runs → t.get Reg.ADC_STATUS Fld.ADC_STATUS_REG_NEXT = s.get Reg.ADC_STATUS Fld.ADC_STATUS_REG_NEXT ∧ t.adc.lap = s.adc.lap))
        ∧ KeepsRegs s t (fun a => queueRegs a ∨ nextRegs a) ∧ Only parts s t))
    ∧ (c.kind = 2 → s.adc.injBegun = true → c.entry + 1 < s.get Reg.ADC_CFG Fld.ADC_CFG_INJ_LEN → Completes (.conversionEnd code) s (fun t =>
        queued t ∧ t.adc.inj = some (c.entry + 1) ∧ follows s t true ∧ KeepsRegs s t (fun a => queueRegs a ∨ nextRegs a) ∧ Only parts s t))
    ∧ (c.kind = 2 → s.adc.injBegun = false → Completes (.conversionEnd code) s (fun t =>
        queued t ∧ t.adc.inj = s.adc.inj ∧ follows s t false ∧ KeepsRegs s t (fun a => queueRegs a ∨ nextRegs a) ∧ Only parts s t))
    ∧ (∀ r id, c.kind = 2 → s.adc.injBegun = true → s.get Reg.ADC_CFG Fld.ADC_CFG_INJ_LEN ≤ c.entry + 1 → s.adc.injRefs = [CmdRef.slot r id] → Awaits s (CmdRef.slot r id) →
        Completes (.conversionEnd code) s (fun t => queued t ∧ Answered t (CmdRef.slot r id) (fun x => x.status = 0) ∧ pending t = false
          ∧ (pending s → t.adc.inj = some 0 ∧ t.adc.injRefs = s.adc.pendRefs) ∧ (pending s = false → t.adc.inj = none ∧ t.adc.injRefs = []) ∧ t.adc.pendRefs = []
          ∧ follows s t false ∧ KeepsRegs s t (fun a => queueRegs a ∨ nextRegs a) ∧ Only (parts ++ [Part.rings]) s t))
    ∧ (c.kind = 3 → c.channel < 16 →
        let warn : Int := s.adcGet Reg.ADC_THERM Fld.ADC_THERM_WARN_C
        let trip0 := s.adcGet Reg.ADC_THERM Fld.ADC_THERM_TRIP_C
        let trip : Int := if s.adcGet Reg.ADC_THERM Fld.ADC_THERM_WARN_C < trip0 ∧ trip0 ≤ 125 then trip0 else 115
        let v : Int := code.toNat - 1024
        let was := c.channel ∈ s.adc.warm
        let hot := c.channel ∈ s.adc.hot
        (v < 16 * trip ∨ ¬ hot → Completes (.conversionEnd code) s (fun t => toS 16 (t.get (Reg.ADC_TEMP c.channel) Fld.ADC_TEMP_T16) = v
          ∧ (16 * warn ≤ v → ¬ was → Counted s t Ev.THERM_WARN) ∧ t.adc.queue = s.adc.queue
          ∧ (c.channel ∈ t.adc.warm ↔ 16 * warn ≤ v ∨ (was ∧ 16 * (warn - 5) ≤ v)) ∧ (c.channel ∈ t.adc.hot ↔ 16 * trip ≤ v) ∧ follows s t s.adc.injBegun
          ∧ KeepsRegs s t (fun a => a = Reg.ADC_TEMP c.channel ∨ EventRegs Ev.THERM_WARN a ∨ nextRegs a) ∧ Only parts s t))
        ∧ (16 * trip ≤ v → hot → s.sys.tripped = false → ¬ (s.twinOn ∧ s.role = 1) → Completes (.conversionEnd code) s (fun t => t.sys.tripped
            ∧ Counted s t Ev.THERM_TRIP ∧ t.get Reg.GLB_STATUS Fld.GLB_STATUS_STATE = 3 ∧ t.isReady = false ∧ t.pins.ready = false
            ∧ ∀ k < 96, s.linkOn k → s.linkBidir k → (t.link k).ramp = Ramp.falling))))
  ∧ (∀ s : State,
    (s.get Reg.GLB_STATUS Fld.GLB_STATUS_STAGE < 2 → Completes .guardConversionDue s (fun t => t = s))
    ∧ (2 ≤ s.get Reg.GLB_STATUS Fld.GLB_STATUS_STAGE → Completes .guardConversionDue s (fun t =>
        (s.adc.conv.isSome → t.adc = { s.adc with guardDue := true } ∧ Only [.adc] s t)
        ∧ (s.adc.conv = none → follows { s with adc := { s.adc with guardDue := true } } t s.adc.injBegun ∧ KeepsRegs s t nextRegs ∧ Only [.regs, .adc] s t))))
  ∧ (∀ s : State,
    let due := s.adcOn ∧ s.adcSeq ∧ s.get Reg.ADC_REG_PERIOD Fld.ADC_REG_PERIOD_PERIOD ≠ 0
    (¬ due → Completes .regLapDue s (fun t => t = s))
    ∧ (due → s.adc.lap → Completes .regLapDue s (fun t => t.adc = { s.adc with lapDue := true } ∧ up s t 3 1
        ∧ KeepsRegs s t (fun a => a = Reg.ADC_COUNT 3) ∧ Only [.regs, .adc] s t))
    ∧ (due → s.adc.lap = false → Completes .regLapDue s (fun t => t.adc.lap ∧ (s.adc.conv = none → follows s t s.adc.injBegun)
        ∧ (s.adc.conv.isSome → t.adc = { s.adc with lap := true }) ∧ KeepsRegs s t nextRegs ∧ Only [.regs, .adc] s t)))
  ∧ (∀ (src : CmdSrc) (s s1 : State) (ref : CmdRef) (d : List Byte), issued s src 0x74 s1 ref d →
    let i := Instr.adcInject src
    let tells := fun st (regs : Nat → Prop) (ps : List Part) (p : State → Prop) => Completes i s (fun t => Answered t ref (fun c => c.status = st) ∧ p t
      ∧ KeepsRegs s1 t (fun a => regs a ∨ AnswerRegs s1 src a) ∧ Only (answerParts ++ ps) s1 t)
    let fresh := ∀ w, s1.adc.trig ≠ some (s1.adcCycle, w)
    (s1.adcOn = false → tells St.ADC_NOT_SEQ (fun _ => False) [] (fun t => t.adc = s1.adc))
    ∧ (s1.adcOn → s1.adcSeq = false → fresh → tells St.ADC_NOT_SEQ (fun a => a = Reg.ADC_COUNT 4) [Part.adc]
        (fun t => up s1 t 4 1 ∧ t.adc = { s1.adc with trig := some (s1.adcCycle, 2) }))
    ∧ (s1.adcOn → s1.adcSeq = false → ¬ fresh → tells St.ADC_NOT_SEQ (fun _ => False) [] (fun t => t.adc = s1.adc))
    ∧ (s1.adcOn → s1.adcSeq → fresh → s1.adc.inj = none → Completes i s (fun t => t.adc.inj = some 0 ∧ t.adc.injRefs = [ref]
        ∧ (s1.adc.conv = none → follows s1 t false) ∧ (s1.adc.conv.isSome → t.adc.conv = s1.adc.conv ∧ t.adc.injBegun = false)
        ∧ KeepsRegs s1 t nextRegs ∧ Only [.regs, .adc, .rings] s1 t))
    ∧ (s1.adcOn → s1.adcSeq → fresh → s1.adc.inj.isSome → pending s1 = false → Completes i s (fun t => pending t
        ∧ t.adc = { s1.adc with pendRefs := [ref], trig := some (s1.adcCycle, 1) }
        ∧ KeepsFields s1 t Reg.ADC_STATUS [Fld.ADC_STATUS_INJ_PENDING] ∧ KeepsRegs s1 t (fun a => a = Reg.ADC_STATUS) ∧ Only [.regs, .adc, .rings] s1 t))
    ∧ (s1.adcOn → s1.adcSeq → fresh → s1.adc.inj.isSome → pending s1 → tells St.ADC_INJ_LOST (fun a => a = Reg.ADC_COUNT 1 ∨ EventRegs Ev.ADC_INJ_LOST a)
        (([.adc] : List Part) ++ eventParts) (fun t => up s1 t 1 1 ∧ Counted s1 t Ev.ADC_INJ_LOST ∧ t.adc = { s1.adc with trig := some (s1.adcCycle, 2) }))
    ∧ (∀ w, s1.adcOn → s1.adcSeq → s1.adc.trig = some (s1.adcCycle, w) →
        (w = 0 → Completes i s (fun t => t.adc = { s1.adc with injRefs := s1.adc.injRefs ++ [ref] } ∧ Only [.adc, .rings] s1 t))
        ∧ (w = 1 → Completes i s (fun t => t.adc = { s1.adc with pendRefs := s1.adc.pendRefs ++ [ref] } ∧ Only [.adc, .rings] s1 t))
        ∧ (2 ≤ w → tells St.ADC_INJ_LOST (fun _ => False) [] (fun t => t.adc = s1.adc))))
  ∧ (∀ s : State,
    let r := s.adcRing
    let n := max 1 (min 64 (s.adcGet Reg.ADC_CFG Fld.ADC_CFG_BATCH))
    (s.adc.queue = [] ∨ s.adcDma = false ∨ s.ringTakes r = false → Completes .adcBatchTimeout s (fun t => t = s))
    ∧ (s.adc.queue ≠ [] → s.adcDma → s.ringTakes r → Completes .adcBatchTimeout s (fun t =>
        t.adc = { s.adc with queue := s.adc.queue.drop n } ∧ t.get Reg.ADC_STATUS Fld.ADC_STATUS_LEVEL = (s.adc.queue.length - n) % 128
        ∧ (s.ringState r = 1 ∨ s.ringState r = 2 → ∃ m, (t.ring r).msgs = (s.ring r).msgs ++ [m] ∧ m.producer = 0x13 ∧ m.bytes.take 2 = [0x61, 0x01]
            ∧ byteAt m.bytes 2 = min n s.adc.queue.length ∧ m.bytes.length = 16 + 8 * min n s.adc.queue.length
            ∧ ∀ j w x, (s.adc.queue.take n)[j]? = some (w, x) → fieldAt m.bytes (16 + 8 * j) 4 = w % 2 ^ 32
              ∧ fieldAt m.bytes (20 + 8 * j) 4 = (x.sec * 1000000000 + x.ns) % 2 ^ 32)
        ∧ KeepsRegs s t (fun a => a = Reg.ADC_STATUS ∨ a = Reg.RING_COUNT r) ∧ Only [.regs, .adc, .rings] s t)))
  ∧ (∀ s : State,
    (s.isReady = false ∨ s.adcDma ∨ s.adc.queue = [] → Completes .adcQueueEntryRead s (fun t => t.readData = 0 ∧ Only [.readData] s t))
    ∧ (∀ w x rest, s.isReady → s.adcDma = false → s.adc.queue = (w, x) :: rest → w < 2 ^ 24 →
        Completes .adcQueueEntryRead s (fun t => t.readData.toNat = w + 2 ^ 31 ∧ t.full Reg.ADC_QUEUE_TIME = (x.sec * 1000000000 + x.ns) % 2 ^ 32
          ∧ t.adc = { s.adc with queue := rest } ∧ t.get Reg.ADC_STATUS Fld.ADC_STATUS_LEVEL = rest.length % 128
          ∧ KeepsFields s t Reg.ADC_STATUS [Fld.ADC_STATUS_LEVEL] ∧ KeepsRegs s t (fun a => a = Reg.ADC_QUEUE_TIME ∨ a = Reg.ADC_STATUS)
          ∧ Only [.regs, .readData, .adc] s t)))

/-- R472–R481: DAC channels. One slew step, the strobes, DAC_CLEAR_N, and the commands DAC_SET, DAC_PARK and DAC_RANGE.
Where the spec leaves a point open this states the model's choice: log entries 155 and 229. -/
def Obligations.DacChannels : Prop :=
  let up := fun (s t : State) n k => t.full (Reg.DAC_COUNT n) = min (s.full (Reg.DAC_COUNT n) + k) (2 ^ 32 - 1)
  let valid := fun (t : State) c => t.flag (Reg.DAC_CH_PEND c) Fld.DAC_CH_PEND_VALID
  let code := fun (t : State) c => t.get (Reg.DAC_CH_PEND c) Fld.DAC_CH_PEND_CODE
  let slews := fun (s : State) c => s.dacQuiet c = true ∨ bitAt s.sys.slewEn c = true
  let fresh := fun (s : State) => ∀ w, s.dac.strobe ≠ some (s.time.tick / 25, w)
  let zero := fun (s : State) c => if s.dacRange c = 2 then 0x8000 else 0
  let clear := fun (t : State) => t.flag Reg.DAC_STATUS Fld.DAC_STATUS_CLEAR
  let aims := fun (s t : State) c v (fast : Prop) => t.dacTarget c = v
    ∧ (bitAt s.dac.parking c = false → s.dacParked c = false → slews s c → ¬ fast → t.dacOut c = s.dacOut c ∧ (t.dacSlewing c ↔ s.dacOut c ≠ v))
    ∧ (bitAt s.dac.parking c = false → s.dacParked c = false → (¬ slews s c ∨ (fast ∧ s.dacQuiet c = false)) → t.dacOut c = v ∧ t.dacSlewing c = false)
    ∧ (s.dacParked c → t.dacOut c = s.dacOut c ∧ t.dacSlewing c = s.dacSlewing c) ∧ t.dacParked c = s.dacParked c
  let still := fun (s t : State) c => t.dacTarget c = s.dacTarget c ∧ t.dacOut c = s.dacOut c ∧ t.dacParked c = s.dacParked c ∧ t.dacSlewing c = s.dacSlewing c
  let quietPark := fun (s : State) => ∀ c < 8, bitAt s.dac.parking c = false
  let strobes := fun (s t : State) (m : Nat → Prop) => (fresh s → up s t 0 1) ∧ (¬ fresh s → up s t 0 0) ∧ ∀ c < 8,
    let acts := m c ∧ ¬ (c = 0 ∧ s.dacOwned = true) ∧ ¬ (clear s = true ∧ s.dacObeys c = true) ∧ valid s c = true
    (acts → aims s t c (code s c) False ∧ valid t c = false ∧ bitAt (t.get Reg.DAC_STATUS Fld.DAC_STATUS_PENDING) c = false)
    ∧ (¬ acts → still s t c ∧ valid t c = valid s c)
  let ignored := fun (s t : State) (m : Nat → Prop) => 
    let some_ := clear s = true ∧ ∃ c < 8, m c ∧ ¬ (c = 0 ∧ s.dacOwned = true) ∧ s.dacObeys c = true
    (some_ → s.dac.strobe ≠ some (s.time.tick / 25, true) → up s t 1 1) ∧ (¬ some_ ∨ s.dac.strobe = some (s.time.tick / 25, true) → up s t 1 0)
  let regs := fun a => a = Reg.DAC_STATUS ∨ (∃ c < 8, a = Reg.DAC_CH_CODE c ∨ a = Reg.DAC_CH_PEND c)
  let counts := fun a => a = Reg.DAC_COUNT 0 ∨ a = Reg.DAC_COUNT 1
  let issued := fun (s : State) (src : CmdSrc) op (s1 : State) ref d => (∃ u r, Issued s src op u s1 ref d r)
    ∧ ∀ x ∈ s1.alm.execs, x.entry < 256
  let tells := fun (i : Instr) (s s1 : State) (src : CmdSrc) ref st (regs : Nat → Prop) (ps : List Part) (p : State → Prop) => Completes i s (fun t =>
    Answered t ref (fun c => c.status = st) ∧ p t ∧ KeepsRegs s1 t (fun a => regs a ∨ AnswerRegs s1 src a) ∧ Only (answerParts ++ ps) s1 t)
  (∀ (c : Fin 8) (s : State),
    let o := s.dacOut c
    let goal := if bitAt s.dac.parking c then zero s c else s.dacTarget c
    let step := s.get (Reg.DAC_CH_SLEW c) Fld.DAC_CH_SLEW_STEP_M1 + 1
    (s.dacSlewing c = false → Completes (.dacSlewStep c) s (fun t => t = s))
    ∧ (s.dacSlewing c → bitAt s.dac.reload c = false → s.dac.cmds = [] → (c.val = 0 → s.dacOwned = false) → Completes (.dacSlewStep c) s (fun t =>
        (o < goal → t.dacOut c = min goal (o + step)) ∧ (goal ≤ o → t.dacOut c = max goal (o - step)) ∧ t.dacTarget c = s.dacTarget c
        ∧ (t.dacSlewing c ↔ t.dacOut c ≠ goal) ∧ (t.dacParked c ↔ s.dacParked c ∨ (bitAt s.dac.parking c ∧ t.dacOut c = goal))
        ∧ (bitAt t.dac.parking c ↔ bitAt s.dac.parking c ∧ t.dacOut c ≠ goal)
        ∧ ((∀ b < 8, t.dacSlewing b = false) → (∃ b < 8, t.dacParked b = false) → t.flag Reg.DAC_STATUS Fld.DAC_STATUS_READY)
        ∧ (∀ b : Fin 8, b ≠ c → still s t b) ∧ KeepsFields s t Reg.DAC_STATUS [Fld.DAC_STATUS_SLEWING, Fld.DAC_STATUS_PARKED, Fld.DAC_STATUS_READY]
        ∧ KeepsRegs s t (fun a => a = Reg.DAC_STATUS ∨ a = Reg.DAC_CH_CODE c) ∧ Only [.regs, .dac] s t))
    ∧ (∀ r id, s.dacSlewing c → s.dac.cmds = [(CmdRef.slot r id, 2 ^ c.val, true)] → Awaits s (CmdRef.slot r id) → bitAt s.dac.parking c → bitAt s.dac.reload c = false →
        (c.val = 0 → s.dacOwned = false) → (if o < zero s c then zero s c ≤ o + step else o ≤ zero s c + step) →
        Completes (.dacSlewStep c) s (fun t => t.dacParked c ∧ t.dacOut c = zero s c ∧ Answered t (CmdRef.slot r id) (fun x => x.status = 0) ∧ t.dac.cmds = []))
    ∧ (c.val = 0 → s.dacOwned → s.dacSlewing c → clear s = false → s.dac.cmds = [] → bitAt s.dac.parking c = false → s.refState ≠ 3 →
        Completes (.dacSlewStep c) s (fun t => t.ref = { s.ref with efcSum := s.ref.efcSum + ((t.dacOut c : Int) - o) })))
  ∧ (∀ s : State, s.dac.cmds = [] → quietPark s →
    let every : Nat → Prop := fun _ => True
    Completes .ldacNFall s (fun t => t.pins = { s.pins with ldacN := false } ∧ strobes s t every ∧ ignored s t every
        ∧ KeepsRegs s t (fun a => regs a ∨ counts a) ∧ Only [.regs, .dac, .pins] s t)
    ∧ (s.served → Completes .dacCtlLoad s (fun t => strobes s t every ∧ ignored s t every ∧ KeepsRegs s t (fun a => regs a ∨ counts a) ∧ Only [.regs, .dac] s t)))
  ∧ (∀ s : State, s.served = false → Completes .dacCtlLoad s (fun t => t = s))
  ∧ (∀ s : State, s.dac.cmds = [] → quietPark s →
    Completes .dacClearNAssert s (fun t => clear t ∧ t.pins.dacClearN = false
      ∧ (∀ c < 8, s.dacObeys c → aims s t c (s.get (Reg.DAC_CH_CFG c) Fld.DAC_CH_CFG_CLEAR) (bitAt s.sys.dacCfg.toNat 0 = true))
      ∧ (∀ c < 8, s.dacObeys c = false → still s t c) ∧ (∀ c < 8, valid t c = valid s c)
      ∧ KeepsRegs s t (fun a => a = Reg.DAC_STATUS ∨ ∃ c < 8, a = Reg.DAC_CH_CODE c) ∧ Only [.regs, .dac, .pins] s t))
  ∧ (∀ s : State, Completes .dacClearNRelease s (fun t => clear t = false ∧ t.pins = { s.pins with dacClearN := true }
      ∧ KeepsFields s t Reg.DAC_STATUS [Fld.DAC_STATUS_CLEAR] ∧ KeepsRegs s t (fun a => a = Reg.DAC_STATUS) ∧ Only [.regs, .pins] s t))
  ∧ (∀ (src : CmdSrc) (s s1 : State) (ref : CmdRef) (d : List Byte),
    let m := byteAt d 36
    let owned := bitAt m 0 = true ∧ s1.dacOwned = true
    let refused := fun i => tells i s s1 src ref St.DAC_OWNED (fun a => a = Reg.DAC_COUNT 2) [] (fun t => up s1 t 2 1)
    (owned → (issued s src 0x75 s1 ref d → refused (Instr.dacSet src)) ∧ (issued s src 0x76 s1 ref d → refused (Instr.dacPark src))
      ∧ (issued s src 0x77 s1 ref d → refused (Instr.dacRange src)))
    ∧ (issued s src 0x75 s1 ref d → ¬ owned → bitAt (byteAt d 37) 0 = false → tells (Instr.dacSet src) s s1 src ref 0
        (fun a => a = Reg.DAC_STATUS ∨ ∃ c < 8, bitAt m c ∧ a = Reg.DAC_CH_PEND c) [] (fun t => ∀ c < 8, still s1 t c
          ∧ (bitAt m c → code t c = fieldAt d (40 + 2 * c) 2 ∧ valid t c ∧ bitAt (t.get Reg.DAC_STATUS Fld.DAC_STATUS_PENDING) c)
          ∧ (bitAt m c = false → valid t c = valid s1 c ∧ code t c = code s1 c)))
    ∧ (issued s src 0x75 s1 ref d → ¬ owned → bitAt (byteAt d 37) 0 → s1.dac.cmds = [] → quietPark s1 → tells (Instr.dacSet src) s s1 src ref 0
        (fun a => regs a ∨ counts a) [Part.dac] (fun t => (fresh s1 → up s1 t 0 1) ∧ (¬ fresh s1 → up s1 t 0 0) ∧ ∀ c < 8, bitAt m c → ¬ (clear s1 = true ∧ s1.dacObeys c = true) →
          aims s1 t c (fieldAt d (40 + 2 * c) 2) False ∧ valid t c = false))
    ∧ (issued s src 0x77 s1 ref d → ¬ owned → 2 < byteAt d 37 → tells (Instr.dacRange src) s s1 src ref St.BAD_PARAM (fun _ => False) [] (fun _ => True))
    ∧ (issued s src 0x77 s1 ref d → ¬ owned → byteAt d 37 ≤ 2 → (∃ c < 8, bitAt m c ∧ s1.dacParked c = false) →
        tells (Instr.dacRange src) s s1 src ref St.DAC_RANGE_BUSY (fun a => a = Reg.DAC_COUNT 3) [] (fun t => up s1 t 3 1))
    ∧ (issued s src 0x77 s1 ref d → ¬ owned → byteAt d 37 ≤ 2 → (∀ c < 8, bitAt m c → s1.dacParked c) →
        tells (Instr.dacRange src) s s1 src ref 0 (fun a => a = Reg.DAC_STATUS ∨ ∃ c < 8, bitAt m c ∧ (a = Reg.DAC_CH_CFG c ∨ a = Reg.DAC_CH_CODE c ∨ a = Reg.DAC_CH_PEND c)) []
          (fun t => ∀ c < 8, bitAt m c → t.dacRange c = byteAt d 37 ∧ t.dacTarget c = (if byteAt d 37 = 2 then 0x8000 else 0) ∧ valid t c = false
            ∧ t.dacOut c = s1.dacOut c ∧ t.dacParked c))
    ∧ (issued s src 0x76 s1 ref d → ¬ owned → s1.dac.cmds = [] → quietPark s1 → (∀ c < 8, bitAt s1.dac.reload c = false) →
        let park := bitAt (byteAt d 37) 0
        let parks := fun (t : State) => ∀ c < 8,
          (bitAt m c = false → still s1 t c)
          ∧ (bitAt m c → park → s1.dacParked c = false → s1.dacOut c = zero s1 c ∨ ¬ slews s1 c → t.dacParked c ∧ t.dacOut c = zero s1 c ∧ t.dacSlewing c = false)
          ∧ (bitAt m c → park → s1.dacParked c = false → s1.dacOut c ≠ zero s1 c → slews s1 c → t.dacParked c = false ∧ bitAt t.dac.parking c ∧ t.dacSlewing c
              ∧ t.dacOut c = s1.dacOut c)
          ∧ (bitAt m c → park = false → s1.dacParked c → t.dacParked c = false
              ∧ (slews s1 c → t.dacOut c = zero s1 c ∧ (s1.dacTarget c ≠ zero s1 c → t.dacSlewing c)) ∧ (¬ slews s1 c → t.dacOut c = s1.dacTarget c ∧ t.dacSlewing c = false))
        let wait := ∃ c < 8, bitAt m c ∧ s1.dacParked c = false ∧ park = true ∧ s1.dacOut c ≠ zero s1 c ∧ slews s1 c
        let at_ := ∀ c < 8, bitAt m c → (park = true → s1.dacParked c = true ∨ s1.dacOut c = zero s1 c ∨ ¬ slews s1 c)
          ∧ (park = false → (s1.dacParked c = true ∧ (¬ slews s1 c ∨ s1.dacTarget c = zero s1 c)) ∨ (s1.dacParked c = false ∧ s1.dacSlewing c = false))
        let moved := fun a => a = Reg.DAC_STATUS ∨ ∃ c < 8, bitAt m c ∧ a = Reg.DAC_CH_CODE c
        (wait → Completes (.dacPark src) s (fun t => parks t ∧ t.dac.cmds = [(ref, m, park)] ∧ KeepsRegs s1 t moved ∧ Only [.regs, .dac, .rings] s1 t))
        ∧ (at_ → tells (Instr.dacPark src) s s1 src ref 0 moved [Part.dac] (fun t => parks t ∧ t.dac.cmds = []))))

/-- R466–R471: a period of the voltage loop, the end of an AVSBus transaction, FREEZE, and droop stretching.
Where the spec leaves a point open this states the model's choice: log entry 156. -/
def Obligations.VoltageScaling : Prop :=
  let up := fun (s t : State) n k => t.full (Reg.AVS_COUNT n) = min (s.full (Reg.AVS_COUNT n) + k) (2 ^ 32 - 1)
  let n := fun (t : State) => t.get Reg.AVS_STATUS Fld.AVS_STATUS_N
  let limit := fun (t : State) a => bitAt (t.get Reg.AVS_STATUS Fld.AVS_STATUS_AT_LIMIT) a
  let frozen := fun (s : State) => s.flag Reg.AVS_CFG Fld.AVS_CFG_FREEZE
  let sure := fun (t : State) a => t.flag (Reg.AVS_RAIL a) Fld.AVS_RAIL_CONFIRMED
  let rails := fun (p : Nat → Prop) => ∀ a < 4, p a
  (∀ (s : State), (s.sys.quiet → s.avsNeed = 16) ∧ (s.sys.quiet = false → 12 ≤ s.avsNeed ∧ s.avsNeed ≤ 16
      ∧ ∀ p q, s.avs.load = (p, q) → 0 < p → 0 < q → min (16 * q) (16 * p + q) ≤ s.avsNeed * q))
  ∧ (∀ (slack : List Nat) (s : State), s.sys.fwUp = false → Completes (.avsPeriod slack) s (fun t => t = s))
  ∧ (∀ (slack : List Nat) (s : State), s.sys.fwUp → frozen s → s.avs.nWait = none → s.avsNeed ≤ n s → Completes (.avsPeriod slack) s (fun t =>
      t.flag Reg.AVS_CFG Fld.AVS_CFG_FREEZE_ACK ∧ n t = n s ∧ t.out.avs = s.out.avs ∧ KeepsFields s t Reg.AVS_CFG [Fld.AVS_CFG_FREEZE_ACK]
      ∧ KeepsRegs s t (fun a => a = Reg.AVS_CFG) ∧ Only [.regs] s t))
  ∧ (∀ (slack : List Nat) (s : State), s.sys.fwUp → frozen s = false → s.railMv 4 ≠ 0 → s.avs.nWait = none → s.avsNeed = n s →
      Completes (.avsPeriod slack) s (fun t =>
        let next := fun a =>
          let v := s.railMv a
          let lo := s.get (Reg.AVS_RAIL a) Fld.AVS_RAIL_V_MIN_MV
          let hi := s.get (Reg.AVS_RAIL a) Fld.AVS_RAIL_V_MAX_MV
          let x := slack.getD a 0
          if x < s.avsSlo then max v (min hi (v + 5)) else if s.avsShi < x then min v (max lo (v - 5)) else v
        let runs := fun a => !s.railOut a && decide (s.railMv a ≠ 0)
        rails (fun a => (runs a = false → t.railMv a = s.railMv a ∧ limit t a = limit s a) ∧ (runs a = true → t.railMv a = next a
          ∧ (limit t a ↔ next a ≤ s.get (Reg.AVS_RAIL a) Fld.AVS_RAIL_V_MIN_MV ∨ s.get (Reg.AVS_RAIL a) Fld.AVS_RAIL_V_MAX_MV ≤ next a)
          ∧ (sure t a = (sure s a && decide (next a = s.railMv a)))))
        ∧ t.out.avs = s.out.avs ++ (List.range 4).flatMap (fun a => if s.railOut a then [] else if s.railMv a = 0 then [(a, none)]
            else if next a = s.railMv a then [] else [(a, some (next a))])
        ∧ up s t 1 ((List.range 4).filter (fun a => runs a && decide (s.railMv a < next a))).length
        ∧ up s t 2 ((List.range 4).filter (fun a => runs a && decide (next a < s.railMv a))).length
        ∧ n t = n s ∧ t.railMv 4 = s.railMv 4
        ∧ KeepsRegs s t (fun a => (∃ r < 4, a = Reg.AVS_RAIL r) ∨ a = Reg.AVS_STATUS ∨ a = Reg.AVS_COUNT 1 ∨ a = Reg.AVS_COUNT 2 ∨ EventRegs Ev.AVS_LIMIT a)
        ∧ t.avs = { s.avs with last := t.avs.last }
        ∧ (s.avs.last.length = 5 → rails (fun a => t.avs.last.getD a none = if s.railOut a = true ∨ (s.railMv a ≠ 0 ∧ next a = s.railMv a) then s.avs.last.getD a none
            else if s.railMv a = 0 then none else some (next a)))
        ∧ Only (([.outAvs, .avs] : List Part) ++ eventParts) s t))
  ∧ (∀ (slack : List Nat) (s : State), s.sys.fwUp → s.avs.nWait = none →
      (s.avsNeed < n s → frozen s = false → rails (fun a => s.railOut a = false) → s.railMv 4 ≠ 0 → Completes (.avsPeriod slack) s (fun t =>
        n t = s.avsNeed ∧ mapFind t.avs.recorded (n s) = some ((List.range 4).map s.railMv) ∧ t.avs.nWait = none))
      ∧ (s.avsNeed < n s → (∃ a < 4, s.railOut a = true) → Completes (.avsPeriod slack) s (fun t => n t = n s))
      ∧ (n s < s.avsNeed → frozen s → mapFind s.avs.recorded s.avsNeed = none → (∃ a < 4, sure s a = false) → Completes (.avsPeriod slack) s (fun t =>
          n t = n s ∧ t.avs.nWait = some s.avsNeed
          ∧ t.out.avs = s.out.avs ++ ((List.range 4).filter (fun a => !sure s a)).map (fun a => (a, none)) ∧ rails (fun a => t.railMv a = s.railMv a))))
  ∧ (∀ (a : Fin 5) (mv : Fin 1024) (s : State), s.avs.tries.length = 5 → s.avs.confirmed.length = 5 → s.avs.nWait = none →
      Completes (.avsTransactionEnd a (some mv)) s (fun t =>
        t.railMv a = (if s.railMv a = 0 then mv.val else s.railMv a) ∧ (sure t a ↔ t.railMv a = mv.val) ∧ t.railOut a = false
        ∧ t.avs = { s.avs with tries := s.avs.tries.set a 0, confirmed := s.avs.confirmed.set a mv } ∧ (∀ b : Fin 5, b ≠ a → t.railOut b = s.railOut b)
        ∧ KeepsRegs s t (fun x => x = Reg.AVS_RAIL a ∨ x = Reg.AVS_STATUS) ∧ Only [.regs, .avs] s t))
  ∧ (∀ (a : Fin 5) (mv : Fin 1024) (s : State) (k : Nat), s.avs.nWait = some k → k < 32 → s.railMv a = mv.val → a.val < 4 →
      rails (fun b => b = a.val ∨ sure s b = true) → Completes (.avsTransactionEnd a (some mv)) s (fun t => n t = k ∧ t.avs.nWait = none))
  ∧ (∀ (a : Fin 5) (s : State), s.avs.tries.length = 5 →
      (s.avs.tries.getD a 0 < 3 → Completes (.avsTransactionEnd a none) s (fun t => up s t 3 1 ∧ t.out.avs = s.out.avs ++ [(a.val, s.avs.last.getD a none)]
        ∧ t.avs = { s.avs with tries := s.avs.tries.set a (s.avs.tries.getD a 0 + 1) } ∧ KeepsRegs s t (fun x => x = Reg.AVS_COUNT 3) ∧ Only [.regs, .avs, .outAvs] s t))
      ∧ (3 ≤ s.avs.tries.getD a 0 → Completes (.avsTransactionEnd a none) s (fun t => t.railOut a ∧ Counted s t Ev.AVS_BUS_ERR
        ∧ t.railMv a = s.avs.confirmed.getD a 0 % 1024 ∧ t.avs = { s.avs with tries := s.avs.tries.set a 0 } ∧ n t = n s
        ∧ KeepsRegs s t (fun x => x = Reg.AVS_RAIL a ∨ x = Reg.AVS_STATUS ∨ EventRegs Ev.AVS_BUS_ERR x) ∧ Only (([.avs] : List Part) ++ eventParts) s t)))
  ∧ (∀ (on : Bool) (s : State),
    (s.served = false → Completes (.avsCfgFreeze on) s (fun t => t = s))
    ∧ (s.served → Completes (.avsCfgFreeze on) s (fun t => frozen t = on ∧ (on = false → t.flag Reg.AVS_CFG Fld.AVS_CFG_FREEZE_ACK = false)
        ∧ (on → t.flag Reg.AVS_CFG Fld.AVS_CFG_FREEZE_ACK = s.flag Reg.AVS_CFG Fld.AVS_CFG_FREEZE_ACK)
        ∧ KeepsFields s t Reg.AVS_CFG [Fld.AVS_CFG_FREEZE, Fld.AVS_CFG_FREEZE_ACK] ∧ KeepsRegs s t (fun a => a = Reg.AVS_CFG) ∧ Only [.regs] s t)))
  ∧ (∀ (a : Fin 4) (s : State),
    Completes (.droopDetect a) s (fun t => (∀ b, b ∈ t.avs.droop ↔ b = a.val ∨ b ∈ s.avs.droop) ∧ t.avs = { s.avs with droop := t.avs.droop }
      ∧ (s.avs.droop = [] → up s t 0 1) ∧ (s.avs.droop ≠ [] → t.full (Reg.AVS_COUNT 0) = s.full (Reg.AVS_COUNT 0))
      ∧ KeepsRegs s t (fun x => x = Reg.AVS_COUNT 0) ∧ Only [.regs, .avs] s t)
    ∧ Completes (.droopRecover a) s (fun t => (∀ b, b ∈ t.avs.droop ↔ b ≠ a.val ∧ b ∈ s.avs.droop) ∧ t.avs = { s.avs with droop := t.avs.droop } ∧ Only [.avs] s t))

/-- R487–R500: what one occurrence of an event does, arming, the held occurrences of a kept reset, the message of a queue, the wedged function
and AER errors, and the memory scan: its start, its empty cases and the law of CONTINUE.
Where the spec leaves a point open this states the model's choice: log entries 19 and 157. -/
def Obligations.EventsAndScans : Prop :=
  let cnt := fun (s t : State) e n => t.full (Reg.EVT_SRC_CNT e) = min (s.full (Reg.EVT_SRC_CNT e) + n) (2 ^ 32 - 1)
  let armed := fun (t : State) e => t.flag (Reg.EVT_SRC_CFG e) Fld.EVT_SRC_CFG_ARMED
  let late := fun (t : State) e => t.flag (Reg.EVT_SRC_CFG e) Fld.EVT_SRC_CFG_PENDING
  let irq := fun (s : State) e => s.flag (Reg.EVT_SRC_CFG e) Fld.EVT_SRC_CFG_IRQ_EN
  let queue := fun (s : State) e => s.get (Reg.EVT_SRC_CFG e) Fld.EVT_SRC_CFG_QUEUE
  let records := fun (s : State) e => s.flag Reg.EVT_CFG Fld.EVT_CFG_ENABLE ∧ s.flag (Reg.EVT_SRC_CFG e) Fld.EVT_SRC_CFG_REC_EN
    ∧ s.flag (Reg.EVT_Q_CFG (queue s e)) Fld.EVT_Q_CFG_EN
  let sent := fun (s t : State) v =>
    let masked := bitAt (s.vector v).2.2 0 = true
    let now := s.hostCan ∧ s.stopped = false ∧ ¬ masked
    (s.standby → ¬ masked → t.out.msix = s.out.msix ∧ t.host.pba = s.host.pba)
    ∧ (s.standby = false → now → t.out.msix = s.out.msix ++ [v] ∧ t.host.pba = s.host.pba)
    ∧ (masked ∨ (s.standby = false ∧ ¬ now) → t.out.msix = s.out.msix ∧ ∀ x, x ∈ t.host.pba ↔ x = v ∨ x ∈ s.host.pba)
  let silent := fun (s t : State) => t.out.msix = s.out.msix ∧ t.host.pba = s.host.pba
  let stored := fun (s t : State) e n detail (x : Stamp) (old : Bool) =>
    (∀ a r b, s.evt.store = a ++ r :: b → r.event = e → (∀ y ∈ a, y.event ≠ e) → t.evt.store = a ++ { r with count := min 65535 (r.count + n) } :: b)
    ∧ ((∀ y ∈ s.evt.store, y.event ≠ e) → t.evt.store = s.evt.store ++ [⟨e, min 65535 n, detail, x.sec, x.ns, x.frac, queue s e, old⟩])
  (∀ (e : Fin 2048) (s : State),
    (s.served = false ∨ eventClass e = none → Completes (.evtRaise e) s (fun t => t = s))
    ∧ (s.served → (eventClass e).isSome → s.sys.keptReset = true → 0x440 ≤ e.val → e.val < 0x500 → Completes (.evtRaise e) s (fun t =>
        (∀ a r b, s.evt.held = a ++ r :: b → r.event = e.val → (∀ y ∈ a, y.event ≠ e.val) → t.evt.held = a ++ { r with count := r.count + 1 } :: b)
        ∧ ((∀ y ∈ s.evt.held, y.event ≠ e.val) → t.evt.held = s.evt.held ++ [⟨e, 1, 2 ^ 48 - 1, s.now.sec, s.now.ns, s.now.frac, 0, false⟩])
        ∧ t.evt.store = s.evt.store ∧ KeepsRegs s t (fun a => a = Reg.EVT_STATUS) ∧ Only [.regs, .evt] s t))
    ∧ (s.served → (eventClass e).isSome → s.sys.keptReset = false ∨ e.val < 0x440 ∨ 0x500 ≤ e.val → Completes (.evtRaise e) s (fun t =>
        cnt s t e 1 ∧ (records s e → (s.sys.staleTime = false ∨ islandEvent e → stored s t e 1 (2 ^ 48 - 1) s.now false)
          ∧ (s.sys.staleTime → islandEvent e = false → stored s t e 1 (2 ^ 48 - 1) s.sys.timeCopy true)) ∧ (¬ records s e → t.evt = s.evt) ∧ t.evt.held = s.evt.held
        ∧ (irq s e = false → armed t e = armed s e ∧ late t e = late s e ∧ silent s t)
        ∧ (irq s e → armed s e → armed t e = false ∧ late t e = late s e ∧ sent s t (s.get (Reg.EVT_SRC_CFG e) Fld.EVT_SRC_CFG_VECTOR))
        ∧ (irq s e → armed s e = false → armed t e = false ∧ late t e ∧ silent s t)
        ∧ KeepsFields s t (Reg.EVT_SRC_CFG e) [Fld.EVT_SRC_CFG_ARMED, Fld.EVT_SRC_CFG_PENDING]
        ∧ KeepsRegs s t (EventRegs e) ∧ Only eventParts s t)))
  ∧ (∀ (e : Fin 2048) (s : State),
    (s.served = false → Completes (.evtSrcArm e) s (fun t => t = s))
    ∧ (s.served → Completes (.evtSrcArm e) s (fun t =>
        (irq s e ∧ late s e → armed t e = false ∧ late t e = false ∧ sent s t (s.get (Reg.EVT_SRC_CFG e) Fld.EVT_SRC_CFG_VECTOR))
        ∧ (¬ (irq s e ∧ late s e) → armed t e ∧ late t e = late s e ∧ silent s t)
        ∧ KeepsFields s t (Reg.EVT_SRC_CFG e) [Fld.EVT_SRC_CFG_ARMED, Fld.EVT_SRC_CFG_PENDING]
        ∧ KeepsRegs s t (fun a => a = Reg.EVT_SRC_CFG e) ∧ Only [.regs, .pba, .outMsix] s t)))
  ∧ (∀ (on : Bool) (s : State),
    (s.served = false → Completes (.evtEnable on) s (fun t => t = s))
    ∧ (s.served → (on = false ∨ s.evt.held = []) → Completes (.evtEnable on) s (fun t => t.flag Reg.EVT_CFG Fld.EVT_CFG_ENABLE = on ∧ t.evt = s.evt
        ∧ KeepsFields s t Reg.EVT_CFG [Fld.EVT_CFG_ENABLE] ∧ KeepsRegs s t (fun a => a = Reg.EVT_CFG ∨ a = Reg.EVT_STATUS) ∧ Only [.regs] s t))
    ∧ (∀ r, s.served → on = true → s.evt.held = [r] → r.event < 2048 → Completes (.evtEnable on) s (fun t =>
        let u := s.setFlag Reg.EVT_CFG Fld.EVT_CFG_ENABLE true
        t.evt.held = [] ∧ cnt s t r.event r.count ∧ (records u r.event → stored s t r.event r.count r.detail ⟨r.sec, r.ns, r.frac⟩ false)
        ∧ (¬ records u r.event → t.evt.store = s.evt.store) ∧ t.flag Reg.EVT_CFG Fld.EVT_CFG_ENABLE
        ∧ KeepsRegs s t (fun a => a = Reg.EVT_CFG ∨ a = Reg.EVT_STATUS ∨ a = Reg.EVT_SRC_CNT r.event) ∧ Only [.regs, .evt] s t)))
  ∧ (∀ (q : Fin 8) (s : State),
    let mine := s.evt.store.filter (fun r => r.queue == q.val)
    let on := s.flag Reg.EVT_CFG Fld.EVT_CFG_ENABLE = true
    let inUse := s.flag (Reg.EVT_Q_CFG q) Fld.EVT_Q_CFG_EN = true
    let r := s.get (Reg.EVT_Q_CFG q) Fld.EVT_Q_CFG_RING
    let total := fun (x : EvtRec) => x.sec * 1000000000 + x.ns
    (¬ on ∨ mine = [] ∨ (s.ringTakes r = false ∧ inUse) → Completes (.eventQueueFlush q) s (fun t => t = s))
    ∧ (on → mine ≠ [] → s.ringTakes r = false → ¬ inUse → Completes (.eventQueueFlush q) s (fun t =>
        t.evt = { s.evt with store := s.evt.store.filter (fun x => x.queue != q.val) }
        ∧ t.full (Reg.EVT_Q_COUNT q 1) = min (s.full (Reg.EVT_Q_COUNT q 1) + mine.length) (2 ^ 32 - 1)
        ∧ KeepsRegs s t (fun a => a = Reg.EVT_STATUS ∨ a = Reg.EVT_Q_COUNT q 1) ∧ Only [.regs, .evt] s t))
    ∧ (on → s.ringTakes r → mine ≠ [] → Completes (.eventQueueFlush q) s (fun t => ∃ l rest, mine = l ++ rest ∧ l ≠ [] ∧ l.length ≤ 64
        ∧ (∀ x y, l.head? = some x → y ∈ l.drop 1 → (total y + (2 ^ 48 - total x % 2 ^ 48)) % 2 ^ 48 < 2 ^ 47)
        ∧ (∀ x y, l.head? = some x → rest.head? = some y → l.length = 64 ∨ 2 ^ 47 ≤ (total y + (2 ^ 48 - total x % 2 ^ 48)) % 2 ^ 48)
        ∧ t.evt = { s.evt with store := s.evt.store.filter (fun x => !l.contains x) }
        ∧ t.full (Reg.EVT_Q_COUNT q 0) = min (s.full (Reg.EVT_Q_COUNT q 0) + l.length) (2 ^ 32 - 1)
        ∧ (s.ringState r = 1 ∨ s.ringState r = 2 → ∃ m, (t.ring r).msgs = (s.ring r).msgs ++ [m] ∧ m.producer = 0x14 ∧ m.bytes.length = 16 + 16 * l.length
            ∧ m.bytes.take 4 = [0x65, 0x01, BitVec.ofNat 8 l.length, BitVec.ofNat 8 q]
            ∧ (∀ x, l.head? = some x → stampAt m.bytes 4 = ⟨x.sec % 2 ^ 48, x.ns % 2 ^ 32, x.frac % 2 ^ 16⟩)
            ∧ (∀ j x, l[j]? = some x → fieldAt m.bytes (16 + 16 * j) 2
                  = (x.event + (eventClass x.event).getD 0 * 2 ^ 11 + (if 1 < x.count then 2 ^ 14 else 0)) % 2 ^ 16
                ∧ fieldAt m.bytes (18 + 16 * j) 2 = x.count % 2 ^ 16 ∧ fieldAt m.bytes (20 + 16 * j) 6 = x.detail % 2 ^ 48
                ∧ fieldAt m.bytes (26 + 16 * j) 6 = total x % 2 ^ 48))
        ∧ KeepsRegs s t (fun a => a = Reg.EVT_STATUS ∨ a = Reg.EVT_Q_COUNT q 0 ∨ a = Reg.RING_COUNT r) ∧ Only [.regs, .evt, .rings] s t)))
  ∧ (∀ (s : State) (x : BitVec 32),
    let wedged := fun (t : State) => t.flag Reg.EVT_WEDGE Fld.EVT_WEDGE_WEDGED
    let alone := s.flag Reg.EVT_WEDGE Fld.EVT_WEDGE_SELF_RESET = false ∨ s.twinOn = false ∨ s.role ≠ 1
    let stops := fun (t : State) => wedged t ∧ Counted s t Ev.PCIE_WEDGED ∧ t.hostCan = false
      ∧ KeepsFields s t Reg.EVT_WEDGE [Fld.EVT_WEDGE_WEDGED] ∧ KeepsRegs s t (fun a => a = Reg.EVT_WEDGE ∨ EventRegs Ev.PCIE_WEDGED a)
    (wedged s ∨ s.flag Reg.DMA_PCIE_STATUS Fld.DMA_PCIE_STATUS_LINK_UP = false → Completes .pcieCreditStall s (fun t => t = s))
    ∧ (wedged s = false → s.flag Reg.DMA_PCIE_STATUS Fld.DMA_PCIE_STATUS_LINK_UP → alone → Completes .pcieCreditStall s (fun t => stops t ∧ Only eventParts s t))
    ∧ (wedged s = false → alone → Completes (.pcieFatalError x) s (fun t => stops t ∧ t.host.aer = x.toNat ∧ Only (([.pcie] : List Part) ++ eventParts) s t))
    ∧ (wedged s → Completes (.pcieFatalError x) s (fun t => t.host.aer = x.toNat ∧ Only [.pcie] s t))
    ∧ (∀ nf : Bool, Completes (.pcieAerError nf x) s (fun t =>
        let e := if nf then Ev.PCIE_AER_NF else Ev.PCIE_AER_CE
        Counted s t e ∧ t.host.aer = x.toNat ∧ KeepsRegs s t (EventRegs e) ∧ Only (([.pcie] : List Part) ++ eventParts) s t)))
  ∧ (∀ (k : CheckKind) (a b : List Byte), k.extend (k.of a) b = k.of (a ++ b))
  ∧ (CheckKind.crc16.of [0x31, 0x32, 0x33, 0x34, 0x35, 0x36, 0x37, 0x38, 0x39] = 0x29B1 ∧ CheckKind.crc32.of [0x31, 0x32, 0x33, 0x34, 0x35, 0x36, 0x37, 0x38, 0x39] = 0xCBF43926
    ∧ CheckKind.crc32c.of [0x31, 0x32, 0x33, 0x34, 0x35, 0x36, 0x37, 0x38, 0x39] = 0xE3069283
    ∧ CheckKind.crc64.of [0x31, 0x32, 0x33, 0x34, 0x35, 0x36, 0x37, 0x38, 0x39] = 0x6C40DF5F0B497347)
  ∧ (∀ (r : Ring) (s s1 : State) (ref : CmdRef) (d : List Byte) (q : Nat), s.take (.ring r) 0x78 = some (ref, d, q, s1) → (s1.ring r).queue = [] →
    (s1.chan (s1.ringChannel r)).aborting = [] → (s1.chan (s1.ringChannel r)).abortOpen = false →
    let n := fieldAt d 4 4
    let a := fieldAt d 16 8
    let hbm := bitAt (byteAt d 37) 0
    let k := CheckKind.ofCode (byteAt d 36 % 4)
    let goes := bitAt (byteAt d 37) 1
    let prior := fieldAt d 40 8
    let base := if hbm then s1.get (Reg.RING_DWIN r) Fld.RING_DWIN_BASE_MIB * 2 ^ 20
      else (s1.full (Reg.RING_HWIN_LO r) + s1.get (Reg.RING_HWIN_HI r) Fld.RING_HWIN_HI_PAGE * 2 ^ 32) * 4096
    let size := if hbm then s1.get (Reg.RING_DWIN_SIZE r) Fld.RING_DWIN_SIZE_MIB * 2 ^ 20 else s1.full (Reg.RING_HWIN_PAGES r) * 4096
    let outside := a < base ∨ base + size ≤ a
    let regs := fun x => x = Reg.CRC_STATUS ∨ x = Reg.CRC_COUNT 0 ∨ x = Reg.CRC_COUNT 1 ∨ x = Reg.CRC_COUNT 2 ∨ x = Reg.CRC_COUNT 3
      ∨ x = Reg.DMA_CH_STATUS (s1.ringChannel r)
    let clean := descClean 0x78 d = true
    (¬ clean → Completes (.crcScan r) s (fun t => Answered t ref (fun c => c.status = St.BAD_PARAM) ∧ Only [.rings] s1 t))
    ∧ (clean → n = 0 ∨ outside → Completes (.crcScan r) s (fun t => Answered t ref (fun c => c.status = (if n = 0 then 0 else 0x0130) ∧ c.count = 0
          ∧ (goes = false → c.aux = k.empty) ∧ (∀ bs, goes = true → prior = k.of bs → c.aux = prior))
        ∧ (t.ring r).xfer = none ∧ KeepsRegs s1 t regs ∧ Only [.regs, .rings, .channels] s1 t))
    ∧ (clean → 0 < n → ¬ outside → Completes (.crcScan r) s (fun t => ∃ x, (t.ring r).xfer = some x ∧ x.ref = ref ∧ x.scan ∧ x.total = min n (base + size - a)
        ∧ x.done = 0 ∧ (x.short ↔ base + size < a + n) ∧ (goes = false → x.acc = k.empty) ∧ (∀ bs, goes = true → prior = k.of bs → x.acc = prior)
        ∧ KeepsHbm s t ∧ KeepsRegs s1 t regs ∧ Only [.regs, .rings, .channels] s1 t)))

/-- R502–R505, R507–R510, R514, R517–R519, R536–R539: the messages between the devices of a weave. What each message does when it is taken
off its virtual channel, what each device sends and when, and what stays as it was.
Where the spec leaves a point open this states the model's choice: log entries 25, 32, 143, 160, 161, 162, 163 and 230. -/
def Obligations.WeaveMessages : Prop :=
  let quiet := fun (s : State) (k v : Nat) => s.linkState k = 4 ∧ (s.link k).vc0 = [] ∧ (s.link k).txq = [[], [], []] ∧ 0 < (s.link k).credit.getD v 0
    ∧ (s.link k).replay.length < s.linkCfg k Fld.LANE_LINK_CFG_WINDOW ∧ (s.link k).refusing = false ∧ (s.link k).resend = []
  let flit := fun (s : State) (k v : Nat) (m : List Byte) =>
    (k, flitBytes 1 v (s.link k).nextSeq (s.link k).lastAcc (s.link k).crTurn ((s.link k).freed.getD (s.link k).crTurn 0 % 64) (m.take 248))
  let took := fun (s : State) (k : Nat) (rest : List (List Byte)) => s.setLink k { s.link k with inbox := rest }
  let steps := fun (s : State) (fine : Nat) => s.now.units + fine * 65536 / 100
  let member := fun (s : State) => s.positions ≠ 1
  let position := fun (s : State) => s.unitGet Reg.WEAVE_CFG Fld.WEAVE_CFG_POS
  let running := fun (s : State) => s.running ∧ s.mode ≠ 0
  let backlogEvent := EventRegs Ev.BALRAN_TX_BACKLOG
  let stateOf := fun (s : State) => s.get Reg.WEAVE_STATUS Fld.WEAVE_STATUS_STATE
  -- a message leaves its byte stream whole
  (∀ (s : State) (k : Nat) (v : Fin 3) (type n : Nat),
    let l := skipPad ((s.link k).rx.getD v [])
    let u := s.setLink k { s.link k with rx := (s.link k).rx.set v (l.drop n) }
    msgLen l = some n → byteAt l 0 = type → n ≤ l.length → u.badType k = false → s.takeMsg k (v.val + 1) type = some (l.take n, u))
  -- WEAVE_HELLO
  ∧ (∀ (k : Link) (m : List Byte) (s s1 : State), s.takeMsg k 3 0xB0 = some (m, s1) →
    let same := fieldAt m 4 8 = s1.digest
    let up := ∀ j ∈ s1.weaveLinks, s1.linkState j = 4
    let st := stateOf s1
    Completes (.weaveHello k) s (fun t =>
      let all := ∀ j ∈ s1.weaveLinks, (j, s1.digest) ∈ t.weave.heard
      t.weave = { s1.weave with heard := (k.val, fieldAt m 4 8) :: s1.weave.heard.filter (fun e => e.1 != k.val) }
      ∧ (st = 0 ∨ (same ∧ st = 3) → Only [.weave] s1 t)
      ∧ (same → st ≠ 0 → st ≠ 3 → stateOf t = (if up ∧ all then 3 else if st = 4 then 4 else if up then 2 else 1))
      ∧ (¬ same → st ≠ 0 → stateOf t = 2 ∧ t.flag Reg.WEAVE_STATUS Fld.WEAVE_STATUS_MISMATCH ∧ Counted s1 t Ev.WEAVE_DIGEST_MISMATCH)
      ∧ (same → KeepsFields s1 t Reg.WEAVE_STATUS [Fld.WEAVE_STATUS_STATE] ∧ KeepsRegs s1 t (fun a => a = Reg.WEAVE_STATUS) ∧ Only [.weave, .regs] s1 t)
      ∧ KeepsFields s1 t Reg.WEAVE_STATUS [Fld.WEAVE_STATUS_STATE, Fld.WEAVE_STATUS_MISMATCH]
      ∧ KeepsRegs s1 t (fun a => a = Reg.WEAVE_STATUS ∨ EventRegs Ev.WEAVE_DIGEST_MISMATCH a) ∧ Only (([.weave] : List Part) ++ eventParts) s1 t))
  -- DELAY_MEASURE, DELAY_REQ, DELAY_RESP
  ∧ (∀ (fine : Fin 400) (s : State) (k : Nat), s.weaveLink 0 = some k → member s → position s ≠ 0 →
    Completes (.delayMeasure fine) s (fun t =>
      t.weave = { s.weave with reqSeq := (s.weave.reqSeq + 1) % 65536, asked := some (s.weave.reqSeq, steps s fine) }
      ∧ (quiet s k 0 → t.out.flits = s.out.flits ++ [flit s k 0 ([0x85] ++ le 1 s.pos ++ le 2 s.weave.reqSeq)])
      ∧ KeepsRegs s t backlogEvent ∧ Only (([.weave] : List Part) ++ sendParts) s t))
  ∧ (∀ (fine : Fin 400) (s : State), s.weaveLink 0 = none ∨ ¬ member s ∨ position s = 0 → Completes (.delayMeasure fine) s (fun t => t = s))
  ∧ (∀ (k : Link) (fine : Fin 400) (s : State) (m : List Byte) (rest : List (List Byte)), (s.link k).inbox = m :: rest → byteAt m 0 = 0x85 →
    Completes (.delayReq k fine) s (fun t =>
      (¬ member s ∨ position s ≠ 0 → t = took s k rest)
      ∧ (member s → position s = 0 → (t.link k).inbox = rest
        ∧ (quiet s k 0 → t.out.flits = s.out.flits ++ [flit s k 0 ([0x86] ++ le 1 s.pos ++ le 2 (fieldAt m 2 2)
            ++ (Stamp.ofUnits (steps s fine)).bytes ++ (Stamp.ofUnits (steps s fine + 2000 * 65536)).bytes)]))
      ∧ KeepsRegs s t backlogEvent ∧ Only sendParts s t))
  ∧ (∀ (k : Link) (fine : Fin 400) (s : State) (m : List Byte) (rest : List (List Byte)), (s.link k).inbox = m :: rest → byteAt m 0 = 0x86 →
    let d := Fld.WEAVE_PEER_DELAY_PS
    Completes (.delayResp k fine) s (fun t =>
      (∀ q t1, s.weave.asked = some (q, t1) → fieldAt m 2 2 = q →
        let x : Int := ((steps s fine : Int) - t1) - (((stampAt m 16).units : Int) - (stampAt m 4).units)
        let xs := (x :: s.weave.delays).take 16
        let num : Int := xs.sum * 1000
        let den : Int := 65536 * 2 * xs.length
        t.weave = { s.weave with asked := none, delays := xs }
        ∧ ∃ v e : Int, v * den = num + e ∧ e.natAbs < den.natAbs ∧ (num % den = 0 → e = 0)
            ∧ t.get (Reg.WEAVE_PEER_DELAY 0) d = ofS 24 (v + toS 16 (s.unitGet Reg.WEAVE_ASYM Fld.WEAVE_ASYM_ASYM_PS)))
      ∧ ((∀ q t1, s.weave.asked = some (q, t1) → fieldAt m 2 2 ≠ q) → t = took s k rest)
      ∧ (t.link k).inbox = rest
      ∧ KeepsRegs s t (fun a => a = Reg.WEAVE_PEER_DELAY 0) ∧ Only [.weave, .links, .regs, .free] s t))
  -- PULSE_MARK_DUE, PULSE_MARK
  ∧ (∀ s : State, Completes .pulseMarkDue s (fun t =>
    (member s → position s = 0 → s.refRun →
      (∀ q ∈ s.partners, ∀ k, s.weaveLink q = some k → quiet s k 0 →
        flit s k 0 ([0x87] ++ le 1 s.pos ++ zeros 2 ++ (Stamp.ofUnits (s.now.units + 10000 * 65536)).bytes) ∈ t.out.flits))
    ∧ (¬ member s ∨ position s ≠ 0 ∨ s.refRun = false → t = s)
    ∧ KeepsRegs s t backlogEvent ∧ Only sendParts s t))
  ∧ (∀ (k : Link) (fine : Fin 400) (s : State) (m : List Byte) (rest : List (List Byte)), (s.link k).inbox = m :: rest → byteAt m 0 = 0x87 →
    Completes (.pulseMark k fine) s (fun t =>
      (if member s ∧ position s ≠ 0 ∧ k.val = s.get Reg.REF_BALRAN Fld.REF_BALRAN_LINK then
        t.weave = { s.weave with
          pulseAt := some (steps s fine + 10000 * 65536 - s.get (Reg.WEAVE_PEER_DELAY 0) Fld.WEAVE_PEER_DELAY_PS * 65536 / 1000) }
      else t.weave = s.weave)
      ∧ (t.link k).inbox = rest ∧ Only [.weave, .links] s t))
  -- forwarded units
  ∧ (∀ (k : Link) (b : Nat) (m : List Byte) (s s1 : State), s.takeMsg k 1 0x46 = some (m, s1) →
    let u := unit46 m
    let relays := s1.mode = 2 ∧ s1.linkPeer k = u.origin ∧ (u.origin = (s1.pos + 1) % 4 ∨ u.origin = (s1.pos + 2) % 4)
    let stores := s1.running ∧ s1.flag Reg.INGEST_CTL Fld.INGEST_CTL_ENABLE
    let fine := decide (s1.cAll ≤ u.chan)
    let key := if fine then State.fineKey u.origin u.stream else 256 * (u.origin + 1) + u.stream
    let step := if fine then s1.fineM else 1
    let room := ¬ stores ∨ (s1.pendingBytes + 2 * (u.ss * u.sc * u.n) < s1.storeRoom)
    Completes (.forwardedUnit k b) s (fun t =>
      t.full (Reg.WEAVE_COUNT 1) = min (s1.full (Reg.WEAVE_COUNT 1) + 1) (2 ^ 32 - 1)
      ∧ (∀ q lo hi l v, room → s1.mode = 2 → s1.linkPeer k = u.origin →
          (u.origin = (s1.pos + 1) % 4 ∧ q = (s1.pos + 3) % 4 ∧ lo = 2048 ∧ hi = 3072) ∨ (u.origin = (s1.pos + 2) % 4 ∧ q = (s1.pos + 1) % 4 ∧ lo = 0 ∧ hi = 2048) →
          s1.weaveLink q = some l → u.restrict lo hi = some v →
          (s1.linkTakes l v.bytes.length → s1.linkState l ≠ 4 →
            (t.link l).txq = (s1.link l).txq.set 0 ((s1.link l).txq.getD 0 [] ++ v.bytes) ∧ t.full (Reg.WEAVE_COUNT 0) = s1.full (Reg.WEAVE_COUNT 0))
          ∧ (s1.linkTakes l v.bytes.length = false →
            t.full (Reg.WEAVE_COUNT 0) = min (s1.full (Reg.WEAVE_COUNT 0) + 1) (2 ^ 32 - 1) ∧ Counted s1 t Ev.WEAVE_FWD_DROP))
      ∧ (¬ stores → t.ingest = s1.ingest)
      ∧ (stores → room →
          let fate := fun c i => s1.pairFate (u.chan + c) (u.k + i * step) key u.base u.n
          (∀ c < u.sc, ∀ i < u.ss, fate c i = State.PairFate.stored →
            t.slicesOf (u.chan + c) (u.k + i * step) = s1.slicesOf (u.chan + c) (u.k + i * step) ++
              [{ stream := key, base := u.base, invalid := u.invalid, overload := u.overload, cal := u.cal, wide := u.wide
                 samples := (u.samples.drop ((i * u.sc + c) * u.n)).take u.n }])
          ∧ (∀ c n, (∀ c' < u.sc, ∀ i < u.ss, c = u.chan + c' → n = u.k + i * step → fate c' i ≠ State.PairFate.stored) → t.slicesOf c n = s1.slicesOf c n)
          ∧ t.full (Reg.INGEST_COUNT 8) = (if ∃ c < u.sc, ∃ i < u.ss, fate c i = State.PairFate.late then min (s1.full (Reg.INGEST_COUNT 8) + 1) (2 ^ 32 - 1)
              else s1.full (Reg.INGEST_COUNT 8))
          ∧ t.full (Reg.INGEST_COUNT 9) = (if ∃ c < u.sc, ∃ i < u.ss, fate c i = State.PairFate.dup then min (s1.full (Reg.INGEST_COUNT 9) + 1) (2 ^ 32 - 1)
              else s1.full (Reg.INGEST_COUNT 9))
          ∧ KeepsRegs s1 t (fun a => a = Reg.WEAVE_COUNT 0 ∨ a = Reg.WEAVE_COUNT 1 ∨ a = Reg.INGEST_COUNT 8 ∨ a = Reg.INGEST_COUNT 9
              ∨ a = Reg.INGEST_STATUS ∨ a = Reg.INGEST_STORE ∨ AnyEventRegs a)
          ∧ Only (([.ingest] : List Part) ++ sendParts) s1 t)
      ∧ (¬ stores → KeepsRegs s1 t (fun a => a = Reg.WEAVE_COUNT 0 ∨ a = Reg.WEAVE_COUNT 1 ∨ EventRegs Ev.WEAVE_FWD_DROP a ∨ backlogEvent a)
          ∧ Only sendParts s1 t)
      ∧ (¬ stores → ¬ relays → KeepsRegs s1 t (fun a => a = Reg.WEAVE_COUNT 1) ∧ Only [.regs] s1 t)))
  ∧ (∀ (u v : Unit46) (lo hi i j : Nat), u.samples.length = u.ss * u.sc * u.n → u.restrict lo hi = some v → i < u.ss * u.sc → j < v.n →
    v.samples.length = u.ss * u.sc * v.n ∧ v.samples.getD (i * v.n + j) (0, 0) = u.samples.getD (i * u.n + (v.base - u.base) + j) (0, 0))
  -- MASK_UPDATE
  ∧ (∀ (k : Link) (m : List Byte) (s s1 : State), s.takeMsg k 2 0xA0 = some (m, s1) → s1.cAll ≤ 4096 →
    Completes (.maskUpdate k) s (fun t =>
      let late := ∃ c < s1.cAll, fieldAt m 4 7 < s1.nextIndex c ∧ s1.firstIndex c < s1.nextIndex c
      (running s1 →
        (∃ x, t.ingest = { s1.ingest with changes := s1.ingest.changes ++ [x] } ∧ x.kind = ChangeKind.mask (byteAt m 1 % 4) ∧ x.k = fieldAt m 4 7
          ∧ x.ref = none ∧ x.done = false ∧ (x.late = true ↔ late) ∧ x.items.length = fieldAt m 2 2
          ∧ (∀ i < fieldAt m 2 2, x.items.getD i (0, 0) = (fieldAt m (16 + 4 * i) 4 % 2 ^ 13, fieldAt m (16 + 4 * i) 4 / 2 ^ 15 % 2))
          ∧ (∀ c < s1.cAll, ∀ n, (c, n) ∈ x.moved ↔ fieldAt m 4 7 < s1.nextIndex c ∧ n = s1.nextIndex c))
        ∧ (late → t.full (Reg.WEAVE_COUNT 4) = min (s1.full (Reg.WEAVE_COUNT 4) + 1) (2 ^ 32 - 1) ∧ Counted s1 t Ev.WEAVE_MASK_LATE)
        ∧ (¬ late → Only [.ingest] s1 t)
        ∧ KeepsRegs s1 t (fun a => a = Reg.WEAVE_COUNT 4 ∨ EventRegs Ev.WEAVE_MASK_LATE a) ∧ Only (([.ingest] : List Part) ++ eventParts) s1 t)
      ∧ (¬ running s1 → t = s1)))
  -- WEEDER
  ∧ (∀ (k : Link) (inputs : List Bool) (m : List Byte) (s s1 : State), s.takeMsg k 2 0xA1 = some (m, s1) →
    let ch := fieldAt m 2 2 % 4096
    let origin := byteAt m 1 % 4
    let found := s1.weed.blocks.find? (fun b => b.chan == ch && b.first == fieldAt m 4 7)
    let hit := fun i => decide (i < 2 ^ byteAt m 11) && bitAt (byteAt m (16 + i / 8)) (i % 8)
    Completes (.weederMessage ⟨k, inputs⟩) s (fun t =>
      (¬ running s1 → t = s1)
      ∧ (running s1 → found = none → fieldAt m 4 7 < (s1.weedChan ch).first → t = s1)
      ∧ (running s1 → found = none → (s1.weedChan ch).first ≤ fieldAt m 4 7 → Only [.weed] s1 t
          ∧ ∃ e, t.weed = { s1.weed with early := s1.weed.early ++ [e] } ∧ e.key = ch * 2 ^ 56 + fieldAt m 4 7 ∧ e.origin = origin
            ∧ e.chanFlag = bitAt (fieldAt m 2 2) 12 ∧ e.inputs = inputs ∧ e.sheafs.length = 2 ^ byteAt m 11 ∧ ∀ i, e.sheafs.getD i false = hit i)
      ∧ (∀ b, running s1 → found = some b →
          let heard := origin :: b.heard
          let told := b.remote ++ [(origin, inputs)]
          let flagged := b.chanFlag || bitAt (fieldAt m 2 2) 12
          let rest := s1.weed.blocks.filter (fun x => !(x.chan == b.chan && x.block == b.block))
          let plane := s1.planeAddr b.chan b.block
          let bit := fun h => let g := s1.heldInput h
            if s1.isDirect g then b.inputs.getD (h - s1.directAt) false
            else match told.find? (fun e => e.1 == g / 4096) with
              | some e => e.2.getD (g % 4096) false
              | none => false
          ((∃ q ∈ s1.partners, q ∉ heard) → (∃ b', t.weed = { s1.weed with blocks := rest ++ [b'] } ∧ b'.chan = b.chan ∧ b'.block = b.block
              ∧ b'.chanFlag = flagged ∧ b'.heard = heard ∧ b'.inputs = b.inputs ∧ b'.remote = told ∧ b'.sheafs.length = b.sheafs.length
              ∧ ∀ i < b.sheafs.length, b'.sheafs.getD i false = (b.sheafs.getD i false || hit i)) ∧ Only [.weed] s1 t)
          ∧ ((∀ q ∈ s1.partners, q ∈ heard) → s1.nHeld % 8 = 0 →
              t.weed.blocks = rest
              ∧ (t.hbmByte (plane + s1.nHeld / 8)).toNat = b2n flagged + 2 * b2n b.frozen
              ∧ (∀ h < s1.nHeld, bitAt (t.hbmByte (plane + h / 8)).toNat (h % 8) = bit h)
              ∧ (∀ n, (b.chan, n) ∈ t.weed.marks ↔ (b.chan, n) ∈ s1.weed.marks
                  ∨ ∃ i < b.sheafs.length, n = b.block * s1.skLen + i ∧ (b.sheafs.getD i false || hit i) = true)
              ∧ KeepsHbmBut s1 t plane s1.planeBytes
              ∧ KeepsRegs s1 t (fun a => InBlock [5, 15] a ∨ AnyEventRegs a ∨ DestRegs a ∨ a = Reg.TWIN_STATUS ∨ a = Reg.TWIN_COUNT 0)
              ∧ Only (([.weed, .hbm, .poison, .mem, .turn, .rings, .pins, .twin] : List Part) ++ sendParts) s1 t))))
  -- WEAVE_STATUS
  ∧ (∀ s : State, Completes .weaveStatusDue s (fun t =>
    (running s → ∀ q ∈ s.partners, ∀ k, s.weaveLink q = some k → quiet s k 2 → flit s k 2 s.weaveStatus ∈ t.out.flits)
    ∧ (¬ running s → t = s) ∧ KeepsRegs s t backlogEvent ∧ Only sendParts s t))
  ∧ (∀ s : State, s.pos < 256 →
    let m := s.weaveStatus
    m.length = 208 ∧ byteAt m 0 = 0xA2 ∧ byteAt m 1 = s.pos ∧ (m.drop 4).take 12 = s.now.bytes
    ∧ ∀ g < 8, let d := (s.grp g).drained.getD (0, 0, 0)
        fieldAt m (16 + 24 * g) 4 = d.1 % 2 ^ 32 ∧ fieldAt m (20 + 24 * g) 2 = d.2.1 % 2 ^ 16
        ∧ byteAt m (22 + 24 * g) = b2n (s.grp g).drain.isSome + 2 * b2n (s.grpOn g) ∧ (m.drop (24 + 24 * g)).take 12 = (Stamp.ofUnits d.2.2).bytes)
  ∧ (∀ (k : Link) (m : List Byte) (s s1 : State), s.takeMsg k 2 0xA2 = some (m, s1) →
    let told : PeerStatus := { pos := byteAt m 1 % 4, stamp := (stampAt m 4).units, groups := (List.range 8).map (fun g =>
      { seq := fieldAt m (16 + 24 * g) 4, epoch := fieldAt m (20 + 24 * g) 2, bits := byteAt m (22 + 24 * g), done := (stampAt m (24 + 24 * g)).units }) }
    let gran := { s1.gran with peers := told :: s1.gran.peers.filter (fun e => e.pos != byteAt m 1 % 4) }
    let v : State := { s1 with gran := gran }
    Completes (.weaveStatusMessage k) s (fun t =>
      (¬ running s1 → t = s1)
      ∧ (running s1 → (∀ g < 8, (s1.grp g).waits = false ∧ (s1.grp g).drain = none) →
          (∀ f ∈ s1.corr.flights, f.ended = false ∧ (f.told = false ∨ f.owed ≠ 0)) → t.gran = gran ∧ Only [.gran] s1 t)
      ∧ (∀ g b, running s1 → g < 8 → (∀ h < 8, (s1.grp h).waits = true ↔ h = g) → s1.grpState g = 2 → (s1.grp g).top = (s1.grp g).decided + 1 →
          (s1.grp g).fill = some b → (s1.grp g).stopping = false → (s1.grp g).stopAt = none → (s1.grp g).old = none → (s1.grp g).fresh = false →
          s1.gran.stops = [] → b.passes ≠ 2 ^ 32 - 1 → s1.twinOn = false → s1.corr.suspects = [] → (∀ h < 8, (s1.grp h).drain = none) →
          (v.weaveIdle g b (v.passTime g (s1.grp g).decided) = none → (t.grp g).waits ∧ (t.grp g).fill = some b ∧ (t.grp g).decided = (s1.grp g).decided)
          ∧ (v.weaveIdle g b (v.passTime g (s1.grp g).decided) = some false → (t.grp g).waits = false
              ∧ (t.grp g).fill = some { b with last := (s1.grp g).decided, stretched := true } ∧ (t.grp g).decided = (s1.grp g).decided + 1
              ∧ t.full (Reg.GRAN_GRP_COUNT g 1) = min (s1.full (Reg.GRAN_GRP_COUNT g 1) + 1) (2 ^ 32 - 1))
          ∧ (v.weaveIdle g b (v.passTime g (s1.grp g).decided) = some true → 1 ≤ s1.grpP g → (t.grp g).waits = false ∧ (t.grp g).old = some b
              ∧ ∃ n, (t.grp g).fill = some n ∧ n.first = (s1.grp g).decided))))
  ∧ (∀ (s : State) (g : Nat) (b : Bank) (t : Nat),
    let key := b.epoch * 2 ^ 32 + b.seq
    let first := key = 0
    let own := ∃ e p c, (s.grp g).drained = some (e, p, c) ∧ key ≤ p * 2 ^ 32 + e + 1 ∧ c < t
    let status := fun q => s.gran.peers.find? (fun p => p.pos == q && decide (t ≤ p.stamp))
    (first → s.weaveIdle g b t = some true)
    ∧ (¬ first → (s.weaveIdle g b t = none ↔ ∃ q ∈ s.partners, status q = none))
    ∧ (¬ first → (s.weaveIdle g b t = some true ↔ own ∧ ∀ q ∈ s.partners, ∃ p, status q = some p ∧
        key ≤ (p.groups.getD g ⟨0, 0, 0, 0⟩).epoch * 2 ^ 32 + (p.groups.getD g ⟨0, 0, 0, 0⟩).seq + 1 ∧ (p.groups.getD g ⟨0, 0, 0, 0⟩).done < t)))
  -- GRAN_RELAY
  ∧ (∀ (k : Link) (m : List Byte) (s s1 : State), s.takeMsg k 3 0xB1 = some (m, s1) →
    let pass := fieldAt m 4 4
    let named := fun g => bitAt (byteAt m 2) g = true
    Completes (.granRelay k) s (fun t =>
      (¬ running s1 ∨ ¬ member s1 ∨ position s1 = 0 → t = s1)
      ∧ (running s1 → member s1 → position s1 ≠ 0 → bitAt (byteAt m 1) 0 → (∀ g < 8, (s1.grp g).top ≤ pass) → ∀ g < 8,
          if named g ∧ s1.grpOn g ∧ s1.grpState g ≠ 2 then t.grpState g = 1 ∧ (t.grp g).q0 = pass ∧ (t.grp g).stopping = false ∧ (t.grp g).stopAt = none
          else t.grpState g = s1.grpState g ∧ t.grp g = s1.grp g)
      ∧ (running s1 → member s1 → position s1 ≠ 0 → bitAt (byteAt m 1) 0 = false → ∀ g < 8,
          (¬ named g → t.grpState g = s1.grpState g ∧ t.grp g = s1.grp g)
          ∧ (named g → s1.grpState g = 1 → t.grpState g = 3)
          ∧ (named g → s1.grpState g = 2 → (s1.grp g).decided < pass → t.grpState g = 2 ∧ t.grp g = { s1.grp g with stopAt := some pass })
          ∧ (named g → s1.grpState g = 2 → pass ≤ (s1.grp g).decided → s1.gran.stops = [] →
              (∀ b, (s1.grp g).fill = some b ∨ (s1.grp g).old = some b → s1.bankWhole g b = false) → t.grp g = { s1.grp g with stopping := true }
              ∧ t.grpState g = (if (s1.grp g).fill = none then 3 else 2)))
      ∧ (s1.gran.stops = [] → (∀ g < 8, (s1.grp g).top ≤ pass) ∨ bitAt (byteAt m 1) 0 = false →
          KeepsRegs s1 t (InBlock [8]) ∧ Only [.gran, .regs] s1 t)))

/-- R521–R523, R525, R528–R530, R537, R538, R562: roles, heartbeats, the order stream and progress of a twin pair, the state copy and the
configuration update.
Where the spec leaves a point open this states the model's choice: log entries 164, 165, 166, 167, 168, 169, 170, 171, 172, 173 and 174. -/
def Obligations.TwinRolesOrderAndCopies : Prop :=
  let quiet := fun (s : State) (k v : Nat) => s.linkState k = 4 ∧ (s.link k).vc0 = [] ∧ (s.link k).txq = [[], [], []] ∧ 0 < (s.link k).credit.getD v 0
    ∧ (s.link k).replay.length < s.linkCfg k Fld.LANE_LINK_CFG_WINDOW ∧ (s.link k).refusing = false ∧ (s.link k).resend = []
  let flit := fun (s : State) (k v : Nat) (m : List Byte) =>
    (k, flitBytes 1 v (s.link k).nextSeq (s.link k).lastAcc (s.link k).crTurn ((s.link k).freed.getD (s.link k).crTurn 0 % 64) (m.take 248))
  let took := fun (s : State) (k : Nat) (rest : List (List Byte)) => s.setLink k { s.link k with inbox := rest }
  let backlogEvent := EventRegs Ev.BALRAN_TX_BACKLOG
  let st := fun (s : State) (f : Fld) => s.flag Reg.TWIN_STATUS f
  let pref := fun (s : State) => s.flag Reg.TWIN_CFG Fld.TWIN_CFG_PREF
  let wave := fun (s : State) => s.pins.twinHealth
  -- commands are handed over at the same release position
  (∀ (src : CmdSrc) (op : Nat) (s v : State) (ref : CmdRef) (d : List Byte) (r : Nat), s.take src op = some (ref, d, r, v) →
    let p := s.pointOf v src op
    (s.standby = false → s.twinOn = false ∨ s.role ≠ 1 → s.handed src op = some s)
    ∧ (s.standby = false → s.twinOn → s.role = 1 → ∃ t, s.handed src op = some t
        ∧ (∀ k, s.twinLink = some k → quiet s k 1 → t.out.flits = s.out.flits ++ [flit s k 1 (p ++ le 8 s.twin.relPos)])
        ∧ KeepsRegs s t backlogEvent ∧ Only sendParts s t)
    ∧ (s.standby → ∀ q rest, s.twin.points = q :: rest → q.take 16 = p → fieldAt q 16 8 ≤ s.twin.relPos →
        s.handed src op = some ({ s with twin := { s.twin with points := rest } } : State))
    ∧ (s.standby → (∀ q ∈ s.twin.points.head?, q.take 16 ≠ p ∨ s.twin.relPos < fieldAt q 16 8) → s.handed src op = none))
  -- a field that the command's table does not list and that is not 0
  ∧ (∀ (i : Instr) (src : CmdSrc) (op : Nat) (s u s1 : State) (ref : CmdRef) (d : List Byte) (r : Nat), blockCommand i = some (src, op) →
    s.handed src op = some u → u.take src op = some (ref, d, r, s1) → descClean op d = false →
    Completes i s (fun t => Answered t ref (fun c => c.status = St.BAD_PARAM) ∧ KeepsRegs u t (AnswerRegs s1 src) ∧ Only answerParts u t))
  -- HEARTBEAT
  ∧ (∀ s : State, s.role < 4 →
    let m := s.heartbeatMsg
    m.length = 32 ∧ byteAt m 0 = 0x80 ∧ byteAt m 1 % 4 = s.role ∧ bitAt (byteAt m 1) 2 = st s Fld.TWIN_STATUS_SYNCED ∧ bitAt (byteAt m 1) 3 = pref s
    ∧ bitAt (byteAt m 1) 4 = st s Fld.TWIN_STATUS_PREF_CONFLICT ∧ byteAt m 1 < 32
    ∧ (∀ k < 64, bitAt (fieldAt m 4 8) k = (s.linkOn k && !s.linkBidir k && s.linkState k == 4))
    ∧ fieldAt m 12 8 = s.twin.relPos % 2 ^ 64 ∧ m.drop 20 = s.now.bytes)
  ∧ (∀ (s : State) (k : Nat), s.twinLink = some k → s.twinOn → s.running → s.twin.undecided = false → s.linkState k = 4 →
    Completes .heartbeatDue s (fun t =>
      (quiet s k 0 → t.out.flits = s.out.flits ++ [flit s k 0 s.heartbeatMsg]) ∧ KeepsRegs s t backlogEvent ∧ Only sendParts s t))
  ∧ (∀ s : State, s.twinOn = false ∨ s.running = false ∨ s.twin.undecided ∨ (∀ k, s.twinLink = some k → s.linkState k ≠ 4) →
    Completes .heartbeatDue s (fun t => t = s))
  ∧ (∀ (s : State) (k : Nat) (m : List Byte) (rest : List (List Byte)), s.twinLink = some k → (s.link k).inbox = m :: rest → byteAt m 0 = 0x80 →
    let f := byteAt m 1
    let theirs := bitAt f 3
    let active := f % 4 < 2
    let acts := s.twinOn ∧ s.running
    let preferred := if s.linkState k = 4 then (if pref s = theirs then decide (s.fuses.serial < (s.link k).peerSerial) else pref s) else pref s
    let both := s.twin.undecided = false ∧ s.role < 2 ∧ s.twin.pinTaken = false
    Completes .heartbeat s (fun t =>
      t.twin.seenLink ∧ t.twin.peerRole = f % 4 ∧ t.twin.peerSynced = bitAt f 2 ∧ t.twin.peerPref = theirs ∧ t.twin.peerIngest = fieldAt m 4 8
      ∧ t.twin.peerPos = fieldAt m 12 8 ∧ st t Fld.TWIN_STATUS_PEER_SEEN ∧ (st t Fld.TWIN_STATUS_PEER_ELIGIBLE ↔ f % 4 = 2 ∧ bitAt f 2)
      ∧ (t.twin.pinTaken = (s.twin.pinTaken && decide active))
      ∧ (¬ acts → t.role = s.role ∧ KeepsFields s t Reg.TWIN_STATUS [Fld.TWIN_STATUS_PEER_SEEN, Fld.TWIN_STATUS_PEER_ELIGIBLE]
          ∧ KeepsRegs s t (fun a => a = Reg.TWIN_STATUS) ∧ Only [.links, .twin, .regs] s t)
      ∧ (acts → (st t Fld.TWIN_STATUS_PREF_CONFLICT ↔ st s Fld.TWIN_STATUS_PREF_CONFLICT ∨ pref s = theirs)
          ∧ (pref s = theirs → st s Fld.TWIN_STATUS_PREF_CONFLICT = false → t.twin.noRevert ∧ Counted s t Ev.TWIN_PREF_CONFLICT)
          ∧ (¬ active → st t Fld.TWIN_STATUS_SPLIT = false ∧ t.pins.yieldLow = s.pins.yieldLow ∧ t.twin.undecided = s.twin.undecided
              ∧ t.role = (if s.twin.undecided = false ∧ s.role = 0 then 1 else s.role))
          ∧ (active → s.twin.undecided → t.twin.undecided = false ∧ t.role = 2 ∧ wave t = 250)
          ∧ (active → both → preferred = true → st t Fld.TWIN_STATUS_SPLIT ∧ t.role = 1
              ∧ (st s Fld.TWIN_STATUS_SPLIT = false → Counted s t Ev.TWIN_SPLIT))
          ∧ (active → both → preferred = false → t.role = 3 ∧ t.get Reg.TWIN_STATUS Fld.TWIN_STATUS_LAST_CAUSE = 9 ∧ t.pins.yieldLow ∧ wave t = 0
              ∧ t.full (Reg.TWIN_COUNT 0) = min (s.full (Reg.TWIN_COUNT 0) + 1) (2 ^ 32 - 1) ∧ Counted s t Ev.TWIN_YIELD)
          ∧ (active → s.twin.undecided = false → 2 ≤ s.role → t.role = s.role ∧ t.pins = s.pins))
      ∧ (t.link k).inbox = rest
      ∧ KeepsRegs s t (fun a => a = Reg.TWIN_STATUS ∨ a = Reg.TWIN_COUNT 0 ∨ AnyEventRegs a) ∧ Only (([.twin, .pins] : List Part) ++ sendParts) s t))
  ∧ (∀ (w : Fin 3) (s : State), s.twin.undecided = false ∨ s.role ≠ 3 →
    let khz := if w = 2 then 1000 else if w = 1 then 250 else 0
    let acts := s.twinOn ∧ s.running
    Completes (.peerHealthWave w) s (fun t =>
      t.twin.seenWave = khz ∧ (st t Fld.TWIN_STATUS_PEER_SEEN ↔ s.twin.seenLink ∨ khz ≠ 0)
      ∧ (¬ acts ∨ w = 0 → t.role = s.role ∧ t.twin = { s.twin with seenWave := khz } ∧ Only [.twin, .regs] s t)
      ∧ (acts → w = 1 → t.role = (if s.twin.undecided = false ∧ s.role = 0 then 1 else s.role) ∧ t.stopped = s.stopped)
      ∧ (acts → w = 2 → s.twin.undecided → t.twin.undecided = false ∧ t.role = 2 ∧ wave t = 250)
      ∧ (acts → w = 2 → s.twin.undecided = false → s.role < 2 → s.twin.pinTaken = false → t.role = 1 ∧ st t Fld.TWIN_STATUS_SPLIT
          ∧ (st s Fld.TWIN_STATUS_SPLIT = false → Counted s t Ev.TWIN_SPLIT))
      ∧ (acts → w = 2 → s.role = 3 → s.get Reg.TWIN_STATUS Fld.TWIN_STATUS_LAST_CAUSE ≠ 9 → t.role = 3 ∧ t.stopped)
      ∧ (acts → w = 2 → s.role = 3 → s.get Reg.TWIN_STATUS Fld.TWIN_STATUS_LAST_CAUSE = 9 → t.role = 2 ∧ t.stopped = false ∧ wave t = 250
          ∧ st t Fld.TWIN_STATUS_SYNCED = false ∧ t.pins.yieldLow = false)
      ∧ KeepsRegs s t (fun a => a = Reg.TWIN_STATUS ∨ EventRegs Ev.TWIN_SPLIT a) ∧ Only (([.twin, .pins, .stopped] : List Part) ++ eventParts) s t))
  ∧ (∀ s : State,
    let alone := s.twinOn ∧ s.running ∧ (s.twin.undecided ∨ s.role = 1) ∧ s.twin.seenLink = false ∧ s.twin.seenWave = 0
    Completes .soloTimeout s (fun t =>
      (alone → t.role = 0 ∧ t.twin = { s.twin with undecided := false } ∧ wave t = 1000 ∧ KeepsFields s t Reg.TWIN_STATUS [Fld.TWIN_STATUS_ROLE]
        ∧ KeepsRegs s t (fun a => a = Reg.TWIN_STATUS) ∧ Only [.regs, .twin, .pins] s t)
      ∧ (¬ alone → t = s)))
  -- PROGRESS
  ∧ (∀ (s : State) (r i v : Nat),
    (r < 16384 → s.ringState r ≠ 0 → ((2 ^ 15 + r, s.devPos r) ∈ s.advanced ↔ (mapFind s.twin.told (2 ^ 15 + r)).getD 0 ≠ s.devPos r))
    ∧ (i < 2 ^ 15 → ((i, v) ∈ s.advanced ↔ (∃ x, (i, x) ∈ s.eth.streams ∧ x.sentSeq = some v) ∧ mapFind s.twin.told i ≠ some v)))
  ∧ (∀ (s : State) (k : Nat), s.twinLink = some k → s.twinOn → s.role = 1 → s.linkState k = 4 →
    let l := s.advanced
    Completes .progressDue s (fun t =>
      t.twin = { s.twin with told := l.foldl (fun m e => mapPut m e.1 e.2) s.twin.told }
      ∧ (l = [] → t.out.flits = s.out.flits)
      ∧ (l ≠ [] → l.length ≤ 20 → quiet s k 0 → t.out.flits = s.out.flits
          ++ [flit s k 0 ([0x83] ++ le 1 l.length ++ zeros 6 ++ l.flatMap (fun e => le 2 e.1 ++ zeros 2 ++ le 8 e.2))])
      ∧ KeepsRegs s t backlogEvent ∧ Only (([.twin] : List Part) ++ sendParts) s t))
  ∧ (∀ s : State, s.twinOn = false ∨ s.role ≠ 1 ∨ (∀ k, s.twinLink = some k → s.linkState k ≠ 4) → Completes .progressDue s (fun t => t = s))
  ∧ (∀ (s : State) (k : Nat) (m : List Byte) (rest : List (List Byte)), s.twinLink = some k → (s.link k).inbox = m :: rest → byteAt m 0 = 0x83 →
    let es := (List.range (byteAt m 1)).map (fun i => (fieldAt m (8 + 12 * i) 2, fieldAt m (12 + 12 * i) 8))
    let covered := es.foldl (fun c e => mapPut c e.1 e.2) s.twin.covered
    let gone := fun i seq => (mapFind covered i).any (fun v => decide ((v + 2 ^ 64 - seq) % 2 ^ 64 < 2 ^ 63))
    Completes .progress s (fun t =>
      (s.role ≠ 2 → t = took s k rest)
      ∧ (s.role = 2 → t.twin = { s.twin with covered := covered } ∧ (t.link k).inbox = rest
          ∧ (∀ i, t.stream i = { s.stream i with queue := (s.stream i).queue.filter (fun p => !gone i p.seq) })
          ∧ t.heldWrites = s.heldWrites.filter (fun w => !(mapFind covered (2 ^ 15 + w.ring)).any
              (fun v => decide (posDiff (s.ringSize w.ring) v w.pos ≤ s.ringSize w.ring))))
      ∧ KeepsRegs s t (fun _ => False) ∧ Only [.links, .twin, .streams, .heldWrites, .rings, .pba, .outMsix] s t))
  -- the order stream
  ∧ (∀ (s s1 : State) (k : Nat) (m : List Byte), s.twinLink = some k →
    (s.takeMsg k 1 0x90 = some (m, s1) → Completes .releaseRecord s (fun t =>
      t = if s1.standby then { s1 with twin := { s1.twin with order := s1.twin.order ++ [fieldAt m 1 2 % 4096] } } else s1))
    ∧ (s.takeMsg k 1 0x91 = some (m, s1) → Completes .commandPoint s (fun t =>
      t = if s1.standby then { s1 with twin := { s1.twin with points := s1.twin.points ++ [m] } } else s1)))
  -- the state copy
  ∧ (∀ (s s1 : State) (k : Nat) (m : List Byte), s.twinLink = some k → s.takeMsg k 2 0x73 = some (m, s1) →
    let key := (fieldAt m 8 2, fieldAt m 4 4, fieldAt m 10 2, fieldAt m 16 8)
    let had := if s1.twin.copy = some key then s1.twin.blocks else []
    let n := fieldAt m 24 2
    let content := m.drop 32
    let good := s1.role = 2 ∧ byteAt m 1 = 1 ∧ fieldAt m 28 4 = crc32c (m.take 28 ++ content) ∧ mapFind had n = none
    let blocks := mapPut had n content
    let whole := blocks.length = fieldAt m 10 2
    let theirs := snapItems ((blocks.flatMap (·.2)).length / 16) (blocks.flatMap (·.2))
    Completes .stateBlock s (fun t =>
      (¬ good → t = s1)
      ∧ (good → t.twin.copy = some key ∧ t.twin.blocks = blocks)
      ∧ (good → ¬ whole → Only [.twin] s1 t)
      ∧ (good → whole → t.full (Reg.TWIN_COUNT 2) = min (s1.full (Reg.TWIN_COUNT 2) + 1) (2 ^ 32 - 1) ∧ t.full Reg.TWIN_CYCLE = fieldAt m 4 4)
      ∧ (good → whole → (∀ e q p bs, s1.twin.snap = some (e, q, p, bs) → s1.twin.compared ∨ e ≠ fieldAt m 8 2 ∨ q ≠ fieldAt m 4 4) →
          KeepsRegs s1 t (fun a => a = Reg.TWIN_COUNT 2 ∨ a = Reg.TWIN_CYCLE) ∧ Only [.twin, .regs] s1 t)
      ∧ (∀ p bs, good → whole → s1.twin.snap = some (fieldAt m 8 2, fieldAt m 4 4, p, bs) → s1.twin.compared = false →
          let own := snapItems (bs.length / 16) bs
          t.twin.compared
          ∧ (State.sameSnap own theirs → (st t Fld.TWIN_STATUS_SYNCED ↔ st s1 Fld.TWIN_STATUS_SYNCED ∨ s1.twin.since = none ∨ ∃ l, s1.twin.since = some l
                ∧ ∀ g ∈ s1.runningGroups, (mapFind l g.1).getD g.2 + 2 ≤ g.2)
              ∧ KeepsFields s1 t Reg.TWIN_STATUS [Fld.TWIN_STATUS_SYNCED]
              ∧ KeepsRegs s1 t (fun a => a = Reg.TWIN_STATUS ∨ a = Reg.TWIN_COUNT 2 ∨ a = Reg.TWIN_CYCLE ∨ EventRegs Ev.TWIN_SYNCED a)
              ∧ Only (([.twin] : List Part) ++ eventParts) s1 t)
          ∧ (State.sameSnap own theirs = false → st t Fld.TWIN_STATUS_SYNCED = false ∧ Counted s1 t Ev.TWIN_UNSYNC
              ∧ t.full (Reg.TWIN_COUNT 3) = min (s1.full (Reg.TWIN_COUNT 3) + 1) (2 ^ 32 - 1)
              ∧ t.twin.relPos = (s1.twin.relPos + (fieldAt m 16 8 + 2 ^ 64 - p % 2 ^ 64)) % 2 ^ 64 ∧ t.twin.clean = false ∧ t.twin.since ≠ none
              ∧ (∀ i o, theirs.filter (fun x => x.kind == SnapKind.trigSeq.num) = [i] → own.find? (fun x => x.kind == i.kind && x.index == i.index && x.part == i.part) = some o →
                  t.beam.trigSeq = (s1.beam.trigSeq + (i.value + 2 ^ 32 - o.value % 2 ^ 32)) % 2 ^ 32)
              ∧ (∀ i o, theirs.filter (fun x => x.kind == SnapKind.capSeq.num) = [i] → own.find? (fun x => x.kind == i.kind && x.index == i.index && x.part == i.part) = some o →
                  t.glean.seq = (s1.glean.seq + (i.value + 2 ^ 32 - o.value % 2 ^ 32)) % 2 ^ 32)
              ∧ Only (([.twin, .gran, .beam, .glean, .streams, .rings] : List Part) ++ eventParts) s1 t))))
  ∧ (∀ a b : List SnapItem, State.sameSnap a a = true ∧ (State.sameSnap a b = true → a.filter (fun i => decide (i.kind < 0x80)) = b.filter (fun i => decide (i.kind < 0x80))))
  -- the configuration update
  ∧ (∀ (s s1 : State) (k : Nat) (m : List Byte), s.twinLink = some k → s.takeMsg k 3 0x63 = some (m, s1) →
    let seq := fieldAt m 4 4
    let n := fieldAt m 8 2
    let count := fieldAt m 10 2
    let had := if s1.twin.cfgSeq = seq ∧ s1.twin.cfgCount = count then s1.twin.cfgBlocks else []
    let good := s1.standby ∧ s1.sys.checking = false ∧ byteAt m 1 = 1 ∧ fieldAt m 28 4 = crc32c (m.take 28 ++ m.drop 32) ∧ n < count ∧ mapFind had n = none
    let blocks := mapPut had n (m.drop 32)
    let bytes := (List.range count).flatMap (fun i => (mapFind blocks i).getD [])
    let done := { s1.twin with cfgBlocks := [], cfgCount := 0, cfgSeq := 0 }
    Completes .configUpdateBlock s (fun t =>
      (¬ good → t = s1)
      ∧ (good → blocks.length ≠ count → t = { s1 with twin := { s1.twin with cfgBlocks := blocks, cfgCount := count, cfgSeq := seq } })
      ∧ (good → blocks.length = count → ({ s1 with twin := done } : State).settings = bytes → t = { s1 with twin := done })
      ∧ (good → blocks.length = count → ({ s1 with twin := done } : State).settings ≠ bytes → s1.running = false →
          t = (((regPairs bytes).foldl (fun x p => x.fullWrite Writer.housekeeping p.1 p.2) ({ s1 with twin := done } : State)).commitStart))))
  ∧ (∀ s : State, Completes .configUpdateRetry s (fun t =>
    t = if s.twin.cfgBlocks = [] then s else { s with twin := { s.twin with cfgBlocks := [], cfgCount := 0, cfgSeq := 0 } }))

/-- R531–R535, R540: what a cause of R531 does on each role, the yield, the stop that follows it, the takeover, the loss of the partner, the
return, and TWIN_YIELD.
Where the spec leaves a point open this states the model's choice: log entry 158. -/
def Obligations.TwinYieldCauses : Prop :=
  let quiet := fun (s : State) (k v : Nat) => s.linkState k = 4 ∧ (s.link k).vc0 = [] ∧ (s.link k).txq = [[], [], []] ∧ 0 < (s.link k).credit.getD v 0
    ∧ (s.link k).replay.length < s.linkCfg k Fld.LANE_LINK_CFG_WINDOW ∧ (s.link k).refusing = false ∧ (s.link k).resend = []
  let flit := fun (s : State) (k v : Nat) (m : List Byte) =>
    (k, flitBytes 1 v (s.link k).nextSeq (s.link k).lastAcc (s.link k).crTurn ((s.link k).freed.getD (s.link k).crTurn 0 % 64) (m.take 248))
  let took := fun (s : State) (k : Nat) (rest : List (List Byte)) => s.setLink k { s.link k with inbox := rest }
  let st := fun (s : State) (f : Fld) => s.flag Reg.TWIN_STATUS f
  let cause := fun (s : State) => s.get Reg.TWIN_STATUS Fld.TWIN_STATUS_LAST_CAUSE
  let wave := fun (s : State) => s.pins.twinHealth
  let rises := fun (s t : State) a n => t.full a = min (s.full a + n) (2 ^ 32 - 1)
  let backlogEvent := EventRegs Ev.BALRAN_TX_BACKLOG
  let eligible := fun (s : State) => s.twin.peerRole = 2 ∧ s.twin.peerSynced ∧ (s.twin.seenLink ∨ s.twin.seenWave ≠ 0)
  -- R532: the yield
  let yields := fun (s t : State) (c : Nat) =>
    t.role = 3 ∧ cause t = c ∧ t.pins.yieldLow ∧ wave t = 0 ∧ rises s t (Reg.TWIN_COUNT 0) 1 ∧ Counted s t Ev.TWIN_YIELD ∧ t.stopped = s.stopped
    ∧ (∀ k, s.twinLink = some k → quiet s k 0 → t.out.flits = s.out.flits ++ [flit s k 0 ([0x81] ++ le 1 c ++ zeros 2 ++ le 8 s.twin.relPos)])
    ∧ KeepsFields s t Reg.TWIN_STATUS [Fld.TWIN_STATUS_ROLE, Fld.TWIN_STATUS_LAST_CAUSE]
  let yieldRegs := fun a => a = Reg.TWIN_STATUS ∨ a = Reg.TWIN_COUNT 0 ∨ EventRegs Ev.TWIN_YIELD a ∨ backlogEvent a
  -- R533: the takeover
  let retained := fun (s : State) => s.twin.retain.filter (fun e =>
    decide (s.now.units ≤ e.1 + s.unitGet Reg.TWIN_CFG Fld.TWIN_CFG_RETAIN_US * 65536000) && !(e.2.2.stream.any (fun i => s.isCovered i e.2.2.seq)))
  let takesOver := fun (s t : State) =>
    wave t = 1000 ∧ st t Fld.TWIN_STATUS_SYNCED = false ∧ rises s t (Reg.TWIN_COUNT 1) 1 ∧ Counted s t Ev.TWIN_TAKEOVER
    ∧ (∀ k, s.twinLink = some k → quiet s k 0 → t.out.flits = s.out.flits ++ [flit s k 0 ([0x82] ++ zeros 3 ++ le 8 s.twin.relPos)])
    ∧ (∀ i, t.stream i = { s.stream i with queue := (s.stream i).queue.filter (fun p => !s.isCovered i p.seq) })
    ∧ (let left := s.heldWrites.filter (fun w => !(mapFind s.twin.covered (2 ^ 15 + w.ring)).any
          (fun v => decide (posDiff (s.ringSize w.ring) v w.pos ≤ s.ringSize w.ring)))
       (s.hostFree → s.twin.undecided = false →
          t.out.host = s.out.host ++ left.map (fun w => (⟨w.addr, w.bytes, w.ro⟩ : HostWrite)) ∧ t.heldWrites = [])
       ∧ (s.hostFree = false → t.out.host = s.out.host ∧ t.heldWrites = left))
    ∧ (∀ p, s.portUp p →
        (t.port p).c0 = ((retained s).filter (fun e => e.2.1 == p)).map (fun e => { e.2.2 with again := true }) ++ (s.port p).c0)
    ∧ (∀ p < 16, s.portUp p = false → (t.port p).c0 = (s.port p).c0
        ∧ t.full (Reg.ETH_PORT_COUNT p 2) = min (s.full (Reg.ETH_PORT_COUNT p 2) + ((retained s).filter (fun e => e.2.1 == p)).length) (2 ^ 32 - 1))
    ∧ rises s t (Reg.TWIN_COUNT 5) (retained s).length ∧ (s.twin.reclaimed → Counted s t Ev.TWIN_RETURN)
    ∧ t.twin.retain = [] ∧ t.twin.order = [] ∧ t.twin.points = [] ∧ t.twin.copy = none ∧ t.twin.blocks = [] ∧ t.twin.clean = false ∧ t.twin.reclaimed = false
    ∧ t.twin.relPos = s.twin.relPos
  let takeRegs := fun a => a = Reg.TWIN_STATUS ∨ a = Reg.TWIN_COUNT 1 ∨ a = Reg.TWIN_COUNT 5 ∨ EventRegs Ev.TWIN_TAKEOVER a
    ∨ EventRegs Ev.TWIN_RETURN a ∨ backlogEvent a ∨ ∃ p, a = Reg.ETH_PORT_COUNT p 2
  let takeParts := ([.twin, .pins, .heldWrites, .outHost, .streams, .ports, .rings] : List Part) ++ sendParts
  -- R531: causes
  (∀ (s : State) (c : Nat), c < 16 →
    let t := s.selfFault c
    (s.twinOn = false ∨ s.role ≠ 1 → t = { s with twin := { s.twin with clean := false } })
    ∧ (s.twinOn → s.role = 1 → eligible s ∨ c = 4 → yields s t c ∧ KeepsRegs s t yieldRegs ∧ Only (([.pins] : List Part) ++ sendParts) s t)
    ∧ (s.twinOn → s.role = 1 → ¬ eligible s → c ≠ 4 → cause t = c ∧ Counted s t Ev.TWIN_YIELD
        ∧ KeepsFields s t Reg.TWIN_STATUS [Fld.TWIN_STATUS_LAST_CAUSE] ∧ KeepsRegs s t (fun a => a = Reg.TWIN_STATUS ∨ EventRegs Ev.TWIN_YIELD a)
        ∧ Only eventParts s t))
  ∧ (∀ (link : Fin 64) (s : State),
    let lost := s.running ∧ s.linkOn link ∧ s.linkBidir link = false ∧ s.linkState link ≠ 4 ∧ bitAt s.twin.peerIngest link
    Completes (.ingestLossTimeout link) s (fun t =>
      (lost → s.twinOn → s.role = 1 → eligible s → yields s t 3 ∧ KeepsRegs s t yieldRegs ∧ Only (([.pins] : List Part) ++ sendParts) s t)
      ∧ (lost → s.twinOn → s.role = 1 → ¬ eligible s → t.role = 1 ∧ cause t = 3 ∧ Counted s t Ev.TWIN_YIELD
          ∧ KeepsRegs s t (fun a => a = Reg.TWIN_STATUS ∨ EventRegs Ev.TWIN_YIELD a) ∧ Only eventParts s t)
      ∧ (lost → s.twinOn = false ∨ s.role ≠ 1 → t = { s with twin := { s.twin with clean := false } })
      ∧ (¬ lost → t = s)))
  -- R540
  ∧ (∀ (src : CmdSrc) (s u s1 : State) (ref : CmdRef) (d : List Byte) (r : Nat), Handed s src 0x4C u s1 ref d r →
    Completes (.twinYield src) s (fun t =>
      (u.twinOn → u.role = 1 → eligible u → yields u t 7 ∧ t.twin = { u.twin with cmds := u.twin.cmds ++ [ref] }
        ∧ KeepsRegs u t (fun a => yieldRegs a ∨ AnswerRegs s1 src a) ∧ Only (([.pins, .twin] : List Part) ++ sendParts ++ answerParts) u t)
      ∧ (¬ (u.twinOn ∧ u.role = 1 ∧ eligible u) → Answered t ref (fun c => c.status = St.BAD_PARAM)
        ∧ KeepsRegs u t (AnswerRegs s1 src) ∧ Only answerParts u t)))
  -- R532: the stop after a yield
  ∧ (∀ s : State, Completes .yieldTimeout s (fun t =>
    (s.role ≠ 3 → t = s)
    ∧ (s.role = 3 → cause s ≠ 9 → t = { s with stopped := true })
    ∧ (s.role = 3 → cause s = 9 → t.role = 2 ∧ wave t = 250 ∧ t.stopped = false ∧ t.pins.yieldLow = false ∧ st t Fld.TWIN_STATUS_SYNCED = false
        ∧ t.twin = { s.twin with since := some [], compared := true }
        ∧ KeepsFields s t Reg.TWIN_STATUS [Fld.TWIN_STATUS_ROLE, Fld.TWIN_STATUS_SYNCED]
        ∧ KeepsRegs s t (fun a => a = Reg.TWIN_STATUS) ∧ Only [.regs, .twin, .pins, .stopped] s t)))
  ∧ (∀ (s : State) (k : Nat) (m : List Byte) (rest : List (List Byte)), s.twinLink = some k → (s.link k).inbox = m :: rest → byteAt m 0 = 0x82 →
    Completes .taken s (fun t => ∃ v, t = (if s.sys.resetOnTaken then v.fullReset else v)
      ∧ v.twin.cmds = [] ∧ (v.link k).inbox = rest ∧ v.sys = s.sys
      ∧ (∀ r ∈ s.twin.cmds, Awaits s r → Answered v r (fun c => c.status = St.OK))
      ∧ (s.role = 3 → cause s ≠ 9 → v.stopped ∧ v.role = 3)
      ∧ (s.role = 3 → cause s = 9 → v.role = 2 ∧ wave v = 250 ∧ v.stopped = false ∧ v.pins.yieldLow = false)
      ∧ (s.role ≠ 3 → v.role = s.role ∧ v.stopped = s.stopped ∧ v.pins = s.pins)
      ∧ ((∀ r ∈ s.twin.cmds, ∃ q id, r = CmdRef.slot q id) → KeepsRegs s v (fun a => a = Reg.TWIN_STATUS))
      ∧ Only (([.links, .twin, .pins, .stopped] : List Part) ++ answerParts) s v))
  -- R533
  ∧ (∀ (s : State) (k : Nat) (m : List Byte) (rest : List (List Byte)), s.twinLink = some k → (s.link k).inbox = m :: rest → byteAt m 0 = 0x81 →
    let own := s.flag Reg.TWIN_CFG Fld.TWIN_CFG_PREF
    let preferred := if s.linkState k = 4 ∧ s.twin.seenLink then (if own = s.twin.peerPref then decide (s.fuses.serial < (s.link k).peerSerial) else own) else own
    Completes .yield s (fun t =>
      t.twin.pinTaken = false ∧ t.twin.peerRole = 3 ∧ (t.link k).inbox = rest
      ∧ (s.role = 2 → takesOver s t ∧ t.role = 1 ∧ st t Fld.TWIN_STATUS_PEER_ELIGIBLE = false
          ∧ KeepsRegs s t takeRegs ∧ Only takeParts s t)
      ∧ (s.role = 3 → s.stopped = false → preferred = true → t.role = 1 ∧ wave t = 1000 ∧ t.pins.yieldLow = false
          ∧ KeepsFields s t Reg.TWIN_STATUS [Fld.TWIN_STATUS_ROLE] ∧ KeepsRegs s t (fun a => a = Reg.TWIN_STATUS) ∧ Only [.links, .twin, .pins, .regs] s t)
      ∧ (s.role ≠ 2 → ¬ (s.role = 3 ∧ s.stopped = false ∧ preferred = true) → Only [.links, .twin] s t)))
  ∧ (∀ s : State, Completes .twinYieldNLow s (fun t =>
    (s.twinOn → s.role = 2 → s.running → takesOver s t ∧ t.role = 1 ∧ t.twin.pinTaken ∧ KeepsRegs s t takeRegs ∧ Only takeParts s t)
    ∧ (s.twinOn = false ∨ s.role ≠ 2 ∨ s.running = false → t = s)))
  -- R534
  ∧ (∀ (runs : Bool) (s : State), Completes (.peerLost runs) s (fun t =>
    let acts := s.twinOn ∧ s.running ∧ s.twin.undecided = false
    (¬ acts → t = s)
    ∧ (acts → t.twin.seenLink = false ∧ t.twin.seenWave = 0 ∧ rises s t (Reg.TWIN_COUNT 4) 1 ∧ st t Fld.TWIN_STATUS_PEER_SEEN = false
        ∧ st t Fld.TWIN_STATUS_PEER_ELIGIBLE = false)
    ∧ (acts → s.role = 2 → takesOver s t ∧ t.role = 1 ∧ Counted s t Ev.TWIN_PEER_LOST)
    ∧ (acts → s.role = 3 → t.role = 3 ∧ Only [.twin, .regs] s t)
    ∧ (acts → s.role < 3 → runs → st t Fld.TWIN_STATUS_SPLIT ∧ (st s Fld.TWIN_STATUS_SPLIT = false → Counted s t Ev.TWIN_SPLIT))
    ∧ (acts → s.role < 2 → t.role = s.role ∧ t.heldWrites = s.heldWrites ∧ Only (([.twin] : List Part) ++ eventParts) s t)
    ∧ (acts → runs = false ∨ s.role = 3 → st t Fld.TWIN_STATUS_SPLIT = st s Fld.TWIN_STATUS_SPLIT)
    ∧ KeepsRegs s t (fun a => takeRegs a ∨ a = Reg.TWIN_COUNT 4 ∨ EventRegs Ev.TWIN_PEER_LOST a ∨ EventRegs Ev.TWIN_SPLIT a) ∧ Only takeParts s t))
  -- R535
  ∧ (∀ (s : State) (k : Nat) (m : List Byte) (rest : List (List Byte)), s.twinLink = some k → (s.link k).inbox = m :: rest → byteAt m 0 = 0x84 →
    Completes .reclaim s (fun t =>
      (s.twinOn → s.role = 1 → yields s t 8 ∧ (t.link k).inbox = rest ∧ KeepsRegs s t yieldRegs ∧ Only (([.pins] : List Part) ++ sendParts) s t)
      ∧ (s.twinOn = false ∨ s.role ≠ 1 → t = took s k rest)))

/-- R42–R44, R328, R342, R474, R543, R546, R555–R560, R589: stop and the resets. What each asks for, what it leaves, and what a kept timing
island keeps.
Where the spec leaves a point open this states the model's choice: log entries 66, 82, 182, 183, 184 and 187. -/
def Obligations.StopAndResets : Prop :=
  let stage := fun (s : State) => s.get Reg.GLB_STATUS Fld.GLB_STATUS_STAGE
  let status := fun (s : State) => s.get Reg.GLB_STATUS Fld.GLB_STATUS_STATE
  let alive := fun (s : State) => s.pins.pwrOk ∧ s.pins.loClk
  let atRest := fun (t : State) => t.lanes = {} ∧ t.host = {} ∧ t.eth = {} ∧ t.ingest = {} ∧ t.harrow = {} ∧ t.weed = {} ∧ t.turn = {} ∧ t.corr = {}
    ∧ t.gran = {} ∧ t.glean = {} ∧ t.beam = {} ∧ t.mem = {} ∧ t.xbar = {} ∧ t.adc = {} ∧ t.avs = {} ∧ t.weave = {} ∧ t.twin = {}
    ∧ t.heldWrites = [] ∧ t.stopped = false ∧ t.hbm = [] ∧ t.poison = []
  let outside := fun (s t : State) => t.pending = s.pending ∧ t.out = s.out ∧ t.fuses = s.fuses ∧ t.readData = s.readData ∧ t.freeIx = s.freeIx
  let low := fun (p : PinSt) => { p with ready := false, yieldLow := false, twinHealth := 0, obs := List.replicate 16 0, atb := [0, 0] }
  let island := fun (t : State) => t.clock = {} ∧ t.time = {} ∧ t.alm = {} ∧ t.ref = {}
  -- a full reset of `s` answers `t`
  let full := fun (s t : State) =>
    let keep := s.flag Reg.GLB_RESET_KEEP Fld.GLB_RESET_KEEP_TIMING
    stage t = 1 ∧ status t = 0 ∧ t.flag Reg.GLB_STATUS Fld.GLB_STATUS_READY = false
    ∧ t.flag Reg.GLB_STATUS Fld.GLB_STATUS_EWESEN = s.flag Reg.GLB_STRAP Fld.GLB_STRAP_EWESEN_MODE
    ∧ t.flag Reg.TWIN_CFG Fld.TWIN_CFG_PREF = s.flag Reg.GLB_STRAP Fld.GLB_STRAP_TWIN_PREF
    ∧ t.reg Reg.GLB_RESET_KEEP = s.reg Reg.GLB_RESET_KEEP ∧ t.reg Reg.GLB_STRAP = s.reg Reg.GLB_STRAP
    ∧ t.get Reg.DBG_LOCK Fld.DBG_LOCK_FAILS = s.get Reg.DBG_LOCK Fld.DBG_LOCK_FAILS
    ∧ t.get Reg.DBG_LOCK Fld.DBG_LOCK_STATE = (if s.get Reg.DBG_LOCK Fld.DBG_LOCK_STATE = 3 then 3 else 0)
    ∧ t.pins = low s.pins
    ∧ t.sys = { keptReset := keep, staleTime := true, timeCopy := if keep then s.now else {}, dacOn := s.sys.dacOn
                quiet0 := keep && s.sys.quiet0, slewEn := if keep then 0xFE + s.sys.slewEn % 2 else 0xFF } ∧ t.evt = { held := s.evt.held }
    ∧ (∀ a, ¬ (keep ∧ InBlock [17, 18, 19] a) → ¬ InBlock [21] a →
        a ∉ [Reg.GLB_RESET_KEEP, Reg.GLB_STRAP, Reg.GLB_STATUS, Reg.TWIN_CFG, Reg.DBG_LOCK, Reg.EVT_STATUS] → t.reg a = regReset a)
    ∧ (keep → (∀ a, InBlock [17, 18, 19] a → t.reg a = s.reg a) ∧ t.clock = s.clock ∧ t.alm.entries.map (·.1) = s.alm.entries.map (·.1)
        ∧ (∀ e ∈ s.alm.entries, ∃ x ∈ t.alm.entries, x.1 = e.1 ∧ x.2.image = e.2.image) ∧ t.alm.execs = []
        ∧ (∀ e ∈ t.alm.entries, AlmImage.bySheaf e.2.image → e.2.dueAt = none ∧ e.2.delayed)
        ∧ t.dacOut 0 = s.dacOut 0 ∧ t.dacRange 0 = s.dacRange 0 ∧ t.dacTarget 0 = s.dacTarget 0 ∧ t.reg (Reg.DAC_CH_PEND 0) = s.reg (Reg.DAC_CH_PEND 0)
        ∧ (s.sys.dacOn → t.dacParked 0 = s.dacParked 0 ∧ t.dacSlewing 0 = s.dacSlewing 0))
    ∧ (keep = false → island t)
    ∧ (∀ c < 8, s.sys.dacOn → keep = false ∨ c ≠ 0 → (s.dacFuse c).2.1 < 65536 → (s.dacFuse c).1 < 4 →
        t.dacTarget c = (s.dacFuse c).2.1
        ∧ (s.dacParked c = false → s.dacRange c = (s.dacFuse c).1 → t.dacOut c = s.dacOut c ∧ t.dacRange c = s.dacRange c
            ∧ (t.dacSlewing c ↔ (s.dacFuse c).2.1 ≠ s.dacOut c))
        ∧ (s.dacParked c → t.dacOut c = zeroCode (s.dacFuse c).1 ∧ t.dacRange c = (s.dacFuse c).1))
    ∧ atRest t ∧ outside s t
  let asked := fun (s t : State) => (alive s → full s t) ∧ (¬ alive s → t = s)
  (∀ s : State, Completes .glbCtlReset s (fun t => (s.sys.checking = false → asked s t) ∧ (s.sys.checking → t = s)))
  ∧ (∀ s : State, Completes .pcieHotReset s (fun t =>
      (s.flag Reg.DMA_PCIE_STATUS Fld.DMA_PCIE_STATUS_LINK_UP → asked s t) ∧ (s.flag Reg.DMA_PCIE_STATUS Fld.DMA_PCIE_STATUS_LINK_UP = false → t = s)))
  ∧ (∀ s : State, Completes .pcieLinkDown s (fun t =>
      (s.flag Reg.DMA_PCIE_STATUS Fld.DMA_PCIE_STATUS_LINK_UP → asked s t) ∧ (s.flag Reg.DMA_PCIE_STATUS Fld.DMA_PCIE_STATUS_LINK_UP = false → t = s)))
  ∧ (∀ s : State, Completes .perstNAssert s (asked { s with pins := { s.pins with perstN := false } }))
  ∧ (∀ s : State, Completes .perstNRelease s (fun t => t = { s with pins := { s.pins with perstN := true } }))
  -- R559
  ∧ (∀ s : State, (s.sys.fwUp = false → Completes .watchdogExpiry s (fun t => t = s))
    ∧ (s.sys.fwUp → Completes .watchdogExpiry s (fun t => ∃ v,
        Counted s v Ev.GLB_WATCHDOG ∧ KeepsRegs s v (fun a => InBlock [1, 16] a ∨ a = Reg.TWIN_STATUS ∨ a = Reg.TWIN_COUNT 0)
        ∧ Only (([.xbar, .mem, .free, .pins, .outHost] : List Part) ++ sendParts) s v
        ∧ (¬ (s.twinOn ∧ s.running ∧ s.role = 1) → s.pins = v.pins ∧ asked v t)
        ∧ (s.twinOn → s.running → s.role = 1 → s.eligible → v.role = 3 ∧ v.get Reg.TWIN_STATUS Fld.TWIN_STATUS_LAST_CAUSE = 5 ∧ v.pins.yieldLow
            ∧ t = { v with sys := { v.sys with resetOnTaken := true } })
        ∧ (s.twinOn → s.running → s.role = 1 → s.eligible = false → v.role = 1 ∧ v.get Reg.TWIN_STATUS Fld.TWIN_STATUS_LAST_CAUSE = 5 ∧ asked v t))))
  -- power
  ∧ (∀ (b e p : Bool) (s : State), (s.pins.pwrOk → Completes (.pwrOkRise b e p) s (fun t => t = s))
    ∧ (s.pins.pwrOk = false → Completes (.pwrOkRise b e p) s (fun t =>
        t.pins = { s.pins with pwrOk := true, bootSrc := b, ewesenMode := e, twinPref := p }
        ∧ t.full Reg.GLB_STRAP = b2n b + 2 * b2n e + 4 * b2n p ∧ t.flag Reg.GLB_STATUS Fld.GLB_STATUS_EWESEN = e ∧ t.flag Reg.TWIN_CFG Fld.TWIN_CFG_PREF = p
        ∧ stage t = (if s.pins.loClk then 1 else stage s)
        ∧ KeepsFields s t Reg.GLB_STATUS [Fld.GLB_STATUS_EWESEN, Fld.GLB_STATUS_STAGE] ∧ KeepsFields s t Reg.TWIN_CFG [Fld.TWIN_CFG_PREF]
        ∧ KeepsRegs s t (fun a => a = Reg.GLB_STRAP ∨ a = Reg.GLB_STATUS ∨ a = Reg.TWIN_CFG) ∧ Only [.regs, .pins] s t)))
  ∧ (∀ s : State, Completes .pwrOkFall s (fun t =>
      (∀ a, a ≠ Reg.DAC_STATUS → t.reg a = regReset a) ∧ t.flag Reg.DAC_STATUS Fld.DAC_STATUS_CLEAR = !s.pins.dacClearN
      ∧ t.pins = low { s.pins with pwrOk := false } ∧ t.sys = {} ∧ t.evt = {} ∧ t.dac = {}
      ∧ island t ∧ atRest t ∧ outside s t))
  ∧ (∀ s : State, Completes .loClkLoss s (fun t =>
      (∀ a, a ∉ [Reg.DAC_STATUS, Reg.GLB_STRAP, Reg.GLB_STATUS, Reg.TWIN_CFG] → t.reg a = regReset a) ∧ t.reg Reg.GLB_STRAP = s.reg Reg.GLB_STRAP
      ∧ stage t = 0 ∧ status t = 0 ∧ t.flag Reg.GLB_STATUS Fld.GLB_STATUS_EWESEN = s.flag Reg.GLB_STRAP Fld.GLB_STRAP_EWESEN_MODE
      ∧ t.flag Reg.TWIN_CFG Fld.TWIN_CFG_PREF = s.flag Reg.GLB_STRAP Fld.GLB_STRAP_TWIN_PREF
      ∧ t.pins = low { s.pins with loClk := false } ∧ t.sys = {} ∧ t.evt = {} ∧ t.dac = {}
      ∧ island t ∧ atRest t ∧ outside s t))
  ∧ (∀ s : State, Completes .loClkReturn s (fun t =>
      (s.pins.loClk → t = s)
      ∧ (s.pins.loClk = false → t.pins = { s.pins with loClk := true } ∧ stage t = (if s.pins.pwrOk then 1 else stage s)
          ∧ KeepsFields s t Reg.GLB_STATUS [Fld.GLB_STATUS_STAGE] ∧ KeepsRegs s t (fun a => a = Reg.GLB_STATUS) ∧ Only [.regs, .pins] s t)))
  -- R558
  ∧ (∀ s : State, (s.sys.checking → Completes .islandReset s (fun t => t = s))
    ∧ (s.sys.checking = false → s.running → Completes .islandReset s (fun t =>
        Counted s t Ev.GLB_RESET_REFUSED ∧ KeepsRegs s t (EventRegs Ev.GLB_RESET_REFUSED) ∧ Only eventParts s t))
    ∧ (s.sys.checking = false → s.running = false → s.dac.cmds = [] → Completes .islandReset s (fun t =>
        (∀ a, InBlock [17, 18, 19] a → a ≠ Reg.TIME_PTP_LAT → t.reg a = regReset a ∧ t.timeReg a = regReset a)
        ∧ island { t with time := { t.time with regs := [] } }
        ∧ t.full Reg.TIME_PTP_LAT = (s.fuses.ptp.getD s.sys.ptpSel (0, 0)).1 % 2 ^ 16 + (s.fuses.ptp.getD s.sys.ptpSel (0, 0)).2 % 2 ^ 16 * 2 ^ 16
        ∧ t.timeFull Reg.TIME_PTP_LAT = t.full Reg.TIME_PTP_LAT
        ∧ (∀ j ∈ s.time.jobs, ∀ r id, j.1 = CmdRef.slot r id → Awaits s j.1 → Answered t j.1 (fun c => c.status = St.REF_STOPPED))
        ∧ (s.sys.dacOn → (s.dacFuse 0).2.1 < 65536 → t.dacTarget 0 = (s.dacFuse 0).2.1)
        ∧ t.flag (Reg.DAC_CH_CFG 0) Fld.DAC_CH_CFG_OWNED = false
        ∧ KeepsRegs s t (fun a => InBlock [17, 18, 19, 21] a ∨ ∃ r < 16384, a = Reg.RING_COUNT r)
        ∧ Only [.regs, .rings, .firings, .almanac, .clock, .time, .ref, .dac] s t)))
  -- R555
  ∧ (∀ s : State, s.running = false ∨ s.sys.checking → Completes .stop s (fun t => t = s))
  ∧ (∀ s : State, s.running → s.sys.checking = false → Completes .stop s (fun t =>
      status t = 1 ∧ (∀ g < 8, t.grpState g = 0 ∧ t.get (Reg.GRAN_GRP_STATE g) Fld.GRAN_GRP_STATE_DRAIN = 0)
      ∧ t.ingest = {} ∧ t.harrow = {} ∧ t.turn = {} ∧ t.corr = {} ∧ t.gran = {} ∧ t.glean = {} ∧ t.weave.heard = [] ∧ t.beam.volt = [] ∧ t.beam.det = []
      ∧ t.get Reg.GLEAN_STATUS Fld.GLEAN_STATUS_STATE = 0 ∧ t.get Reg.WEAVE_STATUS Fld.WEAVE_STATUS_STATE = 0
      ∧ t.flag Reg.INGEST_STATUS Fld.INGEST_STATUS_RUNNING = false ∧ t.flag Reg.CORR_STATUS Fld.CORR_STATUS_RUNNING = false
      ∧ t.flag Reg.BEAM_STATUS Fld.BEAM_STATUS_RUNNING = false ∧ t.flag Reg.GRAN_STATUS Fld.GRAN_STATUS_RUNNING = false))
  ∧ (∀ s : State, s.running → s.sys.checking = false → s.corr.flights = [] → s.corr.suspects = [] → s.corr.spills = [] →
    (∀ g < 8, (s.grp g).old = none) → s.beam.volt = [] → s.beam.det = [] → Completes .stop s (fun t =>
      t.full (Reg.GLB_COUNT 0) = min (s.full (Reg.GLB_COUNT 0) + ((List.range 8).filter (fun g => (s.grp g).fill.isSome)).length) (2 ^ 32 - 1)
      ∧ (∀ g < 8, t.full (Reg.GRAN_GRP_SEQ g) = s.full (Reg.GRAN_GRP_SEQ g) ∧ t.full (Reg.GRAN_GRP_PASSES g) = s.full (Reg.GRAN_GRP_PASSES g)
          ∧ t.get (Reg.GRAN_GRP_STATE g) Fld.GRAN_GRP_STATE_EPOCH = s.get (Reg.GRAN_GRP_STATE g) Fld.GRAN_GRP_STATE_EPOCH)
      ∧ (∀ r < 16384, t.ringState r = s.ringState r)
      ∧ (∀ ref ∈ s.waitingRefs, Awaits s ref → Answered t ref (fun c => c.status = St.NOT_RUNNING))
      ∧ ((∀ ref ∈ s.waitingRefs, ∃ r id, ref = CmdRef.slot r id) →
          KeepsRegs s t (fun a => a = Reg.GLB_STATUS ∨ a = Reg.GLB_COUNT 0 ∨ InBlock [3, 4, 6, 7, 8, 9, 10, 11] a ∨ a = Reg.WEAVE_STATUS))
      ∧ KeepsFields s t Reg.GLB_STATUS [Fld.GLB_STATUS_STATE]
      ∧ Only (([.ingest, .harrow, .weed, .turn, .corr, .gran, .glean, .beam, .weave] : List Part) ++ answerParts) s t))

/-- R36, R387, R392, R544–R554, R561, R579–R583, R598, R602: the stages from the fuses to READY, commit and its checks, fuse programming and
the debug lock.
Where the spec leaves a point open this states the model's choice: log entries 102, 175, 176, 177, 178, 179, 180, 181, 186, 187, 188, 189, 190, 192, 197, 207 and 208. -/
def Obligations.StartUpCommitFusesAndDebug : Prop :=
  let stage := fun (s : State) => s.get Reg.GLB_STATUS Fld.GLB_STATUS_STAGE
  let status := fun (s : State) => s.get Reg.GLB_STATUS Fld.GLB_STATUS_STATE
  let halted := fun (s : State) => status s = 3
  let err := fun (s : State) f => s.get Reg.GLB_BOOT_ERR f
  let rises := fun (s t : State) a n => t.full a = min (s.full a + n) (2 ^ 32 - 1)
  let one := fun (s t : State) a fs => KeepsFields s t a fs ∧ KeepsRegs s t (fun x => x = a) ∧ Only [.regs] s t
  -- a checked image passes on: `v` as its header says, `w` with its pairs applied, `t` after the CONFIG stage
  let passes := fun (s t : State) (b : List Byte) (src : Nat) => ∃ (v w : State) (n : Nat),
    v.get Reg.GLB_BOOT_INFO Fld.GLB_BOOT_INFO_SOURCE = src ∧ v.flag Reg.GLB_BOOT_INFO Fld.GLB_BOOT_INFO_BOOTED
    ∧ v.pair Reg.WEAVE_DIGEST_LO Reg.WEAVE_DIGEST_HI = fieldAt b 16 8
    ∧ v.sys = { s.sys with configWait := false, autoCommit := bitAt (byteAt b 12) 2, imageSeq := fieldAt b 24 4 }
    ∧ (bitAt (byteAt b 12) 1 → v.flag Reg.GLB_COMPAT Fld.GLB_COMPAT_EWESEN ∧ v.flag Reg.GLB_STATUS Fld.GLB_STATUS_EWESEN)
    ∧ KeepsRegs s v (fun a => a = Reg.GLB_BOOT_INFO ∨ a = Reg.WEAVE_DIGEST_LO ∨ a = Reg.WEAVE_DIGEST_HI
        ∨ (src = 2 ∧ (a = Reg.GLB_BOOT_CTL ∨ a = Reg.GLB_BOOT_ERR)) ∨ (bitAt (byteAt b 12) 1 ∧ (a = Reg.GLB_COMPAT ∨ a = Reg.GLB_STATUS)))
    ∧ (src = 2 → v.flag Reg.GLB_BOOT_CTL Fld.GLB_BOOT_CTL_GO = false ∧ v.flag Reg.GLB_BOOT_CTL Fld.GLB_BOOT_CTL_BUSY = false ∧ err v Fld.GLB_BOOT_ERR_HOST = 0)
    ∧ Only [.regs, .sys] s v
    ∧ (w, n) = (imgPairs b).foldl State.applyPair (v, 0)
    ∧ t.get Reg.GLB_BOOT_INFO Fld.GLB_BOOT_INFO_SKIPPED = min n 65535 ∧ (0 < n → Counted w t Ev.GLB_ISLAND_KEPT) ∧ (src = 1 → Counted w t Ev.GLB_BOOT_SLOT)
    ∧ stage t = (if stage w = 2 then 3 else stage w)
    ∧ KeepsRegs w t (fun a => a = Reg.GLB_BOOT_INFO ∨ a = Reg.GLB_STATUS ∨ (0 < n ∧ EventRegs Ev.GLB_ISLAND_KEPT a) ∨ (src = 1 ∧ EventRegs Ev.GLB_BOOT_SLOT a))
    ∧ Only eventParts w t
  -- R548
  (∀ (c : Fin 256) (s : State), (stage s ≠ 1 ∨ halted s → ∀ u, Completes (.fuseStageEnd c u) s (fun t => t = s))
    ∧ (stage s = 1 → ¬ halted s → Completes (.fuseStageEnd c true) s (fun t =>
        t.flag Reg.GLB_STATUS Fld.GLB_STATUS_FUSE_ERR ∧ halted t ∧ one s t Reg.GLB_STATUS [Fld.GLB_STATUS_FUSE_ERR, Fld.GLB_STATUS_STATE]))
    ∧ (stage s = 1 → ¬ halted s → (∀ e ∈ s.fuses.laneCfg ++ s.fuses.laneEq, e.1 < 97) → s.dac.cmds = [] → Completes (.fuseStageEnd c false) s (fun t =>
        let f := s.fuses
        stage t = 2 ∧ t.sys = { s.sys with dacOn := true, configWait := s.flag Reg.GLB_STRAP Fld.GLB_STRAP_BOOT_SRC
                                           ptpSel := if s.sys.keptReset then s.sys.ptpSel else 2 }
        ∧ t.full Reg.FUSE_STATUS = f.variant % 2 + f.rev % 16 * 2 ^ 4 + b2n f.ownerSet * 2 ^ 8 + b2n f.requireSigned * 2 ^ 9 + b2n f.dbgLocked * 2 ^ 10 + c.val * 2 ^ 11
        ∧ t.pair Reg.FUSE_SERIAL_LO Reg.FUSE_SERIAL_HI = f.serial % 2 ^ 64 ∧ (∀ w < 12, t.full (Reg.FUSE_OWNER_HASH w) = f.ownerHash.getD w 0 % 2 ^ 32)
        ∧ t.get Reg.DBG_LOCK Fld.DBG_LOCK_STATE = (if s.get Reg.DBG_LOCK Fld.DBG_LOCK_STATE = 3 then 3 else if f.dbgLocked then 0 else 2)
        ∧ (∀ l v, f.laneEq.filter (fun e => e.1 == l) = [(l, v)] → t.get (Reg.LANE_EQ l) ⟨0, 22⟩ = v % 2 ^ 22)
        ∧ (∀ r < 4, t.get (Reg.AVS_RAIL r) Fld.AVS_RAIL_V_MIN_MV = f.vMin % 1024 ∧ t.get (Reg.AVS_RAIL r) Fld.AVS_RAIL_V_MAX_MV = f.vMax % 1024)
        ∧ t.get (Reg.AVS_RAIL 4) Fld.AVS_RAIL_V_MIN_MV = f.vddC % 1024 ∧ t.get (Reg.AVS_RAIL 4) Fld.AVS_RAIL_V_MAX_MV = f.vddC % 1024
        ∧ (s.sys.keptReset = false → t.timeFull Reg.TIME_PTP_LAT = t.full Reg.TIME_PTP_LAT ∧ t.full Reg.TIME_PTP_LAT = (f.ptp.getD 2 (0, 0)).1 % 2 ^ 16 + (f.ptp.getD 2 (0, 0)).2 % 2 ^ 16 * 2 ^ 16)
        ∧ (s.sys.keptReset → t.reg Reg.TIME_PTP_LAT = s.reg Reg.TIME_PTP_LAT ∧ t.time = s.time)
        ∧ (∀ m < 4, ∀ i < 68, let a := Reg.CORR_FURROW m i
            (68 * m + i ∈ f.spares → t.get a Fld.CORR_FURROW_STATE = 6 ∧ t.get a Fld.CORR_FURROW_CAUSE = 3)
            ∧ (68 * m + i ∉ f.spares → t.get a Fld.CORR_FURROW_STATE = (if 65 ≤ i then 1 else s.get a Fld.CORR_FURROW_STATE)))
        ∧ (s.sys.dacOn = false → ∀ ch < 8, (s.dacFuse ch).2.1 < 65536 → (s.dacFuse ch).1 < 4 →
            t.dacRange ch = (s.dacFuse ch).1 ∧ t.dacOut ch = zeroCode (s.dacFuse ch).1 ∧ t.dacTarget ch = (s.dacFuse ch).2.1 ∧ t.dacParked ch = false
            ∧ (t.dacSlewing ch ↔ (s.dacFuse ch).2.1 ≠ zeroCode (s.dacFuse ch).1))
        ∧ KeepsRegs s t (fun a => a = Reg.GLB_STATUS ∨ a = Reg.TIME_PTP_LAT ∨ InBlock [2, 7, 21, 25, 27, 28] a) ∧ Only [.regs, .sys, .dac, .time] s t)))
  -- R550, R552
  ∧ (∀ (b : List Byte) (k g f : Bool) (s : State),
    let e := s.imgError b k g f
    let second := err s Fld.GLB_BOOT_ERR_SLOT0 ≠ 0
    (stage s ≠ 2 ∨ s.sys.configWait → Completes (.configImageChecked b k g f) s (fun t => t = s))
    ∧ (stage s = 2 → s.sys.configWait = false → Completes (.configImageChecked b k g f) s (fun t =>
        (e = 0 → passes s t b (if second then 1 else 0))
        ∧ (e ≠ 0 → ¬ second → err t Fld.GLB_BOOT_ERR_SLOT0 = e ∧ one s t Reg.GLB_BOOT_ERR [Fld.GLB_BOOT_ERR_SLOT0])
        ∧ (e ≠ 0 → second → err t Fld.GLB_BOOT_ERR_SLOT1 = e ∧ t.sys = { s.sys with configWait := true }
            ∧ KeepsFields s t Reg.GLB_BOOT_ERR [Fld.GLB_BOOT_ERR_SLOT1] ∧ KeepsRegs s t (fun a => a = Reg.GLB_BOOT_ERR) ∧ Only [.regs, .sys] s t)))
    ∧ e ≤ 11 ∧ (e = 1 ↔ b.take 4 ≠ [0x4B, 0x4C, 0x43, 0x42])
    ∧ (e = 0 → fieldAt b 4 2 = 1 ∧ fieldAt b 60 4 = crc32c (b.take 60) ∧ fieldAt b (imgCrcAt b) 4 = crc32c (b.take (imgCrcAt b)) ∧ imgBytes b ≤ b.length
        ∧ (∀ x ∈ imgTable b, crc32c (x.bytes b) = x.crc ∧ x.offset + x.length ≤ imgCrcAt b) ∧ ((imgTable b).filter (fun x => x.type == 1)).length = 1
        ∧ (imgSigned b → k ∧ g ∧ s.flag Reg.FUSE_STATUS Fld.FUSE_STATUS_OWNER_SET) ∧ (s.flag Reg.FUSE_STATUS Fld.FUSE_STATUS_REQUIRE_SIGNED → imgSigned b) ∧ f
        ∧ ∀ p ∈ imgPairs b, pairAllowed p.1 = true)
    ∧ (imgForm b = 0 → (e = 7 ↔ imgSigned b ∧ ¬ (k ∧ s.flag Reg.FUSE_STATUS Fld.FUSE_STATUS_OWNER_SET))
        ∧ (e = 9 ↔ imgSigned b = false ∧ s.flag Reg.FUSE_STATUS Fld.FUSE_STATUS_REQUIRE_SIGNED)))
  ∧ (pairAllowed Reg.GLB_REMAP = false ∧ (∀ a, InBlock [27, 28] a → pairAllowed a = false) ∧ (∀ a, blockOf a = none → pairAllowed a = false))
  -- R553, R602
  ∧ (∀ s : State, Completes .glbBootGo s (fun t =>
      let acts := stage s = 2 ∧ s.sys.configWait ∧ s.flag Reg.GLB_BOOT_CTL Fld.GLB_BOOT_CTL_GO = false
      (acts → t.flag Reg.GLB_BOOT_CTL Fld.GLB_BOOT_CTL_GO ∧ t.flag Reg.GLB_BOOT_CTL Fld.GLB_BOOT_CTL_BUSY
        ∧ one s t Reg.GLB_BOOT_CTL [Fld.GLB_BOOT_CTL_GO, Fld.GLB_BOOT_CTL_BUSY])
      ∧ (¬ acts → t = s)))
  ∧ (∀ (im : HostRead) (k g f : Bool) (s : State),
    let ends := fun (t : State) => t.flag Reg.GLB_BOOT_CTL Fld.GLB_BOOT_CTL_GO = false ∧ t.flag Reg.GLB_BOOT_CTL Fld.GLB_BOOT_CTL_BUSY = false ∧ t.sys = s.sys
      ∧ stage t = stage s
    let two := fun a => a = Reg.GLB_BOOT_CTL ∨ a = Reg.GLB_BOOT_ERR
    (stage s ≠ 2 ∨ s.flag Reg.GLB_BOOT_CTL Fld.GLB_BOOT_CTL_GO = false → Completes (.hostImageReadEnd im k g f) s (fun t => t = s))
    ∧ (stage s = 2 → s.flag Reg.GLB_BOOT_CTL Fld.GLB_BOOT_CTL_GO → Completes (.hostImageReadEnd im k g f) s (fun t =>
        (16 * 2 ^ 20 < s.full Reg.GLB_BOOT_LEN → ends t ∧ err t Fld.GLB_BOOT_ERR_HOST = 4 ∧ KeepsRegs s t two ∧ Only [.regs] s t)
        ∧ (s.full Reg.GLB_BOOT_LEN ≤ 16 * 2 ^ 20 → s.flag Reg.DMA_PCIE_STATUS Fld.DMA_PCIE_STATUS_BUS_MASTER = false →
            ends t ∧ err t Fld.GLB_BOOT_ERR_HOST ≠ 0 ∧ rises s t (Reg.XBAR_COUNT 0) 1 ∧ Counted s t Ev.XBAR_DECODE
            ∧ KeepsRegs s t (fun a => two a ∨ a = Reg.XBAR_ERR_INFO 1 ∨ a = Reg.XBAR_ERR_ADDR_LO 1 ∨ a = Reg.XBAR_ERR_ADDR_HI 1 ∨ a = Reg.XBAR_COUNT 0
                ∨ EventRegs Ev.XBAR_DECODE a) ∧ Only (([.free] : List Part) ++ eventParts) s t)
        ∧ (s.full Reg.GLB_BOOT_LEN ≤ 16 * 2 ^ 20 → s.flag Reg.DMA_PCIE_STATUS Fld.DMA_PCIE_STATUS_BUS_MASTER →
            (im = HostRead.timeout → ends t ∧ err t Fld.GLB_BOOT_ERR_HOST ≠ 0 ∧ rises s t (Reg.DMA_COUNT 0) 1 ∧ Counted s t Ev.DMA_TIMEOUT
              ∧ KeepsRegs s t (fun a => two a ∨ a = Reg.DMA_COUNT 0 ∨ EventRegs Ev.DMA_TIMEOUT a) ∧ Only (([.free] : List Part) ++ eventParts) s t)
            ∧ (im = HostRead.bus → ends t ∧ err t Fld.GLB_BOOT_ERR_HOST ≠ 0 ∧ rises s t (Reg.DMA_COUNT 1) 1 ∧ Counted s t Ev.DMA_BUS
              ∧ KeepsRegs s t (fun a => two a ∨ a = Reg.DMA_COUNT 1 ∨ EventRegs Ev.DMA_BUS a) ∧ Only (([.free] : List Part) ++ eventParts) s t)
            ∧ (∀ bs, im = HostRead.data bs →
                let b := bs.take (s.full Reg.GLB_BOOT_LEN)
                (s.imgError b k g f ≠ 0 → ends t ∧ err t Fld.GLB_BOOT_ERR_HOST = s.imgError b k g f ∧ KeepsRegs s t two ∧ Only [.regs] s t)
                ∧ (s.imgError b k g f = 0 → passes s t b 2))))))
  -- R36, R392, R544, R547
  ∧ (∀ s : State, Completes .glbRemapSwap s (fun t =>
      let acts := s.sys.checking = false ∧ 3 ≤ stage s ∧ s.flag Reg.GLB_STATUS Fld.GLB_STATUS_FW_ERR = false
      (acts → t.flag Reg.GLB_REMAP Fld.GLB_REMAP_SWAP ∧ one s t Reg.GLB_REMAP [Fld.GLB_REMAP_SWAP]) ∧ (¬ acts → t = s)))
  ∧ (∀ (v : BitVec 16) (c g : Bool) (s : State),
    let runs := stage s = 3 ∧ ¬ halted s
    let fails := fun (t : State) n => err t Fld.GLB_BOOT_ERR_FW = n ∧ t.flag Reg.GLB_STATUS Fld.GLB_STATUS_FW_ERR ∧ halted t
      ∧ KeepsFields s t Reg.GLB_STATUS [Fld.GLB_STATUS_FW_ERR, Fld.GLB_STATUS_STATE] ∧ KeepsFields s t Reg.GLB_BOOT_ERR [Fld.GLB_BOOT_ERR_FW]
      ∧ KeepsRegs s t (fun a => a = Reg.GLB_STATUS ∨ a = Reg.GLB_BOOT_ERR) ∧ Only [.regs] s t
    Completes (.firmwareStarted v c g) s (fun t =>
      (¬ runs → t = s) ∧ (runs → c = false → fails t 1) ∧ (runs → c → g = false → fails t 3)
      ∧ (runs → c → g → t.sys = { s.sys with fwUp := true } ∧ stage t = 4 ∧ t.flag Reg.HKC_STATUS Fld.HKC_STATUS_RUNNING
          ∧ t.get Reg.HKC_STATUS Fld.HKC_STATUS_FW_VERSION = v.toNat
          ∧ (s.flag Reg.GLB_STATUS Fld.GLB_STATUS_FW_ERR = false → t.flag Reg.GLB_REMAP Fld.GLB_REMAP_SWAP)
          ∧ KeepsFields s t Reg.GLB_STATUS [Fld.GLB_STATUS_STAGE]
          ∧ KeepsRegs s t (fun a => a = Reg.GLB_STATUS ∨ a = Reg.GLB_REMAP ∨ a = Reg.HKC_STATUS) ∧ Only [.regs, .sys] s t))
    ∧ Completes .firmwareTimeout s (fun t => (¬ runs → t = s) ∧ (runs → fails t 2)))
  -- R387, R544, R551
  ∧ (∀ (l : List (Bool × Fin 4)) (s : State), (stage s ≠ 4 ∨ halted s → Completes (.hbmTrainingEnd l) s (fun t => t = s))
    ∧ (stage s = 4 → ¬ halted s → s.get Reg.HBM_STATUS Fld.HBM_STATUS_TRAINED = 0 → Completes (.hbmTrainingEnd l) s (fun t =>
        let r := fun i => l.getD i (false, 3)
        stage t = 5
        ∧ (∀ i < 6, t.flag (Reg.HBM_STACK i) Fld.HBM_STACK_TRAINED = (r i).1 ∧ t.get (Reg.HBM_STACK i) Fld.HBM_STACK_ATTEMPTS = (r i).2.val
            ∧ bitAt (t.get Reg.HBM_STATUS Fld.HBM_STATUS_TRAINED) i = (r i).1)
        ∧ (t.flag Reg.HBM_STATUS Fld.HBM_STATUS_ALL_TRAINED ↔ ∀ i < 6, (r i).1 = true)
        ∧ rises s t (Reg.EVT_SRC_CNT Ev.HBM_TRAIN_FAIL) ((List.range 6).filter (fun i => !(r i).1)).length
        ∧ KeepsRegs s t (fun a => a = Reg.GLB_STATUS ∨ a = Reg.HBM_STATUS ∨ (∃ i < 6, a = Reg.HBM_STACK i) ∨ EventRegs Ev.HBM_TRAIN_FAIL a)
        ∧ Only eventParts s t)))
  ∧ (∀ (bad : BitVec 12) (s : State), (stage s ≠ 5 ∨ halted s → Completes (.lanesStageEnd bad) s (fun t => t = s))
    ∧ (stage s = 5 → ¬ halted s → Completes (.lanesStageEnd bad) s (fun t =>
        t.sys = { s.sys with groupFailed := (List.range 12).filter (bitAt bad.toNat), keptReset := false, checking := s.sys.checking || s.sys.autoCommit }
        ∧ t.pins = { s.pins with ready := true } ∧ stage t = 6 ∧ status t = 1 ∧ t.flag Reg.GLB_STATUS Fld.GLB_STATUS_READY
        ∧ rises s t (Reg.EVT_SRC_CNT Ev.GLB_READY) 1
        ∧ (s.sys.autoCommit → s.sys.checking = false → t.flag Reg.GLB_CTL Fld.GLB_CTL_COMMIT)
        ∧ KeepsFields s t Reg.GLB_STATUS [Fld.GLB_STATUS_STAGE, Fld.GLB_STATUS_READY, Fld.GLB_STATUS_STATE]
        ∧ KeepsRegs s t (fun a => a = Reg.GLB_STATUS ∨ EventRegs Ev.GLB_READY a ∨ (s.sys.autoCommit ∧ a = Reg.GLB_CTL))
        ∧ Only (([.sys, .pins] : List Part) ++ eventParts) s t)))
  -- R554, R579, R580
  ∧ (∀ s : State, Completes .commit s (fun t =>
      let acts := status s = 1 ∧ s.sys.checking = false
      (acts → t.sys = { s.sys with checking := true } ∧ t.flag Reg.GLB_CTL Fld.GLB_CTL_COMMIT ∧ KeepsFields s t Reg.GLB_CTL [Fld.GLB_CTL_COMMIT]
        ∧ KeepsRegs s t (fun a => a = Reg.GLB_CTL) ∧ Only [.regs, .sys] s t)
      ∧ (¬ acts → t = s)))
  ∧ (∀ l : List (Nat × Nat), (State.firstFail l = none ↔ l = [])
      ∧ ∀ x, State.firstFail l = some x → x ∈ l ∧ ∀ y ∈ l, x.1 < y.1 ∨ (x.1 = y.1 ∧ x.2 ≤ y.2))
  ∧ (∀ s : State, s.sys.checking = false → Completes .commitChecksEnd s (fun t => t = s))
  ∧ (∀ s : State, s.sys.checking →
    let fails := s.trial.commitFails
    let results := fun a => a = Reg.TURN_SIZE ∨ a = Reg.TURN_BUDGET_USE ∨ a = Reg.CORR_CAPACITY ∨ a = Reg.GRAN_SIZE ∨ a = Reg.GLEAN_SIZE ∨ a = Reg.BEAM_CAPACITY
      ∨ a = Reg.BEAM_LAT_BOUND ∨ a = Reg.TWIN_RETAIN_SIZE ∨ ∃ p < 16, a = Reg.ETH_PORT_STATUS p
    Completes .commitChecksEnd s (fun t =>
      t.sys.checking = false ∧ t.flag Reg.GLB_CTL Fld.GLB_CTL_COMMIT = false
      ∧ (∀ b code, State.firstFail fails = some (b, code) → b < 32 → code < 65536 →
          status t = status s ∧ t.get Reg.GLB_COMMIT_ERR Fld.GLB_COMMIT_ERR_CODE = code ∧ t.get Reg.GLB_COMMIT_ERR Fld.GLB_COMMIT_ERR_BLOCK = b
          ∧ t.get Reg.GLB_COMMIT_ERR Fld.GLB_COMMIT_ERR_COUNT = min (fails.map (·.2)).eraseDups.length 255
          ∧ rises s t (Reg.GLB_COUNT 1) 1 ∧ Counted s t Ev.GLB_COMMIT_REJECT
          ∧ KeepsRegs s t (fun a => a = Reg.GLB_CTL ∨ a = Reg.GLB_COMMIT_ERR ∨ a = Reg.GLB_COUNT 1 ∨ results a ∨ EventRegs Ev.GLB_COMMIT_REJECT a)
          ∧ Only (([.sys] : List Part) ++ eventParts) s t)
      ∧ (fails = [] →
          status t = 2 ∧ t.full Reg.GLB_COMMIT_ERR = 0 ∧ t.mode = s.get Reg.GLB_PROFILE Fld.GLB_PROFILE_MODE ∧ t.pos = s.get Reg.WEAVE_CFG Fld.WEAVE_CFG_POS
          ∧ (∀ g < 8, t.full (Reg.GRAN_GRP_SEQ g) = 0 ∧ t.full (Reg.GRAN_GRP_PASSES g) = 0 ∧ t.get (Reg.GRAN_GRP_STATE g) Fld.GRAN_GRP_STATE_EPOCH = 0
              ∧ t.grpState g = (if s.grpOn g then 1 else 0))
          ∧ (∀ i < 4096, t.get (Reg.ETH_STR_ALIVE i) Fld.ETH_STR_ALIVE_ALIVE = 0) ∧ (∀ i, (t.stream i).pktSeq = 0)
          ∧ t.ingest.pairs = [] ∧ t.ingest.changes = [] ∧ t.turn = {} ∧ t.harrow.jobs = [] ∧ t.glean.jobs = [] ∧ t.weed.chans = []
          ∧ (∃ x, t.weed.init = some x ∧ x.m = s.get Reg.WEED_TRACK Fld.WEED_TRACK_M_INIT ∧ x.frozen = s.flag Reg.WEED_CFG Fld.WEED_CFG_FREEZE)
          ∧ (∀ a, 0x2300000 ≤ a → a < 0x2500000 → a ∉ [Reg.TWIN_STATUS, Reg.WEAVE_STATUS, Reg.TWIN_RETAIN_SIZE] → t.unitReg a = s.reg a)
          ∧ t.twin.relPos = 0 ∧ t.twin.order = [] ∧ t.twin.points = [] ∧ t.stopped = false ∧ t.heldWrites = []
          ∧ (s.flag Reg.TWIN_CFG Fld.TWIN_CFG_ENABLE = false → t.role = 0 ∧ t.pins.twinHealth = 0)
          ∧ (s.flag Reg.TWIN_CFG Fld.TWIN_CFG_ENABLE → t.role = 2 ∨ t.role = 1 ∨ t.twin.undecided)
          ∧ KeepsRegs s t (InBlock [0, 1, 2, 3, 4, 6, 7, 8, 9, 10, 11, 12, 18, 23, 24])
          ∧ Only ([Part.sys, Part.mem, Part.avs, Part.ingest, Part.harrow, Part.weed, Part.turn, Part.corr, Part.gran, Part.glean, Part.beam, Part.streams, Part.ports, Part.channels, Part.lanes, Part.weave, Part.twin, Part.time, Part.ethSettings,
              Part.heldWrites, Part.stopped, Part.pins] ++ sendParts) s t)))
  -- R581
  ∧ (∀ (v : Word) (s : State),
    let items := v.toNat % 4
    let hash := bitAt items 0
    let sign := bitAt items 1
    let prog := fun (t : State) => t.get Reg.FUSE_STATUS Fld.FUSE_STATUS_PROG
    let busy := prog s = 1 ∨ s.sys.checking
    let hot := ∃ i < 16, toS 16 (s.get (Reg.ADC_TEMP i) ⟨0, 16⟩) < 0 ∨ 85 * 16 < toS 16 (s.get (Reg.ADC_TEMP i) ⟨0, 16⟩)
    let zero := ∀ w < 12, s.full (Reg.FUSE_PROG_DATA w) = 0
    let again := (hash ∧ s.fuses.ownerSet) ∨ (sign ∧ s.fuses.requireSigned)
    let missing := (hash ∧ zero) ∨ (sign ∧ hash = false ∧ s.fuses.ownerSet = false)
    let fails := fun (t : State) e => prog t = 3 ∧ t.get Reg.FUSE_STATUS Fld.FUSE_STATUS_PROG_ERR = e ∧ Counted s t Ev.FUSE_PROG_FAIL
      ∧ t.sys = { s.sys with blow := 0 } ∧ t.fuses = s.fuses ∧ Only (([.sys] : List Part) ++ eventParts) s t
    Completes (.fuseProg v) s (fun t =>
      (busy → t = s)
      ∧ (¬ busy → v.toNat / 256 ≠ 0x5EF0A1 → fails t 1)
      ∧ (¬ busy → v.toNat / 256 = 0x5EF0A1 → s.running ∨ hot → fails t 2)
      ∧ (¬ busy → v.toNat / 256 = 0x5EF0A1 → ¬ (s.running ∨ hot) → again → fails t 3)
      ∧ (¬ busy → v.toNat / 256 = 0x5EF0A1 → ¬ (s.running ∨ hot) → ¬ again → missing → fails t 4)
      ∧ (¬ busy → v.toNat / 256 = 0x5EF0A1 → ¬ (s.running ∨ hot) → ¬ again → ¬ missing → prog t = 1
          ∧ t.get Reg.FUSE_STATUS Fld.FUSE_STATUS_PROG_ERR = 0 ∧ t.sys = { s.sys with blow := items } ∧ Only [.regs, .sys] s t)
      ∧ KeepsFields s t Reg.FUSE_STATUS [Fld.FUSE_STATUS_PROG, Fld.FUSE_STATUS_PROG_ERR]
      ∧ KeepsRegs s t (fun a => a = Reg.FUSE_STATUS ∨ EventRegs Ev.FUSE_PROG_FAIL a)))
  ∧ (∀ (good : Bool) (s : State),
    let prog := fun (t : State) => t.get Reg.FUSE_STATUS Fld.FUSE_STATUS_PROG
    Completes (.fuseProgEnd good) s (fun t =>
      (prog s ≠ 1 → t = s)
      ∧ (prog s = 1 → good = false → prog t = 3 ∧ t.get Reg.FUSE_STATUS Fld.FUSE_STATUS_PROG_ERR = 5 ∧ t.fuses = s.fuses ∧ Counted s t Ev.FUSE_PROG_FAIL)
      ∧ (prog s = 1 → good → prog t = 2 ∧ Counted s t Ev.FUSE_PROG_DONE
          ∧ t.fuses = { s.fuses with
              ownerHash := if bitAt s.sys.blow 0 then (List.range 12).map (fun w => s.full (Reg.FUSE_PROG_DATA w)) else s.fuses.ownerHash
              ownerSet := s.fuses.ownerSet || bitAt s.sys.blow 0, requireSigned := s.fuses.requireSigned || bitAt s.sys.blow 1 })
      ∧ (prog s = 1 → t.sys = { s.sys with blow := 0 })
      ∧ KeepsFields s t Reg.FUSE_STATUS [Fld.FUSE_STATUS_PROG, Fld.FUSE_STATUS_PROG_ERR]
      ∧ KeepsRegs s t (fun a => a = Reg.FUSE_STATUS ∨ EventRegs Ev.FUSE_PROG_FAIL a ∨ EventRegs Ev.FUSE_PROG_DONE a) ∧ Only (([.sys, .fuses] : List Part) ++ eventParts) s t))
  -- R582, R598
  ∧ (∀ (c : List Word) (s : State),
    let lock := fun (t : State) => t.get Reg.DBG_LOCK Fld.DBG_LOCK_STATE
    Completes (.dbgRequest c) s (fun t =>
      (2 ≤ lock s ∨ s.sys.checking → t = s)
      ∧ (lock s < 2 → s.sys.checking = false → lock t = 1 ∧ (∀ w < 8, t.reg (Reg.DBG_CHALLENGE w) = c.getD w 0) ∧ t.sys = { s.sys with dbgWait := false }
          ∧ KeepsFields s t Reg.DBG_LOCK [Fld.DBG_LOCK_STATE] ∧ KeepsRegs s t (fun a => a = Reg.DBG_LOCK ∨ ∃ w < 8, a = Reg.DBG_CHALLENGE w)
          ∧ Only [.regs, .sys] s t)))
  ∧ (∀ (w : Word) (s : State), Completes (.dbgResponse w) s (fun t =>
      (s.sys.checking → t = s)
      ∧ (s.sys.checking = false → t.reg (Reg.DBG_RESPONSE 15) = w
          ∧ t.sys = { s.sys with dbgWait := s.sys.dbgWait || decide (s.get Reg.DBG_LOCK Fld.DBG_LOCK_STATE = 1) }
          ∧ KeepsRegs s t (fun a => a = Reg.DBG_RESPONSE 15) ∧ Only [.regs, .sys] s t)))
  ∧ (∀ (good : Bool) (s : State),
    let lock := fun (t : State) => t.get Reg.DBG_LOCK Fld.DBG_LOCK_STATE
    let n := s.get Reg.DBG_LOCK Fld.DBG_LOCK_FAILS + 1
    Completes (.dbgResponseChecked good) s (fun t =>
      (s.sys.dbgWait = false ∨ lock s ≠ 1 → t = s)
      ∧ (s.sys.dbgWait → lock s = 1 → (∀ w < 8, t.reg (Reg.DBG_CHALLENGE w) = 0) ∧ t.sys = { s.sys with dbgWait := false }
          ∧ (good → lock t = 2 ∧ Counted s t Ev.DBG_UNLOCKED ∧ KeepsFields s t Reg.DBG_LOCK [Fld.DBG_LOCK_STATE])
          ∧ (good = false → n < 4 → t.get Reg.DBG_LOCK Fld.DBG_LOCK_FAILS = n ∧ lock t = (if n = 3 then 3 else 0) ∧ Counted s t Ev.DBG_UNLOCK_FAIL
              ∧ KeepsFields s t Reg.DBG_LOCK [Fld.DBG_LOCK_STATE, Fld.DBG_LOCK_FAILS]))
      ∧ KeepsRegs s t (fun a => a = Reg.DBG_LOCK ∨ (∃ w < 8, a = Reg.DBG_CHALLENGE w) ∨ EventRegs Ev.DBG_UNLOCKED a ∨ EventRegs Ev.DBG_UNLOCK_FAIL a)
      ∧ Only (([.sys] : List Part) ++ eventParts) s t))
  -- R583
  ∧ (∀ (code : BitVec 16) (s : State), (s.sys.fwUp → Completes (.firmwareMessage code) s (fun t =>
        Counted s t Ev.HKC_FW_MSG ∧ KeepsRegs s t (EventRegs Ev.HKC_FW_MSG) ∧ Only eventParts s t))
      ∧ (s.sys.fwUp = false → Completes (.firmwareMessage code) s (fun t => t = s)))
  -- R596, R597
  ∧ (∀ (w : Writer) (a : Fin 67108864) (o : Nat) (v : BitVec 64) (s : State), s.sys.checking = false → s.get Reg.DBG_LOCK Fld.DBG_LOCK_STATE = 2 →
    let c := v.toNat % 2 ^ 12
    let n := v.toNat % 2 ^ 8
    (o < 16 → a.val = Reg.DBG_OBS_SEL o → s.pins.obs.length = 16 → Completes (.registerWrite w a 4 v) s (fun t =>
      t.get a Fld.DBG_OBS_SEL_SEL = c ∧ t.pins = { s.pins with obs := t.pins.obs }
      ∧ (∀ i < 16, t.pins.obs.getD i 0 = (if i = o then (if State.obsListed c then c else 0) else s.pins.obs.getD i 0))
      ∧ KeepsRegs s t (fun x => x = a) ∧ Only [.regs, .pins] s t))
    ∧ (o < 2 → a.val = Reg.DBG_ATB_SEL o → s.pins.atb.length = 2 → Completes (.registerWrite w a 4 v) s (fun t =>
      t.get a Fld.DBG_ATB_SEL_SEL = n ∧ t.pins = { s.pins with atb := t.pins.atb }
      ∧ (∀ i < 2, t.pins.atb.getD i 0 = (if i = o then (if State.atbListed n ∧ s.pins.atb.getD (1 - o) 0 ≠ n then n else 0) else s.pins.atb.getD i 0))
      ∧ KeepsRegs s t (fun x => x = a) ∧ Only [.regs, .pins] s t)))
end

