-- ==== Sys2Proof/Laws/Maps.lean ====
section
/-! SUPPORT. Sparse maps: a value stored is found again, every other key is left alone, and the keys stay strictly rising. -/

namespace Sys2Proof.Machine

variable {α : Type}

@[simp] theorem mapFind_nil (k : Nat) : mapFind ([] : List (Nat × α)) k = none := rfl

/-- What is found in two lists on end: the first list's value, else the second's. -/
theorem mapFind_append (m l : List (Nat × α)) (k : Nat) : mapFind (m ++ l) k = (mapFind m k).or (mapFind l k) := by
  induction m with
  | nil => rfl
  | cons e t ih => simp only [List.cons_append, mapFind, ih]; split <;> rfl

/-- A filter on the keys keeps the value of a key it keeps and loses that of one it drops. -/
theorem mapFind_filter (p : Nat → Bool) (m : List (Nat × α)) (k : Nat) :
    mapFind (m.filter (fun e => p e.1)) k = if p k then mapFind m k else none := by
  induction m with
  | nil => simp
  | cons e t ih =>
    by_cases he : e.1 = k
    · subst he
      cases hp : p e.1 <;> simp_all [mapFind]
    · cases hp : p e.1 <;> simp [mapFind, hp, ih, Ne.symm he]

/-- A key that is listed nowhere has no value. -/
theorem mapFind_unlisted {m : List (Nat × α)} {k : Nat} (h : ∀ e ∈ m, e.1 ≠ k) : mapFind m k = none := by
  have keep : m.filter (fun e => decide (e.1 ≠ k)) = m := List.filter_eq_self.2 (by simpa using h)
  rw [← keep, mapFind_filter (fun j => decide (j ≠ k))]
  simp

@[simp] theorem mapFind_mapPut_same (m : List (Nat × α)) (k : Nat) (v : α) : mapFind (mapPut m k v) k = some v := by
  rw [mapPut, mapFind_append, mapFind_filter (fun j => decide (j < k))]
  simp [mapFind]

theorem mapFind_mapPut_other (m : List (Nat × α)) {k j : Nat} (v : α) (h : j ≠ k) :
    mapFind (mapPut m k v) j = mapFind m j := by
  rw [mapPut, mapFind_append, mapFind_filter (fun j => decide (j < k)), mapFind, if_neg h, mapFind_filter (fun j => decide (k < j))]
  rcases Nat.lt_or_gt_of_ne h with hj | hj <;> simp [hj, Nat.lt_asymm hj]

@[simp] theorem mapFind_mapDel_same (m : List (Nat × α)) (k : Nat) : mapFind (mapDel m k) k = none := by
  rw [mapDel, mapFind_filter (fun j => decide (j ≠ k))]
  simp

theorem mapFind_mapDel_other (m : List (Nat × α)) {k j : Nat} (h : j ≠ k) : mapFind (mapDel m k) j = mapFind m j := by
  rw [mapDel, mapFind_filter (fun j => decide (j ≠ k))]
  simp [h]

variable [DecidableEq α]

@[simp] theorem mapFind_mapSet_same (d : α) (m : List (Nat × α)) (k : Nat) (v : α) : (mapFind (mapSet d m k v) k).getD d = v := by
  unfold mapSet
  split
  · rename_i h; simp [h]
  · simp

theorem mapFind_mapSet_other (d : α) (m : List (Nat × α)) {k j : Nat} (v : α) (h : j ≠ k) :
    mapFind (mapSet d m k v) j = mapFind m j := by
  unfold mapSet
  split
  · exact mapFind_mapDel_other m h
  · exact mapFind_mapPut_other m v h

/-! ### The keys stay strictly rising -/

omit [DecidableEq α] in
theorem mapRising_cons (e f : Nat × α) (t : List (Nat × α)) : mapRising (e :: f :: t) = (decide (e.1 < f.1) && mapRising (f :: t)) := rfl

omit [DecidableEq α] in
/-- A list of rising keys is one whose every key lies below all those after it. -/
theorem mapRising_iff (m : List (Nat × α)) : mapRising m = true ↔ m.Pairwise (fun x y => x.1 < y.1) := by
  induction m with
  | nil => simp [mapRising]
  | cons e t ih =>
    cases t with
    | nil => simp [mapRising]
    | cons f t =>
      rw [mapRising_cons, Bool.and_eq_true, decide_eq_true_eq, ih, List.pairwise_cons (l := f :: t)]
      refine and_congr_left (fun ht => ⟨fun hef => List.forall_mem_cons.2 ⟨hef, fun y hy => ?_⟩, fun he => he f List.mem_cons_self⟩)
      exact hef.trans (List.rel_of_pairwise_cons ht hy)

omit [DecidableEq α] in
theorem mem_mapPut {m : List (Nat × α)} {k : Nat} {v : α} {e : Nat × α} (h : e ∈ mapPut m k v) : e = (k, v) ∨ e ∈ m := by
  simp only [mapPut, List.mem_append, List.mem_filter, List.mem_cons] at h
  tauto

omit [DecidableEq α] in
theorem mem_mapDel {m : List (Nat × α)} {k : Nat} {e : Nat × α} (h : e ∈ mapDel m k) : e ∈ m := List.mem_of_mem_filter h

omit [DecidableEq α] in
theorem mapPut_pairwise {m : List (Nat × α)} (h : m.Pairwise (fun x y => x.1 < y.1)) (k : Nat) (v : α) :
    (mapPut m k v).Pairwise (fun x y => x.1 < y.1) := by
  refine List.pairwise_append.2 ⟨h.filter _, List.pairwise_cons.2 ⟨fun y hy => ?_, h.filter _⟩, fun x hx y hy => ?_⟩
  · simpa using (List.mem_filter.1 hy).2
  · have low : x.1 < k := by simpa using (List.mem_filter.1 hx).2
    rcases List.mem_cons.1 hy with rfl | hy
    · exact low
    · exact low.trans (by simpa using (List.mem_filter.1 hy).2)

omit [DecidableEq α] in
theorem mapPut_rising {m : List (Nat × α)} (h : mapRising m = true) (k : Nat) (v : α) : mapRising (mapPut m k v) = true :=
  (mapRising_iff _).2 (mapPut_pairwise ((mapRising_iff _).1 h) k v)

omit [DecidableEq α] in
theorem filter_rising {m : List (Nat × α)} (h : mapRising m = true) (p : Nat × α → Bool) : mapRising (m.filter p) = true :=
  (mapRising_iff _).2 (((mapRising_iff _).1 h).sublist List.filter_sublist)

omit [DecidableEq α] in
theorem mapDel_rising {m : List (Nat × α)} (h : mapRising m = true) (k : Nat) : mapRising (mapDel m k) = true := filter_rising h _

theorem mapSet_rising {m : List (Nat × α)} (h : mapRising m = true) (d : α) (k : Nat) (v : α) :
    mapRising (mapSet d m k v) = true := by
  unfold mapSet
  split
  · exact mapDel_rising h k
  · exact mapPut_rising h k v

end Sys2Proof.Machine
end

