-- ==== Sys2Proof/Laws/Registers.lean ====
section
/-! SUPPORT. Registers and their fields: what a write leaves in its register, in the fields beside it and in every other
register. -/

namespace Sys2Proof.Machine

/-! ### Fields of a word -/

theorem Fld.of_lt (f : Fld) (w : Word) : f.of w < 2 ^ f.width := Nat.mod_lt _ (Nat.two_pow_pos _)

theorem Fld.into_toNat {f : Fld} (h : f.fits) (w : Word) (v : Nat) :
    (f.into w v).toNat
      = w.toNat / 2 ^ (f.lo + f.width) * 2 ^ (f.lo + f.width) + v % 2 ^ f.width * 2 ^ f.lo + w.toNat % 2 ^ f.lo := by
  unfold Fld.into
  rw [BitVec.toNat_ofNat]
  apply Nat.mod_eq_of_lt
  simp only [Fld.fits, decide_eq_true_eq] at h
  have hw : w.toNat < 2 ^ 32 := w.isLt
  have h1 : w.toNat / 2 ^ (f.lo + f.width) < 2 ^ (32 - (f.lo + f.width)) := by
    rw [Nat.div_lt_iff_lt_mul (Nat.two_pow_pos _), ← pow_add, Nat.sub_add_cancel h]; exact hw
  have h2 : v % 2 ^ f.width < 2 ^ f.width := Nat.mod_lt _ (Nat.two_pow_pos _)
  have h3 : w.toNat % 2 ^ f.lo < 2 ^ f.lo := Nat.mod_lt _ (Nat.two_pow_pos _)
  have h4 : v % 2 ^ f.width * 2 ^ f.lo + w.toNat % 2 ^ f.lo < 2 ^ (f.lo + f.width) := by
    calc _ < v % 2 ^ f.width * 2 ^ f.lo + 2 ^ f.lo := by omega
      _ = (v % 2 ^ f.width + 1) * 2 ^ f.lo := by ring
      _ ≤ 2 ^ f.width * 2 ^ f.lo := Nat.mul_le_mul_right _ h2
      _ = 2 ^ (f.lo + f.width) := by rw [← pow_add]; ring_nf
  calc _ < w.toNat / 2 ^ (f.lo + f.width) * 2 ^ (f.lo + f.width) + 2 ^ (f.lo + f.width) := by omega
    _ = (w.toNat / 2 ^ (f.lo + f.width) + 1) * 2 ^ (f.lo + f.width) := by ring
    _ ≤ 2 ^ (32 - (f.lo + f.width)) * 2 ^ (f.lo + f.width) := Nat.mul_le_mul_right _ h1
    _ = 2 ^ 32 := by rw [← pow_add, Nat.sub_add_cancel h]

theorem Fld.of_into_same {f : Fld} (h : f.fits) (w : Word) (v : Nat) : f.of (f.into w v) = v % 2 ^ f.width := by
  unfold Fld.of
  rw [Fld.into_toNat h]
  have h3 : w.toNat % 2 ^ f.lo < 2 ^ f.lo := Nat.mod_lt _ (Nat.two_pow_pos _)
  have e : w.toNat / 2 ^ (f.lo + f.width) * 2 ^ (f.lo + f.width) + v % 2 ^ f.width * 2 ^ f.lo + w.toNat % 2 ^ f.lo
      = w.toNat % 2 ^ f.lo + 2 ^ f.lo * (v % 2 ^ f.width + 2 ^ f.width * (w.toNat / 2 ^ (f.lo + f.width))) := by
    rw [pow_add]; ring
  rw [e, Nat.add_mul_div_left _ _ (Nat.two_pow_pos _), Nat.div_eq_of_lt h3, Nat.zero_add, Nat.add_mul_mod_self_left,
    Nat.mod_mod]

theorem Fld.of_into_apart {f g : Fld} (hf : f.fits) (h : f.apart g) (w : Word) (v : Nat) : g.of (f.into w v) = g.of w := by
  unfold Fld.of
  rw [Fld.into_toNat hf]
  simp only [Fld.apart, Bool.or_eq_true, decide_eq_true_eq] at h
  rcases h with h | h
  · obtain ⟨k, hk⟩ := Nat.exists_eq_add_of_le h
    have h2 : v % 2 ^ f.width < 2 ^ f.width := Nat.mod_lt _ (Nat.two_pow_pos _)
    have h3 : w.toNat % 2 ^ f.lo < 2 ^ f.lo := Nat.mod_lt _ (Nat.two_pow_pos _)
    have h4 : v % 2 ^ f.width * 2 ^ f.lo + w.toNat % 2 ^ f.lo < 2 ^ (f.lo + f.width) := by
      calc _ < v % 2 ^ f.width * 2 ^ f.lo + 2 ^ f.lo := by omega
        _ = (v % 2 ^ f.width + 1) * 2 ^ f.lo := by ring
        _ ≤ 2 ^ f.width * 2 ^ f.lo := Nat.mul_le_mul_right _ h2
        _ = 2 ^ (f.lo + f.width) := by rw [← pow_add]; ring_nf
    have e : ∀ x : Nat, x / 2 ^ g.lo = x / 2 ^ (f.lo + f.width) / 2 ^ k := by
      intro x; rw [Nat.div_div_eq_div_mul, ← pow_add, hk]
    rw [e, e w.toNat, Nat.add_assoc, Nat.mul_comm (w.toNat / _), Nat.mul_add_div (Nat.two_pow_pos _), Nat.div_eq_of_lt h4,
      Nat.add_zero]
  · obtain ⟨k, hk⟩ := Nat.exists_eq_add_of_le h
    have e : ∀ x : Nat, x / 2 ^ g.lo % 2 ^ g.width = x % 2 ^ f.lo % 2 ^ (g.lo + g.width) / 2 ^ g.lo := by
      intro x
      rw [Nat.mod_mod_of_dvd x (by rw [hk, pow_add _ (g.lo + g.width) k]; exact Nat.dvd_mul_right _ _), pow_add,
        Nat.mod_mul_right_div_self]
    rw [e, e w.toNat]
    congr 2
    have e2 : w.toNat / 2 ^ (f.lo + f.width) * 2 ^ (f.lo + f.width) + v % 2 ^ f.width * 2 ^ f.lo + w.toNat % 2 ^ f.lo
        = w.toNat % 2 ^ f.lo + 2 ^ f.lo * (v % 2 ^ f.width + 2 ^ f.width * (w.toNat / 2 ^ (f.lo + f.width))) := by
      rw [pow_add]; ring
    rw [e2, Nat.add_mul_mod_self_left, Nat.mod_mod]

/-! ### The register file -/

namespace State

@[simp] theorem reg_wr_same (s : State) (a : Nat) (v : Word) : (s.wr a v).reg a = v := by
  simp only [reg, wr, mapFind_mapSet_same]

theorem reg_wr_other (s : State) {a b : Nat} (v : Word) (h : b ≠ a) : (s.wr a v).reg b = s.reg b := by
  simp only [reg, wr, mapFind_mapSet_other _ _ _ h]

theorem get_set_same (s : State) (a : Nat) {f : Fld} (v : Nat) (h : f.fits) : (s.set a f v).get a f = v % 2 ^ f.width := by
  simp only [get, set, reg_wr_same, Fld.of_into_same h]

theorem get_set_apart (s : State) (a : Nat) {f g : Fld} (v : Nat) (hf : f.fits) (h : f.apart g) :
    (s.set a f v).get a g = s.get a g := by
  simp only [get, set, reg_wr_same, Fld.of_into_apart hf h]

theorem reg_set_other (s : State) {a b : Nat} (f : Fld) (v : Nat) (h : b ≠ a) : (s.set a f v).reg b = s.reg b :=
  reg_wr_other s _ h

theorem get_set_other (s : State) {a b : Nat} (f g : Fld) (v : Nat) (h : b ≠ a) : (s.set a f v).get b g = s.get b g := by
  simp only [get, reg_set_other s f v h]

theorem flag_setFlag_same (s : State) (a : Nat) {f : Fld} (b : Bool) (h : f.fits) (h1 : 1 ≤ f.width) :
    (s.setFlag a f b).flag a f = b := by
  have h2 : (2 : Nat) ≤ 2 ^ f.width := le_trans (by norm_num) (Nat.pow_le_pow_right (by norm_num : 0 < 2) h1)
  simp only [flag, setFlag, get_set_same s a _ h]
  cases b
  · simp [b2n]
  · simp only [b2n, if_true, decide_eq_true_eq]; rw [Nat.mod_eq_of_lt (by omega)]

@[simp] theorem full_wrN_same (s : State) (a v : Nat) : (s.wrN a v).full a = v % 2 ^ 32 := by
  simp [full, wrN, BitVec.toNat_ofNat]

theorem reg_wrN_other (s : State) {a b : Nat} (v : Nat) (h : b ≠ a) : (s.wrN a v).reg b = s.reg b := reg_wr_other s _ h

theorem full_wrN_other (s : State) {a b : Nat} (v : Nat) (h : b ≠ a) : (s.wrN a v).full b = s.full b := by
  simp only [full, reg_wrN_other s v h]

theorem reg_count_other (s : State) {a b : Nat} (n : Nat) (h : b ≠ a) : (s.count a n).reg b = s.reg b := reg_wr_other s _ h

@[simp] theorem full_count_same (s : State) (a n : Nat) : (s.count a n).full a = min (s.full a + n) (2 ^ 32 - 1) := by
  simp only [count, full_wrN_same, satU]
  split <;> omega

theorem reg_bump_other (s : State) {a b : Nat} (f : Fld) (n : Nat) (h : b ≠ a) : (s.bump a f n).reg b = s.reg b :=
  reg_wr_other s _ h

theorem reg_setFlag_other (s : State) {a b : Nat} (f : Fld) (v : Bool) (h : b ≠ a) : (s.setFlag a f v).reg b = s.reg b :=
  reg_wr_other s _ h

end State

end Sys2Proof.Machine
end

