-- ==== Sys2Proof/Laws/State.lean ====
section
/-! SUPPORT. What each update of the state leaves in each field: true by definition, one lemma for each field and update.
The proofs are `(rfl)`, so that a simplifier rewrites with the lemma and the kernel never compares two states field by field. -/

namespace Sys2Proof.Machine.State

variable (s : State)

/-! ### wr writes registers only -/

@[simp] theorem wr_pending (a : Nat) (v : Word) : (s.wr a v).pending = s.pending := (rfl)
@[simp] theorem wr_readData (a : Nat) (v : Word) : (s.wr a v).readData = s.readData := (rfl)
@[simp] theorem wr_hbm (a : Nat) (v : Word) : (s.wr a v).hbm = s.hbm := (rfl)
@[simp] theorem wr_hbmEpoch (a : Nat) (v : Word) : (s.wr a v).hbmEpoch = s.hbmEpoch := (rfl)
@[simp] theorem wr_poison (a : Nat) (v : Word) : (s.wr a v).poison = s.poison := (rfl)
@[simp] theorem wr_freeIx (a : Nat) (v : Word) : (s.wr a v).freeIx = s.freeIx := (rfl)
@[simp] theorem wr_fuses (a : Nat) (v : Word) : (s.wr a v).fuses = s.fuses := (rfl)
@[simp] theorem wr_pins (a : Nat) (v : Word) : (s.wr a v).pins = s.pins := (rfl)
@[simp] theorem wr_sys (a : Nat) (v : Word) : (s.wr a v).sys = s.sys := (rfl)
@[simp] theorem wr_clock (a : Nat) (v : Word) : (s.wr a v).clock = s.clock := (rfl)
@[simp] theorem wr_time (a : Nat) (v : Word) : (s.wr a v).time = s.time := (rfl)
@[simp] theorem wr_alm (a : Nat) (v : Word) : (s.wr a v).alm = s.alm := (rfl)
@[simp] theorem wr_lanes (a : Nat) (v : Word) : (s.wr a v).lanes = s.lanes := (rfl)
@[simp] theorem wr_host (a : Nat) (v : Word) : (s.wr a v).host = s.host := (rfl)
@[simp] theorem wr_eth (a : Nat) (v : Word) : (s.wr a v).eth = s.eth := (rfl)
@[simp] theorem wr_evt (a : Nat) (v : Word) : (s.wr a v).evt = s.evt := (rfl)
@[simp] theorem wr_ingest (a : Nat) (v : Word) : (s.wr a v).ingest = s.ingest := (rfl)
@[simp] theorem wr_harrow (a : Nat) (v : Word) : (s.wr a v).harrow = s.harrow := (rfl)
@[simp] theorem wr_weed (a : Nat) (v : Word) : (s.wr a v).weed = s.weed := (rfl)
@[simp] theorem wr_turn (a : Nat) (v : Word) : (s.wr a v).turn = s.turn := (rfl)
@[simp] theorem wr_corr (a : Nat) (v : Word) : (s.wr a v).corr = s.corr := (rfl)
@[simp] theorem wr_gran (a : Nat) (v : Word) : (s.wr a v).gran = s.gran := (rfl)
@[simp] theorem wr_glean (a : Nat) (v : Word) : (s.wr a v).glean = s.glean := (rfl)
@[simp] theorem wr_beam (a : Nat) (v : Word) : (s.wr a v).beam = s.beam := (rfl)
@[simp] theorem wr_mem (a : Nat) (v : Word) : (s.wr a v).mem = s.mem := (rfl)
@[simp] theorem wr_xbar (a : Nat) (v : Word) : (s.wr a v).xbar = s.xbar := (rfl)
@[simp] theorem wr_ref (a : Nat) (v : Word) : (s.wr a v).ref = s.ref := (rfl)
@[simp] theorem wr_adc (a : Nat) (v : Word) : (s.wr a v).adc = s.adc := (rfl)
@[simp] theorem wr_dac (a : Nat) (v : Word) : (s.wr a v).dac = s.dac := (rfl)
@[simp] theorem wr_avs (a : Nat) (v : Word) : (s.wr a v).avs = s.avs := (rfl)
@[simp] theorem wr_weave (a : Nat) (v : Word) : (s.wr a v).weave = s.weave := (rfl)
@[simp] theorem wr_twin (a : Nat) (v : Word) : (s.wr a v).twin = s.twin := (rfl)
@[simp] theorem wr_heldWrites (a : Nat) (v : Word) : (s.wr a v).heldWrites = s.heldWrites := (rfl)
@[simp] theorem wr_stopped (a : Nat) (v : Word) : (s.wr a v).stopped = s.stopped := (rfl)
@[simp] theorem wr_out (a : Nat) (v : Word) : (s.wr a v).out = s.out := (rfl)

/-! ### set writes registers only -/

@[simp] theorem set_pending (a : Nat) (f : Fld) (v : Nat) : (s.set a f v).pending = s.pending := (rfl)
@[simp] theorem set_readData (a : Nat) (f : Fld) (v : Nat) : (s.set a f v).readData = s.readData := (rfl)
@[simp] theorem set_hbm (a : Nat) (f : Fld) (v : Nat) : (s.set a f v).hbm = s.hbm := (rfl)
@[simp] theorem set_hbmEpoch (a : Nat) (f : Fld) (v : Nat) : (s.set a f v).hbmEpoch = s.hbmEpoch := (rfl)
@[simp] theorem set_poison (a : Nat) (f : Fld) (v : Nat) : (s.set a f v).poison = s.poison := (rfl)
@[simp] theorem set_freeIx (a : Nat) (f : Fld) (v : Nat) : (s.set a f v).freeIx = s.freeIx := (rfl)
@[simp] theorem set_fuses (a : Nat) (f : Fld) (v : Nat) : (s.set a f v).fuses = s.fuses := (rfl)
@[simp] theorem set_pins (a : Nat) (f : Fld) (v : Nat) : (s.set a f v).pins = s.pins := (rfl)
@[simp] theorem set_sys (a : Nat) (f : Fld) (v : Nat) : (s.set a f v).sys = s.sys := (rfl)
@[simp] theorem set_clock (a : Nat) (f : Fld) (v : Nat) : (s.set a f v).clock = s.clock := (rfl)
@[simp] theorem set_time (a : Nat) (f : Fld) (v : Nat) : (s.set a f v).time = s.time := (rfl)
@[simp] theorem set_alm (a : Nat) (f : Fld) (v : Nat) : (s.set a f v).alm = s.alm := (rfl)
@[simp] theorem set_lanes (a : Nat) (f : Fld) (v : Nat) : (s.set a f v).lanes = s.lanes := (rfl)
@[simp] theorem set_host (a : Nat) (f : Fld) (v : Nat) : (s.set a f v).host = s.host := (rfl)
@[simp] theorem set_eth (a : Nat) (f : Fld) (v : Nat) : (s.set a f v).eth = s.eth := (rfl)
@[simp] theorem set_evt (a : Nat) (f : Fld) (v : Nat) : (s.set a f v).evt = s.evt := (rfl)
@[simp] theorem set_ingest (a : Nat) (f : Fld) (v : Nat) : (s.set a f v).ingest = s.ingest := (rfl)
@[simp] theorem set_harrow (a : Nat) (f : Fld) (v : Nat) : (s.set a f v).harrow = s.harrow := (rfl)
@[simp] theorem set_weed (a : Nat) (f : Fld) (v : Nat) : (s.set a f v).weed = s.weed := (rfl)
@[simp] theorem set_turn (a : Nat) (f : Fld) (v : Nat) : (s.set a f v).turn = s.turn := (rfl)
@[simp] theorem set_corr (a : Nat) (f : Fld) (v : Nat) : (s.set a f v).corr = s.corr := (rfl)
@[simp] theorem set_gran (a : Nat) (f : Fld) (v : Nat) : (s.set a f v).gran = s.gran := (rfl)
@[simp] theorem set_glean (a : Nat) (f : Fld) (v : Nat) : (s.set a f v).glean = s.glean := (rfl)
@[simp] theorem set_beam (a : Nat) (f : Fld) (v : Nat) : (s.set a f v).beam = s.beam := (rfl)
@[simp] theorem set_mem (a : Nat) (f : Fld) (v : Nat) : (s.set a f v).mem = s.mem := (rfl)
@[simp] theorem set_xbar (a : Nat) (f : Fld) (v : Nat) : (s.set a f v).xbar = s.xbar := (rfl)
@[simp] theorem set_ref (a : Nat) (f : Fld) (v : Nat) : (s.set a f v).ref = s.ref := (rfl)
@[simp] theorem set_adc (a : Nat) (f : Fld) (v : Nat) : (s.set a f v).adc = s.adc := (rfl)
@[simp] theorem set_dac (a : Nat) (f : Fld) (v : Nat) : (s.set a f v).dac = s.dac := (rfl)
@[simp] theorem set_avs (a : Nat) (f : Fld) (v : Nat) : (s.set a f v).avs = s.avs := (rfl)
@[simp] theorem set_weave (a : Nat) (f : Fld) (v : Nat) : (s.set a f v).weave = s.weave := (rfl)
@[simp] theorem set_twin (a : Nat) (f : Fld) (v : Nat) : (s.set a f v).twin = s.twin := (rfl)
@[simp] theorem set_heldWrites (a : Nat) (f : Fld) (v : Nat) : (s.set a f v).heldWrites = s.heldWrites := (rfl)
@[simp] theorem set_stopped (a : Nat) (f : Fld) (v : Nat) : (s.set a f v).stopped = s.stopped := (rfl)
@[simp] theorem set_out (a : Nat) (f : Fld) (v : Nat) : (s.set a f v).out = s.out := (rfl)

/-! ### setFlag writes registers only -/

@[simp] theorem setFlag_pending (a : Nat) (f : Fld) (b : Bool) : (s.setFlag a f b).pending = s.pending := (rfl)
@[simp] theorem setFlag_readData (a : Nat) (f : Fld) (b : Bool) : (s.setFlag a f b).readData = s.readData := (rfl)
@[simp] theorem setFlag_hbm (a : Nat) (f : Fld) (b : Bool) : (s.setFlag a f b).hbm = s.hbm := (rfl)
@[simp] theorem setFlag_hbmEpoch (a : Nat) (f : Fld) (b : Bool) : (s.setFlag a f b).hbmEpoch = s.hbmEpoch := (rfl)
@[simp] theorem setFlag_poison (a : Nat) (f : Fld) (b : Bool) : (s.setFlag a f b).poison = s.poison := (rfl)
@[simp] theorem setFlag_freeIx (a : Nat) (f : Fld) (b : Bool) : (s.setFlag a f b).freeIx = s.freeIx := (rfl)
@[simp] theorem setFlag_fuses (a : Nat) (f : Fld) (b : Bool) : (s.setFlag a f b).fuses = s.fuses := (rfl)
@[simp] theorem setFlag_pins (a : Nat) (f : Fld) (b : Bool) : (s.setFlag a f b).pins = s.pins := (rfl)
@[simp] theorem setFlag_sys (a : Nat) (f : Fld) (b : Bool) : (s.setFlag a f b).sys = s.sys := (rfl)
@[simp] theorem setFlag_clock (a : Nat) (f : Fld) (b : Bool) : (s.setFlag a f b).clock = s.clock := (rfl)
@[simp] theorem setFlag_time (a : Nat) (f : Fld) (b : Bool) : (s.setFlag a f b).time = s.time := (rfl)
@[simp] theorem setFlag_alm (a : Nat) (f : Fld) (b : Bool) : (s.setFlag a f b).alm = s.alm := (rfl)
@[simp] theorem setFlag_lanes (a : Nat) (f : Fld) (b : Bool) : (s.setFlag a f b).lanes = s.lanes := (rfl)
@[simp] theorem setFlag_host (a : Nat) (f : Fld) (b : Bool) : (s.setFlag a f b).host = s.host := (rfl)
@[simp] theorem setFlag_eth (a : Nat) (f : Fld) (b : Bool) : (s.setFlag a f b).eth = s.eth := (rfl)
@[simp] theorem setFlag_evt (a : Nat) (f : Fld) (b : Bool) : (s.setFlag a f b).evt = s.evt := (rfl)
@[simp] theorem setFlag_ingest (a : Nat) (f : Fld) (b : Bool) : (s.setFlag a f b).ingest = s.ingest := (rfl)
@[simp] theorem setFlag_harrow (a : Nat) (f : Fld) (b : Bool) : (s.setFlag a f b).harrow = s.harrow := (rfl)
@[simp] theorem setFlag_weed (a : Nat) (f : Fld) (b : Bool) : (s.setFlag a f b).weed = s.weed := (rfl)
@[simp] theorem setFlag_turn (a : Nat) (f : Fld) (b : Bool) : (s.setFlag a f b).turn = s.turn := (rfl)
@[simp] theorem setFlag_corr (a : Nat) (f : Fld) (b : Bool) : (s.setFlag a f b).corr = s.corr := (rfl)
@[simp] theorem setFlag_gran (a : Nat) (f : Fld) (b : Bool) : (s.setFlag a f b).gran = s.gran := (rfl)
@[simp] theorem setFlag_glean (a : Nat) (f : Fld) (b : Bool) : (s.setFlag a f b).glean = s.glean := (rfl)
@[simp] theorem setFlag_beam (a : Nat) (f : Fld) (b : Bool) : (s.setFlag a f b).beam = s.beam := (rfl)
@[simp] theorem setFlag_mem (a : Nat) (f : Fld) (b : Bool) : (s.setFlag a f b).mem = s.mem := (rfl)
@[simp] theorem setFlag_xbar (a : Nat) (f : Fld) (b : Bool) : (s.setFlag a f b).xbar = s.xbar := (rfl)
@[simp] theorem setFlag_ref (a : Nat) (f : Fld) (b : Bool) : (s.setFlag a f b).ref = s.ref := (rfl)
@[simp] theorem setFlag_adc (a : Nat) (f : Fld) (b : Bool) : (s.setFlag a f b).adc = s.adc := (rfl)
@[simp] theorem setFlag_dac (a : Nat) (f : Fld) (b : Bool) : (s.setFlag a f b).dac = s.dac := (rfl)
@[simp] theorem setFlag_avs (a : Nat) (f : Fld) (b : Bool) : (s.setFlag a f b).avs = s.avs := (rfl)
@[simp] theorem setFlag_weave (a : Nat) (f : Fld) (b : Bool) : (s.setFlag a f b).weave = s.weave := (rfl)
@[simp] theorem setFlag_twin (a : Nat) (f : Fld) (b : Bool) : (s.setFlag a f b).twin = s.twin := (rfl)
@[simp] theorem setFlag_heldWrites (a : Nat) (f : Fld) (b : Bool) : (s.setFlag a f b).heldWrites = s.heldWrites := (rfl)
@[simp] theorem setFlag_stopped (a : Nat) (f : Fld) (b : Bool) : (s.setFlag a f b).stopped = s.stopped := (rfl)
@[simp] theorem setFlag_out (a : Nat) (f : Fld) (b : Bool) : (s.setFlag a f b).out = s.out := (rfl)

/-! ### wrN writes registers only -/

@[simp] theorem wrN_pending (a v : Nat) : (s.wrN a v).pending = s.pending := (rfl)
@[simp] theorem wrN_readData (a v : Nat) : (s.wrN a v).readData = s.readData := (rfl)
@[simp] theorem wrN_hbm (a v : Nat) : (s.wrN a v).hbm = s.hbm := (rfl)
@[simp] theorem wrN_hbmEpoch (a v : Nat) : (s.wrN a v).hbmEpoch = s.hbmEpoch := (rfl)
@[simp] theorem wrN_poison (a v : Nat) : (s.wrN a v).poison = s.poison := (rfl)
@[simp] theorem wrN_freeIx (a v : Nat) : (s.wrN a v).freeIx = s.freeIx := (rfl)
@[simp] theorem wrN_fuses (a v : Nat) : (s.wrN a v).fuses = s.fuses := (rfl)
@[simp] theorem wrN_pins (a v : Nat) : (s.wrN a v).pins = s.pins := (rfl)
@[simp] theorem wrN_sys (a v : Nat) : (s.wrN a v).sys = s.sys := (rfl)
@[simp] theorem wrN_clock (a v : Nat) : (s.wrN a v).clock = s.clock := (rfl)
@[simp] theorem wrN_time (a v : Nat) : (s.wrN a v).time = s.time := (rfl)
@[simp] theorem wrN_alm (a v : Nat) : (s.wrN a v).alm = s.alm := (rfl)
@[simp] theorem wrN_lanes (a v : Nat) : (s.wrN a v).lanes = s.lanes := (rfl)
@[simp] theorem wrN_host (a v : Nat) : (s.wrN a v).host = s.host := (rfl)
@[simp] theorem wrN_eth (a v : Nat) : (s.wrN a v).eth = s.eth := (rfl)
@[simp] theorem wrN_evt (a v : Nat) : (s.wrN a v).evt = s.evt := (rfl)
@[simp] theorem wrN_ingest (a v : Nat) : (s.wrN a v).ingest = s.ingest := (rfl)
@[simp] theorem wrN_harrow (a v : Nat) : (s.wrN a v).harrow = s.harrow := (rfl)
@[simp] theorem wrN_weed (a v : Nat) : (s.wrN a v).weed = s.weed := (rfl)
@[simp] theorem wrN_turn (a v : Nat) : (s.wrN a v).turn = s.turn := (rfl)
@[simp] theorem wrN_corr (a v : Nat) : (s.wrN a v).corr = s.corr := (rfl)
@[simp] theorem wrN_gran (a v : Nat) : (s.wrN a v).gran = s.gran := (rfl)
@[simp] theorem wrN_glean (a v : Nat) : (s.wrN a v).glean = s.glean := (rfl)
@[simp] theorem wrN_beam (a v : Nat) : (s.wrN a v).beam = s.beam := (rfl)
@[simp] theorem wrN_mem (a v : Nat) : (s.wrN a v).mem = s.mem := (rfl)
@[simp] theorem wrN_xbar (a v : Nat) : (s.wrN a v).xbar = s.xbar := (rfl)
@[simp] theorem wrN_ref (a v : Nat) : (s.wrN a v).ref = s.ref := (rfl)
@[simp] theorem wrN_adc (a v : Nat) : (s.wrN a v).adc = s.adc := (rfl)
@[simp] theorem wrN_dac (a v : Nat) : (s.wrN a v).dac = s.dac := (rfl)
@[simp] theorem wrN_avs (a v : Nat) : (s.wrN a v).avs = s.avs := (rfl)
@[simp] theorem wrN_weave (a v : Nat) : (s.wrN a v).weave = s.weave := (rfl)
@[simp] theorem wrN_twin (a v : Nat) : (s.wrN a v).twin = s.twin := (rfl)
@[simp] theorem wrN_heldWrites (a v : Nat) : (s.wrN a v).heldWrites = s.heldWrites := (rfl)
@[simp] theorem wrN_stopped (a v : Nat) : (s.wrN a v).stopped = s.stopped := (rfl)
@[simp] theorem wrN_out (a v : Nat) : (s.wrN a v).out = s.out := (rfl)

/-! ### count writes registers only -/

@[simp] theorem count_pending (a n : Nat) : (s.count a n).pending = s.pending := (rfl)
@[simp] theorem count_readData (a n : Nat) : (s.count a n).readData = s.readData := (rfl)
@[simp] theorem count_hbm (a n : Nat) : (s.count a n).hbm = s.hbm := (rfl)
@[simp] theorem count_hbmEpoch (a n : Nat) : (s.count a n).hbmEpoch = s.hbmEpoch := (rfl)
@[simp] theorem count_poison (a n : Nat) : (s.count a n).poison = s.poison := (rfl)
@[simp] theorem count_freeIx (a n : Nat) : (s.count a n).freeIx = s.freeIx := (rfl)
@[simp] theorem count_fuses (a n : Nat) : (s.count a n).fuses = s.fuses := (rfl)
@[simp] theorem count_pins (a n : Nat) : (s.count a n).pins = s.pins := (rfl)
@[simp] theorem count_sys (a n : Nat) : (s.count a n).sys = s.sys := (rfl)
@[simp] theorem count_clock (a n : Nat) : (s.count a n).clock = s.clock := (rfl)
@[simp] theorem count_time (a n : Nat) : (s.count a n).time = s.time := (rfl)
@[simp] theorem count_alm (a n : Nat) : (s.count a n).alm = s.alm := (rfl)
@[simp] theorem count_lanes (a n : Nat) : (s.count a n).lanes = s.lanes := (rfl)
@[simp] theorem count_host (a n : Nat) : (s.count a n).host = s.host := (rfl)
@[simp] theorem count_eth (a n : Nat) : (s.count a n).eth = s.eth := (rfl)
@[simp] theorem count_evt (a n : Nat) : (s.count a n).evt = s.evt := (rfl)
@[simp] theorem count_ingest (a n : Nat) : (s.count a n).ingest = s.ingest := (rfl)
@[simp] theorem count_harrow (a n : Nat) : (s.count a n).harrow = s.harrow := (rfl)
@[simp] theorem count_weed (a n : Nat) : (s.count a n).weed = s.weed := (rfl)
@[simp] theorem count_turn (a n : Nat) : (s.count a n).turn = s.turn := (rfl)
@[simp] theorem count_corr (a n : Nat) : (s.count a n).corr = s.corr := (rfl)
@[simp] theorem count_gran (a n : Nat) : (s.count a n).gran = s.gran := (rfl)
@[simp] theorem count_glean (a n : Nat) : (s.count a n).glean = s.glean := (rfl)
@[simp] theorem count_beam (a n : Nat) : (s.count a n).beam = s.beam := (rfl)
@[simp] theorem count_mem (a n : Nat) : (s.count a n).mem = s.mem := (rfl)
@[simp] theorem count_xbar (a n : Nat) : (s.count a n).xbar = s.xbar := (rfl)
@[simp] theorem count_ref (a n : Nat) : (s.count a n).ref = s.ref := (rfl)
@[simp] theorem count_adc (a n : Nat) : (s.count a n).adc = s.adc := (rfl)
@[simp] theorem count_dac (a n : Nat) : (s.count a n).dac = s.dac := (rfl)
@[simp] theorem count_avs (a n : Nat) : (s.count a n).avs = s.avs := (rfl)
@[simp] theorem count_weave (a n : Nat) : (s.count a n).weave = s.weave := (rfl)
@[simp] theorem count_twin (a n : Nat) : (s.count a n).twin = s.twin := (rfl)
@[simp] theorem count_heldWrites (a n : Nat) : (s.count a n).heldWrites = s.heldWrites := (rfl)
@[simp] theorem count_stopped (a n : Nat) : (s.count a n).stopped = s.stopped := (rfl)
@[simp] theorem count_out (a n : Nat) : (s.count a n).out = s.out := (rfl)

/-! ### bump writes registers only -/

@[simp] theorem bump_pending (a : Nat) (f : Fld) (n : Nat) : (s.bump a f n).pending = s.pending := (rfl)
@[simp] theorem bump_readData (a : Nat) (f : Fld) (n : Nat) : (s.bump a f n).readData = s.readData := (rfl)
@[simp] theorem bump_hbm (a : Nat) (f : Fld) (n : Nat) : (s.bump a f n).hbm = s.hbm := (rfl)
@[simp] theorem bump_hbmEpoch (a : Nat) (f : Fld) (n : Nat) : (s.bump a f n).hbmEpoch = s.hbmEpoch := (rfl)
@[simp] theorem bump_poison (a : Nat) (f : Fld) (n : Nat) : (s.bump a f n).poison = s.poison := (rfl)
@[simp] theorem bump_freeIx (a : Nat) (f : Fld) (n : Nat) : (s.bump a f n).freeIx = s.freeIx := (rfl)
@[simp] theorem bump_fuses (a : Nat) (f : Fld) (n : Nat) : (s.bump a f n).fuses = s.fuses := (rfl)
@[simp] theorem bump_pins (a : Nat) (f : Fld) (n : Nat) : (s.bump a f n).pins = s.pins := (rfl)
@[simp] theorem bump_sys (a : Nat) (f : Fld) (n : Nat) : (s.bump a f n).sys = s.sys := (rfl)
@[simp] theorem bump_clock (a : Nat) (f : Fld) (n : Nat) : (s.bump a f n).clock = s.clock := (rfl)
@[simp] theorem bump_time (a : Nat) (f : Fld) (n : Nat) : (s.bump a f n).time = s.time := (rfl)
@[simp] theorem bump_alm (a : Nat) (f : Fld) (n : Nat) : (s.bump a f n).alm = s.alm := (rfl)
@[simp] theorem bump_lanes (a : Nat) (f : Fld) (n : Nat) : (s.bump a f n).lanes = s.lanes := (rfl)
@[simp] theorem bump_host (a : Nat) (f : Fld) (n : Nat) : (s.bump a f n).host = s.host := (rfl)
@[simp] theorem bump_eth (a : Nat) (f : Fld) (n : Nat) : (s.bump a f n).eth = s.eth := (rfl)
@[simp] theorem bump_evt (a : Nat) (f : Fld) (n : Nat) : (s.bump a f n).evt = s.evt := (rfl)
@[simp] theorem bump_ingest (a : Nat) (f : Fld) (n : Nat) : (s.bump a f n).ingest = s.ingest := (rfl)
@[simp] theorem bump_harrow (a : Nat) (f : Fld) (n : Nat) : (s.bump a f n).harrow = s.harrow := (rfl)
@[simp] theorem bump_weed (a : Nat) (f : Fld) (n : Nat) : (s.bump a f n).weed = s.weed := (rfl)
@[simp] theorem bump_turn (a : Nat) (f : Fld) (n : Nat) : (s.bump a f n).turn = s.turn := (rfl)
@[simp] theorem bump_corr (a : Nat) (f : Fld) (n : Nat) : (s.bump a f n).corr = s.corr := (rfl)
@[simp] theorem bump_gran (a : Nat) (f : Fld) (n : Nat) : (s.bump a f n).gran = s.gran := (rfl)
@[simp] theorem bump_glean (a : Nat) (f : Fld) (n : Nat) : (s.bump a f n).glean = s.glean := (rfl)
@[simp] theorem bump_beam (a : Nat) (f : Fld) (n : Nat) : (s.bump a f n).beam = s.beam := (rfl)
@[simp] theorem bump_mem (a : Nat) (f : Fld) (n : Nat) : (s.bump a f n).mem = s.mem := (rfl)
@[simp] theorem bump_xbar (a : Nat) (f : Fld) (n : Nat) : (s.bump a f n).xbar = s.xbar := (rfl)
@[simp] theorem bump_ref (a : Nat) (f : Fld) (n : Nat) : (s.bump a f n).ref = s.ref := (rfl)
@[simp] theorem bump_adc (a : Nat) (f : Fld) (n : Nat) : (s.bump a f n).adc = s.adc := (rfl)
@[simp] theorem bump_dac (a : Nat) (f : Fld) (n : Nat) : (s.bump a f n).dac = s.dac := (rfl)
@[simp] theorem bump_avs (a : Nat) (f : Fld) (n : Nat) : (s.bump a f n).avs = s.avs := (rfl)
@[simp] theorem bump_weave (a : Nat) (f : Fld) (n : Nat) : (s.bump a f n).weave = s.weave := (rfl)
@[simp] theorem bump_twin (a : Nat) (f : Fld) (n : Nat) : (s.bump a f n).twin = s.twin := (rfl)
@[simp] theorem bump_heldWrites (a : Nat) (f : Fld) (n : Nat) : (s.bump a f n).heldWrites = s.heldWrites := (rfl)
@[simp] theorem bump_stopped (a : Nat) (f : Fld) (n : Nat) : (s.bump a f n).stopped = s.stopped := (rfl)
@[simp] theorem bump_out (a : Nat) (f : Fld) (n : Nat) : (s.bump a f n).out = s.out := (rfl)

/-! ### wrPair writes registers only -/

@[simp] theorem wrPair_pending (a b v : Nat) : (s.wrPair a b v).pending = s.pending := (rfl)
@[simp] theorem wrPair_readData (a b v : Nat) : (s.wrPair a b v).readData = s.readData := (rfl)
@[simp] theorem wrPair_hbm (a b v : Nat) : (s.wrPair a b v).hbm = s.hbm := (rfl)
@[simp] theorem wrPair_hbmEpoch (a b v : Nat) : (s.wrPair a b v).hbmEpoch = s.hbmEpoch := (rfl)
@[simp] theorem wrPair_poison (a b v : Nat) : (s.wrPair a b v).poison = s.poison := (rfl)
@[simp] theorem wrPair_freeIx (a b v : Nat) : (s.wrPair a b v).freeIx = s.freeIx := (rfl)
@[simp] theorem wrPair_fuses (a b v : Nat) : (s.wrPair a b v).fuses = s.fuses := (rfl)
@[simp] theorem wrPair_pins (a b v : Nat) : (s.wrPair a b v).pins = s.pins := (rfl)
@[simp] theorem wrPair_sys (a b v : Nat) : (s.wrPair a b v).sys = s.sys := (rfl)
@[simp] theorem wrPair_clock (a b v : Nat) : (s.wrPair a b v).clock = s.clock := (rfl)
@[simp] theorem wrPair_time (a b v : Nat) : (s.wrPair a b v).time = s.time := (rfl)
@[simp] theorem wrPair_alm (a b v : Nat) : (s.wrPair a b v).alm = s.alm := (rfl)
@[simp] theorem wrPair_lanes (a b v : Nat) : (s.wrPair a b v).lanes = s.lanes := (rfl)
@[simp] theorem wrPair_host (a b v : Nat) : (s.wrPair a b v).host = s.host := (rfl)
@[simp] theorem wrPair_eth (a b v : Nat) : (s.wrPair a b v).eth = s.eth := (rfl)
@[simp] theorem wrPair_evt (a b v : Nat) : (s.wrPair a b v).evt = s.evt := (rfl)
@[simp] theorem wrPair_ingest (a b v : Nat) : (s.wrPair a b v).ingest = s.ingest := (rfl)
@[simp] theorem wrPair_harrow (a b v : Nat) : (s.wrPair a b v).harrow = s.harrow := (rfl)
@[simp] theorem wrPair_weed (a b v : Nat) : (s.wrPair a b v).weed = s.weed := (rfl)
@[simp] theorem wrPair_turn (a b v : Nat) : (s.wrPair a b v).turn = s.turn := (rfl)
@[simp] theorem wrPair_corr (a b v : Nat) : (s.wrPair a b v).corr = s.corr := (rfl)
@[simp] theorem wrPair_gran (a b v : Nat) : (s.wrPair a b v).gran = s.gran := (rfl)
@[simp] theorem wrPair_glean (a b v : Nat) : (s.wrPair a b v).glean = s.glean := (rfl)
@[simp] theorem wrPair_beam (a b v : Nat) : (s.wrPair a b v).beam = s.beam := (rfl)
@[simp] theorem wrPair_mem (a b v : Nat) : (s.wrPair a b v).mem = s.mem := (rfl)
@[simp] theorem wrPair_xbar (a b v : Nat) : (s.wrPair a b v).xbar = s.xbar := (rfl)
@[simp] theorem wrPair_ref (a b v : Nat) : (s.wrPair a b v).ref = s.ref := (rfl)
@[simp] theorem wrPair_adc (a b v : Nat) : (s.wrPair a b v).adc = s.adc := (rfl)
@[simp] theorem wrPair_dac (a b v : Nat) : (s.wrPair a b v).dac = s.dac := (rfl)
@[simp] theorem wrPair_avs (a b v : Nat) : (s.wrPair a b v).avs = s.avs := (rfl)
@[simp] theorem wrPair_weave (a b v : Nat) : (s.wrPair a b v).weave = s.weave := (rfl)
@[simp] theorem wrPair_twin (a b v : Nat) : (s.wrPair a b v).twin = s.twin := (rfl)
@[simp] theorem wrPair_heldWrites (a b v : Nat) : (s.wrPair a b v).heldWrites = s.heldWrites := (rfl)
@[simp] theorem wrPair_stopped (a b v : Nat) : (s.wrPair a b v).stopped = s.stopped := (rfl)
@[simp] theorem wrPair_out (a b v : Nat) : (s.wrPair a b v).out = s.out := (rfl)

/-! ### setRing writes host only -/

@[simp] theorem setRing_pending (r : Nat) (x : RingSt) : (s.setRing r x).pending = s.pending := (rfl)
@[simp] theorem setRing_regs (r : Nat) (x : RingSt) : (s.setRing r x).regs = s.regs := (rfl)
@[simp] theorem setRing_readData (r : Nat) (x : RingSt) : (s.setRing r x).readData = s.readData := (rfl)
@[simp] theorem setRing_hbm (r : Nat) (x : RingSt) : (s.setRing r x).hbm = s.hbm := (rfl)
@[simp] theorem setRing_hbmEpoch (r : Nat) (x : RingSt) : (s.setRing r x).hbmEpoch = s.hbmEpoch := (rfl)
@[simp] theorem setRing_poison (r : Nat) (x : RingSt) : (s.setRing r x).poison = s.poison := (rfl)
@[simp] theorem setRing_freeIx (r : Nat) (x : RingSt) : (s.setRing r x).freeIx = s.freeIx := (rfl)
@[simp] theorem setRing_fuses (r : Nat) (x : RingSt) : (s.setRing r x).fuses = s.fuses := (rfl)
@[simp] theorem setRing_pins (r : Nat) (x : RingSt) : (s.setRing r x).pins = s.pins := (rfl)
@[simp] theorem setRing_sys (r : Nat) (x : RingSt) : (s.setRing r x).sys = s.sys := (rfl)
@[simp] theorem setRing_clock (r : Nat) (x : RingSt) : (s.setRing r x).clock = s.clock := (rfl)
@[simp] theorem setRing_time (r : Nat) (x : RingSt) : (s.setRing r x).time = s.time := (rfl)
@[simp] theorem setRing_alm (r : Nat) (x : RingSt) : (s.setRing r x).alm = s.alm := (rfl)
@[simp] theorem setRing_lanes (r : Nat) (x : RingSt) : (s.setRing r x).lanes = s.lanes := (rfl)
@[simp] theorem setRing_eth (r : Nat) (x : RingSt) : (s.setRing r x).eth = s.eth := (rfl)
@[simp] theorem setRing_evt (r : Nat) (x : RingSt) : (s.setRing r x).evt = s.evt := (rfl)
@[simp] theorem setRing_ingest (r : Nat) (x : RingSt) : (s.setRing r x).ingest = s.ingest := (rfl)
@[simp] theorem setRing_harrow (r : Nat) (x : RingSt) : (s.setRing r x).harrow = s.harrow := (rfl)
@[simp] theorem setRing_weed (r : Nat) (x : RingSt) : (s.setRing r x).weed = s.weed := (rfl)
@[simp] theorem setRing_turn (r : Nat) (x : RingSt) : (s.setRing r x).turn = s.turn := (rfl)
@[simp] theorem setRing_corr (r : Nat) (x : RingSt) : (s.setRing r x).corr = s.corr := (rfl)
@[simp] theorem setRing_gran (r : Nat) (x : RingSt) : (s.setRing r x).gran = s.gran := (rfl)
@[simp] theorem setRing_glean (r : Nat) (x : RingSt) : (s.setRing r x).glean = s.glean := (rfl)
@[simp] theorem setRing_beam (r : Nat) (x : RingSt) : (s.setRing r x).beam = s.beam := (rfl)
@[simp] theorem setRing_mem (r : Nat) (x : RingSt) : (s.setRing r x).mem = s.mem := (rfl)
@[simp] theorem setRing_xbar (r : Nat) (x : RingSt) : (s.setRing r x).xbar = s.xbar := (rfl)
@[simp] theorem setRing_ref (r : Nat) (x : RingSt) : (s.setRing r x).ref = s.ref := (rfl)
@[simp] theorem setRing_adc (r : Nat) (x : RingSt) : (s.setRing r x).adc = s.adc := (rfl)
@[simp] theorem setRing_dac (r : Nat) (x : RingSt) : (s.setRing r x).dac = s.dac := (rfl)
@[simp] theorem setRing_avs (r : Nat) (x : RingSt) : (s.setRing r x).avs = s.avs := (rfl)
@[simp] theorem setRing_weave (r : Nat) (x : RingSt) : (s.setRing r x).weave = s.weave := (rfl)
@[simp] theorem setRing_twin (r : Nat) (x : RingSt) : (s.setRing r x).twin = s.twin := (rfl)
@[simp] theorem setRing_heldWrites (r : Nat) (x : RingSt) : (s.setRing r x).heldWrites = s.heldWrites := (rfl)
@[simp] theorem setRing_stopped (r : Nat) (x : RingSt) : (s.setRing r x).stopped = s.stopped := (rfl)
@[simp] theorem setRing_out (r : Nat) (x : RingSt) : (s.setRing r x).out = s.out := (rfl)

/-! ### setStream writes eth only -/

@[simp] theorem setStream_pending (i : Nat) (x : StreamSt) : (s.setStream i x).pending = s.pending := (rfl)
@[simp] theorem setStream_regs (i : Nat) (x : StreamSt) : (s.setStream i x).regs = s.regs := (rfl)
@[simp] theorem setStream_readData (i : Nat) (x : StreamSt) : (s.setStream i x).readData = s.readData := (rfl)
@[simp] theorem setStream_hbm (i : Nat) (x : StreamSt) : (s.setStream i x).hbm = s.hbm := (rfl)
@[simp] theorem setStream_hbmEpoch (i : Nat) (x : StreamSt) : (s.setStream i x).hbmEpoch = s.hbmEpoch := (rfl)
@[simp] theorem setStream_poison (i : Nat) (x : StreamSt) : (s.setStream i x).poison = s.poison := (rfl)
@[simp] theorem setStream_freeIx (i : Nat) (x : StreamSt) : (s.setStream i x).freeIx = s.freeIx := (rfl)
@[simp] theorem setStream_fuses (i : Nat) (x : StreamSt) : (s.setStream i x).fuses = s.fuses := (rfl)
@[simp] theorem setStream_pins (i : Nat) (x : StreamSt) : (s.setStream i x).pins = s.pins := (rfl)
@[simp] theorem setStream_sys (i : Nat) (x : StreamSt) : (s.setStream i x).sys = s.sys := (rfl)
@[simp] theorem setStream_clock (i : Nat) (x : StreamSt) : (s.setStream i x).clock = s.clock := (rfl)
@[simp] theorem setStream_time (i : Nat) (x : StreamSt) : (s.setStream i x).time = s.time := (rfl)
@[simp] theorem setStream_alm (i : Nat) (x : StreamSt) : (s.setStream i x).alm = s.alm := (rfl)
@[simp] theorem setStream_lanes (i : Nat) (x : StreamSt) : (s.setStream i x).lanes = s.lanes := (rfl)
@[simp] theorem setStream_host (i : Nat) (x : StreamSt) : (s.setStream i x).host = s.host := (rfl)
@[simp] theorem setStream_evt (i : Nat) (x : StreamSt) : (s.setStream i x).evt = s.evt := (rfl)
@[simp] theorem setStream_ingest (i : Nat) (x : StreamSt) : (s.setStream i x).ingest = s.ingest := (rfl)
@[simp] theorem setStream_harrow (i : Nat) (x : StreamSt) : (s.setStream i x).harrow = s.harrow := (rfl)
@[simp] theorem setStream_weed (i : Nat) (x : StreamSt) : (s.setStream i x).weed = s.weed := (rfl)
@[simp] theorem setStream_turn (i : Nat) (x : StreamSt) : (s.setStream i x).turn = s.turn := (rfl)
@[simp] theorem setStream_corr (i : Nat) (x : StreamSt) : (s.setStream i x).corr = s.corr := (rfl)
@[simp] theorem setStream_gran (i : Nat) (x : StreamSt) : (s.setStream i x).gran = s.gran := (rfl)
@[simp] theorem setStream_glean (i : Nat) (x : StreamSt) : (s.setStream i x).glean = s.glean := (rfl)
@[simp] theorem setStream_beam (i : Nat) (x : StreamSt) : (s.setStream i x).beam = s.beam := (rfl)
@[simp] theorem setStream_mem (i : Nat) (x : StreamSt) : (s.setStream i x).mem = s.mem := (rfl)
@[simp] theorem setStream_xbar (i : Nat) (x : StreamSt) : (s.setStream i x).xbar = s.xbar := (rfl)
@[simp] theorem setStream_ref (i : Nat) (x : StreamSt) : (s.setStream i x).ref = s.ref := (rfl)
@[simp] theorem setStream_adc (i : Nat) (x : StreamSt) : (s.setStream i x).adc = s.adc := (rfl)
@[simp] theorem setStream_dac (i : Nat) (x : StreamSt) : (s.setStream i x).dac = s.dac := (rfl)
@[simp] theorem setStream_avs (i : Nat) (x : StreamSt) : (s.setStream i x).avs = s.avs := (rfl)
@[simp] theorem setStream_weave (i : Nat) (x : StreamSt) : (s.setStream i x).weave = s.weave := (rfl)
@[simp] theorem setStream_twin (i : Nat) (x : StreamSt) : (s.setStream i x).twin = s.twin := (rfl)
@[simp] theorem setStream_heldWrites (i : Nat) (x : StreamSt) : (s.setStream i x).heldWrites = s.heldWrites := (rfl)
@[simp] theorem setStream_stopped (i : Nat) (x : StreamSt) : (s.setStream i x).stopped = s.stopped := (rfl)
@[simp] theorem setStream_out (i : Nat) (x : StreamSt) : (s.setStream i x).out = s.out := (rfl)

/-! ### setPort writes eth only -/

@[simp] theorem setPort_pending (p : Nat) (x : PortSt) : (s.setPort p x).pending = s.pending := (rfl)
@[simp] theorem setPort_regs (p : Nat) (x : PortSt) : (s.setPort p x).regs = s.regs := (rfl)
@[simp] theorem setPort_readData (p : Nat) (x : PortSt) : (s.setPort p x).readData = s.readData := (rfl)
@[simp] theorem setPort_hbm (p : Nat) (x : PortSt) : (s.setPort p x).hbm = s.hbm := (rfl)
@[simp] theorem setPort_hbmEpoch (p : Nat) (x : PortSt) : (s.setPort p x).hbmEpoch = s.hbmEpoch := (rfl)
@[simp] theorem setPort_poison (p : Nat) (x : PortSt) : (s.setPort p x).poison = s.poison := (rfl)
@[simp] theorem setPort_freeIx (p : Nat) (x : PortSt) : (s.setPort p x).freeIx = s.freeIx := (rfl)
@[simp] theorem setPort_fuses (p : Nat) (x : PortSt) : (s.setPort p x).fuses = s.fuses := (rfl)
@[simp] theorem setPort_pins (p : Nat) (x : PortSt) : (s.setPort p x).pins = s.pins := (rfl)
@[simp] theorem setPort_sys (p : Nat) (x : PortSt) : (s.setPort p x).sys = s.sys := (rfl)
@[simp] theorem setPort_clock (p : Nat) (x : PortSt) : (s.setPort p x).clock = s.clock := (rfl)
@[simp] theorem setPort_time (p : Nat) (x : PortSt) : (s.setPort p x).time = s.time := (rfl)
@[simp] theorem setPort_alm (p : Nat) (x : PortSt) : (s.setPort p x).alm = s.alm := (rfl)
@[simp] theorem setPort_lanes (p : Nat) (x : PortSt) : (s.setPort p x).lanes = s.lanes := (rfl)
@[simp] theorem setPort_host (p : Nat) (x : PortSt) : (s.setPort p x).host = s.host := (rfl)
@[simp] theorem setPort_evt (p : Nat) (x : PortSt) : (s.setPort p x).evt = s.evt := (rfl)
@[simp] theorem setPort_ingest (p : Nat) (x : PortSt) : (s.setPort p x).ingest = s.ingest := (rfl)
@[simp] theorem setPort_harrow (p : Nat) (x : PortSt) : (s.setPort p x).harrow = s.harrow := (rfl)
@[simp] theorem setPort_weed (p : Nat) (x : PortSt) : (s.setPort p x).weed = s.weed := (rfl)
@[simp] theorem setPort_turn (p : Nat) (x : PortSt) : (s.setPort p x).turn = s.turn := (rfl)
@[simp] theorem setPort_corr (p : Nat) (x : PortSt) : (s.setPort p x).corr = s.corr := (rfl)
@[simp] theorem setPort_gran (p : Nat) (x : PortSt) : (s.setPort p x).gran = s.gran := (rfl)
@[simp] theorem setPort_glean (p : Nat) (x : PortSt) : (s.setPort p x).glean = s.glean := (rfl)
@[simp] theorem setPort_beam (p : Nat) (x : PortSt) : (s.setPort p x).beam = s.beam := (rfl)
@[simp] theorem setPort_mem (p : Nat) (x : PortSt) : (s.setPort p x).mem = s.mem := (rfl)
@[simp] theorem setPort_xbar (p : Nat) (x : PortSt) : (s.setPort p x).xbar = s.xbar := (rfl)
@[simp] theorem setPort_ref (p : Nat) (x : PortSt) : (s.setPort p x).ref = s.ref := (rfl)
@[simp] theorem setPort_adc (p : Nat) (x : PortSt) : (s.setPort p x).adc = s.adc := (rfl)
@[simp] theorem setPort_dac (p : Nat) (x : PortSt) : (s.setPort p x).dac = s.dac := (rfl)
@[simp] theorem setPort_avs (p : Nat) (x : PortSt) : (s.setPort p x).avs = s.avs := (rfl)
@[simp] theorem setPort_weave (p : Nat) (x : PortSt) : (s.setPort p x).weave = s.weave := (rfl)
@[simp] theorem setPort_twin (p : Nat) (x : PortSt) : (s.setPort p x).twin = s.twin := (rfl)
@[simp] theorem setPort_heldWrites (p : Nat) (x : PortSt) : (s.setPort p x).heldWrites = s.heldWrites := (rfl)
@[simp] theorem setPort_stopped (p : Nat) (x : PortSt) : (s.setPort p x).stopped = s.stopped := (rfl)
@[simp] theorem setPort_out (p : Nat) (x : PortSt) : (s.setPort p x).out = s.out := (rfl)

/-! ### hbmPut writes hbm only -/

@[simp] theorem hbmPut_pending (a : Nat) (b : Byte) : (s.hbmPut a b).pending = s.pending := (rfl)
@[simp] theorem hbmPut_regs (a : Nat) (b : Byte) : (s.hbmPut a b).regs = s.regs := (rfl)
@[simp] theorem hbmPut_readData (a : Nat) (b : Byte) : (s.hbmPut a b).readData = s.readData := (rfl)
@[simp] theorem hbmPut_hbmEpoch (a : Nat) (b : Byte) : (s.hbmPut a b).hbmEpoch = s.hbmEpoch := (rfl)
@[simp] theorem hbmPut_poison (a : Nat) (b : Byte) : (s.hbmPut a b).poison = s.poison := (rfl)
@[simp] theorem hbmPut_freeIx (a : Nat) (b : Byte) : (s.hbmPut a b).freeIx = s.freeIx := (rfl)
@[simp] theorem hbmPut_fuses (a : Nat) (b : Byte) : (s.hbmPut a b).fuses = s.fuses := (rfl)
@[simp] theorem hbmPut_pins (a : Nat) (b : Byte) : (s.hbmPut a b).pins = s.pins := (rfl)
@[simp] theorem hbmPut_sys (a : Nat) (b : Byte) : (s.hbmPut a b).sys = s.sys := (rfl)
@[simp] theorem hbmPut_clock (a : Nat) (b : Byte) : (s.hbmPut a b).clock = s.clock := (rfl)
@[simp] theorem hbmPut_time (a : Nat) (b : Byte) : (s.hbmPut a b).time = s.time := (rfl)
@[simp] theorem hbmPut_alm (a : Nat) (b : Byte) : (s.hbmPut a b).alm = s.alm := (rfl)
@[simp] theorem hbmPut_lanes (a : Nat) (b : Byte) : (s.hbmPut a b).lanes = s.lanes := (rfl)
@[simp] theorem hbmPut_host (a : Nat) (b : Byte) : (s.hbmPut a b).host = s.host := (rfl)
@[simp] theorem hbmPut_eth (a : Nat) (b : Byte) : (s.hbmPut a b).eth = s.eth := (rfl)
@[simp] theorem hbmPut_evt (a : Nat) (b : Byte) : (s.hbmPut a b).evt = s.evt := (rfl)
@[simp] theorem hbmPut_ingest (a : Nat) (b : Byte) : (s.hbmPut a b).ingest = s.ingest := (rfl)
@[simp] theorem hbmPut_harrow (a : Nat) (b : Byte) : (s.hbmPut a b).harrow = s.harrow := (rfl)
@[simp] theorem hbmPut_weed (a : Nat) (b : Byte) : (s.hbmPut a b).weed = s.weed := (rfl)
@[simp] theorem hbmPut_turn (a : Nat) (b : Byte) : (s.hbmPut a b).turn = s.turn := (rfl)
@[simp] theorem hbmPut_corr (a : Nat) (b : Byte) : (s.hbmPut a b).corr = s.corr := (rfl)
@[simp] theorem hbmPut_gran (a : Nat) (b : Byte) : (s.hbmPut a b).gran = s.gran := (rfl)
@[simp] theorem hbmPut_glean (a : Nat) (b : Byte) : (s.hbmPut a b).glean = s.glean := (rfl)
@[simp] theorem hbmPut_beam (a : Nat) (b : Byte) : (s.hbmPut a b).beam = s.beam := (rfl)
@[simp] theorem hbmPut_mem (a : Nat) (b : Byte) : (s.hbmPut a b).mem = s.mem := (rfl)
@[simp] theorem hbmPut_xbar (a : Nat) (b : Byte) : (s.hbmPut a b).xbar = s.xbar := (rfl)
@[simp] theorem hbmPut_ref (a : Nat) (b : Byte) : (s.hbmPut a b).ref = s.ref := (rfl)
@[simp] theorem hbmPut_adc (a : Nat) (b : Byte) : (s.hbmPut a b).adc = s.adc := (rfl)
@[simp] theorem hbmPut_dac (a : Nat) (b : Byte) : (s.hbmPut a b).dac = s.dac := (rfl)
@[simp] theorem hbmPut_avs (a : Nat) (b : Byte) : (s.hbmPut a b).avs = s.avs := (rfl)
@[simp] theorem hbmPut_weave (a : Nat) (b : Byte) : (s.hbmPut a b).weave = s.weave := (rfl)
@[simp] theorem hbmPut_twin (a : Nat) (b : Byte) : (s.hbmPut a b).twin = s.twin := (rfl)
@[simp] theorem hbmPut_heldWrites (a : Nat) (b : Byte) : (s.hbmPut a b).heldWrites = s.heldWrites := (rfl)
@[simp] theorem hbmPut_stopped (a : Nat) (b : Byte) : (s.hbmPut a b).stopped = s.stopped := (rfl)
@[simp] theorem hbmPut_out (a : Nat) (b : Byte) : (s.hbmPut a b).out = s.out := (rfl)

/-! ### Registers are read from the register file alone -/

@[simp] theorem reg_setRing (r : Nat) (x : RingSt) (k : Nat) : (s.setRing r x).reg k = s.reg k := (rfl)
@[simp] theorem get_setRing (r : Nat) (x : RingSt) (k : Nat) (f : Fld) : (s.setRing r x).get k f = s.get k f := (rfl)
@[simp] theorem flag_setRing (r : Nat) (x : RingSt) (k : Nat) (f : Fld) : (s.setRing r x).flag k f = s.flag k f := (rfl)
@[simp] theorem full_setRing (r : Nat) (x : RingSt) (k : Nat) : (s.setRing r x).full k = s.full k := (rfl)
@[simp] theorem reg_setStream (i : Nat) (x : StreamSt) (k : Nat) : (s.setStream i x).reg k = s.reg k := (rfl)
@[simp] theorem get_setStream (i : Nat) (x : StreamSt) (k : Nat) (f : Fld) : (s.setStream i x).get k f = s.get k f := (rfl)
@[simp] theorem flag_setStream (i : Nat) (x : StreamSt) (k : Nat) (f : Fld) : (s.setStream i x).flag k f = s.flag k f := (rfl)
@[simp] theorem full_setStream (i : Nat) (x : StreamSt) (k : Nat) : (s.setStream i x).full k = s.full k := (rfl)
@[simp] theorem reg_setPort (p : Nat) (x : PortSt) (k : Nat) : (s.setPort p x).reg k = s.reg k := (rfl)
@[simp] theorem get_setPort (p : Nat) (x : PortSt) (k : Nat) (f : Fld) : (s.setPort p x).get k f = s.get k f := (rfl)
@[simp] theorem flag_setPort (p : Nat) (x : PortSt) (k : Nat) (f : Fld) : (s.setPort p x).flag k f = s.flag k f := (rfl)
@[simp] theorem full_setPort (p : Nat) (x : PortSt) (k : Nat) : (s.setPort p x).full k = s.full k := (rfl)
@[simp] theorem reg_hbmPut (a : Nat) (b : Byte) (k : Nat) : (s.hbmPut a b).reg k = s.reg k := (rfl)
@[simp] theorem get_hbmPut (a : Nat) (b : Byte) (k : Nat) (f : Fld) : (s.hbmPut a b).get k f = s.get k f := (rfl)
@[simp] theorem flag_hbmPut (a : Nat) (b : Byte) (k : Nat) (f : Fld) : (s.hbmPut a b).flag k f = s.flag k f := (rfl)
@[simp] theorem full_hbmPut (a : Nat) (b : Byte) (k : Nat) : (s.hbmPut a b).full k = s.full k := (rfl)

end Sys2Proof.Machine.State
end

