-- ==== Sys2Proof/Laws/Frames.lean ====
section
/-! SUPPORT. Frames: what an update leaves unchanged, for each update of the state, and how frames combine. -/

namespace Sys2Proof.Machine

theorem Only.refl (ps : List Part) (s : State) : Only ps s s := by
  intro p _; cases p <;> simp [SamePart]

theorem SamePart.trans {s t u : State} {p : Part} (h : SamePart s t p) (k : SamePart t u p) : SamePart s u p := by
  cases p <;> simp_all [SamePart]

theorem Only.trans {ps : List Part} {s t u : State} (h : Only ps s t) (k : Only ps t u) : Only ps s u :=
  fun p hp => (h p hp).trans (k p hp)

theorem Only.mono {ps qs : List Part} {s t : State} (h : Only ps s t) (hs : ∀ p ∈ ps, p ∈ qs) : Only qs s t :=
  fun p hp => h p (fun hm => hp (hs p hm))

/-- Two steps with frames of their own. -/
theorem Only.then {ps qs rs : List Part} {s t u : State} (h : Only ps s t) (k : Only qs t u) (h1 : ∀ p ∈ ps, p ∈ rs)
    (h2 : ∀ p ∈ qs, p ∈ rs) : Only rs s u := (h.mono h1).trans (k.mono h2)

namespace State

/-! ### Updates of registers -/

theorem only_wr (s : State) (a : Nat) (v : Word) : Only [.regs] s (s.wr a v) := by
  intro p hp; cases p <;> first
    | exact absurd (by decide) hp
    | (simp [SamePart, hbmByte, ring, stream, port]; done)

theorem only_set (s : State) (a : Nat) (f : Fld) (v : Nat) : Only [.regs] s (s.set a f v) := only_wr s _ _
theorem only_setFlag (s : State) (a : Nat) (f : Fld) (b : Bool) : Only [.regs] s (s.setFlag a f b) := only_wr s _ _
theorem only_wrN (s : State) (a v : Nat) : Only [.regs] s (s.wrN a v) := only_wr s _ _
theorem only_count (s : State) (a n : Nat) : Only [.regs] s (s.count a n) := only_wr s _ _
theorem only_bump (s : State) (a : Nat) (f : Fld) (n : Nat) : Only [.regs] s (s.bump a f n) := only_wr s _ _

theorem only_wrPair (s : State) (a b v : Nat) : Only [.regs] s (s.wrPair a b v) :=
  (only_wrN s a v).trans (only_wrN _ _ _)

theorem only_peak (s : State) (a : Nat) (f : Fld) (v : Nat) : Only [.regs] s (s.peak a f v) := by
  unfold peak; split
  · exact only_set s _ _ _
  · exact .refl _ s

/-! ### Updates of one part -/

theorem only_readData (s : State) (x : Word) : Only [.readData] s { s with readData := x } := by
  intro p hp
  cases p <;> first
    | exact rfl
    | exact fun _ => rfl
    | exact absurd (by decide) hp
    | simp [SamePart, port]

theorem only_poison (s : State) (x : List Nat) : Only [.poison] s { s with poison := x } := by
  intro p hp
  cases p <;> first
    | exact rfl
    | exact fun _ => rfl
    | exact absurd (by decide) hp
    | simp [SamePart, port]

theorem only_freeIx (s : State) (x : Nat) : Only [.free] s { s with freeIx := x } := by
  intro p hp
  cases p <;> first
    | exact rfl
    | exact fun _ => rfl
    | exact absurd (by decide) hp
    | simp [SamePart, port]

theorem only_fuses (s : State) (x : FuseArray) : Only [.fuses] s { s with fuses := x } := by
  intro p hp
  cases p <;> first
    | exact rfl
    | exact fun _ => rfl
    | exact absurd (by decide) hp
    | simp [SamePart, port]

theorem only_pins (s : State) (x : PinSt) : Only [.pins] s { s with pins := x } := by
  intro p hp
  cases p <;> first
    | exact rfl
    | exact fun _ => rfl
    | exact absurd (by decide) hp
    | simp [SamePart, port]

theorem only_sys (s : State) (x : SysSt) : Only [.sys] s { s with sys := x } := by
  intro p hp
  cases p <;> first
    | exact rfl
    | exact fun _ => rfl
    | exact absurd (by decide) hp
    | simp [SamePart, port]

theorem only_clock (s : State) (x : Clock) : Only [.clock] s { s with clock := x } := by
  intro p hp
  cases p <;> first
    | exact rfl
    | exact fun _ => rfl
    | exact absurd (by decide) hp
    | simp [SamePart, port]

theorem only_time (s : State) (x : TimeSt) : Only [.time] s { s with time := x } := by
  intro p hp
  cases p <;> first
    | exact rfl
    | exact fun _ => rfl
    | exact absurd (by decide) hp
    | simp [SamePart, port]

theorem only_ingest (s : State) (x : IngestSt) : Only [.ingest] s { s with ingest := x } := by
  intro p hp
  cases p <;> first
    | exact rfl
    | exact fun _ => rfl
    | exact absurd (by decide) hp
    | simp [SamePart, port]

theorem only_harrow (s : State) (x : HarrowSt) : Only [.harrow] s { s with harrow := x } := by
  intro p hp
  cases p <;> first
    | exact rfl
    | exact fun _ => rfl
    | exact absurd (by decide) hp
    | simp [SamePart, port]

theorem only_weed (s : State) (x : WeedSt) : Only [.weed] s { s with weed := x } := by
  intro p hp
  cases p <;> first
    | exact rfl
    | exact fun _ => rfl
    | exact absurd (by decide) hp
    | simp [SamePart, port]

theorem only_turn (s : State) (x : TurnSt) : Only [.turn] s { s with turn := x } := by
  intro p hp
  cases p <;> first
    | exact rfl
    | exact fun _ => rfl
    | exact absurd (by decide) hp
    | simp [SamePart, port]

theorem only_corr (s : State) (x : CorrSt) : Only [.corr] s { s with corr := x } := by
  intro p hp
  cases p <;> first
    | exact rfl
    | exact fun _ => rfl
    | exact absurd (by decide) hp
    | simp [SamePart, port]

theorem only_gran (s : State) (x : GranSt) : Only [.gran] s { s with gran := x } := by
  intro p hp
  cases p <;> first
    | exact rfl
    | exact fun _ => rfl
    | exact absurd (by decide) hp
    | simp [SamePart, port]

theorem only_glean (s : State) (x : GleanSt) : Only [.glean] s { s with glean := x } := by
  intro p hp
  cases p <;> first
    | exact rfl
    | exact fun _ => rfl
    | exact absurd (by decide) hp
    | simp [SamePart, port]

theorem only_beam (s : State) (x : BeamSt) : Only [.beam] s { s with beam := x } := by
  intro p hp
  cases p <;> first
    | exact rfl
    | exact fun _ => rfl
    | exact absurd (by decide) hp
    | simp [SamePart, port]

theorem only_mem (s : State) (x : HbmSt) : Only [.mem] s { s with mem := x } := by
  intro p hp
  cases p <;> first
    | exact rfl
    | exact fun _ => rfl
    | exact absurd (by decide) hp
    | simp [SamePart, port]

theorem only_xbar (s : State) (x : XbarSt) : Only [.xbar] s { s with xbar := x } := by
  intro p hp
  cases p <;> first
    | exact rfl
    | exact fun _ => rfl
    | exact absurd (by decide) hp
    | simp [SamePart, port]

theorem only_ref (s : State) (x : RefSt) : Only [.ref] s { s with ref := x } := by
  intro p hp
  cases p <;> first
    | exact rfl
    | exact fun _ => rfl
    | exact absurd (by decide) hp
    | simp [SamePart, port]

theorem only_adc (s : State) (x : AdcSt) : Only [.adc] s { s with adc := x } := by
  intro p hp
  cases p <;> first
    | exact rfl
    | exact fun _ => rfl
    | exact absurd (by decide) hp
    | simp [SamePart, port]

theorem only_dac (s : State) (x : DacSt) : Only [.dac] s { s with dac := x } := by
  intro p hp
  cases p <;> first
    | exact rfl
    | exact fun _ => rfl
    | exact absurd (by decide) hp
    | simp [SamePart, port]

theorem only_avs (s : State) (x : AvsSt) : Only [.avs] s { s with avs := x } := by
  intro p hp
  cases p <;> first
    | exact rfl
    | exact fun _ => rfl
    | exact absurd (by decide) hp
    | simp [SamePart, port]

theorem only_weave (s : State) (x : WeaveSt) : Only [.weave] s { s with weave := x } := by
  intro p hp
  cases p <;> first
    | exact rfl
    | exact fun _ => rfl
    | exact absurd (by decide) hp
    | simp [SamePart, port]

theorem only_twin (s : State) (x : TwinSt) : Only [.twin] s { s with twin := x } := by
  intro p hp
  cases p <;> first
    | exact rfl
    | exact fun _ => rfl
    | exact absurd (by decide) hp
    | simp [SamePart, port]

theorem only_evt (s : State) (x : EvtSt) : Only [.evt] s { s with evt := x } := by
  intro p hp
  cases p <;> first
    | exact rfl
    | exact fun _ => rfl
    | exact absurd (by decide) hp
    | simp [SamePart, port]

theorem only_heldWrites (s : State) (x : List HeldWrite) : Only [.heldWrites] s { s with heldWrites := x } := by
  intro p hp
  cases p <;> first
    | exact rfl
    | exact fun _ => rfl
    | exact absurd (by decide) hp
    | simp [SamePart, port]

theorem only_stopped (s : State) (x : Bool) : Only [.stopped] s { s with stopped := x } := by
  intro p hp
  cases p <;> first
    | exact rfl
    | exact fun _ => rfl
    | exact absurd (by decide) hp
    | simp [SamePart, port]

theorem only_lanes_lanes (s : State) (x : List (Nat × LaneSt)) : Only [.lanes] s { s with lanes := { s.lanes with lanes := x } } := by
  intro p hp
  cases p <;> first
    | exact rfl
    | exact fun _ => rfl
    | exact absurd (by decide) hp
    | simp [SamePart, port]

theorem only_lanes_links (s : State) (x : List (Nat × LinkSt)) : Only [.links] s { s with lanes := { s.lanes with links := x } } := by
  intro p hp
  cases p <;> first
    | exact rfl
    | exact fun _ => rfl
    | exact absurd (by decide) hp
    | simp [SamePart, port]

theorem only_host_rings (s : State) (x : List (Nat × RingSt)) : Only [.rings] s { s with host := { s.host with rings := x } } := by
  intro p hp
  cases p <;> first
    | exact rfl
    | exact fun _ => rfl
    | exact absurd (by decide) hp
    | simp [SamePart, port]

theorem only_host_chans (s : State) (x : List (Nat × DmaChSt)) : Only [.channels] s { s with host := { s.host with chans := x } } := by
  intro p hp
  cases p <;> first
    | exact rfl
    | exact fun _ => rfl
    | exact absurd (by decide) hp
    | simp [SamePart, port]

theorem only_host_reads (s : State) (x : List HostReq) : Only [.reads] s { s with host := { s.host with reads := x } } := by
  intro p hp
  cases p <;> first
    | exact rfl
    | exact fun _ => rfl
    | exact absurd (by decide) hp
    | simp [SamePart, port]

theorem only_host_barData (s : State) (x : Nat) : Only [.barData] s { s with host := { s.host with barData := x } } := by
  intro p hp
  cases p <;> first
    | exact rfl
    | exact fun _ => rfl
    | exact absurd (by decide) hp
    | simp [SamePart, port]

theorem only_host_pba (s : State) (x : List Nat) : Only [.pba] s { s with host := { s.host with pba := x } } := by
  intro p hp
  cases p <;> first
    | exact rfl
    | exact fun _ => rfl
    | exact absurd (by decide) hp
    | simp [SamePart, port]

theorem only_host_aer (s : State) (x : Nat) : Only [.pcie] s { s with host := { s.host with aer := x } } := by
  intro p hp
  cases p <;> first
    | exact rfl
    | exact fun _ => rfl
    | exact absurd (by decide) hp
    | simp [SamePart, port]

theorem only_alm_entries (s : State) (x : List (Nat × AlmEntry)) : Only [.almanac] s { s with alm := { s.alm with entries := x } } := by
  intro p hp
  cases p <;> first
    | exact rfl
    | exact fun _ => rfl
    | exact absurd (by decide) hp
    | simp [SamePart, port]

theorem only_alm_execs (s : State) (x : List AlmExec) : Only [.firings] s { s with alm := { s.alm with execs := x } } := by
  intro p hp
  cases p <;> first
    | exact rfl
    | exact fun _ => rfl
    | exact absurd (by decide) hp
    | simp [SamePart, port]

theorem only_eth_streams (s : State) (x : List (Nat × StreamSt)) : Only [.streams] s { s with eth := { s.eth with streams := x } } := by
  intro p hp
  cases p <;> first
    | exact rfl
    | exact fun _ => rfl
    | exact absurd (by decide) hp
    | simp [SamePart, port]

theorem only_eth_regs (s : State) (x : List (Nat × Word)) : Only [.ethSettings] s { s with eth := { s.eth with regs := x } } := by
  intro p hp
  cases p <;> first
    | exact rfl
    | exact fun _ => rfl
    | exact absurd (by decide) hp
    | simp [SamePart, port]

theorem only_eth_ports (s : State) (x : List (Nat × PortSt)) : Only [.ports] s { s with eth := { s.eth with ports := x } } := by
  intro p hp
  cases p <;> first
    | exact rfl
    | exact fun _ => rfl
    | exact absurd (by decide) hp
    | simp [SamePart, port]

theorem only_out_host (s : State) (x : List HostWrite) : Only [.outHost] s { s with out := { s.out with host := x } } := by
  intro p hp
  cases p <;> first
    | exact rfl
    | exact fun _ => rfl
    | exact absurd (by decide) hp
    | simp [SamePart, port]

theorem only_out_msix (s : State) (x : List Nat) : Only [.outMsix] s { s with out := { s.out with msix := x } } := by
  intro p hp
  cases p <;> first
    | exact rfl
    | exact fun _ => rfl
    | exact absurd (by decide) hp
    | simp [SamePart, port]

theorem only_out_eth (s : State) (x : List (Nat × List Byte)) : Only [.outEth] s { s with out := { s.out with eth := x } } := by
  intro p hp
  cases p <;> first
    | exact rfl
    | exact fun _ => rfl
    | exact absurd (by decide) hp
    | simp [SamePart, port]

theorem only_out_flits (s : State) (x : List (Nat × List Byte)) : Only [.outFlits] s { s with out := { s.out with flits := x } } := by
  intro p hp
  cases p <;> first
    | exact rfl
    | exact fun _ => rfl
    | exact absurd (by decide) hp
    | simp [SamePart, port]

theorem only_out_ctrl (s : State) (x : List (Nat × List Byte)) : Only [.outCtrl] s { s with out := { s.out with ctrl := x } } := by
  intro p hp
  cases p <;> first
    | exact rfl
    | exact fun _ => rfl
    | exact absurd (by decide) hp
    | simp [SamePart, port]

theorem only_out_inputFlags (s : State) (x : List (Nat × Nat × Nat × List Bool)) : Only [.outInputFlags] s { s with out := { s.out with inputFlags := x } } := by
  intro p hp
  cases p <;> first
    | exact rfl
    | exact fun _ => rfl
    | exact absurd (by decide) hp
    | simp [SamePart, port]

theorem only_out_avs (s : State) (x : List (Nat × Option Nat)) : Only [.outAvs] s { s with out := { s.out with avs := x } } := by
  intro p hp
  cases p <;> first
    | exact rfl
    | exact fun _ => rfl
    | exact absurd (by decide) hp
    | simp [SamePart, port]

theorem only_setRing (s : State) (r : Nat) (x : RingSt) : Only [.rings] s (s.setRing r x) := only_host_rings s _
theorem only_setStream (s : State) (i : Nat) (x : StreamSt) : Only [.streams] s (s.setStream i x) := only_eth_streams s _
theorem only_setPort (s : State) (p : Nat) (x : PortSt) : Only [.ports] s (s.setPort p x) := only_eth_ports s _
theorem only_free (s : State) (n : Nat) : Only [.free] s (s.free n).2 := only_freeIx s _

/-! ### Reading past an update -/

theorem Only.same {ps : List Part} {s t : State} (h : Only ps s t) (p : Part) (hp : p ∉ ps) : SamePart s t p := h p hp

theorem only_reg {ps : List Part} {s t : State} (h : Only ps s t) (hp : Part.regs ∉ ps) (a : Nat) : t.reg a = s.reg a := h .regs hp a

/-! ### Registers that stay -/

theorem keeps_refl (s : State) (P : Nat → Prop) : KeepsRegs s s P := fun _ _ => rfl

theorem KeepsRegs.trans {s t u : State} {P : Nat → Prop} (h : KeepsRegs s t P) (k : KeepsRegs t u P) : KeepsRegs s u P :=
  fun a ha => (k a ha).trans (h a ha)

theorem KeepsRegs.mono {s t : State} {P Q : Nat → Prop} (h : KeepsRegs s t P) (hs : ∀ a, P a → Q a) : KeepsRegs s t Q :=
  fun a ha => h a (fun hp => ha (hs a hp))

theorem keeps_only {ps : List Part} {s t : State} (h : Only ps s t) (hp : Part.regs ∉ ps) (P : Nat → Prop) : KeepsRegs s t P :=
  fun a _ => only_reg h hp a

theorem keeps_wr (s : State) (a : Nat) (v : Word) : KeepsRegs s (s.wr a v) (· = a) := fun _ h => reg_wr_other s v h
theorem keeps_set (s : State) (a : Nat) (f : Fld) (v : Nat) : KeepsRegs s (s.set a f v) (· = a) := keeps_wr s a _
theorem keeps_setFlag (s : State) (a : Nat) (f : Fld) (b : Bool) : KeepsRegs s (s.setFlag a f b) (· = a) := keeps_wr s a _
theorem keeps_wrN (s : State) (a v : Nat) : KeepsRegs s (s.wrN a v) (· = a) := keeps_wr s a _
theorem keeps_count (s : State) (a n : Nat) : KeepsRegs s (s.count a n) (· = a) := keeps_wr s a _
theorem keeps_bump (s : State) (a : Nat) (f : Fld) (n : Nat) : KeepsRegs s (s.bump a f n) (· = a) := keeps_wr s a _

theorem keeps_get {s t : State} {P : Nat → Prop} (h : KeepsRegs s t P) {a : Nat} (ha : ¬ P a) (f : Fld) : t.get a f = s.get a f := by
  simp only [get, h a ha]

theorem keeps_flag {s t : State} {P : Nat → Prop} (h : KeepsRegs s t P) {a : Nat} (ha : ¬ P a) (f : Fld) : t.flag a f = s.flag a f := by
  simp only [flag, keeps_get h ha]

end State

end Sys2Proof.Machine
end

