-- ==== Sys2Proof/Laws/Commands.lean ====
section
/-! SUPPORT. Taking a descriptor and completing it (R344, R358, R451): all that each shared operation can change, said once. -/

namespace Sys2Proof.Machine

/-- Only the state of rings outside their registers has changed, and only that of one ring. -/
def OnlyRing (s t : State) (r : Nat) : Prop := Only [.rings] s t ∧ ∀ q, q ≠ r → t.ring q = s.ring q

namespace State

theorem ring_setRing_same (s : State) (r : Nat) (x : RingSt) : (s.setRing r x).ring r = x := by
  simp only [ring, setRing, mapFind_mapSet_same]

theorem ring_setRing_other (s : State) {r q : Nat} (x : RingSt) (h : q ≠ r) : (s.setRing r x).ring q = s.ring q := by
  simp only [ring, setRing, mapFind_mapSet_other _ _ _ h]

theorem onlyRing_refl (s : State) (r : Nat) : OnlyRing s s r := ⟨.refl _ s, fun _ _ => rfl⟩

theorem onlyRing_trans {s t u : State} {r : Nat} (h : OnlyRing s t r) (k : OnlyRing t u r) : OnlyRing s u r :=
  ⟨h.1.trans k.1, fun q hq => (k.2 q hq).trans (h.2 q hq)⟩

theorem onlyRing_setRing (s : State) (r : Nat) (x : RingSt) : OnlyRing s (s.setRing r x) r :=
  ⟨only_setRing s r x, fun _ h => ring_setRing_other s x h⟩

theorem onlyRing_reg {s t : State} {r : Nat} (h : OnlyRing s t r) (a : Nat) : t.reg a = s.reg a :=
  only_reg h.1 (by decide) a

/-! ### Opening a slot -/

theorem openSlot_frame (s : State) (r : Nat) (e : Entry) : OnlyRing s (s.openSlot r e).2 r := onlyRing_setRing s r _

theorem openSlot_slots (s : State) (r : Nat) (e : Entry) :
    ∃ l, ((s.openSlot r e).2.ring r).slots = (s.ring r).slots ++ [l] ∧ l.id = (s.openSlot r e).1 := by
  unfold openSlot; dsimp only; rw [ring_setRing_same]; exact ⟨_, rfl, rfl⟩

theorem openSlot_id (s : State) (r : Nat) (e : Entry) : (s.openSlot r e).1 = (s.ring r).nextId := rfl

theorem openSlot_nextId (s : State) (r : Nat) (e : Entry) : ((s.openSlot r e).2.ring r).nextId = (s.ring r).nextId + 1 := by
  unfold openSlot; dsimp only; rw [ring_setRing_same]

/-! ### Completing in a slot -/

theorem finish_slot_frame (s : State) (r id : Nat) (c : CplRec) : OnlyRing s (s.finish (.slot r id) c) r :=
  onlyRing_setRing s r _

theorem finish_slot_nextId (s : State) (r id : Nat) (c : CplRec) :
    ((s.finish (.slot r id) c).ring r).nextId = (s.ring r).nextId := by simp only [finish, ring_setRing_same]

theorem finish_slot_slots (s : State) (r id : Nat) (c : CplRec) :
    ((s.finish (.slot r id) c).ring r).slots = (s.ring r).slots.map (fun l =>
      if l.id = id then { l with result := some { c with tag := l.tag, chained := l.chained } } else l) := by
  simp only [finish, ring_setRing_same]

/-- A slot that has been filled stays filled while other slots of the ring are opened and filled. -/
theorem answered_finish_other {s : State} {r id j : Nat} {p : CplRec → Prop} (c : CplRec) (h : Answered s (.slot r id) p)
    (hj : j ≠ id) : Answered (s.finish (.slot r j) c) (.slot r id) p := by
  obtain ⟨l, hl, hid, hc⟩ := h
  refine ⟨l, ?_, hid, hc⟩
  rw [finish_slot_slots, List.mem_map]
  exact ⟨l, hl, by rw [if_neg (by omega)]⟩

theorem answered_openSlot {s : State} {r id : Nat} {p : CplRec → Prop} (e : Entry) (h : Answered s (.slot r id) p) :
    Answered (s.openSlot r e).2 (.slot r id) p := by
  obtain ⟨l, hl, hid, hc⟩ := h
  obtain ⟨m, hm, _⟩ := openSlot_slots s r e
  exact ⟨l, by rw [hm]; exact List.mem_append_left _ hl, hid, hc⟩

/-! ### What follows a command on its ring -/

theorem settle_frame (s : State) (r n : Nat) : OnlyRing s (s.settle r n) r := by
  induction n generalizing s with
  | zero => exact onlyRing_refl s r
  | succ n ih =>
    unfold settle
    split
    · exact onlyRing_refl s r
    · split
      · exact onlyRing_refl s r
      · split
        · exact onlyRing_trans (onlyRing_trans (openSlot_frame s r _) (finish_slot_frame _ _ _ _)) (ih _)
        · exact onlyRing_refl s r

/-- Settling a ring changes nothing but that ring's entries and slots. -/
theorem settleRing_frame (s : State) (r : Nat) : OnlyRing s (s.settleRing r) r := settle_frame s r _

theorem answered_settle {s : State} {r id : Nat} {p : CplRec → Prop} (n : Nat) (h : Answered s (.slot r id) p)
    (hid : id < (s.ring r).nextId) : Answered (s.settle r n) (.slot r id) p := by
  induction n generalizing s with
  | zero => exact h
  | succ n ih =>
    unfold settle
    split
    · exact h
    · split
      · exact h
      · split
        · apply ih
          · exact answered_finish_other _ (answered_openSlot _ h) (by show (s.ring r).nextId ≠ id; omega)
          · simp only [finishSt]
            rw [finish_slot_nextId]
            have := openSlot_nextId s r ‹Entry›
            simp only [openSlot] at this
            omega
        · exact h

theorem answered_other_ring {s t : State} {r q id : Nat} {p : CplRec → Prop} (h : OnlyRing s t r) (hq : q ≠ r)
    (k : Answered s (.slot q id) p) : Answered t (.slot q id) p := by
  simp only [Answered] at *; rw [h.2 q hq]; exact k

theorem answered_settleRing {s : State} {r q id : Nat} {p : CplRec → Prop} (h : Answered s (.slot r id) p)
    (hid : id < (s.ring r).nextId) : Answered (s.settleRing q) (.slot r id) p := by
  by_cases hq : r = q
  · subst hq; exact answered_settle _ h hid
  · exact answered_other_ring (settleRing_frame s q) hq h

/-! ### Messages to rings -/

theorem only_dropMsg (s : State) (r : Nat) (m : Msg) : Only [.regs, .rings] s (s.dropMsg r m) := by
  unfold dropMsg; dsimp only
  have h : Only [.regs, .rings] s ((s.bump (Reg.RING_COUNT r) Fld.RING_COUNT_DROPS).setRing r
      { (s.bump (Reg.RING_COUNT r) Fld.RING_COUNT_DROPS).ring r with
        dropped := satU 16 (((s.bump (Reg.RING_COUNT r) Fld.RING_COUNT_DROPS).ring r).dropped + 1) }) :=
    (only_bump s _ _ _).then (only_setRing _ _ _) (by decide) (by decide)
  split
  · exact h.then (only_count _ _ _) (fun _ h => h) (by decide)
  · exact h

theorem dropMsg_reg (s : State) (r : Nat) (m : Msg) {a : Nat} (h1 : a ≠ Reg.RING_COUNT r) (h2 : ∀ b, m.full = .counts b → a ≠ b) :
    (s.dropMsg r m).reg a = s.reg a := by
  unfold dropMsg; dsimp only; split
  · rename_i b hb
    rw [reg_count_other _ _ (h2 b hb), reg_setRing, reg_bump_other _ _ _ h1]
  · rw [reg_setRing, reg_bump_other _ _ _ h1]

/-- Handing a message to a ring changes that ring and, where the ring discards it, its drop counter and the producer's. -/
theorem only_toRing (s : State) (r : Nat) (m : Msg) : Only [.regs, .rings] s (s.toRing r m) := by
  unfold toRing; split
  · exact only_dropMsg s r m
  · exact (only_setRing s r _).mono (by decide)

theorem dropMsg_execs (s : State) (r : Nat) (m : Msg) : (s.dropMsg r m).alm = s.alm := by
  unfold dropMsg; dsimp only; split <;> simp

theorem toRing_execs (s : State) (r : Nat) (m : Msg) : (s.toRing r m).alm = s.alm := by
  unfold toRing; split
  · exact dropMsg_execs s r m
  · rfl

theorem toRing_reg (s : State) (r : Nat) (m : Msg) {a : Nat} (h1 : a ≠ Reg.RING_COUNT r) (h2 : ∀ b, m.full = .counts b → a ≠ b) :
    (s.toRing r m).reg a = s.reg a := by
  unfold toRing; split
  · exact dropMsg_reg s r m h1 h2
  · rfl

/-! ### Completing -/

theorem only_finishExec (s : State) (q : Nat) (c : CplRec) : Only answerParts s (s.finishExec q c) := by
  unfold finishExec; split
  · exact .refl _ s
  · have h1 := only_alm_execs s (s.alm.execs.filter (fun y => y.seq != q))
    revert h1
    generalize ({ s with alm := { s.alm with execs := s.alm.execs.filter (fun y => y.seq != q) } } : State) = u
    intro h1
    dsimp only
    split
    · exact (h1.then (only_set _ _ _ _) (by decide) (by decide)).trans ((only_toRing _ _ _).mono (by decide))
    · exact h1.then (only_set _ _ _ _) (by decide) (by decide)

/-- Completing a command changes its ring, or its firing with what the fire record touches. -/
theorem only_finish (s : State) (ref : CmdRef) (c : CplRec) : Only answerParts s (s.finish ref c) := by
  cases ref with
  | slot r id => exact (finish_slot_frame s r id c).1.mono (by decide)
  | exec q => exact only_finishExec s q c

theorem only_finishSt (s : State) (ref : CmdRef) (st : Nat) : Only answerParts s (s.finishSt ref st) := only_finish s ref _

theorem finishExec_reg (s : State) (q : Nat) (c : CplRec) {a : Nat} (h1 : ∀ x ∈ s.alm.execs, a ≠ Reg.ALM_STATE x.entry)
    (h2 : a ≠ Reg.RING_COUNT (s.get Reg.ALM_CFG Fld.ALM_CFG_RING)) (h3 : a ≠ Reg.ALM_COUNT 4)
    (h4 : ∀ x ∈ s.alm.execs, Reg.ALM_CFG ≠ Reg.ALM_STATE x.entry) : (s.finishExec q c).reg a = s.reg a := by
  unfold finishExec; split
  · rfl
  · rename_i y hy
    have hm := List.mem_of_find?_eq_some hy
    dsimp only
    have e1 : ∀ v : Nat, State.reg (State.set { s with alm := { s.alm with execs := s.alm.execs.filter (fun y => y.seq != q) } }
        (Reg.ALM_STATE y.entry) Fld.ALM_STATE_STATUS v) a = s.reg a := fun v => by
      rw [reg_set_other _ _ _ (h1 y hm)]; rfl
    have e2 : ∀ v : Nat, State.get (State.set { s with alm := { s.alm with execs := s.alm.execs.filter (fun y => y.seq != q) } }
        (Reg.ALM_STATE y.entry) Fld.ALM_STATE_STATUS v) Reg.ALM_CFG Fld.ALM_CFG_RING = s.get Reg.ALM_CFG Fld.ALM_CFG_RING := fun v => by
      rw [get_set_other _ _ _ _ (h4 y hm)]; rfl
    split
    · rw [toRing_reg, e1]
      · rw [e2]; exact h2
      · intro b hb; cases hb; exact h3
    · exact e1 _

theorem ALM_CFG_ne_state (e : Nat) : Reg.ALM_CFG ≠ Reg.ALM_STATE e := by
  simp only [Reg.ALM_CFG, Reg.ALM_STATE]; omega

/-- Completing a command changes the registers of its answer only. -/
theorem finish_reg (s : State) (ref : CmdRef) (c : CplRec) {a : Nat} (h1 : ∀ x ∈ s.alm.execs, a ≠ Reg.ALM_STATE x.entry)
    (h2 : a ≠ Reg.RING_COUNT (s.get Reg.ALM_CFG Fld.ALM_CFG_RING)) (h3 : a ≠ Reg.ALM_COUNT 4) :
    (s.finish ref c).reg a = s.reg a := by
  cases ref with
  | slot r id => exact onlyRing_reg (finish_slot_frame s r id c) a
  | exec q => exact finishExec_reg s q c h1 h2 h3 (fun x _ => ALM_CFG_ne_state x.entry)

theorem finish_exec_execs (s : State) (q : Nat) (c : CplRec) : ∀ x ∈ (s.finish (.exec q) c).alm.execs, x.seq ≠ q := by
  intro x hx
  simp only [finish, finishExec] at hx
  split at hx
  · rename_i hn
    exact fun hq => by simpa [hq] using List.find?_eq_none.1 hn x hx
  · have : x ∈ s.alm.execs.filter (fun y => y.seq != q) := by
      split at hx
      · rw [toRing_execs] at hx; exact hx
      · exact hx
    simpa using (List.mem_filter.1 this).2

/-- Completing a command answers it. -/
theorem answered_finish {s : State} {ref : CmdRef} (h : Awaits s ref) (c : CplRec) {p : CplRec → Prop}
    (hp : ∀ tag chained, p { c with tag := tag, chained := chained }) : Answered (s.finish ref c) ref p := by
  cases ref with
  | slot r id =>
    obtain ⟨⟨l, hl, hid⟩, _⟩ := h
    refine ⟨{ l with result := some { c with tag := l.tag, chained := l.chained } }, ?_, hid, _, rfl, hp _ _⟩
    rw [finish_slot_slots, List.mem_map]
    exact ⟨l, hl, by rw [if_pos hid]⟩
  | exec q => exact finish_exec_execs s q c

/-! ### A command -/

/-- Where a command is to be answered, after its descriptor has been taken. -/
theorem take_spec {s s1 : State} {src : CmdSrc} {op r : Nat} {ref : CmdRef} {d : List Byte}
    (h : s.take src op = some (ref, d, r, s1)) :
    s1.regs = s.regs ∧ Only [.rings, .firings] s s1 ∧ Awaits s1 ref ∧ descOpcode d = op
      ∧ (∀ x ∈ s1.alm.execs, ∃ y ∈ s.alm.execs, y.entry = x.entry)
      ∧ match src with
        | .ring q => r = q.val ∧ (∃ id, ref = .slot q id)
        | .almanac _ => ∃ q, ref = .exec q := by
  cases src with
  | ring q =>
    simp only [take] at h
    split at h
    · rename_i e he
      split at h
      · rename_i hc
        simp only [Option.some.injEq, Prod.mk.injEq] at h
        obtain ⟨rfl, rfl, rfl, rfl⟩ := h
        obtain ⟨l, hl, hid⟩ := openSlot_slots s q.val e
        refine ⟨rfl, (openSlot_frame s q e).1.mono (by decide), ⟨⟨l, ?_, hid⟩, ?_⟩, hc.1, ?_, rfl, _, rfl⟩
        · have : ((s.openSlot q.val e).2.ring q.val).slots = _ := hl
          simp only [openSlot] at this ⊢
          rw [this]; exact List.mem_append_right _ (by simp)
        · have := openSlot_nextId s q.val e
          simp only [openSlot] at this ⊢
          omega
        · intro x hx; exact ⟨x, hx, rfl⟩
      · cases h
    · cases h
  | almanac e =>
    simp only [take] at h
    split at h
    · rename_i x hx
      simp only [Option.some.injEq, Prod.mk.injEq] at h
      obtain ⟨rfl, rfl, rfl, rfl⟩ := h
      have hm := List.mem_of_find?_eq_some hx
      have hp := List.find?_some hx
      simp only [Bool.and_eq_true, beq_iff_eq] at hp
      refine ⟨rfl, (only_alm_execs s _).mono (by decide), ⟨{ x with taken := true }, ?_, rfl⟩, hp.2, ?_, _, rfl⟩
      · exact List.mem_map.2 ⟨x, hm, by rw [if_pos rfl]⟩
      · intro y hy
        obtain ⟨z, hz, rfl⟩ := List.mem_map.1 hy
        exact ⟨z, hz, by split <;> rfl⟩
    · cases h

theorem command_of_take {s s1 : State} {src : CmdSrc} {op r : Nat} {ref : CmdRef} {d : List Byte}
    (h : s.take src op = some (ref, d, r, s1)) (f : CmdRef → List Byte → Nat → State → State) :
    s.command src op f = match src with
      | .ring q => (f ref d r s1).settleRing q
      | .almanac _ => f ref d r s1 := by
  unfold command; rw [h]; cases src <;> rfl

theorem command_reg {s s1 : State} {src : CmdSrc} {op r : Nat} {ref : CmdRef} {d : List Byte}
    (h : s.take src op = some (ref, d, r, s1)) (f : CmdRef → List Byte → Nat → State → State) (a : Nat) :
    (s.command src op f).reg a = (f ref d r s1).reg a := by
  rw [command_of_take h f]
  cases src with
  | ring q => exact onlyRing_reg (settleRing_frame _ _) a
  | almanac _ => rfl

theorem take_reg {s s1 : State} {src : CmdSrc} {op r : Nat} {ref : CmdRef} {d : List Byte}
    (h : s.take src op = some (ref, d, r, s1)) (a : Nat) : s1.reg a = s.reg a := by
  simp only [reg, (take_spec h).1]

theorem only_command {s s1 : State} {src : CmdSrc} {op r : Nat} {ref : CmdRef} {d : List Byte} {ps qs : List Part}
    (h : s.take src op = some (ref, d, r, s1)) (f : CmdRef → List Byte → Nat → State → State)
    (k : Only ps s1 (f ref d r s1)) (h1 : ∀ p ∈ ps, p ∈ qs) (h2 : ∀ p ∈ [Part.rings, .firings], p ∈ qs) :
    Only qs s (s.command src op f) := by
  have h3 : Only qs s (f ref d r s1) := (take_spec h).2.1.then k h2 h1
  rw [command_of_take h f]
  cases src with
  | ring q => exact h3.trans ((settleRing_frame _ _).1.mono (fun p hp => h2 p (by simp_all)))
  | almanac _ => exact h3

/-- A command whose effect ends with its answer, and opens no slot, has been answered. -/
theorem command_answered {s s1 : State} {src : CmdSrc} {op r : Nat} {ref : CmdRef} {d : List Byte} {p : CplRec → Prop}
    (h : s.take src op = some (ref, d, r, s1)) (f : CmdRef → List Byte → Nat → State → State)
    (k : Answered (f ref d r s1) ref p) (hn : ∀ q, ((f ref d r s1).ring q).nextId = (s1.ring q).nextId) :
    Answered (s.command src op f) ref p := by
  rw [command_of_take h f]
  obtain ⟨_, _, ha, _, _, hs⟩ := take_spec h
  cases src with
  | ring q =>
    obtain ⟨rfl, id, rfl⟩ := hs
    exact answered_settleRing k (by rw [hn]; exact ha.2)
  | almanac _ => exact k

end State

end Sys2Proof.Machine
end

