-- ==== Sys2Proof/Laws/Events.lean ====
section
/-! SUPPORT. Raising an event (R489–R493): all that it can change, said once. -/

namespace Sys2Proof.Machine

namespace State

theorem signal_regs (s : State) (v : Nat) : (s.signal v).regs = s.regs := by
  unfold signal; split
  · rfl
  · split <;> rfl

theorem only_signal (s : State) (v : Nat) : Only eventParts s (s.signal v) := by
  unfold signal; split
  · exact (only_host_pba s _).mono (by decide)
  · split
    · exact .refl _ s
    · exact (only_out_msix s _).mono (by decide)

theorem only_showStore (s : State) : Only [.regs] s s.showStore := (only_set s _ _ _).trans (only_setFlag _ _ _ _)

theorem only_eventRecord (s : State) (e d : Nat) (t : Stamp) (n : Nat) (b : Bool) : Only eventParts s (s.eventRecord e d t n b) := by
  unfold eventRecord; dsimp only; split
  · exact (only_evt s _).then (only_showStore _) (by decide) (by decide)
  · exact .refl _ s

theorem eventRecord_reg (s : State) (e d : Nat) (t : Stamp) (n : Nat) (b : Bool) {a : Nat} (h : a ≠ Reg.EVT_STATUS) :
    (s.eventRecord e d t n b).reg a = s.reg a := by
  unfold eventRecord; dsimp only; split
  · simp only [showStore]
    rw [reg_setFlag_other _ _ _ h, reg_set_other _ _ _ h]; rfl
  · rfl

theorem only_eventIrq (s : State) (e : Nat) : Only eventParts s (s.eventIrq e) := by
  unfold eventIrq; dsimp only; split
  · split
    · exact (only_setFlag s _ _ _).then (only_signal _ _) (by decide) (fun _ h => h)
    · exact (only_setFlag s _ _ _).mono (by decide)
  · exact .refl _ s

theorem reg_signal (s : State) (v a : Nat) : (s.signal v).reg a = s.reg a := by simp only [reg, signal_regs]

theorem eventIrq_reg (s : State) (e : Nat) {a : Nat} (h : a ≠ Reg.EVT_SRC_CFG e) : (s.eventIrq e).reg a = s.reg a := by
  unfold eventIrq; dsimp only; split
  · split
    · rw [reg_signal, reg_setFlag_other _ _ _ h]
    · rw [reg_setFlag_other _ _ _ h]
  · rfl

/-- Raising an event changes registers, the event store, pending bits and messages only. -/
theorem only_raise (s : State) (e d : Nat) : Only eventParts s (s.raise e d) := by
  unfold raise; split
  · exact .refl _ s
  · split
    · exact (only_evt s _).then (only_showStore _) (by decide) (by decide)
    · exact (((only_count s _ _).mono (by decide)).trans (only_eventRecord _ _ _ _ _ _)).trans (only_eventIrq _ _)

/-- Of the registers, raising an event changes its counter, its configuration word and EVT_STATUS only. -/
theorem raise_reg (s : State) (e d : Nat) {a : Nat} (h : ¬ EventRegs e a) : (s.raise e d).reg a = s.reg a := by
  simp only [EventRegs, not_or] at h
  unfold raise; split
  · rfl
  · split
    · simp only [showStore]
      rw [reg_setFlag_other _ _ _ h.2.2, reg_set_other _ _ _ h.2.2]; rfl
    · rw [eventIrq_reg _ _ h.2.1, eventRecord_reg _ _ _ _ _ _ h.2.2, reg_count_other _ _ h.1]

/-- An occurrence that the island does not hold is counted once, saturating. -/
theorem raise_counts (s : State) (e d : Nat) (h1 : (eventClass e).isSome) (h2 : (s.sys.keptReset && islandEvent e) = false) :
    (s.raise e d).full (Reg.EVT_SRC_CNT e) = min (s.full (Reg.EVT_SRC_CNT e) + 1) (2 ^ 32 - 1) := by
  have h3 : Reg.EVT_SRC_CNT e ≠ Reg.EVT_STATUS := by simp only [Reg.EVT_SRC_CNT, Reg.EVT_STATUS]; omega
  have h4 : Reg.EVT_SRC_CNT e ≠ Reg.EVT_SRC_CFG e := by simp only [Reg.EVT_SRC_CNT, Reg.EVT_SRC_CFG]; omega
  unfold raise
  rw [if_neg (by cases h : eventClass e <;> simp_all), if_neg (by simp [h2])]
  simp only [full]
  rw [eventIrq_reg _ _ h4, eventRecord_reg _ _ _ _ _ _ h3]
  exact full_count_same s _ 1

theorem only_raiseIf (s : State) (c : Bool) (e d : Nat) : Only eventParts s (s.raiseIf c e d) := by
  unfold raiseIf; split
  · exact only_raise s e d
  · exact .refl _ s

theorem raiseIf_reg (s : State) (c : Bool) (e d : Nat) {a : Nat} (h : ¬ EventRegs e a) : (s.raiseIf c e d).reg a = s.reg a := by
  unfold raiseIf; split
  · exact raise_reg s e d h
  · rfl

end State

end Sys2Proof.Machine
end

