-- ==== Sys2Proof/Machine/Memory.lean ====
section
/-! DEFINITION. The canonical form of HBM's contents. -/

namespace Sys2Proof.Machine

/-- The listed bytes of HBM stand at strictly rising addresses, each once. A byte that is not listed reads as `Config.hbmByte` gives,
which nothing constrains (R388), so that no listed byte can be told to equal it. -/
def Memory.wf (m : List Host.Cell) : Bool := mapRising m

end Sys2Proof.Machine
end

