-- ==== Sys2Proof/Laws/Memory.lean ====
section
/-! SUPPORT. HBM as a sparse map: a byte written is read back, every other byte stays, and each operation that writes HBM keeps the
canonical form. -/

namespace Sys2Proof.Machine

namespace State

theorem hbmByte_hbmPut_same (s : State) (a : Nat) (b : Byte) : (s.hbmPut a b).hbmByte a = b := by
  simp only [hbmByte, hbmPut, mapFind_mapPut_same, Option.getD_some]

theorem hbmByte_hbmPut_other (s : State) {a c : Nat} (b : Byte) (h : c ≠ a) : (s.hbmPut a b).hbmByte c = s.hbmByte c := by
  simp only [hbmByte, hbmPut, mapFind_mapPut_other _ _ h]

theorem hbmByte_hbmWrite_outside (s : State) (bs : List Byte) (a c : Nat) (h : c < a ∨ a + bs.length ≤ c) :
    (s.hbmWrite a bs).hbmByte c = s.hbmByte c := by
  induction bs generalizing s a with
  | nil => rfl
  | cons b t ih =>
    rw [hbmWrite, ih _ _ (by simp only [List.length_cons] at h; omega),
      hbmByte_hbmPut_other _ _ (by simp only [List.length_cons] at h; omega)]

theorem hbmByte_hbmWrite_inside (s : State) (bs : List Byte) (a i : Nat) (h : i < bs.length) :
    (s.hbmWrite a bs).hbmByte (a + i) = bs.getD i 0 := by
  induction bs generalizing s a i with
  | nil => simp at h
  | cons b t ih =>
    cases i with
    | zero => rw [hbmWrite, hbmByte_hbmWrite_outside _ _ _ _ (.inl (by omega)), Nat.add_zero, hbmByte_hbmPut_same]; rfl
    | succ i =>
      rw [hbmWrite, show a + (i + 1) = a + 1 + i by omega, ih _ _ _ (by simpa using h)]; rfl

/-! ### The canonical form -/

theorem wf_hbmPut {s : State} (h : Memory.wf s.hbm) (a : Nat) (b : Byte) : Memory.wf (s.hbmPut a b).hbm :=
  mapPut_rising h a b

theorem wf_hbmWrite {s : State} (h : Memory.wf s.hbm) (a : Nat) (bs : List Byte) : Memory.wf (s.hbmWrite a bs).hbm := by
  induction bs generalizing s a with
  | nil => exact h
  | cons b t ih => exact ih (wf_hbmPut h a b) (a + 1)

/-! An event and the yield it can bring write no HBM. -/

theorem hbm_set (s : State) (a : Nat) (f : Fld) (v : Nat) : (s.set a f v).hbm = s.hbm := rfl
theorem hbm_wrN (s : State) (a v : Nat) : (s.wrN a v).hbm = s.hbm := rfl
theorem hbm_count (s : State) (a n : Nat) : (s.count a n).hbm = s.hbm := rfl
theorem hbm_pins (s : State) (x : PinSt) : ({ s with pins := x } : State).hbm = s.hbm := rfl

theorem hbm_signal (s : State) (v : Nat) : (s.signal v).hbm = s.hbm := by
  unfold signal; split <;> [rfl; (split <;> rfl)]

theorem hbm_eventRecord (s : State) (e d : Nat) (t : Stamp) (n : Nat) (b : Bool) : (s.eventRecord e d t n b).hbm = s.hbm := by
  unfold eventRecord; dsimp only; split <;> rfl

theorem hbm_eventIrq (s : State) (e : Nat) : (s.eventIrq e).hbm = s.hbm := by
  unfold eventIrq; dsimp only; split
  · split
    · rw [hbm_signal]; rfl
    · rfl
  · rfl

theorem hbm_raise (s : State) (e d : Nat) : (s.raise e d).hbm = s.hbm := by
  unfold raise; split
  · rfl
  · split
    · rfl
    · rw [hbm_eventIrq, hbm_eventRecord]; rfl

theorem hbm_emitFlit (s : State) (k ty vc seq : Nat) (p : List Byte) : (s.emitFlit k ty vc seq p).hbm = s.hbm := rfl

theorem hbm_pump (s : State) (k fuel : Nat) : (s.pump k fuel).hbm = s.hbm := by
  induction fuel generalizing s with
  | zero => rfl
  | succ n ih =>
    unfold pump; dsimp only; split
    · rfl
    · split
      · rfl
      · rw [ih]; rfl

theorem hbm_sendVc0 (s : State) (k : Nat) (p : List Byte) : (s.sendVc0 k p).hbm = s.hbm := by
  unfold sendVc0 linkRefuse pumpAll; split
  · rw [hbm_pump]; rfl
  · split
    · rfl
    · rw [hbm_raise]; rfl

theorem hbm_twinVc0 (s : State) (p : List Byte) : (s.twinVc0 p).hbm = s.hbm := by
  unfold twinVc0; split
  · exact hbm_sendVc0 _ _ _
  · rfl

theorem hbm_takeRole (s : State) (r : Nat) : (s.takeRole r).hbm = s.hbm := rfl

theorem hbm_yieldNow (s : State) (c : Nat) : (s.yieldNow c).hbm = s.hbm := by
  unfold yieldNow; dsimp only
  rw [hbm_takeRole, hbm_count, hbm_set, hbm_raise, hbm_twinVc0]

theorem hbm_selfFault (s : State) (c : Nat) : (s.selfFault c).hbm = s.hbm := by
  unfold selfFault; split
  · split
    · exact hbm_yieldNow s c
    · rw [hbm_raise, hbm_set]
  · rfl

theorem hbm_rmwPoison (s : State) (b p : Nat) : (s.rmwPoison b p).hbm = s.hbm := by
  unfold rmwPoison hbmUe; dsimp only
  rw [hbm_selfFault, hbm_raise, hbm_wrN, hbm_wrN, hbm_wrN, hbm_count, hbm_count]

theorem hbm_each {α : Type} (f : State → α → State) (hf : ∀ s x, (f s x).hbm = s.hbm) (l : List α) (s : State) :
    (s.each l f).hbm = s.hbm := by
  unfold each
  induction l generalizing s with
  | nil => rfl
  | cons x t ih => rw [List.foldl_cons, ih, hf]

theorem wf_each {α : Type} (f : State → α → State) (hf : ∀ s x, Memory.wf s.hbm → Memory.wf (f s x).hbm) (l : List α) (s : State)
    (h : Memory.wf s.hbm) : Memory.wf (s.each l f).hbm := by
  unfold each
  induction l generalizing s with
  | nil => exact h
  | cons x t ih => exact ih _ (hf _ _ h)

theorem hbm_queueWrite (s : State) (p : Nat) (q : Queued) : (s.queueWrite p q).hbm = s.hbm := by
  unfold queueWrite; dsimp only; split <;> rfl

theorem hbm_sendDone (s : State) (q : HbmPart) : (s.sendDone q).hbm = s.hbm := by
  unfold sendDone; dsimp only; split
  · rfl
  · exact hbm_queueWrite _ _ _

theorem hbm_cleanBursts (s : State) (l : List Nat) : (s.cleanBursts l).hbm = s.hbm := rfl

/-- All that a store by a block of the device does to the bytes of HBM: it writes its own. -/
theorem hbm_hbmStore (s : State) (port a : Nat) (bs : List Byte) : (s.hbmStore port a bs).hbm = (s.hbmWrite a bs).hbm := by
  unfold hbmStore; dsimp only
  rw [hbm_each _ hbm_sendDone, hbm_cleanBursts, hbm_each _ (fun s p => hbm_rmwPoison s p port)]

theorem wf_hbmStore {s : State} (h : Memory.wf s.hbm) (port a : Nat) (bs : List Byte) : Memory.wf (s.hbmStore port a bs).hbm := by
  rw [hbm_hbmStore]; exact wf_hbmWrite h a bs

theorem wf_strobeWrite {s : State} (h : Memory.wf s.hbm) (port a : Nat) (bs : List (Option Byte)) :
    Memory.wf (s.strobeWrite port a bs).hbm := by
  unfold strobeWrite; dsimp only
  rw [hbm_cleanBursts]
  show Memory.wf (State.hbm (State.each _ _ _))
  rw [hbm_each _ (fun s b => hbm_rmwPoison s b port)]
  refine wf_each _ (fun s x hs => ?_) _ _ h
  split
  · exact wf_hbmPut hs _ _
  · exact hs

/-- Memory after reset has the canonical form. -/
theorem wf_reset : Memory.wf State.reset.hbm := rfl

end State

end Sys2Proof.Machine
end

