-- ==== Sys2Proof/WellFormed.lean ====
section
/-! DEFINITION. Which operands the world outside the block can present: the checks that a command passes before it is a command of
the table. What a register, a descriptor or a message holds is checked by the command's own meaning. -/

namespace Sys2Proof

/-- A write of 1, 2, 4 or 8 bytes carries no more bits than its bytes (R18). Log: 191 (DESIGN CHOICE). -/
def wfWrite (size : Nat) (value : BitVec 64) : Bool := [1, 2, 4, 8].contains size && decide (value.toNat < 2 ^ (8 * size))

/-- An access of 1, 2, 4 or 8 bytes (R334). -/
def wfAccess : BarAccess → Bool
  | .write size value => wfWrite size value
  | .read size => [1, 2, 4, 8].contains size

/-- A block holds 32 bytes beside its header bit (R69). -/
def wfBlock (b : Block257) : Bool := decide (b.bytes.length = 32)

/-- A bank's report names one of the 64 cells and words of the tile (R174). -/
def wfReport (r : BankReport) : Bool := decide (r.cell < 64) && r.deltas.all (fun d => decide (d.1 < 4096))

/-- A frame holds its addresses and EtherType and no more than the largest frame (R307, R308). Log: 191 (DESIGN CHOICE). -/
def wfFrame (f : List Byte) : Bool := decide (14 ≤ f.length) && decide (f.length ≤ 9216)

/-- A request part lies in one 256-byte block of the HBM address space, and a write brings a strobe for every byte (R371–R373). -/
def wfPart (p : HbmPart) : Bool :=
  decide (1 ≤ p.len) && decide (p.addr % 256 + p.len ≤ 256) && decide (p.addr + p.len ≤ 216 * 2 ^ 30)
    && (!p.write || decide (p.data.length = p.len))

/-- A read meets errors in one of the eight bursts of a block, in the 34 symbols of the burst (R381, R383). -/
def wfErrors (e : ReadErrors) : Bool := decide (e.burst < 8) && decide (e.first ≤ 34) && decide (e.second ≤ 34)

/-- A matrix request is a burst of 1 to 4 beats within one 256-byte block, or one 32-bit register access; a write brings its data (R389). -/
def wfReq (r : MatrixReq) : Bool :=
  decide (1 ≤ r.beats.val)
    && (if r.space = 2 then decide (r.addr % 4 = 0) && (!r.write || decide (r.data.length = 4))
        else decide (r.addr % 256 + 64 * r.beats.val ≤ 256) && (!r.write || decide (r.data.length = 64 * r.beats.val)))

/-- A command whose operands the world outside can present. -/
def Instr.wf : Instr → Bool
  | .registerWrite _ _ size value => wfWrite size value
  | .msixTableWrite _ _ access => wfAccess access
  | .doorbell _ _ access => wfAccess access
  | .cqDoorbell _ _ access => wfAccess access
  | .cqArm _ _ w => wfWrite w.size w.value
  | .configImageChecked image _ _ _ => decide (image.length ≤ 16 * 2 ^ 20)
  | .hbmTrainingEnd results => decide (results.length = 6)
  | .alignmentMarker _ m => decide (m.bytes.length = 32)
  | .fastExit _ amp _ => decide (amp ≤ 1000)
  | .ingestPacket _ blocks _ => blocks.all wfBlock
  | .dataFlit _ flit => decide (flit.length = 256)
  | .nakFlit _ flit => decide (flit.length = 256)
  | .nullFlit _ flit => decide (flit.length = 256)
  | .initFlit _ flit => decide (flit.length = 256)
  | .bankSpill _ _ bank _ _ => wfReport bank
  | .recomputeEnd _ _ banks _ _ => banks.all (fun e => wfReport e.2.2)
  | .granarySpill _ tile poison badCounts => decide (tile < 8256) && poison.all (fun i => decide (i < 8192)) && badCounts.all (fun i => decide (i < 8192))
  | .egressTransmit _ _ frames => frames.all wfFrame
  | .ethFrameReceive _ frame _ => wfFrame frame
  | .mgmtFrameReceive frame _ _ => wfFrame frame
  | .mgmtFrameTransmit frame _ => wfFrame frame
  | .hostReadCompletion tag _ => decide (tag < 768)
  | .completionTimeout tag => decide (tag < 768)
  | .hbmCommandSlot _ _ parts => parts.all wfPart
  | .hbmReadData _ _ errors => wfErrors errors
  | .scrubRead errors => wfErrors errors
  | .matrixGrant _ arrivals _ => arrivals.all wfReq
  | .monitorSecond measured => decide (measured.length = 6)
  | .avsPeriod slack => decide (slack.length = 4)
  | .dbgRequest challenge => decide (challenge.length = 8)
  | .rcRead .. | .harrowDcReRead | .weedProbeSkRead | .timeNowNsRead | .ethStrSeqLoRead .. | .refBuildoutLoRead | .adcQueueEntryRead
  | .commit | .stop | .glbCtlReset | .glbRemapSwap | .glbBootGo | .hostImageReadEnd .. | .islandReset | .pwrOkRise .. | .pwrOkFall
  | .perstNAssert | .perstNRelease | .pcieHotReset | .pcieLinkDown | .fuseStageEnd .. | .firmwareStarted .. | .firmwareTimeout
  | .lanesStageEnd .. | .watchdogExpiry | .loClkLoss | .loClkReturn | .adaptationUpdate .. | .laneEqFreeze .. | .cdrLockLoss ..
  | .adaptDone .. | .adaptTimeout .. | .searchTimeout .. | .eidle .. | .lossOfSignal .. | .fastExitMarkerTimeout .. | .txRampEnd ..
  | .laneEyeStart .. | .eyeScanDone .. | .replayTimeout .. | .nakRepeat .. | .retrainTimeout .. | .failedRetry .. | .sheafRelease ..
  | .waitExpiry .. | .ingestMask .. | .ingestGain .. | .harrowReset .. | .harrowDc .. | .harrowGain .. | .weedCtl ..
  | .turningWrite .. | .passDispatch | .operandBusTransfer .. | .recomputeStart | .recomputeDeadline .. | .governorStage
  | .governorHoldExpiry | .corrRetire .. | .corrPlaceFreeze .. | .harvestSegment .. | .holdExpiry .. | .granStart .. | .granStop ..
  | .beamLoad .. | .beamSwap .. | .beamPeakSet .. | .partialBeamFlit .. | .partialWaitExpiry .. | .exportRecordTimeout
  | .gleanFreeze .. | .gleanResume .. | .gleanDump .. | .dumpEnd .. | .gleanLenShadowWrite .. | .ethLinkDown .. | .ethLinkUp ..
  | .ethStreamSet .. | .descriptorFetch .. | .copy .. | .link .. | .nop .. | .buffer .. | .dmaBurst .. | .completionRecordWrite ..
  | .deliveryMessage .. | .cqCoalesceTimeout .. | .dmaChAbort .. | .dmaChResume .. | .ringEnable .. | .ringPause .. | .ringResume ..
  | .ringReset .. | .hbmParityError .. | .refreshDue .. | .hbmTempRead .. | .matrixPromotion .. | .xbarMrst .. | .dpllUpdate ..
  | .monitorWindowEnd | .referenceAbsent .. | .buildoutComplete .. | .stageDwellEnd | .holdoverExpired | .ppsOutEdge | .alignmentPulse
  | .refSelect .. | .refSet .. | .refBw .. | .refAlign .. | .refAlignTimeout | .refOutSet .. | .refCtlRun .. | .refCtlFreeze ..
  | .timeBaseTick | .ppsEdge .. | .timeSet .. | .timeStep .. | .timeOffset .. | .timeServo .. | .servoCoast | .timeCtlFreeze ..
  | .timeEvtEdge .. | .pinPulseEnd .. | .almSet .. | .almCancel .. | .almanacFiring | .adcSingleStart .. | .conversionEnd ..
  | .guardConversionDue | .regLapDue | .adcInject .. | .adcBatchTimeout | .avsTransactionEnd .. | .avsCfgFreeze .. | .droopDetect ..
  | .droopRecover .. | .dacSlewStep .. | .ldacNFall | .dacCtlLoad | .dacClearNAssert | .dacClearNRelease | .dacSet .. | .dacPark ..
  | .dacRange .. | .eventQueueFlush .. | .evtSrcArm .. | .evtRaise .. | .evtEnable .. | .pcieCreditStall | .pcieFatalError ..
  | .crcScan .. | .weaveHello .. | .delayMeasure .. | .delayReq .. | .delayResp .. | .pulseMarkDue | .pulseMark .. | .forwardedUnit ..
  | .maskUpdate .. | .weederMessage .. | .weaveStatusDue | .weaveStatusMessage .. | .granRelay .. | .flagWaitTimeout ..
  | .decideWaitTimeout .. | .heartbeatDue | .heartbeat | .progressDue | .progress | .yield | .taken | .reclaim | .releaseRecord
  | .commandPoint | .stateBlock | .configUpdateBlock | .configUpdateRetry | .twinYieldNLow | .peerHealthWave .. | .yieldTimeout
  | .peerLost .. | .soloTimeout | .ingestLossTimeout .. | .twinYield .. | .fuseProg .. | .fuseProgEnd .. | .dbgResponse ..
  | .dbgResponseChecked .. | .commitChecksEnd | .pcieLinkUp .. | .pcieConfigWrite .. | .pcieAerError .. | .mgmtLinkDown | .mgmtLinkUp
  | .firmwareMessage .. => true

end Sys2Proof
end

