-- ==== Sys2Proof/Tests/Slice0.lean ====
section
/-! SUPPORT. Tests on small states: the smoke test of the operand checks, values that the spec's worked examples and layouts give,
and, for each statement with hypotheses, states and operands that meet them. -/

namespace Sys2Proof.Tests

set_option Elab.async false

open Sys2Proof.Machine Sys2Proof.Machine.State

/-- A state with some register fields set. -/
def put (s : State) (l : List (Nat × Fld × Nat)) : State := l.foldl (fun s e => s.set e.1 e.2.1 e.2.2) s

/-- The state that a command leaves. -/
def after (i : Instr) (s : State) : State :=
  match exec i s with
  | .next t => t
  | _ => s

/-- A device that is READY and RUNNING. -/
def live : State :=
  put {} [(Reg.GLB_STATUS, Fld.GLB_STATUS_STAGE, 6), (Reg.GLB_STATUS, Fld.GLB_STATUS_STATE, 2), (Reg.GLB_STATUS, Fld.GLB_STATUS_READY, 1)]

/-- A descriptor of an opcode, with fields at byte offsets: offset, bytes, value. -/
def desc (op : Nat) (l : List (Nat × Nat × Nat)) : List Byte :=
  l.foldl (fun d e => d.take e.1 ++ le e.2.1 e.2.2 ++ d.drop (e.1 + e.2.1)) ([BitVec.ofNat 8 op, 0, 2] ++ zeros 61)

/-- A state with a descriptor next on the ACTIVE submission ring 1. -/
def posted (s : State) (d : List Byte) : State :=
  (put s [(Reg.RING_STATE 1, Fld.RING_STATE_STATE, 1)]).setRing 1 { queue := [⟨d, 0, 1, false⟩] }

/-- The state in which the block acts on that descriptor. -/
def begun (s : State) (d : List Byte) : State := ((posted s d).openSlot 1 ⟨d, 0, 1, false⟩).2

/-- A descriptor posted is handed over in the state as it stands, and taken. -/
def handedOk (s : State) (d : List Byte) : Bool :=
  decide ((posted s d).handed (.ring 1) (descOpcode d) = some (posted s d))
    && decide ((posted s d).take (.ring 1) (descOpcode d) = some (.slot 1 0, d, 1, begun s d))
    && descClean (descOpcode d) d && (posted s d).running

theorem handed_of {s : State} {d : List Byte} (h : handedOk s d = true) :
    Handed (posted s d) (.ring 1) (descOpcode d) (posted s d) (begun s d) (.slot 1 0) d 1 := by
  simp only [handedOk, Bool.and_eq_true, decide_eq_true_eq] at h
  exact ⟨⟨h.1.1.1, h.1.1.2, h.1.2⟩, h.2⟩

/-! ### Ill-formed commands are refused by the operand checks -/

theorem test_wf_write : Instr.wf (.registerWrite .host 0 3 0) = false ∧ Instr.wf (.registerWrite .host 0 1 256) = false
    ∧ Instr.wf (.doorbell 0 5 (.write 3 0)) = false ∧ Instr.wf (.cqDoorbell 0 2 (.read 16)) = false ∧ Instr.wf (.msixTableWrite 0 0 (.read 0)) = false
    ∧ Instr.wf (.cqArm 0 0 ⟨16, 0⟩) = false ∧ Instr.wf (.registerWrite .host 0 4 0xFFFFFFFF) = true := by decide
theorem test_wf_lists : Instr.wf (.hbmTrainingEnd []) = false ∧ Instr.wf (.monitorSecond [none]) = false ∧ Instr.wf (.avsPeriod []) = false
    ∧ Instr.wf (.dbgRequest []) = false := by decide
theorem test_wf_marker : Instr.wf (.alignmentMarker 0 ⟨zeros 31, true, 0, 0, 0, false, false⟩) = false := by decide
theorem test_wf_fastExit : Instr.wf (.fastExit 0 1001 false) = false := by decide
theorem test_wf_packet : Instr.wf (.ingestPacket 0 [⟨true, zeros 33, false⟩] 0) = false := by decide
theorem test_wf_flits : Instr.wf (.dataFlit 0 []) = false ∧ Instr.wf (.nakFlit 0 [0]) = false ∧ Instr.wf (.nullFlit 0 []) = false
    ∧ Instr.wf (.initFlit 0 []) = false := by decide
theorem test_wf_spills : Instr.wf (.bankSpill 0 0 { cell := 64 } {} {}) = false ∧ Instr.wf (.recomputeEnd 0 0 [(0, 0, { deltas := [(4096, 1, 0)] })] [] []) = false
    ∧ Instr.wf (.granarySpill 0 0 [8192] []) = false := by decide
theorem test_wf_frames : Instr.wf (.ethFrameReceive 0 [] true) = false ∧ Instr.wf (.mgmtFrameReceive [] true 0) = false
    ∧ Instr.wf (.mgmtFrameTransmit [] 0) = false ∧ Instr.wf (.egressTransmit 0 0 [[]]) = false := by decide
theorem test_wf_tags : Instr.wf (.hostReadCompletion 768 .bus) = false ∧ Instr.wf (.completionTimeout 768) = false := by decide
theorem test_wf_memory : Instr.wf (.hbmCommandSlot 0 0 [⟨0, false, 255, 2, []⟩]) = false ∧ Instr.wf (.hbmReadData 0 0 { burst := 8 }) = false
    ∧ Instr.wf (.scrubRead { first := 35 }) = false ∧ Instr.wf (.matrixGrant 0 [⟨0, 0, 0, 0, true, 1, []⟩] .clean) = false := by decide

/-! ### General, lanes and links -/

/-- Lane 0 in a state, enabled. -/
def laneIn (n : Nat) : State := put live [(Reg.LANE_STATUS 0, Fld.LANE_STATUS_STATE, n), (Reg.LANE_CFG 0, Fld.LANE_CFG_RX_EN, 1)]

/-- A link of one lane in a state, with a profile. -/
def linkIn (prof st : Nat) (x : LinkSt := {}) : State :=
  let s := put (laneIn 5) [(Reg.LANE_LINK_CFG 0, Fld.LANE_LINK_CFG_ENABLE, 1), (Reg.LANE_LINK_CFG 0, Fld.LANE_LINK_CFG_PROFILE, prof),
    (Reg.LANE_LINK_CFG 0, Fld.LANE_LINK_CFG_WIDTH, 1), (Reg.LANE_LINK_CFG 0, Fld.LANE_LINK_CFG_LINK_ID, 0xA01),
    (Reg.LANE_LINK_STATUS 0, Fld.LANE_LINK_STATUS_STATE, st)]
  s.setLink 0 { x with cfg := s.reg (Reg.LANE_LINK_CFG 0), timer := s.reg (Reg.LANE_LINK_TIMER 0) }

theorem test_step : (match step { live with pending := [.commit, .stop] } with
    | .next t => t.pending | _ => []) = [.stop] := by decide +kernel
theorem test_decode : decodeTableWord 8 0 = none := rfl
theorem wit_QueueAndFusesAreKept : exec .stop live = .next (after .stop live) := rfl
theorem wit_EveryStepKeepsCanonicalForm : Memory.wf live.hbm = true ∧ mapRising live.regs = true
    ∧ (∀ e ∈ live.regs, e.2 ≠ regReset e.1) := by decide +kernel
/-- A device that is READY and IDLE. -/
def idleDev : State := put live [(Reg.GLB_STATUS, Fld.GLB_STATUS_STATE, 1)]

theorem wit_RegisterWriteSetsItsFields : Reg.INGEST_CTL % 4 = 0 ∧ idleDev.sys.checking = false
    ∧ (match blockOf Reg.INGEST_CTL, regAt Reg.INGEST_CTL with
      | some b, some d => idleDev.blockServed b.index && decide (idleDev.gate .host b.index Reg.INGEST_CTL d = .passes)
          && State.plainFields Reg.INGEST_CTL d && decide (d.base ≠ Reg.DBG_RESPONSE 0) && decide (d.base ≠ Reg.EVT_SRC_CFG 0)
          && decide (d.base ≠ Reg.EVT_Q_CFG 0) && decide (d.fields ≠ [])
      | _, _ => false) = true := by decide +kernel
theorem wit_RegisterWritesDiscardedAndSplit : blockOf 0x3FFFFFC = none ∧ (blockOf Reg.INGEST_CTL).isSome
    ∧ ({ idleDev with sys := { checking := true } } : State).sys.checking
    ∧ (match blockOf Reg.INGEST_CTL with
      | some b => decide (({} : State).blockServed b.index = false)
      | none => false) = true := by decide +kernel
theorem wit_ReadsReturnAndClear : (match blockOf (Reg.INGEST_COUNT 8 / 4 * 4), regAt (Reg.INGEST_COUNT 8 / 4 * 4) with
    | some b, some d => idleDev.blockServed b.index && d.fields.any (fun f => f.acc == .rc)
    | _, _ => false) = true := by decide +kernel
theorem test_rc_read : (after (.rcRead ⟨Reg.INGEST_COUNT 8, by decide +kernel⟩) (idleDev.count (Reg.INGEST_COUNT 8) 5)).readData = 5
    ∧ (after (.rcRead ⟨Reg.INGEST_COUNT 8, by decide +kernel⟩) (idleDev.count (Reg.INGEST_COUNT 8) 5)).full (Reg.INGEST_COUNT 8) = 0 := by
  decide +kernel

theorem wit_LaneAdaptationAndFreeze : (laneIn 2).laneState 0 = 2 ∧ (laneIn 3).laneState 0 = 3 ∧ 2 ≤ (laneIn 5).laneState 0 ∧ (laneIn 2).served
    ∧ (laneIn 2).flag (Reg.LANE_CFG 0) Fld.LANE_CFG_RX_EN := by decide +kernel
/-- The marker of a link's only lane with a COUNT; the same with every bit of PATTERN wrong; the same on an inverted pair. -/
def markerOf (count : Nat) (f : Byte → Byte := id) : MarkerView := ⟨(markerBytes 0 1 0xA01 count).map f, true, 0, 2, 1, false, false⟩
theorem wit_MarkersAndLaneLoss : (linkIn 1 4).laneLink 0 = some 0 ∧ (linkIn 1 4).laneState 0 = 5 ∧ (linkIn 1 4).linkState 0 = 4
    ∧ (linkIn 0 4).linkBidir 0 = false ∧ (linkIn 1 4).linkBidir 0 = true ∧ (linkIn 1 4).flag (Reg.LANE_CFG 0) Fld.LANE_CFG_RX_EN
    ∧ pcsLane 79 ∧ pcsLane 96 ∧ pcsLane 80 = false ∧ pcsLane 0 = false := by decide +kernel
theorem wit_MarkersAndLaneLoss_marker : markerErrors (markerRead (markerOf 7).bytes) ≤ 3 ∧ 3 < markerErrors (markerOf 7 (fun b => ~~~b)).bytes
    ∧ markerErrors (markerRead (markerOf 7 (· ^^^ 0xAA)).bytes) ≤ 3 ∧ markerImage (markerOf 7 (· ^^^ 0xAA)).bytes ∧ markerImage (markerOf 7).bytes = false
    ∧ (((laneIn 3).setLane 0 { first := some false }).lane 0).first = some (markerImage (markerOf 7).bytes)
    ∧ ((linkIn 1 4).setLane 0 { misses := 2 }).lane 0 = { misses := 2 } := by decide +kernel
/-- R58 and R71: a second good marker one period later locks the lane, and its fields are read. -/
theorem test_marker_locks : (after (.alignmentMarker 0 (markerOf 7)) ((laneIn 3).setLane 0 { first := some false })).laneState 0 = 4
    ∧ (markerPos (markerOf 7).bytes, markerWidth (markerOf 7).bytes, markerId (markerOf 7).bytes, markerCount (markerOf 7).bytes) = (0, 1, 0xA01, 7) := by
  decide +kernel
theorem wit_ElectricalIdleAndEyeScan : (linkIn 1 4).linkOn 0 ∧ (linkIn 1 4).linkLanes 0 = [0]
    ∧ ((put (linkIn 1 4) [(Reg.LANE_STATUS 0, Fld.LANE_STATUS_STATE, 1)]).laneState 0 = 1)
    ∧ (((linkIn 1 4).setLane 0 { fast := true }).lane 0).fast ∧ (((laneIn 5).setLane 0 { scanning := true }).lane 0).scanning
    ∧ ((laneIn 5).lane 0).scanning = false ∧ (laneIn 5).served ∧ 2 ≤ (laneIn 5).laneState 0 := by decide +kernel
/-- R67: the marker that ends a ramp is verified by the COUNT that continues the lane's. -/
theorem test_fast_marker : (after (.alignmentMarker 0 (markerOf 8)) (put ((linkIn 0 0).setLane 0 { fast := true, count := 7 })
      [(Reg.LANE_STATUS 0, Fld.LANE_STATUS_STATE, 1), (Reg.LANE_LINK_STATUS 0, Fld.LANE_LINK_STATUS_PEER_LINK_ID, 0xA01)])).linkState 0 = 4
    ∧ (after (.alignmentMarker 0 (markerOf 9)) (put ((linkIn 0 0).setLane 0 { fast := true, count := 7 })
      [(Reg.LANE_STATUS 0, Fld.LANE_STATUS_STATE, 1), (Reg.LANE_LINK_STATUS 0, Fld.LANE_LINK_STATUS_PEER_LINK_ID, 0xA01)])).linkState 0 = 1 := by
  decide +kernel

theorem wit_FlitReception_data : (linkIn 1 4).flitHeader 0 1 4 (flitBytes 1 2 0 0 0 0 [7]) = some 9
    ∧ 9 / 16 % 1024 = (((linkIn 1 4).link 0).lastAcc + 1) % 1024 := by decide +kernel
theorem wit_FlitReception_bad : (linkIn 1 4).flitHeader 0 1 4 (zeros 256) = none ∧ (linkIn 1 4).linkOn 0 ∧ (linkIn 1 4).linkBidir 0
    ∧ (linkIn 1 4).linkState 0 = 4 := by decide +kernel
theorem wit_FlitReception_null : (linkIn 1 4).flitHeader 0 0 4 (flitBytes 0 0 0 5 1 3 []) = some (5 * 2 ^ 14 + 2 ^ 24 + 3 * 2 ^ 26)
    ∧ ((linkIn 1 4).link 0).vc0 = [] ∧ (∀ q ∈ ((linkIn 1 4).link 0).txq, q = []) ∧ ((linkIn 1 4).link 0).resend = [] := by
  decide +kernel
theorem wit_FlitReception_nak : (linkIn 1 4 { replay := [(6, 1, [])] }).flitHeader 0 2 4 (flitBytes 2 0 0 5 0 0 []) = some (2 + 5 * 2 ^ 14)
    ∧ (((linkIn 1 4 { replay := [(6, 1, [])] }).takeHeader 0 (2 + 5 * 2 ^ 14)).link 0).replay = [(6, 1, [])] := by decide +kernel
theorem wit_FlitReception_init : (linkIn 1 3).flitHeader 0 3 3 (flitBytes 3 0 0 0 0 0 (le 2 1 ++ le 2 0xA01)) = some 3 := by decide +kernel
theorem test_data_flit_accepted :
    ((after (.dataFlit 0 (flitBytes 1 2 0 0 0 0 [0xA0])) (linkIn 1 4)).link 0).lastAcc = 0 := by decide +kernel
/-- R79: a replay of two flits sends the first now and the second in the next flit time. -/
theorem test_replay : (after (.replayTimeout 0) (linkIn 1 4 { replay := [(6, 1, [1]), (7, 1, [2])] })).out.flits.map (fun e => byteAt e.2 4) = [1]
    ∧ ((after (.replayTimeout 0) (linkIn 1 4 { replay := [(6, 1, [1]), (7, 1, [2])] })).flitSlot 0).out.flits.map (fun e => byteAt e.2 4) = [1, 2] := by
  decide +kernel
theorem wit_LinkRetryTimers : ((linkIn 1 4 { replay := [(6, 1, [])], nakked := true }).link 0).nakked
    ∧ ((linkIn 1 5 { resume := true }).link 0).resume ∧ (linkIn 1 5 { resume := true }).linkState 0 = 5
    ∧ (linkIn 1 4).linkState 0 = 4 ∧ (linkIn 1 4).linkBidir 0 ∧ (linkIn 1 6 { failed := true }).linkOn 0
    ∧ ((linkIn 1 6 { failed := true }).link 0).failed ∧ (linkIn 1 6 { failed := true }).linkState 0 ≠ 4 := by decide +kernel
/-- R80: a fresh failure forgets the resume; the retry brings the lanes up again. -/
theorem test_failed_retry : (after (.retrainTimeout 0) (linkIn 1 5 { resume := true })).linkState 0 = 6
    ∧ (after (.failedRetry 0) (linkIn 1 1 { failed := true })).linkState 0 = 1 := by decide +kernel

/-! ### Ingest, harrow, weeder and turning buffer -/

/-- A running device with 8 inputs, 2 channels and one 4+4 stream of them on ingest link 0. -/
def array : State :=
  put (linkIn 0 4) [(Reg.INGEST_GEOM, Fld.INGEST_GEOM_N, 8), (Reg.INGEST_GEOM, Fld.INGEST_GEOM_C, 2), (Reg.INGEST_CTL, Fld.INGEST_CTL_ENABLE, 1),
    (Reg.STREAM_CFG 3, Fld.STREAM_CFG_ENABLE, 1), (Reg.STREAM_CFG 3, Fld.STREAM_CFG_LINK, 0), (Reg.STREAM_CFG 3, Fld.STREAM_CFG_SS, 1),
    (Reg.STREAM_INPUTS 3, Fld.STREAM_INPUTS_COUNT, 8), (Reg.STREAM_CHANNELS 3, Fld.STREAM_CHANNELS_COUNT, 2),
    (Reg.STREAM_SLICE 3, Fld.STREAM_SLICE_SI, 8), (Reg.STREAM_SLICE 3, Fld.STREAM_SLICE_SC, 1)]

/-- A packet of channel 1, sheaf index 5, with 8 samples. -/
def packetBytes : List Byte :=
  le 1 3 ++ le 1 1 ++ le 2 0 ++ le 2 1 ++ le 2 0 ++ le 7 5 ++ zeros 1 ++ le 4 8 ++ zeros 12 ++ [0x12, 0x34, 0x56, 0x78, 0x9A, 0xBC, 0xDE, 0xF0]
/-- A packet of two data blocks, framed by SOP and EOP. -/
def framed (p : List Byte) (crc : Nat) : List Block257 :=
  [⟨false, 0x2D :: zeros 31, false⟩, ⟨true, p.take 32, false⟩, ⟨true, p.drop 32 ++ zeros 24, false⟩,
    ⟨false, 0x4B :: le 1 8 ++ le 2 2 ++ le 4 crc ++ zeros 24, false⟩]
def packetOk : List Block257 := framed packetBytes (crc32c packetBytes)
def bytesFrom (stream : Nat) : List Byte := le 1 stream ++ packetBytes.drop 1

theorem wit_IngestPackets_framing : byteAt (0x2D :: zeros 31) 0 = 0x2D ∧ byteAt (0x4B :: zeros 31) 0 = 0x4B ∧ (linkIn 0 1).linkState 0 ≠ 4
    ∧ array.linkOn 0 ∧ array.linkBidir 0 = false ∧ array.linkState 0 = 4 ∧ (frameBlocks (framed packetBytes 0)).packets = []
    ∧ (frameBlocks (framed packetBytes 0)).drops = [1] ∧ (frameBlocks (packetOk.take 3)).packets = [] := by decide +kernel
/-- R73 and R74: the packet is passed on whole; a data block outside a packet drops one, and a control code of no meaning counts alone. -/
theorem test_framing : (frameBlocks packetOk).packets = [packetBytes] ∧ (frameBlocks packetOk).drops = []
    ∧ (frameBlocks (packetOk.drop 1)).drops = [0] ∧ (frameBlocks [⟨false, 0x77 :: zeros 31, false⟩]).ctrlBad = 1
    ∧ (frameBlocks (packetOk.map (fun x => { x with bad := true }))).drops = [2] := by decide +kernel
theorem wit_IngestPackets_reject : array.packetCause 0 (bytesFrom 4) = some 0
    ∧ (frameBlocks (framed (bytesFrom 4) (crc32c (bytesFrom 4)))).packets = [bytesFrom 4]
    ∧ (frameBlocks (framed (bytesFrom 4) (crc32c (bytesFrom 4)))).drops = [] ∧ array.pendingBytes < array.storeRoom ∧ array.running
    ∧ array.flag Reg.INGEST_CTL Fld.INGEST_CTL_ENABLE := by decide +kernel
theorem wit_IngestPackets_accept : array.packetCause 0 packetBytes = none ∧ array.running ∧ array.flag Reg.INGEST_CTL Fld.INGEST_CTL_ENABLE
    ∧ array.pendingBytes + State.declared (array.streamDef 3) < array.storeRoom ∧ array.pairFate 1 5 3 0 8 = .stored ∧ array.mode = 0
    ∧ array.linkState 0 = 4 ∧ (ingestHdr packetBytes).stream = 3 := by
  decide +kernel
/-- The state with that packet stored. -/
def stored : State := after (.ingestPacket 0 packetOk 0) array
theorem test_packet_samples : (stored.slicesOf 1 5).map (fun x => x.samples.take 2) = [[(1, 2), (3, 4)]] := by decide +kernel
theorem test_packet_dup : (after (.ingestPacket 0 packetOk 0) stored).full (Reg.INGEST_COUNT 9) = 1 := by decide +kernel

/-- Channel 1 has come to sheaf index 5. -/
def due5 : State := { stored with ingest := { stored.ingest with next := [(1, 5)] } }
theorem wit_Releases : due5.mayRelease 1 ∧ due5.isOrdered 1 ∧ due5.pairWhole 1 5 ∧ due5.nextIndex 1 = 5 ∧ due5.slicesOf 1 5 ≠ []
    ∧ due5.pairWhole 0 0 = false ∧ due5.ingest.changes = [] ∧ due5.standby = false ∧ array.slicesOf 0 0 = [] ∧ array.ingest.top ≤ 0
    ∧ array.mayRelease 0 := by decide +kernel
theorem test_release : (after (.sheafRelease 1 0) due5).nextIndex 1 = 6 ∧ (after (.waitExpiry 1 0) due5).slicesOf 1 5 = [] := by decide +kernel

theorem wit_SheafContentsAndRequantisation : (1 < array.cAll ∧ 7 < array.nHeld) ∧ ∀ x ∈ stored.slicesOf 1 5, x.flags = 0 ∧ x.valid = [] := by decide +kernel
theorem test_requant : (requant 0x1000 false (-93)).1 = -6 ∧ (requant 0x1000 true 127) = (7, 1) ∧ (requant 0x1000 false (-128)).1 = -8 := by
  decide +kernel

/-- A keyed table command of one entry on input 2, at sheaf index 9. -/
def keyedDesc (op count : Nat) : List Byte := desc op [(16, 7, 9), (24, 8, 0x1000), (32, 4, count)]
/-- The array with ring 1's host window open. -/
def windowed : State := put array [(Reg.RING_HWIN_PAGES 1, ⟨0, 32⟩, 16)]
theorem wit_KeyedMaskAndGainChanges : handedOk windowed (keyedDesc 0x10 1) ∧ handedOk windowed (keyedDesc 0x11 1) ∧ handedOk windowed (keyedDesc 0x1A 1)
    ∧ handedOk windowed (keyedDesc 0x10 0) ∧ (posted windowed (keyedDesc 0x10 1)).ingest.changes = []
    ∧ (posted windowed (keyedDesc 0x10 1)).changeUnits (.mask 0) ≠ [] ∧ (posted windowed (keyedDesc 0x11 1)).changeUnits .gain ≠ []
    ∧ descK (keyedDesc 0x10 1) ≠ emptyKey ∧ descCount (keyedDesc 0x10 1) = 1 := by decide +kernel
theorem wit_KeyedMaskAndGainChanges_table :
    (begun windowed (keyedDesc 0x10 1)).table 1 (keyedDesc 0x10 1) 4 (.data (le 4 0x8002)) = .ok (le 4 0x8002) := by decide +kernel

/-- The array with zoom slot 0 of 16 fine channels on coarse channel 1, and the weeder's trackers loaded. -/
def zoomed : State :=
  let s := put array [(Reg.HARROW_CFG, Fld.HARROW_CFG_ENABLE, 1), (Reg.HARROW_CFG, Fld.HARROW_CFG_LOG2M, 4),
    (Reg.HARROW_ZOOM 0, Fld.HARROW_ZOOM_ENABLE, 1), (Reg.HARROW_ZOOM 0, Fld.HARROW_ZOOM_COARSE, 1)]
  { s with weed := { init := some {} } }
/-- HARROW_RESET and HARROW_DC of slot 0 at index 5; an action that does not exist. -/
def slotDesc (op act value : Nat) : List Byte := desc op [(16, 7, 5), (36, 1, act), (37, 1, value), (40, 8, 1)]

theorem wit_HarrowSlotCommandsAndBlocker : handedOk zoomed (slotDesc 0x18 0 0) ∧ handedOk zoomed (slotDesc 0x19 2 8) ∧ handedOk zoomed (slotDesc 0x19 3 0)
    ∧ handedOk zoomed (slotDesc 0x19 2 21) ∧ zoomed.zoomSlots.filter (bitAt 1) = [0] ∧ zoomed.isReady
    ∧ (dcStep true false 8 (-128) (2 ^ 27 - 1) true).2 < 2 ^ 27 := by decide +kernel
theorem test_harrow_reset_late :
    ((after (.harrowReset (.ring 1)) (posted { zoomed with ingest := { next := [(1, 20)] } } (slotDesc 0x18 0 0))).harrow.jobs.map
      (fun j => (j.at_, j.late))) = [([(0, 32)], true)] := by decide +kernel

/-- WEED_CTL of channels 0 and 1 from index 9, of no channel, and of too many. -/
def weedDesc (first n : Nat) : List Byte := desc 0x20 [(16, 7, 9), (36, 2, first), (38, 2, n)]
/-- The array with a block of channel 0 that waits for a partner. -/
def silent : State := { array with weed := { blocks := [{ chan := 0, block := 1, first := 64, frozen := false, chanFlag := false, sheafs := [], inputs := List.replicate 8 true, valid := [], out := [], m0 := 0, dev0 := 0, pm0 := 0, heard := [] }] } }
theorem wit_WeederCommandsAndProbe : handedOk array (weedDesc 0 2) ∧ handedOk array (weedDesc 0 0) ∧ handedOk array (weedDesc 4095 2)
    ∧ ((List.range 2).map (· + 0)).filter array.isCorr = [0, 1] ∧ zoomed.isReady ∧ zoomed.weed.init.isSome ∧ (zoomed.weedChan 0).m < 65536
    ∧ (zoomed.weedChan 0).dev < 65536 ∧ (zoomed.weedChan 0).pm < 2 ^ 32
    ∧ (silent.weed.blocks.find? (fun x => x.chan == 0)).isSome ∧ array.weed.blocks = [] ∧ silent.nHeld % 8 = 0 ∧ silent.nDirect = 8 ∧ silent.directAt + silent.nDirect ≤ silent.nHeld := by
  decide +kernel
theorem test_silent_partner : bitAt ((after (.flagWaitTimeout 0) silent).hbmByte (silent.planeAddr 0 1 + 1)).toNat 0 = true := by decide +kernel
theorem wit_WeederArithmetic : 10 * 10 ≤ 4 * 30 ∧ kurtosis 10 30 4 = some (min (5 * (4 * 30 - 100) * 4096 / (3 * 100)) 0xFFFF)
    ∧ (trackStep 4 0x800 0x2000 0x1000 (0x1000, 0x100) 0x1800) = (0x1004, 0x104) ∧ upperOf 0xFFFF 16 16 = 0xFFFF ∧ pmStep 5 1 0 = 1 := by
  decide +kernel
/-- R138 by hand: s1 = 8, s2 = 16, n = 4 is a steady tone; s1 = 4, s2 = 8, n = 4 gives floor(5 · 16 · 4096 / 48). -/
theorem test_kurtosis : kurtosis 8 16 4 = some 0 ∧ kurtosis 4 8 4 = some 6826 ∧ kurtosis 0 0 4 = none ∧ kurtosis 3 9 1 = none := by decide +kernel

/-- Channel 0 of the array with a sheaf that waits for its turning write, and one that was withheld behind it. -/
def sheaf0 : Sheaf := { chan := 0, k := 7, samples := List.replicate 8 (3, -2), valid := List.replicate 8 true, flags := 0x20 }
def writing : State := { array with turn := { queue := [(0, some sheaf0), (0, none)] } }
theorem wit_TurningWriteAndRead : writing.turn.queue.find? (fun e => e.1 == 0) = some (0, some sheaf0) ∧ writing.slotKept 0 = false ∧ writing.portWaits 0 = false
    ∧ sheaf0.samples.length = writing.nHeld ∧ sheaf0.valid.length = writing.nHeld ∧ writing.nHeld % 8 = 0 ∧ writing.weedOn = false
    ∧ (writing.turnChan 0).withheld = [] ∧ writing.width8 = false := by decide +kernel
theorem wit_TurningWriteAndRead_kept :
    (put { writing with turn := { writing.turn with chans := [(0, { wr := 4, live := [0] })] } }
      [(Reg.TURN_CFG, Fld.TURN_CFG_T, 2), (Reg.TURN_CFG, Fld.TURN_CFG_HEADROOM, 0)]).slotKept 0 = true := by
  decide +kernel
/-- The weeder is on; a write part of port 0 waits for room in a queue. -/
def weeding : State := put { writing with turn := { queue := [(0, some sheaf0), (0, some sheaf0)] } } [(Reg.WEED_CFG, Fld.WEED_CFG_ENABLE, 1)]
def jammed : State := { writing with mem := { pcs := [(5, { waiting := [{ part := ⟨0, true, 0, 32, List.replicate 32 none⟩ }] })] } }
theorem wit_TurningWriteAndRead_weeder : weeding.turn.queue.find? (fun e => e.1 == 0) = some (0, some sheaf0) ∧ weeding.slotKept 0 = false
    ∧ weeding.portWaits 0 = false ∧ weeding.weedOn ∧ weeding.mode = 0 ∧ weeding.weed.jobs = [] ∧ sheaf0.chan = 0
    ∧ (∀ e ∈ ((weeding.turn.queue.filter (fun e => e.1 == 0)).drop 1).head?, e.2.isSome)
    ∧ jammed.turn.queue.find? (fun e => e.1 == 0) = some (0, some sheaf0) ∧ jammed.slotKept 0 = false ∧ jammed.portWaits 0
    ∧ array.turn.queue = [] := by decide +kernel
theorem wit_TurningWriteAndRead_withheld : ({ array with turn := { queue := [(0, none)] } } : State).turn.queue.find? (fun e => e.1 == 0) = some (0, none) := by
  decide +kernel
theorem test_turning_read : ((after (.turningWrite 0) writing).readSheaf 0 0).sheaf.samples = sheaf0.samples
    ∧ ((after (.turningWrite 0) writing).turnChan 0).wr = 2 := by decide +kernel

/-! ### Correlation array and granary -/

/-- A warm array of two furrows, with spares in every field, pass 0 of channel 0 ready. -/
def arrayOn : State :=
  let s := put array ([(Reg.CORR_CFG, Fld.CORR_CFG_ENABLE, 1), (Reg.CORR_STATUS, Fld.CORR_STATUS_WARM, 1), (Reg.TURN_CFG, Fld.TURN_CFG_T, 2),
    (Reg.CORR_GOV, Fld.CORR_GOV_STAGE, 8), (Reg.CORR_GOV, Fld.CORR_GOV_HOLD_US, 5)]
    ++ [0, 1].map (fun f => (Reg.CORR_FURROW 0 f, Fld.CORR_FURROW_STATE, fActive))
    ++ [(Reg.CORR_FURROW 0 65, Fld.CORR_FURROW_STATE, fSpare), (Reg.CORR_FURROW 0 66, Fld.CORR_FURROW_STATE, fSpare),
        (Reg.CORR_FURROW 1 65, Fld.CORR_FURROW_STATE, fSpare), (Reg.CORR_FURROW 2 65, Fld.CORR_FURROW_STATE, fSpare),
        (Reg.CORR_FURROW 3 65, Fld.CORR_FURROW_STATE, fSpare)])
  { s with corr := { list := [0, 1] }, turn := { rdy := [0] } }
def coldSpare : State := put arrayOn [(Reg.CORR_FURROW 0 1, Fld.CORR_FURROW_STATE, fRetiring)]
def retiring : State := put coldSpare [(Reg.CORR_FURROW 0 65, Fld.CORR_FURROW_WARM, 1)]
def cold : State := put arrayOn [(Reg.CORR_STATUS, Fld.CORR_STATUS_WARM, 0)]

theorem wit_TilesAndPlacement : array.mode = 0 ∧ [0, 1].Nodup ∧ array.nTiles = 1 ∧ array.tilePlace [0, 1] 0 = (0, 0, 0)
    ∧ array.tileAt [0, 1] 0 0 0 = some 0 ∧ array.tileAt [0, 1] 1 0 0 = none ∧ State.tileNumber 64 1 1 = 64 := by decide +kernel
theorem wit_DispatchRetirementAndGovernor_dispatch : arrayOn.turn.rdy.find? arrayOn.dispatchable = some 0 ∧ arrayOn.running ∧ arrayOn.corrOn ∧ arrayOn.corrWarm
    ∧ arrayOn.corr.flights = [] ∧ arrayOn.corr.list ≠ [] ∧ arrayOn.corr.placeRun = false ∧ (∀ f ∈ arrayOn.corr.list, arrayOn.furState f ≠ fRetiring)
    ∧ arrayOn.portWaits 0 = false ∧ arrayOn.portWaits 1 = false ∧ cold.corrWarm = false := by decide +kernel
theorem wit_DispatchRetirementAndGovernor_ramp : coldSpare.turn.rdy.find? coldSpare.dispatchable = some 0 ∧ coldSpare.running ∧ coldSpare.corrOn
    ∧ coldSpare.corrWarm ∧ coldSpare.portWaits 0 = false ∧ coldSpare.portWaits 1 = false ∧ coldSpare.corr.flights = []
    ∧ coldSpare.coldSpares = [65] ∧ (after .passDispatch coldSpare).corr.ramps = [65]
    ∧ (after .governorStage (after .passDispatch coldSpare)).furWarm 65 = true := by decide +kernel
theorem wit_DispatchRetirementAndGovernor_retire : retiring.turn.rdy.find? retiring.dispatchable = some 0 ∧ retiring.running ∧ retiring.corrOn ∧ retiring.corrWarm
    ∧ retiring.corr.list.filter (fun x => retiring.furState x == fRetiring) = [1] ∧ retiring.idleSpares 0 = [65, 66]
    ∧ retiring.furWarm 65 ∧ retiring.portWaits 0 = false ∧ retiring.portWaits 1 = false ∧ retiring.corr.flights = [] ∧ retiring.corr.list = [0, 1]
    ∧ retiring.corr.resting = [] ∧ retiring.corr.cmds = [] ∧ (∀ m < 4, retiring.idleSpares m ≠ []) ∧ 65 ∉ retiring.corr.list := by decide +kernel
theorem test_retirement : (retiring.replaceRetiring 1).corr.list = [0, 65] := by decide +kernel
theorem wit_DispatchRetirementAndGovernor_governor : cold.corrOn ∧ cold.running ∧ cold.corrWarm = false ∧ cold.corr.rampDown = false ∧ cold.corr.ramps = []
    ∧ ({ cold with corr := { cold.corr with rampDown := true }, turn := {} } : State).turn.rdy = []
    ∧ ({ cold with corr := { cold.corr with rampDown := true }, turn := {} } : State).corr.rampDown
    ∧ arrayOn.get Reg.CORR_GOV Fld.CORR_GOV_HOLD_US ≠ 0 ∧ arrayOn.corr.suspects = [] := by decide +kernel
/-- CORR_RETIRE of a furrow of field m. -/
def retireDesc (m n : Nat) : List Byte := desc 0x28 [(36, 1, m), (37, 1, n)]
theorem wit_DispatchRetirementAndGovernor_corrRetire : handedOk arrayOn (retireDesc 0 1) ∧ handedOk arrayOn (retireDesc 4 0) ∧ handedOk arrayOn (retireDesc 3 67)
    ∧ handedOk arrayOn (retireDesc 3 65) ∧ arrayOn.furState 1 = fActive ∧ arrayOn.furState (68 * 3 + 65) = fSpare ∧ arrayOn.twinOn = false
    ∧ arrayOn.served := by decide +kernel
theorem test_corr_retire : (after (.corrRetire (.ring 1)) (posted arrayOn (retireDesc 0 1))).furState 1 = fRetiring := by decide +kernel

/-- Pass 0 of channel 0 in flight, both sheaves empty. -/
def flight0 : Flight := { chan := 0, pass := 0, list := [0, 1], sheaves := [], left := [0], coming := 1, owed := 1 }
def flying : State := { arrayOn with corr := { list := [0, 1], flights := [flight0] } }
/-- The same with furrow 0 suspect and drained, one bank of it held. -/
def suspect0 : Suspect :=
  { furrow := 0, chan := 0, pass := 0, rounds := [0], tiles := [{ chan := 0, pass := 0, tile := 0, furrow := 0, words := [] }] }
def suspected : State := { arrayOn with corr := { list := [0, 1], flights := [{ flight0 with left := [] }], suspects := [suspect0] } }
def recomputing : State := { suspected with corr := { suspected.corr with suspects := [{ suspect0 with spare := some 133 }] } }
/-- What a recompute shows of one bank: a parity error. -/
def parityReports : List (Nat × Nat × SpillReport) := spillReports [(0, 0, { parity := true })] [] []

theorem wit_SpillsAndRecomputes_spill : flying.twinOn = false ∧ flying.portNext 0 = some (flight0, 0, 0)
    ∧ flying.tileAt flight0.list 0 0 0 = some 0 ∧ flying.tileAt flight0.list 0 0 1 = none ∧ flying.furState 0 = fActive
    ∧ flying.corr.suspects = [] ∧ flight0.loose = [] ∧ flight0.looseRounds = [] ∧ flight0.bad = [] ∧ flying.storeUse 0 = 0
    ∧ flying.portNext 1 = none := by decide +kernel
/-- Both outcomes of the witness occur. -/
theorem wit_SpillsAndRecomputes_witness : flying.witnessFails flight0 0 [] {} = false ∧ flying.witnessFails flight0 0 [(0, 0)] {} = false
    ∧ flying.witnessFails flight0 0 [(4, 0)] {} = true := by decide +kernel
theorem wit_SpillsAndRecomputes_start : suspected.corr.suspects.find? (fun x => x.spare.isNone) = some suspect0
    ∧ suspected.chooseSpare 0 = some 133 ∧ (put array []).chooseSpare 0 = none ∧ flying.corr.suspects.find? (fun x => x.spare.isNone) = none := by
  decide +kernel
theorem wit_SpillsAndRecomputes_end : recomputing.corr.suspects.find? (fun x => x.spare == some (68 * 1 + 65)) = some { suspect0 with spare := some 133 }
    ∧ recomputing.corr.flights.find? (fun f => f.chan == 0 && f.pass == 0) = some { flight0 with left := [] } ∧ recomputing.corr.doomed = []
    ∧ (List.range recomputing.nTiles).filter (fun b => (recomputing.tilePlace [0, 1] b).1 == 0) = [0] ∧ recomputing.twinOn = false
    ∧ (∀ g < 8, (recomputing.grp g).drain = none) ∧ recomputing.tilePlace [0, 1] 0 = (0, 0, 0)
    ∧ (parityReports.find? (fun e => e.1 == 0 && e.2.1 == 0)).map (fun e => e.2.2.parity) = some true
    ∧ (recomputing.corr.suspects.find? (fun x => x.furrow == 68 * 0 + 0)).isSome := by decide +kernel
theorem test_recompute_deadline : (after (.recomputeDeadline 0 0) suspected).corr.spills.map (fun t => t.unverified) = [true] := by decide +kernel
theorem test_bus_third_failure :
    (after (.operandBusTransfer 0 7 ⟨false, false⟩ false) { flying with corr := { flying.corr with bus := [(0, 2)] } }).corr.flights.map (·.bad) = [[0]] := by
  decide +kernel
theorem wit_WitnessIdentity : (4095 : Nat) < 4096 ∧ (23 : Nat) < 24 ∧ ofS 24 (2 ^ 23) ≠ 0 := by decide

/-- Group 0 takes both channels, passes of 2; an integration of passes 0 and 1 fills bank 0. -/
def bank0 : Bank := { seq := 4, epoch := 0, first := 0, last := 1 }
def grouped (g : GrpSt) : State :=
  let s := put arrayOn [(Reg.GRAN_GRP_CFG 0, Fld.GRAN_GRP_CFG_ENABLE, 1), (Reg.GRAN_GRP_CHAN 0, Fld.GRAN_GRP_CHAN_COUNT, 2), (Reg.GRAN_CFG, Fld.GRAN_CFG_ENABLE, 1),
    (Reg.GRAN_GRP_CFG 0, Fld.GRAN_GRP_CFG_PASSES, 2), (Reg.GRAN_GRP_STATE 0, Fld.GRAN_GRP_STATE_STATE, 2), (Reg.GRAN_GRP_SEQ 0, ⟨0, 32⟩, 4),
    (Reg.INGEST_RATE, ⟨0, 32⟩, 187500000)]
  { s with gran := { groups := [(0, g)] } }
def filling : GrpSt := { fill := some bank0, fresh := false, decided := 2, top := 2 }
/-- A spill of channel 0's pass 1 on its way to the adder. -/
def spill1 : TileSum := { chan := 0, pass := 1, tile := 0, furrow := 0, words := [(5, -3)], arrived := true }
def spilling : State := { grouped filling with corr := { list := [0, 1], flights := [{ flight0 with pass := 1, left := [] }], spills := [spill1] } }
/-- The same before the spill has reached the adder; behind a full queue; held by an earlier pass under recompute; before a decision. -/
def onTheWay : State := { spilling with corr := { spilling.corr with spills := [{ spill1 with arrived := false }] } }
def adderJammed : State := { spilling with mem := { pcs := [(5, { waiting := [{ part := ⟨2, true, 0, 32, List.replicate 32 none⟩ }] })] } }
def heldSpill : State := { spilling with corr := { spilling.corr with suspects := [{ suspect0 with tiles := [{ spill1 with pass := 0 }] }] } }
def undecided : State := { spilling with gran := { groups := [(0, { filling with waits := true, decided := 1 })] } }

theorem wit_SaturationFlagsAreExact : ([2 ^ 31 - 1, 1, -5] : List Int) ≠ [] ∧ addSat (2 ^ 31 - 1) (2 ^ 31 - 1) 1 false false false = (2 ^ 31 - 1, true, true)
    ∧ (addSat (2 ^ 31 - 1) 5 6 true true true).2.1 = false ∧ (2 ^ 24 + 1 : Int).natAbs < 2 ^ 127 := by decide +kernel
/-- R234's example: 16,777,217 converts to 16,777,216, and a clamped word to 2^31. -/
theorem test_float32 : float32 16777217 = 0x4B800000 ∧ float32 (2 ^ 31 - 1) = 0x4F000000 ∧ float32 (-1) = 0xBF800000 := by decide +kernel
theorem wit_GranarySpillAdds : spilling.corr.spills.find? (fun t => t.chan == 0 && t.tile == 0) = some spill1 ∧ spilling.corr.suspects = []
    ∧ spilling.passUndecided 0 1 = false ∧ (spilling.corr.flights.find? (fun f => f.chan == 0 && f.pass == 1)).isSome ∧ spilling.grpHas 0 0
    ∧ (spilling.grp 0).fill = some bank0 ∧ bank0.has 1 ∧ spill1.arrived ∧ spilling.portWaits 2 = false ∧ (∀ h < 8, (spilling.grp h).drain = none) := by
  decide +kernel
theorem wit_GranarySpillAdds_arrival : onTheWay.portWaits 2 = false ∧ onTheWay.corr.suspects = [] ∧ onTheWay.corr.spills.map (·.arrived) = [false]
    ∧ onTheWay.corr.spills.map (·.pass) = [1] ∧ ({ onTheWay with gran := {} } : State).gran.groups = [] ∧ adderJammed.portWaits 2 := by decide +kernel
theorem wit_GranarySpillAdds_held : heldSpill.corr.spills.map (·.arrived) = [true] ∧ heldSpill.canAdd spill1 = false
    ∧ heldSpill.corr.suspects.flatMap (fun x => x.tiles.map (fun y => (y.pass, y.tile, y.arrived))) = [(0, 0, true)]
    ∧ (∀ h < 8, (heldSpill.grp h).drain = none) ∧ undecided.passUndecided 0 1 ∧ (∀ h < 8, (undecided.grp h).drain = none) := by decide +kernel
theorem test_spill_held : (after (.granarySpill 0 0 [] []) heldSpill).corr.spills = [spill1]
    ∧ (after (.granarySpill 0 0 [] []) onTheWay).corr.spills = [] := by decide +kernel
theorem test_granary_spill : (((after (.granarySpill 0 0 [] []) spilling).grp 0).fill.map (fun b => (b.chans.map (fun c => c.2.words)))) = some [[(0, [(5, -3)])]] := by
  decide +kernel

/-- GRAN_START and GRAN_STOP of a mask; a START that is no time of day. -/
def startDesc (mask ns : Nat) : List Byte := desc 0x30 [(36, 1, mask), (42, 4, ns)]
def waitingGroup : State := put (grouped {}) [(Reg.GRAN_GRP_STATE 0, Fld.GRAN_GRP_STATE_STATE, 1)]
theorem wit_GroupsStartStopAndStretch_start : handedOk waitingGroup (startDesc 1 0) ∧ handedOk waitingGroup (startDesc 1 1000000000)
    ∧ waitingGroup.mode = 0 ∧ (stampAt (startDesc 1 0) 40).valid ∧ (stampAt (startDesc 1 1000000000) 40).valid = false
    ∧ bitAt 1 0 ∧ waitingGroup.grpOn 0 ∧ waitingGroup.grpState 0 ≠ 2 ∧ ((grouped { exhausted := true }).grp 0).exhausted
    ∧ handedOk (grouped { exhausted := true }) (startDesc 1 0) := by decide +kernel
theorem wit_GroupsStartStopAndStretch_stop : (grouped filling).bankWhole 0 bank0 = false ∧ ((grouped filling).grp 0).old = none
    ∧ (∀ g < 8, 0 < g → ((grouped filling).grp g).fill = none) ∧ (∀ g < 8, (waitingGroup.grp g).fill = none ∧ (waitingGroup.grp g).old = none) ∧ handedOk (grouped filling) (desc 0x31 [(36, 1, 1)]) ∧ (grouped filling).gran.stops = []
    ∧ (grouped filling).grpState 0 = 2 ∧ ((grouped filling).grp 0).fill.isSome ∧ handedOk waitingGroup (desc 0x31 [(36, 1, 1)]) := by decide +kernel
theorem test_gran_stop : ((after (.granStop (.ring 1)) (posted (grouped filling) (desc 0x31 [(36, 1, 1)]))).grp 0).stopping
    ∧ (after (.granStop (.ring 1)) (posted waitingGroup (desc 0x31 [(36, 1, 1)]))).grpState 0 = 3 := by decide +kernel
def decision : GrpSt := { filling with waits := true, top := 3, old := some { bank0 with seq := 3 } }
theorem wit_GroupsStartStopAndStretch_decision : ((grouped decision).grp 0).waits ∧ ((grouped decision).grp 0).fill = some bank0
    ∧ bank0.passes ≠ 2 ^ 32 - 1 ∧ (grouped decision).grpState 0 = 2 ∧ ((grouped decision).grp 0).top = ((grouped decision).grp 0).decided + 1
    ∧ ((grouped decision).grp 0).old ≠ none ∧ ((grouped filling).grp 0).waits = false ∧ ((grouped filling).grp 0).stopping = false
    ∧ ((grouped filling).grp 0).stopAt = none ∧ ((grouped filling).grp 0).old = none ∧ ((grouped filling).grp 0).fresh = false
    ∧ (grouped filling).full (Reg.GRAN_GRP_SEQ 0) < 2 ^ 32 - 2 ∧ (grouped filling).mode = 0 := by decide +kernel

/-- A whole integration drains from channel 0; channel 0 has every spill of both passes. -/
def draining : State := put (grouped { fill := none, old := some { bank0 with chans := [(0, { added := 2 })] }, drain := some { next := 0 }, fresh := false, decided := 2, top := 2 })
  [(Reg.GRAN_CFG, Fld.GRAN_CFG_HOLD_US, 100)]
theorem wit_HarvestOrderAndHolds : draining.get Reg.GRAN_CFG Fld.GRAN_CFG_HOLD_US ≠ 0 ∧ ((draining.grp 0).old.isSome ∧ (draining.grp 0).drain = some { next := 0 }) ∧ draining.gran.stops = []
    ∧ draining.ewesen = false ∧ draining.flag (Reg.GRAN_GRP_CFG 0) Fld.GRAN_GRP_CFG_BALER = false
    ∧ (match (draining.grp 0).old with
      | some b => draining.chanAdded b 0 && draining.destReady 0 && (draining.holders b 0).isEmpty
      | none => false) = true ∧ (arrayOn.grp 0).old = none := by decide +kernel
theorem test_harvest_segment : ((after (.harvestSegment {}) draining).grp 0).drain.map (fun d => (d.next, d.header)) = some (1, true) := by decide +kernel
def heldDrain : State :=
  let s := put draining [(Reg.GRAN_GRP_STATE 0, Fld.GRAN_GRP_STATE_DRAIN, 2)]
  { s with corr := { list := [0, 1], flights := [{ flight0 with left := [] }], suspects := [suspect0] } }
theorem wit_HarvestOrderAndHolds_expiry : (match (heldDrain.grp 0).old, (heldDrain.grp 0).drain with
    | some b, some d => decide (heldDrain.holders b d.next ≠ [])
    | _, _ => false) = true ∧ heldDrain.get (Reg.GRAN_GRP_STATE 0) Fld.GRAN_GRP_STATE_DRAIN = 2 := by decide +kernel

/-! ### Beamformer, glean ring, baler -/

/-- The windowed array with beam channels 0 and 1 selected, and windows of 4 sheaves. -/
def beamed : State :=
  put windowed [(Reg.BEAM_CFG, Fld.BEAM_CFG_ENABLE, 1), (Reg.INGEST_CTL, Fld.INGEST_CTL_BEAM_BRANCH, 1), (Reg.BEAM_SEL 0, ⟨0, 32⟩, 3),
    (Reg.BEAM_DET, Fld.BEAM_DET_DINT, 4), (Reg.BEAM_CFG, Fld.BEAM_CFG_BLOCK_EN, 1)]
def loadDesc (n bank table first : Nat) : List Byte := desc 0x38 [(24, 8, 0x1000), (32, 4, n), (36, 1, bank), (37, 1, table), (40, 4, first)]
def swapDesc (mask len : Nat) : List Byte := desc 0x39 [(16, 7, 9), (36, 2, mask), (38, 2, len)]
def ref9 : CmdRef := .slot 9 4

theorem wit_BeamWeightsAndSums : effective ⟨0x6000, 0xFFFF, 8388600⟩ ⟨0x8000, 1, 100⟩ = (⟨0x6000, 0, 8388607⟩, true)
    ∧ fadeTriplet ⟨0, 0, 0⟩ ⟨100, 7, 8⟩ 4 4 = ⟨100, 7, 8⟩ ∧ bankAt 5 false [⟨3, 2⟩] = (true, none) ∧ bankAt 4 false [⟨3, 2⟩] = (false, some ⟨3, 2⟩)
    ∧ bankAt 2 false [⟨3, 2⟩] = (false, none) := by decide +kernel
/-- R245's worked example. -/
theorem test_beam_weight : beamWeight ⟨0x6000, 0x1000, 0x20000⟩ 1468006 = (37, -31) := by decide +kernel
theorem wit_BeamCommands_load : (posted beamed (loadDesc 2 1 0 16)).handed (.ring 1) 0x38 = some (posted beamed (loadDesc 2 1 0 16))
    ∧ (posted beamed (loadDesc 2 1 0 16)).take (.ring 1) 0x38 = some (.slot 1 0, loadDesc 2 1 0 16, 1, begun beamed (loadDesc 2 1 0 16))
    ∧ descClean 0x38 (loadDesc 2 1 0 16) ∧ beamed.beam = {} ∧ 16 + 2 ≤ 2 ^ 20 ∧ (posted beamed (loadDesc 2 1 0 16)).inHostWin 1 0x1000 (0x1000 + 16)
    ∧ (∀ b < 16, (beamed.beamBlk b).waits = none) := by decide +kernel
theorem wit_BeamCommands_continue :
    ({ beamed with beam := { loads := [⟨ref9, .ring 1, 1, 1, 0, 16, 5, 2, []⟩] } } : State).beam.loads = [⟨ref9, .ring 1, 1, 1, 0, 16, 5, 2, []⟩]
    ∧ (le 8 7).length = 8 * 1 ∧ 2 + 1 < 5 := by decide +kernel
theorem wit_BeamCommands_swap : handedOk beamed (swapDesc 1 4) ∧ handedOk beamed (swapDesc 1 0) ∧ handedOk beamed (swapDesc 0 4)
    ∧ descK (swapDesc 1 4) ≠ emptyKey ∧ beamed.beam.blocks = [] := by decide +kernel
/-- A load into bank 1 that waits for its data, on a ring of its own. -/
def loading : State :=
  let s : State := { beamed with beam := { loads := [⟨ref9, .ring 9, 9, 1, 0, 16, 5, 2, []⟩] } }
  s.setRing 9 { slots := [⟨4, 0, 0, false, none⟩] }
theorem wit_BeamCommands_loads : loading.loadsInto true = [(9, [])] ∧ beamed.loadsInto true = [] ∧ beamed.loadsInto false = []
    ∧ handedOk loading (swapDesc 1 4) ∧ (loading.beamBlk 0).bank = false ∧ loading.beam.swaps = [] ∧ (∀ b < 16, (loading.beamBlk b).waits = none)
    ∧ ((loading.ring 9).slots.find? (fun l => l.id == 4)).isSome := by decide +kernel
theorem test_load_timeout : (after (.beamLoad (.ring 9) .timeout) loading).beam.loads = []
    ∧ (after (.beamLoad (.ring 9) .timeout) loading).full (Reg.DMA_COUNT 0) = 1 := by decide +kernel
theorem wit_BeamCommands_span : ∃ lo hi, beamed.beamSpan = some (lo, hi) := by
  have h : 0 ∈ beamed.beamChans := List.mem_filter.2 ⟨by decide +kernel, by decide +kernel⟩
  unfold beamSpan
  split
  · rename_i h2; rw [List.map_eq_nil_iff] at h2; rw [h2] at h; simp at h
  · exact ⟨_, _, rfl⟩
/-- Block 0 fades; with a queued request of another command. -/
def fading : State := { beamed with beam := { blocks := [(0, { fades := [⟨3, 2⟩] })] } }
def queuedSwap : State :=
  let s : State := { beamed with beam := { blocks := [(0, { fades := [⟨3, 2⟩], queued := some ⟨8, 4, ref9, []⟩ })], swaps := [⟨ref9, 1, [], false, 0, 0, 1⟩] } }
  s.setRing 9 { slots := [⟨4, 0, 0, false, none⟩] }
theorem wit_BeamCommands_queue : handedOk fading (swapDesc 1 4) ∧ (fading.beamBlk 0).fades = [⟨3, 2⟩] ∧ (fading.beamBlk 0).queued = none
    ∧ (∀ b < 16, b ≠ 0 → (fading.beamBlk b).fades = []) ∧ handedOk queuedSwap (swapDesc 1 4)
    ∧ (queuedSwap.beamBlk 0).queued = some ⟨8, 4, ref9, []⟩ ∧ queuedSwap.beam.swaps.map (·.ref) = [ref9] ∧ (ref9 ≠ .slot 1 0) := by decide +kernel
theorem wit_BeamCommands_peakSet : handedOk beamed (desc 0x3A [(16, 7, 9), (40, 4, 5), (44, 4, 1)]) ∧ beamed.beam.setCmds = [] ∧ 0 < beamed.detInt := by
  decide +kernel
/-- A partial-sum flit of origin 1 for channel 1, index 5, at an export leader. -/
def partialFlit (k : Nat) : List Byte := [0x70, 1] ++ le 2 1 ++ le 4 k ++ le 2 3 ++ zeros 96 ++ zeros 140
def leader (k : Nat) : State :=
  (put beamed [(Reg.WEAVE_CFG, Fld.WEAVE_CFG_EXPORT_LEAD, 1), (Reg.WEAVE_CFG, Fld.WEAVE_CFG_EXPORT_BLOCK, 2)]).latchUnit.setLink 0 { inbox := [partialFlit k] }
theorem wit_PartialSums : (leader 5).sumBlocks = [2] ∧ (leader 5).beamOn ∧ (leader 5).mode = 0 ∧ byteAt (partialFlit 5) 106 ≠ 0x70
    ∧ byteAt (partialFlit 5) 1 / 4 % 2 = 0 ∧ (mapFind (leader 5).beam.emitted 1).getD ((leader 5).firstIndex 1) = 0
    ∧ (∃ o ∈ (leader 5).sumFrom, o ≠ 1) ∧ ((leader 5).link 0).inbox = [partialFlit 5] ∧ beamed.sumBlocks = [] := by decide +kernel
theorem test_partial_flit : (after (.partialBeamFlit 0) (leader 5)).beam.partials.map (fun p => (p.chan, p.k, p.got)) = [(1, 5, [(1, 0)])] := by decide +kernel
def waitingSheaf : State := { leader 5 with beam := { partials := [{ chan := 1, k := 5, sums := List.replicate 16 (0, 0), got := [(1, 0)] }], export_ := [1] } }
theorem wit_PartialSums_wait : (∀ e ∈ waitingSheaf.sumBlocks, waitingSheaf.flag (Reg.BEAM_DEST e) Fld.BEAM_DEST_V_EN = false) ∧ waitingSheaf.detMode = 0
    ∧ waitingSheaf.beam.partials.map (·.waitOver) = [false] ∧ waitingSheaf.beam.export_ ≠ [] ∧ beamed.beam.export_ = []
    ∧ ({ leader 0 with beam := { emitted := [(1, 6)] } } : State).beam.emitted = [(1, 6)] := by decide +kernel

/-- A glean ring of 256 slots of channel 0, 128 inputs, ARMED. -/
def gleaned : State :=
  put windowed [(Reg.GLEAN_CFG, Fld.GLEAN_CFG_ENABLE, 1), (Reg.GLEAN_CFG, Fld.GLEAN_CFG_TRIG, 1), (Reg.GLEAN_INPUTS, Fld.GLEAN_INPUTS_COUNT, 1),
    (Reg.GLEAN_MAXSLOTS, ⟨0, 32⟩, 256), (Reg.GLEAN_LEN, ⟨0, 32⟩, 256), (Reg.GLEAN_SEL 0, ⟨0, 32⟩, 1), (Reg.GLEAN_WIN, Fld.GLEAN_WIN_PRE, 2),
    (Reg.GLEAN_WIN, Fld.GLEAN_WIN_POST, 4), (Reg.GLEAN_STATUS, Fld.GLEAN_STATUS_STATE, 1)]
def gleanIn (st : Nat) (g : GleanSt) : State := { put gleaned [(Reg.GLEAN_STATUS, Fld.GLEAN_STATUS_STATE, st)] with glean := g }
def freezeDesc (k : Nat) : List Byte := desc 0x40 [(16, 7, k)]
def dumpDesc (flags dest lo hi : Nat) : List Byte := desc 0x42 [(16, 7, lo), (36, 1, flags), (38, 2, dest), (40, 7, hi)]
def capture5 : Capture := ⟨5, 0, 0xFFFF, 3, 9, 0, 0⟩
theorem wit_GleanRecords : gleaned.full Reg.GLEAN_WPTR = 0 ∧ gleaned.glean.wrapped = false ∧ 0 < gleaned.gleanMax ∧ gleaned.gleanNi = 128
    ∧ gleaned.gleanFirst = 0 ∧ gleaned.lenValid 100 ∧ gleaned.lenValid 69 = false ∧ gleaned.gleanLeast = 70 ∧ gleaned.served
    ∧ gleaned.flag Reg.GLEAN_STATUS Fld.GLEAN_STATUS_PENDING = false
    ∧ (put gleaned [(Reg.GLEAN_STATUS, Fld.GLEAN_STATUS_PENDING, 1)]).flag Reg.GLEAN_STATUS Fld.GLEAN_STATUS_PENDING := by decide +kernel
theorem test_glean_shadow : (after (.gleanLenShadowWrite 70) gleaned).flag Reg.GLEAN_STATUS Fld.GLEAN_STATUS_PENDING
    ∧ (after (.gleanLenShadowWrite 69) gleaned).flag Reg.GLEAN_STATUS Fld.GLEAN_STATUS_LEN_BAD := by decide +kernel
theorem wit_GleanCommands_freeze : handedOk gleaned (freezeDesc 5) ∧ handedOk (gleanIn 3 {}) (freezeDesc 5) ∧ handedOk (gleanIn 0 {}) (freezeDesc 5)
    ∧ handedOk (gleanIn 2 { cap := some capture5 }) (freezeDesc 300) ∧ handedOk gleaned (freezeDesc (2 ^ 20)) ∧ gleaned.gleanChans = [0]
    ∧ gleaned.nextIndex 0 = 0 ∧ gleaned.gleanPost = 4 ∧ bitAt (gleaned.get Reg.GLEAN_CFG Fld.GLEAN_CFG_TRIG) 0
    ∧ (5 + 4 - 3 + 64) * 1 ≤ 256 ∧ 256 < (300 + 4 - 3 + 64) * 1
    ∧ bitAt ((put gleaned [(Reg.GLEAN_CFG, Fld.GLEAN_CFG_TRIG, 0)]).get Reg.GLEAN_CFG Fld.GLEAN_CFG_TRIG) 0 = false := by decide +kernel
theorem test_glean_freeze : (after (.gleanFreeze (.ring 1)) (posted gleaned (freezeDesc 5))).glean.cap = some capture5 := by decide +kernel
theorem wit_GleanCommands_dump : handedOk (gleanIn 3 { cap := some capture5 }) (dumpDesc 2 7 0 0) ∧ handedOk gleaned (dumpDesc 3 7 0 5)
    ∧ handedOk (gleanIn 2 {}) (dumpDesc 1 4095 0 5) ∧ handedOk gleaned (desc 0x41 [])
    ∧ (put gleaned [(Reg.RING_CFG 7, Fld.RING_CFG_TYPE, 1)]).ringType 7 = 1 ∧ gleaned.ringType 8 = 0 := by decide +kernel
def dumping : State :=
  (gleanIn 3 { cap := some capture5, jobs := [{ ref := ref9, live := false, ring := true, dest := 7, lo := 0, hi := 0, cap := some capture5 }] }).setRing 9
    { slots := [⟨4, 0, 0, false, none⟩] }
theorem wit_GleanCommands_dumpEnd : dumping.glean.jobs.map (fun j => (j.cap, j.dest, j.ref)) = [(some capture5, 7, ref9)]
    ∧ ((dumping.ring 9).slots.find? (fun l => l.id == 4)).isSome := by decide +kernel
/-- A dump of three records to ring 7: the first was overwritten before it was read, the second was read, the third gone with its slot. -/
def dumpOf (k : Nat) (bytes : Option (List Byte)) : DumpRec := ⟨⟨k, 0, k⟩, bytes⟩
def threeRecords : List DumpRec := [dumpOf 1 none, dumpOf 2 (some [1]), dumpOf 3 none]
def overtaken : State :=
  let j : DumpJob := { ref := ref9, live := true, ring := true, dest := 7, lo := 1, hi := 3, cap := some capture5, recs := threeRecords }
  (gleanIn 1 { recs := [⟨2, 0, 2⟩], gone := [(0, 3)], jobs := [j] }).setRing 7 {}
theorem wit_GleanCommands_overtaken : overtaken.glean.jobs.map (fun j => (j.cap, j.ring, j.dest)) = [(some capture5, true, 7)]
    ∧ (put overtaken [(Reg.RING_STATE 7, Fld.RING_STATE_STATE, 1)]).ringState 7 = 1 := by decide +kernel
/-- A shorter ring gives up the records beyond it, and their channel has no newest record. -/
theorem test_len_switch :
    let s := put (gleanIn 1 { recs := [⟨99, 0, 4⟩, ⟨100, 0, 5⟩], last := [(0, 6)] }) [(Reg.GLEAN_STATUS, Fld.GLEAN_STATUS_PENDING, 1), (Reg.GLEAN_LEN_SHADOW, ⟨0, 32⟩, 100)]
    s.lenSwitch.glean.recs = [⟨99, 0, 4⟩] ∧ s.lenSwitch.glean.gone = [(0, 5)] ∧ s.lenSwitch.glean.last = [] := by decide +kernel

theorem wit_BalerIsLossless : ([5, -7] : List Int).length = ([5, 0] : List Int).length ∧ (∀ v ∈ ([5, -7, 5, 0] : List Int), -2147483648 ≤ v ∧ v < 2147483648)
    ∧ (balerBlock [5, -7] [5, 0] false).1 ≤ 32 ∧ (balerBlock [5] [5] false).1 = 62 ∧ (balerBlock [5] [5] true).1 = 61
    ∧ (balerBlock [2147483647] [-2147483648] false).1 = 63 := by decide +kernel
/-- The residues 37, −12, −90, 5 of the worked example, with k = 5: 6 bits of selector, then 11 + 7 + … bits. -/
theorem test_baler : (balerBlock [37, -12, -90, 5] [0, 0, 0, 0] false) = (5, bitsOf 6 5 ++ riceBits 5 74 ++ riceBits 5 23 ++ riceBits 5 179 ++ riceBits 5 10) := by
  decide +kernel

/-! ### Egress -/

/-- The registers of the egress take effect. -/
def latchEth (s : State) : State := { s with eth := { s.eth with regs := s.regs } }
/-- Streams 5 and 7 go to port 0, which runs at 100 Gb/s, stream 6 to port 1, which is down. -/
def wired (x : PortSt := { rate := 100, depth := 300 }) : State :=
  (latchEth (put windowed [(Reg.ETH_STATUS, Fld.ETH_STATUS_PORT_UP, 1), (Reg.ETH_STATUS, Fld.ETH_STATUS_MGMT_UP, 1), (Reg.ETH_STR_CFG 5, Fld.ETH_STR_CFG_PORTS, 1),
    (Reg.ETH_STR_CFG 6, Fld.ETH_STR_CFG_PORTS, 2), (Reg.ETH_STR_L4 5, Fld.ETH_STR_L4_PAYLOAD, 1), (Reg.ETH_PORT_SCHED 0, Fld.ETH_PORT_SCHED_W1, 1),
    (Reg.ETH_STR_CFG 7, Fld.ETH_STR_CFG_PORTS, 1), (Reg.ETH_STR_CFG 5, Fld.ETH_STR_CFG_CSUM, 0), (Reg.ETH_PORT_CFG 0, Fld.ETH_PORT_CFG_MTU, 1518), (Reg.ETH_CFG, Fld.ETH_CFG_ENABLE, 1),
    (Reg.ETH_PORT_RX 0, Fld.ETH_PORT_RX_RING, 2), (Reg.RING_STATE 2, Fld.RING_STATE_STATE, 1)])).setPort 0 x
def pkt0 : Pkt := { stream := some 5, cls := 0, seq := 3, bytes := zeros 70 }
def pkt1 : Pkt := { stream := some 5, cls := 1, seq := 4, bytes := zeros 64 }
def queued1 : State := (wired).setStream 5 { queue := [pkt1] }

theorem wit_PacketsAndFrames : (wired).ethGet (Reg.ETH_STR_L4 5) Fld.ETH_STR_L4_PAYLOAD ≠ 0 ∧ (wired).streamPorts 5 = [0] ∧ (wired).portUp 0
    ∧ (wired).streamPorts 6 = [1] ∧ (wired).portUp 1 = false ∧ (wired).ethFlag (Reg.ETH_STR_CFG 5) Fld.ETH_STR_CFG_IPV6 = false
    ∧ (wired).ethFlag (Reg.ETH_STR_CFG 7) Fld.ETH_STR_CFG_CSUM ∧ (wired).ethFlag (Reg.ETH_STR_CFG 5) Fld.ETH_STR_CFG_CSUM = false
    ∧ 60 ≤ (zeros 60).length := by decide +kernel
/-- R313: a message of 100 bytes on a stream of 64-byte packets is two packets, the first with FIRST, the second with LAST. -/
theorem test_packets : ((((wired).toStream 5 1 { producer := 1, bytes := zeros 100 }).stream 5).queue.map (fun k => (k.seq, k.bytes.take 3, k.bytes.length)))
    = [(0, [0x7A, 1, 1], 80), (1, [0x7A, 1, 2], 52)] := by decide +kernel
theorem wit_PortTransmission_class0 : ((wired).port 0).rate ≠ 0 ∧ ((wired).port 1).rate = 0 ∧ (wired).stopped = false ∧ (wired).standby = false
    ∧ (wired).wireLen 0 pkt0 * 8192 ≤ 300 * 8192 ∧ ((wired { rate := 100, depth := 300, c0 := [pkt0] }).port 0).c0 = [pkt0]
    ∧ ((wired { rate := 100, depth := 300, c0 := [pkt0] }).port 0).held = false ∧ 0 < (wired).wireLen 0 pkt0 * 8192
    ∧ (∀ c ∈ [1, 2, 3], (wired { rate := 100, depth := 300, c0 := [pkt0] }).classSources 0 c = [])
    ∧ ({ wired with stopped := true } : State).stopped
    ∧ (put (wired) [(Reg.TWIN_CFG, Fld.TWIN_CFG_ENABLE, 1), (Reg.TWIN_STATUS, Fld.TWIN_STATUS_ROLE, 2)]).latchUnit.standby := by
  decide +kernel
theorem wit_PortTransmission_lower : queued1.classSources 0 1 = [5] ∧ (∀ d ∈ [2, 3], queued1.classSources 0 d = [])
    ∧ queued1.offered 0 5 = some pkt1 ∧ queued1.wireLen 0 pkt1 ≤ 9256 ∧ (queued1.port 0).turn = 1 ∧ (queued1.port 0).deficit.length = 3
    ∧ (queued1.port 0).last.length = 3 := by
  decide +kernel
theorem test_egress : ((after (.egressTransmit 0 10 []) queued1).out.eth.map (fun e => (e.1, e.2.length))) = [(0, 42 + 64 + 4)]
    ∧ ((after (.egressTransmit 0 10 []) (wired { rate := 100, depth := 300, c0 := [pkt0] })).full (Reg.ETH_PORT_COUNT 0 4)) = 1 := by decide +kernel
theorem wit_PortTransmission_down : ((wired { rate := 100, depth := 300, wire := some pkt1 }).port 0).wire = some pkt1 ∧ pkt1.cls ≠ 0 ∧ pkt1.stream = some 5
    ∧ ((wired { rate := 100, depth := 300, wire := some pkt0 }).port 0).wire = some pkt0 ∧ (wired).portUp 1 = false := by decide +kernel
theorem test_link_down : (after (.ethLinkDown 0 true) (wired { rate := 100, depth := 300, wire := some pkt0, c0 := [pkt0] })).full (Reg.ETH_PORT_COUNT 0 2) = 2
    ∧ ((after (.ethLinkDown 0 true) (wired { rate := 100, depth := 300, wire := some pkt1 })).stream 5).queue = [{ pkt1 with again := true }] := by decide +kernel
/-- A broadcast frame; a frame of another station; a pause frame. -/
def frameTo (da : List Byte) (t : List Byte) : List Byte := da ++ zeros 6 ++ t ++ zeros 46
def allOnes : List Byte := List.replicate 6 0xFF
theorem test_ethernet_lanes :
    let s := put (wired) [(Reg.LANE_STATUS 64, Fld.LANE_STATUS_STATE, 5), (Reg.LANE_CFG 64, Fld.LANE_CFG_RX_EN, 1)]
    64 ∈ s.portLanes 0 ∧ (after (.ethLinkDown 0 false) s).laneState 64 = 2
    ∧ (after (.ethLinkUp 0) (put s [(Reg.LANE_STATUS 64, Fld.LANE_STATUS_STATE, 3)])).laneState 64 = 5 := by decide +kernel
theorem wit_ReceivedFramesAndStreamTable_rx : (wired).ethGet (Reg.ETH_PORT_CFG 0) Fld.ETH_PORT_CFG_MTU = 1518 ∧ isBroadcast (frameTo allOnes [8, 0]) ∧ unbe (((frameTo allOnes [8, 0]).drop 12).take 2) ≠ 0x8808
    ∧ unbe (((frameTo allOnes [0x88, 8, 0, 1]).drop 14).take 2) = 1 ∧ unbe (((frameTo allOnes [0x88, 8, 0, 1]).drop 12).take 2) = 0x8808 ∧ (wired).ringState ((wired).ethGet (Reg.ETH_PORT_RX 0) Fld.ETH_PORT_RX_RING) = 1
    ∧ (live).ringState 2 = 0 ∧ (frameTo [2, 0, 0, 0, 0, 1] [8, 0]).take 6 ≠ (wired).portMac 0 := by decide +kernel
theorem test_frame_rx : (after (.ethFrameReceive 0 (frameTo allOnes [0x88, 8, 0, 1]) true) (wired)).full (Reg.ETH_PORT_COUNT 0 7) = 1
    ∧ ((after (.ethFrameReceive 0 (frameTo allOnes [8, 0]) true) (wired)).ring 2).msgs.length = 1
    ∧ ((after (.ethFrameReceive 0 (frameTo allOnes [0x88, 8]) true) (wired)).ring 2).msgs.length = 1
    ∧ (after (.ethFrameReceive 0 (frameTo allOnes [8, 0]) false) (wired)).full (Reg.ETH_PORT_COUNT 0 6) = 1 := by decide +kernel
/-- A PTP Sync message in an Ethernet frame. -/
def sync : List Byte := frameTo allOnes [0x88, 0xF7]
theorem wit_ReceivedFramesAndStreamTable_mgmt : (wired).mgmtUp ∧ live.mgmtUp = false ∧ (ptpBody sync).isSome ∧ ptpBody (frameTo allOnes [8, 0]) = none
    ∧ (wired).standby = false ∧ (wired).stopped = false
    ∧ ({ wired with time := { regs := [(Reg.TIME_CAP, Fld.TIME_CAP_TX_EN.into 0 1)] } } : State).timeFlag Reg.TIME_CAP Fld.TIME_CAP_TX_EN
    ∧ (match ptpBody sync with
      | some m => decide (byteAt m 0 % 16 < 4)
      | none => false) = true := by decide +kernel
def streamDesc (i n : Nat) : List Byte := desc 0x48 [(24, 8, 0x1000), (32, 4, n), (36, 2, i)]
theorem wit_ReceivedFramesAndStreamTable_set : handedOk (wired) (streamDesc 9 32) ∧ handedOk (wired) (streamDesc 4096 32) ∧ descCount (streamDesc 9 32) = 32
    ∧ (posted (wired) (streamDesc 9 32)).streamBusy 9 = false ∧ (posted queued1 (streamDesc 5 32)).streamBusy 5 ∧ handedOk queued1 (streamDesc 5 32)
    ∧ (posted (wired) (streamDesc 9 32)).inHostWin 1 0x1000 (0x1000 + 32) ∧ handedOk array (streamDesc 9 32) ∧ (streamDesc 9 32).length = 64
    ∧ (posted array (streamDesc 9 32)).inHostWin 1 0x1000 (0x1000 + 32) = false ∧ (zeros 32).length = 32 ∧ live.isReady := by decide +kernel
theorem test_seq_read : ((after (.ethStrSeqLoRead 5) ((wired).setStream 5 { pktSeq := 3 * 2 ^ 32 + 7 })).readData,
    (after (.ethStrSeqLoRead 5) ((wired).setStream 5 { pktSeq := 3 * 2 ^ 32 + 7 })).full (Reg.ETH_STR_SEQ_HI 5)) = (7, 3) := by decide +kernel

/-! ### Rings, DMA and the host port -/

/-- Ring 1 is a submission ring of 16 entries with completion ring 2; ring 2 has 16 records; both lie in open windows. -/
def ringed (x : RingSt := {}) (y : RingSt := {}) : State :=
  ((put windowed [(Reg.RING_CFG 1, Fld.RING_CFG_LOG2SIZE, 4), (Reg.RING_CFG 2, Fld.RING_CFG_LOG2SIZE, 4), (Reg.RING_CFG 2, Fld.RING_CFG_TYPE, 2),
    (Reg.RING_CFG 1, Fld.RING_CFG_CQ, 2), (Reg.RING_STATE 1, Fld.RING_STATE_STATE, 1), (Reg.RING_STATE 2, Fld.RING_STATE_STATE, 1),
    (Reg.DMA_PCIE_STATUS, Fld.DMA_PCIE_STATUS_LINK_UP, 1), (Reg.DMA_PCIE_STATUS, Fld.DMA_PCIE_STATUS_BUS_MASTER, 1), (Reg.RING_CQ 2, Fld.RING_CQ_COUNT, 1),
    (Reg.RING_CQ 2, Fld.RING_CQ_TIME_US, 5), (Reg.RING_DWIN_SIZE 1, Fld.RING_DWIN_SIZE_MIB, 1), (Reg.RING_BASE_LO 2, Fld.RING_BASE_LO_BASE, 3)]).setRing 1 x).setRing 2 y
/-- That state with ring 1 in another state. -/
def ringIn (n : Nat) (x : RingSt := {}) : State := put (ringed x) [(Reg.RING_STATE 1, Fld.RING_STATE_STATE, n)]
/-- A standby of a twin pair. -/
def asStandby (s : State) : State := (put s [(Reg.TWIN_CFG, Fld.TWIN_CFG_ENABLE, 1), (Reg.TWIN_STATUS, Fld.TWIN_STATUS_ROLE, 2)]).latchUnit

theorem wit_DoorbellsAndVectors_ring : (ringed).ringType 1 = 0 ∧ (ringed).ringType 2 = 2 ∧ (ringIn 0).ringState 1 = 0 ∧ (ringed).ringState 1 = 1
    ∧ (ringed).ringSize 1 = 16 ∧ posDiff 16 0x10000 0 = 16 ∧ posDiff 16 (0x10000 + 1) 0 = 17 ∧ bitAt (2 ^ 32) 32 := by decide +kernel
/-- R331: with S = 16 the position after entry 15 is entry 0 of the other phase. -/
theorem test_positions : posNext 16 15 = 0x10000 ∧ posNext 16 (0x10000 + 15) = 0 ∧ posDiff 16 (0x10000 + 2) 14 = 4 := by decide +kernel
theorem test_doorbell : (after (.doorbell 1 0 (.write 4 0x10001)) (ringed)).ringState 1 = 3
    ∧ (after (.doorbell 1 0 (.write 4 0x10000)) (ringed)).hostPos 1 = 0x10000 := by decide +kernel
/-- R334: a HALTED ring's doorbell reads its last value with bit 63; the upper half alone shows HALTED in bit 31. -/
theorem test_doorbell_read : (after (.doorbell 1 0 (.read 8)) (ringIn 3 { doorbell := 5 })).host.barData = 2 ^ 63 + 5
    ∧ (after (.doorbell 1 4 (.read 4)) (ringIn 3 { doorbell := 5 })).host.barData = 2 ^ 31 := by decide +kernel
theorem wit_DoorbellsAndVectors_coalesce : ((ringed {} { armed := true, since := 2 }).ring 2).armed ∧ ((ringed {} { armed := true, since := 2 }).ring 2).since ≠ 0
    ∧ (ringed).get (Reg.RING_CQ 2) Fld.RING_CQ_TIME_US ≠ 0 ∧ (ringed).get (Reg.RING_CQ 2) Fld.RING_CQ_COUNT ≠ 0 ∧ (ringed).standby = false
    ∧ ((ringed).ring 2).armed = false ∧ (ringed).hostCan ∧ (ringed).stopped = false ∧ bitAt ((ringed).vector 3).2.2 0
    ∧ (asStandby (ringed {} { armed := true, since := 2 })).standby := by decide +kernel
theorem wit_DoorbellsAndVectors_table : (ringed).host.pba = [] ∧ (0x7FFC : Nat) = 16 * 2047 + 12 ∧ (0x7FFC : Nat) < 0x8000 ∧ 0x8000 ≤ (65535 : Fin 65536).val
    ∧ ({ ringed with host := { (ringed).host with pba := [2047] } } : State).host.pba = [2047] := by decide +kernel
theorem test_msix_unmask : (after (.msixTableWrite 0x7FF 12 (.write 4 0)) { ringed with host := { (ringed).host with pba := [2047] } }).out.msix = [2047] := by
  decide +kernel

theorem wit_RingTransitions_enable : (ringIn 0).served ∧ (ringIn 0).ringState 1 = 0 ∧ ({} : State).served = false
    ∧ (ringIn 0).inHostWin 1 ((ringIn 0).ringBase 1) ((ringIn 0).ringBase 1 + 64 * (ringIn 0).ringSize 1)
    ∧ (ringIn 0).inHostWin 1 ((ringIn 0).ringBase 2) ((ringIn 0).ringBase 2 + 32 * (ringIn 0).ringSize 2) ∧ (ringIn 0).ringCq 1 = 2
    ∧ (ringIn 0).flag Reg.HBM_STATUS Fld.HBM_STATUS_ALL_TRAINED = false ∧ (ringIn 0).get (Reg.RING_DWIN_SIZE 1) Fld.RING_DWIN_SIZE_MIB ≠ 0
    ∧ (put (ringIn 0) [(Reg.HBM_STATUS, Fld.HBM_STATUS_ALL_TRAINED, 1)]).flag Reg.HBM_STATUS Fld.HBM_STATUS_ALL_TRAINED := by decide +kernel
theorem test_ring_enable : (after (.ringEnable 1) (ringIn 0)).get (Reg.RING_STATE 1) Fld.RING_STATE_CAUSE = 4
    ∧ (after (.ringEnable 1) (put (ringIn 0) [(Reg.HBM_STATUS, Fld.HBM_STATUS_ALL_TRAINED, 1)])).ringState 1 = 1 := by decide +kernel
def copyDesc (len src dst flags : Nat) : List Byte := desc 0x01 [(3, 1, flags), (4, 4, len), (16, 8, src), (24, 8, dst)]
/-- A copy of 8,192 bytes in progress on ring 1, one burst done. -/
def copying : Xfer := { ref := .slot 1 0, desc := copyDesc 8192 0x1000 0x40000 3, scan := false, total := 8192, done := 4096, begun := true }
def inCopy (x : Xfer) : RingSt := { xfer := some x, slots := [⟨0, 1, 0, false, none⟩], nextId := 1 }
theorem wit_RingTransitions_reset : (ringIn 2).ringState 1 = 2 ∧ (ringed (inCopy copying)).host.reads = [] ∧ ((ringed (inCopy copying)).ring 1).xfer = some copying
    ∧ copying.ref = .slot 1 0 ∧ copying.busy = none ∧ copying.begun ∧ ((ringed (inCopy { copying with busy := some 4 })).ring 1).xfer.isSome
    ∧ (ringed).ringState 1 ≠ 0 ∧ (ringed).ringType 1 ≠ 2 ∧ (ringed).ringCq 1 = 2 ∧ ((ringed).ring 1).msgs = [] ∧ (ringed).beam = {} := by decide +kernel
/-- Ring 1's chain fetch under way; its load under way. -/
def fetchingChain : State :=
  let s := ringed { chain := some ⟨0x2000, 0, 1⟩, fetching := true }
  { s with host := { s.host with reads := [⟨7, 0x2000, 64, .chain 1 1, false⟩] } }
def loading1 : State :=
  let s := ringed { slots := [⟨0, 1, 0, false, none⟩], nextId := 1 }
  { s with beam := { loads := [⟨.slot 1 0, .ring 1, 1, 1, 0, 16, 5, 2, []⟩] } }
theorem wit_RingTransitions_resetReads : fetchingChain.host.reads.map (·.use) = [.chain 1 (64 / 64)] ∧ (fetchingChain.ring 1).xfer = none
    ∧ fetchingChain.beam.loads = [] ∧ (loading1.ring 1).xfer = none ∧ loading1.beam.loads.map (·.ref) = [.slot 1 0]
    ∧ (loading1.ring 1).slots.filter (fun l => l.id == 0) = [⟨0, 1, 0, false, none⟩] ∧ loading1.beam.blocks = [] ∧ loading1.beam.swaps = [] := by
  decide +kernel
/-- The load is cut at once, with what is left in RESIDUE. -/
theorem test_reset_cut : (loading1.cutEntry 1).1.map (fun l => l.result.map (fun c => (c.status, c.count, c.residue))) = [some (St.RESET, 2, 24)] := by decide +kernel
theorem wit_RingTransitions_resume : (ringIn 2).served ∧ (ringIn 2).ringState 1 = 2 ∧ ((ringIn 2).ring 1).queue = [] := by decide +kernel


/-- Ring 1 with its host position at entry 3, and the read that a fetch of 3 makes. -/
def postedThree : State := put (ringed) [(Reg.RING_HOST_POS 1, Fld.RING_HOST_POS_POS, 3)]
def chained1 (addr : Nat) : RingSt := { chain := some ⟨addr, 0, 1⟩ }
theorem wit_DescriptorsAndChains_fetch : postedThree.ringState 1 = 1 ∧ postedThree.hostFree ∧ postedThree.host.reads.length + postedThree.host.lateTags.length < 768
    ∧ posDiff 16 (postedThree.hostPos 1) 0 = 3 ∧ (ringed (chained1 0x2000)).inHostWin 1 0x2000 0x2040 ∧ (ringed (chained1 0x20000)).inHostWin 1 0x20000 0x20040 = false
    ∧ postedThree.get (Reg.DMA_CH_STATUS (postedThree.ringChannel 1)) Fld.DMA_CH_STATUS_STATE ≠ 2 := by decide +kernel
/-- Its answer. -/
def answered3 : State := { ringed { fetching := true } with host := { (ringed { fetching := true }).host with reads := [⟨7, 0, 192, .entries 1 3, false⟩] } }
theorem wit_DescriptorsAndChains_data : answered3.host.reads = [⟨7, 0, 192, .entries 1 3, false⟩] ∧ answered3.host.lateTags = [] ∧ answered3.ewesen = false
    ∧ (desc 3 [] ++ desc 3 [] ++ desc 3 []).length = 64 * 3 ∧ answered3.badStatus 1 (desc 3 []) = none := by decide +kernel
theorem test_fetch_data : ((after (.hostReadCompletion 7 (.data (desc 3 [] ++ desc 3 [] ++ desc 3 []))) answered3).ring 1).queue.map (fun e => (e.pos, e.head))
    = [(0, 1), (1, 2), (2, 3)] := by decide +kernel
def late7 : State := { ringed with host := { (ringed).host with lateTags := [7] } }
theorem wit_DescriptorsAndChains_late : 7 ∈ late7.host.lateTags ∧ (∀ q ∈ (ringed).host.reads, q.tag ≠ 7) ∧ 7 ∉ (ringed).host.lateTags := by decide +kernel
def entryOf (d : List Byte) (chained : Bool := false) : Entry := ⟨d, 0, 1, chained⟩
def withEntry (d : List Byte) (chained : Bool := false) (n : Nat := 0) : State :=
  ringed { queue := [entryOf d chained], links := n, chain := if chained then some ⟨0x2000, 0, 1⟩ else none }
def linkDesc (a : Nat) : List Byte := desc 2 [(16, 8, a)]
theorem wit_DescriptorsAndChains_link : (withEntry (linkDesc 0x2000)).nextEntry 1 = some (entryOf (linkDesc 0x2000)) ∧ (withEntry (linkDesc 0x2000)).canStart 1
    ∧ (withEntry (linkDesc 0x2000)).badStatus 1 (linkDesc 0x2000) = none ∧ descOpcode (linkDesc 0x2000) = 2
    ∧ (withEntry (linkDesc 0x2000)).inHostWin 1 0x2000 0x2040 ∧ (withEntry (linkDesc 0x20000)).inHostWin 1 0x20000 0x20040 = false
    ∧ ((withEntry (linkDesc 0x2000) false 4096).ring 1).links = 4096 ∧ ((withEntry (linkDesc 0x2000) false 4095).ring 1).links < 4096
    ∧ (ringed).nextEntry 1 = none ∧ (withEntry (linkDesc 0x2001)).canStart 1 := by decide +kernel
theorem test_link_runaway : (after (.link 1) (withEntry (linkDesc 0x2000) false 4096)).ringState 1 = 3
    ∧ ((after (.link 1) (withEntry (linkDesc 0x2000) false 4095)).ring 1).chain = some ⟨0x2000, 0, 1⟩ := by decide +kernel
theorem wit_DescriptorsAndChains_nop : (withEntry (desc 3 []) true).nextEntry 1 = some (entryOf (desc 3 []) true) ∧ (withEntry (desc 3 []) true).canStart 1
    ∧ descChainEnd (desc 3 []) = false ∧ (withEntry (desc 3 [])).nextEntry 1 = some (entryOf (desc 3 [])) := by decide +kernel
def bufferDesc (n : Nat) : List Byte := desc 5 [(16, 8, 0x4000), (24, 4, n)]
/-- Ring 1 as a delivery ring with a BUFFER next. -/
def delivery (n : Nat) : State := put (withEntry (bufferDesc n)) [(Reg.RING_CFG 1, Fld.RING_CFG_TYPE, 1)]
theorem wit_DescriptorsAndChains_buffer : ((delivery 64).take (.ring 1) 5).isSome ∧ ((delivery 63).take (.ring 1) 5).isSome
    ∧ (delivery 64).inHostWin 1 0x4000 0x4040 ∧ (delivery 0x20000).inHostWin 1 0x4000 0x24000 = false ∧ fieldAt (bufferDesc 0x20000) 24 4 % 8 = 0 := by
  decide +kernel
theorem test_buffer : ((after (.buffer 1) (delivery 64)).ring 1).bufs = [⟨0, 0x4000, 64⟩] ∧ ((after (.buffer 1) (delivery 63)).ring 1).bufs = [] := by
  decide +kernel

/-- A pattern of lines of 16 bytes, 100 apart downwards. -/
def lines16 : Pattern := ⟨false, 1000, 16, -100⟩
theorem wit_CopiesStayInTheirWindows_pattern : 39 < 40 ∧ lines16.line ≤ 2 ^ 24 ∧ 0 ≤ (lines16.extent 40).1 ∧ lines16.extent 40 = (800, 1016)
    ∧ lines16.addr 39 = 807 := by decide +kernel
theorem wit_CopiesStayInTheirWindows_copy : (ringed).copyCheck 1 (copyDesc 64 0x1000 0x2000 0) = none
    ∧ ((withEntry (copyDesc 64 0x1000 0x2000 0)).take (.ring 1) 1).isSome ∧ ((withEntry (copyDesc 0 0x1000 0x2000 0)).take (.ring 1) 1).isSome
    ∧ (withEntry (copyDesc 64 0x1000 0x2000 0)).ewesen = false ∧ (ringed).patternFits 1 64 (srcPattern (copyDesc 64 0x20000 0x2000 0)) = false
    ∧ 2 ^ 24 < (srcPattern (desc 1 [(4, 4, 64), (32, 4, 2 ^ 24 + 1)])).line ∧ (ringed).copyCheck 1 copying.desc = none := by decide +kernel

theorem wit_TransfersAndAborts_burst : (ringed (inCopy copying)).nextXfer 0 = some (1, copying) ∧ copying.done < copying.total
    ∧ ((ringed (inCopy copying)).chan 0).aborting = [] ∧ (srcPattern copying.desc).hbm ∧ (dstPattern copying.desc).hbm ∧ (ringed).burstLen copying = 4096
    ∧ 1024 ≤ (ringed (inCopy copying)).get (Reg.DMA_CH_CFG 0) Fld.DMA_CH_CFG_RATE
    ∧ (srcPattern copying.desc).addr 4096 + 4096 ≤ State.hbmSize ∧ (ringed (inCopy copying)).poison = []
    ∧ (ringed).get (Reg.DMA_CH_STATUS 0) Fld.DMA_CH_STATUS_STATE ≠ 2 ∧ copying.short = false ∧ copying.cut = none ∧ copying.total = fieldAt copying.desc 4 4
    ∧ 64 ≤ (ringed).host.mrrs ∧ ((ringed (inCopy copying)).chan 0).abortOpen = false := by decide +kernel
theorem wit_TransfersAndAborts_awaits : Awaits (ringed (inCopy copying)) copying.ref :=
  ⟨⟨⟨0, 1, 0, false, none⟩, by decide +kernel, rfl⟩, by decide +kernel⟩
/-- A copy from the host into HBM with a burst outstanding. -/
def hostCopy : Xfer := { copying with desc := copyDesc 8192 0x1000 0x40000 2, busy := some 7 }
def reading7 : State := { ringed (inCopy hostCopy) with host := { (ringed (inCopy hostCopy)).host with reads := [⟨7, 0x2000, 4096, .burst 1 4096, false⟩] } }
theorem wit_TransfersAndAborts_read : reading7.host.reads = [⟨7, 0x2000, 4096, .burst 1 4096, false⟩] ∧ (reading7.ring 1).xfer = some hostCopy
    ∧ (srcPattern hostCopy.desc).hbm = false ∧ (dstPattern hostCopy.desc).hbm ∧ (reading7.chan 0).abortOpen = false ∧ 1 ∉ (reading7.chan 0).aborting
    ∧ (ringed (inCopy { hostCopy with busy := none })).hostFree ∧ (srcPattern hostCopy.desc).addr hostCopy.done % 64 + 4096 ≤ 4096
    ∧ hostCopy.cut = none ∧ hostCopy.done + 4096 ≤ hostCopy.total := by decide +kernel
/-- R349: a source that does not start at a multiple of 64 is read from the multiple below it, within its page. -/
theorem test_read_rounding :
    (after (.dmaBurst 0 10) (ringed (inCopy { hostCopy with desc := copyDesc 100 0x1010 0x40000 2, total := 100, done := 0, busy := none }))).host.reads.map
      (fun q => (q.addr, q.len)) = [(0x1000, 128)] := by decide +kernel
theorem test_read_error : ((after (.hostReadCompletion 7 .bus) reading7).ring 1).slots.map (fun l => l.result.map (fun c => (c.status, c.count, c.residue)))
      = [some (St.BAD_BUS, 4096, 4096)] ∧ (after (.completionTimeout 7) reading7).host.lateTags = [7] := by decide +kernel
theorem wit_TransfersAndAborts_abort : (ringed (inCopy copying)).served ∧ ((ringed (inCopy copying)).chan 0).abortOpen = false
    ∧ ((ringed (inCopy copying)).host.rings.map (·.1)) = [1] ∧ ((ringed (inCopy { copying with begun := false })).ring 1).cur = none
    ∧ copying.total - copying.done < 2 ^ 32 ∧ (ringed (inCopy copying)).beam = {} ∧ ((ringed { cur := some (8, [1, 2]) }).ring 1).cur = some (8, [1, 2])
    ∧ loading1.ringChannel 1 = 0 ∧ (loading1.chan 0).abortOpen = false ∧ (loading1.ring 1).cur = none ∧ ((ringed (inCopy copying)).ring 1).cur = none
    ∧ (put (ringed) [(Reg.DMA_CH_STATUS 0, Fld.DMA_CH_STATUS_STATE, 2)]).get (Reg.DMA_CH_STATUS 0) Fld.DMA_CH_STATUS_STATE = 2 := by decide +kernel

/-- A finished record of ring 1. -/
def record1 : CplRec := { tag := 9, status := St.BAD_BOUNDS, count := 5, residue := 2, aux := 3 }
def finished1 : RingSt := { slots := [⟨0, 1, 9, false, some record1⟩], nextId := 1 }
theorem wit_RecordsAndDelivery_record : ((ringed finished1).ring 1).slots.head? = some ⟨0, 1, 9, false, some record1⟩ ∧ (ringed finished1).hostFree
    ∧ (ringed finished1).ringCq 1 = 2 ∧ posDiff 16 ((ringed finished1).devPos 2) ((ringed finished1).hostPos 2) < 16
    ∧ ((ringed finished1).ring 2).armed = false ∧ ((ringed finished1 { armed := true }).ring 2).armed
    ∧ (ringed finished1 { armed := true }).get (Reg.RING_CQ 2) Fld.RING_CQ_COUNT = ((ringed finished1 { armed := true }).ring 2).since + 1
    ∧ bitAt (({ ringed finished1 with host := { (ringed finished1).host with msix := [(0, (0, 0, 0))] } } : State).vector 0).2.2 0 = false
    ∧ (asStandby (ringed finished1)).standby ∧ ((ringed finished1 { waiting := true }).ring 2).waiting
    ∧ ¬ posDiff 16 ((put (ringed finished1) [(Reg.RING_STATE 2, Fld.RING_STATE_DEV_POS, 0x10000)]).devPos 2) 0 < 16 := by decide +kernel
theorem test_record : ((after (.completionRecordWrite 1) (ringed finished1)).out.host.map (fun w => (w.addr, byteAt w.bytes 0, fieldAt w.bytes 12 2, byteAt w.bytes 15)))
    = [(0x3000, 9, St.BAD_BOUNDS, 1)] := by decide +kernel
def message1 : Msg := { producer := 8, bytes := zeros 100, full := .drops }
def delivering (m : Msg) : State :=
  put (ringed { msgs := [m], bufs := [⟨0, 0x4000, 128⟩], slots := [⟨0, 1, 9, false, none⟩], nextId := 1 }) [(Reg.RING_CFG 1, Fld.RING_CFG_TYPE, 1)]
theorem wit_RecordsAndDelivery_message : ((delivering message1).ring 1).msgs = [message1] ∧ ((delivering message1).ring 1).cur = none
    ∧ (delivering message1).ringState 1 = 1 ∧ (delivering message1).hostFree ∧ (delivering message1).cqRoom 2
    ∧ ((put (ringed { cur := some (8, [1, 2]), bufs := [⟨0, 0x4000, 128⟩] }) [(Reg.RING_CFG 1, Fld.RING_CFG_TYPE, 1)]).ring 1).bufs.length = 1
    ∧ (ringed { msgs := [{ message1 with full := .waits }, message1] }).hostFree ∧ (State.sealed message1 0).length = 100 ∧ State.bufsFor 129 [⟨0, 0x4000, 128⟩] = false ∧ ((ringed { msgs := [message1] }).ring 1).bufs = []
    ∧ ((ringed { msgs := [{ message1 with full := .waits }] }).ring 1).msgs = [{ message1 with full := .waits }]
    ∧ ((ringed).ring 1).msgs = [] ∧ (put (delivering message1) [(Reg.RING_STATE 1, Fld.RING_STATE_STATE, 3)]).ringState 1 = 3 := by decide +kernel
theorem test_delivery : ((after (.deliveryMessage 1) (delivering message1)).out.host.map (fun w => (w.addr, w.bytes.length))) = [(0x4000, 100)]
    ∧ ((after (.deliveryMessage 1) (ringed { msgs := [message1] })).get (Reg.RING_COUNT 1) Fld.RING_COUNT_DROPS) = 1 := by decide +kernel
theorem wit_RecordsAndDelivery_pcie : ({ ringed with pins := { (ringed).pins with perstN := true, pwrOk := true, loClk := true } } : State).pcieReady ∧ ({} : State).pcieReady = false
    ∧ (ringed).flag Reg.DMA_PCIE_STATUS Fld.DMA_PCIE_STATUS_LINK_UP ∧ live.flag Reg.DMA_PCIE_STATUS Fld.DMA_PCIE_STATUS_LINK_UP = false
    ∧ ({ ringed with host := { (ringed).host with pba := [3], msix := [(3, (0, 0, 0))] } } : State).host.pba = [3] := by decide +kernel

/-! ### Memory and the chip matrix -/

/-- A write of 32 bytes at 0x1000 and reads at 0 and 0x40, in pseudo-channel queues. -/
def pcOf (a : Nat) : Nat := (hbmMap a).pc
def part0 (write : Bool) : HbmPart := ⟨1, write, 0, 32, if write then List.replicate 32 (some 7) else []⟩
def read0 : Queued := { part := part0 false }
def queues (x : PcSt) : State := live.setPc (pcOf 0) x
theorem wit_HbmAddressMap : 0x1234567890 < State.hbmSize ∧ State.hbmSize - 1 < State.hbmSize ∧ 255 < 256 ∧ 191 < 192
    ∧ (hbmMap (State.hbmSize - 1)).row = 24575 := by decide +kernel
theorem wit_MemoryController_slot : ((queues {}).pcSt (pcOf 0)).waiting = [] ∧ (pcOf 0 < 192)
    ∧ (queues { due := [(3, 8)] }).pcSt (pcOf 0) = { due := [(3, 8)] } ∧ (∀ d ∈ ((queues { due := [(3, 7)], rq := [read0] }).pcSt (pcOf 0)).due, d.2 < 8)
    ∧ ((queues { nbr := [(2, 5)] }).pcSt (pcOf 0)).nbr = [(2, 5)] ∧ (part0 true).addr < State.hbmSize ∧ live.poison = []
    ∧ ((queues {}).pcSt (pcOf 0)).wq.length < 64 ∧ (part0 true).addr = 32 * 0 ∧ (part0 true).data.length = 32 ∧ (∀ x ∈ (part0 true).data, x.isSome)
    ∧ ((queues { wq := List.replicate 64 read0 }).pcSt (pcOf 0)).wq.length ≥ 64 := by decide +kernel
theorem test_refresh_eight : (mapFind ((after (.hbmCommandSlot ⟨pcOf 0, by decide +kernel⟩ 0 []) (queues { due := [(3, 8)], rq := [read0] })).pcSt (pcOf 0)).due 3)
    = some 7 := by decide +kernel
theorem test_row_hit : ((after (.hbmCommandSlot ⟨pcOf 0, by decide +kernel⟩ 0 []) (queues { rq := [read0], rows := [((hbmMap 0).bank, (hbmMap 0).row)] })).pcSt (pcOf 0)).issued.length
    = 1 := by
  decide +kernel
theorem wit_MemoryController_data : ¬ (live.twinOn ∧ live.role = 1) ∧ ((queues { issued := [read0] }).pcSt (pcOf 0)).issued = [read0]
    ∧ ((queues { issued := [{ read0 with master := some 4 }], ceAt := some 0 }).pcSt (pcOf 0)).ceAt = some 0 ∧ live.now.units < 0 + 65536000000000
    ∧ ((queues {}).pcSt (pcOf 0)).issued = [] ∧ (105 : Int) ≤ 105 ∧ live.sys.tripped = false
    ∧ (put live [(Reg.HBM_STATUS, Fld.HBM_STATUS_ALL_TRAINED, 1)]).flag Reg.HBM_STATUS Fld.HBM_STATUS_ALL_TRAINED
    ∧ Fld.HBM_CFG_SCRUB_EN.of ({ live with mem := { live.mem with cfg := 0xFFFF } } : State).mem.cfg = 1 := by decide +kernel
theorem test_read_poison : (after (.hbmReadData ⟨pcOf 0, by decide +kernel⟩ 0 { first := 2, second := 2 }) (queues { issued := [read0] })).poison = [0]
    ∧ (after (.hbmReadData ⟨pcOf 0, by decide +kernel⟩ 0 { first := 2, second := 2 }) (queues { issued := [read0] })).full (Reg.HBM_COUNT 1) = 1
    ∧ (after (.hbmReadData ⟨pcOf 0, by decide +kernel⟩ 0 {}) { queues { issued := [read0] } with poison := [0] }).full (Reg.HBM_COUNT 1) = 1 := by
  decide +kernel
/-- A write of half of burst 1 whose other bytes are read first. -/
def merging : Queued := { part := ⟨1, true, 32, 16, List.replicate 16 (some 9)⟩, rmw := [1] }
theorem wit_MemoryController_errors : ¬ (live.twinOn ∧ live.role = 1) ∧ partBursts (part0 false) = [0] ∧ (0 : Nat) ∉ read0.fwd
    ∧ ((queues { issued := [read0] }).pcSt (pcOf 0)).wq = [] ∧ merging.part.write ∧ merging.rmw ≠ []
    ∧ (32 * 0 < (part0 false).addr + (part0 false).len ∧ (part0 false).addr < 32 * 0 + 32) ∧ (hbmMap 0).pc = pcOf 0 ∧ (hbmMap 32).pc = pcOf 0 := by decide +kernel
/-- R377: the read of a partial write that finds an uncorrectable error poisons the burst, with WRITE set. -/
theorem test_rmw_error : (after (.hbmReadData ⟨pcOf 0, by decide +kernel⟩ 0 { first := 2, second := 2 }) (queues { issued := [merging] })).poison = [1]
    ∧ (after (.hbmReadData ⟨pcOf 0, by decide +kernel⟩ 0 { first := 2, second := 2 }) (queues { issued := [merging] })).full (Reg.HBM_COUNT 7) = 1
    ∧ (after (.hbmReadData ⟨pcOf 0, by decide +kernel⟩ 0 { first := 2, second := 2 }) (queues { issued := [merging] })).flag Reg.HBM_UE_INFO Fld.HBM_UE_INFO_WRITE := by
  decide +kernel
/-- R376: a read of a burst that a queued write holds is answered from the queue; a second write of it joins the first. -/
theorem test_queued_write :
    ((after (.hbmCommandSlot ⟨pcOf 0, by decide +kernel⟩ 0 [part0 true]) (queues { wq := [{ part := part0 true }], rq := [read0], rows := [((hbmMap 0).bank, (hbmMap 0).row)] })).pcSt (pcOf 0)).wq.length = 1
    ∧ ((after (.hbmCommandSlot ⟨pcOf 0, by decide +kernel⟩ 0 [part0 false]) (queues { due := [(3, 8)], wq := [{ part := part0 true }] })).pcSt (pcOf 0)).rq = [] := by
  decide +kernel
def poisoned0 : State := { queues {} with poison := [0] }
theorem wit_MemoryController_partial : 0 ∈ poisoned0.poison ∧ ¬ (poisoned0.twinOn ∧ poisoned0.role = 1) ∧ (poisoned0.pcSt (pcOf 0)).waiting = []
    ∧ (1 ≤ (List.replicate 16 (some (9 : Byte))).length ∧ (List.replicate 16 (some (9 : Byte))).length < 32) := by decide +kernel
theorem wit_MemoryController_parity : (mapFind ({ live with mem := { live.mem with reissue := [(7, 2)] } } : State).mem.reissue 7).getD 0 = 2
    ∧ (mapFind live.mem.reissue 7).getD 0 = 0 := by decide +kernel
theorem test_parity : (after (.hbmParityError ⟨7, 3⟩) { live with mem := { live.mem with reissue := [(7, 2)] } }).poison = [7]
    ∧ (after (.hbmParityError ⟨7, 3⟩) live).full (Reg.HBM_COUNT 5) = 1 := by decide +kernel
theorem test_temp : (after (.hbmTempRead 2 100) live).get (Reg.HBM_STATUS) Fld.HBM_STATUS_HOT = 4 ∧ (after (.hbmTempRead 2 105) live).sys.tripped := by
  decide +kernel

/-- A request of one beat. -/
def mreq (m : Fin 24) (c : Fin 4) (sp : Fin 4) (a : Nat) (w : Bool) : MatrixReq := ⟨m, c, sp, a, w, 1, if w then List.replicate 64 5 else []⟩
/-- A state with requests waiting and bursts in progress at the matrix. -/
def xbarOf (w a : List (Nat × MatrixReq)) : State := { ringed with xbar := { waiting := w, active := a } }
theorem wit_MatrixGrantsAndResets_pick : (∀ w ∈ (xbarOf [(13, mreq 23 2 3 0x100000 false), (13, mreq 23 0 3 0x100000 false), (13, mreq 5 1 3 0x100000 false)] []).xbar.active, w.1 ≠ 13)
    ∧ (xbarOf [(13, mreq 23 2 3 0x100000 false)] []).xbar.waiting[0]? = some (13, mreq 23 2 3 0x100000 false)
    ∧ (xbarOf [(13, mreq 23 2 3 0x100000 false)] []).hbmRoom 13 (mreq 23 2 3 0x100000 false) := by decide +kernel
/-- R34: a later request of a lower class goes before an older one of the same master in another block. -/
theorem test_matrix_younger : (after (.matrixGrant 13 [] .clean) (xbarOf [(13, mreq 23 2 3 0x100000 false), (13, mreq 23 0 3 0x101000 false)] [])).xbar.waiting
    = [(13, mreq 23 2 3 0x100000 false)] := by decide +kernel
theorem test_matrix_class : (after (.matrixGrant 13 [] .clean) (xbarOf [(13, mreq 23 2 3 0x100000 false), (13, mreq 5 1 3 0x100000 false)] [])).xbar.waiting
    = [(13, mreq 23 2 3 0x100000 false)] := by decide +kernel
theorem wit_MatrixGrantsAndResets_targets : State.requestOk (mreq 23 0 3 0x100000 false) ∧ ((xbarOf [] []).matrixTarget (mreq 23 0 3 0x100000 false)) = (13, 0)
    ∧ ((xbarOf [] []).matrixTarget (mreq 23 0 3 0x100000 true)) = (13, 0) ∧ ((xbarOf [] []).matrixTarget (mreq 23 0 3 0 false)) = (12, 0)
    ∧ ((xbarOf [] []).matrixTarget (mreq 23 0 3 0x200000 false)) = (16, 0x200000) ∧ ((xbarOf [] []).matrixTarget (mreq 0 0 2 0x3FFFFFC false)).1 = 16
    ∧ ((xbarOf [] []).matrixTarget (mreq 1 0 1 0x80 false)) = (15, 0x80) ∧ (xbarOf [] []).hostFree ∧ (xbarOf [] []).tagFree
    ∧ ((xbarOf [] []).matrixTarget (mreq 5 0 0 0 false)).1 < 12 ∧ ((xbarOf [] []).pcSt (pcOf 0)).waiting = [] ∧ ((xbarOf [] []).pcSt (pcOf 0)).rq.length < 64
    ∧ ((xbarOf [] []).matrixTarget (mreq 23 0 3 0 true)) = (12, 0) ∧ (xbarOf [] []).hbmRoom 0 (mreq 5 0 0 0 false) ∧ (xbarOf [] []).poison = [] := by decide +kernel
/-- A queued write of the 64 bytes that a request reads. -/
def behindWrite : State := (xbarOf [] []).setPc (pcOf 0) { wq := [{ part := ⟨1, true, 0, 64, List.replicate 64 (some 7)⟩ }] }
theorem wit_MatrixGrantsAndResets_held : (partBursts ⟨1, false, 0, 64, []⟩).filter (fun b => (behindWrite.pcSt (pcOf 0)).wq.any (fun w => (partBursts w.part).contains b))
    = partBursts ⟨1, false, 0, 64, []⟩ ∧ (behindWrite.pcSt (pcOf 0)).waiting = [] ∧ behindWrite.poison = [] ∧ (behindWrite.matrixTarget (mreq 5 0 0 0 false)).1 < 12 := by
  decide +kernel
theorem test_matrix_decode : (after (.matrixGrant 16 [mreq 0 0 2 0x3FFFFFC false] .clean) (xbarOf [] [])).full (Reg.XBAR_COUNT 0) = 1
    ∧ (after (.matrixGrant 16 [mreq 0 0 2 0x3FFFFFC false] .clean) (xbarOf [] [])).xbar.responses = [(0, some [0, 0, 0, 0])] := by decide +kernel
theorem wit_MatrixGrantsAndResets_register : (blockOf Reg.INGEST_CTL).isSome ∧ Reg.INGEST_CTL % 4 = 0 ∧ Reg.INGEST_CTL < 67108864
    ∧ Reg.INGEST_CTL ∉ [Reg.HARROW_DC_RE, Reg.WEED_PROBE_SK, Reg.TIME_NOW_NS, Reg.REF_BUILDOUT_LO, Reg.ADC_QUEUE_ENTRY]
    ∧ Reg.INGEST_CTL < Reg.ETH_STR_SEQ_LO 0 := by decide +kernel
theorem wit_MatrixGrantsAndResets_bursts : (xbarOf [] [(13, mreq 23 0 3 0 true)]).xbar.active = [(13, mreq 23 0 3 0 true)]
    ∧ (xbarOf [] [(13, mreq 23 0 3 0 true)]).xbar.waiting = [] ∧ (xbarOf [] [(15, mreq 1 0 1 0x80 true)]).hostFree
    ∧ ((xbarOf [] [(0, mreq 5 0 0 0 true)]).pcSt (pcOf 0)).wq.length < 64 ∧ (xbarOf [] []).poison = [] := by decide +kernel
theorem wit_MatrixGrantsAndResets_resets : (xbarOf [] []).served ∧ (xbarOf [] []).host.reads = [] ∧ (xbarOf [] []).mem.pcs = []
    ∧ (xbarOf [] [(13, mreq 4 0 3 0 true)]).xbar.active.filter (fun w => w.2.master == 4) = [(13, mreq 4 0 3 0 true)]
    ∧ (xbarOf [(13, mreq 4 2 3 0 true)] []).xbar.waiting = [] ++ (13, mreq 4 2 3 0 true) :: []
    ∧ (({ live with mem := { live.mem with pcs := [(3, { issued := [{ read0 with master := some 4 }] })] } } : State).mem.pcs.map (·.1)) = [3]
    ∧ ((xbarOf [] [(0, mreq 4 0 0 0 true)]).xbar.active.map (fun w => (w.2.write, w.2.space, w.2.beats))) = [(true, 0, 1)]
    ∧ (xbarOf [(13, mreq 5 2 3 0 true), (13, mreq 4 2 3 0 true)] []).xbar.waiting = [(13, mreq 5 2 3 0 true)] ++ (13, mreq 4 2 3 0 true) :: [] := by decide +kernel
theorem test_promotion : ((after (.matrixPromotion ⟨4, 0⟩) (xbarOf [(13, mreq 4 2 3 0 true)] [])).xbar.waiting.map (fun w => w.2.cls.val)) = [1]
    ∧ ((after (.matrixPromotion ⟨4, 0⟩) (xbarOf [(13, mreq 4 0 3 0 true)] [])).xbar.waiting.map (fun w => w.2.cls.val)) = [0] := by decide +kernel
theorem test_mrst : (after (.xbarMrst 16 1) (xbarOf [(13, mreq 4 2 3 0 true)] [])).xbar.responses = [(4, none)] := by decide +kernel

/-! ### References and clock outputs -/

/-- The reference unit runs: reference 0 qualified and selected, in a state, with more fields set. -/
def loop (st : Nat) (l : List (Nat × Fld × Nat)) (x : RefSt := {}) : State :=
  { put live ([(Reg.REF_CTL, Fld.REF_CTL_RUN, 1), (Reg.REF_STATUS, Fld.REF_STATUS_STATE, st), (Reg.REF_STATUS, Fld.REF_STATUS_SELECTED, 0),
    (Reg.REF_STATUS, Fld.REF_STATUS_QUAL, 1), (Reg.REF_IN_CFG 0, Fld.REF_IN_CFG_EN, 1), (Reg.REF_IN_CFG 0, Fld.REF_IN_CFG_RANK, 1),
    (Reg.REF_IN_CFG 1, Fld.REF_IN_CFG_RANK, 1), (Reg.REF_IN_STATUS 0, Fld.REF_IN_STATUS_STATE, 3), (Reg.REF_CFG, Fld.REF_CFG_CHOSEN, 6)] ++ l) with ref := x }
/-- Fields that put the loop in a switch, into a freeze, or have it choose nothing. -/
def switching : Nat × Fld × Nat := (Reg.REF_STATUS, Fld.REF_STATUS_SWITCHING, 1)
def frozen : Nat × Fld × Nat := (Reg.REF_CTL, Fld.REF_CTL_FREEZE, 1)
def chosen (n : Nat) : Nat × Fld × Nat := (Reg.REF_CFG, Fld.REF_CFG_CHOSEN, n)

theorem wit_ReferenceMonitoringAndLoop_choice : (loop 2 [chosen 7]).refChosen = 7 ∧ (loop 2 [chosen 0]).refChosen ≤ 5 ∧ (loop 2 [chosen 0]).refQual 0
    ∧ (loop 2 []).refChosen = 6 ∧ (loop 2 [(Reg.REF_STATUS, Fld.REF_STATUS_QUAL, 3)]).refRank 1 = 1 ∧ (loop 2 []).refChoose [] = some 0
    ∧ (loop 2 []).refChoose [0] = none := by decide +kernel
/-- R407: with equal ranks the smaller offset wins by more than 1,000 ppt, else the lowest number. -/
theorem test_choice : (put (loop 2 [(Reg.REF_STATUS, Fld.REF_STATUS_QUAL, 3)]) [(Reg.REF_IN_OFFSET 0, ⟨0, 32⟩, 1001)]).refChoose [] = some 1
    ∧ (put (loop 2 [(Reg.REF_STATUS, Fld.REF_STATUS_QUAL, 3)]) [(Reg.REF_IN_OFFSET 0, ⟨0, 32⟩, 1000)]).refChoose [] = some 0 := by decide +kernel
theorem wit_ReferenceMonitoringAndLoop_loop : (loop 2 []).refState = 2 ∧ (loop 2 []).refSel = 0 ∧ (loop 2 []).refSwitching = false ∧ (loop 2 []).refFrozen = false
    ∧ (loop 2 []).refRun ∧ (live).refRun = false ∧ (loop 1 []).refState = 1 ∧ (loop 2 [frozen]).refFrozen ∧ (loop 2 [] { large := 99999 }).ref.large < 100000
    ∧ 8 * refThetaLock 0 < (20000 : Int).natAbs := by decide +kernel
theorem wit_ReferenceMonitoringAndLoop_second : (loop 2 []).dacOwned = false ∧ (loop 2 []).ref.serving = none ∧ (loop 2 []).ref.selects = []
    ∧ (loop 2 []).ref.ins.length = 6 ∧ (loop 2 []).flag (Reg.REF_IN_CFG 1) Fld.REF_IN_CFG_EN = false ∧ (loop 2 []).refSeen 0 (some 5) = some 5
    ∧ (loop 2 []).refSeen 0 none = none ∧ (loop 0 []).refState = 0 ∧ (loop 3 []).refState = 3 ∧ (loop 3 [switching]).refSwitching
    ∧ (loop 2 [switching]).ref.excl = [] ∧ (loop 2 [chosen 7]).refChosen = 7 := by decide +kernel
theorem test_second : (after (.monitorSecond [none, none, none, none, none, none]) (loop 2 [])).refState = 3
    ∧ (after (.monitorSecond [none, none, none, none, none, none]) (loop 2 [])).get (Reg.REF_IN_STATUS 0) Fld.REF_IN_STATUS_CAUSE = 3
    ∧ (after (.monitorSecond [some 5, none, none, none, none, none]) (loop 2 [])).refState = 2 := by decide +kernel
theorem wit_ReferenceMonitoringAndLoop_rest : (loop 2 [(Reg.REF_STATUS, Fld.REF_STATUS_HIST_VALID, 1)] { samples := [3] }).flag Reg.REF_STATUS Fld.REF_STATUS_HIST_VALID
    ∧ (loop 2 []).flag Reg.REF_STATUS Fld.REF_STATUS_HIST_VALID = false ∧ (loop 2 []).refInState 0 = 3 ∧ (loop 2 []).refInState 1 < 2
    ∧ (loop 1 []).refRun ∧ (toS 32 ((loop 1 []).full Reg.REF_PHASE)).natAbs < refThetaLock 0
    ∧ (loop 3 [(Reg.REF_HO, Fld.REF_HO_MAX_MIN, 1)]).get Reg.REF_HO Fld.REF_HO_MAX_MIN ≠ 0 ∧ (loop 2 [switching]).refSwitching
    ∧ (loop 2 [(Reg.REF_HO, Fld.REF_HO_MAX_MIN, 0)]).get Reg.REF_HO Fld.REF_HO_MAX_MIN = 0 := by decide +kernel
/-- A switch that serves the command of ring 1's slot 0. -/
def served1 : State := (loop 2 [switching] { serving := some (.slot 1 0) }).setRing 1 { slots := [⟨0, 1, 9, false, none⟩], nextId := 1 }
theorem wit_ReferenceMonitoringAndLoop_served : served1.ref.serving = some (.slot 1 0) ∧ Awaits served1 (.slot 1 0) :=
  ⟨rfl, ⟨⟨0, 1, 9, false, none⟩, by decide +kernel, rfl⟩, by decide +kernel⟩
theorem test_buildout : (after (.buildoutComplete 100007) (loop 2 [switching, (Reg.REF_IN_CFG 0, Fld.REF_IN_CFG_FREQ, 1)])).ref.buildout = 7
    ∧ (after (.buildoutComplete (-1)) (loop 2 [switching, (Reg.REF_IN_CFG 0, Fld.REF_IN_CFG_FREQ, 1)])).ref.buildout = 99999 := by decide +kernel

def refDesc (op c : Nat) : List Byte := desc op [(36, 1, c)]
theorem wit_ReferenceCommandsAndPulses_stopped : handedOk live (refDesc 0x60 0) ∧ handedOk live (refDesc 0x61 0) ∧ handedOk live (refDesc 0x62 0)
    ∧ handedOk live (refDesc 0x63 0) ∧ handedOk live (refDesc 0x64 0) ∧ (begun live (refDesc 0x60 0)).refRun = false := by decide +kernel
theorem wit_ReferenceCommandsAndPulses_select : handedOk (loop 2 []) (refDesc 0x60 0) ∧ handedOk (loop 2 []) (refDesc 0x60 8) ∧ handedOk (loop 2 []) (refDesc 0x60 1)
    ∧ (begun (loop 2 []) (refDesc 0x60 1)).refQual 1 = false ∧ handedOk (loop 2 [switching]) (refDesc 0x60 0) ∧ handedOk (loop 2 [frozen]) (refDesc 0x60 0)
    ∧ ((begun (loop 2 []) (refDesc 0x60 0)).set Reg.REF_CFG Fld.REF_CFG_CHOSEN 0).refChoose [] = some 0
    ∧ ((begun (loop 2 []) (refDesc 0x60 7)).set Reg.REF_CFG Fld.REF_CFG_CHOSEN 7).refChoose [] = none
    ∧ ((begun (loop 2 [(Reg.REF_STATUS, Fld.REF_STATUS_QUAL, 3)]) (refDesc 0x60 1)).set Reg.REF_CFG Fld.REF_CFG_CHOSEN 1).refChoose [] = some 1
    ∧ (loop 2 []).dacOwned = false := by decide +kernel
theorem test_select : (after (.refSelect (.ring 1)) (posted (loop 2 []) (refDesc 0x60 7))).refState = 3
    ∧ (after (.refSelect (.ring 1)) (posted (loop 2 []) (refDesc 0x60 1))).refChosen = 1 := by decide +kernel
theorem wit_ReferenceCommandsAndPulses_set : handedOk (loop 2 []) (desc 0x61 [(36, 1, 5), (37, 1, 15), (39, 1, 7), (40, 2, 3), (42, 2, 3)])
    ∧ handedOk (loop 2 []) (desc 0x61 [(36, 1, 6)]) ∧ handedOk (loop 2 []) (desc 0x61 [(36, 1, 5), (37, 1, 4), (40, 2, 3), (42, 2, 2)])
    ∧ handedOk (loop 2 []) (refDesc 0x62 12) ∧ handedOk (loop 2 []) (refDesc 0x62 13)
    ∧ handedOk (loop 2 [(Reg.REF_STATUS, Fld.REF_STATUS_SELECTED, 2)]) (refDesc 0x62 5)
    ∧ (begun (loop 2 [(Reg.REF_STATUS, Fld.REF_STATUS_SELECTED, 2)]) (refDesc 0x62 5)).refSel = 2 ∧ refWidest 2 < 5
    ∧ handedOk (loop 2 []) (desc 0x63 [(40, 4, 9), (44, 1, 3)]) := by decide +kernel
theorem test_bw : (after (.refBw (.ring 1)) (posted (loop 2 []) (refDesc 0x62 9))).get Reg.REF_STATUS Fld.REF_STATUS_BW = 9
    ∧ (after (.refSet (.ring 1)) (posted (loop 2 []) (desc 0x61 [(36, 1, 5), (37, 1, 2), (39, 1, 6)]))).refRank 5 = 6 := by decide +kernel
def aligning : State := (loop 2 [] { aligns := [(.slot 1 0, 40, 3)] }).setRing 1 { slots := [⟨0, 1, 9, false, none⟩], nextId := 1 }
theorem wit_ReferenceCommandsAndPulses_align : aligning.ref.aligns = [(.slot 1 0, 40, 3)] ∧ Awaits aligning (.slot 1 0) ∧ (loop 2 []).ref.aligns = [] :=
  ⟨rfl, ⟨⟨⟨0, 1, 9, false, none⟩, by decide +kernel, rfl⟩, by decide +kernel⟩, rfl⟩
theorem test_align : ((after .refAlignTimeout aligning).ring 1).slots.map (fun l => l.result.map (·.status)) = [some St.REF_NO_PULSE]
    ∧ (after .alignmentPulse aligning).ref.pulseTicks = 40 := by decide +kernel
theorem wit_ReferenceCommandsAndPulses_outputs : handedOk (loop 2 []) (desc 0x64 [(36, 1, 3)]) ∧ handedOk (loop 2 []) (desc 0x64 [(36, 1, 3), (37, 1, 1)])
    ∧ handedOk (loop 2 [] { outRun := 3 }) (desc 0x64 [(36, 1, 3), (37, 1, 1)]) ∧ (begun (loop 2 [] { outRun := 3 }) (desc 0x64 [(36, 1, 3)])).ref.outCmds = []
    ∧ (loop 2 [] { aligned := [.slot 1 0] }).ref.aligned = [.slot 1 0] ∧ (loop 2 [] { outCmds := [(.slot 1 0, 3)] }).ref.outCmds = [(.slot 1 0, 3)]
    ∧ (loop 2 []).refSel < 6 ∧ (loop 2 [] { fallback := true }).ref.fallback ∧ (loop 2 []).ref.fallback = false ∧ live.isReady ∧ ({} : State).isReady = false := by
  decide +kernel
theorem test_outputs : (after .ppsOutEdge (after (.refOutSet (.ring 1)) (posted (loop 2 []) (desc 0x64 [(36, 1, 3), (37, 1, 1)])))).ref.outRun = 3
    ∧ (after (.refOutSet (.ring 1)) (posted (loop 2 [] { outRun := 7 }) (desc 0x64 [(36, 1, 3)]))).ref.outRun = 4 := by decide +kernel
/-- RUN from reset: the register resets are a configuration that runs; with HARD below SOFT it is not. -/
theorem wit_ReferenceCommandsAndPulses_run : live.served ∧ live.refRun = false ∧ (live.refCfgErr).1 = 0 ∧ (loop 2 []).served ∧ (loop 2 []).ref.outCmds = []
    ∧ ((put live [(Reg.REF_IN_WIN 3, Fld.REF_IN_WIN_SOFT_PPB, 5), (Reg.REF_IN_WIN 3, Fld.REF_IN_WIN_HARD_PPB, 4)]).refCfgErr).1 = 4
    ∧ ((put live [(Reg.REF_OUT_CFG 2, Fld.REF_OUT_CFG_EN, 1), (Reg.REF_OUT_CFG 2, Fld.REF_OUT_CFG_DIV, 3)]).refCfgErr).1 = 1
    ∧ ((put live [(Reg.REF_SYNC, ⟨0, 32⟩, 3)]).refCfgErr).1 = 2 ∧ ((put live [(Reg.REF_CFG, Fld.REF_CFG_BW, 13)]).refCfgErr).1 = 3
    ∧ ((put live [(Reg.REF_CFG, Fld.REF_CFG_EFC_EN, 1), (Reg.REF_EFC, Fld.REF_EFC_GAIN, 0)]).refCfgErr).1 = 5 := by decide +kernel
theorem test_run : (after (.refCtlRun true) live).refRun ∧ (after (.refCtlRun false) (loop 2 [])).refSel = 7 := by decide +kernel
theorem test_freeze : (after (.refCtlFreeze false) (loop 2 [frozen])).refSwitching ∧ (after (.refCtlFreeze true) (loop 2 [])).refFrozen := by decide +kernel

/-! ### Time and the almanac -/

/-- The servo disciplined by commands, with its counter at 5 s; the registers set are in force. -/
def timed (l : List (Nat × Fld × Nat)) (x : TimeSt := {}) : State :=
  let s := put live ([(Reg.TIME_CFG, Fld.TIME_CFG_SRC, 3), (Reg.TIME_JUMP, Fld.TIME_JUMP_NS, 1000)] ++ l)
  { s with time := { x with regs := s.regs }, clock := ⟨5, 999999998, 0⟩ }
/-- A slot of ring 1 awaited. -/
def awaiting (s : State) : State := s.setRing 1 { slots := [⟨0, 1, 9, false, none⟩], nextId := 1 }
theorem awaits_slot (s : State) : Awaits (awaiting s) (.slot 1 0) := by
  have h : (awaiting s).ring 1 = { slots := [⟨0, 1, 9, false, none⟩], nextId := 1 } := by
    unfold awaiting State.ring State.setRing
    rw [mapFind_mapSet_same]
  exact ⟨⟨⟨0, 1, 9, false, none⟩, by rw [h]; exact List.mem_cons_self, rfl⟩, by rw [h]; decide⟩

/-- R426: a tick of 4 ns carries into the seconds. -/
theorem test_tick : (after .timeBaseTick (timed [])).clock = ⟨6, 2, 0⟩ := by decide +kernel
theorem wit_TimeCounterAndServo_tick : (timed []).clock.ns < 1000000000 ∧ (timed []).clock.frac < 2 ^ 32 ∧ (timed []).clock.sec < 2 ^ 48 ∧ (timed []).time.jobs = []
    ∧ (awaiting (timed [] { jobs := [(.slot 1 0, 0, ⟨7, 5, 3⟩)] })).time.jobs = [(.slot 1 0, 0, ⟨7, 5, 3⟩)]
    ∧ (timed []).refRun = false ∧ (loop 2 [(Reg.REF_STATUS, Fld.REF_STATUS_SELECTED, 4)]).refSel = 4 := by decide +kernel
theorem test_step_set : (after .timeBaseTick (awaiting (timed [] { jobs := [(.slot 1 0, 0, ⟨7, 5, 3⟩)] }))).clock = ⟨7, 5, 3 * 65536⟩
    ∧ (after .timeBaseTick (awaiting (timed [] { jobs := [(.slot 1 0, 2, ⟨0, 2, 0⟩)] }))).clock = ⟨6, 0, 0⟩ := by decide +kernel
theorem wit_TimeCounterAndServo_edge : (timed [(Reg.TIME_CFG, Fld.TIME_CFG_SRC, 1)]).timeGet Reg.TIME_CFG Fld.TIME_CFG_SRC = (0 : Fin 2).val + 1
    ∧ (timed []).timeGet Reg.TIME_CFG Fld.TIME_CFG_SRC ≠ (0 : Fin 2).val + 1 ∧ (timed [] { stepTick := some 0, tick := 1 }).time.stepTick = some 0
    ∧ (timed [] { tick := 5 }).time.stepTick = none ∧ ((timed []).edgeTime 0) = ⟨5, 999999998, 0⟩
    ∧ (timed []).timeGet Reg.TIME_JUMP Fld.TIME_JUMP_NS * 65536 < (70000000 : Int).natAbs
    ∧ (-2 * 65536 - (((timed []).edgeTime 0).ns * 65536 + ((timed []).edgeTime 0).frac - toS 32 ((timed []).timeFull Reg.TIME_PPS_OFS) * 65536) : Int) % 65536000000000 = 0
    := by decide +kernel
theorem wit_TimeCounterAndServo_commands : handedOk (timed []) (desc 0x68 [(42, 4, 999999999)]) ∧ handedOk (timed []) (desc 0x68 [(42, 4, 1000000000)])
    ∧ (stampAt (desc 0x68 [(42, 4, 1000000000)]) 40).ns = 1000000000 ∧ handedOk (timed []) (desc 0x69 [(42, 4, 5), (36, 1, 1)])
    ∧ handedOk (timed []) (desc 0x6A [(40, 8, 200 * 65536)]) ∧ handedOk (timed []) (desc 0x6A [(36, 1, 1)]) ∧ handedOk live (desc 0x6A [])
    ∧ toS 64 (fieldAt (desc 0x6A [(40, 8, 200 * 65536)]) 40 8) = 200 * 65536 ∧ (timed []).get Reg.TIME_STATUS Fld.TIME_STATUS_STEP_COUNT = 0
    ∧ (timed [(Reg.TIME_CFG, Fld.TIME_CFG_BW, 4), (Reg.TIME_LIMITS, Fld.TIME_LIMITS_ADJ_MAX_PPB, 20000)]).time.servoI = 0
    ∧ handedOk (timed []) (desc 0x6A [(40, 8, 1001 * 65536)]) := by decide +kernel
theorem wit_TimeCounterAndServo_servo : handedOk live (desc 0x6B [(36, 1, 1), (37, 1, 4)]) ∧ handedOk live (desc 0x6B [(36, 1, 4)])
    ∧ handedOk live (desc 0x6B [(36, 1, 1), (37, 1, 9)]) ∧ bwF 4 ≤ 10000 ∧ 10000 < bwF 5 ∧ toS 8 (byteAt (desc 0x6B [(38, 1, 0xF9)]) 38) = -7
    ∧ (live).timeGet Reg.TIME_CFG Fld.TIME_CFG_SRC = 0 ∧ live.served ∧ live.isReady := by decide +kernel
theorem test_time_reads : (after .timeNowNsRead (timed [])).readData = 999999998 ∧ (after .timeNowNsRead (timed [])).full Reg.TIME_NOW_SEC_LO = 5
    ∧ (after .servoCoast (timed [])).flag Reg.TIME_STATUS Fld.TIME_STATUS_COASTING := by decide +kernel
/-- R429: a THETA beyond JUMP_NS is refused and counted. -/
theorem test_offset : (after (.timeOffset (.ring 1)) (posted (timed []) (desc 0x6A [(40, 8, 1001 * 65536)]))).full (Reg.TIME_COUNT 0) = 1
    ∧ (after (.timeOffset (.ring 1)) (posted (timed []) (desc 0x6A [(36, 1, 1)]))).full (Reg.TIME_COUNT 1) = 1 := by decide +kernel

/-- TIME_EVT pin 1 captures; pin 2 is driven. -/
def pinned (l : List (Nat × Fld × Nat)) (x : TimeSt := {}) : State :=
  timed ([(Reg.TIME_EVT_CFG 1, Fld.TIME_EVT_CFG_EN, 1), (Reg.TIME_EVT_CFG 2, Fld.TIME_EVT_CFG_OUT, 1), (Reg.TIME_EVT_CFG 2, Fld.TIME_EVT_CFG_EN, 1),
    (Reg.TIME_EVT_CFG 3, Fld.TIME_EVT_CFG_OUT, 1), (Reg.TIME_CAP, Fld.TIME_CAP_RING, 1),
    (Reg.RING_STATE 1, Fld.RING_STATE_STATE, 1)] ++ l) x
theorem wit_PinsAndAlmanac_edge : (pinned []).timeFlag (Reg.TIME_EVT_CFG 1) Fld.TIME_EVT_CFG_EN ∧ (pinned []).pinOut 1 = false
    ∧ (pinned []).timeGet (Reg.TIME_EVT_CFG 1) Fld.TIME_EVT_CFG_EDGE = 0 ∧ ((pinned []).evtPin 1).lastEdge = none ∧ (pinned []).time.pins.length = 4
    ∧ (pinned [] { pins := [{}, { lastEdge := some (5999999998 * 65536) }, {}, {}] }).time.pins.length = 4
    ∧ (((pinned []).edgeTime 0).units : Int) = 5999999998 * 65536 ∧ bitAt ((pinned []).get Reg.GLEAN_CFG Fld.GLEAN_CFG_TRIG) 3 = false
    ∧ (pinned [(Reg.TIME_CAP, Fld.TIME_CAP_EN, 1)]).timeFlag Reg.TIME_CAP Fld.TIME_CAP_EN ∧ (pinned []).ringState 1 = 1 ∧ (pinned []).sys.keptReset = false
    ∧ (pinned [(Reg.ADC_CFG, Fld.ADC_CFG_ENABLE, 1), (Reg.TIME_EVT_CFG 1, Fld.TIME_EVT_CFG_ADC, 1)]).adcOn ∧ (pinned []).adcSeq = false
    ∧ ((pinned [] { pins := [{}, {}, { pulse := some (9, ⟨0, 0, 0⟩) }, {}] }).evtPin 2).pulse = some (9, ⟨0, 0, 0⟩) := by decide +kernel
theorem test_capture : ((after (.timeEvtEdge 1 0 false) (pinned [(Reg.TIME_CAP, Fld.TIME_CAP_EN, 1)])).ring 1).msgs.map (fun m => (m.producer, m.bytes.length)) = [(0x11, 32)]
    ∧ (after (.timeEvtEdge 1 0 false) (after (.timeEvtEdge 1 0 false) (pinned []))).full (Reg.TIME_COUNT 3) = 1 := by decide +kernel
/-- An entry image: flags, action, target, time of the key in s and ns, period, param, descriptor. -/
def image (flags action target sec ns period param : Nat) (d : List Byte := zeros 64) : List Byte :=
  le 1 flags ++ le 1 action ++ le 1 target ++ zeros 1 ++ (le 2 0 ++ le 4 ns ++ le 6 sec) ++ le 8 period ++ le 4 param ++ zeros 36 ++ d
def almDesc (n : Nat) : List Byte := desc 0x70 [(24, 8, 0x1000), (36, 1, n)]
def almState : State := put (pinned []) [(Reg.RING_HWIN_PAGES 1, ⟨0, 32⟩, 16)]
theorem wit_PinsAndAlmanac_set : handedOk almState (almDesc 255) ∧ handedOk (pinned []) (almDesc 255) ∧ (begun almState (almDesc 255)).inHostWin 1 0x1000 0x1080
    ∧ (image 0 1 2 6 0 0 9).length = 128 ∧ (image 0 1 2 6 0 0 9 |> fun b => (stampAt b 4).ns < 1000000000) ∧ (stampAt (image 0 1 2 6 1000000000 0 9) 4).ns = 1000000000
    ∧ ((begun almState (almDesc 255)).almMark false).almNext.isNone ∧ (∀ x ∈ (begun almState (almDesc 255)).alm.execs, x.entry < 256) ∧ AlmImage.period (image 0 0 0 6 0 1023 0) = 1023
    ∧ ({ begun almState (almDesc 9) with alm := { last := some (0, 9) } } : State).alm.last = some ((begun almState (almDesc 9)).time.tick, 9)
    ∧ handedOk almState (desc 0x71 [(36, 1, 9)]) ∧ handedOk almState (desc 0x71 [(37, 1, 1)]) := by decide +kernel
theorem test_alm_set : (after (.almSet (.ring 1) (.data (image 0 1 2 6 0 0 9))) (posted almState (almDesc 255))).alm.entries.map (fun e => (e.1, e.2.late)) = [(255, false)]
    ∧ (after (.almSet (.ring 1) (.data (image 0 0 0 5 0 0 0))) (posted almState (almDesc 3))).alm.entries.map (fun e => (e.1, e.2.late)) = [(3, true)] := by decide +kernel
/-- Entry 7 is due, of an action; entry 9 has the same key. -/
def firing (action target period param : Nat) (l : List (Nat × Fld × Nat)) (d : List Byte := zeros 64) : State :=
  { pinned l with alm := { entries := [(7, { image := image 0 action target 5 3 period param d, ring := 1, dueAt := some 0 }),
    (9, { image := image 0 0 0 5 3 0 0, ring := 1, dueAt := some 0 })] } }
theorem wit_PinsAndAlmanac_fire : (((firing 0 0 0 0 []).almMark false).almNext.map (·.1)) = some 7 ∧ (∀ x ∈ (firing 0 0 0 0 []).alm.entries, x.1 < 256)
    ∧ (image 0 0 0 5 3 0 0).length = 128 ∧ (firing 1 2 0 9 []).pinDriven 2 ∧ (firing 1 3 0 9 []).pinOut 3 ∧ (firing 1 3 0 9 []).pinDriven 3 = false
    ∧ (firing 4 0 0 0 [(Reg.ADC_CFG, Fld.ADC_CFG_ENABLE, 1)]).adcOn
    ∧ (firing 0 0 0 0 []).almReached false ((stampAt (image 0 0 0 5 3 0 0) 4).units + 65536000000000) = false
    ∧ (firing 0 0 1024 0 []).almReached false ((stampAt (image 0 0 0 5 3 0 0) 4).units + 1024 * 65536)
    ∧ descVersion (AlmImage.desc (image 0 6 0 5 3 0 0 (desc 0x60 []))) = 2
    ∧ (({ firing 4 0 0 0 [] with sys := { (firing 4 0 0 0 []).sys with keptReset := true } } : State).sys.keptReset) := by decide +kernel
theorem test_fire : (after .almanacFiring (firing 2 2 0 1 [])).alm.entries.map (·.1) = [9] ∧ ((after .almanacFiring (firing 2 2 0 1 [])).evtPin 2).level = some true
    ∧ (after .almanacFiring (after .almanacFiring (firing 2 2 0 1 []))).full Reg.ALM_FIRE_SEQ = 1 := by decide +kernel
theorem test_exec : ((after .almanacFiring (firing 6 0 0 0 [] (desc 0x60 []))).alm.execs.map (fun x => (x.seq, x.entry, x.ring))) = [(0, 7, 1)] := by decide +kernel

/-! ### Converter, DAC and voltage scaling -/

/-- The converter on, with a sequence of 2 injected and 3 regular entries in a mode. -/
def conv (mode : Nat) (x : AdcSt := {}) (l : List (Nat × Fld × Nat) := []) : State :=
  { put live ([(Reg.ADC_CFG, Fld.ADC_CFG_ENABLE, 1), (Reg.ADC_CFG, Fld.ADC_CFG_MODE, mode), (Reg.ADC_CFG, Fld.ADC_CFG_INJ_LEN, 2),
    (Reg.ADC_CFG, Fld.ADC_CFG_REG_LEN, 3), (Reg.ADC_REG_PERIOD, Fld.ADC_REG_PERIOD_PERIOD, 1000)] ++ l) with adc := x }
def conv1 (kind entry : Nat) : Conv := ⟨kind, 3, entry, ⟨0, 5, 0⟩⟩
theorem wit_ConverterSequencesAndResults_single : (conv 0).served ∧ (conv 0).adcOn ∧ (conv 0).adcSeq = false ∧ (conv 0).flag Reg.ADC_SINGLE Fld.ADC_SINGLE_BUSY = false
    ∧ (conv 1).adcSeq ∧ (conv 0).adc.conv = none ∧ (conv 0 { conv := some (conv1 3 0) }).adc.conv = some (conv1 3 0) ∧ (conv1 3 0).channel < 16
    ∧ (conv 0 { conv := some (conv1 0 0) }).adcDma = false
    ∧ (conv 1 { conv := some (conv1 1 1), lap := true }).get Reg.ADC_CFG Fld.ADC_CFG_REG_LEN = 3
    ∧ (conv 1 { conv := some (conv1 2 0), inj := some 0, injBegun := true }).adc.injBegun
    ∧ ((awaiting (conv 1 { conv := some (conv1 2 1), inj := some 1, injBegun := true, injRefs := [.slot 1 0] })).adc.injRefs = [.slot 1 0])
    ∧ 64 ≤ (List.replicate 64 (0, (⟨0, 0, 0⟩ : Stamp))).length ∧ (conv 0 { hot := [3] }).adc.hot = [3] ∧ (conv 0).sys.tripped = false
    ∧ ¬ ((conv 0).twinOn ∧ (conv 0).role = 1) := by decide +kernel
theorem test_conversion : (after (.conversionEnd 0x7FF) (conv 0 { conv := some (conv1 0 0) })).get Reg.ADC_SINGLE Fld.ADC_SINGLE_RESULT = 0x7FF
    ∧ (after (.conversionEnd 7) (conv 1 { conv := some (conv1 2 0), inj := some 0, injBegun := true })).adc.queue.map (·.1) = [7 + 3 * 4096 + 2 * 2 ^ 17]
    := by decide +kernel
/-- R464, R465: T = (code − 1024) / 16 °C; two readings at the trip threshold trip. -/
theorem test_guard : (after (.conversionEnd 0xFFF) (conv 0 { conv := some (conv1 3 0), hot := [3] })).sys.tripped
    ∧ (after (.conversionEnd 0xFFF) (conv 0 { conv := some (conv1 3 0) })).sys.tripped = false
    ∧ toS 16 ((after (.conversionEnd 0) (conv 0 { conv := some (conv1 3 0) })).get (Reg.ADC_TEMP 3) Fld.ADC_TEMP_T16) = -1024 := by decide +kernel
theorem wit_ConverterSequencesAndResults_due : (conv 0).get Reg.GLB_STATUS Fld.GLB_STATUS_STAGE = 6 ∧ ({} : State).get Reg.GLB_STATUS Fld.GLB_STATUS_STAGE < 2
    ∧ (conv 1).get Reg.ADC_REG_PERIOD Fld.ADC_REG_PERIOD_PERIOD ≠ 0 ∧ (conv 1 { lap := true }).adc.lap ∧ (conv 1).adc.lap = false := by decide +kernel
theorem test_lap : (after .regLapDue (conv 1)).adc.conv.map (fun c => (c.kind, c.entry)) = some (1, 0)
    ∧ (after .regLapDue (conv 1 { lap := true })).full (Reg.ADC_COUNT 3) = 1 ∧ (after .guardConversionDue (conv 0)).adc.conv.map (·.kind) = some 3 := by decide +kernel
theorem wit_ConverterSequencesAndResults_inject : handedOk (conv 1) (desc 0x74 []) ∧ handedOk (conv 0) (desc 0x74 []) ∧ handedOk live (desc 0x74 []) ∧ live.adcOn = false ∧ (conv 0).adc.trig = none
    ∧ (conv 1 { trig := some (0, 2) }).adc.trig = some ((conv 1 { trig := some (0, 2) }).adcCycle, 2)
    ∧ handedOk (conv 1 { inj := some 0 }) (desc 0x74 []) ∧ (begun (conv 1 { inj := some 0 }) (desc 0x74 [])).adc.inj.isSome
    ∧ handedOk (conv 1 { inj := some 0 } [(Reg.ADC_STATUS, Fld.ADC_STATUS_INJ_PENDING, 1)]) (desc 0x74 [])
    ∧ (begun (conv 1) (desc 0x74 [])).alm.execs = [] := by decide +kernel
theorem test_inject : (after (.adcInject (.ring 1)) (posted (conv 1) (desc 0x74 []))).adc.conv.map (·.kind) = some 2
    ∧ (after (.adcInject (.ring 1)) (posted (conv 1 { inj := some 0 } [(Reg.ADC_STATUS, Fld.ADC_STATUS_INJ_PENDING, 1)]) (desc 0x74 []))).full (Reg.ADC_COUNT 1) = 1 := by
  decide +kernel
/-- Two results wait for the ADC ring, a delivery ring with a buffer. -/
def batch (dma : Nat) : State :=
  let s := put ((conv 0 { queue := [(5, ⟨0, 1, 0⟩), (6, ⟨1, 2, 0⟩)] }).setRing 1 { bufs := [⟨0, 0x4000, 128⟩] })
    [(Reg.ADC_CFG, Fld.ADC_CFG_DMA_EN, dma), (Reg.ADC_RING, Fld.ADC_RING_RING, 1), (Reg.RING_STATE 1, Fld.RING_STATE_STATE, 1)]
  { s with adc := { s.adc with regs := s.regs } }
theorem wit_ConverterSequencesAndResults_queue : (batch 1).adc.queue ≠ [] ∧ (batch 1).adcDma ∧ (batch 1).ringTakes 1 ∧ (conv 0).adc.queue = []
    ∧ (batch 0).isReady ∧ (batch 0).adcDma = false ∧ (batch 1).adcRing = 1 := by decide +kernel
theorem test_adc_queue : (after .adcQueueEntryRead (batch 0)).readData = 0x80000005 ∧ (after .adcQueueEntryRead (batch 0)).full Reg.ADC_QUEUE_TIME = 1
    ∧ ((after .adcBatchTimeout (batch 1)).ring 1).msgs.map (fun m => (m.producer, m.bytes.length)) = [(0x13, if (batch 1).adcBatch < 2 then 24 else 32)] := by decide +kernel

/-- DAC channels out of park at a code, channel 1 with a code pending; with other fields set. -/
def dacs (out : Nat) (l : List (Nat × Fld × Nat)) (x : DacSt := {}) : State :=
  { put live ([(Reg.DAC_STATUS, Fld.DAC_STATUS_PARKED, 0), (Reg.DAC_CH_CODE 1, Fld.DAC_CH_CODE_OUTPUT, out), (Reg.DAC_CH_CODE 1, Fld.DAC_CH_CODE_TARGET, 200),
    (Reg.DAC_CH_PEND 1, Fld.DAC_CH_PEND_CODE, 900), (Reg.DAC_CH_PEND 1, Fld.DAC_CH_PEND_VALID, 1), (Reg.DAC_STATUS, Fld.DAC_STATUS_PENDING, 2),
    (Reg.DAC_CH_SLEW 1, Fld.DAC_CH_SLEW_STEP_M1, 63)] ++ l) with dac := x }
def slewing1 : Nat × Fld × Nat := (Reg.DAC_STATUS, Fld.DAC_STATUS_SLEWING, 2)
def owned0 : List (Nat × Fld × Nat) := [(Reg.REF_CFG, Fld.REF_CFG_EFC_EN, 1), (Reg.REF_CTL, Fld.REF_CTL_RUN, 1)]
theorem wit_DacChannels_step : (dacs 100 []).dacSlewing 1 = false ∧ (dacs 100 [slewing1]).dacSlewing 1 ∧ bitAt (dacs 100 [slewing1]).dac.reload 1 = false
    ∧ (dacs 100 [slewing1]).dac.cmds = [] ∧ (awaiting (dacs 20 [slewing1] { parking := 2, cmds := [(.slot 1 0, 2 ^ 1, true)] })).dac.cmds = [(.slot 1 0, 2 ^ 1, true)]
    ∧ bitAt (dacs 20 [slewing1] { parking := 2 }).dac.parking 1 ∧ (dacs 20 [(Reg.DAC_STATUS, Fld.DAC_STATUS_SLEWING, 1)] |> fun s => s.dacSlewing 0)
    ∧ (dacs 0 owned0).dacOwned ∧ (dacs 0 owned0).flag Reg.DAC_STATUS Fld.DAC_STATUS_CLEAR = false ∧ (dacs 0 owned0).refState ≠ 3 := by decide +kernel
theorem test_slew : (after (.dacSlewStep 1) (dacs 100 [slewing1])).dacOut 1 = 164 ∧ (after (.dacSlewStep 1) (dacs 170 [slewing1])).dacOut 1 = 200
    ∧ (after (.dacSlewStep 1) (dacs 170 [slewing1])).dacSlewing 1 = false := by decide +kernel
theorem wit_DacChannels_strobes : (dacs 100 []).served ∧ (dacs 100 []).dac.cmds = [] ∧ (∀ c < 8, bitAt (dacs 100 []).dac.parking c = false) ∧ (dacs 100 []).dac.strobe = none
    ∧ (dacs 100 []).flag (Reg.DAC_CH_PEND 1) Fld.DAC_CH_PEND_VALID ∧ ({} : State).served = false
    ∧ (({ dacs 100 [(Reg.DAC_STATUS, Fld.DAC_STATUS_CLEAR, 1)] with sys := { live.sys with dacCfg := 4 } } : State).dacObeys 1) := by decide +kernel
theorem test_strobe : (after .ldacNFall (dacs 100 [])).dacTarget 1 = 900 ∧ (after .dacCtlLoad (dacs 100 [])).full (Reg.DAC_COUNT 0) = 1
    ∧ (after .dacClearNRelease (after .dacClearNAssert (dacs 100 []))).pins.dacClearN := by decide +kernel
def dacDesc (op m b c1 : Nat) : List Byte := desc op [(36, 1, m), (37, 1, b), (42, 2, c1)]
def allParked : State := put (dacs 100 []) [(Reg.DAC_STATUS, Fld.DAC_STATUS_PARKED, 255)]
theorem wit_DacChannels_commands : handedOk (dacs 100 owned0) (dacDesc 0x75 1 0 5) ∧ handedOk (dacs 100 owned0) (dacDesc 0x76 1 0 0)
    ∧ handedOk (dacs 100 owned0) (dacDesc 0x77 1 0 0) ∧ handedOk (dacs 100 []) (dacDesc 0x75 2 0 5) ∧ handedOk (dacs 100 []) (dacDesc 0x75 2 1 5)
    ∧ handedOk (dacs 100 []) (dacDesc 0x77 2 3 0) ∧ handedOk (dacs 100 []) (dacDesc 0x77 2 2 0) ∧ handedOk allParked (dacDesc 0x77 255 2 0)
    ∧ (∀ c < 8, (begun allParked (dacDesc 0x77 255 2 0)).dacParked c) ∧ handedOk (dacs 100 []) (dacDesc 0x76 2 1 0)
    ∧ handedOk allParked (dacDesc 0x76 2 0 0) ∧ (∀ c < 8, bitAt (dacs 100 []).dac.reload c = false) ∧ (begun (dacs 100 []) (dacDesc 0x76 2 1 0)).alm.execs = []
    ∧ ({ dacs 100 [] with sys := { live.sys with slewEn := 2 } } : State).dacOut 1 ≠ 0 ∧ (dacs 100 []).dacRange 1 ≠ 2 := by decide +kernel
theorem test_dac_set : (after (.dacSet (.ring 1)) (posted (dacs 100 []) (dacDesc 0x75 2 0 5))).get (Reg.DAC_CH_PEND 1) Fld.DAC_CH_PEND_CODE = 5
    ∧ (after (.dacSet (.ring 1)) (posted (dacs 100 []) (dacDesc 0x75 2 1 5))).dacTarget 1 = 5
    ∧ (after (.dacRange (.ring 1)) (posted allParked (dacDesc 0x77 255 2 0))).dacTarget 7 = 0x8000 := by decide +kernel
theorem test_dac_park : (after (.dacPark (.ring 1)) (posted { dacs 100 [] with sys := { live.sys with slewEn := 2 } } (dacDesc 0x76 2 1 0))).dac.parking = 2
    ∧ (after (.dacPark (.ring 1)) (posted { dacs 100 [] with sys := { live.sys with slewEn := 0 } } (dacDesc 0x76 2 1 0))).dacParked 1 := by decide +kernel

/-- Firmware runs; the four field rails at 700 mV between 650 and 850, confirmed; n is 16. -/
def railed (l : List (Nat × Fld × Nat)) (x : AvsSt := {}) (up : Bool := true) : State :=
  { put live ([0, 1, 2, 3].flatMap (fun a => [(Reg.AVS_RAIL a, Fld.AVS_RAIL_SET_MV, 700), (Reg.AVS_RAIL a, Fld.AVS_RAIL_V_MIN_MV, 650),
    (Reg.AVS_RAIL a, Fld.AVS_RAIL_V_MAX_MV, 850), (Reg.AVS_RAIL a, Fld.AVS_RAIL_CONFIRMED, 1)])
    ++ [(Reg.AVS_RAIL 4, Fld.AVS_RAIL_SET_MV, 750), (Reg.AVS_STATUS, Fld.AVS_STATUS_N, 12)] ++ l) with avs := x, sys := { live.sys with fwUp := up, quiet := false } }
def freeze1 : Nat × Fld × Nat := (Reg.AVS_CFG, Fld.AVS_CFG_FREEZE, 1)
def n16 : Nat × Fld × Nat := (Reg.AVS_STATUS, Fld.AVS_STATUS_N, 16)
theorem wit_VoltageScaling_period : (railed [] {} false).sys.fwUp = false ∧ (railed []).sys.fwUp ∧ (railed [freeze1]).flag Reg.AVS_CFG Fld.AVS_CFG_FREEZE
    ∧ (railed []).avs.nWait = none ∧ (railed []).avsNeed = 12 ∧ (railed []).get Reg.AVS_STATUS Fld.AVS_STATUS_N = 12 ∧ (railed []).railMv 4 ≠ 0
    ∧ (railed [n16]).avsNeed < (railed [n16]).get Reg.AVS_STATUS Fld.AVS_STATUS_N ∧ (∀ a < 4, (railed [n16]).railOut a = false)
    ∧ (railed [n16, (Reg.AVS_STATUS, Fld.AVS_STATUS_BUS_ERR, 2)]).railOut 1 ∧ (railed [freeze1] { load := (15, 16) }).avsNeed = 16
    ∧ mapFind (railed [] { load := (15, 16) }).avs.recorded 16 = none
    ∧ (railed [(Reg.AVS_RAIL 2, Fld.AVS_RAIL_CONFIRMED, 0)]).flag (Reg.AVS_RAIL 2) Fld.AVS_RAIL_CONFIRMED = false ∧ 0 < 15 ∧ 0 < 16 := by decide +kernel
theorem test_avs_step : (after (.avsPeriod [0, 10 ^ 9, 0, 0]) (railed [])).railMv 0 = 705 ∧ (after (.avsPeriod [0, 10 ^ 9, 0, 0]) (railed [])).railMv 1 = 695
    ∧ (after (.avsPeriod []) (railed [n16])).get Reg.AVS_STATUS Fld.AVS_STATUS_N = 12 := by decide +kernel
theorem wit_VoltageScaling_bus : (railed []).avs.tries.length = 5 ∧ (railed []).avs.confirmed.length = 5 ∧ (railed [] { nWait := some 14 }).avs.nWait = some 14
    ∧ (railed []).railMv 2 = (700 : Fin 1024).val ∧ (∀ b < 4, (railed []).flag (Reg.AVS_RAIL b) Fld.AVS_RAIL_CONFIRMED)
    ∧ (railed [] { tries := [0, 0, 3, 0, 0] }).avs.tries.getD 2 0 = 3 ∧ (railed []).avs.tries.getD 2 0 < 3 ∧ (railed []).served ∧ ({} : State).served = false := by
  decide +kernel
theorem test_avs_retry : (after (.avsTransactionEnd 2 none) (railed [] { tries := [0, 0, 3, 0, 0] })).railOut 2
    ∧ (after (.avsTransactionEnd 2 none) (railed [])).full (Reg.AVS_COUNT 3) = 1
    ∧ (after (.avsTransactionEnd 2 (some 700)) (railed [] { nWait := some 14 })).get Reg.AVS_STATUS Fld.AVS_STATUS_N = 14 := by decide +kernel
theorem test_droop : (after (.droopDetect 1) (after (.droopDetect 3) (railed []))).full (Reg.AVS_COUNT 0) = 1
    ∧ (after (.droopRecover 3) (after (.droopDetect 3) (railed []))).avs.droop = [] := by decide +kernel

/-! ### Events and scans -/

/-- An event has its interrupt, and its record in queue 3; queue 3 goes to delivery ring 1. -/
def ev : Nat := Ev.GLB_READY
def watched (l : List (Nat × Fld × Nat)) (x : EvtSt := {}) : State :=
  { (put (ringed { bufs := [⟨0, 0x4000, 4096⟩] }) ([(Reg.EVT_CFG, Fld.EVT_CFG_ENABLE, 1), (Reg.EVT_SRC_CFG ev, Fld.EVT_SRC_CFG_IRQ_EN, 1),
    (Reg.EVT_SRC_CFG ev, Fld.EVT_SRC_CFG_VECTOR, 7), (Reg.EVT_SRC_CFG ev, Fld.EVT_SRC_CFG_REC_EN, 1), (Reg.EVT_SRC_CFG ev, Fld.EVT_SRC_CFG_QUEUE, 3),
    (Reg.EVT_Q_CFG 3, Fld.EVT_Q_CFG_EN, 1), (Reg.EVT_Q_CFG 3, Fld.EVT_Q_CFG_RING, 1), (Reg.RING_CFG 1, Fld.RING_CFG_TYPE, 1)] ++ l)) with evt := x }
def armed1 : Nat × Fld × Nat := (Reg.EVT_SRC_CFG ev, Fld.EVT_SRC_CFG_ARMED, 1)
def late1 : Nat × Fld × Nat := (Reg.EVT_SRC_CFG ev, Fld.EVT_SRC_CFG_PENDING, 1)
def heldEvt : EvtRec := ⟨0x440, 3, 9, 5, 6, 7, 0, false⟩
theorem wit_EventsAndScans_raise : ev < 2048 ∧ (watched []).served ∧ (eventClass ev).isSome ∧ ({} : State).served = false ∧ eventClass 2047 = none
    ∧ (watched []).sys.keptReset = false ∧ (eventClass 0x440).isSome
    ∧ ({ watched [] with sys := { live.sys with keptReset := true } } : State).sys.keptReset ∧ (watched []).flag Reg.EVT_CFG Fld.EVT_CFG_ENABLE
    ∧ (watched [armed1]).flag (Reg.EVT_SRC_CFG ev) Fld.EVT_SRC_CFG_ARMED ∧ (watched [late1]).flag (Reg.EVT_SRC_CFG ev) Fld.EVT_SRC_CFG_PENDING
    ∧ (watched [] { held := [heldEvt] }).evt.held = [heldEvt] ∧ heldEvt.event < 2048 ∧ (watched []).hostCan ∧ (watched []).standby = false
    ∧ bitAt ((watched []).vector 7).2.2 0 ∧ (watched []).sys.staleTime = false ∧ islandEvent ev = false ∧ islandEvent 0x440 := by decide +kernel
/-- A copy of the time from before a full reset. -/
def stale : State := { watched [] with sys := { (watched []).sys with staleTime := true, timeCopy := ⟨8, 9, 10⟩ } }
theorem test_stale : (after (.evtRaise ⟨ev, by decide +kernel⟩) stale).evt.store.map (fun r => (r.event, r.sec, r.ns, r.frac, r.stale)) = [(ev, 8, 9, 10, true)]
    ∧ stale.sys.staleTime := by decide +kernel
theorem test_raise : ((after (.evtRaise ⟨ev, by decide +kernel⟩) (watched [armed1])).host.pba, (after (.evtRaise ⟨ev, by decide +kernel⟩) (watched [armed1])).full (Reg.EVT_SRC_CNT ev))
    = ([7], 1) ∧ (after (.evtRaise ⟨ev, by decide +kernel⟩) (after (.evtRaise ⟨ev, by decide +kernel⟩) (watched []))).evt.store.map (fun r => (r.event, r.count, r.queue))
    = [(ev, 2, 3)] := by decide +kernel
theorem test_arm : (after (.evtSrcArm ⟨ev, by decide +kernel⟩) (watched [late1])).host.pba = [7]
    ∧ (after (.evtEnable true) (watched [] { held := [heldEvt] })).full (Reg.EVT_SRC_CNT 0x440) = 3 := by decide +kernel
theorem wit_EventsAndScans_flush : (watched [] { store := [⟨ev, 2, 9, 5, 6, 7, 3, false⟩] }).evt.store.filter (fun r => r.queue == 3) ≠ [] ∧ (watched []).ringTakes 1
    ∧ (watched []).evt.store = [] ∧ (put (ringed) [(Reg.RING_CFG 1, Fld.RING_CFG_TYPE, 1)]).ringTakes 1 = false
    ∧ (watched [(Reg.EVT_Q_CFG 3, Fld.EVT_Q_CFG_EN, 0)]).flag (Reg.EVT_Q_CFG 3) Fld.EVT_Q_CFG_EN = false ∧ (watched []).ringState 1 = 1 := by decide +kernel
theorem test_flush : ((after (.eventQueueFlush 3) (watched [] { store := [⟨ev, 2, 9, 5, 6, 7, 3, false⟩] })).ring 1).msgs.map (fun m => (m.producer, m.bytes.length,
    fieldAt m.bytes 16 2 % 2048, fieldAt m.bytes 18 2)) = [(0x14, 32, ev, 2)] := by decide +kernel
theorem wit_EventsAndScans_wedge : (watched []).flag Reg.EVT_WEDGE Fld.EVT_WEDGE_WEDGED = false ∧ (watched []).flag Reg.DMA_PCIE_STATUS Fld.DMA_PCIE_STATUS_LINK_UP
    ∧ (put (watched []) [(Reg.EVT_WEDGE, Fld.EVT_WEDGE_WEDGED, 1)]).flag Reg.EVT_WEDGE Fld.EVT_WEDGE_WEDGED ∧ (watched []).twinOn = false := by decide +kernel
theorem test_wedge : (after .pcieCreditStall (watched [])).hostCan = false ∧ (after (.pcieAerError true 5) (watched [])).host.aer = 5
    ∧ (after (.pcieFatalError 6) (watched [])).full (Reg.EVT_SRC_CNT Ev.PCIE_WEDGED) = 1 := by decide +kernel
def scanDesc (n a flags prior : Nat) : List Byte := desc 0x78 [(4, 4, n), (16, 8, a), (36, 1, 2), (37, 1, flags), (40, 8, prior)]
theorem wit_EventsAndScans_scans : ((withEntry (scanDesc 64 0x1000 0 0)).take (.ring 1) 0x78).isSome ∧ ((withEntry (scanDesc 0 0x1000 2 0)).take (.ring 1) 0x78).isSome
    ∧ ((withEntry (scanDesc 64 0x20000 2 (CheckKind.crc32c.of [1]))).take (.ring 1) 0x78).isSome ∧ ((withEntry (scanDesc 64 0xFFF0 0 0)).take (.ring 1) 0x78).isSome
    ∧ ((ringed).chan 0).aborting = [] ∧ CheckKind.ofCode 2 = .crc32c
    ∧ descClean 0x78 (scanDesc 64 0x1000 0 0) ∧ descClean 0x78 (desc 0x78 [(8, 1, 1), (4, 4, 64), (16, 8, 0x1000), (60, 1, 1)]) = false := by decide +kernel
theorem test_scan : ((after (.crcScan 1) (withEntry (scanDesc 0x20 0xFFF0 0 0))).ring 1).xfer.map (fun x => (x.total, x.short)) = some (16, true) := by decide +kernel
/-- R497's check values of the digits 1–9. -/
theorem test_crc : CheckKind.crc16.of [0x31, 0x32, 0x33, 0x34, 0x35, 0x36, 0x37, 0x38, 0x39] = 0x29B1
    ∧ CheckKind.crc32c.of [0x31, 0x32, 0x33, 0x34, 0x35, 0x36, 0x37, 0x38, 0x39] = 0xE3069283 := by decide +kernel

/-! ### Weave and twin -/

def credits : LinkSt := { credit := [5, 5, 5, 5] }
/-- A device of a pair, running, at a position, whose link 0 leads to the other one. -/
def pair (pos : Nat) (x : LinkSt := credits) (l : List (Nat × Fld × Nat) := []) : State :=
  let s := put (linkIn 1 4 x) ([(Reg.GLB_STATUS, Fld.GLB_STATUS_MODE, 1), (Reg.GLB_STATUS, Fld.GLB_STATUS_WEAVE_POS, pos), (Reg.WEAVE_CFG, Fld.WEAVE_CFG_POS, pos),
    (Reg.LANE_LINK_CFG 0, Fld.LANE_LINK_CFG_WINDOW, 100), (Reg.INGEST_GEOM, Fld.INGEST_GEOM_C, 2), (Reg.INGEST_GEOM, Fld.INGEST_GEOM_N, 8)] ++ l)
  s.latchUnit.setLink 0 { s.link 0 with cfg := s.reg (Reg.LANE_LINK_CFG 0) }
/-- A link with a message in the byte stream of a virtual channel, or a payload of VC 0. -/
def onVc (v : Nat) (m : List Byte) : LinkSt := { credits with rx := [[], [], []].set (v - 1) ([0, 0] ++ m) }
def onVc0 (m : List Byte) : LinkSt := { credits with inbox := [m ++ zeros (248 - m.length)] }

def helloMsg (digest : Nat) : List Byte := [0xB0] ++ zeros 3 ++ le 8 digest ++ zeros 8
theorem wit_WeaveMessages_hello : ((pair 1 (onVc 3 (helloMsg 0))).takeMsg 0 3 0xB0).isSome ∧ ((pair 1 (onVc 3 (helloMsg 5))).takeMsg 0 3 0xB0).isSome
    ∧ (pair 1 (onVc 3 (helloMsg 0))).badType 0 = false ∧ msgLen (helloMsg 0) = some 20 ∧ (pair 1).weaveLinks = [0]
    ∧ (pair 1).get Reg.WEAVE_STATUS Fld.WEAVE_STATUS_STATE = 0 ∧ (pair 1 credits [(Reg.WEAVE_STATUS, Fld.WEAVE_STATUS_STATE, 1)]).linkState 0 = 4 := by decide +kernel
theorem test_hello : (after (.weaveHello 0) (pair 1 (onVc 3 (helloMsg 0)) [(Reg.WEAVE_STATUS, Fld.WEAVE_STATUS_STATE, 1)])).get Reg.WEAVE_STATUS Fld.WEAVE_STATUS_STATE = 3
    ∧ (after (.weaveHello 0) (pair 1 (onVc 3 (helloMsg 5)) [(Reg.WEAVE_STATUS, Fld.WEAVE_STATUS_STATE, 1)])).flag Reg.WEAVE_STATUS Fld.WEAVE_STATUS_MISMATCH := by
  decide +kernel
def respMsg (seq t2 t3 : Nat) : List Byte := [0x86, 0] ++ le 2 seq ++ (Stamp.ofUnits t2).bytes ++ (Stamp.ofUnits t3).bytes
theorem wit_WeaveMessages_delay : (pair 1).weaveLink 0 = some 0 ∧ (pair 1).positions ≠ 1 ∧ (pair 1).unitGet Reg.WEAVE_CFG Fld.WEAVE_CFG_POS ≠ 0 ∧ live.weaveLink 0 = none
    ∧ ((pair 0 (onVc0 [0x85, 1])).link 0).inbox = [[0x85, 1] ++ zeros 246] ∧ byteAt ([0x85, 1] ++ zeros 246) 0 = 0x85
    ∧ ((pair 1 (onVc0 (respMsg 7 0 0))).link 0).inbox ≠ [] ∧ ((pair 1).link 0).vc0 = [] ∧ ((pair 1).link 0).txq = [[], [], []] ∧ ((pair 1).link 0).refusing = false
    ∧ ((pair 1).link 0).replay.length < (pair 1).linkCfg 0 Fld.LANE_LINK_CFG_WINDOW ∧ 0 < ((pair 1).link 0).credit.getD 0 0
    ∧ ({ pair 1 (onVc0 (respMsg 7 0 0)) with weave := { asked := some (7, 0) } } : State).weave.asked = some (7, 0) := by decide +kernel
/-- R504: (t4 − t1) − (t3 − t2) = 2 × 1,000 ps gives a delay of 1,000 ps. -/
theorem test_delay : (after (.delayResp 0 200) { pair 1 (onVc0 (respMsg 7 100 100)) with weave := { asked := some (7, 0) } }).get (Reg.WEAVE_PEER_DELAY 0)
      Fld.WEAVE_PEER_DELAY_PS = 1000 ∧ (after (.delayMeasure 5) (pair 1)).weave.asked.isSome := by decide +kernel
theorem wit_WeaveMessages_pulse : (put (pair 0) [(Reg.REF_CTL, Fld.REF_CTL_RUN, 1)]).refRun ∧ 1 ∈ (pair 0).partners ∧ (pair 0).weaveLink 1 = some 0
    ∧ ((pair 1 (onVc0 [0x87])).link 0).inbox = [[0x87] ++ zeros 247] ∧ (pair 1).get Reg.REF_BALRAN Fld.REF_BALRAN_LINK = 0 := by decide +kernel
/-- A forwarded unit of the device at position 1: stream 3, channel 1, sheaf index 5, 4 samples from input 4,096. -/
def unit1 : List Byte := [0x46, 1, 3, 1] ++ le 2 4096 ++ le 2 4 ++ le 2 1 ++ le 2 1 ++ le 7 5 ++ zeros 1 ++ le 4 4 ++ [0x12, 0x34, 0x56, 0x78]
def storing : Nat × Fld × Nat := (Reg.INGEST_CTL, Fld.INGEST_CTL_ENABLE, 1)
theorem wit_WeaveMessages_forward : ((pair 0 (onVc 1 unit1) [storing]).takeMsg 0 1 0x46).isSome ∧ (unit46 unit1).origin = 1 ∧ (unit46 unit1).n = 4
    ∧ (unit46 unit1).samples.length = 1 * 1 * 4 ∧ (pair 0 (onVc 1 unit1)).flag Reg.INGEST_CTL Fld.INGEST_CTL_ENABLE = false ∧ (unit46 unit1).chan < (pair 0).cAll
    ∧ (pair 0 (onVc 1 unit1) [storing]).pendingBytes + 8 < (pair 0).storeRoom ∧ ((unit46 unit1).restrict 2 4).isSome
    ∧ (pair 0 (onVc 1 unit1) [storing]).pairFate 1 5 (256 * 2 + 3) 4096 4 = .stored
    ∧ (put (pair 0) [(Reg.GLB_STATUS, Fld.GLB_STATUS_MODE, 2)]).mode = 2 := by decide +kernel
theorem test_forward : ((after (.forwardedUnit 0 0) (pair 0 (onVc 1 unit1) [storing])).slicesOf 1 5).map (fun x => (x.base, x.samples.take 2)) = [(4096, [(1, 2), (3, 4)])] := by
  decide +kernel
def maskMsg (k : Nat) : List Byte := [0xA0, 1] ++ le 2 1 ++ le 7 k ++ zeros 5 ++ le 4 (4098 + 2 ^ 15)
def weederMsg (ch first : Nat) : List Byte := [0xA1, 1] ++ le 2 ch ++ le 7 first ++ [6] ++ zeros 4 ++ zeros 8
theorem wit_WeaveMessages_masks : ((pair 0 (onVc 2 (maskMsg 9))).takeMsg 0 2 0xA0).isSome ∧ (pair 0).cAll ≤ 4096 ∧ (pair 0).running ∧ (pair 0).mode ≠ 0
    ∧ ({ pair 0 with ingest := { next := [(1, 10)] } } : State).nextIndex 1 = 10 ∧ ((pair 0 (onVc 2 (weederMsg 1 0))).takeMsg 0 2 0xA1).isSome
    ∧ (pair 0).weed.blocks = [] ∧ ((pair 0).weedChan 1).first ≤ 0 := by decide +kernel
theorem test_mask_update : (after (.maskUpdate 0) (pair 0 (onVc 2 (maskMsg 9)))).ingest.changes.map (fun c => (c.k, c.items)) = [(9, [(4098, 1)])]
    ∧ (after (.maskUpdate 0) { pair 0 (onVc 2 (maskMsg 9)) with ingest := { next := [(1, 10)] } }).full (Reg.WEAVE_COUNT 4) = 1 := by decide +kernel
theorem test_weeder_early : (after (.weederMessage ⟨0, [true]⟩) (pair 0 (onVc 2 (weederMsg 1 0)))).weed.early.map (fun e => (e.key, e.origin, e.inputs)) = [(2 ^ 56, 1, [true])] := by decide +kernel
def statusMsg : List Byte := [0xA2, 1] ++ zeros 206
def relayMsg (start groups pass : Nat) : List Byte := [0xB1] ++ le 1 start ++ le 1 groups ++ zeros 1 ++ le 4 pass ++ zeros 12
theorem wit_WeaveMessages_status : ((pair 0 (onVc 2 statusMsg)).takeMsg 0 2 0xA2).isSome ∧ (pair 0).pos < 256 ∧ (∀ g < 8, ((pair 0).grp g).waits = false)
    ∧ ((pair 1 (onVc 3 (relayMsg 1 1 40))).takeMsg 0 3 0xB1).isSome ∧ ((pair 1 (onVc 3 (relayMsg 0 1 40))).takeMsg 0 3 0xB1).isSome
    ∧ (∀ g < 8, ((pair 1).grp g).top ≤ 40) ∧ (pair 1 credits [(Reg.GRAN_GRP_STATE 0, Fld.GRAN_GRP_STATE_STATE, 2)]).grpState 0 = 2
    ∧ (({ bank0 with seq := 0 } : Bank).epoch * 2 ^ 32 + 0 = 0) := by decide +kernel
theorem test_relay : (after (.granRelay 0) (pair 1 (onVc 3 (relayMsg 0 1 40)) [(Reg.GRAN_GRP_STATE 0, Fld.GRAN_GRP_STATE_STATE, 2)])).gran.groups.map (fun g => (g.1, g.2.stopAt))
    = [(0, some 40)] ∧ (after (.weaveStatusMessage 0) (pair 0 (onVc 2 statusMsg))).gran.peers.map (·.pos) = [1] := by decide +kernel

/-- A unit of a twin pair, running, in a role, with its twin link 88. -/
def unit (role : Nat) (x : LinkSt := credits) (t : TwinSt := {}) (l : List (Nat × Fld × Nat) := []) : State :=
  let s := put live ([(Reg.LANE_LINK_CFG 88, Fld.LANE_LINK_CFG_ENABLE, 1), (Reg.LANE_LINK_CFG 88, Fld.LANE_LINK_CFG_PROFILE, 1), (Reg.LANE_LINK_CFG 88, Fld.LANE_LINK_CFG_WIDTH, 1),
    (Reg.LANE_LINK_STATUS 88, Fld.LANE_LINK_STATUS_STATE, 4), (Reg.LANE_LINK_CFG 88, Fld.LANE_LINK_CFG_WINDOW, 100), (Reg.TWIN_CFG, Fld.TWIN_CFG_ENABLE, 1),
    (Reg.TWIN_STATUS, Fld.TWIN_STATUS_ROLE, role)] ++ l)
  { s.latchUnit.setLink 88 { x with cfg := s.reg (Reg.LANE_LINK_CFG 88) } with twin := t }
/-- The partner as a synchronised standby. -/
def ready2 : TwinSt := { peerRole := 2, peerSynced := true, seenLink := true }
def beat (role flags : Nat) : List Byte := [0x80] ++ le 1 (role + flags) ++ zeros 30
theorem wit_TwinRolesOrderAndCopies_handed : ((unit 1).standby = false ∧ (unit 1).twinOn ∧ (unit 1).role = 1) ∧ (unit 2).standby ∧ (unit 0).standby = false
    ∧ ((posted (unit 1) (desc 3 [])).take (.ring 1) 3).isSome ∧ (unit 1).twinLink = some 88
    ∧ (match (posted (unit 2) (desc 0x30 [])).take (.ring 1) 0x30 with
      | some x => decide ((({ posted (unit 2) (desc 0x30 []) with twin := { points := [(posted (unit 2) (desc 0x30 [])).pointOf x.2.2.2 (.ring 1) 0x30 ++ le 8 0] } } : State).handed
          (.ring 1) 0x30).isSome)
      | none => false) = true ∧ ((posted (unit 2) (desc 0x30 [])).handed (.ring 1) 0x30).isNone := by decide +kernel
theorem wit_TwinRolesOrderAndCopies_heartbeat : (unit 1).role < 4 ∧ (unit 1).running ∧ (unit 1).twin.undecided = false ∧ (unit 1).linkState 88 = 4 ∧ live.twinOn = false
    ∧ ((unit 1 (onVc0 (beat 1 0))).link 88).inbox = [beat 1 0 ++ zeros 216] ∧ ((unit 1 (onVc0 (beat 2 4))).link 88).inbox = [beat 2 4 ++ zeros 216]
    ∧ (unit 1 credits { undecided := true }).twin.undecided ∧ (unit 0 credits {} [(Reg.TWIN_CFG, Fld.TWIN_CFG_PREF, 1)]).flag Reg.TWIN_CFG Fld.TWIN_CFG_PREF
    ∧ (unit 3 credits {} [(Reg.TWIN_STATUS, Fld.TWIN_STATUS_LAST_CAUSE, 9)]).get Reg.TWIN_STATUS Fld.TWIN_STATUS_LAST_CAUSE = 9 := by decide +kernel
/-- Two actives: the unit without the preference yields to the one with it; a heartbeat of a standby ends SOLO. -/
theorem test_two_actives : (after .heartbeat (unit 1 (onVc0 (beat 1 8)))).role = 3
    ∧ (after .heartbeat (unit 1 (onVc0 (beat 1 0)) {} [(Reg.TWIN_CFG, Fld.TWIN_CFG_PREF, 1)])).flag Reg.TWIN_STATUS Fld.TWIN_STATUS_SPLIT
    ∧ (after .heartbeat (unit 0 (onVc0 (beat 2 4)))).role = 1 := by decide +kernel
theorem test_wave : (after (.peerHealthWave 2) (unit 1 credits { undecided := true })).role = 2 ∧ (after .soloTimeout (unit 1)).role = 0
    ∧ (after .soloTimeout (unit 1 credits { seenWave := 250 })).role = 1 := by decide +kernel
def progressMsg : List Byte := [0x83, 1] ++ zeros 6 ++ le 2 5 ++ zeros 2 ++ le 8 4
theorem wit_TwinRolesOrderAndCopies_progress : ((unit 2 (onVc0 progressMsg)).link 88).inbox = [progressMsg ++ zeros 228]
    ∧ ((put (unit 1) [(Reg.RING_STATE 1, Fld.RING_STATE_STATE, 1)]).setStream 5 { sentSeq := some 4 }).eth.streams.map (·.1) = [5] ∧ (unit 2).role = 2 := by decide +kernel
theorem test_progress : ((after .progress ((unit 2 (onVc0 progressMsg)).setStream 5 { queue := [pkt1, { pkt1 with seq := 5 }] })).stream 5).queue.map (·.seq) = [5] := by
  decide +kernel
def releaseMsg (c : Nat) : List Byte := [0x90] ++ le 2 c ++ zeros 1
def pointMsg : List Byte := [0x91, 0] ++ zeros 22
/-- A state block of an empty snapshot in one block, and a configuration block. -/
def blockMsg (type index seq count : Nat) : List Byte :=
  let h := le 1 type ++ [1] ++ zeros 2 ++ le 4 seq ++ le 2 index ++ le 2 count ++ le 4 16 ++ zeros 8 ++ le 2 0 ++ zeros 2
  h ++ le 4 (crc32c (h ++ zeros 16)) ++ zeros 16
theorem wit_TwinRolesOrderAndCopies_order : ((unit 2 (onVc 1 (releaseMsg 9))).takeMsg 88 1 0x90).isSome ∧ ((unit 2 (onVc 1 pointMsg)).takeMsg 88 1 0x91).isSome
    ∧ ((unit 2 (onVc 2 (blockMsg 0x73 0 7 1))).takeMsg 88 2 0x73).isSome ∧ ((unit 2 (onVc 3 (blockMsg 0x63 0 7 2))).takeMsg 88 3 0x63).isSome
    ∧ (unit 2 credits { snap := some (0, 7, 0, []), compared := false }).twin.compared = false ∧ (unit 2).sys.checking = false
    ∧ (unit 2 credits { cfgBlocks := [(0, [])] }).twin.cfgBlocks ≠ [] := by decide +kernel
theorem test_order : (after .releaseRecord (unit 2 (onVc 1 (releaseMsg 9)))).twin.order = [9] ∧ (after .commandPoint (unit 2 (onVc 1 pointMsg))).twin.points.length = 1
    ∧ (after .commandPoint (unit 1 (onVc 1 pointMsg))).twin.points = [] := by decide +kernel
theorem test_blocks : (after .stateBlock (unit 2 (onVc 2 (blockMsg 0x73 0 7 1)))).full (Reg.TWIN_COUNT 2) = 1
    ∧ (after .configUpdateBlock (unit 2 (onVc 3 (blockMsg 0x63 0 7 2)))).twin.cfgBlocks.map (·.1) = [0]
    ∧ (after .configUpdateRetry (unit 2 credits { cfgBlocks := [(0, [])] })).twin.cfgBlocks = [] := by decide +kernel

/-- The same with ingest link 0 enabled. -/
def withIngest (s : State) : State := s.setLink 0 { s.link 0 with cfg := Fld.LANE_LINK_CFG_ENABLE.into 0 1 }
theorem wit_TwinYieldCauses : (unit 1 credits ready2).eligible ∧ (unit 1).eligible = false ∧ live.twinOn = false ∧ (3 : Nat) < 16
    ∧ handedOk (unit 0) (desc 0x4C []) ∧ (posted (unit 0) (desc 0x4C [])).twinOn
    ∧ (({ unit 1 credits { ready2 with peerIngest := 1 } with pending := [] } : State).twin.peerIngest = 1)
    ∧ (withIngest (unit 1 credits { ready2 with peerIngest := 1 })).linkOn 0
    ∧ ((unit 3 (onVc0 [0x82])).link 88).inbox = [[0x82] ++ zeros 247] ∧ ((unit 2 (onVc0 [0x81])).link 88).inbox = [[0x81] ++ zeros 247]
    ∧ ((unit 1 (onVc0 [0x84])).link 88).inbox = [[0x84] ++ zeros 247] ∧ (unit 3).stopped = false
    ∧ (awaiting (unit 3 (onVc0 [0x82]) { cmds := [.slot 1 0] })).twin.cmds = [.slot 1 0] := by decide +kernel
/-- A loss of ingest yields with cause 3 to a synchronised standby, and is only reported without one; RECLAIM yields with cause 8. -/
theorem test_yield : (after (.ingestLossTimeout 0) (withIngest (unit 1 credits { ready2 with peerIngest := 1 }))).role = 3
    ∧ (after .reclaim (unit 1 (onVc0 [0x84]))).get Reg.TWIN_STATUS Fld.TWIN_STATUS_LAST_CAUSE = 8 ∧ (after .yield (unit 2 (onVc0 [0x81]))).role = 1 := by decide +kernel
theorem test_takeover : (after .twinYieldNLow (unit 2)).pins.twinHealth = 1000 ∧ (after (.peerLost false) (unit 2 credits ready2)).full (Reg.TWIN_COUNT 4) = 1
    ∧ (after .yieldTimeout (unit 3)).stopped ∧ (after .taken (unit 3 (onVc0 [0x82]))).stopped := by decide +kernel

/-! ### Start-up, stop and resets -/

/-- A powered device in a stage. -/
def staged (n : Nat) (l : List (Nat × Fld × Nat) := []) (x : SysSt := {}) : State :=
  { put {} ([(Reg.GLB_STATUS, Fld.GLB_STATUS_STAGE, n)] ++ l) with pins := { pwrOk := true, loClk := true, perstN := true }, sys := x }
/-- An unsigned image of a firmware section of no bytes and one register pair, or of no pair. -/
def regImage (pairs : List Byte) : List Byte :=
  let table := [1, 0, 0, 0] ++ le 4 96 ++ le 4 0 ++ le 4 (crc32c []) ++ ([2, 0, 0, 0] ++ le 4 96 ++ le 4 pairs.length ++ le 4 (crc32c pairs))
  let h := [0x4B, 0x4C, 0x43, 0x42] ++ le 2 1 ++ le 2 2 ++ le 4 (96 + pairs.length + 4) ++ [4, 0, 0, 0] ++ le 8 0x1122334455667788 ++ le 4 9 ++ zeros 32
  let b := h ++ le 4 (crc32c h) ++ table ++ pairs
  b ++ le 4 (crc32c b)
def goodImage : List Byte := regImage (le 4 (Reg.INGEST_RATE) ++ le 4 187500000)

theorem wit_StartUpCommitFusesAndDebug_fuses : (staged 1).stage = 1 ∧ (staged 1).get Reg.GLB_STATUS Fld.GLB_STATUS_STATE ≠ 3 ∧ (staged 1).fuses.laneCfg ++ (staged 1).fuses.laneEq = []
    ∧ (staged 1).dac.cmds = [] ∧ (staged 1).sys.dacOn = false ∧ (∀ ch < 8, ((staged 1).dacFuse ch).2.1 < 65536 ∧ ((staged 1).dacFuse ch).1 < 4)
    ∧ ({ staged 1 with fuses := { (staged 1).fuses with laneEq := [(7, 5)], spares := [66] } } : State).fuses.laneEq.filter (fun e => e.1 == 7) = [(7, 5)]
    ∧ (staged 2).stage ≠ 1 := by decide +kernel
theorem test_fuse_stage : (after (.fuseStageEnd 3 false) (staged 1)).stage = 2 ∧ (after (.fuseStageEnd 3 true) (staged 1)).get Reg.GLB_STATUS Fld.GLB_STATUS_STATE = 3 := by
  decide +kernel
theorem wit_StartUpCommitFusesAndDebug_image : (staged 2).imgError goodImage false false true = 0 ∧ (staged 2).imgError [] false false true = 1 ∧ (staged 2).sys.configWait = false
    ∧ (put (staged 2) [(Reg.GLB_BOOT_ERR, Fld.GLB_BOOT_ERR_SLOT0, 1)]).get Reg.GLB_BOOT_ERR Fld.GLB_BOOT_ERR_SLOT0 ≠ 0 ∧ imgForm goodImage = 0 ∧ imgSigned goodImage = false
    ∧ imgPairs goodImage = [(Reg.INGEST_RATE, 187500000)] := by decide +kernel
theorem test_config_image : (after (.configImageChecked goodImage false false true) (staged 2)).stage = 3
    ∧ (after (.configImageChecked goodImage false false true) (staged 2)).full Reg.INGEST_RATE = 187500000
    ∧ (after (.configImageChecked [] false false true) (staged 2)).get Reg.GLB_BOOT_ERR Fld.GLB_BOOT_ERR_SLOT0 = 1 := by decide +kernel
def hostBoot (n : Nat) (master : Nat) : State := put (staged 2 [] { configWait := true }) [(Reg.GLB_BOOT_CTL, Fld.GLB_BOOT_CTL_GO, 1), (Reg.GLB_BOOT_LEN, ⟨0, 32⟩, n),
  (Reg.DMA_PCIE_STATUS, Fld.DMA_PCIE_STATUS_BUS_MASTER, master)]
theorem wit_StartUpCommitFusesAndDebug_host : (staged 2 [] { configWait := true }).sys.configWait ∧ (hostBoot 108 1).flag Reg.GLB_BOOT_CTL Fld.GLB_BOOT_CTL_GO
    ∧ (hostBoot 108 1).flag Reg.DMA_PCIE_STATUS Fld.DMA_PCIE_STATUS_BUS_MASTER ∧ (hostBoot 108 0).flag Reg.DMA_PCIE_STATUS Fld.DMA_PCIE_STATUS_BUS_MASTER = false
    ∧ 16 * 2 ^ 20 < (hostBoot (2 ^ 24 + 1) 1).full Reg.GLB_BOOT_LEN ∧ goodImage.length = 108 := by decide +kernel
theorem test_host_boot : (after (.hostImageReadEnd (.data goodImage) false false true) (hostBoot 108 1)).stage = 3
    ∧ (after (.hostImageReadEnd .bus false false true) (hostBoot (2 ^ 24 + 1) 1)).get Reg.GLB_BOOT_ERR Fld.GLB_BOOT_ERR_HOST = 4
    ∧ (after .glbBootGo (staged 2 [] { configWait := true })).flag Reg.GLB_BOOT_CTL Fld.GLB_BOOT_CTL_BUSY := by decide +kernel
theorem wit_StartUpCommitFusesAndDebug_stages : (staged 3).stage = 3 ∧ (staged 3).flag Reg.GLB_STATUS Fld.GLB_STATUS_FW_ERR = false ∧ (staged 3).sys.checking = false
    ∧ (staged 4).get Reg.HBM_STATUS Fld.HBM_STATUS_TRAINED = 0 ∧ (staged 4).stage = 4 ∧ (staged 5).stage = 5 ∧ (staged 5 [] { autoCommit := true }).sys.autoCommit
    ∧ ({ live with sys := { live.sys with fwUp := true } } : State).sys.fwUp := by decide +kernel
theorem test_firmware : (after (.firmwareStarted 7 true true) (staged 3)).stage = 4 ∧ (after (.firmwareStarted 7 true false) (staged 3)).get Reg.GLB_BOOT_ERR Fld.GLB_BOOT_ERR_FW = 3
    ∧ (after .firmwareTimeout (staged 3)).get Reg.GLB_BOOT_ERR Fld.GLB_BOOT_ERR_FW = 2 ∧ (after .glbRemapSwap (staged 3)).flag Reg.GLB_REMAP Fld.GLB_REMAP_SWAP
    ∧ (after (.firmwareMessage 5) { live with sys := { live.sys with fwUp := true } }).full (Reg.EVT_SRC_CNT Ev.HKC_FW_MSG) = 1 := by decide +kernel
def stack (ok : Bool) : Bool × Fin 4 := (ok, 1)
theorem test_training : (after (.hbmTrainingEnd (List.replicate 6 (stack true))) (staged 4)).flag Reg.HBM_STATUS Fld.HBM_STATUS_ALL_TRAINED
    ∧ (after (.hbmTrainingEnd [stack true, stack false]) (staged 4)).get Reg.HBM_STATUS Fld.HBM_STATUS_TRAINED = 1
    ∧ (after (.lanesStageEnd 8) (staged 5)).sys.groupFailed = [3] ∧ (after (.lanesStageEnd 8) (staged 5)).isReady := by decide +kernel
/-- An idle device whose checks run, with one 8+8 stream of its 16 inputs and 16 channels on ingest link 0. -/
def checked : State :=
  { put idleDev [(Reg.INGEST_GEOM, Fld.INGEST_GEOM_N, 16), (Reg.INGEST_GEOM, Fld.INGEST_GEOM_C, 16), (Reg.INGEST_RATE, ⟨0, 32⟩, 1000),
      (Reg.STREAM_CFG 0, Fld.STREAM_CFG_ENABLE, 1), (Reg.STREAM_CFG 0, Fld.STREAM_CFG_FMT8, 1), (Reg.STREAM_CFG 0, Fld.STREAM_CFG_SS, 1),
      (Reg.STREAM_INPUTS 0, Fld.STREAM_INPUTS_COUNT, 16), (Reg.STREAM_CHANNELS 0, Fld.STREAM_CHANNELS_COUNT, 16),
      (Reg.STREAM_SLICE 0, Fld.STREAM_SLICE_SI, 16), (Reg.STREAM_SLICE 0, Fld.STREAM_SLICE_SC, 1),
      (Reg.LANE_LINK_CFG 0, Fld.LANE_LINK_CFG_ENABLE, 1), (Reg.LANE_LINK_CFG 0, Fld.LANE_LINK_CFG_WIDTH, 8)] with sys := { checking := true } }
theorem wit_StartUpCommitFusesAndDebug_commit : idleDev.get Reg.GLB_STATUS Fld.GLB_STATUS_STATE = 1 ∧ idleDev.sys.checking = false ∧ checked.sys.checking
    ∧ State.firstFail [(3, 9), (2, 12), (2, 5)] = some (2, 5) := by decide +kernel
theorem test_commit : (after .commit idleDev).sys.checking ∧ (after .commit idleDev).flag Reg.GLB_CTL Fld.GLB_CTL_COMMIT := by decide +kernel
/-! The commit checks look at 4,096 stream entries; an entry that nothing has written reads as its reset value. -/

theorem eth_at : ∀ r ∈ regsEth, ∀ i o : Nat, i < 4096 → (o = 0 ∨ o = 4) → r.at (0x1300000 + o + 64 * i) = r.at (0x1300000 + o) := by
  simp only [regsEth, List.forall_mem_cons, RegDesc.at]
  repeat' apply And.intro
  any_goals exact List.forall_mem_nil _
  all_goals
    intro i o hi ho
    rw [Bool.eq_iff_iff]
    simp only [Bool.and_eq_true, decide_eq_true_eq, beq_iff_eq]
    omega
/-- Two tests that agree on a list's members find the same member. -/
theorem find_same {α : Type} {p q : α → Bool} {l : List α} (h : ∀ x ∈ l, p x = q x) : l.find? p = l.find? q := by
  rw [← List.head?_filter, ← List.head?_filter, List.filter_congr h]
theorem eth_regAt {i o : Nat} (h : i < 4096) (ho : o = 0 ∨ o = 4) : regAt (0x1300000 + o + 64 * i) = regAt (0x1300000 + o) := by
  have key : ∀ b ∈ blockMap, (b.1.first ≤ 0x1300000 ∧ 0x133FFFF ≤ b.1.last) ∨ 0x133FFFF < b.1.first ∨ b.1.last < 0x1300000 := by decide +kernel
  have blk : blockMap.find? (fun b => b.1.first ≤ 0x1300000 + o + 64 * i && 0x1300000 + o + 64 * i ≤ b.1.last)
      = blockMap.find? (fun b => b.1.first ≤ 0x1300000 + o && 0x1300000 + o ≤ b.1.last) := by
    refine find_same (fun b hb => ?_)
    rw [Bool.eq_iff_iff]
    simp only [Bool.and_eq_true, decide_eq_true_eq]
    have := key b hb
    omega
  have eth : blockMap.find? (fun b => b.1.first ≤ 0x1300000 + o && 0x1300000 + o ≤ b.1.last) = some (⟨12, 0x1200000, 0x13FFFFF⟩, regsEth) := by
    rcases ho with rfl | rfl <;> decide +kernel
  unfold regAt
  rw [blk, eth, Option.bind_some, Option.bind_some]
  exact find_same (fun r hr => eth_at r hr i o h ho)
theorem reset_above {a : Nat} (h : 0x1300000 ≤ a) (h2 : a < 0x1340000) : regReset a = match regAt a with
    | none => 0
    | some r => BitVec.ofNat 32 ((r.fields.map (fun f => f.rst * 2 ^ f.lo)).sum) := by
  have h1 : ¬ a = Reg.LANE_CFG 96 := by simp only [Reg.LANE_CFG]; omega
  have h3 : ¬ (Reg.HBM_PORT_LT 0 ≤ a ∧ a ≤ Reg.HBM_PORT_LT 7) := by simp only [Reg.HBM_PORT_LT]; omega
  have h4 : ¬ (Reg.EVT_SRC_CFG 0 ≤ a ∧ a ≤ Reg.EVT_SRC_CFG 2047) := by simp only [Reg.EVT_SRC_CFG]; omega
  have h5 : ¬ (Reg.REF_IN_WIN 0 ≤ a ∧ a ≤ Reg.REF_IN_WIN 5 ∧ (a - Reg.REF_IN_WIN 0) % (Reg.REF_IN_WIN 1 - Reg.REF_IN_WIN 0) = 0) := by
    simp only [Reg.REF_IN_WIN]; omega
  unfold regReset
  rw [if_neg h1, if_neg h3, if_neg h4, if_neg h5]
  all_goals rfl
theorem eth_reset {i o : Nat} (h : i < 4096) (ho : o = 0 ∨ o = 4) : regReset (0x1300000 + o + 64 * i) = regReset (0x1300000 + o) := by
  rw [reset_above (by omega) (by omega), reset_above (by omega) (by omega), eth_regAt h ho]
/-- A stream entry of a state that has written none. -/
theorem eth_unwritten {s : State} {i o : Nat} (h : i < 4096) (ho : o = 0 ∨ o = 4) (hs : ∀ e ∈ s.regs, e.1 < 0x1300000 ∨ 0x1340000 ≤ e.1) :
    s.reg (0x1300000 + o + 64 * i) = regReset (0x1300000 + o) := by
  have none : mapFind s.regs (0x1300000 + o + 64 * i) = none := mapFind_unlisted (fun e he => by have := hs e he; omega)
  rw [State.reg, none, Option.getD_none, eth_reset h ho]
theorem streams_off {s : State} (hs : ∀ e ∈ s.regs, e.1 < 0x1300000 ∨ 0x1340000 ≤ e.1) : s.streamsOn = [] ∧
    (List.range 4096).any (fun i => outside (s.get (Reg.ETH_STR_L4 i) Fld.ETH_STR_L4_PAYLOAD) 1 140) = false := by
  constructor
  · refine List.filter_eq_nil_iff.2 (fun i hi => ?_)
    have : s.reg (Reg.ETH_STR_CFG i) = regReset 0x1300000 := by
      have := eth_unwritten (o := 0) (List.mem_range.1 hi) (.inl rfl) hs
      simpa [Reg.ETH_STR_CFG] using this
    simp only [State.flag, State.get, this]
    decide +kernel
  · refine List.any_eq_false.2 (fun i hi => ?_)
    have : s.reg (Reg.ETH_STR_L4 i) = regReset 0x1300004 := by
      have := eth_unwritten (o := 4) (List.mem_range.1 hi) (.inr rfl) hs
      simpa [Reg.ETH_STR_L4] using this
    simp only [State.get, this]
    decide +kernel
theorem wit_StartUpCommitFusesAndDebug_passes : checked.trial.commitFails = [] := by
  obtain ⟨h1, h2⟩ := streams_off (s := checked.trial) (by decide +kernel)
  have he : checked.trial.ethChecks = [] := by
    unfold State.ethChecks
    simp only [h1, h2]
    decide +kernel
  unfold State.commitFails
  rw [he]
  decide +kernel
/-- An AVS_CFG of 0 is out of range: block 25, code 128. -/
def badAvs : State := put checked [(Reg.AVS_CFG, ⟨0, 32⟩, 0)]
theorem wit_StartUpCommitFusesAndDebug_rejects : State.firstFail badAvs.trial.commitFails = some (25, 128) ∧ badAvs.sys.checking ∧ 25 < 32 ∧ 128 < 65536 := by
  obtain ⟨h1, h2⟩ := streams_off (s := badAvs.trial) (by decide +kernel)
  have he : badAvs.trial.ethChecks = [] := by
    unfold State.ethChecks
    simp only [h1, h2]
    decide +kernel
  unfold State.commitFails
  rw [he]
  decide +kernel
def keyWord : Word := BitVec.ofNat 32 (0x5EF0A1 * 256 + 2)
theorem wit_StartUpCommitFusesAndDebug_fuseProg : keyWord.toNat / 256 = 0x5EF0A1 ∧ live.running ∧ idleDev.running = false ∧ (∀ i < 16, toS 16 (idleDev.get (Reg.ADC_TEMP i) ⟨0, 16⟩) = 0)
    ∧ ({ idleDev with fuses := { idleDev.fuses with ownerSet := true } } : State).fuses.ownerSet
    ∧ ({ idleDev with fuses := { idleDev.fuses with requireSigned := true } } : State).fuses.requireSigned
    ∧ (put idleDev [(Reg.FUSE_STATUS, Fld.FUSE_STATUS_PROG, 1)]).get Reg.FUSE_STATUS Fld.FUSE_STATUS_PROG = 1 := by decide +kernel
theorem test_fuseProg : (after (.fuseProg 0) idleDev).get Reg.FUSE_STATUS Fld.FUSE_STATUS_PROG_ERR = 1 ∧ (after (.fuseProg keyWord) live).get Reg.FUSE_STATUS Fld.FUSE_STATUS_PROG_ERR = 2
    ∧ (after (.fuseProg keyWord) idleDev).get Reg.FUSE_STATUS Fld.FUSE_STATUS_PROG_ERR = 4
    ∧ (after (.fuseProgEnd false) (put idleDev [(Reg.FUSE_STATUS, Fld.FUSE_STATUS_PROG, 1)])).get Reg.FUSE_STATUS Fld.FUSE_STATUS_PROG_ERR = 5 := by decide +kernel
def challenged (fails : Nat) : State :=
  { put live [(Reg.DBG_LOCK, Fld.DBG_LOCK_STATE, 1), (Reg.DBG_LOCK, Fld.DBG_LOCK_FAILS, fails)] with sys := { live.sys with dbgWait := true } }
theorem wit_StartUpCommitFusesAndDebug_debug : live.get Reg.DBG_LOCK Fld.DBG_LOCK_STATE < 2 ∧ (challenged 0).get Reg.DBG_LOCK Fld.DBG_LOCK_STATE = 1 ∧ (challenged 2).sys.dbgWait
    ∧ (challenged 2).get Reg.DBG_LOCK Fld.DBG_LOCK_FAILS + 1 = 3 ∧ (put live [(Reg.DBG_LOCK, Fld.DBG_LOCK_STATE, 2)]).get Reg.DBG_LOCK Fld.DBG_LOCK_STATE = 2 := by
  decide +kernel
theorem test_debug : (after (.dbgResponseChecked false) (challenged 2)).get Reg.DBG_LOCK Fld.DBG_LOCK_STATE = 3
    ∧ (after (.dbgResponseChecked true) (challenged 0)).get Reg.DBG_LOCK Fld.DBG_LOCK_STATE = 2
    ∧ (after (.dbgRequest [5]) live).reg (Reg.DBG_CHALLENGE 0) = 5 ∧ (after (.dbgResponse 6) live).reg (Reg.DBG_RESPONSE 15) = 6 := by decide +kernel

/-- A powered device that runs. -/
def powered (l : List (Nat × Fld × Nat) := []) : State := { put live l with pins := { pwrOk := true, loClk := true } }
theorem wit_StopAndResets : (powered).pins.pwrOk ∧ (powered).pins.loClk ∧ ({ live with pins := {} } : State).pins.pwrOk = false ∧ (powered).sys.checking = false ∧ checked.sys.checking
    ∧ (powered [(Reg.DMA_PCIE_STATUS, Fld.DMA_PCIE_STATUS_LINK_UP, 1)]).flag Reg.DMA_PCIE_STATUS Fld.DMA_PCIE_STATUS_LINK_UP
    ∧ (powered).flag Reg.DMA_PCIE_STATUS Fld.DMA_PCIE_STATUS_LINK_UP = false
    ∧ (powered [(Reg.GLB_RESET_KEEP, Fld.GLB_RESET_KEEP_TIMING, 1)]).flag Reg.GLB_RESET_KEEP Fld.GLB_RESET_KEEP_TIMING
    ∧ ({ powered with sys := { (powered).sys with fwUp := true, dacOn := true } } : State).sys.fwUp ∧ (unit 1 credits ready2).eligible
    ∧ ({ powered with pins := { pwrOk := true, loClk := false } } : State).pins.loClk = false
    ∧ (idleDev).running = false ∧ idleDev.dac.cmds = [] ∧ (powered).running ∧ (powered).corr.flights = [] ∧ (powered).waitingRefs = []
    ∧ (awaiting { idleDev with time := { jobs := [(.slot 1 0, 0, ⟨0, 0, 0⟩)] } }).time.jobs = [(.slot 1 0, 0, ⟨0, 0, 0⟩)] := by decide +kernel
theorem test_reset : (after .glbCtlReset (powered [(Reg.GLB_PROFILE, Fld.GLB_PROFILE_MODE, 1)])).get Reg.GLB_PROFILE Fld.GLB_PROFILE_MODE = 0
    ∧ (after .pcieLinkDown (powered)).isReady ∧ (after .perstNRelease (powered)).pins.perstN ∧ (after .pwrOkFall (powered)).pins.pwrOk = false := by decide +kernel
theorem test_power : (after (.pwrOkRise true false true) {}).full Reg.GLB_STRAP = 5 ∧ (after (.pwrOkRise true false true) {}).stage = 1
    ∧ (after .loClkLoss (powered)).stage = 0 ∧ (after .loClkReturn (after .loClkLoss (powered))).stage = 1 := by decide +kernel
theorem test_stop : (after .stop live).get Reg.GLB_STATUS Fld.GLB_STATUS_STATE = 1 ∧ (after .islandReset live).running
    ∧ (after .islandReset live).full (Reg.EVT_SRC_CNT Ev.GLB_RESET_REFUSED) = 1 := by decide +kernel

end Sys2Proof.Tests
end

section
/-! Claims about the queue, the fuses, the register list and the bytes of HBM that every step keeps (O3).

The model's functions change these four parts by a few shared updates alone, `wr`, `hbmPut` and the resets. A `Claim` is one that those keep,
and so every function built of them keeps it: the lemma `Holds.f` says so of the function `f` and follows `f`'s own text, a chain
`hs.set.raise` standing for the model's `(s.set …).raise …`. `Holds.exec` and `step_canonical` draw the conclusion. -/

namespace Sys2Proof.Machine

/-- A claim about the queue, the fuse array, the register list and the bytes of HBM that the shared updates keep: a register set, registers
returned to their reset values, a byte of HBM written, HBM's contents lost. No update takes the queue or the fuses along. -/
structure Claim where
  of : List Instr → FuseArray → List (Nat × Word) → List Host.Cell → Prop
  put : ∀ {q f r m}, of q f r m → ∀ a v, of q f (mapSet (regReset a) r a v) m
  drop : ∀ {q f r m}, of q f r m → ∀ k, of q f (r.filter k) m
  byte : ∀ {q f r m}, of q f r m → ∀ a b, of q f r (mapPut m a b)
  lost : ∀ {q f r m}, of q f r m → of q f r []

/-- A claim holds of a state. -/
structure State.Holds (Q : Claim) (s : State) : Prop where
  claim : Q.of s.pending s.fuses s.regs s.hbm

/-- A command completes, and the claim holds of the state it answers. -/
inductive NextHolds (Q : Claim) : Result → Prop
  | ok {s : State} (hs : s.Holds Q) : NextHolds Q (.next s)

theorem NextHolds.nextOf {Q : Claim} {s : State} {r : Result} (hr : NextHolds Q r) : (nextOf s r).Holds Q := by
  cases hr
  assumption

namespace State

variable {Q : Claim} {s : State}

/-! ### The control structures of the model's functions -/

theorem Holds.ite {c : Prop} {_ : Decidable c} {a b : State} (ha : a.Holds Q) (hb : b.Holds Q) : (if c then a else b).Holds Q := by
  split <;> assumption

theorem Holds.ite_fst {α : Type} {c : Prop} {_ : Decidable c} {p q : State × α} (hp : p.1.Holds Q) (hq : q.1.Holds Q) :
    (if c then p else q).1.Holds Q := by
  split <;> assumption

theorem Holds.ite_snd {α : Type} {c : Prop} {_ : Decidable c} {p q : α × State} (hp : p.2.Holds Q) (hq : q.2.Holds Q) :
    (if c then p else q).2.Holds Q := by
  split <;> assumption

theorem Holds.of_fst {α : Type} {p : State × α} {t : State} {a : α} (e : p = (t, a)) (h : p.1.Holds Q) : t.Holds Q := by
  subst e
  exact h

theorem Holds.of_snd {α : Type} {p : α × State} {t : State} {a : α} (e : p = (a, t)) (h : p.2.Holds Q) : t.Holds Q := by
  subst e
  exact h

theorem Holds.foldl_fst {α β : Type} {l : List α} {f : State × β → α → State × β} {p : State × β} (hp : p.1.Holds Q)
    (hf : ∀ q a, q.1.Holds Q → (f q a).1.Holds Q) : (l.foldl f p).1.Holds Q := by
  induction l generalizing p with
  | nil => exact hp
  | cons a l ih => exact ih (hf _ _ hp)

theorem Holds.foldl_snd {α β : Type} {l : List α} {f : β × State → α → β × State} {p : β × State} (hp : p.2.Holds Q)
    (hf : ∀ q a, q.2.Holds Q → (f q a).2.Holds Q) : (l.foldl f p).2.Holds Q := by
  induction l generalizing p with
  | nil => exact hp
  | cons a l ih => exact ih (hf _ _ hp)

theorem Holds.foldl {α : Type} {l : List α} {f : State → α → State} (hs : s.Holds Q) (hf : ∀ t a, t.Holds Q → (f t a).Holds Q) :
    (l.foldl f s).Holds Q := by
  induction l generalizing s with
  | nil => exact hs
  | cons a l ih => exact ih (hf _ _ hs)

theorem Holds.fst_mk {α : Type} {a : α} (hs : s.Holds Q) : (s, a).1.Holds Q :=
  hs

theorem Holds.snd_mk {α : Type} {a : α} (hs : s.Holds Q) : (a, s).2.Holds Q :=
  hs

theorem Holds.ok (hs : s.Holds Q) : NextHolds Q (ok s) :=
  .ok hs

/-- An update of any other part of the state. -/
theorem Holds.update {readData : Word} {hbmEpoch : Nat} {poison : List Nat} {freeIx : Nat}
    {pins : PinSt} {sys : SysSt} {clock : Clock} {time : TimeSt} {alm : AlmSt} {lanes : LanesSt} {host : HostSt} {eth : EthSt} {evt : EvtSt}
    {ingest : IngestSt} {harrow : HarrowSt} {weed : WeedSt} {turn : TurnSt} {corr : CorrSt} {gran : GranSt} {glean : GleanSt} {beam :
    BeamSt} {mem : HbmSt} {xbar : XbarSt} {ref : RefSt} {adc : AdcSt} {dac : DacSt} {avs : AvsSt} {weave : WeaveSt} {twin : TwinSt}
    {heldWrites : List HeldWrite} {stopped : Bool} {out : Outputs} (hs : s.Holds Q) : State.Holds Q ⟨s.pending, s.regs, readData, s.hbm,
    hbmEpoch, poison, freeIx, s.fuses, pins, sys, clock, time, alm, lanes, host, eth, evt, ingest, harrow, weed, turn, corr, gran, glean,
    beam, mem, xbar, ref, adc, dac, avs, weave, twin, heldWrites, stopped, out⟩ :=
  ⟨hs.claim⟩

/-- An update that also returns registers to their reset values. -/
theorem Holds.filterRegs {t : State} {k : Nat × Word → Bool} (hs : s.Holds Q) (hp : t.pending = s.pending) (hf : t.fuses = s.fuses)
    (hr : t.regs = s.regs.filter k) (hm : t.hbm = s.hbm) : t.Holds Q := by
  have h1 := Q.drop hs.claim k
  rw [← hp, ← hf, ← hr, ← hm] at h1
  exact ⟨h1⟩

/-! ### The functions of Machine/Ops -/

theorem Holds.wr {a : Nat} {v : Word} (hs : s.Holds Q) : (s.wr a v).Holds Q :=
  ⟨Q.put hs.claim a v⟩

theorem Holds.set {a : Nat} {f : Fld} {v : Nat} (hs : s.Holds Q) : (s.set a f v).Holds Q :=
  hs.wr

theorem Holds.setFlag {a : Nat} {f : Fld} {b : Bool} (hs : s.Holds Q) : (s.setFlag a f b).Holds Q :=
  hs.set

theorem Holds.wrN {a v : Nat} (hs : s.Holds Q) : (s.wrN a v).Holds Q :=
  hs.wr

theorem Holds.bump {a : Nat} {f : Fld} {n : Nat} (hs : s.Holds Q) : (s.bump a f n).Holds Q :=
  hs.set

theorem Holds.count {a n : Nat} (hs : s.Holds Q) : (s.count a n).Holds Q :=
  hs.wrN

theorem Holds.peak {a : Nat} {f : Fld} {v : Nat} (hs : s.Holds Q) : (s.peak a f v).Holds Q :=
  .ite hs.set hs

theorem Holds.wrPair {lo hi v : Nat} (hs : s.Holds Q) : (s.wrPair lo hi v).Holds Q :=
  hs.wrN.wrN

theorem Holds.free {n : Nat} (hs : s.Holds Q) : (s.free n).2.Holds Q :=
  hs.update

theorem Holds.latchUnit (hs : s.Holds Q) : s.latchUnit.Holds Q :=
  hs.update

theorem Holds.answer {a v : Nat} {f : State → State} (hs : s.Holds Q) (hf : ∀ t, State.Holds Q t → State.Holds Q (f t)) : (s.answer a v
    f).Holds Q :=
  .ite (.update (hf _ hs)) hs.update

theorem Holds.hbmPut {a : Nat} {b : Byte} (hs : s.Holds Q) : (s.hbmPut a b).Holds Q :=
  ⟨Q.byte hs.claim a b⟩

theorem Holds.hbmWrite {a : Nat} {bs : List Byte} (hs : s.Holds Q) : (s.hbmWrite a bs).Holds Q := by
  induction bs generalizing s a with
  | nil => exact hs
  | cons b t ih => exact ih hs.hbmPut

theorem Holds.signal {v : Nat} (hs : s.Holds Q) : (s.signal v).Holds Q :=
  .ite hs.update (.ite hs hs.update)

theorem Holds.showStore (hs : s.Holds Q) : s.showStore.Holds Q :=
  hs.set.setFlag

theorem Holds.eventRecord {e detail : Nat} {t : Stamp} {n : Nat} {stale : Bool} (hs : s.Holds Q) : (s.eventRecord e detail t n
    stale).Holds Q :=
  .ite hs.update.showStore hs

theorem Holds.eventIrq {e : Nat} (hs : s.Holds Q) : (s.eventIrq e).Holds Q :=
  .ite (.ite hs.setFlag.signal hs.setFlag) hs

theorem Holds.raise {e detail : Nat} (hs : s.Holds Q) : (s.raise e detail).Holds Q :=
  .ite hs (.ite hs.update.showStore hs.count.eventRecord.eventIrq)

theorem Holds.raiseIf {c : Bool} {e detail : Nat} (hs : s.Holds Q) : (s.raiseIf c e detail).Holds Q :=
  .ite hs.raise hs

theorem Holds.setRing {r : Nat} {x : RingSt} (hs : s.Holds Q) : (s.setRing r x).Holds Q :=
  hs.update

theorem Holds.hostWrite {r pos a : Nat} {bs : List Byte} {ro : Bool} (hs : s.Holds Q) : (s.hostWrite r pos a bs ro).Holds Q :=
  .ite hs.update hs.update

theorem Holds.matrixOut {a : Nat} {bs : List Byte} (hs : s.Holds Q) : (s.matrixOut a bs).Holds Q :=
  hs.update

theorem Holds.haltRing {r cause : Nat} (hs : s.Holds Q) : (s.haltRing r cause).Holds Q :=
  hs.set.set

theorem Holds.dropMsg {r : Nat} {m : Msg} (hs : s.Holds Q) : (s.dropMsg r m).Holds Q := by
  unfold State.dropMsg
  extract_lets +onlyGivenNames _ _ s2
  have h2 : s2.Holds Q := hs.bump.setRing
  split
  · exact h2.count
  · exact h2

theorem Holds.toRing {r : Nat} {m : Msg} (hs : s.Holds Q) : (s.toRing r m).Holds Q :=
  .ite hs.dropMsg hs.setRing

theorem Holds.setStream {i : Nat} {x : StreamSt} (hs : s.Holds Q) : (s.setStream i x).Holds Q :=
  hs.update

theorem Holds.setPort {p : Nat} {x : PortSt} (hs : s.Holds Q) : (s.setPort p x).Holds Q :=
  hs.update

theorem Holds.timePut {a v : Nat} (hs : s.Holds Q) : (s.timePut a v).Holds Q :=
  hs.wrN.update

theorem Holds.toStream {i cls : Nat} {m : Msg} (hs : s.Holds Q) : (s.toStream i cls m).Holds Q := by
  unfold State.toStream
  extract_lets +onlyGivenNames _ _ s1
  have h1 : s1.Holds Q := hs.set
  refine .ite ?_ h1.setStream
  extract_lets +onlyGivenNames _ s2
  have h2 : s2.Holds Q := h1.setStream
  split
  · exact .ite h2.setPort h2.count
  · exact h2

theorem Holds.toDest {toR : Bool} {dest cls : Nat} {m : Msg} (hs : s.Holds Q) : (s.toDest toR dest cls m).Holds Q :=
  .ite hs.toRing hs.toStream

theorem Holds.openSlot {r : Nat} {e : Entry} (hs : s.Holds Q) : (s.openSlot r e).2.Holds Q :=
  hs.setRing

theorem Holds.finishExec {q : Nat} {c : CplRec} (hs : s.Holds Q) : (s.finishExec q c).Holds Q := by
  unfold State.finishExec
  split
  · exact hs
  · extract_lets +onlyGivenNames _ _ s2
    have h2 : s2.Holds Q := hs.update.set
    exact .ite h2.toRing h2

theorem Holds.finish {ref : CmdRef} {c : CplRec} (hs : s.Holds Q) : (s.finish ref c).Holds Q := by
  unfold State.finish
  split
  · exact hs.setRing
  · exact hs.finishExec

theorem Holds.finishSt {ref : CmdRef} {st : Nat} (hs : s.Holds Q) : (s.finishSt ref st).Holds Q :=
  hs.finish

theorem Holds.settle {r n : Nat} (hs : s.Holds Q) : (s.settle r n).Holds Q := by
  induction n generalizing s with
  | zero => exact hs
  | succ n ih =>
    unfold State.settle
    split
    · exact hs
    · split
      · exact hs
      · exact .ite (ih hs.openSlot.finishSt) hs

theorem Holds.settleRing {r : Nat} (hs : s.Holds Q) : (s.settleRing r).Holds Q :=
  hs.settle

theorem Holds.take {src : CmdSrc} {op r : Nat} {ref : CmdRef} {d : List Byte} {t : State} (hs : s.Holds Q)
    (e : s.take src op = some (ref, d, r, t)) : t.Holds Q := by
  unfold State.take at e
  split at e
  · split at e
    · split at e
      · cases e
        exact hs.openSlot
      · cases e
    · cases e
  · split at e
    · cases e
      exact hs.update
    · cases e

theorem Holds.command {src : CmdSrc} {op : Nat} {f : CmdRef → List Byte → Nat → State → State} (hs : s.Holds Q) (hf : ∀ a1 a2 a3 t,
    State.Holds Q t → State.Holds Q (f a1 a2 a3 t)) : (s.command src op f).Holds Q := by
  unfold State.command
  split
  · exact hs
  · rename_i t1 e
    have h1 : t1.Holds Q := hs.take e
    split
    · exact .settleRing (hf _ _ _ _ h1)
    · exact hf _ _ _ _ h1

theorem Holds.tableFailed {ref : CmdRef} {r st : Nat} (hs : s.Holds Q) : (s.tableFailed ref r st).Holds Q :=
  .finishSt (.ite hs.count.raise (.ite hs.count.raise hs))

theorem Holds.each {α : Type} {l : List α} {f : State → α → State} (hs : s.Holds Q) (hf : ∀ t a2, State.Holds Q t → State.Holds Q (f t
    a2)) : (s.each l f).Holds Q :=
  hs.foldl hf

/-! ### The functions of Machine/Matrix -/

theorem Holds.setPc {p : Nat} {x : PcSt} (hs : s.Holds Q) : (s.setPc p x).Holds Q :=
  hs.update

theorem Holds.xbarErr {m kind space addr : Nat} {write : Bool} {beats : Nat} (hs : s.Holds Q) : (s.xbarErr m kind space addr write
    beats).Holds Q :=
  hs.wrN.wrN.wrN

theorem Holds.decodeError {m space addr : Nat} {write : Bool} (hs : s.Holds Q) : (s.decodeError m space addr write).Holds Q :=
  hs.xbarErr.count.raise

theorem Holds.respond {m : Nat} {r : Option (List Byte)} (hs : s.Holds Q) : (s.respond m r).Holds Q :=
  hs.update

theorem Holds.endBurst {r : MatrixReq} {delivered : Nat} (hs : s.Holds Q) : (s.endBurst r delivered).Holds Q := by
  unfold State.endBurst
  extract_lets +onlyGivenNames _ _ s2
  have h2 : s2.Holds Q := hs.xbarErr.count.respond
  exact .ite h2.setPc (.ite (.ite h2.matrixOut h2) (.ite h2.update h2))

theorem Holds.drainReads {m p : Nat} (hs : s.Holds Q) : (s.drainReads m p).Holds Q :=
  .setPc (hs.each (fun _ _ h2 => h2.xbarErr.count.respond))

theorem Holds.masterReset {m : Nat} {delivered : Option Nat} (hs : s.Holds Q) : (s.masterReset m delivered).Holds Q := by
  unfold State.masterReset
  extract_lets +onlyGivenNames _ _ _ _ _ s3
  have h4 : s3.Holds Q := .each (hs.update.each (fun _ _ h3 => h3.respond)) (fun _ _ h5 => by
    split
    · exact h5.endBurst
    · split
      · rename_i t4 e
        exact .endBurst (.of_snd e h5.free))
  exact h4.each (fun _ _ h7 => h7.drainReads)

/-! ### The functions of Machine/Link -/

theorem Holds.setLane {l : Nat} {x : LaneSt} (hs : s.Holds Q) : (s.setLane l x).Holds Q :=
  hs.update

theorem Holds.abortScan {l : Nat} (hs : s.Holds Q) : (s.abortScan l).Holds Q :=
  .ite hs.setFlag.setFlag.setFlag.setLane hs

theorem Holds.latchLane {l : Nat} (hs : s.Holds Q) : (s.latchLane l).Holds Q :=
  hs.setLane

theorem Holds.laneAdapt {l : Nat} (hs : s.Holds Q) : (s.laneAdapt l).Holds Q := by
  unfold State.laneAdapt
  extract_lets +onlyGivenNames s1
  have h1 : s1.Holds Q := hs.abortScan.latchLane
  refine .ite h1.wrN ?_
  extract_lets +onlyGivenNames _ _ _ s4
  have h4 : s4.Holds Q := h1.set.setFlag.setFlag
  exact .setLane (.setFlag (.ite h4 h4.set))

theorem Holds.laneTo {l st : Nat} (hs : s.Holds Q) : (s.laneTo l st).Holds Q :=
  .set (.ite hs hs.abortScan)

theorem Holds.laneOff {l : Nat} (hs : s.Holds Q) : (s.laneOff l).Holds Q :=
  hs.abortScan.wrN

theorem Holds.setLink {k : Nat} {x : LinkSt} (hs : s.Holds Q) : (s.setLink k x).Holds Q :=
  hs.update

theorem Holds.linkTo {k st : Nat} (hs : s.Holds Q) : (s.linkTo k st).Holds Q :=
  hs.set

theorem Holds.latchLink {k : Nat} {on : Bool} (hs : s.Holds Q) : (s.latchLink k on).Holds Q :=
  hs.setLink

theorem Holds.latchLinks (hs : s.Holds Q) : s.latchLinks.Holds Q :=
  hs.each (fun _ _ h1 => h1.latchLink)

theorem Holds.sendCtrl {l : Nat} {b : List Byte} (hs : s.Holds Q) : (s.sendCtrl l b).Holds Q :=
  .ite hs.update hs

theorem Holds.emitFlit {k type vc seq : Nat} {payload : List Byte} (hs : s.Holds Q) : (s.emitFlit k type vc seq payload).Holds Q :=
  hs.setLink.update

theorem Holds.sendMarkers {k : Nat} (hs : s.Holds Q) : (s.sendMarkers k).Holds Q :=
  .setLink (hs.each (fun _ _ h1 => h1.sendCtrl))

theorem Holds.pump {k n : Nat} (hs : s.Holds Q) : (s.pump k n).Holds Q := by
  induction n generalizing s with
  | zero => exact hs
  | succ n ih =>
    unfold State.pump
    refine .ite hs ?_
    split
    · exact hs
    · exact ih hs.setLink.emitFlit

theorem Holds.pumpAll {k : Nat} (hs : s.Holds Q) : (s.pumpAll k).Holds Q :=
  hs.pump

theorem Holds.flitSlot {k : Nat} (hs : s.Holds Q) : (s.flitSlot k).Holds Q := by
  unfold State.flitSlot
  extract_lets +onlyGivenNames _
  refine .ite hs ?_
  split
  · extract_lets +onlyGivenNames s1
    have h1 : s1.Holds Q := hs.setLink.emitFlit
    exact .ite h1.pumpAll h1
  · extract_lets +onlyGivenNames s2
    have h2 : s2.Holds Q := hs.pumpAll
    exact .ite h2.emitFlit h2

theorem Holds.linkRefuse {k : Nat} (hs : s.Holds Q) : (s.linkRefuse k).Holds Q :=
  .ite hs hs.setLink.raise

theorem Holds.sendVc0 {k : Nat} {payload : List Byte} (hs : s.Holds Q) : (s.sendVc0 k payload).Holds Q :=
  .ite hs.setLink.pumpAll hs.linkRefuse

theorem Holds.sendVc {k vc : Nat} {msg : List Byte} (hs : s.Holds Q) : (s.sendVc k vc msg).Holds Q :=
  .ite hs.setLink.pumpAll hs.linkRefuse

theorem Holds.twinVc0 {p : List Byte} (hs : s.Holds Q) : (s.twinVc0 p).Holds Q := by
  unfold State.twinVc0
  split
  · exact hs.sendVc0
  · exact hs

theorem Holds.twinVc {vc : Nat} {m : List Byte} (hs : s.Holds Q) : (s.twinVc vc m).Holds Q := by
  unfold State.twinVc
  split
  · exact hs.sendVc
  · exact hs

theorem Holds.weaveVc {q vc : Nat} {m : List Byte} (hs : s.Holds Q) : (s.weaveVc q vc m).Holds Q := by
  unfold State.weaveVc
  split
  · exact hs.sendVc
  · exact hs

theorem Holds.digestDiffers {k : Nat} (hs : s.Holds Q) : (s.digestDiffers k).Holds Q :=
  hs.setFlag.raise.set

theorem Holds.showWeave (hs : s.Holds Q) : s.showWeave.Holds Q :=
  .ite hs (.ite hs.set (.ite hs (.ite hs.set hs.set)))

theorem Holds.showLinks (hs : s.Holds Q) : s.showLinks.Holds Q := by
  unfold State.showLinks
  extract_lets +onlyGivenNames _ s1
  have h1 : s1.Holds Q := .showWeave (.ite hs hs.set)
  split
  · exact h1.setFlag
  · exact h1

theorem Holds.linkBringUp {k st : Nat} (hs : s.Holds Q) : (s.linkBringUp k st).Holds Q :=
  .linkTo (hs.latchLink.each (fun _ _ h2 => h2.laneAdapt))

theorem Holds.retrain {k : Nat} (hs : s.Holds Q) : (s.retrain k).Holds Q :=
  hs.setLink.linkBringUp.raise.showLinks

theorem Holds.linkDown {k l : Nat} {inPacket : Bool} (hs : s.Holds Q) : (s.linkDown k l inPacket).Holds Q := by
  unfold State.linkDown
  extract_lets +onlyGivenNames s1
  have h1 : s1.Holds Q := hs.raise
  exact .ite h1.retrain (.linkTo (.latchLink (.each (.ite h1.count h1) (fun _ _ h4 => .ite h4.laneTo h4))))

theorem Holds.laneLost {l : Nat} {inPacket : Bool} (hs : s.Holds Q) : (s.laneLost l inPacket).Holds Q := by
  unfold State.laneLost
  extract_lets +onlyGivenNames _ s1
  have h1 : s1.Holds Q := hs.laneAdapt
  split
  · exact .ite h1.linkDown h1
  · exact h1

theorem Holds.linkFresh {k : Nat} (hs : s.Holds Q) : (s.linkFresh k).Holds Q :=
  hs.setLink

theorem Holds.linkFail {k : Nat} (hs : s.Holds Q) : (s.linkFail k).Holds Q := by
  unfold State.linkFail
  extract_lets +onlyGivenNames _ _ _ _ s4
  have h4 : s4.Holds Q := hs.linkFresh.linkTo.masterReset.masterReset.raise.update
  exact .showLinks (.ite h4.raise.set h4)

theorem Holds.replay {k : Nat} (hs : s.Holds Q) : (s.replay k).Holds Q := by
  unfold State.replay
  extract_lets +onlyGivenNames _
  split
  · exact hs
  · exact .ite hs.retrain hs.setLink.bump.raise.flitSlot

theorem Holds.sendNak {k : Nat} (hs : s.Holds Q) : (s.sendNak k).Holds Q :=
  hs.bump.emitFlit

theorem Holds.takeHeader {k h : Nat} (hs : s.Holds Q) : (s.takeHeader k h).Holds Q :=
  hs.setLink

theorem Holds.afterFlit {k sent : Nat} (hs : s.Holds Q) : (s.afterFlit k sent).Holds Q :=
  .ite hs.flitSlot hs.pumpAll

/-! ### The functions of Machine/TwinOps -/

theorem Holds.showPeer (hs : s.Holds Q) : s.showPeer.Holds Q :=
  hs.setFlag.setFlag

theorem Holds.takeRole {r : Nat} (hs : s.Holds Q) : (s.takeRole r).Holds Q :=
  hs.set.update

theorem Holds.yieldNow {cause : Nat} (hs : s.Holds Q) : (s.yieldNow cause).Holds Q :=
  hs.update.twinVc0.raise.set.count.takeRole

theorem Holds.selfFault {cause : Nat} (hs : s.Holds Q) : (s.selfFault cause).Holds Q :=
  .ite (.ite hs.yieldNow hs.set.raise) hs.update

theorem Holds.handed {src : CmdSrc} {op : Nat} {u : State} (hs : s.Holds Q) (e : s.handed src op = some u) : u.Holds Q := by
  unfold State.handed at e
  split at e
  · cases e
  · extract_lets at e
    split at e
    · split at e
      · split at e
        · cases e
          exact hs.update
        · cases e
      · cases e
    · split at e
      · cases e
        exact hs.twinVc
      · cases e
        exact hs

theorem Holds.handOver {src : CmdSrc} {op : Nat} {f : CmdRef → List Byte → Nat → State → State} (hs : s.Holds Q) (hf : ∀ a1 a2 a3 t,
    State.Holds Q t → State.Holds Q (f a1 a2 a3 t)) : (s.handOver src op f).Holds Q := by
  unfold State.handOver
  split
  · rename_i t1 e
    exact .command (hs.handed e) (fun _ _ _ _ h2 => .ite (hf _ _ _ _ h2) h2.finishSt)
  · exact hs

theorem Holds.runCommand {src : CmdSrc} {op : Nat} {f : CmdRef → List Byte → Nat → State → State} (hs : s.Holds Q) (hf : ∀ a1 a2 a3 t,
    State.Holds Q t → State.Holds Q (f a1 a2 a3 t)) : (s.runCommand src op f).Holds Q :=
  hs.handOver (fun _ _ _ _ h1 => .ite (hf _ _ _ _ h1) h1.finishSt)

theorem Holds.keyedCommand {src : CmdSrc} {op : Nat} {f : CmdRef → List Byte → Nat → State → State} (hs : s.Holds Q) (hf : ∀ a1 a2 a3 t,
    State.Holds Q t → State.Holds Q (f a1 a2 a3 t)) : (s.keyedCommand src op f).Holds Q :=
  hs.runCommand (fun _ _ _ _ h1 => .ite h1.finishSt (hf _ _ _ _ h1))

/-! ### The functions of Machine/Adc -/

theorem Holds.thermalTrip {sensor : Nat} (hs : s.Holds Q) : (s.thermalTrip sensor).Holds Q :=
  .ite hs (.update (.setFlag (.set (hs.update.raise.selfFault.each (fun _ _ h4 => h4.setLink)))))

theorem Holds.adcState {v : Nat} (hs : s.Holds Q) : (s.adcState v).Holds Q :=
  hs.set

theorem Holds.adcLevel (hs : s.Holds Q) : s.adcLevel.Holds Q :=
  hs.set

theorem Holds.adcStart {kind channel entry : Nat} (hs : s.Holds Q) : (s.adcStart kind channel entry).Holds Q :=
  hs.update

theorem Holds.adcNext (hs : s.Holds Q) : s.adcNext.Holds Q := by
  unfold State.adcNext
  refine .ite hs ?_
  refine .ite hs.update.update.adcStart ?_
  split
  · exact .adcState (.adcStart (.update (.ite hs hs.count)))
  · exact .ite hs.adcStart.adcState (.ite hs.adcStart.adcState hs.adcState)

theorem Holds.adcJoin {went : Nat} {ref : List CmdRef} (hs : s.Holds Q) : (s.adcJoin went ref).Holds Q :=
  .ite hs.update (.ite hs.update (hs.each (fun _ _ h1 => h1.finishSt)))

theorem Holds.adcTrigger {ref : List CmdRef} (hs : s.Holds Q) : (s.adcTrigger ref).Holds Q := by
  unfold State.adcTrigger
  refine .ite (hs.each fun _ _ h1 => h1.finishSt) ?_
  extract_lets +onlyGivenNames now same mark
  have hm {t : State} {w : Nat} (ht : t.Holds Q) : (mark t w).Holds Q := ht.update
  refine .ite (.each (.ite hs (hm hs).count) fun _ _ h1 => h1.finishSt) ?_
  clear_value same
  split
  · exact hs.adcJoin
  · exact .ite (hm hs.update).adcNext (.ite (hm hs.update).setFlag ((hm hs).count.raise.each fun _ _ h1 => h1.finishSt))

theorem Holds.adcMessage (hs : s.Holds Q) : s.adcMessage.Holds Q := by
  unfold State.adcMessage
  extract_lets +onlyGivenNames _
  split
  · exact hs
  · exact .ite hs.update.toRing.adcLevel hs

theorem Holds.adcQueue {c : Conv} {code : Nat} (hs : s.Holds Q) : (s.adcQueue c code).Holds Q := by
  unfold State.adcQueue
  extract_lets +onlyGivenNames s1
  have h1 : s1.Holds Q := .ite hs.adcMessage hs
  refine .ite h1.count.raiseIf.update ?_
  extract_lets +onlyGivenNames _ _ s3
  have h3 : s3.Holds Q := h1.update.adcLevel
  exact .ite h3.adcMessage h3

theorem Holds.adcGuard {t code : Nat} (hs : s.Holds Q) : (s.adcGuard t code).Holds Q := by
  unfold State.adcGuard
  extract_lets +onlyGivenNames _ _ _ _ _ _ _ _ _ _ _ _ s3
  have h3 : s3.Holds Q := hs.set.raiseIf.update
  exact .ite h3.thermalTrip h3

theorem Holds.adcEnd {code : Nat} (hs : s.Holds Q) : (s.adcEnd code).Holds Q := by
  unfold State.adcEnd
  split
  · exact hs
  · refine .adcNext (.ite hs.update.adcGuard (.ite hs.update.set.setFlag.setFlag.setFlag.adcQueue (.ite ?_ ?_)))
    · extract_lets +onlyGivenNames _ s1
      have h1 : s1.Holds Q := hs.update.adcQueue
      exact .ite h1 (.ite h1.set h1.update.set)
    · extract_lets +onlyGivenNames _ s1
      have h1 : s1.Holds Q := hs.update.adcQueue
      exact .ite h1 (.ite h1.update (h1.update.setFlag.each fun _ _ h => h.finishSt))

theorem Holds.adcEnable (hs : s.Holds Q) : s.adcEnable.Holds Q := by
  unfold State.adcEnable
  extract_lets +onlyGivenNames _ s1
  have h1 : s1.Holds Q := hs.update
  exact .ite h1.update.adcNext h1

theorem Holds.adcDisable (hs : s.Holds Q) : s.adcDisable.Holds Q :=
  hs.update.setFlag.set.each (fun _ _ h3 => h3.finishSt)

theorem Holds.adcSingle {channel : Nat} (hs : s.Holds Q) : (s.adcSingle channel).Holds Q :=
  .ite hs.set.setFlag.setFlag.setFlag.adcNext hs

theorem Holds.execAdcQueueEntryRead (hs : s.Holds Q) : NextHolds Q (execAdcQueueEntryRead s) := by
  unfold Machine.execAdcQueueEntryRead
  refine .ok ?_
  refine .ite hs.update ?_
  split
  · exact hs.update
  · exact hs.update.wrN.adcLevel

theorem Holds.execAdcSingleStart {channel : Fin 32} (hs : s.Holds Q) : NextHolds Q (execAdcSingleStart channel s) :=
  .ok (.ite hs.adcSingle hs)

theorem Holds.execConversionEnd {code : BitVec 12} (hs : s.Holds Q) : NextHolds Q (execConversionEnd code s) :=
  hs.adcEnd.ok

theorem Holds.execGuardConversionDue (hs : s.Holds Q) : NextHolds Q (execGuardConversionDue s) :=
  .ok (.ite hs.update.adcNext hs)

theorem Holds.execRegLapDue (hs : s.Holds Q) : NextHolds Q (execRegLapDue s) :=
  .ok (.ite (.ite hs.update.count hs.update.adcNext) hs)

theorem Holds.execAdcInject {src : CmdSrc} (hs : s.Holds Q) : NextHolds Q (execAdcInject src s) :=
  .ok (hs.handOver (fun _ _ _ _ h1 => h1.adcTrigger))

theorem Holds.execAdcBatchTimeout (hs : s.Holds Q) : NextHolds Q (execAdcBatchTimeout s) :=
  hs.adcMessage.ok

/-! ### The functions of Machine/Lanes -/

theorem Holds.nudgeS {l : Nat} {f : Fld} {n : Nudge} (hs : s.Holds Q) : (s.nudgeS l f n).Holds Q :=
  hs.set

theorem Holds.measureEye {l h w : Nat} (hs : s.Holds Q) : (s.measureEye l h w).Holds Q :=
  hs.set.set

theorem Holds.moveTaps {l : Nat} {c d1 d2 d3 : Nudge} (hs : s.Holds Q) : (s.moveTaps l c d1 d2 d3).Holds Q :=
  hs.set.nudgeS.nudgeS.nudgeS

theorem Holds.adapt {l : Nat} {c d1 d2 d3 : Nudge} {h w : Nat} (hs : s.Holds Q) : (s.adapt l c d1 d2 d3 h w).Holds Q := by
  refine .ite hs (.setFlag (.ite hs ?_))
  extract_lets +onlyGivenNames s1 s2
  have h1 : s1.Holds Q := hs.measureEye
  have h2 : s2.Holds Q := .ite h1 h1.moveTaps
  exact .ite h2.setLane h2

theorem Holds.markerLock {l : Nat} {b : List Byte} (hs : s.Holds Q) : (s.markerLock l b).Holds Q := by
  unfold State.markerLock
  extract_lets +onlyGivenNames _ _ _ _ _ s5
  have h5 : s5.Holds Q := hs.laneTo.setFlag.setFlag.set.setLane
  split
  · exact .ite h5.linkTo h5
  · exact h5

theorem Holds.deskewed {k : Nat} (hs : s.Holds Q) : (s.deskewed k).Holds Q := by
  unfold State.deskewed
  extract_lets +onlyGivenNames s1
  have h1 : s1.Holds Q := hs.each (fun _ _ h2 => h2.laneTo)
  refine .ite ?_ h1.linkTo
  extract_lets +onlyGivenNames s2
  have h3 : s2.Holds Q := h1.linkTo
  exact .emitFlit (.ite h3 h3.setLink)

theorem Holds.deskew {k : Nat} (hs : s.Holds Q) : (s.deskew k).Holds Q := by
  unfold State.deskew
  extract_lets +onlyGivenNames _ _
  refine .ite hs ?_
  extract_lets +onlyGivenNames _ _ _ _ _ _ _ clear s1
  have hclear : ∀ s, s.Holds Q → State.Holds Q (clear s) := fun _ h1 => h1.each (fun _ _ h2 => h2.setLane)
  have h3 : s1.Holds Q := hs.set
  refine .ite (.raise (hclear _ h3)) ?_
  extract_lets +onlyGivenNames _ _ s3
  have h5 : s3.Holds Q := h3.set.setFlag
  exact .ite (.raise (hclear _ h5)) (.ite (.deskewed (hclear _ h5)) h5)

theorem Holds.pcsMarker {l : Nat} {m : MarkerView} (hs : s.Holds Q) : (s.pcsMarker l m).Holds Q := by
  unfold State.pcsMarker
  split
  · exact hs.laneTo.setFlag
  · exact hs.laneTo.setFlag
  · exact hs.laneLost
  · exact hs

theorem Holds.fastMarker {l k : Nat} {m : MarkerView} (hs : s.Holds Q) : (s.fastMarker l k m).Holds Q := by
  unfold State.fastMarker
  extract_lets +onlyGivenNames _ _
  refine .ite ?_ hs.linkBringUp
  extract_lets +onlyGivenNames s1
  have h1 : s1.Holds Q := hs.laneTo.setLane
  exact .ite (.showLinks (.linkTo (h1.each (fun _ _ h3 => h3.laneTo.setLane)))) h1

theorem Holds.balranMarker {l : Nat} {m : MarkerView} (hs : s.Holds Q) : (s.balranMarker l m).Holds Q := by
  unfold State.balranMarker
  extract_lets +onlyGivenNames _ _
  split
  · split
    · exact hs.fastMarker
    · exact hs
  · exact .ite hs (.ite hs.markerLock hs.setLane)
  · refine .ite hs ?_
    extract_lets +onlyGivenNames _ s2
    have h2 : s2.Holds Q := hs.set.setLane
    split
    · exact .ite h2.setLane.deskew h2
    · exact h2
  · refine .ite hs.set.setLane ?_
    extract_lets +onlyGivenNames s3
    have h3 : s3.Holds Q := hs.raise
    exact .ite h3.laneLost h3.setLane
  · exact hs

theorem Holds.ownMarkers {l : Nat} (hs : s.Holds Q) : (s.ownMarkers l).Holds Q := by
  unfold State.ownMarkers
  refine .ite ?_ hs
  extract_lets +onlyGivenNames s1
  have h1 : s1.Holds Q := hs.sendMarkers
  exact .ite h1.emitFlit h1

theorem Holds.marker {l : Nat} {m : MarkerView} (hs : s.Holds Q) : (s.marker l m).Holds Q := by
  unfold State.marker
  extract_lets +onlyGivenNames s1
  have h1 : s1.Holds Q := hs.count.count.ownMarkers
  exact .ite h1.pcsMarker h1.balranMarker

theorem Holds.eqFreeze {l : Nat} {on : Bool} (hs : s.Holds Q) : (s.eqFreeze l on).Holds Q :=
  hs.setFlag

theorem Holds.startScan {l : Nat} (hs : s.Holds Q) : (s.startScan l).Holds Q :=
  .ite hs hs.setFlag.wrN.setLane

theorem Holds.execAdaptationUpdate {lane : Lane} {ctle dfe1 dfe2 dfe3 : Nudge} {height width : Nat} (hs : s.Holds Q) : NextHolds Q
    (execAdaptationUpdate lane ctle dfe1 dfe2 dfe3 height width s) :=
  hs.adapt.ok

theorem Holds.execLaneEqFreeze {lane : Lane} {on : Bool} (hs : s.Holds Q) : NextHolds Q (execLaneEqFreeze lane on s) :=
  .ok (.ite hs.eqFreeze hs)

theorem Holds.execCdrLockLoss {loss : LaneLoss} (hs : s.Holds Q) : NextHolds Q (execCdrLockLoss loss s) :=
  .ok (.ite hs.laneLost hs)

theorem Holds.execAdaptDone {lane : Lane} (hs : s.Holds Q) : NextHolds Q (execAdaptDone lane s) :=
  .ok (.ite hs.laneTo.setFlag hs)

theorem Holds.execAdaptTimeout {lane : Lane} (hs : s.Holds Q) : NextHolds Q (execAdaptTimeout lane s) :=
  .ok (.ite hs.laneAdapt hs)

theorem Holds.execAlignmentMarker {lane : Lane} {marker : MarkerView} (hs : s.Holds Q) : NextHolds Q (execAlignmentMarker lane marker s) :=
  hs.marker.ok

theorem Holds.execSearchTimeout {lane : Lane} (hs : s.Holds Q) : NextHolds Q (execSearchTimeout lane s) :=
  .ok (.ite hs.laneAdapt hs)

theorem Holds.execEidle {link : Link} (hs : s.Holds Q) : NextHolds Q (execEidle link s) := by
  unfold Machine.execEidle
  refine .ok ?_
  refine .ite ?_ hs
  extract_lets +onlyGivenNames s1
  have h1 : s1.Holds Q := .linkTo (hs.each (fun _ _ h2 => h2.laneTo))
  exact .showLinks (.ite (.setLink (h1.each (fun _ _ h3 => h3.sendCtrl))) h1)

theorem Holds.execLossOfSignal {loss : LaneLoss} (hs : s.Holds Q) : NextHolds Q (execLossOfSignal loss s) :=
  .ok (.ite hs.laneLost.raise hs)

theorem Holds.execFastExit {link : Link} {amp : Nat} {long : Bool} (hs : s.Holds Q) : NextHolds Q (execFastExit link amp long s) := by
  unfold Machine.execFastExit
  refine .ok ?_
  refine .ite hs ?_
  extract_lets +onlyGivenNames _ _ s1
  have h1 : s1.Holds Q := .ite hs.setLink hs
  exact .ite h1.linkBringUp (h1.each (fun _ _ h2 => h2.setLane))

theorem Holds.execFastExitMarkerTimeout {link : Link} (hs : s.Holds Q) : NextHolds Q (execFastExitMarkerTimeout link s) :=
  .ok (.ite hs.linkBringUp hs)

theorem Holds.execTxRampEnd {link : Link} (hs : s.Holds Q) : NextHolds Q (execTxRampEnd link s) := by
  unfold Machine.execTxRampEnd
  refine .ok ?_
  split
  · exact hs.setLink.sendMarkers
  · exact hs.setLink
  · exact hs

theorem Holds.execLaneEyeStart {lane : Lane} (hs : s.Holds Q) : NextHolds Q (execLaneEyeStart lane s) :=
  .ok (.ite hs.startScan hs)

theorem Holds.execEyeScanDone {lane : Lane} {errors : Nat} (hs : s.Holds Q) : NextHolds Q (execEyeScanDone lane errors s) :=
  .ok (.ite hs.setFlag.set.setFlag.setLane hs)

/-! ### The functions of Machine/Snapshot -/

theorem Holds.sendSnapshot {ep seq pos : Nat} {content : List Byte} (hs : s.Holds Q) : (s.sendSnapshot ep seq pos content).Holds Q :=
  hs.each (fun _ _ h1 => h1.update.twinVc)

theorem Holds.adoptItem {own : List SnapItem} {i : SnapItem} (hs : s.Holds Q) : (s.adoptItem own i).Holds Q :=
  .ite hs.update.wrN.set (.ite hs.update (.ite hs.update (.ite hs.update (.ite hs.update (.ite hs.setStream (.ite hs.set (.ite hs.setRing
    (.ite hs.wrN hs))))))))

theorem Holds.unsync (hs : s.Holds Q) : s.unsync.Holds Q :=
  hs.update.setFlag.raise.count

theorem Holds.adopt {ownPos theirPos : Nat} {own theirs : List SnapItem} (hs : s.Holds Q) : (s.adopt ownPos theirPos own theirs).Holds Q :=
  .update (hs.each (fun _ _ h2 => h2.adoptItem))

theorem Holds.compareCopy (hs : s.Holds Q) : s.compareCopy.Holds Q := by
  unfold State.compareCopy
  split
  · refine .ite ?_ hs
    extract_lets +onlyGivenNames _ _ s1
    have h1 : s1.Holds Q := hs.update
    exact .ite (.ite h1.update.setFlag.raise h1) h1.unsync.adopt
  · exact hs

theorem Holds.askReturn {ep seq : Nat} (hs : s.Holds Q) : (s.askReturn ep seq).Holds Q :=
  .ite (.ite (.ite hs.update.twinVc0 hs) hs.update) hs.update

theorem Holds.takeSnapshot (hs : s.Holds Q) : s.takeSnapshot.Holds Q :=
  .ite hs (.ite hs.sendSnapshot (.ite (.askReturn (.compareCopy (.update (.ite hs.unsync hs)))) hs))

theorem Holds.stateBlock {b : List Byte} (hs : s.Holds Q) : (s.stateBlock b).Holds Q := by
  unfold State.stateBlock
  extract_lets +onlyGivenNames _ _
  refine .ite hs ?_
  extract_lets +onlyGivenNames _ _
  refine .ite hs ?_
  extract_lets +onlyGivenNames _ _ s1
  have h1 : s1.Holds Q := hs.update
  exact .compareCopy (.ite h1.count.wrN h1)

theorem Holds.sendConfig (hs : s.Holds Q) : s.sendConfig.Holds Q :=
  hs.each (fun _ _ h1 => h1.update.twinVc)

/-! ### The functions of Machine/Balran -/

theorem Holds.takePayload {k vc : Nat} {p : List Byte} (hs : s.Holds Q) : (s.takePayload k vc p).Holds Q :=
  hs.setLink

theorem Holds.discardFlit {k : Nat} (hs : s.Holds Q) : (s.discardFlit k).Holds Q :=
  .ite hs hs.setLink.sendNak

theorem Holds.checkTypes {k : Nat} (hs : s.Holds Q) : (s.checkTypes k).Holds Q :=
  .ite hs.linkFail.raise hs

theorem Holds.takeVc0 {k type : Nat} {m : List Byte} {t : State} (hs : s.Holds Q) (e : s.takeVc0 k type = some (m, t)) :
    t.Holds Q := by
  unfold State.takeVc0 at e
  split at e
  · split at e
    · cases e
      exact hs.setLink
    · cases e
  · cases e

theorem Holds.takeMsg {k vc type : Nat} {m : List Byte} {t : State} (hs : s.Holds Q) (e : s.takeMsg k vc type = some (m, t)) :
    t.Holds Q := by
  unfold State.takeMsg at e
  extract_lets at e
  split at e
  · split at e
    · cases e
      exact hs.setLink.checkTypes
    · cases e
  · cases e

theorem Holds.dataFlit {k : Nat} {f : List Byte} (hs : s.Holds Q) : (s.dataFlit k f).Holds Q := by
  unfold State.dataFlit
  refine .ite hs ?_
  split
  · exact hs.discardFlit.afterFlit
  · extract_lets +onlyGivenNames _ s1
    have h1 : s1.Holds Q := hs.takeHeader
    exact .afterFlit (.ite h1.setLink.takePayload.checkTypes h1.discardFlit)

theorem Holds.nakFlit {k : Nat} {f : List Byte} (hs : s.Holds Q) : (s.nakFlit k f).Holds Q := by
  unfold State.nakFlit
  split
  · exact hs
  · extract_lets +onlyGivenNames s1 _
    have h1 : s1.Holds Q := hs.takeHeader
    split
    · exact h1.flitSlot
    · exact .ite h1.flitSlot h1.replay

theorem Holds.linkUp {k : Nat} {f : List Byte} (hs : s.Holds Q) : (s.linkUp k f).Holds Q := by
  unfold State.linkUp
  extract_lets +onlyGivenNames _ _ _ _ _ _ _ s1
  have h1 : s1.Holds Q := hs.setLink.linkTo.showLinks
  exact .pumpAll (.ite (h1.each (fun _ _ h3 => h3.emitFlit)) h1)

theorem Holds.sendHello {k : Nat} (hs : s.Holds Q) : (s.sendHello k).Holds Q :=
  .ite hs.sendVc hs

theorem Holds.initFlit {k : Nat} {f : List Byte} (hs : s.Holds Q) : (s.initFlit k f).Holds Q := by
  unfold State.initFlit
  split
  · exact hs
  · refine .ite hs.linkFresh.linkTo.raise.showLinks ?_
    extract_lets +onlyGivenNames _ s1
    have h1 : s1.Holds Q := hs.linkUp
    exact .ite h1 (.ite h1.sendConfig h1.sendHello)

theorem Holds.execDataFlit {link : Link} {flit : List Byte} (hs : s.Holds Q) : NextHolds Q (execDataFlit link flit s) :=
  hs.dataFlit.ok

theorem Holds.execNakFlit {link : Link} {flit : List Byte} (hs : s.Holds Q) : NextHolds Q (execNakFlit link flit s) :=
  hs.nakFlit.ok

theorem Holds.execNullFlit {link : Link} {flit : List Byte} (hs : s.Holds Q) : NextHolds Q (execNullFlit link flit s) := by
  unfold Machine.execNullFlit
  refine .ok ?_
  split
  · exact hs.takeHeader.flitSlot
  · exact hs

theorem Holds.execInitFlit {link : Link} {flit : List Byte} (hs : s.Holds Q) : NextHolds Q (execInitFlit link flit s) :=
  hs.initFlit.ok

theorem Holds.execReplayTimeout {link : Link} (hs : s.Holds Q) : NextHolds Q (execReplayTimeout link s) :=
  .ok (.ite hs.replay hs)

theorem Holds.execNakRepeat {link : Link} (hs : s.Holds Q) : NextHolds Q (execNakRepeat link s) :=
  .ok (.ite hs.sendNak hs)

theorem Holds.execRetrainTimeout {link : Link} (hs : s.Holds Q) : NextHolds Q (execRetrainTimeout link s) :=
  .ok (.ite hs.linkFail hs)

theorem Holds.execFailedRetry {link : Link} (hs : s.Holds Q) : NextHolds Q (execFailedRetry link s) :=
  .ok (.ite hs.linkBringUp hs)

/-! ### The functions of Machine/HbmOps -/

theorem Holds.hbmUe {burst port : Nat} {write : Bool} (hs : s.Holds Q) : (s.hbmUe burst port write).Holds Q :=
  hs.wrN.wrN.wrN.raise.selfFault

theorem Holds.poisonBurst {b : Nat} (hs : s.Holds Q) : (s.poisonBurst b).Holds Q :=
  .ite hs hs.update

theorem Holds.rmwPoison {burst port : Nat} (hs : s.Holds Q) : (s.rmwPoison burst port).Holds Q :=
  hs.count.count.hbmUe

theorem Holds.cleanBursts {whole : List Nat} (hs : s.Holds Q) : (s.cleanBursts whole).Holds Q :=
  hs.update

theorem Holds.strobeWrite {port a : Nat} {bs : List (Option Byte)} (hs : s.Holds Q) : (s.strobeWrite port a bs).Holds Q :=
  .cleanBursts (.update (.each (hs.each (fun _ _ h2 => by
    split
    · exact h2.hbmPut
    · exact h2)) (fun _ _ h4 => h4.rmwPoison)))

theorem Holds.queueWrite {p : Nat} {q : Queued} (hs : s.Holds Q) : (s.queueWrite p q).Holds Q := by
  unfold State.queueWrite
  extract_lets +onlyGivenNames _
  split
  · exact hs.setPc
  · exact hs.setPc

theorem Holds.sendDone {q : HbmPart} (hs : s.Holds Q) : (s.sendDone q).Holds Q :=
  .ite hs.setPc hs.queueWrite

theorem Holds.hbmStore {port a : Nat} {bs : List Byte} (hs : s.Holds Q) : (s.hbmStore port a bs).Holds Q :=
  .each (.cleanBursts (hs.hbmWrite.each (fun _ _ h3 => h3.rmwPoison))) (fun _ _ h5 => h5.sendDone)

/-! ### The functions of Machine/Rings -/

theorem Holds.narrowAccess {bar offset : Nat} (hs : s.Holds Q) : (s.narrowAccess bar offset).Holds Q :=
  hs.raise

theorem Holds.doorbellPos {r new : Nat} (hs : s.Holds Q) : (s.doorbellPos r new).Holds Q :=
  .ite hs.bump (.ite hs.set hs.haltRing.raise.count)

theorem Holds.armCq {r : Nat} (hs : s.Holds Q) : (s.armCq r).Holds Q :=
  .ite hs (.ite hs.bump hs.setRing)

theorem Holds.upperWrite {r v : Nat} (hs : s.Holds Q) : (s.upperWrite r v).Holds Q := by
  unfold State.upperWrite
  extract_lets +onlyGivenNames _ s1
  have h1 : s1.Holds Q := hs.setRing
  exact .ite h1.armCq h1

theorem Holds.doorbellWrite {r byte size v : Nat} (hs : s.Holds Q) : (s.doorbellWrite r byte size v).Holds Q := by
  unfold State.doorbellWrite
  refine .ite hs.narrowAccess ?_
  refine .ite hs.upperWrite ?_
  extract_lets +onlyGivenNames _ _ _ s1
  have h1 : s1.Holds Q := hs.setRing.doorbellPos
  exact .ite h1.armCq h1

theorem Holds.barAnswer {v : Nat} (hs : s.Holds Q) : (s.barAnswer v).Holds Q :=
  hs.update

theorem Holds.doorbellAccess {r byte : Nat} {x : BarAccess} (hs : s.Holds Q) : (s.doorbellAccess r byte x).Holds Q := by
  unfold State.doorbellAccess
  split
  · exact hs.doorbellWrite
  · exact hs.barAnswer

theorem Holds.cqWritten {q : Nat} (hs : s.Holds Q) : (s.cqWritten q).Holds Q :=
  .ite (.ite hs.setRing.signal hs.setRing) hs.setRing

theorem Holds.recordsWritten {l : List HeldWrite} (hs : s.Holds Q) : (s.recordsWritten l).Holds Q :=
  hs.each (fun _ _ h1 => h1.cqWritten)

theorem Holds.sendHeld (hs : s.Holds Q) : s.sendHeld.Holds Q :=
  .ite hs hs.update.recordsWritten

theorem Holds.writeRecord {r : Nat} (hs : s.Holds Q) : (s.writeRecord r).Holds Q := by
  unfold State.writeRecord
  split
  · exact hs
  · split
    · exact hs
    · extract_lets +onlyGivenNames _
      refine .ite ?_ (.ite hs hs.setRing.raise)
      refine .ite ?_ hs
      extract_lets +onlyGivenNames _ _ _ _ _ s4
      have h4 : s4.Holds Q := hs.hostWrite.set.set.setRing
      exact .settleRing (.ite h4.setRing h4.cqWritten)

theorem Holds.hostData {r pos a : Nat} {bs : List Byte} (hs : s.Holds Q) : (s.hostData r pos a bs).Holds Q :=
  hs.each (fun _ _ h1 => h1.hostWrite)

theorem Holds.fillBufs {r prod : Nat} {first : Bool} {l : List PostedBuf} {bs : List Byte} (hs : s.Holds Q) :
    (s.fillBufs r prod first l bs).Holds Q := by
  induction l generalizing s first bs with
  | nil => exact hs.setRing
  | cons b t ih =>
    unfold State.fillBufs
    exact .ite hs.hostData.finish.setRing (ih hs.hostData.finish.setRing)

theorem Holds.dropStuck {r : Nat} (hs : s.Holds Q) : (s.dropStuck r).Holds Q :=
  hs.setRing.each (fun _ _ h2 => h2.dropMsg)

theorem Holds.deliverNext {r : Nat} (hs : s.Holds Q) : (s.deliverNext r).Holds Q := by
  unfold State.deliverNext
  extract_lets +onlyGivenNames _
  refine .ite ?_ ?_
  · split
    · exact hs.setRing
    · exact hs.setRing.dropMsg
    · exact hs
  · refine .ite hs ?_
    split
    · exact .ite hs.dropStuck (.ite hs hs.fillBufs)
    · split
      · exact hs
      · exact .ite hs.setRing.dropMsg (.ite hs (.ite hs.setRing.dropMsg (.ite hs.dropStuck hs.setRing.fillBufs)))

theorem Holds.enableRing {r : Nat} (hs : s.Holds Q) : (s.enableRing r).Holds Q :=
  .ite hs (.ite hs.set hs.wrN.wrN.setRing)

theorem Holds.pauseRing {r : Nat} (hs : s.Holds Q) : (s.pauseRing r).Holds Q :=
  .ite hs.set hs

theorem Holds.resumeRing {r : Nat} (hs : s.Holds Q) : (s.resumeRing r).Holds Q :=
  .ite hs.set.settleRing hs

theorem Holds.showChannel {c : Nat} (hs : s.Holds Q) : (s.showChannel c).Holds Q := by
  unfold State.showChannel
  refine .ite hs ?_
  split
  · exact hs.set.set
  · exact hs.set

theorem Holds.scanEnded {st n : Nat} (hs : s.Holds Q) : (s.scanEnded st n).Holds Q := by
  unfold State.scanEnded
  extract_lets +onlyGivenNames s1
  have h1 : s1.Holds Q := hs.set
  exact .count (.ite h1.count (.ite h1.count (.ite h1.count h1)))

theorem Holds.endWaits {q : Nat} (hs : s.Holds Q) : (s.endWaits q).Holds Q :=
  .ite hs.setRing hs

theorem Holds.dropRecords {q : Nat} (hs : s.Holds Q) : (s.dropRecords q).Holds Q :=
  hs.each (fun _ _ h1 => h1.setRing)

theorem Holds.resetRing {r : Nat} (hs : s.Holds Q) : (s.resetRing r).Holds Q := by
  unfold State.resetRing
  refine .ite hs ?_
  refine .ite (.ite hs.raise hs.dropRecords.wrN.wrN.setRing) ?_
  extract_lets +onlyGivenNames _ _ _ _ _ _ _ _ _ s6
  have h7 : s6.Holds Q := .endWaits (.setRing (.wrN (.wrN (.update (hs.each (fun _ _ h3 => h3.dropMsg))))))
  split
  · exact .ite h7 (.showChannel (.ite h7.scanEnded h7))
  · exact h7

theorem Holds.sendPending (hs : s.Holds Q) : s.sendPending.Holds Q :=
  hs.update.each (fun _ _ h1 => h1.signal)

theorem Holds.msixWord {off v : Nat} (hs : s.Holds Q) : (s.msixWord off v).Holds Q := by
  unfold State.msixWord
  refine .ite hs ?_
  extract_lets +onlyGivenNames _
  split
  · exact hs.update.sendPending

theorem Holds.execMsixTableWrite {line : Fin 4096} {byte : Fin 16} {access : BarAccess} (hs : s.Holds Q) : NextHolds Q (execMsixTableWrite
    line byte access s) := by
  unfold Machine.execMsixTableWrite
  extract_lets +onlyGivenNames _ _
  refine .ok ?_
  split
  · exact .ite hs.narrowAccess (.ite hs.msixWord.msixWord hs.msixWord)
  · exact .ite hs.barAnswer hs.barAnswer

theorem Holds.execDoorbell {ring : Ring} {byte : Fin 8} {access : BarAccess} (hs : s.Holds Q) : NextHolds Q (execDoorbell ring byte access
    s) :=
  .ok (.ite hs hs.doorbellAccess)

theorem Holds.execCqDoorbell {ring : Ring} {byte : Fin 8} {access : BarAccess} (hs : s.Holds Q) : NextHolds Q (execCqDoorbell ring byte
    access s) :=
  .ok (.ite hs.doorbellAccess hs)

theorem Holds.execCqArm {ring : Ring} {byte : Fin 4} {write : BarWrite} (hs : s.Holds Q) : NextHolds Q (execCqArm ring byte write s) :=
  .ok (.ite hs.narrowAccess hs.upperWrite)

theorem Holds.execCompletionRecordWrite {ring : Ring} (hs : s.Holds Q) : NextHolds Q (execCompletionRecordWrite ring s) :=
  hs.writeRecord.ok

theorem Holds.execDeliveryMessage {ring : Ring} (hs : s.Holds Q) : NextHolds Q (execDeliveryMessage ring s) :=
  hs.deliverNext.ok

theorem Holds.execCqCoalesceTimeout {ring : Ring} (hs : s.Holds Q) : NextHolds Q (execCqCoalesceTimeout ring s) :=
  .ok (.ite hs.setRing.signal hs)

theorem Holds.execRingEnable {ring : Ring} (hs : s.Holds Q) : NextHolds Q (execRingEnable ring s) :=
  .ok (.ite hs.enableRing hs)

theorem Holds.execRingPause {ring : Ring} (hs : s.Holds Q) : NextHolds Q (execRingPause ring s) :=
  .ok (.ite hs.pauseRing hs)

theorem Holds.execRingResume {ring : Ring} (hs : s.Holds Q) : NextHolds Q (execRingResume ring s) :=
  .ok (.ite hs.resumeRing hs)

/-! ### The functions of Machine/Dma -/

theorem Holds.hostRead {addr len : Nat} {use : ReadUse} {ro : Bool} (hs : s.Holds Q) : (s.hostRead addr len use ro).Holds Q :=
  hs.update

theorem Holds.endChain {r st : Nat} (hs : s.Holds Q) : (s.endChain r st).Holds Q := by
  unfold State.endChain
  extract_lets +onlyGivenNames _
  split
  · exact hs
  · exact hs.setRing

theorem Holds.fetch {r n : Nat} (hs : s.Holds Q) : (s.fetch r n).Holds Q := by
  unfold State.fetch
  extract_lets +onlyGivenNames _ _
  refine .ite hs ?_
  split
  · exact .ite hs (.ite hs.endChain hs.setRing.hostRead)
  · exact .ite hs hs.setRing.hostRead

theorem Holds.fetched {r : Nat} {chained : Bool} {bs : List Byte} (hs : s.Holds Q) : (s.fetched r chained bs).Holds Q :=
  .settleRing (.ite hs.setRing hs.setRing)

theorem Holds.fetchFailed {r : Nat} {chained : Bool} {st : Nat} (hs : s.Holds Q) : (s.fetchFailed r chained st).Holds Q := by
  unfold State.fetchFailed
  extract_lets +onlyGivenNames _ s1
  have h1 : s1.Holds Q := hs.setRing
  exact .ite h1.endChain h1.setRing

theorem Holds.putDest {r : Nat} {p : Pattern} {m : Nat} {bs : List Byte} (hs : s.Holds Q) : (s.putDest r p m bs).Holds Q :=
  .ite hs.hbmStore hs.hostData

theorem Holds.setChan {c : Nat} {x : DmaChSt} (hs : s.Holds Q) : (s.setChan c x).Holds Q :=
  hs.update

theorem Holds.abortDone {c : Nat} (hs : s.Holds Q) : (s.abortDone c).Holds Q :=
  .ite hs.wrN.raise.count.setChan hs

theorem Holds.endXfer {r : Nat} {t : Xfer} {st : Nat} (hs : s.Holds Q) : (s.endXfer r t st).Holds Q := by
  unfold State.endXfer
  extract_lets +onlyGivenNames _ _ _ _ s2 s3
  have h2 : s2.Holds Q := hs.setRing.finish
  have h3 : s3.Holds Q := .ite h2.scanEnded h2
  exact .settleRing (.showChannel (.abortDone (.ite h3.setChan h3)))

theorem Holds.moved {r : Nat} {t : Xfer} {n : Nat} (hs : s.Holds Q) : (s.moved r t n).Holds Q := by
  unfold State.moved
  extract_lets +onlyGivenNames _
  split
  · exact hs.endXfer
  · exact .ite hs.endXfer hs.setRing

theorem Holds.burstFailed {r : Nat} {t : Xfer} {st : Nat} (hs : s.Holds Q) : (s.burstFailed r t st).Holds Q :=
  .endXfer (.ite hs.count.raise hs.count.raise)

theorem Holds.burstData {r : Nat} {t : Xfer} {bs : List Byte} (hs : s.Holds Q) : (s.burstData r t bs).Holds Q :=
  .ite hs.moved (.ite hs.decodeError.burstFailed hs.putDest.moved)

theorem Holds.burst {c elapsed : Nat} (hs : s.Holds Q) : (s.burst c elapsed).Holds Q := by
  unfold State.burst
  extract_lets +onlyGivenNames _ _ _ s1
  have h1 : s1.Holds Q := hs.setChan
  refine .ite h1 ?_
  split
  · exact h1
  · extract_lets +onlyGivenNames _ _ _ _
    refine .ite h1 ?_
    refine .ite h1 ?_
    extract_lets +onlyGivenNames _ s2
    have h2 : s2.Holds Q := h1.setChan
    exact .ite (.ite h2.decodeError.burstFailed (.ite h2.burstFailed h2.burstData)) (.ite h2.setRing.hostRead h2)

theorem Holds.dropRead {tag : Nat} (hs : s.Holds Q) : (s.dropRead tag).Holds Q :=
  hs.update

theorem Holds.answered {q : HostReq} {a : HostRead} (hs : s.Holds Q) : (s.answered q a).Holds Q := by
  unfold State.answered
  extract_lets +onlyGivenNames s1 good st
  have h1 : s1.Holds Q := hs.dropRead
  clear_value good
  split
  · split
    · exact h1.fetched
    · exact .fetchFailed (.ite h1.count.raise h1.count.raise)
  · split
    · exact h1.fetched
    · exact .fetchFailed (.ite h1.count.raise h1.count.raise)
  · exact .settleRing (.finish (.ite h1.count.raise h1))
  · split
    · refine .ite ?_ h1
      split
      · exact h1.burstData
      · exact h1.burstFailed
    · exact h1
  · split
    · exact h1.respond
    · exact .ite h1.respond h1.hostRead

theorem Holds.abortMessage {r : Nat} (hs : s.Holds Q) : (s.abortMessage r).Holds Q := by
  unfold State.abortMessage
  extract_lets +onlyGivenNames _
  split
  · exact hs.setRing
  · exact hs

theorem Holds.abortLoad {l : BeamLoad} (hs : s.Holds Q) : (s.abortLoad l).Holds Q :=
  hs.update.finish

theorem Holds.abortChannel {c : Nat} (hs : s.Holds Q) : (s.abortChannel c).Holds Q :=
  .ite hs (.abortDone (.each (.setChan (.each (hs.set.each (fun _ _ h3 => h3.abortMessage)) (fun _ _ h4 => h4.abortLoad))) (fun _ _ h7 => by
    split
    · exact .ite h7.setRing h7.endXfer
    · exact h7)))

theorem Holds.resumeChannel {c : Nat} (hs : s.Holds Q) : (s.resumeChannel c).Holds Q :=
  .ite (hs.set.showChannel.each (fun _ _ h2 => h2.settleRing)) hs

theorem Holds.followLink {r : Nat} (hs : s.Holds Q) : (s.followLink r).Holds Q := by
  unfold State.followLink
  split
  · exact hs
  · extract_lets +onlyGivenNames _
    refine .ite hs ?_
    extract_lets +onlyGivenNames _ _ _ record
    have hrecord : ∀ s a2, s.Holds Q → State.Holds Q (record s a2) := fun _ _ h1 => h1.setRing
    exact .ite (.count (.raise (.haltRing (hrecord _ _ hs)))) (.ite (.settleRing (hrecord _ _ hs)) (.ite (.settleRing (hrecord _ _ hs))
      hs.setRing))

theorem Holds.doNop {r : Nat} (hs : s.Holds Q) : (s.doNop r).Holds Q := by
  unfold State.doNop
  split
  · exact hs
  · refine .ite hs ?_
    refine .ite hs.setRing.settleRing ?_
    split
    · rename_i t1 e
      exact .settleRing (.finishSt (.of_snd e hs.openSlot))

theorem Holds.execDescriptorFetch {ring : Ring} {count : Fin 9} (hs : s.Holds Q) : NextHolds Q (execDescriptorFetch ring count s) :=
  hs.fetch.ok

theorem Holds.execCopy {ring : Ring} (hs : s.Holds Q) : NextHolds Q (execCopy ring s) :=
  .ok (hs.command (fun _ _ _ _ h1 => by
    split
    · exact h1.finishSt
    · exact h1.setRing.showChannel))

theorem Holds.execLink {ring : Ring} (hs : s.Holds Q) : NextHolds Q (execLink ring s) :=
  hs.followLink.ok

theorem Holds.execNop {ring : Ring} (hs : s.Holds Q) : NextHolds Q (execNop ring s) :=
  hs.doNop.ok

theorem Holds.execBuffer {ring : Ring} (hs : s.Holds Q) : NextHolds Q (execBuffer ring s) :=
  .ok (hs.command (fun _ _ _ _ h1 => by
    extract_lets +onlyGivenNames _ _
    refine .ite h1.finishSt ?_
    refine .ite h1.finishSt ?_
    split
    · exact h1.setRing
    · exact h1))

theorem Holds.execDmaBurst {channel : DmaCh} {elapsed : Nat} (hs : s.Holds Q) : NextHolds Q (execDmaBurst channel elapsed s) :=
  hs.burst.ok

theorem Holds.execHostReadCompletion {tag : Nat} {answer : HostRead} (hs : s.Holds Q) : NextHolds Q (execHostReadCompletion tag answer s)
    := by
  unfold Machine.execHostReadCompletion
  refine .ok ?_
  refine .ite hs.update.count ?_
  split
  · exact hs.answered
  · exact hs

theorem Holds.execCompletionTimeout {tag : Nat} (hs : s.Holds Q) : NextHolds Q (execCompletionTimeout tag s) := by
  unfold Machine.execCompletionTimeout
  refine .ok ?_
  refine .ite hs.update ?_
  split
  · exact hs.update.answered
  · exact hs

theorem Holds.execDmaChResume {channel : DmaCh} (hs : s.Holds Q) : NextHolds Q (execDmaChResume channel s) :=
  .ok (.ite hs.resumeChannel hs)

/-! ### The functions of Machine/Ingest -/

theorem Holds.ingestCause {n stream by_ : Nat} (hs : s.Holds Q) : (s.ingestCause n stream by_).Holds Q :=
  .ite hs hs.count.raiseIf

theorem Holds.setAbsent {key : Nat} {b : Bool} (hs : s.Holds Q) : (s.setAbsent key b).Holds Q :=
  .setFlag (.ite hs.setFlag hs.update)

theorem Holds.showStoreKib (hs : s.Holds Q) : s.showStoreKib.Holds Q :=
  hs.set.peak

theorem Holds.storeSlice {c k : Nat} {x : Slice} (hs : s.Holds Q) : (s.storeSlice c k x).Holds Q := by
  unfold State.storeSlice
  extract_lets +onlyGivenNames _ _ _ _ _ _ s1 s2
  have h1 : s1.Holds Q := hs.update
  have h2 : s2.Holds Q := .ite h1.setAbsent.raise h1
  exact .ite h2.setFlag h2

theorem Holds.storeUnit {ss sc n k chan step : Nat} {x : Slice} (hs : s.Holds Q) : (s.storeUnit ss sc n k chan step x).Holds Q := by
  unfold State.storeUnit
  extract_lets +onlyGivenNames ps
  refine .showStoreKib (.ingestCause (.ingestCause (.foldl_fst (p := (s, false, false)) hs fun _ _ h1 => ?_)))
  dsimp only
  split
  · exact h1
  · exact h1
  · exact h1
  · exact h1.storeSlice

theorem Holds.sendUnit {q : Nat} {k : Option Nat} {u : Option Unit46} (hs : s.Holds Q) : (s.sendUnit q k u).Holds Q := by
  unfold State.sendUnit
  split
  · exact .ite hs.sendVc hs.linkRefuse.count.raise
  · exact hs

theorem Holds.forwardOwn {u : Unit46} (hs : s.Holds Q) : (s.forwardOwn u).Holds Q :=
  .ite hs.sendUnit (.ite hs.sendUnit.sendUnit.sendUnit hs)

theorem Holds.relayUnit {from_ : Nat} {u : Unit46} (hs : s.Holds Q) : (s.relayUnit from_ u).Holds Q :=
  .ite (.ite hs.sendUnit (.ite hs.sendUnit hs)) hs

theorem Holds.acceptPacket {link : Nat} {b : List Byte} (hs : s.Holds Q) : (s.acceptPacket link b).Holds Q := by
  unfold State.acceptPacket
  extract_lets +onlyGivenNames _
  split
  · exact hs.ingestCause
  · extract_lets +onlyGivenNames _
    split
    · extract_lets +onlyGivenNames s1
      have h1 : s1.Holds Q := hs.ingestCause
      exact .storeUnit (.ite h1 h1.forwardOwn)

theorem Holds.framePackets {link : Nat} {l : List Block257} (hs : s.Holds Q) : (s.framePackets link l).1.Holds Q :=
  hs.count.each (fun _ _ h2 => h2.count)

theorem Holds.addChange {kind : ChangeKind} {k : Nat} {items : List (Nat × Nat)} {ref : Option CmdRef} (hs : s.Holds Q) : (s.addChange
    kind k items ref).Holds Q :=
  hs.update

theorem Holds.changeRegs {x : Change} (hs : s.Holds Q) : (s.changeRegs x).Holds Q :=
  hs.each (fun _ _ h1 => by
    split
    · exact .ite h1.set h1
    · exact h1.set
    · exact h1
    · exact h1.set)

theorem Holds.endChanges (hs : s.Holds Q) : s.endChanges.Holds Q :=
  .update (hs.each (fun _ _ h2 => by
    extract_lets +onlyGivenNames s2
    have h3 : s2.Holds Q := h2.changeRegs
    split
    · exact h3.finish
    · exact h3))

/-! ### The functions of Machine/Harrow -/

theorem Holds.setSlot {z : Nat} {x : SlotSt} (hs : s.Holds Q) : (s.setSlot z x).Holds Q :=
  hs.update

theorem Holds.resetSlot {z frame : Nat} (hs : s.Holds Q) : (s.resetSlot z frame).Holds Q :=
  hs.setSlot

theorem Holds.slotJob {z k : Nat} {j : SlotJob} (hs : s.Holds Q) : (s.slotJob z k j).Holds Q := by
  unfold State.slotJob
  extract_lets +onlyGivenNames _
  split
  · exact hs.resetSlot
  · exact hs.setSlot
  · exact hs.setSlot
  · exact hs.setSlot

theorem Holds.slotJobs {z k : Nat} (hs : s.Holds Q) : (s.slotJobs z k).Holds Q :=
  .update (.each (.each (.each (.ite hs.resetSlot hs) (fun _ _ h3 => h3.slotJob)) (fun _ _ h5 => h5.slotJob)) (fun _ _ h7 => h7.finish))

theorem Holds.addSlotJob {ref : CmdRef} {action value k mask : Nat} (hs : s.Holds Q) : (s.addSlotJob ref action value k mask).Holds Q :=
  .ite hs.finish hs.update

theorem Holds.showSettling (hs : s.Holds Q) : s.showSettling.Holds Q :=
  hs.setFlag

theorem Holds.formFrame {z k : Nat} (hs : s.Holds Q) : (s.formFrame z k).1.Holds Q := by
  unfold State.formFrame
  extract_lets +onlyGivenNames _ _ _ _ _ _ _
  split
  · exact hs.count.count.count.setFlag

theorem Holds.powerRun {z k : Nat} {xs : List (Int × Int)} {valid : List Bool} (hs : s.Holds Q) : (s.powerRun z k xs valid).Holds Q :=
  .ite hs (.ite hs.setSlot.toRing hs.setSlot)

theorem Holds.harrowSheaf {z : Nat} {sh : Sheaf} (hs : s.Holds Q) : (s.harrowSheaf z sh).1.Holds Q := by
  unfold State.harrowSheaf
  extract_lets +onlyGivenNames _ _ _ _ _ _ _ _ s3
  have h3 : s3.Holds Q := hs.slotJobs.setSlot.powerRun
  exact .ite_fst h3.formFrame h3

theorem Holds.tableCommand {src : CmdSrc} {op top : Nat} {t : HostRead} {good : State → Nat → Bool} {f : CmdRef → Nat → List Nat → State →
    State} (hs : s.Holds Q) (hf : ∀ a1 a2 a3 t, State.Holds Q t → State.Holds Q (f a1 a2 a3 t)) : (s.tableCommand src op top t good
    f).Holds Q :=
  hs.keyedCommand (fun _ _ _ _ h1 => by
    refine .ite h1.finishSt ?_
    split
    · exact h1.tableFailed
    · exact .ite (hf _ _ _ _ h1) h1.finishSt)

theorem Holds.sendMask {k : Nat} {es : List Nat} (hs : s.Holds Q) : (s.sendMask k es).Holds Q :=
  hs.each (fun _ _ h1 => h1.weaveVc)

theorem Holds.execIngestMask {src : CmdSrc} {table : HostRead} (hs : s.Holds Q) : NextHolds Q (execIngestMask src table s) :=
  .ok (hs.tableCommand (fun _ _ _ _ h1 => .endChanges (.addChange (.ite h1 h1.sendMask))))

theorem Holds.execIngestGain {src : CmdSrc} {table : HostRead} (hs : s.Holds Q) : NextHolds Q (execIngestGain src table s) :=
  .ok (hs.tableCommand (fun _ _ _ _ h1 => h1.addChange.endChanges))

theorem Holds.execHarrowReset {src : CmdSrc} (hs : s.Holds Q) : NextHolds Q (execHarrowReset src s) :=
  .ok (hs.keyedCommand (fun _ _ _ _ h1 => h1.addSlotJob.showSettling))

theorem Holds.execHarrowDc {src : CmdSrc} (hs : s.Holds Q) : NextHolds Q (execHarrowDc src s) :=
  .ok (hs.keyedCommand (fun _ _ _ _ h1 => .ite h1.finishSt h1.addSlotJob))

theorem Holds.execHarrowGain {src : CmdSrc} {table : HostRead} (hs : s.Holds Q) : NextHolds Q (execHarrowGain src table s) :=
  .ok (hs.tableCommand (fun _ _ _ _ h1 => h1.addChange.addChange.endChanges))

theorem Holds.execHarrowDcReRead (hs : s.Holds Q) : NextHolds Q (execHarrowDcReRead s) :=
  .ok (hs.answer (fun _ h1 => h1.wrN.wrN))

/-! ### The functions of Machine/Turning -/

theorem Holds.setTurnChan {ch : Nat} {x : TurnChan} (hs : s.Holds Q) : (s.setTurnChan ch x).Holds Q :=
  hs.update

theorem Holds.showMargin {ch : Nat} (hs : s.Holds Q) : (s.showMargin ch).Holds Q := by
  unfold State.showMargin
  extract_lets +onlyGivenNames _ _ s1
  have h1 : s1.Holds Q := hs.set
  exact .raiseIf (.setFlag (.ite h1.set h1))

theorem Holds.markReady {ch n : Nat} (hs : s.Holds Q) : (s.markReady ch n).Holds Q := by
  induction n generalizing s with
  | zero => exact hs
  | succ n ih => exact .ite (ih hs.setTurnChan.update) hs

theorem Holds.releasePass {ch q : Nat} (hs : s.Holds Q) : (s.releasePass ch q).Holds Q :=
  hs.setTurnChan.update.showMargin

/-! ### The functions of Machine/Weeder -/

theorem Holds.setWeedChan {ch : Nat} {x : WeedChan} (hs : s.Holds Q) : (s.setWeedChan ch x).Holds Q :=
  hs.update

theorem Holds.weedJobs {ch b : Nat} (hs : s.Holds Q) : (s.weedJobs ch b).Holds Q :=
  .update (.each (.ite hs hs.setWeedChan) (fun _ _ h3 => h3.finish))

theorem Holds.weedHand {ref : CmdRef} {d : List Byte} (hs : s.Holds Q) : (s.weedHand ref d).Holds Q :=
  .ite hs.finishSt (.ite hs.finish hs.update)

theorem Holds.completeBlock {b : WeedBlock} (hs : s.Holds Q) : (s.completeBlock b).Holds Q := by
  unfold State.completeBlock
  extract_lets +onlyGivenNames _ _ _ _ _ s2
  have h2 : s2.Holds Q := hs.hbmStore.update
  exact .markReady (.setTurnChan (.ite h2.toRing h2))

theorem Holds.settleBlock {b : WeedBlock} (hs : s.Holds Q) : (s.settleBlock b).Holds Q :=
  .ite hs.update.completeBlock hs.update

theorem Holds.sendWeeder {b : WeedBlock} (hs : s.Holds Q) : (s.sendWeeder b).Holds Q :=
  .update (hs.each (fun _ _ h2 => h2.weaveVc))

theorem Holds.ownBlock {b : WeedBlock} (hs : s.Holds Q) : (s.ownBlock b).Holds Q := by
  unfold State.ownBlock
  refine .ite hs.settleBlock ?_
  extract_lets +onlyGivenNames _ _
  split
  · exact hs.sendWeeder.update.settleBlock

theorem Holds.beginBlock {ch k : Nat} (hs : s.Holds Q) : (s.beginBlock ch k).Holds Q :=
  hs.weedJobs.setWeedChan

theorem Holds.weedAdd {sh : Sheaf} (hs : s.Holds Q) : (s.weedAdd sh).Holds Q :=
  hs.setWeedChan.count

theorem Holds.weedSkip {ch : Nat} (hs : s.Holds Q) : (s.weedSkip ch).Holds Q :=
  hs.setWeedChan

theorem Holds.endBlock {ch : Nat} (hs : s.Holds Q) : (s.endBlock ch).Holds Q := by
  unfold State.endBlock
  extract_lets +onlyGivenNames _ _ _ _ _ _ _ _ _ _
  split
  · exact .ownBlock (.setWeedChan (.count (hs.each (fun _ _ h2 => h2.count))))

theorem Holds.weedSheaf {ch k : Nat} {sh : Option Sheaf} (hs : s.Holds Q) : (s.weedSheaf ch k sh).1.Holds Q := by
  unfold State.weedSheaf
  refine .ite_fst hs ?_
  extract_lets +onlyGivenNames s1 s2
  have h1 : s1.Holds Q := .ite hs.beginBlock hs
  have h2 : s2.Holds Q := by
    unfold s2
    split
    · exact h1.weedAdd
    · exact h1.weedSkip
  exact .ite h2.endBlock h2

theorem Holds.noteWithheld {ch n : Nat} (hs : s.Holds Q) : (s.noteWithheld ch n).Holds Q := by
  induction n generalizing s with
  | zero => exact hs
  | succ n ih =>
    unfold State.noteWithheld
    split
    · exact ih hs.update.weedSheaf.setTurnChan
    · exact hs

theorem Holds.wrote {ch : Nat} (hs : s.Holds Q) : (s.wrote ch).Holds Q := by
  unfold State.wrote
  extract_lets +onlyGivenNames s1
  have h1 : s1.Holds Q := hs.noteWithheld
  exact .showMargin (.markReady (.ite h1.setTurnChan h1))

theorem Holds.turnWrite {ch : Nat} (hs : s.Holds Q) : (s.turnWrite ch).Holds Q := by
  unfold State.turnWrite
  split
  · extract_lets +onlyGivenNames _
    refine .ite (.ite hs hs.setTurnChan.count.raise) ?_
    refine .ite hs ?_
    extract_lets +onlyGivenNames _ _ _
    split
    · rename_i t2 _ e
      exact .wrote (.setTurnChan (.hbmStore (.of_fst e hs.update.weedSheaf)))
  · exact hs.wrote
  · exact hs

theorem Holds.toCorr {sh : Sheaf} (hs : s.Holds Q) : (s.toCorr sh).Holds Q := by
  unfold State.toCorr
  extract_lets +onlyGivenNames _ _ _ _ _ _ _ _ _ s3
  have h3 : s3.Holds Q := hs.update.raiseIf.update
  exact .ite h3.wrote h3

theorem Holds.flagTimeout {ch : Nat} (hs : s.Holds Q) : (s.flagTimeout ch).Holds Q := by
  unfold State.flagTimeout
  split
  · exact hs.count.raise.update.completeBlock
  · exact hs

theorem Holds.weederMsg {m : List Byte} {inputs : List Bool} (hs : s.Holds Q) : (s.weederMsg m inputs).Holds Q := by
  unfold State.weederMsg
  extract_lets +onlyGivenNames _ _ _ _ _ _
  split
  · exact hs.settleBlock
  · exact .ite hs hs.update

theorem Holds.execWeedCtl {src : CmdSrc} (hs : s.Holds Q) : NextHolds Q (execWeedCtl src s) :=
  .ok (hs.keyedCommand (fun _ _ _ _ h1 => h1.weedHand))

theorem Holds.execWeedProbeSkRead (hs : s.Holds Q) : NextHolds Q (execWeedProbeSkRead s) :=
  .ok (hs.answer (fun _ h1 => h1.wrN.wrN))

theorem Holds.execTurningWrite {channel : Chan} (hs : s.Holds Q) : NextHolds Q (execTurningWrite channel s) :=
  hs.turnWrite.ok

theorem Holds.execFlagWaitTimeout {channel : Chan} (hs : s.Holds Q) : NextHolds Q (execFlagWaitTimeout channel s) :=
  hs.flagTimeout.ok

/-! ### The functions of Machine/Granary -/

theorem Holds.setGrp {g : Nat} {x : GrpSt} (hs : s.Holds Q) : (s.setGrp g x).Holds Q :=
  hs.update

theorem Holds.showGrp {g : Nat} (hs : s.Holds Q) : (s.showGrp g).Holds Q := by
  unfold State.showGrp
  extract_lets +onlyGivenNames _ _ s1 _ _ s5
  have h1 : s1.Holds Q := by
    unfold s1
    split
    · exact hs.wrN.set.wrN
    · exact hs.wrN
  have h5 : s5.Holds Q := h1.setFlag.set
  exact .ite h5.set.set (.ite h5.set h5)

theorem Holds.cycleEnd (hs : s.Holds Q) : s.cycleEnd.Holds Q :=
  .takeSnapshot (.update (hs.each (fun _ _ h2 => h2.set)))

theorem Holds.beginIntegration {g q : Nat} (hs : s.Holds Q) : (s.beginIntegration g q).Holds Q := by
  unfold State.beginIntegration
  extract_lets +onlyGivenNames _ _ _
  split
  · extract_lets +onlyGivenNames _ _ _ s2 _ s3
    have h2 : s2.Holds Q := hs.setGrp.set
    have h3 : s3.Holds Q := .ite h2 h2.set
    exact .ite h3.cycleEnd h3

theorem Holds.stretch {g q : Nat} (hs : s.Holds Q) : (s.stretch g q).Holds Q := by
  unfold State.stretch
  extract_lets +onlyGivenNames _
  split
  · exact hs
  · exact .ite hs.setGrp hs.setGrp.count.raiseIf

theorem Holds.decidePass {g q : Nat} (hs : s.Holds Q) : (s.decidePass g q).Holds Q := by
  unfold State.decidePass
  extract_lets +onlyGivenNames _
  refine .ite ?_ ?_
  · extract_lets +onlyGivenNames s1
    have h1 : s1.Holds Q := hs.setGrp
    exact .ite h1.set h1
  · split
    · exact hs.beginIntegration
    · refine .ite hs.stretch ?_
      split
      · exact hs.setGrp.beginIntegration
      · exact hs.stretch
      · exact hs.setGrp

theorem Holds.endStops (hs : s.Holds Q) : s.endStops.Holds Q :=
  .update (hs.each (fun _ _ h2 => h2.finish))

theorem Holds.startDrain {g : Nat} (hs : s.Holds Q) : (s.startDrain g).Holds Q := by
  unfold State.startDrain
  extract_lets +onlyGivenNames _ _ _ _ s1
  have h1 : s1.Holds Q := hs.setGrp
  exact .endStops (.showGrp (.ite h1.set h1))

theorem Holds.decideDue {g n : Nat} (hs : s.Holds Q) : (s.decideDue g n).Holds Q := by
  induction n generalizing s with
  | zero => exact hs
  | succ n ih => exact .ite (ih hs.beginIntegration) (.ite (ih hs.decidePass) hs)

theorem Holds.spillReached {ch q : Nat} {whole : Bool} (hs : s.Holds Q) : (s.spillReached ch q whole).Holds Q :=
  hs.each (fun _ _ h1 => h1.setGrp.decideDue.startDrain)

theorem Holds.addTile {g : Nat} {b : Bank} {t : TileSum} {f : Flight} {poison badCounts : List Nat} (hs : s.Holds Q) : (s.addTile g b t f
    poison badCounts).2.Holds Q := by
  unfold State.addTile
  extract_lets +onlyGivenNames _ _ _ _ _ _ _ _ _ _
  split
  · exact hs.count.count.raiseIf

theorem Holds.addSpill {t : TileSum} {f : Flight} {poison badCounts : List Nat} (hs : s.Holds Q) : (s.addSpill t f poison badCounts).Holds
    Q :=
  hs.setFlag.each (fun _ _ h2 => by
    extract_lets +onlyGivenNames _
    split
    · split
      · rename_i t2 e
        exact .setGrp (.of_snd e h2.addTile)
    · split
      · rename_i t3 e
        exact .setGrp (.of_snd e h2.addTile)
    · exact h2)

theorem Holds.setFlight {f : Flight} (hs : s.Holds Q) : (s.setFlight f).Holds Q :=
  hs.update

theorem Holds.markFlight {ch q : Nat} {g : Flight → Flight} (hs : s.Holds Q) : (s.markFlight ch q g).Holds Q :=
  hs.update

theorem Holds.tellPasses (hs : s.Holds Q) : s.tellPasses.Holds Q :=
  .update (hs.each (fun _ _ h2 => by
    extract_lets +onlyGivenNames _
    refine .ite ?_ h2
    extract_lets +onlyGivenNames s2
    have h3 : s2.Holds Q := h2.setFlight
    exact .ite h3.toRing h3))

theorem Holds.startGroups {mask t : Nat} {pass : Option Nat} (hs : s.Holds Q) : (s.startGroups mask t pass).1.Holds Q :=
  .foldl_fst (p := (s, false)) hs fun _ _ h1 => h1.setGrp.set.decideDue.showGrp

theorem Holds.stopGroups {mask : Nat} (hs : s.Holds Q) : (s.stopGroups mask).Holds Q :=
  hs.each (fun _ _ h1 => by
    refine .ite h1.set ?_
    refine .ite ?_ h1
    extract_lets +onlyGivenNames _ s1
    have h2 : s1.Holds Q := h1.setGrp
    exact .ite h2.set h2.startDrain)

theorem Holds.relayGran {start : Bool} {mask pass t : Nat} (hs : s.Holds Q) : (s.relayGran start mask pass t).Holds Q :=
  hs.each (fun _ _ h1 => h1.weaveVc)

theorem Holds.granStart {ref : CmdRef} {d : List Byte} (hs : s.Holds Q) : (s.granStart ref d).Holds Q := by
  unfold State.granStart
  extract_lets +onlyGivenNames _ _
  refine .ite hs.finishSt ?_
  refine .ite hs.finishSt ?_
  refine .ite hs.finishSt ?_
  extract_lets +onlyGivenNames _
  split
  · rename_i t2 _ e
    exact .finish (.of_fst e (.startGroups (hs.each (fun _ _ h2 => h2.relayGran))))

theorem Holds.granStop {ref : CmdRef} {d : List Byte} (hs : s.Holds Q) : (s.granStop ref d).Holds Q :=
  .ite hs.finishSt (.endStops (.update (.stopGroups (hs.each (fun _ _ h2 => h2.relayGran)))))

theorem Holds.granRelayed {m : List Byte} (hs : s.Holds Q) : (s.granRelayed m).Holds Q :=
  .ite hs.startGroups (hs.each (fun _ _ h1 => .ite h1.setGrp h1.stopGroups))

theorem Holds.decideTimeout {g : Nat} (hs : s.Holds Q) : (s.decideTimeout g).Holds Q :=
  .ite hs.count.raise.setGrp.stretch.decideDue.startDrain.tellPasses hs

theorem Holds.statusArrived {m : List Byte} (hs : s.Holds Q) : (s.statusArrived m).Holds Q :=
  .tellPasses (hs.update.each (fun _ _ h2 => .ite h2.setGrp.decideDue.startDrain h2))

theorem Holds.execGranStart {src : CmdSrc} (hs : s.Holds Q) : NextHolds Q (execGranStart src s) :=
  .ok (hs.runCommand (fun _ _ _ _ h1 => h1.granStart))

theorem Holds.execGranStop {src : CmdSrc} (hs : s.Holds Q) : NextHolds Q (execGranStop src s) :=
  .ok (hs.runCommand (fun _ _ _ _ h1 => h1.granStop))

/-! ### The functions of Machine/Corr -/

theorem Holds.furTo {f st : Nat} (hs : s.Holds Q) : (s.furTo f st).Holds Q :=
  hs.set

theorem Holds.setWarm {f : Nat} {b : Bool} (hs : s.Holds Q) : (s.setWarm f b).Holds Q :=
  .ite hs hs.setFlag.set

theorem Holds.showTile (hs : s.Holds Q) : s.showTile.Holds Q := by
  unfold State.showTile
  extract_lets +onlyGivenNames _ _
  refine .ite ?_ hs.wrN
  split
  · exact hs.wrN

theorem Holds.showMapping (hs : s.Holds Q) : s.showMapping.Holds Q :=
  .showTile (.set (.set (.set (.set (hs.each (fun _ _ h2 => h2.set))))))

theorem Holds.checkSpares (hs : s.Holds Q) : s.checkSpares.Holds Q :=
  hs.each (fun _ _ h1 => .ite h1 h1.update.setFlag.raise.selfFault)

theorem Holds.retired {f : Nat} (hs : s.Holds Q) : (s.retired f).Holds Q :=
  .checkSpares (hs.furTo.setWarm.count.raise.update.each (fun _ _ h4 => h4.finish))

theorem Holds.bringUp {f : Nat} (hs : s.Holds Q) : (s.bringUp f).Holds Q :=
  .ite hs hs.update

theorem Holds.rampSpare {m : Nat} (hs : s.Holds Q) : (s.rampSpare m).Holds Q := by
  unfold State.rampSpare
  split
  · exact hs.bringUp
  · exact hs

theorem Holds.retire {f cause : Nat} (hs : s.Holds Q) : (s.retire f cause).Holds Q := by
  unfold State.retire
  extract_lets +onlyGivenNames _
  refine .ite hs ?_
  refine .ite hs.update ?_
  extract_lets +onlyGivenNames s1
  have h1 : s1.Holds Q := hs.set
  exact .ite h1.retired (.ite (.retired (.update (h1.each (fun _ _ h3 => h3.furTo)))) h1.furTo.rampSpare)

theorem Holds.listPut {old new : Nat} (hs : s.Holds Q) : (s.listPut old new).Holds Q :=
  hs.update

theorem Holds.replaceRetiring {f : Nat} (hs : s.Holds Q) : (s.replaceRetiring f).Holds Q := by
  unfold State.replaceRetiring
  extract_lets +onlyGivenNames _ swap
  have hw {t : State} {g : Nat} (ht : t.Holds Q) : (swap t g).Holds Q :=
    .retired (.ite ht.furTo.setWarm.listPut.update (.update (.furTo ht.furTo.setWarm.listPut.update)))
  clear_value swap
  split
  · split
    · exact hw hs.furTo.setWarm.listPut.update
    · exact .ite hs hs.update.setFlag.raise.retired
  · split
    · exact hw hs.furTo.setWarm.listPut.update
    · exact hw hs
  · exact hw hs

theorem Holds.steerField {m : Nat} (hs : s.Holds Q) : (s.steerField m).Holds Q := by
  unfold State.steerField
  extract_lets +onlyGivenNames _
  split
  · exact hs.furTo.setWarm.listPut.furTo.setWarm.update
  · extract_lets +onlyGivenNames _ _
    refine .ite hs ?_
    split
    · exact hs.furTo.setWarm.listPut.furTo.setWarm.update.count.raise
    · exact hs

theorem Holds.steer (hs : s.Holds Q) : s.steer.Holds Q := by
  unfold State.steer
  refine .ite hs ?_
  extract_lets +onlyGivenNames _ s1
  have h1 : s1.Holds Q := hs.update
  exact .ite (h1.each (fun _ _ h2 => h2.steerField)) h1

theorem Holds.applyPlacement (hs : s.Holds Q) : s.applyPlacement.Holds Q := by
  unfold State.applyPlacement
  extract_lets +onlyGivenNames _ s1
  have h1 : s1.Holds Q := .steer (hs.each (fun _ _ h2 => h2.replaceRetiring))
  exact .ite h1 h1.showMapping

theorem Holds.requeue {ch : Nat} (hs : s.Holds Q) : (s.requeue ch).Holds Q :=
  .ite hs.update hs

theorem Holds.dispatch (hs : s.Holds Q) : s.dispatch.Holds Q := by
  unfold State.dispatch
  extract_lets +onlyGivenNames _
  split
  · exact hs
  · refine .ite ?_ hs
    extract_lets +onlyGivenNames _
    refine .ite (hs.each (fun _ _ h1 => h1.bringUp)) ?_
    extract_lets +onlyGivenNames s1
    have h2 : s1.Holds Q := hs.applyPlacement
    exact .ite h2 h2.count.update.setTurnChan.update.setFlag.setFlag

theorem Holds.endPasses (hs : s.Holds Q) : s.endPasses.Holds Q :=
  .tellPasses (hs.each (fun _ _ h1 => .ite h1.setFlight.releasePass h1))

theorem Holds.furErrors {f n : Nat} (hs : s.Holds Q) : (s.furErrors f n).Holds Q := by
  unfold State.furErrors
  refine .ite hs ?_
  extract_lets +onlyGivenNames s1
  have h1 : s1.Holds Q := hs.bump
  exact .ite h1.retire h1

theorem Holds.spillShows {f bank ch q : Nat} {mismatch : Bool} {r : SpillReport} (hs : s.Holds Q) : (s.spillShows f bank ch q mismatch
    r).Holds Q := by
  unfold State.spillShows
  extract_lets +onlyGivenNames _ hit
  have hhit : ∀ s a2 a3 a4 a5, s.Holds Q → State.Holds Q (hit s a2 a3 a4 a5) := fun _ _ _ _ _ h1 => .ite h1.count.raise h1
  exact hhit _ _ _ _ _ (hhit _ _ _ _ _ (hhit _ _ _ _ _ (hhit _ _ _ _ _ (.each (hs.each (fun _ _ h3 => hhit _ _ _ _ _ h3)) (fun _ _ h5 =>
    hhit _ _ _ _ _ h5)))))

theorem Holds.spillErrors {f bank ch q : Nat} {mismatch : Bool} {r : SpillReport} (hs : s.Holds Q) : (s.spillErrors f bank ch q mismatch
    r).Holds Q := by
  unfold State.spillErrors
  extract_lets +onlyGivenNames s1
  have h1 : s1.Holds Q := hs.spillShows
  exact .furErrors (.ite h1.retire h1)

theorem Holds.spillLoose {f : Flight} {t : TileSum} {round : Nat} (hs : s.Holds Q) : (s.spillLoose f t round).Holds Q :=
  hs.setFlight.count.update

theorem Holds.holdSpill {f : Flight} {t : TileSum} {round : Nat} (hs : s.Holds Q) : (s.holdSpill f t round).Holds Q := by
  unfold State.holdSpill
  extract_lets +onlyGivenNames _ _
  split
  · exact .ite hs.spillLoose hs.update
  · exact .ite hs.spillLoose hs.update

theorem Holds.drainTile {f : Flight} {n : Nat} {r : SpillReport} (hs : s.Holds Q) : (s.drainTile f n r).Holds Q := by
  unfold State.drainTile
  split
  · extract_lets +onlyGivenNames _ _ _ _ _ _ s2 _ _ _ s3
    have h2 : s2.Holds Q := hs.setFlight.spillErrors
    have h3 : s3.Holds Q := .ite h2.holdSpill h2.update
    exact .endPasses (.ite h3.setFlag h3)

theorem Holds.bankSpill {m slot : Nat} {r : SpillReport} (hs : s.Holds Q) : (s.bankSpill m slot r).Holds Q := by
  unfold State.bankSpill
  split
  · exact hs
  · split
    · exact hs
    · exact hs.update.drainTile

theorem Holds.spillArrives {ch tile : Nat} (hs : s.Holds Q) : (s.spillArrives ch tile).Holds Q := by
  unfold State.spillArrives
  extract_lets +onlyGivenNames _ qs
  clear_value qs
  split
  · exact hs
  · exact hs.update.markFlight.spillReached

theorem Holds.addNext {ch tile : Nat} {poison badCounts : List Nat} (hs : s.Holds Q) : (s.addNext ch tile poison badCounts).Holds Q := by
  unfold State.addNext
  split
  · exact hs
  · refine .ite hs ?_
    split
    · exact hs
    · exact hs.update.addSpill.setFlight

theorem Holds.granSpill {ch tile : Nat} {poison badCounts : List Nat} (hs : s.Holds Q) : (s.granSpill ch tile poison badCounts).Holds Q :=
  .tellPasses (.addNext (.ite hs hs.spillArrives))

theorem Holds.queueSpills {q ch : Nat} {ts : List TileSum} (hs : s.Holds Q) : (s.queueSpills q ch ts).Holds Q :=
  hs.update

theorem Holds.freeSpare {sp : Option Nat} (hs : s.Holds Q) : (s.freeSpare sp).Holds Q := by
  unfold State.freeSpare
  split
  · exact hs
  · extract_lets +onlyGivenNames _ _ s2
    have h2 : s2.Holds Q := hs.update.furTo.setWarm
    split
    · exact h2.update.retire
    · exact h2

theorem Holds.giveUp {x : Suspect} (hs : s.Holds Q) : (s.giveUp x).Holds Q :=
  hs.update.queueSpills.markFlight.count.raise.freeSpare.requeue.endPasses

theorem Holds.recomputeStart (hs : s.Holds Q) : s.recomputeStart.Holds Q := by
  unfold State.recomputeStart
  split
  · exact hs
  · split
    · exact hs
    · exact hs.furTo.bringUp.update.count.count

theorem Holds.recomputeEnd {sp : Nat} {reports : List (Nat × Nat × SpillReport)} (hs : s.Holds Q) : (s.recomputeEnd sp reports).Holds Q :=
    by
  unfold State.recomputeEnd
  split
  · exact hs
  · split
    · exact hs
    · extract_lets +onlyGivenNames _ _ _ _ s1
      have h1 : s1.Holds Q := hs.each (fun _ _ h2 => h2.spillShows)
      refine .ite ?_ h1.update.queueSpills.markFlight.count.freeSpare.requeue.endPasses
      extract_lets +onlyGivenNames _ _ _ s4
      have h5 : s4.Holds Q := h1.update.furTo.setWarm.retire.furErrors
      exact .ite h5.giveUp h5

theorem Holds.busTransfer {fur path bus : Nat} {ok : Bool} (hs : s.Holds Q) : (s.busTransfer fur path bus ok).Holds Q := by
  unfold State.busTransfer
  extract_lets +onlyGivenNames _ _ _ put
  have hput : ∀ s a2, s.Holds Q → State.Holds Q (put s a2) := fun _ _ h1 => h1.update
  refine .ite (hput _ _ hs) ?_
  extract_lets +onlyGivenNames s1
  have h2 : s1.Holds Q := hs.count.raise
  refine .ite (hput _ _ h2) ?_
  extract_lets +onlyGivenNames s2
  have h3 : s2.Holds Q := .raise (hput _ _ h2)
  exact .ite h3.update (h3.each (fun _ _ h4 => by
    extract_lets +onlyGivenNames _ _ _ s4
    have h6 : s4.Holds Q := h4.freeSpare.update
    exact .ite h6.giveUp h6))

theorem Holds.rampStep (hs : s.Holds Q) : s.rampStep.Holds Q := by
  unfold State.rampStep
  split
  · exact hs
  · extract_lets +onlyGivenNames _ s1
    have h1 : s1.Holds Q := hs.update
    exact .ite h1.setWarm h1

theorem Holds.govStage (hs : s.Holds Q) : s.govStage.Holds Q := by
  unfold State.govStage
  extract_lets +onlyGivenNames _
  refine .ite hs ?_
  extract_lets +onlyGivenNames s1
  have h1 : s1.Holds Q := hs.rampStep
  refine .ite h1 ?_
  refine .ite (h1.each (fun _ _ h2 => h2.setWarm)) ?_
  extract_lets +onlyGivenNames _ _ s3
  have h4 : s3.Holds Q := h1.update.each (fun _ _ h5 => h5.setWarm)
  exact .ite h4.setFlag h4

theorem Holds.govHold (hs : s.Holds Q) : s.govHold.Holds Q :=
  .ite hs.update.setFlag hs

theorem Holds.corrRetire {ref : CmdRef} {d : List Byte} (hs : s.Holds Q) : (s.corrRetire ref d).Holds Q :=
  .ite hs.finishSt (.ite hs.finish hs.update.retire)

theorem Holds.placeFreeze {on : Bool} (hs : s.Holds Q) : (s.placeFreeze on).Holds Q :=
  hs.setFlag.setFlag

theorem Holds.execPassDispatch (hs : s.Holds Q) : NextHolds Q (execPassDispatch s) :=
  hs.dispatch.ok

theorem Holds.execOperandBusTransfer {field : Fin 4} {furrow : Fin 68} {operand : BusOperand} {good : Bool} (hs : s.Holds Q) : NextHolds Q
    (execOperandBusTransfer field furrow operand good s) :=
  hs.busTransfer.ok

theorem Holds.execBankSpill {field : Fin 4} {slot : Fin 8} {bank : BankReport} {buffer path : WordErrors} (hs : s.Holds Q) : NextHolds Q
    (execBankSpill field slot bank buffer path s) :=
  hs.bankSpill.ok

theorem Holds.execRecomputeStart (hs : s.Holds Q) : NextHolds Q (execRecomputeStart s) :=
  hs.recomputeStart.ok

theorem Holds.execGovernorStage (hs : s.Holds Q) : NextHolds Q (execGovernorStage s) :=
  hs.govStage.ok

theorem Holds.execGovernorHoldExpiry (hs : s.Holds Q) : NextHolds Q (execGovernorHoldExpiry s) :=
  hs.govHold.ok

theorem Holds.execCorrRetire {src : CmdSrc} (hs : s.Holds Q) : NextHolds Q (execCorrRetire src s) :=
  .ok (hs.runCommand (fun _ _ _ _ h1 => h1.corrRetire))

theorem Holds.execCorrPlaceFreeze {on : Bool} (hs : s.Holds Q) : NextHolds Q (execCorrPlaceFreeze on s) :=
  .ok (.ite hs.placeFreeze hs)

/-! ### The functions of Machine/Harvest -/

theorem Holds.sendHarvest {g : Nat} {m : Msg} (hs : s.Holds Q) : (s.sendHarvest g m).Holds Q := by
  unfold State.sendHarvest
  split
  · exact hs.toDest

theorem Holds.requestHeld {g : Nat} {b : Bank} {ch : Nat} (hs : s.Holds Q) : (s.requestHeld g b ch).Holds Q :=
  .set (.set (.raise (.count (hs.each (fun _ _ h2 => h2.giveUp)))))

theorem Holds.settleHold {g : Nat} (hs : s.Holds Q) : (s.settleHold g).Holds Q := by
  unfold State.settleHold
  split
  · exact .ite hs.set.set (.ite hs.requestHeld hs.set.set)
  · exact hs

theorem Holds.settleHolds (hs : s.Holds Q) : s.settleHolds.Holds Q :=
  hs.each (fun _ _ h1 => h1.settleHold)

theorem Holds.balerSent {g ch : Nat} {d : Drain} {raw : Nat} {vis : List Byte} {bs : List (Nat × List Bool)} (hs : s.Holds Q) :
    (s.balerSent g ch d raw vis bs).2.Holds Q := by
  unfold State.balerSent
  extract_lets +onlyGivenNames _ _ _ _ _ _ s4
  have h4 : s4.Holds Q := hs.count.count.count.count.count.count.raiseIf
  exact .ite_snd h4.set.raise.snd_mk h4.snd_mk

theorem Holds.endDrain {g : Nat} {b : Bank} (hs : s.Holds Q) : (s.endDrain g b).Holds Q :=
  hs.setGrp.count.showGrp.startDrain

theorem Holds.sendSegment {g : Nat} {b : Bank} {d : Drain} {v : HarvestView} (hs : s.Holds Q) : (s.sendSegment g b d v).Holds Q := by
  unfold State.sendSegment
  extract_lets +onlyGivenNames _ _ _ _ _ s3
  have h3 : s3.Holds Q := hs.set.set.count
  refine .ite ?_ ?_
  · extract_lets +onlyGivenNames s4
    have h4 : s4.Holds Q := h3.sendHarvest
    exact .ite h4.endDrain h4.setGrp
  · extract_lets +onlyGivenNames _ _ _ _
    split
    · extract_lets +onlyGivenNames _ s6
      have h6 : s6.Holds Q := .sendHarvest (.ite h3 h3.sendHarvest.set)
      split
      · rename_i t7 e
        have h7 : t7.Holds Q := .of_snd e (.ite_snd h6.balerSent h6.count)
        exact .ite h7.sendHarvest.endDrain h7.setGrp

theorem Holds.harvestStep {v : HarvestView} (hs : s.Holds Q) : (s.harvestStep v).Holds Q := by
  unfold State.harvestStep
  extract_lets +onlyGivenNames _
  split
  · exact hs
  · split
    · exact hs.update.sendSegment
    · exact hs

theorem Holds.holdExpired {g : Nat} (hs : s.Holds Q) : (s.holdExpired g).Holds Q := by
  unfold State.holdExpired
  split
  · exact .ite hs.requestHeld hs
  · exact hs

theorem Holds.execHarvestSegment {view : HarvestView} (hs : s.Holds Q) : NextHolds Q (execHarvestSegment view s) :=
  hs.harvestStep.settleHolds.ok

theorem Holds.execGranarySpill {channel : Chan} {tile : Nat} {poison badCounts : List Nat} (hs : s.Holds Q) : NextHolds Q
    (execGranarySpill channel tile poison badCounts s) :=
  .ok (.ite hs hs.granSpill.settleHolds)

theorem Holds.execRecomputeEnd {field : Fin 4} {furrow : Fin 68} {banks : List (Nat × Nat × BankReport)} {buffers paths : List (Nat × Nat
    × WordErrors)} (hs : s.Holds Q) : NextHolds Q (execRecomputeEnd field furrow banks buffers paths s) :=
  hs.recomputeEnd.settleHolds.ok

theorem Holds.execRecomputeDeadline {field : Fin 4} {furrow : Fin 68} (hs : s.Holds Q) : NextHolds Q (execRecomputeDeadline field furrow
    s) := by
  unfold Machine.execRecomputeDeadline
  refine .ok ?_
  split
  · exact hs.giveUp.settleHolds
  · exact hs

theorem Holds.execDecideWaitTimeout {group : Group} (hs : s.Holds Q) : NextHolds Q (execDecideWaitTimeout group s) :=
  hs.decideTimeout.settleHolds.ok

theorem Holds.execHoldExpiry {group : Group} (hs : s.Holds Q) : NextHolds Q (execHoldExpiry group s) :=
  hs.holdExpired.ok

/-! ### The functions of Machine/Glean -/

theorem Holds.setGleanState {v : Nat} (hs : s.Holds Q) : (s.setGleanState v).Holds Q :=
  hs.set

theorem Holds.gleanCollect (hs : s.Holds Q) : s.gleanCollect.Holds Q := by
  unfold State.gleanCollect
  split
  · refine .ite ?_ hs
    extract_lets +onlyGivenNames _ s1
    have h1 : s1.Holds Q := hs.update.setGleanState
    exact .ite h1.toRing h1
  · exact hs

theorem Holds.gleanRefuse {k : Nat} (hs : s.Holds Q) : (s.gleanRefuse k).Holds Q :=
  hs.count.raiseIf.update

theorem Holds.gleanRequest {source k chan : Nat} (hs : s.Holds Q) : (s.gleanRequest source k chan).1.Holds Q := by
  unfold State.gleanRequest
  refine .ite_fst hs.fst_mk (.ite_fst (.ite_fst hs.gleanRefuse.fst_mk hs.update.setGleanState.gleanCollect.fst_mk)
    (.ite_fst ?_ hs.gleanRefuse.fst_mk))
  split
  · exact .ite_fst hs.update.gleanCollect.fst_mk hs.gleanRefuse.fst_mk
  · exact hs

theorem Holds.gleanRearm (hs : s.Holds Q) : s.gleanRearm.Holds Q :=
  hs.update.setGleanState

theorem Holds.judgeShadow (hs : s.Holds Q) : s.judgeShadow.Holds Q :=
  hs.setFlag.setFlag

theorem Holds.shadowWrite {v : Nat} (hs : s.Holds Q) : (s.shadowWrite v).Holds Q :=
  hs.wrN.judgeShadow

theorem Holds.lenSwitch (hs : s.Holds Q) : s.lenSwitch.Holds Q :=
  .ite hs.update.wrN.setFlag hs

theorem Holds.gleanWrite {c k flags : Nat} {ins : List State.InputView} {delivered8 : Bool} (hs : s.Holds Q) : (s.gleanWrite c k flags ins
    delivered8).Holds Q :=
  .wrN (.update (.hbmStore (.hbmStore (.count (.ite hs.lenSwitch hs)))))

theorem Holds.toGlean {c k flags : Nat} {ins : List State.InputView} {delivered8 : Bool} {backlog : Nat} (hs : s.Holds Q) : (s.toGlean c k
    flags ins delivered8 backlog).Holds Q := by
  unfold State.toGlean
  refine .ite hs ?_
  extract_lets +onlyGivenNames _ _ _ _ _ s2
  have h2 : s2.Holds Q := hs.update.raiseIf
  exact .ite (.gleanCollect h2.count.update) (.ite h2.count h2.gleanWrite.gleanCollect)

theorem Holds.dumpStart {n : Nat} (hs : s.Holds Q) : (s.dumpStart n).Holds Q := by
  induction n generalizing s with
  | zero => exact hs
  | succ n ih =>
    unfold State.dumpStart
    split
    · exact hs.setFlag
    · exact .ite (ih hs.update.finishSt) hs.update.setFlag

theorem Holds.dumpDone {overtaken : List Nat} (hs : s.Holds Q) : (s.dumpDone overtaken).Holds Q := by
  unfold State.dumpDone
  split
  · split
    · exact hs
    · extract_lets +onlyGivenNames _ _ _ _ _ _ _ _ _ _ _ s2
      have h2 : s2.Holds Q := hs.update.toDest
      exact .dumpStart (.finish (.ite h2.gleanRearm h2))
  · exact hs

theorem Holds.dumpHand {ref : CmdRef} {d : List Byte} (hs : s.Holds Q) : (s.dumpHand ref d).Holds Q := by
  unfold State.dumpHand
  extract_lets +onlyGivenNames _
  refine .ite hs.finishSt ?_
  extract_lets +onlyGivenNames _ _ s1
  have h1 : s1.Holds Q := hs.update
  exact .ite h1.dumpStart h1

theorem Holds.execGleanFreeze {src : CmdSrc} (hs : s.Holds Q) : NextHolds Q (execGleanFreeze src s) :=
  .ok (hs.keyedCommand (fun _ _ _ _ h1 => by
    split
    · rename_i t1 _ e
      have h2 : t1.Holds Q := .of_fst e h1.gleanRequest
      exact .ite h2.finishSt h2.finish))

theorem Holds.execGleanResume {src : CmdSrc} (hs : s.Holds Q) : NextHolds Q (execGleanResume src s) :=
  .ok (hs.runCommand (fun _ _ _ _ h1 => .ite h1.gleanRearm.finish h1.finishSt))

theorem Holds.execGleanDump {src : CmdSrc} (hs : s.Holds Q) : NextHolds Q (execGleanDump src s) :=
  .ok (hs.runCommand (fun _ _ _ _ h1 => h1.dumpHand))

theorem Holds.execDumpEnd {overtaken : List Nat} (hs : s.Holds Q) : NextHolds Q (execDumpEnd overtaken s) :=
  hs.dumpDone.ok

theorem Holds.execGleanLenShadowWrite {value : Word} (hs : s.Holds Q) : NextHolds Q (execGleanLenShadowWrite value s) :=
  .ok (.ite hs.shadowWrite hs)

/-! ### The functions of Machine/Beam -/

theorem Holds.setBeamBlk {b : Nat} {x : BeamBlk} (hs : s.Holds Q) : (s.setBeamBlk b x).Holds Q :=
  hs.update

theorem Holds.onSwap {ref : CmdRef} {f : SwapJob → SwapJob} (hs : s.Holds Q) : (s.onSwap ref f).Holds Q :=
  hs.update

theorem Holds.placeFade {b : Nat} {r : SwapReq} {k0 : Nat} {late : Bool} (hs : s.Holds Q) : (s.placeFade b r k0 late).Holds Q :=
  hs.setBeamBlk.onSwap

theorem Holds.beginFade {b hi : Nat} {r : SwapReq} (hs : s.Holds Q) : (s.beginFade b hi r).Holds Q :=
  hs.placeFade

theorem Holds.supersede {b : Nat} {r : SwapReq} (hs : s.Holds Q) : (s.supersede b r).Holds Q :=
  hs.count.onSwap

theorem Holds.swapBlock {hi : Nat} {r : SwapReq} {b : Nat} (hs : s.Holds Q) : (s.swapBlock hi r b).Holds Q := by
  unfold State.swapBlock
  extract_lets +onlyGivenNames _ _
  refine .ite ?_ (.ite hs.setBeamBlk hs.beginFade)
  extract_lets +onlyGivenNames s1
  have h1 : s1.Holds Q := by
    unfold s1
    split
    · exact hs.supersede
    · exact hs
  exact h1.setBeamBlk

theorem Holds.showBanks {hi : Nat} (hs : s.Holds Q) : (s.showBanks hi).Holds Q :=
  .set (hs.each (fun _ _ h2 => by
    extract_lets +onlyGivenNames _
    split
    · exact h2.wrN))

theorem Holds.endSwaps {lo : Nat} (hs : s.Holds Q) : (s.endSwaps lo).Holds Q :=
  .update (hs.update.each (fun _ _ h3 => h3.finish))

theorem Holds.waitFade {hi b : Nat} (hs : s.Holds Q) : (s.waitFade hi b).Holds Q := by
  unfold State.waitFade
  split
  · exact .ite hs hs.setBeamBlk.beginFade
  · exact hs

theorem Holds.queuedFade {hi b : Nat} (hs : s.Holds Q) : (s.queuedFade hi b).Holds Q := by
  unfold State.queuedFade
  extract_lets +onlyGivenNames _
  split
  · exact .ite (.ite hs.setBeamBlk hs.setBeamBlk.placeFade) hs
  · exact hs

theorem Holds.queuedFades {hi : Nat} (hs : s.Holds Q) : (s.queuedFades hi).Holds Q :=
  hs.each (fun _ _ h1 => h1.queuedFade)

theorem Holds.advanceFades {lo hi : Nat} (hs : s.Holds Q) : (s.advanceFades lo hi).Holds Q :=
  .endSwaps (.each (.queuedFades (hs.each (fun _ _ h2 => h2.waitFade))) (fun _ _ h4 => h4.setBeamBlk))

theorem Holds.swapAtOnce {ref : CmdRef} {k mask : Nat} (hs : s.Holds Q) : (s.swapAtOnce ref k mask).Holds Q :=
  .finish (.showBanks (hs.each (fun _ _ h2 => h2.setBeamBlk)))

theorem Holds.beamSwap {ref : CmdRef} {d : List Byte} (hs : s.Holds Q) : (s.beamSwap ref d).Holds Q := by
  unfold State.beamSwap
  extract_lets +onlyGivenNames _ _ _
  refine .ite hs.finishSt ?_
  refine .ite hs.finishSt ?_
  split
  · exact hs.swapAtOnce
  · exact .showBanks (.advanceFades (hs.update.each (fun _ _ h3 => h3.swapBlock)))

theorem Holds.putTriplets {bank table first : Nat} {vs : List Nat} (hs : s.Holds Q) : (s.putTriplets bank table first vs).Holds Q :=
  .ite hs.update hs.update

theorem Holds.fadesSettle (hs : s.Holds Q) : s.fadesSettle.Holds Q := by
  unfold State.fadesSettle
  split
  · exact hs
  · exact hs.advanceFades.showBanks

theorem Holds.endLoad {l : BeamLoad} {c : CplRec} (hs : s.Holds Q) : (s.endLoad l c).Holds Q := by
  unfold State.endLoad
  extract_lets +onlyGivenNames _ t
  have ht : t.Holds Q := hs.update
  exact ht.finish.fadesSettle

theorem Holds.loadData {l : BeamLoad} {x : HostRead} (hs : s.Holds Q) : (s.loadData l x).Holds Q := by
  unfold State.loadData
  split
  · exact hs.count.raise.endLoad
  · exact hs.count.raise.endLoad
  · extract_lets +onlyGivenNames _
    refine .ite hs ?_
    extract_lets +onlyGivenNames s1
    have h1 : s1.Holds Q := hs.putTriplets
    exact .ite h1.endLoad h1.update

theorem Holds.beamLoad {src : CmdSrc} {data : HostRead} {ref : CmdRef} {d : List Byte} {r : Nat} (hs : s.Holds Q) : (s.beamLoad src data
    ref d r).Holds Q :=
  .ite hs.finishSt (.ite hs.finishSt (.ite hs.finishSt (.ite hs.finishSt hs.update.loadData)))

theorem Holds.sendVolt {q : Nat} (hs : s.Holds Q) : (s.sendVolt q).Holds Q :=
  .ite hs hs.toStream.update

theorem Holds.addVolt {q n : Nat} {m : SheafMark} {ys : List (Int × Int)} (hs : s.Holds Q) : (s.addVolt q n m ys).Holds Q := by
  unfold State.addVolt
  extract_lets +onlyGivenNames _ _ _ _ _
  split
  · extract_lets +onlyGivenNames _ _ _ _ _ s1
    have h1 : s1.Holds Q := hs.count.update
    exact .ite h1.sendVolt h1

theorem Holds.sendDet {q : Nat} (hs : s.Holds Q) : (s.sendDet q).Holds Q :=
  .ite hs hs.toDest.update

theorem Holds.sendTrigger {k ch beam v : Nat} {low : Bool} (hs : s.Holds Q) : (s.sendTrigger k ch beam v low).Holds Q :=
  hs.count.toStream.update

theorem Holds.peakValue {k ch beam v : Nat} (hs : s.Holds Q) : (s.peakValue k ch beam v).Holds Q := by
  unfold State.peakValue
  extract_lets +onlyGivenNames _ _ _ _ _ _ _ s1
  have h1 : s1.Holds Q := hs.update
  split
  · refine .ite ?_ h1
    refine .ite ?_ h1.count.update
    extract_lets +onlyGivenNames s2
    have h2 : s2.Holds Q := h1.sendTrigger
    exact .update (.ite h2.gleanRequest h2)

theorem Holds.sendReport {i : Nat} (hs : s.Holds Q) : (s.sendReport i).Holds Q := by
  unfold State.sendReport
  extract_lets +onlyGivenNames _ _
  split
  · split
    · exact hs.update.toDest

theorem Holds.endSpans (hs : s.Holds Q) : s.endSpans.Holds Q := by
  unfold State.endSpans
  split
  · exact hs
  · exact hs.each (fun _ _ h1 => h1.sendReport)

theorem Holds.endSets (hs : s.Holds Q) : s.endSets.Holds Q :=
  .update (hs.each (fun _ _ h2 => h2.finish))

theorem Holds.peakSet {ref : CmdRef} {d : List Byte} (hs : s.Holds Q) : (s.peakSet ref d).Holds Q :=
  hs.update.endSets

theorem Holds.endWindow {q ch first : Nat} {w : DetWin} (hs : s.Holds Q) : (s.endWindow q ch first w).Holds Q := by
  unfold State.endWindow
  extract_lets +onlyGivenNames _ _ _ _ _ s1 _ s2
  have h1 : s1.Holds Q := hs.count
  have h2 : s2.Holds Q := .ite (h1.foldl (fun _ _ h3 => h3.peakValue)) h1
  refine .ite ?_ h2
  extract_lets +onlyGivenNames _ _ _ _ _ s3
  have h4 : s3.Holds Q := h2.update
  exact .ite h4.sendDet h4

theorem Holds.addDet {q n : Nat} {m : SheafMark} {ys : List (Int × Int)} (hs : s.Holds Q) : (s.addDet q n m ys).Holds Q := by
  unfold State.addDet
  refine .ite hs ?_
  extract_lets +onlyGivenNames _ _ _ _ _ _ _ _ s1
  have h1 : s1.Holds Q := hs.count
  exact .ite h1.update.endWindow h1.update

theorem Holds.sourceSums {ord : Nat} {m : SheafMark} {l : List (Nat × List (Int × Int))} (hs : s.Holds Q) : (s.sourceSums ord m l).Holds Q
    :=
  .each (hs.each (fun _ _ h2 => .ite h2.addVolt h2)) (fun _ _ h3 => h3.addDet)

theorem Holds.spansSettle (hs : s.Holds Q) : s.spansSettle.Holds Q :=
  .endSets (.ite hs.endSpans hs)

theorem Holds.sheafSeen {ch k : Nat} (hs : s.Holds Q) : (s.sheafSeen ch k).Holds Q :=
  hs.update.spansSettle

theorem Holds.emitPartial {p : Partial} (hs : s.Holds Q) : (s.emitPartial p).Holds Q := by
  unfold State.emitPartial
  extract_lets +onlyGivenNames _
  split
  · rename_i t1 e
    extract_lets +onlyGivenNames _ _ _ _ s3
    have h3 : s3.Holds Q := .update (.sourceSums (.count (.of_snd e (.ite_snd hs hs.free))))
    exact .ite h3.sheafSeen h3.spansSettle

theorem Holds.emitReady {ch n : Nat} (hs : s.Holds Q) : (s.emitReady ch n).Holds Q := by
  induction n generalizing s with
  | zero => exact hs
  | succ n ih =>
    unfold State.emitReady
    extract_lets +onlyGivenNames mine
    clear_value mine
    split
    · exact hs
    · extract_lets +onlyGivenNames lo
      split
      · exact .ite (ih hs.emitPartial) hs
      · exact hs

theorem Holds.takePartial {ch k origin part at_ valid flags : Nat} {missing settling : Bool} {ys : List (Int × Int)} (hs : s.Holds Q) :
    (s.takePartial ch k origin part at_ valid flags missing settling ys).Holds Q :=
  .ite hs.count hs.update.emitReady

theorem Holds.sendPartial {q : Nat} {p : List Byte} (hs : s.Holds Q) : (s.sendPartial q p).Holds Q := by
  unfold State.sendPartial
  split
  · exact hs.sendVc0.count
  · exact hs

theorem Holds.sendPartials {m : SheafMark} {sums : Nat → List (Int × Int)} (hs : s.Holds Q) : (s.sendPartials m sums).Holds Q :=
  hs.each (fun _ _ h1 => h1.sendPartial.sendPartial)

theorem Holds.exportRecord {rec_ : List Byte} (hs : s.Holds Q) : (s.exportRecord rec_).Holds Q :=
  .ite hs.update hs.update.sendPartial

theorem Holds.toBeam {sh : Sheaf} (hs : s.Holds Q) : (s.toBeam sh).Holds Q := by
  unfold State.toBeam
  refine .ite hs ?_
  extract_lets +onlyGivenNames _ _ _ _ _ _ _ _ _ _ _ _ _ s4 s5 s6
  have h4 : s4.Holds Q := hs.setFlag.queuedFades.count.sourceSums.update
  have h5 : s5.Holds Q := .ite h4.sendPartials h4.sheafSeen
  have h6 : s6.Holds Q := .ite h5.exportRecord h5
  exact .ite h6 (h6.foldl (fun _ _ h7 => h7.takePartial))

theorem Holds.beamTick (hs : s.Holds Q) : s.beamTick.Holds Q :=
  .ite hs hs.fadesSettle

theorem Holds.beamStop (hs : s.Holds Q) : s.beamStop.Holds Q :=
  .setFlag (.each (hs.each (fun _ _ h2 => h2.sendVolt)) (fun _ _ h4 => h4.sendDet))

theorem Holds.partialRecord {n : Nat} {b : List Byte} (hs : s.Holds Q) : (s.partialRecord n b).Holds Q :=
  hs.takePartial

theorem Holds.partialFlit {b : List Byte} (hs : s.Holds Q) : (s.partialFlit b).Holds Q := by
  unfold State.partialFlit
  refine .ite hs ?_
  refine .ite hs.partialRecord ?_
  extract_lets +onlyGivenNames s1
  have h1 : s1.Holds Q := hs.partialRecord
  exact .ite h1.partialRecord h1

theorem Holds.execBeamLoad {src : CmdSrc} {data : HostRead} (hs : s.Holds Q) : NextHolds Q (execBeamLoad src data s) := by
  unfold Machine.execBeamLoad
  refine .ok ?_
  split
  · exact hs.loadData
  · exact .fadesSettle (hs.handOver (fun _ _ _ _ h1 => h1.beamLoad))

theorem Holds.execBeamSwap {src : CmdSrc} (hs : s.Holds Q) : NextHolds Q (execBeamSwap src s) :=
  .ok (hs.keyedCommand (fun _ _ _ _ h1 => h1.beamSwap))

theorem Holds.execBeamPeakSet {src : CmdSrc} (hs : s.Holds Q) : NextHolds Q (execBeamPeakSet src s) :=
  .ok (hs.keyedCommand (fun _ _ _ _ h1 => h1.peakSet))

theorem Holds.execPartialBeamFlit {link : Link} (hs : s.Holds Q) : NextHolds Q (execPartialBeamFlit link s) := by
  unfold Machine.execPartialBeamFlit
  refine .ok ?_
  split
  · rename_i t1 e
    exact .partialFlit (hs.takeVc0 e)
  · exact hs

theorem Holds.execPartialWaitExpiry {channel : Chan} (hs : s.Holds Q) : NextHolds Q (execPartialWaitExpiry channel s) := by
  unfold Machine.execPartialWaitExpiry
  extract_lets +onlyGivenNames mine
  refine .ok ?_
  clear_value mine
  split
  · exact hs
  · exact hs.update.emitReady

theorem Holds.execExportRecordTimeout (hs : s.Holds Q) : NextHolds Q (execExportRecordTimeout s) :=
  .ok (.ite hs hs.update.sendPartial)

/-! ### The functions of Machine/Release -/

theorem Holds.streamGone {d : StreamDef} (hs : s.Holds Q) : (s.streamGone d).Holds Q :=
  hs.update.setAbsent.raise

theorem Holds.countMiss {c : Nat} {sl : List Slice} {d : StreamDef} (hs : s.Holds Q) : (s.countMiss c sl d).Holds Q := by
  unfold State.countMiss
  extract_lets +onlyGivenNames _ _ _ s1
  have h1 : s1.Holds Q := hs.update
  exact .ite h1.streamGone h1

theorem Holds.fineOut {z : Nat} {fs : List Sheaf} (hs : s.Holds Q) : (s.fineOut z fs).Holds Q := by
  unfold State.fineOut
  split
  · exact hs
  · exact .ite (hs.each (fun _ _ h1 => .toBeam (.ite h1.toCorr h1))) (.showStoreKib (.each (hs.each (fun _ _ h4 => h4.forwardOwn)) (fun _
    _ h5 => h5.storeSlice)))

theorem Holds.deliver {c k : Nat} {sl : List Slice} {forced : Bool} {backlog : Nat} (hs : s.Holds Q) :
    (s.deliver c k sl forced backlog).Holds Q := by
  unfold State.deliver
  split
  extract_lets +onlyGivenNames slot _ _ _ _ _ _ _ s1 s2 s3 s4
  have h1 : s1.Holds Q := .ite hs.count hs
  have h2 : s2.Holds Q := h1.toGlean
  have h3 : s3.Holds Q := .ite h2.toBeam h2
  have h4 : s4.Holds Q := .ite h3.toCorr h3
  clear_value slot
  split
  · exact h4.harrowSheaf.fineOut.showSettling
  · exact h4

theorem Holds.deliverFine {c k : Nat} {sl : List Slice} {forced : Bool} (hs : s.Holds Q) : (s.deliverFine c k sl forced).Holds Q := by
  unfold State.deliverFine
  split
  · extract_lets +onlyGivenNames s1
    have h1 : s1.Holds Q := hs.toBeam
    exact .ite h1.toCorr h1

theorem Holds.releasePair {c k : Nat} {forced waited : Bool} {backlog : Nat} (hs : s.Holds Q) :
    (s.releasePair c k forced waited backlog).Holds Q := by
  unfold State.releasePair
  extract_lets +onlyGivenNames pair _ _ _ _ _ s2 s3 _ _ s5 s6
  have h2 : s2.Holds Q := hs.update.showStoreKib.setFlag
  have h3 : s3.Holds Q := by
    unfold s3
    clear_value pair
    split
    · exact h2.peak
    · exact h2
  have h5 : s5.Holds Q := .update (h3.each fun _ _ h => h.countMiss)
  have h6 : s6.Holds Q := .ite h5.twinVc h5
  exact .beamTick (.gleanCollect (.endChanges (.ite h6.deliver h6.deliverFine)))

theorem Holds.ordered (hs : s.Holds Q) : s.ordered.Holds Q :=
  .ite hs.update hs

theorem Holds.releaseWhole {c backlog : Nat} (hs : s.Holds Q) : (s.releaseWhole c backlog).Holds Q :=
  .ite hs.ordered.releasePair hs

theorem Holds.releaseWaited {c backlog : Nat} (hs : s.Holds Q) : (s.releaseWaited c backlog).Holds Q :=
  .ite hs.ordered.releasePair hs

theorem Holds.forceFull {backlog n : Nat} (hs : s.Holds Q) : (s.forceFull backlog n).Holds Q := by
  induction n generalizing s with
  | zero => exact hs
  | succ n ih =>
    unfold State.forceFull
    split
    · exact hs
    · exact .ite hs (ih (hs.raise.each fun _ _ h1 => h1.releasePair))

theorem Holds.ingestTakes {link : Nat} {p : List Byte} {backlog : Nat} (hs : s.Holds Q) : (s.ingestTakes link p backlog).Holds Q :=
  .ite hs.acceptPacket.forceFull hs

theorem Holds.ingestArrives {link : Nat} {l : List Block257} {backlog : Nat} (hs : s.Holds Q) : (s.ingestArrives link l backlog).Holds Q
    := by
  unfold State.ingestArrives
  refine .ite hs ?_
  split
  · rename_i t1 _ e
    exact .each (.of_fst e hs.framePackets) (fun _ _ h2 => h2.ingestTakes)

theorem Holds.execIngestPacket {link : Link} {blocks : List Block257} {gleanBacklog : Nat} (hs : s.Holds Q) : NextHolds Q
    (execIngestPacket link blocks gleanBacklog s) :=
  hs.ingestArrives.ok

theorem Holds.execSheafRelease {channel : Chan} {gleanBacklog : Nat} (hs : s.Holds Q) : NextHolds Q (execSheafRelease channel gleanBacklog
    s) :=
  hs.releaseWhole.ok

theorem Holds.execWaitExpiry {channel : Chan} {gleanBacklog : Nat} (hs : s.Holds Q) : NextHolds Q (execWaitExpiry channel gleanBacklog s) :=
  hs.releaseWaited.ok

/-! ### The functions of Machine/Dac -/

theorem Holds.setBit {a : Nat} {f : Fld} {c : Nat} {b : Bool} (hs : s.Holds Q) : (s.setBit a f c b).Holds Q :=
  hs.set

theorem Holds.dacSettle (hs : s.Holds Q) : s.dacSettle.Holds Q :=
  .each (.update (.ite hs.setFlag hs)) (fun _ _ h3 => h3.finishSt)

theorem Holds.dacPark {c : Nat} (hs : s.Holds Q) : (s.dacPark c).Holds Q := by
  unfold State.dacPark
  extract_lets +onlyGivenNames _ s1
  have h1 : s1.Holds Q := hs.update
  exact .ite h1.update.set.set.setBit h1.setBit.setBit

theorem Holds.dacLand {c v : Nat} (hs : s.Holds Q) : (s.dacLand c v).Holds Q := by
  unfold State.dacLand
  extract_lets +onlyGivenNames s1
  have h1 : s1.Holds Q := hs.set
  exact .ite (.ite h1.dacPark h1.setBit) h1

theorem Holds.dacGo {c : Nat} {fast : Bool} (hs : s.Holds Q) : (s.dacGo c fast).Holds Q :=
  .ite hs (.ite hs.dacLand (.ite hs.dacLand hs.setBit))

theorem Holds.dacAim {c v : Nat} {fast : Bool} (hs : s.Holds Q) : (s.dacAim c v fast).Holds Q :=
  hs.set.dacGo

theorem Holds.dacUnpend {c : Nat} (hs : s.Holds Q) : (s.dacUnpend c).Holds Q :=
  hs.setFlag.setBit

theorem Holds.dacStrobe {m : Nat} (hs : s.Holds Q) : (s.dacStrobe m).Holds Q := by
  unfold State.dacStrobe
  extract_lets +onlyGivenNames _ _ s1
  have h1 : s1.Holds Q := .ite hs hs.count
  exact .dacSettle (.each (.update (.ite h1.count h1)) (fun _ _ h5 => h5.dacAim.dacUnpend))

theorem Holds.dacClear (hs : s.Holds Q) : s.dacClear.Holds Q :=
  .dacSettle (hs.each (fun _ _ h1 => h1.dacAim))

theorem Holds.setY {want : Int} (hs : s.Holds Q) : (s.setY want).Holds Q :=
  hs.raiseIf.update.wrN

theorem Holds.efcLanded (hs : s.Holds Q) : s.efcLanded.Holds Q :=
  hs.setY

theorem Holds.dacStep {c : Nat} (hs : s.Holds Q) : (s.dacStep c).Holds Q := by
  unfold State.dacStep
  refine .ite ?_ hs
  extract_lets +onlyGivenNames _ _ _ _ _ _ s2
  have h2 : s2.Holds Q := .dacLand (.ite hs.update hs)
  exact .dacSettle (.ite h2.efcLanded h2)

theorem Holds.dacLoad {c : Nat} (hs : s.Holds Q) : (s.dacLoad c).Holds Q := by
  unfold State.dacLoad
  split
  · exact hs.set.setFlag.set.set

theorem Holds.dacPowerUp (hs : s.Holds Q) : s.dacPowerUp.Holds Q :=
  .dacSettle (hs.each (fun _ _ h1 => h1.dacLoad.set.set.setBit.set.setBit))

theorem Holds.dacReset {c out range : Nat} {parked : Bool} (hs : s.Holds Q) : (s.dacReset c out range parked).Holds Q := by
  unfold State.dacReset
  extract_lets +onlyGivenNames _
  split
  · extract_lets +onlyGivenNames _ s3
    have h3 : s3.Holds Q := hs.dacLoad.set.setBit
    refine .ite h3.set.set.setBit ?_
    extract_lets +onlyGivenNames s5
    have h5 : s5.Holds Q := h3.set.set
    refine .ite h5.setBit ?_
    extract_lets +onlyGivenNames _ s6
    have h6 : s6.Holds Q := h5.update
    exact .ite h6.dacPark h6.setBit

theorem Holds.dacRefuse {ref : CmdRef} (hs : s.Holds Q) : (s.dacRefuse ref).Holds Q :=
  hs.count.finishSt

theorem Holds.dacSet {ref : CmdRef} {d : List Byte} (hs : s.Holds Q) : (s.dacSet ref d).Holds Q := by
  unfold State.dacSet
  extract_lets +onlyGivenNames _
  refine .ite hs.dacRefuse ?_
  extract_lets +onlyGivenNames s1
  have h1 : s1.Holds Q := hs.each (fun _ _ h2 => h2.set.setFlag.setBit)
  exact .finishSt (.ite h1.dacStrobe h1)

theorem Holds.dacParkCmd {ref : CmdRef} {d : List Byte} (hs : s.Holds Q) : (s.dacParkCmd ref d).Holds Q := by
  unfold State.dacParkCmd
  extract_lets +onlyGivenNames _ _
  refine .ite hs.dacRefuse ?_
  extract_lets +onlyGivenNames s1
  have h1 : s1.Holds Q := hs.each (fun _ _ h2 => .ite (.ite h2 h2.update.dacGo) (.ite h2.setBit.set.dacGo (.ite h2.update.dacGo h2)))
  exact h1.update.dacSettle

theorem Holds.dacRangeCmd {ref : CmdRef} {d : List Byte} (hs : s.Holds Q) : (s.dacRangeCmd ref d).Holds Q :=
  .ite hs.dacRefuse (.ite hs.finishSt (.ite hs.count.finishSt (.finishSt (hs.each (fun _ _ h1 => h1.set.set.dacUnpend)))))

theorem Holds.execDacSlewStep {channel : Fin 8} (hs : s.Holds Q) : NextHolds Q (execDacSlewStep channel s) :=
  hs.dacStep.ok

theorem Holds.execLdacNFall (hs : s.Holds Q) : NextHolds Q (execLdacNFall s) :=
  hs.update.dacStrobe.ok

theorem Holds.execDacCtlLoad (hs : s.Holds Q) : NextHolds Q (execDacCtlLoad s) :=
  .ok (.ite hs.dacStrobe hs)

theorem Holds.execDacClearNAssert (hs : s.Holds Q) : NextHolds Q (execDacClearNAssert s) :=
  hs.update.setFlag.dacClear.ok

theorem Holds.execDacClearNRelease (hs : s.Holds Q) : NextHolds Q (execDacClearNRelease s) :=
  hs.update.setFlag.ok

theorem Holds.execDacSet {src : CmdSrc} (hs : s.Holds Q) : NextHolds Q (execDacSet src s) :=
  .ok (hs.handOver (fun _ _ _ _ h1 => h1.dacSet))

theorem Holds.execDacPark {src : CmdSrc} (hs : s.Holds Q) : NextHolds Q (execDacPark src s) :=
  .ok (hs.handOver (fun _ _ _ _ h1 => h1.dacParkCmd))

theorem Holds.execDacRange {src : CmdSrc} (hs : s.Holds Q) : NextHolds Q (execDacRange src s) :=
  .ok (hs.handOver (fun _ _ _ _ h1 => h1.dacRangeCmd))

/-! ### The functions of Machine/Ref -/

theorem Holds.setRefIn {r : Nat} {x : RefIn} (hs : s.Holds Q) : (s.setRefIn r x).Holds Q :=
  hs.update

theorem Holds.refStage {code : Nat} (hs : s.Holds Q) : (s.refStage code).Holds Q :=
  hs.set

theorem Holds.refTo {st : Nat} (hs : s.Holds Q) : (s.refTo st).Holds Q :=
  hs.set

theorem Holds.refClose (hs : s.Holds Q) : s.refClose.Holds Q :=
  hs.update

theorem Holds.refHoldover (hs : s.Holds Q) : s.refHoldover.Holds Q := by
  unfold State.refHoldover
  extract_lets +onlyGivenNames _ _ _ _ _ _ s1
  have h1 : s1.Holds Q := hs.refTo.set.setFlag.update.setY.raise.count
  refine .ite ?_ h1
  extract_lets +onlyGivenNames _ _ _ _ _ _ s2
  have h2 : s2.Holds Q := h1.update.dacAim
  exact .ite h2 h2.efcLanded

theorem Holds.refSwitch {new : Nat} {excl : List Nat} (hs : s.Holds Q) : (s.refSwitch new excl).Holds Q := by
  unfold State.refSwitch
  extract_lets +onlyGivenNames _ s1 s2 s3
  have h1 : s1.Holds Q := hs.set
  have h2 : s2.Holds Q := .ite h1.raise.count h1
  have h3 : s3.Holds Q := .ite h2.refStage h2.refStage
  exact .ite h3.setFlag.update.setY h3.refClose

theorem Holds.refAcquire {r : Nat} (hs : s.Holds Q) : (s.refAcquire r).Holds Q :=
  hs.set.refTo.refStage.update.refClose

theorem Holds.refExit {r : Nat} (hs : s.Holds Q) : (s.refExit r).Holds Q :=
  .ite hs.set.setFlag.update hs.refAcquire

theorem Holds.refLand (hs : s.Holds Q) : s.refLand.Holds Q :=
  .ite (.ite hs.refTo hs.refTo.refStage) hs

theorem Holds.refActSelect {ref : CmdRef} {c : Nat} (hs : s.Holds Q) : (s.refActSelect ref c).Holds Q := by
  unfold State.refActSelect
  extract_lets +onlyGivenNames s1
  have h1 : s1.Holds Q := hs.set
  refine .ite h1.finishSt ?_
  refine .ite h1.finishSt ?_
  split
  · exact .finishSt (.ite h1.refHoldover h1)
  · refine .ite h1.finishSt ?_
    extract_lets +onlyGivenNames s2
    have h2 : s2.Holds Q := .ite h1.refAcquire (.ite h1.refExit h1.refSwitch)
    exact .ite h2.update h2.finishSt

theorem Holds.refServe {n : Nat} (hs : s.Holds Q) : (s.refServe n).Holds Q := by
  induction n generalizing s with
  | zero => exact hs
  | succ n ih =>
    unfold State.refServe
    refine .ite hs ?_
    extract_lets +onlyGivenNames _ s1
    have h1 : s1.Holds Q := by
      unfold s1
      split
      · exact hs.update.finishSt
      · exact hs
    split
    · exact h1
    · exact ih h1.update.refActSelect

theorem Holds.refServeAll (hs : s.Holds Q) : s.refServeAll.Holds Q :=
  hs.refServe

theorem Holds.refUpdateLoop {theta : Int} (hs : s.Holds Q) : (s.refUpdateLoop theta).Holds Q := by
  unfold State.refUpdateLoop
  extract_lets +onlyGivenNames _ _
  refine .ite ?_ hs
  have h1 := (hs.wrN (a := Reg.REF_PHASE) (v := ofS 32 (satS 32 theta))).free (n := 3)
  have h2 := h1.free (n := 3)
  exact .setY (.update (.ite h2.raise.count h2))

theorem Holds.refMark {r st : Nat} (hs : s.Holds Q) : (s.refMark r st).Holds Q :=
  hs.set.setBit.setBit

theorem Holds.refDisqualify {r cause : Nat} (hs : s.Holds Q) : (s.refDisqualify r cause).Holds Q := by
  unfold State.refDisqualify
  extract_lets +onlyGivenNames _ _ s2
  have h2 : s2.Holds Q := hs.refMark.setRefIn
  exact .ite h2.set.raise.count h2

theorem Holds.refMeasure {r : Nat} {m : Option Int} (hs : s.Holds Q) : (s.refMeasure r m).Holds Q := by
  unfold State.refMeasure
  refine .ite hs.refMark.setRefIn ?_
  split
  · exact .ite hs.refMark (.ite hs hs.refDisqualify)
  · extract_lets +onlyGivenNames _ s1 _ _ _
    have h1 : s1.Holds Q := hs.wrN
    split
    · extract_lets +onlyGivenNames _ _ _ _ _ s4
      have h4 : s4.Holds Q := .setRefIn (.setFlag (.ite h1.raise.count h1))
      exact .ite h4.refMark.refDisqualify (.ite h4.refMark.refDisqualify (.ite (.ite h4.refMark h4) (.ite h4.refMark.raise h4.refMark)))

theorem Holds.refConsensus (hs : s.Holds Q) : s.refConsensus.Holds Q :=
  .setFlag (.update (hs.each (fun _ _ h2 => h2.raise.count)))

theorem Holds.refSelection (hs : s.Holds Q) : s.refSelection.Holds Q := by
  unfold State.refSelection
  refine .ite hs ?_
  extract_lets +onlyGivenNames _
  split
  · split
    · exact hs.refAcquire
    · exact hs
  · refine .ite ?_ ?_
    · refine .ite hs ?_
      split
      · exact hs.set.update
      · exact hs.set.setFlag
    · split
      · exact hs.refExit
      · exact hs
  · refine .ite hs.refHoldover ?_
    refine .ite hs ?_
    extract_lets +onlyGivenNames _
    split
    · exact hs.refSwitch
    · exact hs.refHoldover

theorem Holds.refAge (hs : s.Holds Q) : s.refAge.Holds Q := by
  unfold State.refAge
  refine .ite ?_ hs
  extract_lets +onlyGivenNames _ _ s1
  have h1 : s1.Holds Q := hs.update
  exact .ite (.ite h1 h1.update.dacAim) (.ite h1 h1.setY)

theorem Holds.refSample (hs : s.Holds Q) : s.refSample.Holds Q := by
  unfold State.refSample
  refine .ite ?_ hs
  extract_lets +onlyGivenNames _ _ s1
  have h1 : s1.Holds Q := hs.update
  exact .ite h1.setFlag h1

theorem Holds.refSecond {ms : List (Option Int)} (hs : s.Holds Q) : (s.refSecond ms).Holds Q :=
  .ite (.refServeAll (.refSelection (.refConsensus (hs.refSample.refAge.each (fun _ _ h3 => h3.refMeasure))))) hs

theorem Holds.refWindow (hs : s.Holds Q) : s.refWindow.Holds Q :=
  .ite (.ite hs.wrN hs.wrN) hs

theorem Holds.refBuilt {offset : Int} (hs : s.Holds Q) : (s.refBuilt offset).Holds Q :=
  .ite hs.update.wrN.setFlag.update.refLand.refClose.wrN.refServeAll hs

theorem Holds.refDwell (hs : s.Holds Q) : s.refDwell.Holds Q :=
  .ite (.ite hs.refTo hs.refStage) hs

theorem Holds.refPulse (hs : s.Holds Q) : s.refPulse.Holds Q := by
  unfold State.refPulse
  refine .ite ?_ hs
  extract_lets +onlyGivenNames _ s1 _
  have h1 : s1.Holds Q := .ite hs.update hs
  split
  · exact h1.update.raise.count
  · exact .ite h1.update.raise.count h1

theorem Holds.refOutDone (hs : s.Holds Q) : s.refOutDone.Holds Q :=
  hs.update.each (fun _ _ h2 => h2.finishSt)

theorem Holds.refPps (hs : s.Holds Q) : s.refPps.Holds Q :=
  .ite (.refOutDone (hs.update.each (fun _ _ h2 => h2.finishSt))) hs

theorem Holds.refCfgErr (hs : s.Holds Q) : (s.refCfgErr).2.Holds Q := by
  unfold State.refCfgErr
  extract_lets +onlyGivenNames _ _ _ _ _ _
  refine .ite_snd hs ?_
  refine .ite_snd hs ?_
  refine .ite_snd hs ?_
  refine .ite_snd hs ?_
  refine .ite_snd hs ?_
  refine .ite_snd ?_ hs
  split
  · rename_i t1 e
    exact .of_snd e hs.free

theorem Holds.refStop (hs : s.Holds Q) : s.refStop.Holds Q :=
  .each (.setFlag (.setFlag (.setFlag (.setY (hs.update.wrN.set.each (fun _ _ h4 => h4.set)))))) (fun _ _ h8 => h8.finishSt)

theorem Holds.refStart (hs : s.Holds Q) : s.refStart.Holds Q := by
  unfold State.refStart
  split
  · rename_i t1 e
    extract_lets +onlyGivenNames s2
    have h2 : s2.Holds Q := .set (.of_snd e hs.refCfgErr)
    exact .ite h2 h2.update.setFlag.update.wrN.setFlag.setFlag

theorem Holds.refFreeze {on : Bool} (hs : s.Holds Q) : (s.refFreeze on).Holds Q := by
  unfold State.refFreeze
  extract_lets +onlyGivenNames _ s1
  have h1 : s1.Holds Q := hs.setFlag
  refine .ite ?_ h1
  extract_lets +onlyGivenNames s2
  have h2 : s2.Holds Q := h1.setFlag
  exact .ite h2.setFlag.setY h2

theorem Holds.refCommand {src : CmdSrc} {op : Nat} {f : CmdRef → List Byte → State → State} (hs : s.Holds Q) (hf : ∀ a1 a2 t, State.Holds
    Q t → State.Holds Q (f a1 a2 t)) : (s.refCommand src op f).Holds Q :=
  hs.handOver (fun _ _ _ _ h1 => .ite (hf _ _ _ h1) h1.finishSt)

theorem Holds.refSelectCmd {ref : CmdRef} {d : List Byte} (hs : s.Holds Q) : (s.refSelectCmd ref d).Holds Q :=
  .ite hs.finishSt (.ite hs.update hs.refActSelect)

theorem Holds.refSetCmd {ref : CmdRef} {d : List Byte} (hs : s.Holds Q) : (s.refSetCmd ref d).Holds Q := by
  unfold State.refSetCmd
  extract_lets +onlyGivenNames _ _ _ _
  refine .ite hs.finishSt ?_
  extract_lets +onlyGivenNames s1 s2 s3
  have h1 : s1.Holds Q := .ite hs.setFlag hs
  have h2 : s2.Holds Q := .ite h1.set h1
  have h3 : s3.Holds Q := .ite h2.set.set h2
  exact .finishSt (.ite h3.set h3)

theorem Holds.refBwCmd {ref : CmdRef} {d : List Byte} (hs : s.Holds Q) : (s.refBwCmd ref d).Holds Q := by
  unfold State.refBwCmd
  extract_lets +onlyGivenNames _ _
  refine .ite hs.finishSt ?_
  refine .ite hs.finishSt ?_
  extract_lets +onlyGivenNames _ s2
  have h2 : s2.Holds Q := hs.set.setFlag
  exact .finishSt (.ite h2.refStage (.ite h2.refStage h2))

theorem Holds.refAlignCmd {ref : CmdRef} {d : List Byte} (hs : s.Holds Q) : (s.refAlignCmd ref d).Holds Q :=
  hs.update

theorem Holds.refOutCmd {ref : CmdRef} {d : List Byte} (hs : s.Holds Q) : (s.refOutCmd ref d).Holds Q :=
  .ite hs.update.refOutDone hs.update.finishSt.refOutDone

theorem Holds.refRunWrite {on : Bool} (hs : s.Holds Q) : (s.refRunWrite on).Holds Q :=
  .ite (.ite hs hs.refStart) (.ite hs.refStop hs)

theorem Holds.execDpllUpdate {theta : Int} (hs : s.Holds Q) : NextHolds Q (execDpllUpdate theta s) :=
  hs.refUpdateLoop.ok

theorem Holds.execMonitorSecond {measured : List (Option Int)} (hs : s.Holds Q) : NextHolds Q (execMonitorSecond measured s) :=
  hs.refSecond.ok

theorem Holds.execMonitorWindowEnd (hs : s.Holds Q) : NextHolds Q (execMonitorWindowEnd s) :=
  hs.refWindow.ok

theorem Holds.execReferenceAbsent {reference : Fin 6} (hs : s.Holds Q) : NextHolds Q (execReferenceAbsent reference s) :=
  .ok (.ite hs.refDisqualify hs)

theorem Holds.execRefBuildoutLoRead (hs : s.Holds Q) : NextHolds Q (execRefBuildoutLoRead s) :=
  .ok (hs.answer (fun _ h1 => h1.wrN))

theorem Holds.execBuildoutComplete {offset : Int} (hs : s.Holds Q) : NextHolds Q (execBuildoutComplete offset s) :=
  hs.refBuilt.ok

theorem Holds.execStageDwellEnd (hs : s.Holds Q) : NextHolds Q (execStageDwellEnd s) :=
  hs.refDwell.ok

theorem Holds.execHoldoverExpired (hs : s.Holds Q) : NextHolds Q (execHoldoverExpired s) :=
  .ok (.ite hs.setFlag.raise hs)

theorem Holds.execPpsOutEdge (hs : s.Holds Q) : NextHolds Q (execPpsOutEdge s) :=
  hs.refPps.ok

theorem Holds.execAlignmentPulse (hs : s.Holds Q) : NextHolds Q (execAlignmentPulse s) :=
  hs.refPulse.ok

theorem Holds.execRefSelect {src : CmdSrc} (hs : s.Holds Q) : NextHolds Q (execRefSelect src s) :=
  .ok (hs.refCommand (fun _ _ _ h1 => h1.refSelectCmd))

theorem Holds.execRefSet {src : CmdSrc} (hs : s.Holds Q) : NextHolds Q (execRefSet src s) :=
  .ok (hs.refCommand (fun _ _ _ h1 => h1.refSetCmd))

theorem Holds.execRefBw {src : CmdSrc} (hs : s.Holds Q) : NextHolds Q (execRefBw src s) :=
  .ok (hs.refCommand (fun _ _ _ h1 => h1.refBwCmd))

theorem Holds.execRefAlign {src : CmdSrc} (hs : s.Holds Q) : NextHolds Q (execRefAlign src s) :=
  .ok (hs.refCommand (fun _ _ _ h1 => h1.refAlignCmd))

theorem Holds.execRefAlignTimeout (hs : s.Holds Q) : NextHolds Q (execRefAlignTimeout s) := by
  unfold Machine.execRefAlignTimeout
  refine .ok ?_
  split
  · exact hs
  · exact hs.update.finishSt

theorem Holds.execRefOutSet {src : CmdSrc} (hs : s.Holds Q) : NextHolds Q (execRefOutSet src s) :=
  .ok (hs.refCommand (fun _ _ _ h1 => h1.refOutCmd))

theorem Holds.execRefCtlRun {on : Bool} (hs : s.Holds Q) : NextHolds Q (execRefCtlRun on s) :=
  .ok (.ite hs.refRunWrite hs)

theorem Holds.execRefCtlFreeze {on : Bool} (hs : s.Holds Q) : NextHolds Q (execRefCtlFreeze on s) :=
  .ok (.ite hs.refFreeze hs)

/-! ### The functions of Machine/Time -/

theorem Holds.tickClock (hs : s.Holds Q) : s.tickClock.Holds Q :=
  hs.update

theorem Holds.refStepped (hs : s.Holds Q) : s.refStepped.Holds Q :=
  .ite hs.setRefIn.raise.count.setFlag.setY hs

theorem Holds.stepTime {c : Clock} (hs : s.Holds Q) : (s.stepTime c).Holds Q :=
  hs.update.setFlag.raise.count.set.refStepped

theorem Holds.runJobs (hs : s.Holds Q) : s.runJobs.Holds Q :=
  hs.update.each (fun _ _ h1 => h1.stepTime.finishSt)

theorem Holds.thetaNs {theta : Int} (hs : s.Holds Q) : (s.thetaNs theta).2.Holds Q := by
  unfold State.thetaNs
  refine .ite_snd hs ?_
  split
  · rename_i t1 e
    exact .of_snd e hs.free

theorem Holds.servoUnlock (hs : s.Holds Q) : s.servoUnlock.Holds Q :=
  .ite hs.setFlag.raise.count hs

theorem Holds.servoLock {theta : Int} (hs : s.Holds Q) : (s.servoLock theta).Holds Q := by
  unfold State.servoLock
  extract_lets +onlyGivenNames _ _ _ _ _ s2 s3
  have h2 : s2.Holds Q := hs.update.setFlag
  have h3 : s3.Holds Q := .ite h2.setFlag h2
  exact .ite h3.servoUnlock h3

theorem Holds.servoUpdate {theta log : Int} (hs : s.Holds Q) : (s.servoUpdate theta log).Holds Q := by
  unfold State.servoUpdate
  extract_lets +onlyGivenNames _ _
  split
  · rename_i t1 e
    have h1 : t1.Holds Q := .of_snd e hs.free
    exact .wrN (.ite h1.update h1)

theorem Holds.servoOffset {theta log : Int} (hs : s.Holds Q) : (s.servoOffset theta log).2.Holds Q := by
  unfold State.servoOffset
  have h1 := (hs.thetaNs (theta := theta)).wrN (a := Reg.TIME_OFFSET_LAST) (v := ofS 32 (s.thetaNs theta).1)
  exact .ite_snd h1.count.raise.snd_mk (Holds.ite h1 h1.servoUpdate).servoLock.snd_mk

theorem Holds.ppsEdge {pin fine : Nat} (hs : s.Holds Q) : (s.ppsEdge pin fine).Holds Q :=
  .ite hs (.ite hs.count hs.servoOffset)

theorem Holds.timeOffsetCmd {ref : CmdRef} {d : List Byte} (hs : s.Holds Q) : (s.timeOffsetCmd ref d).Holds Q := by
  unfold State.timeOffsetCmd
  refine .ite hs.finishSt ?_
  refine .ite hs.count.finishSt ?_
  split
  · rename_i t1 e
    exact .finishSt (.of_snd e hs.servoOffset)

theorem Holds.timeServoCmd {ref : CmdRef} {d : List Byte} (hs : s.Holds Q) : (s.timeServoCmd ref d).Holds Q := by
  unfold State.timeServoCmd
  extract_lets +onlyGivenNames _ _ _
  refine .ite hs.finishSt ?_
  refine .ite hs.finishSt ?_
  extract_lets +onlyGivenNames s1
  have h1 : s1.Holds Q := hs.timePut
  exact .finishSt (.ite h1.update h1)

theorem Holds.timeJob {ref : CmdRef} {kind : Nat} {t : Stamp} (hs : s.Holds Q) : (s.timeJob ref kind t).Holds Q :=
  .ite hs.update hs.finishSt

theorem Holds.timeFreeze {on : Bool} (hs : s.Holds Q) : (s.timeFreeze on).Holds Q :=
  hs.setFlag.setFlag

theorem Holds.execTimeNowNsRead (hs : s.Holds Q) : NextHolds Q (execTimeNowNsRead s) :=
  .ok (.ite hs.wrN.wrN.update hs.update)

theorem Holds.execPpsEdge {pin : Fin 2} {fine : Fin 128} (hs : s.Holds Q) : NextHolds Q (execPpsEdge pin fine s) :=
  hs.ppsEdge.ok

theorem Holds.execTimeSet {src : CmdSrc} (hs : s.Holds Q) : NextHolds Q (execTimeSet src s) :=
  .ok (hs.handOver (fun _ _ _ _ h1 => h1.timeJob))

theorem Holds.execTimeStep {src : CmdSrc} (hs : s.Holds Q) : NextHolds Q (execTimeStep src s) :=
  .ok (hs.handOver (fun _ _ _ _ h1 => h1.timeJob))

theorem Holds.execTimeOffset {src : CmdSrc} (hs : s.Holds Q) : NextHolds Q (execTimeOffset src s) :=
  .ok (hs.handOver (fun _ _ _ _ h1 => h1.timeOffsetCmd))

theorem Holds.execTimeServo {src : CmdSrc} (hs : s.Holds Q) : NextHolds Q (execTimeServo src s) :=
  .ok (hs.handOver (fun _ _ _ _ h1 => h1.timeServoCmd))

theorem Holds.execServoCoast (hs : s.Holds Q) : NextHolds Q (execServoCoast s) :=
  .ok (.ite hs hs.setFlag.servoUnlock)

theorem Holds.execTimeCtlFreeze {on : Bool} (hs : s.Holds Q) : NextHolds Q (execTimeCtlFreeze on s) :=
  .ok (.ite hs.timeFreeze hs)

/-! ### The functions of Machine/Egress -/

theorem Holds.sendPkt {p : Nat} {k : Pkt} (hs : s.Holds Q) : (s.sendPkt p k).Holds Q := by
  unfold State.sendPkt
  extract_lets +onlyGivenNames _ _ _ _ _ s3 s4
  have h3 : s3.Holds Q := hs.setPort.count.count.count
  have h4 : s4.Holds Q := by
    unfold s4
    split
    · exact h3.setStream
    · exact h3
  exact h4.update

theorem Holds.sendLower {p : Nat} (hs : s.Holds Q) : (s.sendLower p).Holds Q := by
  unfold State.sendLower
  split
  · split
    · exact hs.setPort
    · split
      · exact hs
      · extract_lets +onlyGivenNames s1
        have h1 : s1.Holds Q := hs.setPort
        exact .sendPkt (.ite h1.setPort h1.setStream)

theorem Holds.holdClass0 {p : Nat} (hs : s.Holds Q) : (s.holdClass0 p).Holds Q := by
  unfold State.holdClass0
  extract_lets +onlyGivenNames _
  refine .ite hs ?_
  extract_lets +onlyGivenNames _ s2
  have h2 : s2.Holds Q := hs.setPort.count.setFlag
  exact .ite h2 h2.update.raise

theorem Holds.retainClass0 {p : Nat} (hs : s.Holds Q) : (s.retainClass0 p).Holds Q := by
  unfold State.retainClass0
  extract_lets +onlyGivenNames _
  split
  · exact hs
  · exact hs.setPort.update

theorem Holds.transmit {p elapsed : Nat} {frames : List (List Byte)} (hs : s.Holds Q) : (s.transmit p elapsed frames).Holds Q := by
  unfold State.transmit
  extract_lets +onlyGivenNames _
  refine .ite hs ?_
  extract_lets +onlyGivenNames _ _ _ s1
  have h1 : s1.Holds Q := hs.setPort
  refine .ite h1 ?_
  refine .ite h1.retainClass0 ?_
  split
  · exact .ite h1.setPort.sendPkt h1.holdClass0.sendLower
  · exact h1.sendLower

theorem Holds.laneRise {l : Nat} (hs : s.Holds Q) : (s.laneRise l).Holds Q :=
  .ite hs.laneTo.setFlag hs

theorem Holds.laneDown {l : Nat} (hs : s.Holds Q) : (s.laneDown l).Holds Q :=
  .ite hs.laneAdapt hs

theorem Holds.portDown {p : Nat} {cut : Bool} (hs : s.Holds Q) : (s.portDown p cut).Holds Q := by
  unfold State.portDown
  refine .ite hs ?_
  extract_lets +onlyGivenNames _ _ _ _ s3
  have h3 : s3.Holds Q := hs.set.raise.count.setPort.each (fun _ _ h4 => h4.laneDown)
  refine .ite h3 ?_
  split
  · exact h3
  · refine .ite h3 ?_
    split
    · exact h3.setStream
    · exact h3.setPort

theorem Holds.portRise {p : Nat} (hs : s.Holds Q) : (s.portRise p).Holds Q :=
  .ite hs (hs.set.each (fun _ _ h1 => h1.laneRise))

theorem Holds.portFrame {p : Nat} {f : List Byte} {good : Bool} (hs : s.Holds Q) : (s.portFrame p f good).Holds Q := by
  unfold State.portFrame
  refine .ite hs ?_
  extract_lets +onlyGivenNames s1
  have h1 : s1.Holds Q := hs.count
  exact .ite h1.count (.ite h1.count (.ite h1.toRing h1.count))

theorem Holds.mgmtFrame {f : List Byte} {good : Bool} {fine : Nat} (hs : s.Holds Q) : (s.mgmtFrame f good fine).Holds Q := by
  unfold State.mgmtFrame
  refine .ite hs ?_
  split
  · exact hs.toRing
  · exact hs.toRing

theorem Holds.mgmtSend {f : List Byte} {fine : Nat} (hs : s.Holds Q) : (s.mgmtSend f fine).Holds Q := by
  unfold State.mgmtSend
  refine .ite hs ?_
  extract_lets +onlyGivenNames _ s1
  have h1 : s1.Holds Q := hs.update
  split
  · exact h1
  · exact .ite h1.toRing h1

theorem Holds.ethPut {a v : Nat} (hs : s.Holds Q) : (s.ethPut a v).Holds Q :=
  hs.wrN.update

theorem Holds.streamSet {ref : CmdRef} {d : List Byte} {r : Nat} {t : HostRead} (hs : s.Holds Q) : (s.streamSet ref d r t).Holds Q := by
  unfold State.streamSet
  extract_lets +onlyGivenNames _
  refine .ite hs.finishSt ?_
  refine .ite hs.finishSt ?_
  split
  · exact hs.tableFailed
  · exact .finish (hs.each (fun _ _ h1 => h1.ethPut))

theorem Holds.execEgressTransmit {port : Port} {elapsed : Nat} {frames : List (List Byte)} (hs : s.Holds Q) : NextHolds Q
    (execEgressTransmit port elapsed frames s) :=
  hs.transmit.ok

theorem Holds.execEthLinkDown {port : Port} {cut : Bool} (hs : s.Holds Q) : NextHolds Q (execEthLinkDown port cut s) :=
  hs.portDown.ok

theorem Holds.execEthLinkUp {port : Port} (hs : s.Holds Q) : NextHolds Q (execEthLinkUp port s) :=
  hs.portRise.ok

theorem Holds.execEthFrameReceive {port : Port} {frame : List Byte} {fcsGood : Bool} (hs : s.Holds Q) : NextHolds Q (execEthFrameReceive
    port frame fcsGood s) :=
  hs.portFrame.ok

theorem Holds.execMgmtFrameReceive {frame : List Byte} {fcsGood : Bool} {fine : Fin 128} (hs : s.Holds Q) : NextHolds Q
    (execMgmtFrameReceive frame fcsGood fine s) :=
  hs.mgmtFrame.ok

theorem Holds.execMgmtFrameTransmit {frame : List Byte} {fine : Fin 128} (hs : s.Holds Q) : NextHolds Q (execMgmtFrameTransmit frame fine
    s) :=
  hs.mgmtSend.ok

theorem Holds.execMgmtLinkDown (hs : s.Holds Q) : NextHolds Q (execMgmtLinkDown s) :=
  hs.setFlag.laneDown.ok

theorem Holds.execMgmtLinkUp (hs : s.Holds Q) : NextHolds Q (execMgmtLinkUp s) :=
  hs.setFlag.laneRise.ok

theorem Holds.execEthStreamSet {src : CmdSrc} {table : HostRead} (hs : s.Holds Q) : NextHolds Q (execEthStreamSet src table s) :=
  .ok (hs.handOver (fun _ _ _ _ h1 => h1.streamSet))

theorem Holds.execEthStrSeqLoRead {stream : Fin 4096} (hs : s.Holds Q) : NextHolds Q (execEthStrSeqLoRead stream s) :=
  .ok (hs.answer (fun _ h1 => h1.wrN.wrN))

/-! ### The functions of Machine/Almanac -/

theorem Holds.almMark {stepped : Bool} (hs : s.Holds Q) : (s.almMark stepped).Holds Q :=
  hs.update

theorem Holds.showAlm (hs : s.Holds Q) : s.showAlm.Holds Q := by
  unfold State.showAlm
  extract_lets +onlyGivenNames s1
  have h1 : s1.Holds Q := hs.set
  split
  · exact h1.set.setFlag
  · exact h1.set.setFlag

theorem Holds.almArm {i : Nat} {e : AlmEntry} (hs : s.Holds Q) : (s.almArm i e).Holds Q :=
  .showAlm (.set (.setFlag (hs.update.each (fun _ _ h3 => h3.wrN))))

theorem Holds.almEmpty {i : Nat} (hs : s.Holds Q) : (s.almEmpty i).Holds Q :=
  hs.update.setFlag.showAlm

theorem Holds.setPin {p : Nat} {x : EvtPin} (hs : s.Holds Q) : (s.setPin p x).Holds Q :=
  hs.update

theorem Holds.pulseEdge {e : AlmEntry} {delayed : Bool} (hs : s.Holds Q) : (s.pulseEdge e delayed).2.Holds Q := by
  unfold State.pulseEdge
  refine .ite_snd hs ?_
  extract_lets +onlyGivenNames _
  refine .ite_snd hs ?_
  split
  · rename_i t1 e
    exact .of_snd e hs.free

theorem Holds.evtEdge {p fine : Nat} {falling : Bool} (hs : s.Holds Q) : (s.evtEdge p fine falling).Holds Q := by
  unfold State.evtEdge
  extract_lets +onlyGivenNames _ _
  refine .ite hs ?_
  extract_lets +onlyGivenNames _ _ _
  refine .ite hs.count ?_
  extract_lets +onlyGivenNames s1 s2
  have h1 : s1.Holds Q := hs.setPin
  have h2 : s2.Holds Q := .ite h1.toRing h1
  exact .ite h2 (.gleanRequest (.ite h2.adcTrigger h2))

theorem Holds.almAct {e : AlmEntry} {delayed : Bool} (hs : s.Holds Q) : (s.almAct e delayed).Holds Q := by
  unfold State.almAct
  extract_lets +onlyGivenNames _ _ _
  split
  · refine .ite ?_ hs
    split
    · rename_i t1 e
      exact .setPin (.of_snd e hs.pulseEdge)
  · exact .ite (.ite hs.setPin hs) (.ite hs.update hs.update)
  · exact hs.dacStrobe
  · exact hs.adcTrigger
  · exact hs.gleanRequest
  · exact hs

theorem Holds.almRearm {i : Nat} {e : AlmEntry} (hs : s.Holds Q) : (s.almRearm i e).2.Holds Q := by
  unfold State.almRearm
  extract_lets +onlyGivenNames _ _
  refine .ite_snd hs.almEmpty ?_
  extract_lets +onlyGivenNames _ _ _ _ _ _ s1
  have h1 : s1.Holds Q := hs.count
  exact .ite_snd h1.almEmpty h1.almArm

theorem Holds.almFire {i : Nat} {e : AlmEntry} (hs : s.Holds Q) : (s.almFire i e).Holds Q := by
  unfold State.almFire
  extract_lets +onlyGivenNames _ _ _ _ _ _ s3
  have h3 : s3.Holds Q := hs.wrN.count.count.count.update
  split
  rename_i e
  have h4 := Holds.of_snd e h3.almRearm
  extract_lets +onlyGivenNames _ done
  have hd {t : State} {st : Nat} (ht : t.Holds Q) : (done t st).Holds Q := .ite ht.set.toRing ht.set
  exact .ite (hd h4.count) (.ite (.ite h4.update.finishSt h4.update) (hd h4.almAct))

theorem Holds.almTick (hs : s.Holds Q) : s.almTick.Holds Q := by
  unfold State.almTick
  extract_lets +onlyGivenNames s1
  have h1 : s1.Holds Q := hs.almMark
  split
  · exact h1.almFire.showAlm
  · exact h1.showAlm

theorem Holds.almMeets {i : Nat} (hs : s.Holds Q) : (s.almMeets i).2.Holds Q := by
  unfold State.almMeets
  extract_lets +onlyGivenNames s1
  have h1 : s1.Holds Q := hs.almMark
  split
  · exact .ite_snd h1.almFire h1
  · exact h1

theorem Holds.almSetCmd {ref : CmdRef} {d : List Byte} {r : Nat} {t : HostRead} (hs : s.Holds Q) : (s.almSetCmd ref d r t).Holds Q := by
  unfold State.almSetCmd
  split
  · exact hs.tableFailed
  · split
    · exact hs.finishSt
    · extract_lets +onlyGivenNames _
      split
      · rename_i t1 e
        exact .finish (.almArm (.of_snd e hs.almMeets))

theorem Holds.almCancelCmd {ref : CmdRef} {d : List Byte} (hs : s.Holds Q) : (s.almCancelCmd ref d).Holds Q :=
  .finishSt (.each (.foldl_snd (p := (false, s)) hs fun _ _ h1 => h1.almMeets) fun _ _ h2 => h2.almEmpty)

theorem Holds.tick (hs : s.Holds Q) : s.tick.Holds Q := by
  unfold State.tick
  extract_lets +onlyGivenNames _ _ s2
  have h2 : s2.Holds Q := hs.update.tickClock.almMark
  exact .ite h2.showAlm h2.runJobs.almMark.showAlm

theorem Holds.execTimeBaseTick (hs : s.Holds Q) : NextHolds Q (execTimeBaseTick s) :=
  hs.tick.ok

theorem Holds.execTimeEvtEdge {pin : Fin 4} {fine : Fin 128} {falling : Bool} (hs : s.Holds Q) : NextHolds Q (execTimeEvtEdge pin fine
    falling s) :=
  hs.evtEdge.ok

theorem Holds.execPinPulseEnd {pin : Fin 4} (hs : s.Holds Q) : NextHolds Q (execPinPulseEnd pin s) :=
  .ok (.ite hs.setPin hs)

theorem Holds.execAlmSet {src : CmdSrc} {table : HostRead} (hs : s.Holds Q) : NextHolds Q (execAlmSet src table s) :=
  .ok (hs.handOver (fun _ _ _ _ h1 => h1.almSetCmd))

theorem Holds.execAlmCancel {src : CmdSrc} (hs : s.Holds Q) : NextHolds Q (execAlmCancel src s) :=
  .ok (hs.handOver (fun _ _ _ _ h1 => h1.almCancelCmd))

theorem Holds.execAlmanacFiring (hs : s.Holds Q) : NextHolds Q (execAlmanacFiring s) :=
  hs.almTick.ok

/-! ### The functions of Machine/Avs -/

theorem Holds.railAsk {a mv : Nat} (hs : s.Holds Q) : (s.railAsk a mv).Holds Q :=
  hs.set.setFlag.update

theorem Holds.railRead {a : Nat} (hs : s.Holds Q) : (s.railRead a).Holds Q :=
  hs.update

theorem Holds.railAgain {a : Nat} (hs : s.Holds Q) : (s.railAgain a).Holds Q :=
  hs.update

theorem Holds.railBit {f : Fld} {a : Nat} {b : Bool} (hs : s.Holds Q) : (s.railBit f a b).Holds Q :=
  hs.set

theorem Holds.railStep {a slack : Nat} (hs : s.Holds Q) : (s.railStep a slack).Holds Q :=
  .ite hs (.ite hs.railRead (.railBit (.raiseIf (.ite hs.railAsk.count (.ite hs.railAsk.count hs)))))

theorem Holds.avsClock (hs : s.Holds Q) : s.avsClock.Holds Q := by
  unfold State.avsClock
  extract_lets +onlyGivenNames _ _
  refine .ite (.ite hs hs.update.set) ?_
  refine .ite ?_ hs
  refine .ite hs ?_
  extract_lets +onlyGivenNames _ s1
  have h1 : s1.Holds Q := hs.update
  split
  · exact h1.each (fun _ _ h2 => h2.railAsk)
  · exact h1.each (fun _ _ h3 => h3.railRead)

theorem Holds.avsRaise (hs : s.Holds Q) : s.avsRaise.Holds Q := by
  unfold State.avsRaise
  split
  · exact .ite hs.update.set hs
  · exact hs

theorem Holds.avsPeriodEnd {slack : List Nat} (hs : s.Holds Q) : (s.avsPeriodEnd slack).Holds Q := by
  unfold State.avsPeriodEnd
  refine .ite hs ?_
  refine .ite hs.setFlag.avsClock.avsRaise ?_
  extract_lets +onlyGivenNames _ s2
  have h2 : s2.Holds Q := .avsClock (.ite hs.railAsk hs)
  exact .avsRaise (.ite h2 (h2.each (fun _ _ h4 => h4.railStep)))

theorem Holds.avsEnd {a : Nat} {r : Option Nat} (hs : s.Holds Q) : (s.avsEnd a r).Holds Q := by
  unfold State.avsEnd
  split
  · exact .avsRaise (.railBit (.update (.setFlag (.ite hs.set hs))))
  · exact .ite hs.update.count.railAgain hs.update.set.railBit.raise

theorem Holds.avsFreeze {on : Bool} (hs : s.Holds Q) : (s.avsFreeze on).Holds Q := by
  unfold State.avsFreeze
  extract_lets +onlyGivenNames s1
  have h1 : s1.Holds Q := hs.setFlag
  exact .ite h1 h1.setFlag

theorem Holds.execAvsPeriod {slack : List Nat} (hs : s.Holds Q) : NextHolds Q (execAvsPeriod slack s) :=
  hs.avsPeriodEnd.ok

theorem Holds.execAvsTransactionEnd {rail : Fin 5} {answer : Option (Fin 1024)} (hs : s.Holds Q) : NextHolds Q (execAvsTransactionEnd rail
    answer s) :=
  hs.avsEnd.ok

theorem Holds.execAvsCfgFreeze {on : Bool} (hs : s.Holds Q) : NextHolds Q (execAvsCfgFreeze on s) :=
  .ok (.ite hs.avsFreeze hs)

theorem Holds.execDroopDetect {rail : Fin 4} (hs : s.Holds Q) : NextHolds Q (execDroopDetect rail s) :=
  .ok (.update (.ite hs.count hs))

theorem Holds.execDroopRecover {rail : Fin 4} (hs : s.Holds Q) : NextHolds Q (execDroopRecover rail s) :=
  hs.update.ok

/-! ### The functions of Machine/FuseDbg -/

theorem Holds.progFail {e : Nat} (hs : s.Holds Q) : (s.progFail e).Holds Q :=
  hs.set.set.update.raise

theorem Holds.fuseProg {v : Nat} (hs : s.Holds Q) : (s.fuseProg v).Holds Q :=
  .ite hs (.ite hs.progFail hs.set.set.update)

theorem Holds.fuseProgEnd {good : Bool} (hs : s.Holds Q) (hf : ∀ f, Q.of s.pending f s.regs s.hbm) : (s.fuseProgEnd good).Holds Q :=
  .ite hs (.ite hs.progFail (.raise (.set ⟨hf _⟩)))

theorem Holds.setChallenge {l : List Word} (hs : s.Holds Q) : (s.setChallenge l).Holds Q :=
  hs.each (fun _ _ h1 => h1.wr)

theorem Holds.dbgRequest {l : List Word} (hs : s.Holds Q) : (s.dbgRequest l).Holds Q :=
  .ite hs hs.set.setChallenge.update

theorem Holds.dbgSubmit {v : Word} (hs : s.Holds Q) : (s.dbgSubmit v).Holds Q := by
  unfold State.dbgSubmit
  refine .ite hs ?_
  extract_lets +onlyGivenNames s1
  have h1 : s1.Holds Q := hs.wr
  exact .ite h1.update h1

theorem Holds.dbgChecked {good : Bool} (hs : s.Holds Q) : (s.dbgChecked good).Holds Q := by
  unfold State.dbgChecked
  refine .ite hs ?_
  extract_lets +onlyGivenNames _ _ s2
  have h2 : s2.Holds Q := hs.update.setChallenge
  exact .ite h2.set.raise h2.set.set.raise

theorem Holds.obsShow {o : Nat} (hs : s.Holds Q) : (s.obsShow o).Holds Q :=
  hs.update

theorem Holds.atbShow {t : Nat} (hs : s.Holds Q) : (s.atbShow t).Holds Q :=
  hs.update

theorem Holds.execFuseProg {value : Word} (hs : s.Holds Q) : NextHolds Q (execFuseProg value s) :=
  hs.fuseProg.ok

theorem Holds.execFuseProgEnd {readBackGood : Bool} (hs : s.Holds Q) (hf : ∀ f, Q.of s.pending f s.regs s.hbm) :
    NextHolds Q (execFuseProgEnd readBackGood s) :=
  .ok (hs.fuseProgEnd hf)

theorem Holds.execDbgRequest {challenge : List Word} (hs : s.Holds Q) : NextHolds Q (execDbgRequest challenge s) :=
  hs.dbgRequest.ok

theorem Holds.execDbgResponse {word : Word} (hs : s.Holds Q) : NextHolds Q (execDbgResponse word s) :=
  hs.dbgSubmit.ok

theorem Holds.execDbgResponseChecked {good : Bool} (hs : s.Holds Q) : NextHolds Q (execDbgResponseChecked good s) :=
  hs.dbgChecked.ok

theorem Holds.execFirmwareMessage {code : BitVec 16} (hs : s.Holds Q) : NextHolds Q (execFirmwareMessage code s) :=
  hs.raiseIf.ok

/-! ### The functions of Machine/Events -/

theorem Holds.evtFlush {q : Nat} (hs : s.Holds Q) : (s.evtFlush q).Holds Q :=
  .ite hs (.ite hs.update.showStore.toRing.count (.ite hs hs.update.showStore.count))

theorem Holds.evtEnable {on : Bool} (hs : s.Holds Q) : (s.evtEnable on).Holds Q := by
  unfold State.evtEnable
  extract_lets +onlyGivenNames s1
  have h1 : s1.Holds Q := hs.setFlag
  exact .ite (.showStore (h1.update.each (fun _ _ h3 => h3.count.eventRecord))) h1

theorem Holds.evtArm {e : Nat} (hs : s.Holds Q) : (s.evtArm e).Holds Q :=
  .ite hs.setFlag.setFlag.signal hs.setFlag

theorem Holds.wedge {detail : Nat} (hs : s.Holds Q) : (s.wedge detail).Holds Q := by
  unfold State.wedge
  refine .ite hs ?_
  extract_lets +onlyGivenNames s1
  have h1 : s1.Holds Q := hs.setFlag.raise
  refine .ite ?_ h1
  extract_lets +onlyGivenNames s2
  have h2 : s2.Holds Q := h1.selfFault
  exact .ite h2.update h2

theorem Holds.scanStart {ref : CmdRef} {d : List Byte} {r : Nat} (hs : s.Holds Q) : (s.scanStart ref d r).Holds Q := by
  unfold State.scanStart
  extract_lets +onlyGivenNames _ _ _ _ _ _ _ _ _ s1
  have h1 : s1.Holds Q := hs.set
  exact .ite h1.setRing.endXfer h1.setRing.showChannel

theorem Holds.cdcFault {crossing : Nat} {overflow : Bool} {unit : Nat} (hs : s.Holds Q) : (s.cdcFault crossing overflow unit).Holds Q :=
  hs.raiseIf

theorem Holds.idleStep (hs : s.Holds Q) : s.idleStep.Holds Q := by
  unfold State.idleStep
  extract_lets +onlyGivenNames s1
  have h1 : s1.Holds Q := hs.update
  split
  · exact h1.cdcFault
  · exact h1

theorem Holds.execEventQueueFlush {queue : Fin 8} (hs : s.Holds Q) : NextHolds Q (execEventQueueFlush queue s) :=
  hs.evtFlush.ok

theorem Holds.execEvtSrcArm {source : Fin 2048} (hs : s.Holds Q) : NextHolds Q (execEvtSrcArm source s) :=
  .ok (.ite hs.evtArm hs)

theorem Holds.execEvtRaise {source : Fin 2048} (hs : s.Holds Q) : NextHolds Q (execEvtRaise source s) :=
  .ok (.ite hs.raise hs)

theorem Holds.execEvtEnable {on : Bool} (hs : s.Holds Q) : NextHolds Q (execEvtEnable on s) :=
  .ok (.ite hs.evtEnable hs)

theorem Holds.execPcieCreditStall (hs : s.Holds Q) : NextHolds Q (execPcieCreditStall s) :=
  .ok (.ite hs.wedge hs)

theorem Holds.execPcieFatalError {status : BitVec 32} (hs : s.Holds Q) : NextHolds Q (execPcieFatalError status s) :=
  hs.update.wedge.ok

theorem Holds.execCrcScan {ring : Ring} (hs : s.Holds Q) : NextHolds Q (execCrcScan ring s) :=
  .ok (hs.command (fun _ _ _ _ h1 => .ite h1.scanStart h1.finishSt))

theorem Holds.execPcieAerError {nonFatal : Bool} {status : BitVec 32} (hs : s.Holds Q) : NextHolds Q (execPcieAerError nonFatal status s) :=
  hs.update.raise.ok

/-! ### The functions of Machine/Regs -/

theorem Holds.adcCfgWrite {v : Nat} (hs : s.Holds Q) : (s.adcCfgWrite v).Holds Q := by
  unfold State.adcCfgWrite
  extract_lets +onlyGivenNames _ _
  refine .ite ?_ ?_
  · extract_lets +onlyGivenNames s1
    have h1 : s1.Holds Q := hs.raiseIf
    exact .ite h1 h1.setFlag.adcDisable
  · extract_lets +onlyGivenNames _ s2
    have h2 : s2.Holds Q := hs.wr
    exact .ite h2.adcEnable h2

theorem Holds.gpioShow (hs : s.Holds Q) : s.gpioShow.Holds Q :=
  hs.set

theorem Holds.afterWrite {a : Nat} {d : RegDesc} (hs : s.Holds Q) : (s.afterWrite a d).Holds Q :=
  .ite (.ite hs hs.setFlag) (.ite (.ite hs hs.evtFlush) (.ite hs.showTile (.ite hs.gpioShow (.ite hs.obsShow (.ite hs.atbShow (.ite
    hs.setFlag hs))))))

theorem Holds.regWrite {w : Writer} {b a v : Nat} {d : RegDesc} (hs : s.Holds Q) : (s.regWrite w b a v d).Holds Q := by
  unfold State.regWrite
  refine .ite (.ite hs hs.wrN) ?_
  refine .ite hs.adcCfgWrite ?_
  refine .ite hs ?_
  split
  · exact hs.wr.afterWrite
  · exact hs
  · exact hs.raise

theorem Holds.barWrite {w : Writer} {a v : Nat} (hs : s.Holds Q) : (s.barWrite w a v).Holds Q := by
  unfold State.barWrite
  refine .ite hs ?_
  split
  · exact hs.decodeError
  · refine .ite hs ?_
    split
    · exact hs
    · exact hs.regWrite

theorem Holds.barRead {m a : Nat} (hs : s.Holds Q) : (s.barRead m a).Holds Q := by
  unfold State.barRead
  split
  · exact hs.decodeError.update
  · split
    · exact hs.update
    · refine .ite hs.update ?_
      refine .ite ?_ hs.wr.update
      split
      · rename_i t2 e
        exact .update (.of_snd e hs.free)

theorem Holds.execRegisterWrite {writer : Writer} {offset : Fin 67108864} {size : Nat} {value : BitVec 64} (hs : s.Holds Q) : NextHolds Q
    (execRegisterWrite writer offset size value s) :=
  .ok (.ite hs.narrowAccess (.ite hs (.ite hs.barWrite.barWrite hs.barWrite)))

theorem Holds.execRcRead {offset : Fin 67108864} (hs : s.Holds Q) : NextHolds Q (execRcRead offset s) :=
  hs.barRead.ok

/-! ### The functions of Machine/Stop -/

theorem Holds.spillAll (hs : s.Holds Q) : s.spillAll.Holds Q :=
  hs.each (fun _ _ h1 => h1.each (fun _ _ h2 => by
    split
    · exact h2.drainTile
    · exact h2))

theorem Holds.recomputeAll {n : Nat} (hs : s.Holds Q) : (s.recomputeAll n).Holds Q := by
  induction n generalizing s with
  | zero => exact hs
  | succ n ih =>
    unfold State.recomputeAll
    split
    · exact hs
    · split
      · exact ih hs.recomputeEnd
      · extract_lets +onlyGivenNames t
        have ht : t.Holds Q := hs.recomputeStart
        split
        · refine ih ?_
          split
          · exact ht.recomputeEnd
          · exact hs.giveUp
        · exact ih ht

theorem Holds.addAll (hs : s.Holds Q) : s.addAll.Holds Q :=
  hs.each (fun _ _ h1 => h1.granSpill)

theorem Holds.drainGroup {g n : Nat} (hs : s.Holds Q) : (s.drainGroup g n).Holds Q := by
  induction n generalizing s with
  | zero => exact hs
  | succ n ih =>
    unfold State.drainGroup
    split
    · exact ih hs.sendSegment
    · exact hs

theorem Holds.idleGroup {g : Nat} (hs : s.Holds Q) : (s.idleGroup g).Holds Q :=
  hs.count.set.set.setFlag

theorem Holds.clearRun (hs : s.Holds Q) : s.clearRun.Holds Q :=
  hs.update

theorem Holds.blocksIdle (hs : s.Holds Q) : s.blocksIdle.Holds Q :=
  .showBanks (.set (.setFlag (.setGleanState (.setFlag (.wrN (hs.wrN.wrN.setFlag.setFlag.setFlag.setFlag.each (fun _ _ h5 =>
    h5.setWarm)))))))

theorem Holds.stopRun (hs : s.Holds Q) : s.stopRun.Holds Q :=
  .set (.update (.blocksIdle (.clearRun (.each (.each (.beamStop (hs.spillAll.recomputeAll.addAll.each (fun _ _ h4 => h4.drainGroup)))
    (fun _ _ h7 => h7.idleGroup)) (fun _ _ h9 => h9.finishSt)))))

theorem Holds.execStop (hs : s.Holds Q) : NextHolds Q (execStop s) :=
  .ok (.ite hs.stopRun hs)

/-! ### The functions of Machine/Reset -/

theorem Holds.carried {t : State} {k : Nat × Word → Bool} (hs : s.Holds Q) (hr : t.regs = s.regs.filter k) (hm : t.hbm = []) :
    (s.carried t).Holds Q := by
  have h1 := Q.lost (Q.drop hs.claim k)
  rw [← hr, ← hm] at h1
  exact ⟨h1⟩

theorem Holds.powerReset (hs : s.Holds Q) : s.powerReset.Holds Q :=
  .setFlag (hs.carried (k := fun _ => false) (List.filter_false _).symm rfl)

theorem Holds.showStraps (hs : s.Holds Q) : s.showStraps.Holds Q :=
  hs.setFlag.setFlag

theorem Holds.dacsReset {old : State} {from_ : Nat} (hs : s.Holds Q) : (s.dacsReset old from_).Holds Q := by
  unfold State.dacsReset
  refine .ite hs ?_
  extract_lets +onlyGivenNames s1
  have h1 : s1.Holds Q := hs.each (fun _ _ h2 => h2.dacReset)
  exact .dacSettle (.ite h1 h1.setBit.setBit.setBit)

theorem Holds.fullReset (hs : s.Holds Q) : s.fullReset.Holds Q :=
  .ite hs (hs.carried rfl rfl).showStraps.set.showStore.set.set.setFlag.dacsReset

theorem Holds.islandReset (hs : s.Holds Q) : s.islandReset.Holds Q := by
  unfold State.islandReset
  refine .ite hs.raise ?_
  extract_lets +onlyGivenNames _ _ s1 s2 s3
  have h1 : s1.Holds Q := .ite hs.refStop hs
  have h2 : s2.Holds Q := h1.each fun _ _ h => h.finishSt
  have h3 : s3.Holds Q := h2.filterRegs rfl rfl rfl rfl
  split
  exact .ite h3.timePut.setFlag.dacReset.dacSettle h3.timePut.setFlag

theorem Holds.perst {low : Bool} (hs : s.Holds Q) : (s.perst low).Holds Q :=
  hs.update

theorem Holds.watchdog (hs : s.Holds Q) : s.watchdog.Holds Q := by
  unfold State.watchdog
  refine .ite hs ?_
  extract_lets +onlyGivenNames s1
  have h1 : s1.Holds Q := hs.raise.masterReset
  refine .ite ?_ h1.fullReset
  extract_lets +onlyGivenNames s2
  have h2 : s2.Holds Q := h1.selfFault
  exact .ite h2.update h2.fullReset

theorem Holds.pcieConfig {master relaxed d3 : Bool} {payload request : Nat} (hs : s.Holds Q) : (s.pcieConfig master relaxed d3 payload
    request).Holds Q := by
  unfold State.pcieConfig
  refine .ite hs ?_
  extract_lets +onlyGivenNames _ _ s2
  have h2 : s2.Holds Q := hs.update.setFlag
  exact .ite h2.sendHeld.sendPending h2

theorem Holds.execPwrOkRise {bootSrc ewesenMode twinPref : Bool} (hs : s.Holds Q) : NextHolds Q (execPwrOkRise bootSrc ewesenMode twinPref
    s) := by
  unfold Machine.execPwrOkRise
  refine .ok ?_
  refine .ite hs ?_
  extract_lets +onlyGivenNames _ _ _ s3
  have h3 : s3.Holds Q := hs.update.wrN.showStraps
  exact .ite h3.set h3

theorem Holds.execPwrOkFall (hs : s.Holds Q) : NextHolds Q (execPwrOkFall s) :=
  hs.update.powerReset.ok

theorem Holds.execLoClkLoss (hs : s.Holds Q) : NextHolds Q (execLoClkLoss s) :=
  .ok hs.update.powerReset.wr.showStraps

theorem Holds.execLoClkReturn (hs : s.Holds Q) : NextHolds Q (execLoClkReturn s) := by
  unfold Machine.execLoClkReturn
  refine .ok ?_
  refine .ite hs ?_
  extract_lets +onlyGivenNames _ s1
  have h1 : s1.Holds Q := hs.update
  exact .ite h1.set h1

theorem Holds.execPerstNAssert (hs : s.Holds Q) : NextHolds Q (execPerstNAssert s) :=
  hs.perst.fullReset.ok

theorem Holds.execPerstNRelease (hs : s.Holds Q) : NextHolds Q (execPerstNRelease s) :=
  hs.perst.ok

theorem Holds.execPcieHotReset (hs : s.Holds Q) : NextHolds Q (execPcieHotReset s) :=
  .ok (.ite hs.fullReset hs)

theorem Holds.execPcieLinkDown (hs : s.Holds Q) : NextHolds Q (execPcieLinkDown s) :=
  .ok (.ite hs.fullReset hs)

theorem Holds.execPcieLinkUp {speed : Fin 6} {width : Fin 17} (hs : s.Holds Q) : NextHolds Q (execPcieLinkUp speed width s) :=
  .ok (.ite hs.set.set.setFlag hs)

theorem Holds.execPcieConfigWrite {busMaster relaxed d3hot : Bool} {payload request : Fin 8} (hs : s.Holds Q) : NextHolds Q
    (execPcieConfigWrite busMaster relaxed d3hot payload request s) :=
  hs.pcieConfig.ok

theorem Holds.execGlbCtlReset (hs : s.Holds Q) : NextHolds Q (execGlbCtlReset s) :=
  .ok (.ite hs hs.fullReset)

theorem Holds.execIslandReset (hs : s.Holds Q) : NextHolds Q (execIslandReset s) :=
  .ok (.ite hs hs.islandReset)

theorem Holds.execWatchdogExpiry (hs : s.Holds Q) : NextHolds Q (execWatchdogExpiry s) :=
  hs.watchdog.ok

/-! ### The functions of Machine/Requests -/

theorem Holds.commitStart (hs : s.Holds Q) : s.commitStart.Holds Q :=
  .ite hs.update.setFlag hs

theorem Holds.remapSwap (hs : s.Holds Q) : s.remapSwap.Holds Q :=
  .ite hs.setFlag hs

theorem Holds.bootGo (hs : s.Holds Q) : s.bootGo.Holds Q :=
  .ite hs.setFlag.setFlag hs

theorem Holds.glbCtl {v : Nat} (hs : s.Holds Q) : (s.glbCtl v).Holds Q :=
  .ite hs.fullReset (.ite hs.commitStart (.ite hs.stopRun hs))

theorem Holds.ringCtl {r a v : Nat} (hs : s.Holds Q) : (s.ringCtl r a v).Holds Q := by
  unfold State.ringCtl
  extract_lets +onlyGivenNames _
  refine .ite hs ?_
  refine .ite hs.resetRing.fadesSettle ?_
  extract_lets +onlyGivenNames s1 s2
  have h1 : s1.Holds Q := .ite hs.enableRing hs
  have h2 : s2.Holds Q := .ite h1.pauseRing h1
  exact .ite h2.resumeRing h2

theorem Holds.channelCtl {c v : Nat} (hs : s.Holds Q) : (s.channelCtl c v).Holds Q :=
  .ite hs.abortChannel.fadesSettle (.ite hs.resumeChannel hs)

theorem Holds.refCtl {v : Nat} (hs : s.Holds Q) : (s.refCtl v).Holds Q := by
  unfold State.refCtl
  extract_lets +onlyGivenNames s1
  have h1 : s1.Holds Q := .ite hs hs.refRunWrite
  exact .ite h1 h1.refFreeze

theorem Holds.portReset {m : Nat} {delivered : Option Nat} (hs : s.Holds Q) : (s.portReset m delivered).Holds Q :=
  hs.masterReset.each (fun _ _ h2 => h2.xbarErr.count.update.answered)

theorem Holds.freeWords {n : Nat} (hs : s.Holds Q) : (State.freeWords n s).2.Holds Q := by
  induction n generalizing s with
  | zero => exact hs
  | succ n ih => exact ih (hs.free (n := 2 ^ 32))

theorem Holds.requestLow {w : Writer} {a v : Nat} {d : RegDesc} (hs : s.Holds Q) : (s.requestLow w a v d).Holds Q :=
  .ite hs.glbCtl (.ite (.ite hs.remapSwap hs) (.ite (.ite hs.bootGo hs) (.ite (.ite hs.islandReset hs) (.ite hs.raise (.ite hs.evtEnable
    (.ite (.ite hs.evtArm hs) (.ite hs.eqFreeze (.ite (.ite hs.startScan hs) (.ite hs.placeFreeze (.ite hs.shadowWrite (.ite hs.ringCtl
    hs)))))))))))

theorem Holds.requestHigh {a v : Nat} {d : RegDesc} (hs : s.Holds Q) : (s.requestHigh a v d).Holds Q := by
  unfold State.requestHigh
  extract_lets +onlyGivenNames _
  refine .ite hs.channelCtl ?_
  refine .ite (hs.each (fun _ _ h1 => h1.portReset)) ?_
  refine .ite hs.refCtl ?_
  refine .ite hs.timeFreeze ?_
  refine .ite (.ite hs.adcSingle hs) ?_
  refine .ite (.ite hs.dacStrobe hs) ?_
  refine .ite hs.avsFreeze ?_
  refine .ite ?_ (.ite hs.dbgSubmit (.ite hs.fuseProg hs))
  refine .ite ?_ hs
  split
  · rename_i t1 e
    exact .dbgRequest (.of_snd e hs.freeWords)

theorem Holds.fullWrite {w : Writer} {a v : Nat} (hs : s.Holds Q) : (s.fullWrite w a v).Holds Q := by
  unfold State.fullWrite
  split
  · extract_lets +onlyGivenNames s1
    have h1 : s1.Holds Q := hs.regWrite
    exact .ite h1.requestLow h1.requestHigh
  · exact hs

theorem Holds.matrixWrite {w : Writer} {a v : Nat} (hs : s.Holds Q) : (s.matrixWrite w a v).Holds Q := by
  unfold State.matrixWrite
  refine .ite hs ?_
  split
  · exact hs.decodeError
  · exact .ite hs.fullWrite hs

theorem Holds.matrixRead {m a : Nat} (hs : s.Holds Q) : (s.matrixRead m a).Holds Q := by
  unfold State.matrixRead
  refine .ite hs.execHarrowDcReRead.nextOf (.ite hs.execWeedProbeSkRead.nextOf (.ite hs.execTimeNowNsRead.nextOf
    (.ite hs.execRefBuildoutLoRead.nextOf (.ite hs.execAdcQueueEntryRead.nextOf ?_))))
  split
  · exact .ite hs.execEthStrSeqLoRead.nextOf hs.barRead
  · exact hs.barRead

theorem Holds.execCommit (hs : s.Holds Q) : NextHolds Q (execCommit s) :=
  hs.commitStart.ok

theorem Holds.execGlbRemapSwap (hs : s.Holds Q) : NextHolds Q (execGlbRemapSwap s) :=
  .ok (.ite hs hs.remapSwap)

theorem Holds.execRingReset {ring : Ring} (hs : s.Holds Q) : NextHolds Q (execRingReset ring s) :=
  .ok (.ite hs.resetRing.fadesSettle hs)

theorem Holds.execDmaChAbort {channel : DmaCh} (hs : s.Holds Q) : NextHolds Q (execDmaChAbort channel s) :=
  .ok (.ite hs.abortChannel.fadesSettle hs)

theorem Holds.execGlbBootGo (hs : s.Holds Q) : NextHolds Q (execGlbBootGo s) :=
  hs.bootGo.ok

/-! ### The functions of Machine/Boot -/

theorem Holds.halt (hs : s.Holds Q) : s.halt.Holds Q :=
  hs.set

theorem Holds.applyPair {p : State × Nat} {q : Nat × Nat} (hp : p.1.Holds Q) : (applyPair p q).1.Holds Q :=
  .ite_fst hp.fst_mk hp.fullWrite.fst_mk

theorem Holds.imagePassed {b : List Byte} {source : Nat} (hs : s.Holds Q) : (s.imagePassed b source).Holds Q := by
  unfold State.imagePassed
  extract_lets +onlyGivenNames _ _ _ s1 s2
  have h1 : s1.Holds Q := hs.set.setFlag.wrPair.update
  have h2 : s2.Holds Q := .ite h1.setFlag.setFlag h1
  have h3 : ((imgPairs b).foldl State.applyPair (s2, 0)).1.Holds Q := .foldl_fst (p := (s2, 0)) h2 fun _ _ h4 => h4.applyPair
  exact .ite h3.set.raiseIf.raiseIf.set h3.set.raiseIf.raiseIf

theorem Holds.slotChecked {b : List Byte} {keyGood signatureGood firmwareGood : Bool} (hs : s.Holds Q) : (s.slotChecked b keyGood
    signatureGood firmwareGood).Holds Q :=
  .ite hs (.ite hs.imagePassed (.ite hs.set.update hs.set))

theorem Holds.hostBootEnd {e : Nat} (hs : s.Holds Q) : (s.hostBootEnd e).Holds Q :=
  hs.setFlag.setFlag.set

theorem Holds.hostBootFailed (hs : s.Holds Q) : s.hostBootFailed.Holds Q := by
  unfold State.hostBootFailed
  split
  · rename_i t1 e
    exact .hostBootEnd (.of_snd e hs.free)

theorem Holds.hostImage {image : HostRead} {keyGood signatureGood firmwareGood : Bool} (hs : s.Holds Q) : (s.hostImage image keyGood
    signatureGood firmwareGood).Holds Q := by
  unfold State.hostImage
  refine .ite hs ?_
  refine .ite hs.hostBootEnd ?_
  refine .ite hs.decodeError.hostBootFailed ?_
  split
  · exact hs.count.raise.hostBootFailed
  · exact hs.count.raise.hostBootFailed
  · exact .ite hs.hostBootEnd.imagePassed hs.hostBootEnd

theorem Holds.loadIdentity {corrected : Nat} (hs : s.Holds Q) : (s.loadIdentity corrected).Holds Q := by
  unfold State.loadIdentity
  extract_lets +onlyGivenNames _ _ _ s3
  have h3 : s3.Holds Q := hs.wrN.wrPair.each (fun _ _ h4 => h4.wrN)
  exact .ite h3 h3.set

theorem Holds.loadSeeds (hs : s.Holds Q) : s.loadSeeds.Holds Q := by
  unfold State.loadSeeds
  extract_lets +onlyGivenNames _ _ s3
  have h5 : s3.Holds Q := .each (.each (hs.each (fun _ _ h2 => h2.set.set)) (fun _ _ h4 => h4.set)) (fun _ _ h6 => h6.set.set)
  exact .ite h5 h5.update.timePut

theorem Holds.loadFurrows (hs : s.Holds Q) : s.loadFurrows.Holds Q :=
  hs.each (fun _ _ h1 => .ite h1.set.set (.ite h1.set h1))

theorem Holds.fusesLoaded {corrected : Nat} (hs : s.Holds Q) : (s.fusesLoaded corrected).Holds Q := by
  unfold State.fusesLoaded
  extract_lets +onlyGivenNames s1
  have h1 : s1.Holds Q := hs.loadIdentity.loadSeeds.loadFurrows
  exact .update (.set (.ite h1 h1.update.dacPowerUp))

theorem Holds.firmwareFailed {cause : Nat} (hs : s.Holds Q) : (s.firmwareFailed cause).Holds Q :=
  hs.set.setFlag.halt

theorem Holds.stackTrained {st : Nat} {good : Bool} {attempts : Nat} (hs : s.Holds Q) : (s.stackTrained st good attempts).Holds Q := by
  unfold State.stackTrained
  extract_lets +onlyGivenNames _ s1
  have h1 : s1.Holds Q := hs.setFlag.set
  exact .ite h1.set h1.raise

theorem Holds.trainingEnd {results : List (Bool × Nat)} (hs : s.Holds Q) : (s.trainingEnd results).Holds Q :=
  .set (.setFlag (hs.each (fun _ _ h2 => h2.stackTrained)))

theorem Holds.becomeReady (hs : s.Holds Q) : s.becomeReady.Holds Q := by
  unfold State.becomeReady
  extract_lets +onlyGivenNames _ _ _ _ _ s4
  have h4 : s4.Holds Q := hs.update.set.setFlag.set.raise
  exact .ite h4.commitStart h4

theorem Holds.execFuseStageEnd {corrected : Fin 256} {uncorrectable : Bool} (hs : s.Holds Q) : NextHolds Q (execFuseStageEnd corrected
    uncorrectable s) :=
  .ok (.ite hs (.ite hs.setFlag.halt hs.fusesLoaded))

theorem Holds.execConfigImageChecked {image : List Byte} {keyGood signatureGood firmwareGood : Bool} (hs : s.Holds Q) : NextHolds Q
    (execConfigImageChecked image keyGood signatureGood firmwareGood s) :=
  hs.slotChecked.ok

theorem Holds.execHostImageReadEnd {image : HostRead} {keyGood signatureGood firmwareGood : Bool} (hs : s.Holds Q) : NextHolds Q
    (execHostImageReadEnd image keyGood signatureGood firmwareGood s) :=
  hs.hostImage.ok

theorem Holds.execFirmwareStarted {version : BitVec 16} {copyGood selfTestGood : Bool} (hs : s.Holds Q) : NextHolds Q (execFirmwareStarted
    version copyGood selfTestGood s) :=
  .ok (.ite hs (.ite hs.firmwareFailed (.ite hs.firmwareFailed hs.update.remapSwap.wrN.set)))

theorem Holds.execFirmwareTimeout (hs : s.Holds Q) : NextHolds Q (execFirmwareTimeout s) :=
  .ok (.ite hs.firmwareFailed hs)

theorem Holds.execHbmTrainingEnd {results : List (Bool × Fin 4)} (hs : s.Holds Q) : NextHolds Q (execHbmTrainingEnd results s) :=
  .ok (.ite hs.trainingEnd hs)

theorem Holds.execLanesStageEnd {failed : BitVec 12} (hs : s.Holds Q) : NextHolds Q (execLanesStageEnd failed s) :=
  .ok (.ite hs.update.becomeReady hs)

/-! ### The functions of Machine/Checks -/

theorem Holds.commitResults {t : State} (hs : s.Holds Q) : (s.commitResults t).Holds Q :=
  .set (hs.set.set.set.set.set.set.set.setFlag.each (fun _ _ h9 => h9.set.set))

/-! ### The functions of Machine/Weave -/

theorem Holds.helloArrived {k : Nat} {m : List Byte} (hs : s.Holds Q) : (s.helloArrived k m).Holds Q := by
  unfold State.helloArrived
  extract_lets +onlyGivenNames _ _ s1
  have h1 : s1.Holds Q := hs.update
  exact .ite h1 (.ite h1.showWeave h1.digestDiffers)

theorem Holds.measureDelay {fine : Nat} (hs : s.Holds Q) : (s.measureDelay fine).Holds Q := by
  unfold State.measureDelay
  split
  · exact hs
  · exact .ite hs hs.update.sendVc0

theorem Holds.answerDelay {k fine : Nat} {m : List Byte} (hs : s.Holds Q) : (s.answerDelay k fine m).Holds Q :=
  .ite hs hs.sendVc0

theorem Holds.showDelay (hs : s.Holds Q) : s.showDelay.Holds Q := by
  unfold State.showDelay
  extract_lets +onlyGivenNames _ _ _
  split
  · rename_i t1 e
    exact .set (.of_snd e (.ite_snd hs hs.free))

theorem Holds.delayAnswered {fine : Nat} {m : List Byte} (hs : s.Holds Q) : (s.delayAnswered fine m).Holds Q := by
  unfold State.delayAnswered
  split
  · exact hs
  · exact .ite hs hs.update.showDelay

theorem Holds.sendMarks (hs : s.Holds Q) : s.sendMarks.Holds Q :=
  .ite (hs.each (fun _ _ h1 => by
    split
    · exact h1.sendVc0
    · exact h1)) hs

theorem Holds.markArrived {k fine : Nat} (hs : s.Holds Q) : (s.markArrived k fine).Holds Q :=
  .ite hs.update hs

theorem Holds.unitArrived {k : Nat} {m : List Byte} {backlog : Nat} (hs : s.Holds Q) : (s.unitArrived k m backlog).Holds Q := by
  unfold State.unitArrived
  extract_lets +onlyGivenNames _ _ s2
  have h2 : s2.Holds Q := hs.count.relayUnit
  exact .ite h2.storeUnit.forceFull h2

theorem Holds.masksArrived {m : List Byte} (hs : s.Holds Q) : (s.masksArrived m).Holds Q := by
  unfold State.masksArrived
  extract_lets +onlyGivenNames _ _ late s1
  have h1 : s1.Holds Q := hs.addChange
  clear_value late
  split
  · exact h1
  · exact h1.count.raise

theorem Holds.onMsg {k vc type : Nat} {f : List Byte → State → State} (hs : s.Holds Q) (hf : ∀ a1 t, State.Holds Q t → State.Holds Q (f a1
    t)) : (s.onMsg k vc type f).Holds Q := by
  unfold State.onMsg
  split
  · rename_i t1 e
    exact hf _ _ (hs.takeMsg e)
  · exact hs

theorem Holds.onVc0 {k type : Nat} {f : List Byte → State → State} (hs : s.Holds Q) (hf : ∀ a1 t, State.Holds Q t → State.Holds Q (f a1
    t)) : (s.onVc0 k type f).Holds Q := by
  unfold State.onVc0
  split
  · rename_i t1 e
    exact hf _ _ (hs.takeVc0 e)
  · exact hs

theorem Holds.execWeaveHello {link : Link} (hs : s.Holds Q) : NextHolds Q (execWeaveHello link s) :=
  .ok (hs.onMsg (fun _ _ h1 => h1.helloArrived))

theorem Holds.execDelayMeasure {fine : Fin 400} (hs : s.Holds Q) : NextHolds Q (execDelayMeasure fine s) :=
  hs.measureDelay.ok

theorem Holds.execDelayReq {link : Link} {fine : Fin 400} (hs : s.Holds Q) : NextHolds Q (execDelayReq link fine s) :=
  .ok (hs.onVc0 (fun _ _ h1 => h1.answerDelay))

theorem Holds.execDelayResp {link : Link} {fine : Fin 400} (hs : s.Holds Q) : NextHolds Q (execDelayResp link fine s) :=
  .ok (hs.onVc0 (fun _ _ h1 => h1.delayAnswered))

theorem Holds.execPulseMarkDue (hs : s.Holds Q) : NextHolds Q (execPulseMarkDue s) :=
  hs.sendMarks.ok

theorem Holds.execPulseMark {link : Link} {fine : Fin 400} (hs : s.Holds Q) : NextHolds Q (execPulseMark link fine s) :=
  .ok (hs.onVc0 (fun _ _ h1 => h1.markArrived))

theorem Holds.execForwardedUnit {link : Link} {gleanBacklog : Nat} (hs : s.Holds Q) : NextHolds Q (execForwardedUnit link gleanBacklog s) :=
  .ok (hs.onMsg (fun _ _ h1 => h1.unitArrived))

theorem Holds.execMaskUpdate {link : Link} (hs : s.Holds Q) : NextHolds Q (execMaskUpdate link s) :=
  .ok (hs.onMsg (fun _ _ h1 => .ite h1.masksArrived h1))

theorem Holds.execWeederMessage {arrival : WeederArrival} (hs : s.Holds Q) : NextHolds Q (execWeederMessage arrival s) :=
  .ok (hs.onMsg (fun _ _ h1 => .ite h1.weederMsg h1))

theorem Holds.execWeaveStatusDue (hs : s.Holds Q) : NextHolds Q (execWeaveStatusDue s) :=
  .ok (.ite (hs.each (fun _ _ h1 => h1.weaveVc)) hs)

theorem Holds.execWeaveStatusMessage {link : Link} (hs : s.Holds Q) : NextHolds Q (execWeaveStatusMessage link s) :=
  .ok (hs.onMsg (fun _ _ h1 => .ite h1.statusArrived.settleHolds h1))

theorem Holds.execGranRelay {link : Link} (hs : s.Holds Q) : NextHolds Q (execGranRelay link s) :=
  .ok (hs.onMsg (fun _ _ h1 => .ite h1.granRelayed h1))

/-! ### The functions of Machine/Twin -/

theorem Holds.split (hs : s.Holds Q) : s.split.Holds Q :=
  .ite hs hs.setFlag.raise

theorem Holds.twinCommit (hs : s.Holds Q) : s.twinCommit.Holds Q := by
  unfold State.twinCommit
  extract_lets +onlyGivenNames _ _ _ _ s2
  have h2 : s2.Holds Q := hs.update.wrN
  exact .ite h2.update (.ite h2.takeRole.showPeer.showLinks (.ite h2.takeRole.showPeer.showLinks h2.update.showPeer.showLinks))

theorem Holds.meetPartner {active : Bool} (hs : s.Holds Q) : (s.meetPartner active).Holds Q :=
  .ite (.ite hs.update.takeRole hs) (.ite hs.takeRole hs)

theorem Holds.stopYielded (hs : s.Holds Q) : s.stopYielded.Holds Q :=
  .ite hs (.ite hs.update.setFlag.takeRole hs.update)

theorem Holds.prefConflict (hs : s.Holds Q) : s.prefConflict.Holds Q :=
  .ite hs.update.setFlag.raise hs

theorem Holds.bothActive {byLink : Bool} (hs : s.Holds Q) : (s.bothActive byLink).Holds Q :=
  .ite hs (.ite hs.split.yieldNow hs.split)

theorem Holds.heartbeatArrived {m : List Byte} (hs : s.Holds Q) : (s.heartbeatArrived m).Holds Q := by
  unfold State.heartbeatArrived
  extract_lets +onlyGivenNames _ _ _ s1
  have h1 : s1.Holds Q := hs.update
  refine .ite h1.showPeer ?_
  extract_lets +onlyGivenNames s2
  have h2 : s2.Holds Q := h1.prefConflict
  exact .showPeer (.meetPartner (.ite h2.bothActive h2.setFlag))

theorem Holds.waveSeen {w : Nat} (hs : s.Holds Q) : (s.waveSeen w).Holds Q := by
  unfold State.waveSeen
  extract_lets +onlyGivenNames _ _ s1
  have h1 : s1.Holds Q := hs.update
  refine .ite h1.showPeer ?_
  extract_lets +onlyGivenNames s2
  have h2 : s2.Holds Q := .ite h1.stopYielded.bothActive h1
  exact .showPeer (.ite h2 h2.meetPartner)

theorem Holds.sendProgress (hs : s.Holds Q) : s.sendProgress.Holds Q :=
  .ite (.update (hs.each (fun _ _ h2 => h2.twinVc0))) hs

theorem Holds.sweepCovered (hs : s.Holds Q) : s.sweepCovered.Holds Q :=
  hs.update.recordsWritten

theorem Holds.progressArrived {m : List Byte} (hs : s.Holds Q) : (s.progressArrived m).Holds Q :=
  .ite hs hs.update.sweepCovered

theorem Holds.resendRetained (hs : s.Holds Q) : s.resendRetained.Holds Q :=
  .count (.update (hs.each (fun _ _ h2 => .ite h2.setPort h2.count)))

theorem Holds.takeOver {cause : Nat} (hs : s.Holds Q) : (s.takeOver cause).Holds Q :=
  hs.setFlag.takeRole.twinVc0.raise.count.sweepCovered.sendHeld.resendRetained.raiseIf.update.showPeer

theorem Holds.yieldArrived {m : List Byte} (hs : s.Holds Q) : (s.yieldArrived m).Holds Q := by
  unfold State.yieldArrived
  extract_lets +onlyGivenNames _ s1
  have h1 : s1.Holds Q := hs.update
  exact .ite h1.takeOver (.ite h1.update.takeRole h1)

theorem Holds.lostPartner {runs : Bool} (hs : s.Holds Q) : (s.lostPartner runs).Holds Q := by
  unfold State.lostPartner
  refine .ite hs ?_
  extract_lets +onlyGivenNames _ _ s1 s2
  have h1 : s1.Holds Q := hs.update.count.showPeer
  have h2 : s2.Holds Q := .ite h1.takeOver.raise h1
  exact .ite h2.split h2

theorem Holds.onTwin0 {type : Nat} {f : List Byte → State → State} (hs : s.Holds Q) (hf : ∀ a1 t, State.Holds Q t → State.Holds Q (f a1
    t)) : (s.onTwin0 type f).Holds Q := by
  unfold State.onTwin0
  split
  · exact hs.onVc0 hf
  · exact hs

theorem Holds.onTwin {vc type : Nat} {f : List Byte → State → State} (hs : s.Holds Q) (hf : ∀ a1 t, State.Holds Q t → State.Holds Q (f a1
    t)) : (s.onTwin vc type f).Holds Q := by
  unfold State.onTwin
  split
  · exact hs.onMsg hf
  · exact hs

theorem Holds.yieldCommand {ref : CmdRef} (hs : s.Holds Q) : (s.yieldCommand ref).Holds Q :=
  .ite hs.update.yieldNow hs.finishSt

theorem Holds.execHeartbeatDue (hs : s.Holds Q) : NextHolds Q (execHeartbeatDue s) :=
  .ok (.ite hs.twinVc0 hs)

theorem Holds.execHeartbeat (hs : s.Holds Q) : NextHolds Q (execHeartbeat s) :=
  .ok (hs.onTwin0 (fun _ _ h1 => h1.heartbeatArrived))

theorem Holds.execProgressDue (hs : s.Holds Q) : NextHolds Q (execProgressDue s) :=
  hs.sendProgress.ok

theorem Holds.execProgress (hs : s.Holds Q) : NextHolds Q (execProgress s) :=
  .ok (hs.onTwin0 (fun _ _ h1 => h1.progressArrived))

theorem Holds.execYield (hs : s.Holds Q) : NextHolds Q (execYield s) :=
  .ok (hs.onTwin0 (fun _ _ h1 => h1.yieldArrived))

theorem Holds.execReclaim (hs : s.Holds Q) : NextHolds Q (execReclaim s) :=
  .ok (hs.onTwin0 (fun _ _ h1 => .ite h1.yieldNow h1))

theorem Holds.execReleaseRecord (hs : s.Holds Q) : NextHolds Q (execReleaseRecord s) :=
  .ok (hs.onTwin (fun _ _ h1 => .ite h1.update h1))

theorem Holds.execCommandPoint (hs : s.Holds Q) : NextHolds Q (execCommandPoint s) :=
  .ok (hs.onTwin (fun _ _ h1 => .ite h1.update h1))

theorem Holds.execStateBlock (hs : s.Holds Q) : NextHolds Q (execStateBlock s) :=
  .ok (hs.onTwin (fun _ _ h1 => h1.stateBlock))

theorem Holds.execConfigUpdateRetry (hs : s.Holds Q) : NextHolds Q (execConfigUpdateRetry s) :=
  .ok (.ite hs hs.update)

theorem Holds.execTwinYieldNLow (hs : s.Holds Q) : NextHolds Q (execTwinYieldNLow s) :=
  .ok (.ite hs.update.takeOver hs)

theorem Holds.execPeerHealthWave {wave : Fin 3} (hs : s.Holds Q) : NextHolds Q (execPeerHealthWave wave s) :=
  hs.waveSeen.ok

theorem Holds.execYieldTimeout (hs : s.Holds Q) : NextHolds Q (execYieldTimeout s) :=
  hs.stopYielded.ok

theorem Holds.execPeerLost {partnerRuns : Bool} (hs : s.Holds Q) : NextHolds Q (execPeerLost partnerRuns s) :=
  hs.lostPartner.ok

theorem Holds.execSoloTimeout (hs : s.Holds Q) : NextHolds Q (execSoloTimeout s) :=
  .ok (.ite hs.update.takeRole hs)

theorem Holds.execIngestLossTimeout {link : Fin 64} (hs : s.Holds Q) : NextHolds Q (execIngestLossTimeout link s) :=
  .ok (.ite hs.selfFault hs)

theorem Holds.execTwinYield {src : CmdSrc} (hs : s.Holds Q) : NextHolds Q (execTwinYield src s) :=
  .ok (hs.runCommand (fun _ _ _ _ h1 => h1.yieldCommand))

/-! ### The functions of Machine/Commit -/

theorem Holds.commitSettings {t : State} (hs : s.Holds Q) : (s.commitSettings t).Holds Q := by
  unfold State.commitSettings
  extract_lets +onlyGivenNames _ _ s1 _ _ _ _ s2 _ _
  have h1 : s1.Holds Q := hs.set.set.setFlag
  clear_value s1
  exact h1.filterRegs (k := fun e => !runReg e.1) rfl rfl rfl rfl

theorem Holds.commitPtp (hs : s.Holds Q) : s.commitPtp.Holds Q := by
  unfold State.commitPtp
  extract_lets +onlyGivenNames _
  refine .ite hs ?_
  extract_lets +onlyGivenNames _ _ _ _ _ s1 s2
  have h1 : s1.Holds Q := hs.update
  have h2 : s2.Holds Q := .ite h1.timePut.wrN h1
  exact .ite h2.wrN h2

theorem Holds.commitFurrow {f : Nat} (hs : s.Holds Q) : (s.commitFurrow f).Holds Q := by
  unfold State.commitFurrow
  split
  · exact hs.furTo.set.setFlag.set

theorem Holds.commitArray {t : State} (hs : s.Holds Q) : (s.commitArray t).Holds Q := by
  unfold State.commitArray
  extract_lets +onlyGivenNames _ _ _ _ _ s5
  have h6 : s5.Holds Q := .showMapping (.update (hs.wrN.set.each (fun _ _ h4 => h4.commitFurrow)))
  exact .ite h6.checkSpares h6.wr

theorem Holds.commitSlots (hs : s.Holds Q) : s.commitSlots.Holds Q :=
  hs.each (fun _ _ h1 => h1.setSlot)

theorem Holds.commitGroups (hs : s.Holds Q) : s.commitGroups.Holds Q :=
  hs.each (fun _ _ h1 => by
    extract_lets +onlyGivenNames _ s1
    have h2 : s1.Holds Q := h1.wrN.wrN.wrN
    exact .ite h2.setGrp.set h2)

theorem Holds.commitGlean (hs : s.Holds Q) : s.commitGlean.Holds Q := by
  unfold State.commitGlean
  extract_lets +onlyGivenNames s1
  have h1 : s1.Holds Q := .ite hs.judgeShadow hs
  exact .ite h1.wrN.wrN.setGleanState h1

theorem Holds.commitPort {p rate : Nat} (hs : s.Holds Q) : (s.commitPort p rate).Holds Q :=
  .ite hs.setPort.set hs.setPort

theorem Holds.commitEgress (hs : s.Holds Q) : s.commitEgress.Holds Q :=
  .update (hs.update.each (fun _ _ h3 => h3.commitPort))

theorem Holds.commitChannels (hs : s.Holds Q) : s.commitChannels.Holds Q :=
  hs.each (fun _ _ h1 => h1.setChan)

theorem Holds.lanesWait {k : Nat} (hs : s.Holds Q) : (s.lanesWait k).Holds Q :=
  hs.each (fun _ _ h1 => .ite h1.laneTo h1)

theorem Holds.commitLink {starts : List Nat} {k : Nat} (hs : s.Holds Q) : (State.commitLink starts s k).Holds Q := by
  unfold State.commitLink
  refine .ite ?_ (.ite hs.lanesWait.linkTo.setLink hs)
  refine .ite ?_ hs
  extract_lets +onlyGivenNames _ _ s2
  have h2 : s2.Holds Q := hs.setLink.latchLink.lanesWait.linkTo
  exact .ite h2.setLink h2

theorem Holds.commitLanes (hs : s.Holds Q) : s.commitLanes.Holds Q :=
  .each (.each (hs.each (fun _ _ h3 => .ite h3 h3.laneOff)) (fun _ _ h5 => h5.laneAdapt)) (fun _ _ h6 => h6.commitLink)

theorem Holds.commitWeave (hs : s.Holds Q) : s.commitWeave.Holds Q := by
  unfold State.commitWeave
  extract_lets +onlyGivenNames s1
  have h1 : s1.Holds Q := hs.wrN
  exact .showLinks (.each (.each (.ite h1 h1.set) (fun _ _ h4 => h4.sendHello)) (fun _ _ h5 => h5.digestDiffers))

theorem Holds.commitNow (hs : s.Holds Q) : s.commitNow.Holds Q := by
  unfold State.commitNow
  extract_lets +onlyGivenNames _ _ _ _ s1
  have h1 : s1.Holds Q := hs.clearRun.blocksIdle.commitSettings.latchUnit.commitPtp.update
  exact h1.commitArray.commitSlots.commitGroups.commitGlean.setFlag.commitEgress.commitChannels.commitLanes.commitWeave.twinCommit.set

theorem Holds.checksEnd (hs : s.Holds Q) : s.checksEnd.Holds Q := by
  unfold State.checksEnd
  extract_lets +onlyGivenNames _ _ _ _ s3
  have h3 : s3.Holds Q := hs.update.setFlag.commitResults
  split
  · exact h3.wrN.commitNow
  · exact h3.set.set.set.count.raise

theorem Holds.execCommitChecksEnd (hs : s.Holds Q) : NextHolds Q (execCommitChecksEnd s) :=
  .ok (.ite hs.checksEnd hs)

/-! ### The functions of Machine/Hbm -/

theorem Holds.ageQueues {p elapsed : Nat} (hs : s.Holds Q) : (s.ageQueues p elapsed).Holds Q :=
  .setPc (hs.each (fun _ _ h2 => h2.count))

theorem Holds.readDone {q : Queued} (hs : s.Holds Q) : (s.readDone q).Holds Q := by
  unfold State.readDone
  split
  · exact hs.respond
  · exact hs

theorem Holds.enterQueue {p : Nat} {q : Queued} (hs : s.Holds Q) : (s.enterQueue p q).Holds Q :=
  .ite (.queueWrite (.ite hs hs.strobeWrite)) (.ite hs.readDone hs.setPc)

theorem Holds.takeIn {p : Nat} {blocked : List Nat} {l : List Queued} (hs : s.Holds Q) : (s.takeIn p blocked l).Holds Q := by
  induction l generalizing s blocked with
  | nil => exact hs
  | cons q t ih => exact .ite (ih hs.setPc) (ih hs.enterQueue)

theorem Holds.arrive {p : Nat} {l : List Queued} (hs : s.Holds Q) : (s.arrive p l).Holds Q :=
  hs.setPc.takeIn

theorem Holds.issueRefresh {p bank : Nat} (hs : s.Holds Q) : (s.issueRefresh p bank).Holds Q :=
  hs.setPc

theorem Holds.countActivate {p bank : Nat} (hs : s.Holds Q) : (s.countActivate p bank).Holds Q :=
  hs.setPc

theorem Holds.issueRfm {p bank : Nat} (hs : s.Holds Q) : (s.issueRfm p bank).Holds Q :=
  hs.setPc

theorem Holds.nbrDraw {p : Nat} (hs : s.Holds Q) : (s.nbrDraw p).2.Holds Q := by
  unfold State.nbrDraw
  split
  · rename_i t1 e
    have h1 : t1.Holds Q := by
      exact .of_snd e (.ite_snd (by
        split
        · rename_i t2 e
          exact .of_snd e hs.free) hs)
    exact h1.setPc

theorem Holds.activate {p : Nat} {m : HbmPlace} (hs : s.Holds Q) : (s.activate p m).Holds Q := by
  unfold State.activate
  extract_lets +onlyGivenNames _ _ s2
  have h2 : s2.Holds Q := hs.countActivate.setPc
  refine .ite ?_ h2
  split
  · rename_i t3 e
    have h3 : t3.Holds Q := .of_snd e h2.nbrDraw
    exact .ite (.ite h3.issueRfm.count h3.setPc) h3

theorem Holds.issueRequest {p : Nat} {q : Queued} (hs : s.Holds Q) : (s.issueRequest p q).Holds Q := by
  unfold State.issueRequest
  extract_lets +onlyGivenNames _ s1
  have h1 : s1.Holds Q := .ite hs hs.activate
  exact .ite h1.setPc.peak h1.setPc

theorem Holds.refreshNeighbours {p bank row : Nat} (hs : s.Holds Q) : (s.refreshNeighbours p bank row).Holds Q :=
  .count (.setPc (hs.each (fun _ _ h2 => h2.countActivate)))

theorem Holds.idleSlot {p : Nat} (hs : s.Holds Q) : (s.idleSlot p).Holds Q := by
  unfold State.idleSlot
  extract_lets +onlyGivenNames _
  split
  · exact hs.setPc.refreshNeighbours
  · split
    · exact hs.issueRefresh
    · exact hs

theorem Holds.commandSlot {p elapsed : Nat} {parts : List HbmPart} (hs : s.Holds Q) : (s.commandSlot p elapsed parts).Holds Q := by
  unfold State.commandSlot
  extract_lets +onlyGivenNames _ s2 _
  have h2 : s2.Holds Q := hs.ageQueues.arrive
  split
  · exact h2.issueRefresh
  · extract_lets +onlyGivenNames _ _ _ s3 _ _
    have h3 : s3.Holds Q := h2.setPc
    split
    · exact h3.issueRequest
    · exact h3.idleSlot

theorem Holds.hbmCe {p a : Nat} (hs : s.Holds Q) : (s.hbmCe p a).Holds Q :=
  .ite hs.setPc.raise hs

theorem Holds.symbolsSeen {n : Nat} (hs : s.Holds Q) : (s.symbolsSeen n).2.Holds Q := by
  unfold State.symbolsSeen
  refine .ite_snd hs ?_
  split
  · rename_i t1 e
    exact .of_snd e hs.free

theorem Holds.writeBack {burst port : Nat} (hs : s.Holds Q) : (s.writeBack burst port).Holds Q :=
  .ite hs hs.sendDone

theorem Holds.readCorrected {p burst port : Nat} (hs : s.Holds Q) : (s.readCorrected p burst port).Holds Q :=
  hs.count.hbmCe.writeBack

theorem Holds.readPoisoned {q : Queued} {burst : Nat} (hs : s.Holds Q) : (s.readPoisoned q burst).Holds Q := by
  unfold State.readPoisoned
  extract_lets +onlyGivenNames s1
  have h1 : s1.Holds Q := hs.poisonBurst
  exact .ite h1.rmwPoison h1.count.hbmUe

theorem Holds.symbolsAt {burst n : Nat} (hs : s.Holds Q) : (s.symbolsAt burst n).2.Holds Q :=
  hs.symbolsSeen

theorem Holds.readErrors {p : Nat} {q : Queued} {e : ReadErrors} (hs : s.Holds Q) : (s.readErrors p q e).Holds Q := by
  unfold State.readErrors
  extract_lets +onlyGivenNames s1 _ _
  have h1 : s1.Holds Q := hs.count
  refine .ite h1 ?_
  split
  · rename_i t2 e
    have h2 : t2.Holds Q := .of_snd e h1.symbolsAt
    refine .ite h2 ?_
    refine .ite (.ite h2.count.hbmCe h2.readCorrected) ?_
    split
    · rename_i t3 e
      have h3 : t3.Holds Q := .of_snd e h2.symbolsAt
      exact .ite h3.count h3.readPoisoned

theorem Holds.readData' {p elapsed : Nat} {e : ReadErrors} (hs : s.Holds Q) : (s.readData' p elapsed e).Holds Q := by
  unfold State.readData'
  extract_lets +onlyGivenNames _
  split
  · exact hs
  · extract_lets +onlyGivenNames s1
    have h1 : s1.Holds Q := hs.setPc
    exact .ite h1.readErrors h1.peak.readErrors.readDone

theorem Holds.parityError {burst port : Nat} (hs : s.Holds Q) : (s.parityError burst port).Holds Q :=
  .ite hs.update.count hs.update.poisonBurst.count.hbmUe

theorem Holds.stackTemp {k : Nat} {t : Int} (hs : s.Holds Q) : (s.stackTemp k t).Holds Q := by
  unfold State.stackTemp
  extract_lets +onlyGivenNames _ _ _ _ _ s4
  have h4 : s4.Holds Q := hs.set.set.raiseIf.set
  exact .ite h4.thermalTrip h4

theorem Holds.scrub {e : ReadErrors} (hs : s.Holds Q) : (s.scrub e).Holds Q := by
  unfold State.scrub
  refine .ite ?_ hs
  extract_lets +onlyGivenNames _ _ _ _
  split
  · rename_i t3 e
    have h3 : t3.Holds Q := .of_snd e hs.update.count.symbolsAt
    refine .ite h3 ?_
    refine .ite h3.count.writeBack ?_
    split
    · rename_i t4 e
      have h4 : t4.Holds Q := .of_snd e h3.symbolsAt
      exact .ite h4.count h4.hbmUe

theorem Holds.execHbmCommandSlot {pc : Fin 192} {elapsed : Nat} {parts : List HbmPart} (hs : s.Holds Q) : NextHolds Q (execHbmCommandSlot
    pc elapsed parts s) :=
  hs.commandSlot.ok

theorem Holds.execHbmReadData {pc : Fin 192} {elapsed : Nat} {errors : ReadErrors} (hs : s.Holds Q) : NextHolds Q (execHbmReadData pc
    elapsed errors s) :=
  hs.readData'.ok

theorem Holds.execHbmParityError {report : ParityReport} (hs : s.Holds Q) : NextHolds Q (execHbmParityError report s) :=
  hs.parityError.ok

theorem Holds.execRefreshDue {pc : Fin 192} {bank : Fin 48} (hs : s.Holds Q) : NextHolds Q (execRefreshDue pc bank s) :=
  .ok hs.setPc

theorem Holds.execHbmTempRead {stack : Fin 6} {celsius : Int} (hs : s.Holds Q) : NextHolds Q (execHbmTempRead stack celsius s) :=
  hs.stackTemp.ok

theorem Holds.execScrubRead {errors : ReadErrors} (hs : s.Holds Q) : NextHolds Q (execScrubRead errors s) :=
  hs.scrub.ok

/-! ### The functions of Machine/TwinCfg -/

theorem Holds.takenArrived (hs : s.Holds Q) : s.takenArrived.Holds Q := by
  unfold State.takenArrived
  extract_lets +onlyGivenNames _ _ _ s2
  have h2 : s2.Holds Q := hs.update.stopYielded.each (fun _ _ h3 => h3.finishSt)
  exact .ite h2.fullReset h2

theorem Holds.applyConfig {blocks : List (Nat × List Byte)} (hs : s.Holds Q) : (s.applyConfig blocks).Holds Q := by
  unfold State.applyConfig
  extract_lets +onlyGivenNames _ _ s1
  have h1 : s1.Holds Q := hs.update
  exact .ite h1 (.commitStart (.each (.ite h1.stopRun h1) (fun _ _ h3 => h3.fullWrite)))

theorem Holds.configBlock {b : List Byte} (hs : s.Holds Q) : (s.configBlock b).Holds Q := by
  unfold State.configBlock
  extract_lets +onlyGivenNames _ _ _
  refine .ite hs ?_
  extract_lets +onlyGivenNames _
  refine .ite hs ?_
  extract_lets +onlyGivenNames _ _ s1
  have h1 : s1.Holds Q := hs.update
  exact .ite h1.applyConfig h1

theorem Holds.execTaken (hs : s.Holds Q) : NextHolds Q (execTaken s) :=
  .ok (hs.onTwin0 (fun _ _ h1 => h1.takenArrived))

theorem Holds.execConfigUpdateBlock (hs : s.Holds Q) : NextHolds Q (execConfigUpdateBlock s) :=
  .ok (hs.onTwin (fun _ _ h1 => h1.configBlock))

/-! ### The functions of Machine/Xbar -/

theorem Holds.completeBurst {t : Nat} {r : MatrixReq} (hs : s.Holds Q) : (s.completeBurst t r).Holds Q :=
  .ite hs.arrive.respond (.ite hs.update.respond (.ite hs.matrixOut.respond hs.respond))

theorem Holds.endActive {t : Nat} (hs : s.Holds Q) : (s.endActive t).Holds Q :=
  hs.update.each (fun _ _ h2 => h2.completeBurst)

theorem Holds.registerAccess {r : MatrixReq} {a : Nat} (hs : s.Holds Q) : (s.registerAccess r a).Holds Q := by
  unfold State.registerAccess
  extract_lets +onlyGivenNames _ _
  refine .ite hs.matrixWrite.respond ?_
  extract_lets +onlyGivenNames s1
  have h1 : s1.Holds Q := hs.matrixRead
  exact .respond (.ite h1.update h1)

theorem Holds.defaultTarget {r : MatrixReq} (hs : s.Holds Q) : (s.defaultTarget r).Holds Q := by
  unfold State.defaultTarget
  extract_lets +onlyGivenNames s1
  have h1 : s1.Holds Q := hs.decodeError
  exact .ite h1.update.respond h1.respond

theorem Holds.datapathError {r : MatrixReq} (hs : s.Holds Q) : (s.datapathError r).Holds Q :=
  hs.xbarErr.setFlag.count.raise.respond

theorem Holds.granted {t : Nat} {r : MatrixReq} (hs : s.Holds Q) : (s.granted t r).Holds Q := by
  unfold State.granted
  split
  · exact .ite hs.defaultTarget (.ite hs.registerAccess (.ite hs.update (.ite hs.respond (.ite hs.respond (.ite (.ite hs.hostRead
    hs.respond) hs.arrive)))))

theorem Holds.matrixGrantAt {t : Nat} {arrivals : List MatrixReq} {ecc : Secded} (hs : s.Holds Q) : (s.matrixGrantAt t arrivals ecc).Holds
    Q := by
  unfold State.matrixGrantAt
  extract_lets +onlyGivenNames _ _ _ _ s2
  have h2 : s2.Holds Q := .update (.ite hs hs.endActive)
  split
  · exact h2
  · extract_lets +onlyGivenNames _ s3
    have h3 : s3.Holds Q := h2.update
    split
    · exact h3.datapathError
    · exact h3.count.granted
    · exact h3.granted

theorem Holds.execMatrixGrant {target : Fin 17} {arrivals : List MatrixReq} {ecc : Secded} (hs : s.Holds Q) : NextHolds Q (execMatrixGrant
    target arrivals ecc s) :=
  hs.matrixGrantAt.ok

theorem Holds.execMatrixPromotion {req : WaitingReq} (hs : s.Holds Q) : NextHolds Q (execMatrixPromotion req s) :=
  hs.update.ok

theorem Holds.execXbarMrst {ports : BitVec 24} {delivered : Nat} (hs : s.Holds Q) : NextHolds Q (execXbarMrst ports delivered s) :=
  .ok (.ite (hs.each (fun _ _ h1 => h1.portReset)) hs)

/-! ### The functions of Machine/Dispatch -/

/-- Every command completes and keeps the claim, FUSE_PROG_END where the claim does not turn on the fuses. -/
theorem Holds.exec {i : Instr} (hs : s.Holds Q) (hf : ∀ good, i = .fuseProgEnd good → ∀ f, Q.of s.pending f s.regs s.hbm) :
    NextHolds Q (exec i s) := by
  cases i with
  | registerWrite => exact hs.execRegisterWrite
  | rcRead => exact hs.execRcRead
  | harrowDcReRead => exact hs.execHarrowDcReRead
  | weedProbeSkRead => exact hs.execWeedProbeSkRead
  | timeNowNsRead => exact hs.execTimeNowNsRead
  | ethStrSeqLoRead => exact hs.execEthStrSeqLoRead
  | refBuildoutLoRead => exact hs.execRefBuildoutLoRead
  | adcQueueEntryRead => exact hs.execAdcQueueEntryRead
  | msixTableWrite => exact hs.execMsixTableWrite
  | doorbell => exact hs.execDoorbell
  | cqDoorbell => exact hs.execCqDoorbell
  | cqArm => exact hs.execCqArm
  | commit => exact hs.execCommit
  | stop => exact hs.execStop
  | glbCtlReset => exact hs.execGlbCtlReset
  | glbRemapSwap => exact hs.execGlbRemapSwap
  | glbBootGo => exact hs.execGlbBootGo
  | hostImageReadEnd => exact hs.execHostImageReadEnd
  | islandReset => exact hs.execIslandReset
  | pwrOkRise => exact hs.execPwrOkRise
  | pwrOkFall => exact hs.execPwrOkFall
  | perstNAssert => exact hs.execPerstNAssert
  | perstNRelease => exact hs.execPerstNRelease
  | pcieHotReset => exact hs.execPcieHotReset
  | pcieLinkDown => exact hs.execPcieLinkDown
  | fuseStageEnd => exact hs.execFuseStageEnd
  | configImageChecked => exact hs.execConfigImageChecked
  | firmwareStarted => exact hs.execFirmwareStarted
  | firmwareTimeout => exact hs.execFirmwareTimeout
  | hbmTrainingEnd => exact hs.execHbmTrainingEnd
  | lanesStageEnd => exact hs.execLanesStageEnd
  | watchdogExpiry => exact hs.execWatchdogExpiry
  | loClkLoss => exact hs.execLoClkLoss
  | loClkReturn => exact hs.execLoClkReturn
  | adaptationUpdate => exact hs.execAdaptationUpdate
  | laneEqFreeze => exact hs.execLaneEqFreeze
  | cdrLockLoss => exact hs.execCdrLockLoss
  | adaptDone => exact hs.execAdaptDone
  | adaptTimeout => exact hs.execAdaptTimeout
  | alignmentMarker => exact hs.execAlignmentMarker
  | searchTimeout => exact hs.execSearchTimeout
  | eidle => exact hs.execEidle
  | lossOfSignal => exact hs.execLossOfSignal
  | fastExit => exact hs.execFastExit
  | fastExitMarkerTimeout => exact hs.execFastExitMarkerTimeout
  | txRampEnd => exact hs.execTxRampEnd
  | laneEyeStart => exact hs.execLaneEyeStart
  | eyeScanDone => exact hs.execEyeScanDone
  | ingestPacket => exact hs.execIngestPacket
  | dataFlit => exact hs.execDataFlit
  | nakFlit => exact hs.execNakFlit
  | nullFlit => exact hs.execNullFlit
  | initFlit => exact hs.execInitFlit
  | replayTimeout => exact hs.execReplayTimeout
  | nakRepeat => exact hs.execNakRepeat
  | retrainTimeout => exact hs.execRetrainTimeout
  | failedRetry => exact hs.execFailedRetry
  | sheafRelease => exact hs.execSheafRelease
  | waitExpiry => exact hs.execWaitExpiry
  | ingestMask => exact hs.execIngestMask
  | ingestGain => exact hs.execIngestGain
  | harrowReset => exact hs.execHarrowReset
  | harrowDc => exact hs.execHarrowDc
  | harrowGain => exact hs.execHarrowGain
  | weedCtl => exact hs.execWeedCtl
  | turningWrite => exact hs.execTurningWrite
  | passDispatch => exact hs.execPassDispatch
  | operandBusTransfer => exact hs.execOperandBusTransfer
  | bankSpill => exact hs.execBankSpill
  | recomputeStart => exact hs.execRecomputeStart
  | recomputeEnd => exact hs.execRecomputeEnd
  | recomputeDeadline => exact hs.execRecomputeDeadline
  | governorStage => exact hs.execGovernorStage
  | governorHoldExpiry => exact hs.execGovernorHoldExpiry
  | corrRetire => exact hs.execCorrRetire
  | corrPlaceFreeze => exact hs.execCorrPlaceFreeze
  | granarySpill => exact hs.execGranarySpill
  | harvestSegment => exact hs.execHarvestSegment
  | holdExpiry => exact hs.execHoldExpiry
  | granStart => exact hs.execGranStart
  | granStop => exact hs.execGranStop
  | beamLoad => exact hs.execBeamLoad
  | beamSwap => exact hs.execBeamSwap
  | beamPeakSet => exact hs.execBeamPeakSet
  | partialBeamFlit => exact hs.execPartialBeamFlit
  | partialWaitExpiry => exact hs.execPartialWaitExpiry
  | exportRecordTimeout => exact hs.execExportRecordTimeout
  | gleanFreeze => exact hs.execGleanFreeze
  | gleanResume => exact hs.execGleanResume
  | gleanDump => exact hs.execGleanDump
  | dumpEnd => exact hs.execDumpEnd
  | gleanLenShadowWrite => exact hs.execGleanLenShadowWrite
  | egressTransmit => exact hs.execEgressTransmit
  | ethLinkDown => exact hs.execEthLinkDown
  | ethLinkUp => exact hs.execEthLinkUp
  | ethFrameReceive => exact hs.execEthFrameReceive
  | mgmtFrameReceive => exact hs.execMgmtFrameReceive
  | mgmtFrameTransmit => exact hs.execMgmtFrameTransmit
  | ethStreamSet => exact hs.execEthStreamSet
  | descriptorFetch => exact hs.execDescriptorFetch
  | copy => exact hs.execCopy
  | link => exact hs.execLink
  | nop => exact hs.execNop
  | buffer => exact hs.execBuffer
  | dmaBurst => exact hs.execDmaBurst
  | hostReadCompletion => exact hs.execHostReadCompletion
  | completionTimeout => exact hs.execCompletionTimeout
  | completionRecordWrite => exact hs.execCompletionRecordWrite
  | deliveryMessage => exact hs.execDeliveryMessage
  | cqCoalesceTimeout => exact hs.execCqCoalesceTimeout
  | dmaChAbort => exact hs.execDmaChAbort
  | dmaChResume => exact hs.execDmaChResume
  | ringEnable => exact hs.execRingEnable
  | ringPause => exact hs.execRingPause
  | ringResume => exact hs.execRingResume
  | ringReset => exact hs.execRingReset
  | hbmCommandSlot => exact hs.execHbmCommandSlot
  | hbmReadData => exact hs.execHbmReadData
  | hbmParityError => exact hs.execHbmParityError
  | refreshDue => exact hs.execRefreshDue
  | hbmTempRead => exact hs.execHbmTempRead
  | scrubRead => exact hs.execScrubRead
  | matrixGrant => exact hs.execMatrixGrant
  | matrixPromotion => exact hs.execMatrixPromotion
  | xbarMrst => exact hs.execXbarMrst
  | dpllUpdate => exact hs.execDpllUpdate
  | monitorSecond => exact hs.execMonitorSecond
  | monitorWindowEnd => exact hs.execMonitorWindowEnd
  | referenceAbsent => exact hs.execReferenceAbsent
  | buildoutComplete => exact hs.execBuildoutComplete
  | stageDwellEnd => exact hs.execStageDwellEnd
  | holdoverExpired => exact hs.execHoldoverExpired
  | ppsOutEdge => exact hs.execPpsOutEdge
  | alignmentPulse => exact hs.execAlignmentPulse
  | refSelect => exact hs.execRefSelect
  | refSet => exact hs.execRefSet
  | refBw => exact hs.execRefBw
  | refAlign => exact hs.execRefAlign
  | refAlignTimeout => exact hs.execRefAlignTimeout
  | refOutSet => exact hs.execRefOutSet
  | refCtlRun => exact hs.execRefCtlRun
  | refCtlFreeze => exact hs.execRefCtlFreeze
  | timeBaseTick => exact hs.execTimeBaseTick
  | ppsEdge => exact hs.execPpsEdge
  | timeSet => exact hs.execTimeSet
  | timeStep => exact hs.execTimeStep
  | timeOffset => exact hs.execTimeOffset
  | timeServo => exact hs.execTimeServo
  | servoCoast => exact hs.execServoCoast
  | timeCtlFreeze => exact hs.execTimeCtlFreeze
  | timeEvtEdge => exact hs.execTimeEvtEdge
  | pinPulseEnd => exact hs.execPinPulseEnd
  | almSet => exact hs.execAlmSet
  | almCancel => exact hs.execAlmCancel
  | almanacFiring => exact hs.execAlmanacFiring
  | adcSingleStart => exact hs.execAdcSingleStart
  | conversionEnd => exact hs.execConversionEnd
  | guardConversionDue => exact hs.execGuardConversionDue
  | regLapDue => exact hs.execRegLapDue
  | adcInject => exact hs.execAdcInject
  | adcBatchTimeout => exact hs.execAdcBatchTimeout
  | avsPeriod => exact hs.execAvsPeriod
  | avsTransactionEnd => exact hs.execAvsTransactionEnd
  | avsCfgFreeze => exact hs.execAvsCfgFreeze
  | droopDetect => exact hs.execDroopDetect
  | droopRecover => exact hs.execDroopRecover
  | dacSlewStep => exact hs.execDacSlewStep
  | ldacNFall => exact hs.execLdacNFall
  | dacCtlLoad => exact hs.execDacCtlLoad
  | dacClearNAssert => exact hs.execDacClearNAssert
  | dacClearNRelease => exact hs.execDacClearNRelease
  | dacSet => exact hs.execDacSet
  | dacPark => exact hs.execDacPark
  | dacRange => exact hs.execDacRange
  | eventQueueFlush => exact hs.execEventQueueFlush
  | evtSrcArm => exact hs.execEvtSrcArm
  | evtRaise => exact hs.execEvtRaise
  | evtEnable => exact hs.execEvtEnable
  | pcieCreditStall => exact hs.execPcieCreditStall
  | pcieFatalError => exact hs.execPcieFatalError
  | crcScan => exact hs.execCrcScan
  | weaveHello => exact hs.execWeaveHello
  | delayMeasure => exact hs.execDelayMeasure
  | delayReq => exact hs.execDelayReq
  | delayResp => exact hs.execDelayResp
  | pulseMarkDue => exact hs.execPulseMarkDue
  | pulseMark => exact hs.execPulseMark
  | forwardedUnit => exact hs.execForwardedUnit
  | maskUpdate => exact hs.execMaskUpdate
  | weederMessage => exact hs.execWeederMessage
  | weaveStatusDue => exact hs.execWeaveStatusDue
  | weaveStatusMessage => exact hs.execWeaveStatusMessage
  | granRelay => exact hs.execGranRelay
  | flagWaitTimeout => exact hs.execFlagWaitTimeout
  | decideWaitTimeout => exact hs.execDecideWaitTimeout
  | heartbeatDue => exact hs.execHeartbeatDue
  | heartbeat => exact hs.execHeartbeat
  | progressDue => exact hs.execProgressDue
  | progress => exact hs.execProgress
  | yield => exact hs.execYield
  | taken => exact hs.execTaken
  | reclaim => exact hs.execReclaim
  | releaseRecord => exact hs.execReleaseRecord
  | commandPoint => exact hs.execCommandPoint
  | stateBlock => exact hs.execStateBlock
  | configUpdateBlock => exact hs.execConfigUpdateBlock
  | configUpdateRetry => exact hs.execConfigUpdateRetry
  | twinYieldNLow => exact hs.execTwinYieldNLow
  | peerHealthWave => exact hs.execPeerHealthWave
  | yieldTimeout => exact hs.execYieldTimeout
  | peerLost => exact hs.execPeerLost
  | soloTimeout => exact hs.execSoloTimeout
  | ingestLossTimeout => exact hs.execIngestLossTimeout
  | twinYield => exact hs.execTwinYield
  | fuseProg => exact hs.execFuseProg
  | fuseProgEnd => exact hs.execFuseProgEnd (hf _ rfl)
  | dbgRequest => exact hs.execDbgRequest
  | dbgResponse => exact hs.execDbgResponse
  | dbgResponseChecked => exact hs.execDbgResponseChecked
  | commitChecksEnd => exact hs.execCommitChecksEnd
  | pcieLinkUp => exact hs.execPcieLinkUp
  | pcieConfigWrite => exact hs.execPcieConfigWrite
  | pcieAerError => exact hs.execPcieAerError
  | mgmtLinkDown => exact hs.execMgmtLinkDown
  | mgmtLinkUp => exact hs.execMgmtLinkUp
  | firmwareMessage => exact hs.execFirmwareMessage

end State

theorem mapSet_offReset {r : List (Nat × Word)} (h : ∀ e ∈ r, e.2 ≠ regReset e.1) (a : Nat) (v : Word) :
    ∀ e ∈ mapSet (regReset a) r a v, e.2 ≠ regReset e.1 := by
  intro e he
  unfold mapSet at he
  split at he
  · exact h e (mem_mapDel he)
  next hv =>
    rcases mem_mapPut he with rfl | he
    · exact hv
    · exact h e he

/-- The canonical form of the register list and of HBM (log 2). -/
def Claim.canonical : Claim where
  of := fun _ _ r m => mapRising r = true ∧ (∀ e ∈ r, e.2 ≠ regReset e.1) ∧ mapRising m = true
  put := fun ⟨hr, hv, hm⟩ a v => ⟨mapSet_rising hr _ a v, mapSet_offReset hv a v, hm⟩
  drop := fun ⟨hr, hv, hm⟩ k => ⟨filter_rising hr k, fun e he => hv e (List.mem_of_mem_filter he), hm⟩
  byte := fun ⟨hr, hv, hm⟩ a b => ⟨hr, hv, mapPut_rising hm a b⟩
  lost := fun ⟨hr, hv, _⟩ => ⟨hr, hv, rfl⟩

theorem canonical_iff {s : State} : s.Canonical ↔ s.Holds Claim.canonical :=
  ⟨fun h => ⟨h⟩, fun h => h.claim⟩

theorem step_canonical {s : State} (hs : s.Holds Claim.canonical) : NextHolds Claim.canonical (step s) := by
  unfold step
  split
  · exact .ok hs.idleStep
  · exact State.Holds.exec ⟨hs.claim⟩ fun _ _ _ => hs.claim

/-- Settles O3: the canonical form is kept by each of the shared updates, and so by the idle step and by every command. -/
theorem everyStepKeepsCanonicalForm : Obligations.EveryStepKeepsCanonicalForm := by
  intro s t hs ht
  have h1 := step_canonical (canonical_iff.1 hs)
  rw [ht] at h1
  cases h1 with
  | ok h2 => exact canonical_iff.2 h2

end Sys2Proof.Machine
end

section
/-! A register's fields under a write and a read (R14): a pass over the field table changes each field by a function of its own value
alone, since the fields of every register of the map fit in 32 bits and share no bit. -/

namespace Sys2Proof.Machine

/-! ### Field tables -/

/-- Where a described field lies. -/
abbrev FieldDesc.fld (f : FieldDesc) : Fld := ⟨f.lo, f.width⟩

/-- The fields of a table fit in 32 bits and no two of them share a bit. -/
def separate (fs : List FieldDesc) : Bool :=
  fs.all (fun f => f.fld.fits) && decide (fs.Pairwise (fun f g => f.fld.apart g.fld))

theorem blockMap_separate : ∀ b ∈ blockMap, ∀ r ∈ b.2, separate r.fields = true := by decide +kernel

theorem separate_of_regAt {a : Nat} {d : RegDesc} (h : regAt a = some d) : separate d.fields = true := by
  obtain ⟨b, hb, hd⟩ := Option.bind_eq_some_iff.1 h
  exact blockMap_separate b (List.mem_of_find?_eq_some hb) d (List.mem_of_find?_eq_some hd)

theorem Fld.apart_symm {f g : Fld} (h : f.apart g = true) : g.apart f = true := by
  simp only [Fld.apart, Bool.or_eq_true] at h ⊢
  exact h.symm

theorem Fld.of_ofNat {f : Fld} (h : f.fits) (v : Nat) : f.of (BitVec.ofNat 32 v) = v / 2 ^ f.lo % 2 ^ f.width := by
  simp only [Fld.fits, decide_eq_true_eq] at h
  obtain ⟨k, hk⟩ := Nat.exists_eq_add_of_le h
  rw [Fld.of, BitVec.toNat_ofNat, hk, Nat.add_assoc, pow_add, Nat.mod_mul_right_div_self, pow_add,
    Nat.mod_mod_of_dvd _ (Nat.dvd_mul_right _ _)]

/-! ### Passes over a field table -/

/-- A step that gives the field at hand a new value, a function of the old one, and leaves the fields beside it alone. -/
structure FieldStep (g : Word → FieldDesc → Word) (val : FieldDesc → Nat → Nat) : Prop where
  here : ∀ (w : Word) (f : FieldDesc), f.fld.fits = true → f.fld.of (g w f) = val f (f.fld.of w)
  beside : ∀ (w : Word) (f : FieldDesc) (h : Fld), f.fld.fits = true → f.fld.apart h = true → h.of (g w f) = h.of w

namespace FieldStep

variable {g : Word → FieldDesc → Word} {val : FieldDesc → Nat → Nat}

theorem of_foldl_beside (hg : FieldStep g val) {h : Fld} {fs : List FieldDesc} (hf : ∀ f ∈ fs, f.fld.fits = true)
    (ha : ∀ f ∈ fs, f.fld.apart h = true) (w : Word) : h.of (fs.foldl g w) = h.of w := by
  induction fs generalizing w with
  | nil => rfl
  | cons f fs ih =>
    rw [List.forall_mem_cons] at hf ha
    rw [List.foldl_cons, ih hf.2 ha.2, hg.beside w f h hf.1 ha.1]

theorem of_foldl (hg : FieldStep g val) {fs : List FieldDesc} (hs : separate fs = true) {f : FieldDesc} (hf : f ∈ fs) (w : Word) :
    f.fld.of (fs.foldl g w) = val f (f.fld.of w) := by
  simp only [separate, Bool.and_eq_true, List.all_eq_true, decide_eq_true_eq] at hs
  obtain ⟨hfit, hsep⟩ := hs
  induction fs generalizing w with
  | nil => cases hf
  | cons e fs ih =>
    rw [List.forall_mem_cons] at hfit
    rw [List.pairwise_cons] at hsep
    rw [List.foldl_cons]
    rcases List.mem_cons.1 hf with rfl | hf
    · rw [hg.of_foldl_beside hfit.2 (fun x hx => Fld.apart_symm (hsep.1 x hx)), hg.here w _ hfit.1]
    · rw [ih hf _ hfit.2 hsep.2, hg.beside w e _ hfit.1 (hsep.1 f hf)]

theorem of_ite {c : FieldDesc → Prop} [DecidablePred c] {new : FieldDesc → Nat} :
    FieldStep (fun w f => if c f then f.fld.into w (new f) else w) (fun f x => if c f then new f % 2 ^ f.width else x) where
  here := fun w f h => by
    split
    · exact Fld.of_into_same h w _
    · rfl
  beside := fun w f h hf ha => by
    split
    · exact Fld.of_into_apart hf ha w _
    · rfl

end FieldStep

/-! ### The write of a register's fields -/

/-- The value that a write of `v` leaves in a field that held `x`. -/
def writtenField (skip : List Fld) (v : Nat) (f : FieldDesc) (x : Nat) : Nat :=
  if skip.contains f.fld then x
  else match f.acc with
    | .rw => v / 2 ^ f.lo % 2 ^ f.width
    | .w1c => Nat.land x (2 ^ f.width - 1 - v / 2 ^ f.lo % 2 ^ f.width)
    | _ => x

/-- One step of `written`. -/
def writtenStep (skip : List Fld) (v : Nat) (w : Word) (f : FieldDesc) : Word :=
  if skip.contains f.fld then w
  else match f.acc with
    | .rw => f.fld.into w (f.fld.of (BitVec.ofNat 32 v))
    | .w1c => f.fld.into w (Nat.land (f.fld.of w) (2 ^ f.width - 1 - f.fld.of (BitVec.ofNat 32 v)))
    | _ => w

theorem written_eq (fs : List FieldDesc) (skip : List Fld) (old : Word) (v : Nat) :
    written fs skip old v = fs.foldl (writtenStep skip v) old := rfl

theorem writtenStep_fieldStep (skip : List Fld) (v : Nat) : FieldStep (writtenStep skip v) (writtenField skip v) where
  here := fun w f h => by
    unfold writtenStep writtenField
    split
    · rfl
    · split
      · rw [Fld.of_into_same h, Fld.of_ofNat h, Nat.mod_mod]
      · rw [Fld.of_into_same h, Fld.of_ofNat h]
        exact Nat.mod_eq_of_lt (lt_of_le_of_lt Nat.and_le_left (Fld.of_lt _ w))
      · rfl
  beside := fun w f h hf ha => by
    unfold writtenStep
    split
    · rfl
    · split
      · exact Fld.of_into_apart hf ha w _
      · exact Fld.of_into_apart hf ha w _
      · rfl

theorem of_written {fs : List FieldDesc} (hs : separate fs = true) {f : FieldDesc} (hf : f ∈ fs) (skip : List Fld) (old : Word) (v : Nat) :
    f.fld.of (written fs skip old v) = writtenField skip v f (f.fld.of old) := by
  rw [written_eq, (writtenStep_fieldStep skip v).of_foldl hs hf]

theorem writtenField_mod (skip : List Fld) (v : Nat) {f : FieldDesc} (hf : f.fld.fits = true) (x : Nat) :
    writtenField skip (v % 2 ^ 32) f x = writtenField skip v f x := by
  have h1 : v % 2 ^ 32 / 2 ^ f.lo % 2 ^ f.width = v / 2 ^ f.lo % 2 ^ f.width := by
    rw [← Fld.of_ofNat hf, ← Fld.of_ofNat hf]
    congr 1
    exact BitVec.eq_of_toNat_eq (by simp)
  unfold writtenField
  rw [h1]

/-! ### The read of a register's fields -/

theorem of_readView {fs : List FieldDesc} (hs : separate fs = true) {f : FieldDesc} (hf : f ∈ fs) (w : Word) :
    f.fld.of (readView fs w) = if f.acc = Access.wo then 0 else f.fld.of w := by
  rw [readView, FieldStep.of_ite.of_foldl hs hf, Nat.zero_mod]

theorem of_readClears {fs : List FieldDesc} (hs : separate fs = true) {f : FieldDesc} (hf : f ∈ fs) (w : Word) :
    f.fld.of (readClears fs w) = if f.acc = Access.rc then f.rst % 2 ^ f.width else f.fld.of w := by
  rw [readClears, FieldStep.of_ite.of_foldl hs hf]

/-! ### Register accesses -/

namespace State

theorem afterWrite_eq_self (s : State) {a : Nat} {d : RegDesc} (hsrc : d.base ≠ Reg.EVT_SRC_CFG 0) (hq : d.base ≠ Reg.EVT_Q_CFG 0)
    (htile : a ≠ Reg.CORR_TILE_SEL) (hgpio : a ≠ Reg.GLB_GPIO) (hcompat : a ≠ Reg.GLB_COMPAT) (hobs : d.base ≠ Reg.DBG_OBS_SEL 0)
    (hatb : d.base ≠ Reg.DBG_ATB_SEL 0) : s.afterWrite a d = s := by
  simp only [afterWrite, hsrc, hq, htile, hgpio, hcompat, hobs, hatb, if_false]

theorem regWrite_of_passes {s : State} {w : Writer} {b a v : Nat} {d : RegDesc} (hresp : d.base ≠ Reg.DBG_RESPONSE 0)
    (hadc : a ≠ Reg.ADC_CFG) (hp : plainFields a d = true) (hg : s.gate w b a d = .passes) :
    s.regWrite w b a v d = (s.wr a (written d.fields (ownRwFields a d ++ s.heldFields a d) (s.reg a) v)).afterWrite a d := by
  simp only [regWrite, hresp, hadc, hp, hg, if_false, Bool.not_true, Bool.false_eq_true]

theorem regWrite_of_ignored {s : State} {w : Writer} {b a v : Nat} {d : RegDesc} (hresp : d.base ≠ Reg.DBG_RESPONSE 0)
    (hadc : a ≠ Reg.ADC_CFG) (hg : s.gate w b a d = .ignored) : s.regWrite w b a v d = s := by
  simp only [regWrite, hresp, hadc, hg, if_false, ite_self]

theorem barWrite_of_reg {s : State} {w : Writer} {a v : Nat} {b : Block} {d : RegDesc} (hc : s.sys.checking = false)
    (hb : blockOf a = some b) (hs : s.blockServed b.index = true) (hd : regAt a = some d) :
    s.barWrite w a v = s.regWrite w b.index a v d := by
  simp only [barWrite, hc, hb, hs, hd, if_false, Bool.not_true, Bool.false_eq_true]

theorem barWrite_of_no_block {s : State} {w : Writer} {a v : Nat} (hc : s.sys.checking = false) (hb : blockOf a = none) :
    s.barWrite w a v = s.decodeError (writerPort w) 2 a true := by
  simp only [barWrite, hc, hb, if_false, Bool.false_eq_true]

theorem barRead_of_reg {s : State} {m a : Nat} {b : Block} {d : RegDesc} (hb : blockOf a = some b) (hd : regAt a = some d)
    (hs : s.blockServed b.index = true) (hgpio : a ≠ Reg.GLB_GPIO) (hh : a ≠ Reg.HARROW_CFG) :
    s.barRead m a = { s.wr a (readClears d.fields (s.reg a)) with readData := readView d.fields (s.reg a) } := by
  simp only [barRead, ewesenView, hb, hd, hs, hgpio, hh, if_false, Bool.not_true, Bool.false_eq_true, and_false]

end State

theorem exec_registerWrite_word {w : Writer} {a : Fin 67108864} {v : BitVec 64} {s : State} (h : a % 4 = 0) :
    exec (.registerWrite w a 4 v) s = .next (s.barWrite w a (v.toNat % 2 ^ 32)) := by
  show ok _ = _
  rw [if_neg (by decide), if_neg (not_not_intro h), if_neg (by decide), ok]

/-- Settles O6: each field of the word written is a function of the same field before, by the pass over the field table. -/
theorem registerWriteSetsItsFields : Obligations.RegisterWriteSetsItsFields := by
  intro w a v s b d ha hc hb hs hd hg hp hadc hresp hsrc hq htile hgpio hcompat hobs hatb
  have hsep := separate_of_regAt hd
  have hfit := List.all_eq_true.1 (Bool.and_eq_true_iff.1 hsep).1
  have he : exec (.registerWrite w a 4 v) s
      = .next (s.wr a (written d.fields (ownRwFields a d ++ s.heldFields a d) (s.reg a) (v.toNat % 2 ^ 32))) := by
    rw [exec_registerWrite_word ha, State.barWrite_of_reg hc hb hs hd, State.regWrite_of_passes hresp hadc hp hg,
      State.afterWrite_eq_self _ hsrc hq htile hgpio hcompat hobs hatb]
  refine ⟨_, he, ?_, State.keeps_wr s a _, State.only_wr s a _⟩
  intro f hf
  rw [State.get, State.reg_wr_same, of_written hsep hf, writtenField_mod _ _ (hfit f hf)]
  rfl

/-- Settles O8: the value read and the word left are passes over the field table. -/
theorem readsReturnAndClear : Obligations.ReadsReturnAndClear := by
  intro a s b d hb hd hs hgpio hh
  have hsep := separate_of_regAt hd
  refine ⟨_, congrArg Host.Outcome.next (State.barRead_of_reg (m := 0) hb hd hs hgpio hh), ?_, ?_, ?_, ?_⟩
  · exact fun f hf => of_readView hsep hf _
  · intro f hf
    exact (congrArg _ (State.reg_wr_same s _ _)).trans (of_readClears hsep hf _)
  · exact State.keeps_wr s _ _
  · exact (State.only_wr s _ _).then (State.only_readData _ _) (by decide) (by decide)

end Sys2Proof.Machine
end

section
/-! Register writes that set nothing, and writes of 64 bits (O7). -/

namespace Sys2Proof.Machine

namespace State

/-- What one occurrence of an event does, as the obligations say it. -/
theorem raise_occurs (s : State) {e : Nat} (d : Nat) (he : (eventClass e).isSome = true) :
    Counted s (s.raise e d) e ∧ KeepsRegs s (s.raise e d) (EventRegs e) ∧ Only eventParts s (s.raise e d) :=
  ⟨fun hk => raise_counts s e d he hk, fun _ h => raise_reg s e d h, only_raise s e d⟩

theorem narrowAccess_occurs (s : State) (bar offset : Nat) :
    Counted s (s.narrowAccess bar offset) Ev.ACCESS_SIZE ∧ KeepsRegs s (s.narrowAccess bar offset) (EventRegs Ev.ACCESS_SIZE)
      ∧ Only eventParts s (s.narrowAccess bar offset) :=
  s.raise_occurs _ (by decide +kernel)

/-- The registers of a master's error record. -/
def ErrorRecord (m x : Nat) : Prop := x = Reg.XBAR_ERR_INFO m ∨ x = Reg.XBAR_ERR_ADDR_LO m ∨ x = Reg.XBAR_ERR_ADDR_HI m

theorem keeps_xbarErr (s : State) (m kind space addr : Nat) (write : Bool) (beats : Nat) :
    KeepsRegs s (s.xbarErr m kind space addr write beats) (ErrorRecord m) :=
  KeepsRegs.trans (KeepsRegs.mono (keeps_wrN s _ _) fun _ h => .inl h)
    (KeepsRegs.trans (KeepsRegs.mono (keeps_wrN _ _ _) fun _ h => .inr (.inl h))
      (KeepsRegs.mono (keeps_wrN _ _ _) fun _ h => .inr (.inr h)))

theorem only_xbarErr (s : State) (m kind space addr : Nat) (write : Bool) (beats : Nat) :
    Only [.regs] s (s.xbarErr m kind space addr write beats) :=
  (only_wrN s _ _).trans ((only_wrN _ _ _).trans (only_wrN _ _ _))

theorem full_xbarErr_addr (s : State) (m kind space addr : Nat) (write : Bool) (beats : Nat) :
    (s.xbarErr m kind space addr write beats).full (Reg.XBAR_ERR_ADDR_LO m) = addr % 2 ^ 32 := by
  unfold xbarErr
  rw [full_wrN_other _ _ (by simp only [Reg.XBAR_ERR_ADDR_LO, Reg.XBAR_ERR_ADDR_HI]; omega), full_wrN_same]

/-- The registers of a request at the default target: the master's error record, the matrix's counter, the event's registers. -/
def DecodeRegs (m x : Nat) : Prop := ErrorRecord m x ∨ x = Reg.XBAR_COUNT 0 ∨ EventRegs Ev.XBAR_DECODE x

theorem keeps_decodeError (s : State) (m space addr : Nat) (write : Bool) :
    KeepsRegs s (s.decodeError m space addr write) (DecodeRegs m) :=
  KeepsRegs.trans (KeepsRegs.mono (keeps_xbarErr s m 1 space addr write 0) fun _ h => .inl h)
    (KeepsRegs.trans (KeepsRegs.mono (keeps_count _ _ _) fun _ h => .inr (.inl h)) fun _ h => raise_reg _ _ _ fun h2 => h (.inr (.inr h2)))

theorem only_decodeError (s : State) (m space addr : Nat) (write : Bool) : Only eventParts s (s.decodeError m space addr write) :=
  (((only_xbarErr s m 1 space addr write 0).trans (only_count _ _ _)).mono (by decide)).trans (only_raise _ _ _)

/-- A master port's error record and the matrix's counter are no registers of an event. -/
theorem not_eventRegs_of_xbar {e x : Nat} (he : e < 2048) (hx : 0x1C00000 ≤ x) : ¬ EventRegs e x := by
  simp only [EventRegs, Reg.EVT_SRC_CNT, Reg.EVT_SRC_CFG, Reg.EVT_STATUS]
  omega

theorem decodeError_addr (s : State) {m space addr : Nat} {write : Bool} (ha : addr < 2 ^ 32) :
    (s.decodeError m space addr write).full (Reg.XBAR_ERR_ADDR_LO m) = addr := by
  have h1 : Reg.XBAR_ERR_ADDR_LO m ≠ Reg.XBAR_COUNT 0 := by simp only [Reg.XBAR_ERR_ADDR_LO, Reg.XBAR_COUNT]; omega
  have h2 : ¬ EventRegs Ev.XBAR_DECODE (Reg.XBAR_ERR_ADDR_LO m) :=
    not_eventRegs_of_xbar (by decide) (by simp only [Reg.XBAR_ERR_ADDR_LO]; omega)
  rw [decodeError, full, raise_reg _ _ _ h2, reg_count_other _ _ h1]
  exact (full_xbarErr_addr s m 1 space addr write 0).trans (Nat.mod_eq_of_lt ha)

theorem decodeError_counted (s : State) (m space addr : Nat) (write : Bool) :
    (s.decodeError m space addr write).full (Reg.XBAR_COUNT 0) = min (s.full (Reg.XBAR_COUNT 0) + 1) (2 ^ 32 - 1) := by
  have h1 : ¬ ErrorRecord m (Reg.XBAR_COUNT 0) := by
    simp only [ErrorRecord, Reg.XBAR_ERR_INFO, Reg.XBAR_ERR_ADDR_LO, Reg.XBAR_ERR_ADDR_HI, Reg.XBAR_COUNT]
    omega
  have h2 : ¬ EventRegs Ev.XBAR_DECODE (Reg.XBAR_COUNT 0) := not_eventRegs_of_xbar (by decide) (by decide)
  rw [decodeError, full, raise_reg _ _ _ h2]
  refine (full_count_same _ _ 1).trans ?_
  rw [full, keeps_xbarErr s m 1 space addr write 0 _ h1, ← full]

theorem decodeError_occurs (s : State) {m space addr : Nat} {write : Bool} : Counted s (s.decodeError m space addr write) Ev.XBAR_DECODE := by
  intro hk
  have h1 : ¬ ErrorRecord m (Reg.EVT_SRC_CNT Ev.XBAR_DECODE) := by
    simp only [ErrorRecord, Reg.XBAR_ERR_INFO, Reg.XBAR_ERR_ADDR_LO, Reg.XBAR_ERR_ADDR_HI, Reg.EVT_SRC_CNT, Ev.XBAR_DECODE]
    omega
  have h2 := (((s.xbarErr m 1 space addr write 0).count (Reg.XBAR_COUNT 0)).raise_occurs (xbarDetail m space addr write)
    (by decide +kernel : (eventClass Ev.XBAR_DECODE).isSome = true)).1 hk
  refine h2.trans ?_
  rw [full, reg_count_other _ _ (by decide), keeps_xbarErr s m 1 space addr write 0 _ h1, ← full]

end State

theorem exec_registerWrite_narrow {w : Writer} {a : Fin 67108864} {n : Nat} {v : BitVec 64} {s : State} (h : n < 4) :
    exec (.registerWrite w a n v) s = .next (s.narrowAccess 0 a) := by
  show ok _ = _
  rw [if_pos h, ok]

theorem exec_registerWrite_double {w : Writer} {a : Fin 67108864} {v : BitVec 64} {s : State} (h : a % 4 = 0) :
    exec (.registerWrite w a 8 v) s
      = .next ((s.barWrite w a (v.toNat % 2 ^ 32)).barWrite w (a + 4) (v.toNat / 2 ^ 32)) := by
  show ok _ = _
  rw [if_neg (by decide), if_neg (not_not_intro h), if_pos rfl, ok]

theorem barWrite_eq_self {s : State} {w : Writer} {a v : Nat} {b : Block} (hb : blockOf a = some b)
    (h : s.sys.checking = true ∨ s.blockServed b.index = false ∨ regAt a = none
      ∨ ∃ d, regAt a = some d ∧ s.gate w b.index a d = .ignored ∧ d.base ≠ Reg.DBG_RESPONSE 0 ∧ a ≠ Reg.ADC_CFG) :
    s.barWrite w a v = s := by
  simp only [State.barWrite, hb]
  split
  · rfl
  next hc =>
    split
    · rfl
    next hs =>
      rcases h with h | h | h | ⟨d, hd, hg, hresp, hadc⟩
      · exact absurd h hc
      · exact absurd (by rw [h]; rfl) hs
      · rw [h]
      · rw [hd]
        exact State.regWrite_of_ignored hresp hadc hg

/-- Settles O7: a narrow write is one occurrence, a write at the default target one decode error, a barred write nothing; the two halves of a
64-bit write are its words. -/
theorem registerWritesDiscardedAndSplit : Obligations.RegisterWritesDiscardedAndSplit := by
  refine ⟨?_, ?_, ?_, ?_⟩
  · intro w a n v s hn
    exact ⟨_, exec_registerWrite_narrow hn, s.narrowAccess_occurs 0 a⟩
  · intro w a v s ha hc hb
    refine ⟨_, (exec_registerWrite_word ha).trans (congrArg Host.Outcome.next (State.barWrite_of_no_block hc hb)), s.decodeError_occurs,
      s.decodeError_addr (by omega), s.decodeError_counted _ _ _ _, ?_, s.only_decodeError _ _ _ _⟩
    refine State.KeepsRegs.mono (s.keeps_decodeError _ _ _ _) fun x hx => ?_
    simpa only [State.DecodeRegs, State.ErrorRecord, or_assoc] using hx
  · intro w a v s b ha hb h
    exact ⟨_, exec_registerWrite_word ha, barWrite_eq_self hb h⟩
  · intro w a v s ha
    have hv : a.val % 4 = 0 := congrArg Fin.val ha
    have ha1 : (⟨a, by omega⟩ : Fin 67108864) % 4 = 0 := Fin.ext hv
    have ha2 : (⟨a + 4, by omega⟩ : Fin 67108864) % 4 = 0 := Fin.ext (by simpa using hv)
    have hlo : (v % 2 ^ 32).toNat % 2 ^ 32 = v.toNat % 2 ^ 32 := by simp [BitVec.toNat_umod]
    have hhi : (v / 2 ^ 32).toNat % 2 ^ 32 = v.toNat / 2 ^ 32 := by
      have h32 : (2 ^ 32 : BitVec 64).toNat = 2 ^ 32 := by decide
      rw [BitVec.toNat_udiv, h32]
      omega
    refine ⟨_, exec_registerWrite_word ha1, _, exec_registerWrite_double ha1, ?_⟩
    rw [exec_registerWrite_word ha2, hlo, hhi]

end Sys2Proof.Machine
end

section
/-! The registers after power-on reset (O5): the register list is empty, so that every register reads its table's value. Registers of which
there are thousands are found by what every table of their block shares. -/

namespace Sys2Proof.Machine

/-! ### Registers that reset to 0 -/

/-- The word that a register table gives after reset. -/
def RegDesc.resetSum (d : RegDesc) : Nat := (d.fields.map (fun f => f.rst * 2 ^ f.lo)).sum

/-- The offsets whose reset value is not the table's own. -/
def ByInstance (a : Nat) : Prop :=
  a = Reg.LANE_CFG 96 ∨ (Reg.HBM_PORT_LT 0 ≤ a ∧ a ≤ Reg.HBM_PORT_LT 7) ∨ (Reg.EVT_SRC_CFG 0 ≤ a ∧ a ≤ Reg.EVT_SRC_CFG 2047)
    ∨ (Reg.REF_IN_WIN 0 ≤ a ∧ a ≤ Reg.REF_IN_WIN 5)

theorem regReset_of_table {a : Nat} (h : ¬ ByInstance a) :
    regReset a = ((regAt a).map (fun d => BitVec.ofNat 32 d.resetSum)).getD 0 := by
  simp only [ByInstance, not_or] at h
  obtain ⟨hl, hm, he, hr⟩ := h
  unfold regReset
  rw [if_neg hl, if_neg hm, if_neg he, if_neg fun ⟨h1, h2, _⟩ => hr ⟨h1, h2⟩]
  cases regAt a <;> rfl

/-- No two assigned blocks share an offset. -/
theorem blockMap_disjoint : ∀ e ∈ blockMap, ∀ f ∈ blockMap, e.1.first ≤ f.1.last → f.1.first ≤ e.1.last → e = f := by
  decide +kernel

theorem mem_of_regAt {a : Nat} {e : Block × List RegDesc} (he : e ∈ blockMap) (h1 : e.1.first ≤ a) (h2 : a ≤ e.1.last) {d : RegDesc}
    (hd : regAt a = some d) : d ∈ e.2 ∧ d.at a = true := by
  obtain ⟨f, hf, hd⟩ := Option.bind_eq_some_iff.1 hd
  have hin := List.find?_some hf
  simp only [Bool.and_eq_true, decide_eq_true_eq] at hin
  obtain rfl := blockMap_disjoint e he f (List.mem_of_find?_eq_some hf) (h1.trans hin.2) (hin.1.trans h2)
  exact ⟨List.mem_of_find?_eq_some hd, List.find?_some (p := fun r : RegDesc => r.at a) hd⟩

theorem regReset_eq_zero {a : Nat} {e : Block × List RegDesc} (he : e ∈ blockMap) (h1 : e.1.first ≤ a) (h2 : a ≤ e.1.last)
    (hb : ¬ ByInstance a) (hz : ∀ d ∈ e.2, d.at a = true → d.resetSum = 0) : regReset a = 0 := by
  rw [regReset_of_table hb]
  cases hd : regAt a with
  | none => rfl
  | some d =>
    obtain ⟨hm, ha⟩ := mem_of_regAt he h1 h2 hd
    rw [Option.map_some, hz d hm ha]
    rfl

/-! ### Rings and event counters -/

/-- Of a ring's registers, only those at 8 and 12 reset to another value than 0. -/
theorem regsRing_reset : ∀ d ∈ regsRing, d.resetSum = 0 ∨ d.s1 = 64 ∧ d.s2 = 1 ∧ d.n2 = 1 ∧ d.base % 64 < 16 := by
  decide +kernel

theorem ring_regReset {r o : Nat} (hr : r < 16384) (ho : 16 ≤ o ∧ o < 64) : regReset (0x1400000 + o + 64 * r) = 0 := by
  refine regReset_eq_zero (e := (⟨13, 0x1400000, 0x17FFFFF⟩, regsRing)) (by decide +kernel) (by dsimp only; omega) (by dsimp only; omega)
    ?_ fun d hd ha => ?_
  · simp only [ByInstance, Reg.LANE_CFG, Reg.HBM_PORT_LT, Reg.EVT_SRC_CFG, Reg.REF_IN_WIN]
    omega
  · refine (regsRing_reset d hd).resolve_right fun ⟨h1, h2, h3, h4⟩ => ?_
    simp only [RegDesc.at, h1, h2, h3, Bool.and_eq_true, decide_eq_true_eq, beq_iff_eq] at ha
    omega

/-- The tables of events that lie below the counters, or reset to 0. -/
theorem regsEvt_reset : ∀ d ∈ regsEvt, d.resetSum = 0 ∨ 0 < d.s1 ∧ d.base + d.s1 * d.n1 ≤ 0x104000 := by
  decide +kernel

theorem eventCount_regReset {e : Nat} (he : e < 2048) : regReset (Reg.EVT_SRC_CNT e) = 0 := by
  unfold Reg.EVT_SRC_CNT
  refine regReset_eq_zero (e := (⟨1, 0x100000, 0x1FFFFF⟩, regsEvt)) (by decide +kernel) (by dsimp only; omega) (by dsimp only; omega)
    ?_ fun d hd ha => ?_
  · simp only [ByInstance, Reg.LANE_CFG, Reg.HBM_PORT_LT, Reg.EVT_SRC_CFG, Reg.REF_IN_WIN]
    omega
  · refine (regsEvt_reset d hd).resolve_right fun ⟨h1, h2⟩ => ?_
    simp only [RegDesc.at, Bool.and_eq_true, decide_eq_true_eq] at ha
    have h3 := (Nat.div_lt_iff_lt_mul h1).1 ha.1.1.2
    rw [Nat.mul_comm d.n1] at h3
    omega

theorem eventCfg_regReset {e : Nat} (he : e < 2048) :
    regReset (Reg.EVT_SRC_CFG e) = BitVec.ofNat 32 (1 + e * 2 ^ 8 + (eventClass e).getD 0 * 2 ^ 19) := by
  have h1 : Reg.EVT_SRC_CFG e ≠ Reg.LANE_CFG 96 := by simp only [Reg.EVT_SRC_CFG, Reg.LANE_CFG]; omega
  have h2 : ¬ (Reg.HBM_PORT_LT 0 ≤ Reg.EVT_SRC_CFG e ∧ Reg.EVT_SRC_CFG e ≤ Reg.HBM_PORT_LT 7) := by
    simp only [Reg.EVT_SRC_CFG, Reg.HBM_PORT_LT]; omega
  have h3 : Reg.EVT_SRC_CFG 0 ≤ Reg.EVT_SRC_CFG e ∧ Reg.EVT_SRC_CFG e ≤ Reg.EVT_SRC_CFG 2047 := by
    simp only [Reg.EVT_SRC_CFG]; omega
  have h4 : (Reg.EVT_SRC_CFG e - Reg.EVT_SRC_CFG 0) / 4 = e := by simp only [Reg.EVT_SRC_CFG]; omega
  unfold regReset
  rw [if_neg h1, if_neg h2, if_pos h3, h4]

/-! ### The state after reset -/

theorem reset_reg (a : Nat) : State.reset.reg a = regReset a := rfl

theorem lanes_after_reset : ∀ l : Lane, (regReset (Reg.LANE_STATUS l)).toNat = 0
    ∧ Fld.LANE_CFG_RATE.of (regReset (Reg.LANE_CFG l)) = (if l.val = 96 then 2 else 0) := by
  decide +kernel

theorem links_after_reset : ∀ k : Link, regReset (Reg.LANE_LINK_CFG k) = regReset (Reg.LANE_LINK_CFG 0)
    ∧ regReset (Reg.LANE_LINK_TIMER k) = regReset (Reg.LANE_LINK_TIMER 0) := by
  decide +kernel

theorem ring_after_reset (r : Ring) :
    State.reset.ringState r = 0 ∧ State.reset.devPos r = 0 ∧ State.reset.hostPos r = 0 := by
  have h1 : regReset (Reg.RING_STATE r) = 0 := ring_regReset (o := 0x14) r.isLt (by decide)
  have h2 : regReset (Reg.RING_HOST_POS r) = 0 := ring_regReset (o := 0x18) r.isLt (by decide)
  simp only [State.ringState, State.devPos, State.hostPos, State.get, reset_reg, h1, h2]
  decide

theorem event_after_reset (e : Fin 2048) : State.reset.full (Reg.EVT_SRC_CNT e) = 0
    ∧ State.reset.flag (Reg.EVT_SRC_CFG e) Fld.EVT_SRC_CFG_ARMED = false
    ∧ State.reset.get (Reg.EVT_SRC_CFG e) Fld.EVT_SRC_CFG_VECTOR = e := by
  have he := e.isLt
  refine ⟨?_, ?_, ?_⟩
  · rw [State.full, reset_reg, eventCount_regReset he]
    rfl
  · simp only [State.flag, State.get, reset_reg, eventCfg_regReset he, Fld.of, BitVec.toNat_ofNat, Fld.EVT_SRC_CFG_ARMED,
      decide_eq_false_iff_not]
    omega
  · simp only [State.get, reset_reg, eventCfg_regReset he, Fld.of, BitVec.toNat_ofNat, Fld.EVT_SRC_CFG_VECTOR]
    omega

/-- Settles O5, from the reset values of the register tables. -/
theorem registersAfterReset : Obligations.RegistersAfterReset := by
  refine ⟨by decide +kernel, by decide +kernel, lanes_after_reset, fun k => ?_, ring_after_reset, event_after_reset, by decide +kernel,
    by decide +kernel⟩
  simp only [State.get, reset_reg, links_after_reset k]
  decide +kernel

end Sys2Proof.Machine
end

section
/-! Doorbells (R334–R338, O39): what a write of the lower half, of the upper half and a read do, each said once. -/

namespace Sys2Proof.Machine.State

/-! ### Frames -/

theorem Only.ring {ps : List Part} {s t : State} (h : Only ps s t) (hp : Part.rings ∉ ps) (q : Nat) : t.ring q = s.ring q :=
  h .rings hp q

theorem bump_saturates (s : State) (a : Nat) {f : Fld} (n : Nat) (h : f.fits) :
    (s.bump a f n).get a f = min (s.get a f + n) (2 ^ f.width - 1) := by
  have hpos := Nat.two_pow_pos f.width
  rw [bump, get_set_same s a _ h, satU]
  split
  · rw [Nat.mod_eq_of_lt (by omega)]
    omega
  · rw [Nat.mod_eq_of_lt (by omega)]
    omega

theorem keepsFields_bump (s : State) (a : Nat) {f : Fld} (n : Nat) (h : f.fits) : KeepsFields s (s.bump a f n) a [f] :=
  fun _ hg => get_set_apart s a _ h (hg f (List.mem_singleton.2 rfl))

/-- The registers of a ring, and those of the DMA block, are no registers of an event. -/
theorem not_eventRegs_of_ring {e a : Nat} (he : e < 2048) (ha : 0x1400000 ≤ a) : ¬ EventRegs e a := by
  simp only [EventRegs, Reg.EVT_SRC_CNT, Reg.EVT_SRC_CFG, Reg.EVT_STATUS]
  omega

/-! ### The value and the position of a write -/

/-- The value that a write which reaches the lower word of a doorbell leaves (R334). -/
def doorbellVal (s : State) (r n v : Nat) : Nat :=
  if n = 8 then v else (s.ring r).doorbell / 2 ^ 32 * 2 ^ 32 + v % 2 ^ 32

/-- The state in which that value stands, and nothing else has happened. -/
def withDoorbell (s : State) (r n v : Nat) : State := s.setRing r { s.ring r with doorbell := s.doorbellVal r n v }

/-- The state in which the new position has been handled, and ARM has not. -/
def withPosition (s : State) (r n v : Nat) : State := (s.withDoorbell r n v).doorbellPos r (s.doorbellVal r n v % 2 ^ 17)

theorem doorbellWrite_low {s : State} {r b n v : Nat} (hn : 4 ≤ n) (hb : 8 ≤ n ∨ b < 4) :
    s.doorbellWrite r b n v
      = if n = 8 ∧ bitAt v 32 ∧ (s.withPosition r n v).ringType r = 2 ∧ (s.withPosition r n v).ringState r ≠ 0
        then (s.withPosition r n v).armCq r else s.withPosition r n v := by
  unfold doorbellWrite
  rw [if_neg (by omega), if_neg (by omega)]
  rfl

theorem doorbellWrite_high {s : State} {r b n v : Nat} (hn : 4 ≤ n) (hn8 : n < 8) (hb : 4 ≤ b) :
    s.doorbellWrite r b n v = s.upperWrite r v := by
  unfold doorbellWrite
  rw [if_neg (by omega), if_pos ⟨hn8, hb⟩]

theorem doorbellWrite_narrow {s : State} {r b n v : Nat} (hn : n < 4) : s.doorbellWrite r b n v = s.narrowAccess 1 (8 * r + b) := by
  unfold doorbellWrite
  rw [if_pos hn]

/-! ### ARM -/

/-- A ring whose coalescing is armed anew. -/
def armedRing (x : RingSt) : RingSt := { x with armed := true, since := 0 }

theorem armCq_of_live {s : State} {r : Nat} (ht : s.ringType r = 2) (hs : s.ringState r ≠ 0) :
    s.armCq r = s.setRing r (armedRing (s.ring r)) := by
  unfold armCq
  rw [if_neg (not_not_intro ht), if_neg hs, armedRing]

/-- What ARM, where a condition asks for it, leaves of a live ring. -/
theorem arm_if {s : State} {r : Nat} {c : Prop} [Decidable c] :
    OnlyRing s (if c ∧ s.ringType r = 2 ∧ s.ringState r ≠ 0 then s.armCq r else s) r
      ∧ (if c ∧ s.ringType r = 2 ∧ s.ringState r ≠ 0 then s.armCq r else s).ring r
        = if c ∧ s.ringType r = 2 ∧ s.ringState r ≠ 0 then armedRing (s.ring r) else s.ring r := by
  by_cases h : c ∧ s.ringType r = 2 ∧ s.ringState r ≠ 0
  · rw [if_pos h, if_pos h, armCq_of_live h.2.1 h.2.2]
    exact ⟨onlyRing_setRing s r _, ring_setRing_same s r _⟩
  · rw [if_neg h, if_neg h]
    exact ⟨onlyRing_refl s r, rfl⟩

/-! ### A write that reaches the lower word -/

theorem onlyRing_withDoorbell (s : State) (r n v : Nat) : OnlyRing s (s.withDoorbell r n v) r := onlyRing_setRing s r _

theorem ring_withDoorbell (s : State) (r n v : Nat) :
    (s.withDoorbell r n v).ring r = { s.ring r with doorbell := s.doorbellVal r n v } := ring_setRing_same s r _

/-- The rings after a write of the lower word: the value is kept, and ARM takes effect on a completion ring that is not DISABLED. -/
def DoorbellKept (s t : State) (r n v : Nat) : Prop :=
  (∀ q, q ≠ r → t.ring q = s.ring q)
    ∧ t.ring r = if n = 8 ∧ bitAt v 32 = true ∧ s.ringType r = 2 ∧ s.ringState r ≠ 0
        then armedRing { s.ring r with doorbell := s.doorbellVal r n v } else { s.ring r with doorbell := s.doorbellVal r n v }

/-- Once the handling of the position leaves the rings, their type and whether this one is DISABLED, the write is all but done. -/
theorem doorbellWrite_of_position {s : State} {r b n v : Nat} {ps : List Part} (hn : 4 ≤ n) (hb : 8 ≤ n ∨ b < 4)
    (hP : Only ps (s.withDoorbell r n v) (s.withPosition r n v)) (hps : Part.rings ∉ ps)
    (ht : (s.withPosition r n v).ringType r = s.ringType r) (hs : (s.withPosition r n v).ringState r = 0 ↔ s.ringState r = 0) :
    DoorbellKept s (s.doorbellWrite r b n v) r n v ∧ OnlyRing (s.withPosition r n v) (s.doorbellWrite r b n v) r := by
  have hring := fun q => Only.ring hP hps q
  obtain ⟨hframe, hr⟩ := arm_if (s := s.withPosition r n v) (r := r) (c := n = 8 ∧ bitAt v 32 = true)
  simp only [and_assoc] at hframe hr
  rw [← doorbellWrite_low hn hb] at hframe hr
  refine ⟨⟨fun q hq => ?_, ?_⟩, hframe⟩
  · rw [hframe.2 q hq, hring, (onlyRing_withDoorbell s r n v).2 q hq]
  · rw [hr, hring, ring_withDoorbell]
    simp only [ht, ne_eq, hs]

theorem withPosition_of_disabled {s : State} {r n v : Nat} (h : s.ringState r = 0) :
    s.withPosition r n v = (s.withDoorbell r n v).bump (Reg.RING_COUNT r) Fld.RING_COUNT_DOORBELLS := by
  unfold withPosition doorbellPos
  exact if_pos h

theorem withPosition_of_valid {s : State} {r n v : Nat} (h : s.ringState r ≠ 0)
    (hv : s.doorbellValid r (s.doorbellVal r n v % 2 ^ 17) = true) :
    s.withPosition r n v
      = (s.withDoorbell r n v).set (Reg.RING_HOST_POS r) Fld.RING_HOST_POS_POS (s.doorbellVal r n v % 2 ^ 17) := by
  unfold withPosition doorbellPos
  exact (if_neg h).trans (if_pos hv)

theorem withPosition_of_invalid {s : State} {r n v : Nat} (h : s.ringState r ≠ 0)
    (hv : ¬ s.doorbellValid r (s.doorbellVal r n v % 2 ^ 17) = true) :
    s.withPosition r n v = (((s.withDoorbell r n v).haltRing r 2).raise Ev.RING_DOORBELL_BAD r).count (Reg.DMA_COUNT 5) := by
  unfold withPosition doorbellPos
  exact (if_neg h).trans (if_neg hv)

theorem doorbellWrite_of_disabled {s : State} {r b n v : Nat} (hn : 4 ≤ n) (hb : 8 ≤ n ∨ b < 4) (h : s.ringState r = 0) :
    let t := s.doorbellWrite r b n v
    DoorbellKept s t r n v
      ∧ t.get (Reg.RING_COUNT r) Fld.RING_COUNT_DOORBELLS = min (s.get (Reg.RING_COUNT r) Fld.RING_COUNT_DOORBELLS + 1) 65535
      ∧ t.hostPos r = s.hostPos r ∧ KeepsFields s t (Reg.RING_COUNT r) [Fld.RING_COUNT_DOORBELLS]
      ∧ KeepsRegs s t (fun a => a = Reg.RING_COUNT r) ∧ Only [.regs, .rings] s t := by
  have hP := withPosition_of_disabled (n := n) (v := v) h
  have hOnly : Only [.regs] (s.withDoorbell r n v) (s.withPosition r n v) := hP ▸ only_bump _ _ _ _
  have hkeep : KeepsRegs (s.withDoorbell r n v) (s.withPosition r n v) (· = Reg.RING_COUNT r) := hP ▸ keeps_bump _ _ _ _
  have hcfg : (s.withPosition r n v).ringType r = s.ringType r :=
    keeps_get hkeep (by simp only [Reg.RING_CFG, Reg.RING_COUNT]; omega) _
  have hstate : (s.withPosition r n v).ringState r = s.ringState r :=
    keeps_get hkeep (by simp only [Reg.RING_STATE, Reg.RING_COUNT]; omega) _
  obtain ⟨hrings, hframe⟩ := doorbellWrite_of_position hn hb hOnly (by decide) hcfg (by rw [hstate])
  have hreg := onlyRing_reg hframe
  have hcount := bump_saturates (s.withDoorbell r n v) (Reg.RING_COUNT r) (f := Fld.RING_COUNT_DOORBELLS) 1 (by decide)
  have hfields := keepsFields_bump (s.withDoorbell r n v) (Reg.RING_COUNT r) (f := Fld.RING_COUNT_DOORBELLS) 1 (by decide)
  rw [← hP] at hcount hfields
  refine ⟨hrings, ?_, ?_, ?_, ?_, ?_⟩
  · rw [get, hreg, ← get, hcount]
    rfl
  · rw [hostPos, get, hreg, hkeep _ (by simp only [Reg.RING_HOST_POS, Reg.RING_COUNT]; omega)]
    rfl
  · intro g hg
    rw [get, hreg, ← get, hfields g hg]
    rfl
  · intro a ha
    rw [hreg, hkeep a ha]
    rfl
  · exact ((onlyRing_withDoorbell s r n v).1.then hOnly (by decide) (by decide)).trans (hframe.1.mono (by decide))

theorem doorbellWrite_of_valid {s : State} {r b n v : Nat} (hn : 4 ≤ n) (hb : 8 ≤ n ∨ b < 4) (h : s.ringState r ≠ 0)
    (hv : s.doorbellValid r (s.doorbellVal r n v % 2 ^ 17) = true) :
    let t := s.doorbellWrite r b n v
    DoorbellKept s t r n v ∧ t.hostPos r = s.doorbellVal r n v % 2 ^ 17 ∧ t.devPos r = s.devPos r ∧ t.ringState r = s.ringState r
      ∧ KeepsRegs s t (fun a => a = Reg.RING_HOST_POS r) ∧ Only [.regs, .rings] s t := by
  have hP := withPosition_of_valid h hv
  have hOnly : Only [.regs] (s.withDoorbell r n v) (s.withPosition r n v) := hP ▸ only_set _ _ _ _
  have hkeep : KeepsRegs (s.withDoorbell r n v) (s.withPosition r n v) (· = Reg.RING_HOST_POS r) := hP ▸ keeps_set _ _ _ _
  have hne : Reg.RING_STATE r ≠ Reg.RING_HOST_POS r := by simp only [Reg.RING_STATE, Reg.RING_HOST_POS]; omega
  have hcfg : (s.withPosition r n v).ringType r = s.ringType r :=
    keeps_get hkeep (by simp only [Reg.RING_CFG, Reg.RING_HOST_POS]; omega) _
  have hstate : (s.withPosition r n v).ringState r = s.ringState r := keeps_get hkeep hne _
  have hdev : (s.withPosition r n v).devPos r = s.devPos r := keeps_get hkeep hne _
  have hpos : (s.withPosition r n v).hostPos r = s.doorbellVal r n v % 2 ^ 17 := by
    rw [hP, hostPos, get_set_same _ _ _ (by decide)]
    exact Nat.mod_mod _ _
  obtain ⟨hrings, hframe⟩ := doorbellWrite_of_position hn hb hOnly (by decide) hcfg (by rw [hstate])
  have hreg := onlyRing_reg hframe
  refine ⟨hrings, ?_, ?_, ?_, ?_, ?_⟩
  · rw [← hpos, hostPos, get, hreg]
    rfl
  · rw [← hdev, devPos, get, hreg]
    rfl
  · rw [← hstate, ringState, get, hreg]
    rfl
  · intro a ha
    rw [hreg, hkeep a ha]
    rfl
  · exact ((onlyRing_withDoorbell s r n v).1.then hOnly (by decide) (by decide)).trans (hframe.1.mono (by decide))

/-! ### A position that is not valid -/

theorem only_haltRing (s : State) (r cause : Nat) : Only [.regs] s (s.haltRing r cause) := (only_set s _ _ _).trans (only_set _ _ _ _)

theorem keeps_haltRing (s : State) (r cause : Nat) : KeepsRegs s (s.haltRing r cause) (· = Reg.RING_STATE r) :=
  KeepsRegs.trans (keeps_set s _ _ _) (keeps_set _ _ _ _)

theorem ringState_haltRing (s : State) (r cause : Nat) : (s.haltRing r cause).ringState r = 3 := by
  rw [ringState, haltRing, get_set_apart _ _ _ (by decide) (by decide), get_set_same _ _ _ (by decide)]
  rfl

theorem cause_haltRing (s : State) (r cause : Nat) :
    (s.haltRing r cause).get (Reg.RING_STATE r) Fld.RING_STATE_CAUSE = cause % 2 ^ 4 := by
  rw [haltRing, get_set_same _ _ _ (by decide)]
  rfl

theorem devPos_haltRing (s : State) (r cause : Nat) : (s.haltRing r cause).devPos r = s.devPos r := by
  rw [devPos, haltRing, get_set_apart _ _ _ (by decide) (by decide), get_set_apart _ _ _ (by decide) (by decide), devPos]

/-- A ring halted for an invalid position: its event and the counter of DMA_COUNT. -/
def badDoorbell (s : State) (r : Nat) : State := ((s.haltRing r 2).raise Ev.RING_DOORBELL_BAD r).count (Reg.DMA_COUNT 5)

/-- The registers that this changes. -/
def BadDoorbellRegs (r a : Nat) : Prop := a = Reg.RING_STATE r ∨ a = Reg.DMA_COUNT 5 ∨ EventRegs Ev.RING_DOORBELL_BAD a

theorem only_badDoorbell (s : State) (r : Nat) : Only eventParts s (s.badDoorbell r) :=
  (((only_haltRing s r 2).mono (by decide)).trans (only_raise _ _ _)).trans ((only_count _ _ _).mono (by decide))

theorem reg_badDoorbell {s : State} {r a : Nat} (ha : 0x1400000 ≤ a) (hd : a ≠ Reg.DMA_COUNT 5) :
    (s.badDoorbell r).reg a = (s.haltRing r 2).reg a := by
  rw [badDoorbell, reg_count_other _ _ hd, raise_reg _ _ _ (not_eventRegs_of_ring (by decide) ha)]

theorem keeps_badDoorbell (s : State) (r : Nat) : KeepsRegs s (s.badDoorbell r) (BadDoorbellRegs r) := by
  intro a ha
  simp only [BadDoorbellRegs, not_or] at ha
  obtain ⟨hr, hd, he⟩ := ha
  rw [badDoorbell, reg_count_other _ _ hd, raise_reg _ _ _ he, keeps_haltRing s r 2 a hr]

theorem not_badDoorbellRegs {r a : Nat} (h1 : 0x1400000 ≤ a) (h2 : a ≠ Reg.RING_STATE r) (h3 : a ≠ Reg.DMA_COUNT 5) :
    ¬ BadDoorbellRegs r a := by
  rintro (h | h | h)
  · exact h2 h
  · exact h3 h
  · exact not_eventRegs_of_ring (by decide) h1 h

theorem badDoorbell_counted (s : State) (r : Nat) :
    (s.badDoorbell r).full (Reg.DMA_COUNT 5) = min (s.full (Reg.DMA_COUNT 5) + 1) (2 ^ 32 - 1) := by
  have hne : Reg.DMA_COUNT 5 ≠ Reg.RING_STATE r := by simp only [Reg.DMA_COUNT, Reg.RING_STATE]; omega
  rw [badDoorbell, full_count_same, full, raise_reg _ _ _ (not_eventRegs_of_ring (by decide) (by decide)),
    keeps_haltRing s r 2 _ hne, ← full]

theorem badDoorbell_occurs (s : State) (r : Nat) : Counted s (s.badDoorbell r) Ev.RING_DOORBELL_BAD := by
  intro hk
  have h1 := (s.haltRing r 2).raise_counts Ev.RING_DOORBELL_BAD r (by decide +kernel) (by rwa [haltRing, set_sys, set_sys])
  have h2 : Reg.EVT_SRC_CNT Ev.RING_DOORBELL_BAD ≠ Reg.RING_STATE r := by
    simp only [Reg.EVT_SRC_CNT, Ev.RING_DOORBELL_BAD, Reg.RING_STATE]; omega
  rw [badDoorbell, full, reg_count_other _ _ (by decide), ← full, h1, full, keeps_haltRing s r 2 _ h2, ← full]

theorem doorbellWrite_of_invalid {s : State} {r b n v : Nat} (hn : 4 ≤ n) (hb : 8 ≤ n ∨ b < 4) (h : s.ringState r ≠ 0)
    (hv : ¬ s.doorbellValid r (s.doorbellVal r n v % 2 ^ 17) = true) :
    let t := s.doorbellWrite r b n v
    DoorbellKept s t r n v ∧ t.hostPos r = s.hostPos r ∧ t.devPos r = s.devPos r ∧ t.ringState r = 3
      ∧ t.get (Reg.RING_STATE r) Fld.RING_STATE_CAUSE = 2 ∧ Counted s t Ev.RING_DOORBELL_BAD
      ∧ t.full (Reg.DMA_COUNT 5) = min (s.full (Reg.DMA_COUNT 5) + 1) (2 ^ 32 - 1)
      ∧ KeepsRegs s t (BadDoorbellRegs r) ∧ Only (([.rings] : List Part) ++ eventParts) s t := by
  have hP : s.withPosition r n v = (s.withDoorbell r n v).badDoorbell r := withPosition_of_invalid h hv
  have hOnly : Only eventParts (s.withDoorbell r n v) (s.withPosition r n v) := hP ▸ only_badDoorbell _ _
  have hkeep : KeepsRegs (s.withDoorbell r n v) (s.withPosition r n v) (BadDoorbellRegs r) := hP ▸ keeps_badDoorbell _ _
  have hplace : 0x1400000 ≤ Reg.RING_STATE r ∧ Reg.RING_STATE r ≠ Reg.DMA_COUNT 5 := by
    simp only [Reg.RING_STATE, Reg.DMA_COUNT]; omega
  have hhalt : (s.withPosition r n v).reg (Reg.RING_STATE r) = ((s.withDoorbell r n v).haltRing r 2).reg (Reg.RING_STATE r) :=
    hP ▸ reg_badDoorbell hplace.1 hplace.2
  have hcfg : (s.withPosition r n v).ringType r = s.ringType r := 
    keeps_get hkeep (not_badDoorbellRegs (by simp only [Reg.RING_CFG]; omega) (by simp only [Reg.RING_CFG, Reg.RING_STATE]; omega)
      (by simp only [Reg.RING_CFG, Reg.DMA_COUNT]; omega)) _
  have hstate : (s.withPosition r n v).ringState r = 3 := by
    rw [ringState, get, hhalt]
    exact ringState_haltRing _ r 2
  obtain ⟨hrings, hframe⟩ := doorbellWrite_of_position hn hb hOnly (by decide) hcfg (by rw [hstate]; omega)
  have hreg := onlyRing_reg hframe
  refine ⟨hrings, ?_, ?_, ?_, ?_, ?_, ?_, ?_, ?_⟩
  · have hh : ¬ BadDoorbellRegs r (Reg.RING_HOST_POS r) :=
      not_badDoorbellRegs (by simp only [Reg.RING_HOST_POS]; omega) (by simp only [Reg.RING_HOST_POS, Reg.RING_STATE]; omega)
        (by simp only [Reg.RING_HOST_POS, Reg.DMA_COUNT]; omega)
    rw [hostPos, get, hreg, hkeep _ hh]
    rfl
  · rw [devPos, get, hreg, hhalt]
    exact devPos_haltRing _ r 2
  · rw [ringState, get, hreg]
    exact hstate
  · rw [get, hreg, hhalt]
    exact cause_haltRing _ r 2
  · intro hk
    rw [full, hreg, hP]
    exact badDoorbell_occurs (s.withDoorbell r n v) r hk
  · rw [full, hreg, hP]
    exact badDoorbell_counted (s.withDoorbell r n v) r
  · intro a ha
    rw [hreg, hkeep a ha]
    rfl
  · exact ((onlyRing_withDoorbell s r n v).1.then hOnly (by decide) (by decide)).trans (hframe.1.mono (by decide))

end Sys2Proof.Machine.State
end

section
/-! The other accesses to doorbells: the upper word, reads, narrow accesses, and the coalescing timeout (R334, R368, O39). -/

namespace Sys2Proof.Machine.State

/-! ### A write of the upper word -/

/-- A ring whose doorbell holds a new upper word. -/
def withUpper (s : State) (r v : Nat) : RingSt :=
  { s.ring r with doorbell := (s.ring r).doorbell % 2 ^ 32 + v % 2 ^ 32 * 2 ^ 32 }

/-- The state in which that word stands, and ARM has not been handled. -/
def putUpper (s : State) (r v : Nat) : State := s.setRing r (s.withUpper r v)

theorem onlyRing_putUpper (s : State) (r v : Nat) : OnlyRing s (s.putUpper r v) r := onlyRing_setRing s r _

theorem ring_putUpper (s : State) (r v : Nat) : (s.putUpper r v).ring r = s.withUpper r v := ring_setRing_same s r _

theorem ringType_putUpper (s : State) (r v : Nat) : (s.putUpper r v).ringType r = s.ringType r := get_setRing s r _ _ _

theorem ringState_putUpper (s : State) (r v : Nat) : (s.putUpper r v).ringState r = s.ringState r := get_setRing s r _ _ _

theorem bitAt_zero (v : Nat) : bitAt v 0 = true ↔ v % 2 = 1 := by
  simp only [bitAt, pow_zero, Nat.div_one, decide_eq_true_eq]

theorem upperWrite_eq (s : State) (r v : Nat) :
    s.upperWrite r v = if bitAt v 0 then (s.putUpper r v).armCq r else s.putUpper r v := rfl

theorem armCq_of_other {s : State} {r : Nat} (h : s.ringType r ≠ 2) : s.armCq r = s := by
  rw [armCq, if_pos h]

theorem armCq_of_disabled {s : State} {r : Nat} (ht : s.ringType r = 2) (hs : s.ringState r = 0) :
    s.armCq r = s.bump (Reg.RING_COUNT r) Fld.RING_COUNT_DOORBELLS := by
  rw [armCq, if_neg (not_not_intro ht), if_pos hs]

theorem upperWrite_off {s : State} {r v : Nat} (h : ¬ (v % 2 = 1 ∧ s.ringType r = 2)) : s.upperWrite r v = s.putUpper r v := by
  rw [upperWrite_eq]
  split
  next hv => exact armCq_of_other fun ht => h ⟨(bitAt_zero v).1 hv, (ringType_putUpper s r v).symm.trans ht⟩
  next => rfl

theorem upperWrite_disabled {s : State} {r v : Nat} (hv : v % 2 = 1) (ht : s.ringType r = 2) (hs : s.ringState r = 0) :
    s.upperWrite r v = (s.putUpper r v).bump (Reg.RING_COUNT r) Fld.RING_COUNT_DOORBELLS := by
  rw [upperWrite_eq, if_pos ((bitAt_zero v).2 hv), armCq_of_disabled ((ringType_putUpper s r v).trans ht) ((ringState_putUpper s r v).trans hs)]

theorem upperWrite_armed {s : State} {r v : Nat} (hv : v % 2 = 1) (ht : s.ringType r = 2) (hs : s.ringState r ≠ 0) :
    s.upperWrite r v = (s.putUpper r v).setRing r (armedRing (s.withUpper r v)) := by
  rw [upperWrite_eq, if_pos ((bitAt_zero v).2 hv), armCq_of_live ((ringType_putUpper s r v).trans ht) (by rwa [ringState_putUpper]),
    ring_putUpper]

theorem upperWrite_does (s : State) (r v : Nat) :
    let t := s.upperWrite r v
    let on := v % 2 = 1 ∧ s.ringType r = 2
    t.ring r = (if on ∧ s.ringState r ≠ 0 then armedRing (s.withUpper r v) else s.withUpper r v)
      ∧ (on ∧ s.ringState r = 0 →
          t.get (Reg.RING_COUNT r) Fld.RING_COUNT_DOORBELLS = min (s.get (Reg.RING_COUNT r) Fld.RING_COUNT_DOORBELLS + 1) 65535)
      ∧ (∀ q, q ≠ r → t.ring q = s.ring q)
      ∧ KeepsRegs s t (fun a => on ∧ s.ringState r = 0 ∧ a = Reg.RING_COUNT r) ∧ Only [.regs, .rings] s t := by
  intro t on
  have hu := onlyRing_putUpper s r v
  have hring := ring_putUpper s r v
  by_cases hon : on
  · by_cases hs : s.ringState r = 0
    · have ht : t = (s.putUpper r v).bump (Reg.RING_COUNT r) Fld.RING_COUNT_DOORBELLS := upperWrite_disabled hon.1 hon.2 hs
      have hb := only_bump (s.putUpper r v) (Reg.RING_COUNT r) Fld.RING_COUNT_DOORBELLS 1
      clear_value t
      subst ht
      refine ⟨?_, fun _ => ?_, fun q hq => ?_, fun a ha => ?_, hu.1.then hb (by decide) (by decide)⟩
      · rw [if_neg fun h => h.2 hs, Only.ring hb (by decide), hring]
      · rw [bump_saturates (s.putUpper r v) (Reg.RING_COUNT r) (f := Fld.RING_COUNT_DOORBELLS) 1 (by decide), get, onlyRing_reg hu, ← get]
        rfl
      · rw [Only.ring hb (by decide), hu.2 q hq]
      · rw [keeps_bump (s.putUpper r v) _ _ 1 a fun h => ha ⟨hon, hs, h⟩, onlyRing_reg hu]
    · have ht : t = (s.putUpper r v).setRing r (armedRing (s.withUpper r v)) := upperWrite_armed hon.1 hon.2 hs
      have hu2 := onlyRing_trans hu (onlyRing_setRing (s.putUpper r v) r (armedRing (s.withUpper r v)))
      clear_value t
      subst ht
      refine ⟨?_, fun h => absurd h.2 hs, hu2.2, fun a _ => onlyRing_reg hu2 a, hu2.1.mono (by decide)⟩
      rw [if_pos ⟨hon, hs⟩, ring_setRing_same]
  · have ht : t = s.putUpper r v := upperWrite_off hon
    clear_value t
    subst ht
    refine ⟨?_, fun h => absurd h.1 hon, hu.2, fun a _ => onlyRing_reg hu a, hu.1.mono (by decide)⟩
    rw [if_neg fun h => hon h.1, hring]

/-! ### Reads -/

theorem barPart_word (v b : Nat) : barPart v b 4 = v / 2 ^ (32 * (b / 4)) % 2 ^ 32 := rfl

theorem barPart_double (v b : Nat) : barPart v b 8 = v := rfl

theorem barPart_narrow {v b n : Nat} (hn : n = 1 ∨ n = 2) (hb : b % 4 + n ≤ 4) : barPart v b n = v / 2 ^ (8 * b) % 2 ^ (8 * n) := by
  have h1 : barPart v b n = v / 2 ^ (32 * (b / 4)) % 2 ^ 32 / 2 ^ (8 * (b % 4)) % 2 ^ (8 * n) := by
    unfold barPart
    rw [if_neg (by omega), if_neg (by omega)]
  have h2 : 32 = 8 * (b % 4) + (8 * n + (32 - 8 * (b % 4) - 8 * n)) := by omega
  have h3 : 32 * (b / 4) + 8 * (b % 4) = 8 * b := by omega
  rw [h1, h2, pow_add 2 (8 * (b % 4)), Nat.mod_mul_right_div_self, pow_add, Nat.mod_mod_of_dvd _ (Nat.dvd_mul_right _ _), ← h2,
    Nat.div_div_eq_div_mul, ← pow_add, h3]

/-! ### Signalling a vector -/

/-- A vector that is masked, or that an active unit cannot send now. -/
def withheld (s : State) (v : Nat) : Bool := bitAt (s.vector v).2.2 0 || (!s.standby && (!s.hostCan || s.stopped))

/-- The pending bits with one more set. -/
def pended (s : State) (v : Nat) : List Nat := if s.host.pba.contains v then s.host.pba else v :: s.host.pba

theorem mem_pended (s : State) (v : Nat) : v ∈ s.pended v := by
  unfold pended
  split
  next h => exact List.contains_iff_mem.1 h
  next => exact List.mem_cons_self

theorem signal_eq (s : State) (v : Nat) :
    s.signal v = if s.withheld v then { s with host := { s.host with pba := s.pended v } }
      else if s.standby then s else { s with out := { s.out with msix := s.out.msix ++ [v] } } := rfl

theorem signal_of_withheld {s : State} {v : Nat} (h : s.withheld v = true) :
    s.signal v = { s with host := { s.host with pba := s.pended v } } := by
  rw [signal_eq, if_pos h]

theorem signal_of_standby {s : State} {v : Nat} (h : s.withheld v = false) (hs : s.standby = true) : s.signal v = s := by
  rw [signal_eq, if_neg (ne_true_of_eq_false h), if_pos hs]

theorem signal_of_sent {s : State} {v : Nat} (h : s.withheld v = false) (hs : s.standby = false) :
    s.signal v = { s with out := { s.out with msix := s.out.msix ++ [v] } } := by
  rw [signal_eq, if_neg (ne_true_of_eq_false h), if_neg (ne_true_of_eq_false hs)]

theorem withheld_active {s : State} {v : Nat} (hs : s.standby = false) :
    s.withheld v = false ↔ s.hostCan = true ∧ s.stopped = false ∧ bitAt (s.vector v).2.2 0 = false := by
  rw [withheld, hs]
  cases bitAt (s.vector v).2.2 0 <;> cases s.hostCan <;> cases s.stopped <;> decide

theorem withheld_standby {s : State} {v : Nat} (hs : s.standby = true) : s.withheld v = bitAt (s.vector v).2.2 0 := by
  rw [withheld, hs, Bool.not_true, Bool.false_and, Bool.or_false]

/-! ### The coalescing timeout -/

/-- A completion ring whose timeout has passed. -/
def disarm (s : State) (r : Nat) : State := s.setRing r { s.ring r with armed := false, since := 0 }

theorem onlyRing_disarm (s : State) (r : Nat) : OnlyRing s (s.disarm r) r := onlyRing_setRing s r _

/-- When CQ_COALESCE_TIMEOUT of a ring signals (R368). -/
def Due (s : State) (r : Nat) : Prop :=
  (s.ring r).armed = true ∧ (s.ring r).since ≠ 0 ∧ s.get (Reg.RING_CQ r) Fld.RING_CQ_TIME_US ≠ 0
    ∧ s.get (Reg.RING_CQ r) Fld.RING_CQ_COUNT ≠ 0

theorem exec_cqCoalesceTimeout_due {s : State} {r : Ring} (h : s.Due r) :
    exec (.cqCoalesceTimeout r) s = .next ((s.disarm r).signal (s.get (Reg.RING_CQ r) Fld.RING_CQ_VECTOR)) :=
  congrArg Host.Outcome.next (if_pos h)

theorem exec_cqCoalesceTimeout_idle {s : State} {r : Ring} (h : ¬ s.Due r) : exec (.cqCoalesceTimeout r) s = .next s :=
  congrArg Host.Outcome.next (if_neg h)

theorem cqCoalesceTimeout_active {s : State} {r : Ring} (h : s.Due r) (hs : s.standby = false) :
    Completes (.cqCoalesceTimeout r) s (fun t =>
      let v := s.get (Reg.RING_CQ r) Fld.RING_CQ_VECTOR
      let now := s.hostCan ∧ s.stopped = false ∧ bitAt (s.vector v).2.2 0 = false
      t.ring r = { s.ring r with armed := false, since := 0 } ∧ (∀ q, q ≠ r.val → t.ring q = s.ring q)
      ∧ (now → t.out.msix = s.out.msix ++ [v] ∧ t.host.pba = s.host.pba) ∧ (¬ now → t.out.msix = s.out.msix ∧ v ∈ t.host.pba)
      ∧ Only [.rings, .pba, .outMsix] s t) := by
  refine ⟨_, exec_cqCoalesceTimeout_due h, ?_⟩
  beta_reduce
  intro v now
  have hr := ring_setRing_same s r { s.ring r with armed := false, since := 0 }
  have hu := onlyRing_disarm s r
  cases hw : (s.disarm r).withheld v with
  | false =>
    have hnow : now := (withheld_active (s := s) hs).1 hw
    rw [signal_of_sent hw hs]
    refine ⟨hr, hu.2, fun _ => ⟨rfl, rfl⟩, fun h => absurd hnow h, hu.1.then (only_out_msix _ _) (by decide) (by decide)⟩
  | true =>
    have hnow : ¬ now := fun h => absurd ((withheld_active (s := s) hs).2 h) (by rw [← ne_eq, Bool.ne_false_iff]; exact hw)
    rw [signal_of_withheld hw]
    refine ⟨hr, hu.2, fun h => absurd h hnow, fun _ => ⟨rfl, mem_pended _ _⟩, hu.1.then (only_host_pba _ _) (by decide) (by decide)⟩

theorem cqCoalesceTimeout_standby {s : State} {r : Ring} (h : s.Due r) (hs : s.standby = true) :
    Completes (.cqCoalesceTimeout r) s (fun t =>
      let v := s.get (Reg.RING_CQ r) Fld.RING_CQ_VECTOR
      t.ring r = { s.ring r with armed := false, since := 0 } ∧ (bitAt (s.vector v).2.2 0 = false → t.host.pba = s.host.pba)
      ∧ (bitAt (s.vector v).2.2 0 → v ∈ t.host.pba) ∧ Only [.rings, .pba] s t) := by
  refine ⟨_, exec_cqCoalesceTimeout_due h, ?_⟩
  beta_reduce
  intro v
  have hr := ring_setRing_same s r { s.ring r with armed := false, since := 0 }
  have hu := onlyRing_disarm s r
  have hm : (s.disarm r).withheld v = bitAt (s.vector v).2.2 0 := withheld_standby (s := s) hs
  cases hw : bitAt (s.vector v).2.2 0 with
  | false =>
    rw [signal_of_standby (hm.trans hw) hs]
    exact ⟨hr, fun _ => rfl, fun h => absurd h (by decide), hu.1.mono (by decide)⟩
  | true =>
    rw [signal_of_withheld (hm.trans hw)]
    exact ⟨hr, fun h => absurd h (by decide), fun _ => mem_pended _ _, hu.1.then (only_host_pba _ _) (by decide) (by decide)⟩

end Sys2Proof.Machine.State
end

section
/-! The MSI-X table and the Pending Bit Array (R329, R368, O39). -/

namespace Sys2Proof.Machine.State

/-! ### A vector of the table -/

/-- Replace a vector of the table. -/
def setVector (s : State) (n : Nat) (e : Nat × Nat × Nat) : State :=
  { s with host := { s.host with msix := mapPut s.host.msix n e } }

theorem vector_setVector_same (s : State) (n : Nat) (e : Nat × Nat × Nat) : (s.setVector n e).vector n = e := by
  rw [vector, setVector, mapFind_mapPut_same, Option.getD_some]

theorem vector_setVector_other (s : State) {n j : Nat} (e : Nat × Nat × Nat) (h : j ≠ n) : (s.setVector n e).vector j = s.vector j := by
  rw [vector, setVector, mapFind_mapPut_other _ _ h, vector]

theorem only_setVector (s : State) (n : Nat) (e : Nat × Nat × Nat) : Only [.pcie] s (s.setVector n e) := by
  intro p hp
  cases p
  case pcie => exact absurd (by decide) hp
  all_goals simp [SamePart, setVector, reg, hbmByte, ring, stream, port]

/-- A vector with one of its four words replaced. -/
def vectorWord (x : Nat × Nat × Nat) (k w : Nat) : Nat × Nat × Nat :=
  match k with
  | 0 => (x.1 / 2 ^ 32 * 2 ^ 32 + w / 4 * 4, x.2.1, x.2.2)
  | 1 => (x.1 % 2 ^ 32 + w * 2 ^ 32, x.2.1, x.2.2)
  | 2 => (x.1, w, x.2.2)
  | _ => (x.1, x.2.1, w % 2)

theorem sendPending_of_none {s : State} (h : s.host.pba = []) : s.sendPending = s := by
  unfold sendPending
  rw [h]
  show { s with host := { s.host with pba := [] } } = s
  rw [← h]

theorem msixWord_of_pba {s : State} {off : Nat} (v : Nat) (h : 0x8000 ≤ off) : s.msixWord off v = s := by
  rw [msixWord, if_pos h]

theorem msixWord_of_table {s : State} {off : Nat} (v : Nat) (h : off < 0x8000) :
    s.msixWord off v = (s.setVector (off / 16) (vectorWord (s.vector (off / 16)) (off / 4 % 4) v)).sendPending := by
  rw [msixWord, if_neg (by omega)]
  rfl

theorem msixWord_of_none_pending {s : State} {off : Nat} (v : Nat) (h : off < 0x8000) (hp : s.host.pba = []) :
    s.msixWord off v = s.setVector (off / 16) (vectorWord (s.vector (off / 16)) (off / 4 % 4) v) := by
  rw [msixWord_of_table v h]
  exact sendPending_of_none hp

theorem only_pba_msix (s : State) (l m : List Nat) :
    Only [.pba, .outMsix] s { s with host := { s.host with pba := l }, out := { s.out with msix := m } } :=
  (only_host_pba s l).then (only_out_msix { s with host := { s.host with pba := l } } m) (by decide) (by decide)

/-- A vector that was masked, pending alone, leaves once it is unmasked. -/
theorem sendPending_of_one {s : State} {v : Nat} (hp : s.host.pba = [v]) (hw : s.withheld v = false) (hs : s.standby = false) :
    s.sendPending = { s with host := { s.host with pba := [] }, out := { s.out with msix := s.out.msix ++ [v] } } := by
  unfold sendPending
  rw [hp]
  exact signal_of_sent (s := { s with host := { s.host with pba := [] } }) hw hs

/-! ### Reads -/

theorem msixRead_of_table {s : State} {off : Nat} (h : off < 0x8000) :
    s.msixRead off = match off / 4 % 4 with
      | 0 => (s.vector (off / 16)).1 % 2 ^ 32
      | 1 => (s.vector (off / 16)).1 / 2 ^ 32
      | 2 => (s.vector (off / 16)).2.1
      | _ => (s.vector (off / 16)).2.2 :=
  if_pos h

/-- The pending bits of a word of the Pending Bit Array, by their places in the word. -/
def pendingPlaces (s : State) (k : Nat) : List Nat := (s.host.pba.filter (fun v => v / 32 == k)).map (· % 32)

theorem mem_pendingPlaces {s : State} {k j : Nat} (hj : j < 32) : j ∈ s.pendingPlaces k ↔ 32 * k + j ∈ s.host.pba := by
  simp only [pendingPlaces, List.mem_map, List.mem_filter, beq_iff_eq]
  constructor
  · rintro ⟨v, ⟨hv, rfl⟩, rfl⟩
    rwa [Nat.div_add_mod]
  · exact fun h => ⟨_, ⟨h, by omega⟩, by omega⟩

theorem pendingPlaces_nodup {s : State} {k : Nat} (h : s.host.pba.Nodup) : (s.pendingPlaces k).Nodup := by
  refine (h.filter _).map_on fun x hx y hy hxy => ?_
  have h1 := beq_iff_eq.1 (List.mem_filter.1 hx).2
  have h2 := beq_iff_eq.1 (List.mem_filter.1 hy).2
  omega

/-- The bits of a sum of distinct powers of 2. -/
theorem testBit_sum_two_pow {l : List Nat} (h : l.Nodup) (j : Nat) : (l.map (2 ^ ·)).sum.testBit j = true ↔ j ∈ l := by
  rw [← Nat.mem_bitIndices, ← List.mem_toFinset, ← List.sum_toFinset _ h, Finset.toFinset_bitIndices_sum_two_pow, List.mem_toFinset]

theorem bitAt_eq_testBit (n j : Nat) : bitAt n j = n.testBit j := by
  rw [bitAt, Nat.testBit_eq_decide_div_mod_eq]

theorem msixRead_of_pba {s : State} {off : Nat} (h1 : 0x8000 ≤ off) (h2 : off < 0x8100) :
    s.msixRead off = ((s.pendingPlaces ((off - 0x8000) / 4)).map (2 ^ ·)).sum := by
  rw [msixRead, if_neg (by omega), if_pos h2, pendingPlaces, List.map_map]
  rfl

theorem bitAt_msixRead_pba {s : State} {off j : Nat} (h1 : 0x8000 ≤ off) (h2 : off < 0x8100) (hp : s.host.pba.Nodup) (hj : j < 32) :
    bitAt (s.msixRead off % 2 ^ 32) j = true ↔ 32 * ((off - 0x8000) / 4) + j ∈ s.host.pba := by
  rw [bitAt_eq_testBit, Nat.testBit_mod_two_pow, decide_eq_true hj, Bool.true_and, msixRead_of_pba h1 h2,
    testBit_sum_two_pow (pendingPlaces_nodup hp), mem_pendingPlaces hj]

theorem msixRead_above {s : State} {off : Nat} (h : 0x8100 ≤ off) : s.msixRead off = 0 := by
  rw [msixRead, if_neg (by omega), if_neg (by omega)]

end Sys2Proof.Machine.State
end

section
/-! Doorbells and vectors as commands (O39). -/

namespace Sys2Proof.Machine

open State

/-! ### The commands -/

/-- The command that writes a doorbell of a ring, by the ring's kind. -/
def doorbellInstr (cq : Bool) (r : Ring) (b : Fin 8) (a : BarAccess) : Instr := if cq then .cqDoorbell r b a else .doorbell r b a

theorem exec_doorbellInstr {cq : Bool} {r : Ring} {b : Fin 8} {a : BarAccess} {s : State} (h : s.ringType r = 2 ↔ cq = true) :
    exec (doorbellInstr cq r b a) s = .next (s.doorbellAccess r b a) := by
  cases cq with
  | true => exact congrArg Host.Outcome.next (if_pos (h.2 rfl))
  | false => exact congrArg Host.Outcome.next (if_neg fun ht => Bool.false_ne_true (h.1 ht))

theorem exec_doorbell_other {r : Ring} {b : Fin 8} {a : BarAccess} {s : State} (h : s.ringType r = 2) :
    exec (.doorbell r b a) s = .next s :=
  congrArg Host.Outcome.next (if_pos h)

theorem exec_cqDoorbell_other {r : Ring} {b : Fin 8} {a : BarAccess} {s : State} (h : s.ringType r ≠ 2) :
    exec (.cqDoorbell r b a) s = .next s :=
  congrArg Host.Outcome.next (if_neg h)

theorem exec_cqArm_narrow {r : Ring} {b : Fin 4} {w : BarWrite} {s : State} (h : w.size < 4) :
    exec (.cqArm r b w) s = .next (s.narrowAccess 1 (8 * r + 4 + b)) :=
  congrArg Host.Outcome.next (if_pos h)

theorem exec_cqArm_word {r : Ring} {b : Fin 4} {w : BarWrite} {s : State} (h : ¬ w.size < 4) :
    exec (.cqArm r b w) s = .next (s.upperWrite r w.value.toNat) :=
  congrArg Host.Outcome.next (if_neg h)

theorem doorbellValid_iff {cq : Bool} {s : State} {r pos : Nat} (h : s.ringType r = 2 ↔ cq = true) :
    s.doorbellValid r pos = true ↔ pos % 65536 < s.ringSize r
      ∧ (if cq then posDiff (s.ringSize r) (s.devPos r) pos else posDiff (s.ringSize r) pos (s.devPos r)) ≤ s.ringSize r := by
  unfold doorbellValid
  cases cq with
  | true => simp [h.2 rfl]
  | false => simp [show s.ringType r ≠ 2 from fun ht => Bool.false_ne_true (h.1 ht)]

theorem exec_msixTableWrite_narrow {line : Fin 4096} {byte : Fin 16} {n : Nat} {v : BitVec 64} {s : State} (h : n < 4) :
    exec (.msixTableWrite line byte (.write n v)) s = .next (s.narrowAccess 2 (16 * line.val + byte.val)) :=
  congrArg Host.Outcome.next (if_pos h)

theorem exec_msixTableWrite_word {line : Fin 4096} {byte : Fin 16} {n : Nat} {v : BitVec 64} {s : State} (h : 4 ≤ n) (h8 : n ≠ 8) :
    exec (.msixTableWrite line byte (.write n v)) s
      = .next (s.msixWord ((16 * line.val + byte.val) / 4 * 4) (v.toNat % 2 ^ 32)) :=
  congrArg Host.Outcome.next ((if_neg (by omega)).trans (if_neg h8))

theorem exec_msixTableWrite_double {line : Fin 4096} {byte : Fin 16} {v : BitVec 64} {s : State} :
    exec (.msixTableWrite line byte (.write 8 v)) s
      = .next ((s.msixWord ((16 * line.val + byte.val) / 4 * 4) (v.toNat % 2 ^ 32)).msixWord
          ((16 * line.val + byte.val) / 4 * 4 + 4) (v.toNat / 2 ^ 32)) :=
  congrArg Host.Outcome.next ((if_neg (by decide)).trans (if_pos rfl))

theorem exec_msixTableRead_word {line : Fin 4096} {byte : Fin 16} {s : State} (h : (16 * line.val + byte.val) % 4 = 0) :
    exec (.msixTableWrite line byte (.read 4)) s
      = .next (s.barAnswer (s.msixRead (16 * line.val + byte.val) % 2 ^ 32)) := by
  have h1 : exec (.msixTableWrite line byte (.read 4)) s = .next (s.barAnswer
      (barPart (s.msixRead ((16 * line.val + byte.val) / 4 * 4)) ((16 * line.val + byte.val) % 4) 4)) :=
    congrArg Host.Outcome.next (if_neg (by decide))
  have h2 : (16 * line.val + byte.val) / 4 * 4 = 16 * line.val + byte.val := by omega
  rw [h1, h2, h, barPart_word, Nat.zero_div, Nat.mul_zero, pow_zero, Nat.div_one]

/-! ### The table -/

/-- The whole of a write that changes words of one vector and meets no pending bit. -/
theorem setVector_does (s : State) (n : Nat) (e : Nat × Nat × Nat) :
    (s.setVector n e).vector n = e ∧ (∀ j, j ≠ n → (s.setVector n e).vector j = s.vector j) ∧ Only [.pcie] s (s.setVector n e) :=
  ⟨vector_setVector_same s n e, fun _ h => vector_setVector_other s e h, only_setVector s n e⟩

theorem setVector_setVector_does (s : State) (n : Nat) (d e : Nat × Nat × Nat) :
    ((s.setVector n d).setVector n e).vector n = e ∧ (∀ j, j ≠ n → ((s.setVector n d).setVector n e).vector j = s.vector j)
      ∧ Only [.pcie] s ((s.setVector n d).setVector n e) :=
  ⟨vector_setVector_same _ n e, fun _ h => (vector_setVector_other _ e h).trans (vector_setVector_other s d h),
    (only_setVector s n d).trans (only_setVector _ n e)⟩

/-- The lower and the upper pair of words of a vector under a write of 64 bits. -/
theorem vectorWord_address (x : Nat × Nat × Nat) (v : Nat) :
    vectorWord (vectorWord x 0 (v % 2 ^ 32)) 1 (v / 2 ^ 32) = (v / 4 * 4, x.2.1, x.2.2) := by
  simp only [vectorWord, Prod.mk.injEq, and_true]
  omega

theorem vectorWord_data (x : Nat × Nat × Nat) (v : Nat) :
    vectorWord (vectorWord x 2 (v % 2 ^ 32)) 3 (v / 2 ^ 32) = (x.1, v % 2 ^ 32, v / 2 ^ 32 % 2) := rfl

theorem msixTableWrite_word {line : Fin 4096} {byte : Fin 16} {n : Nat} {v : BitVec 64} {s : State} (h : 4 ≤ n) (h8 : n ≠ 8)
    (ho : 16 * line.val + byte.val < 0x8000) (hp : s.host.pba = []) :
    exec (.msixTableWrite line byte (.write n v)) s
      = .next (s.setVector line (vectorWord (s.vector line) ((16 * line.val + byte.val) / 4 % 4) (v.toNat % 2 ^ 32))) := by
  have hline : (16 * line.val + byte.val) / 4 * 4 / 16 = line.val := by omega
  have hword : (16 * line.val + byte.val) / 4 * 4 / 4 % 4 = (16 * line.val + byte.val) / 4 % 4 := by omega
  rw [exec_msixTableWrite_word h h8, msixWord_of_none_pending _ (by omega) hp, hline, hword]

theorem msixTableWrite_double {line : Fin 4096} {byte : Fin 16} {v : BitVec 64} {s : State} (ho8 : (16 * line.val + byte.val) % 8 = 0)
    (ho : 16 * line.val + byte.val < 0x8000) (hp : s.host.pba = []) :
    exec (.msixTableWrite line byte (.write 8 v)) s
      = .next ((s.setVector line (vectorWord (s.vector line) (byte / 4) (v.toNat % 2 ^ 32))).setVector line
          (vectorWord (vectorWord (s.vector line) (byte / 4) (v.toNat % 2 ^ 32)) (byte / 4 + 1) (v.toNat / 2 ^ 32))) := by
  have h1 : (16 * line.val + byte.val) / 4 * 4 / 16 = line.val := by omega
  have h2 : ((16 * line.val + byte.val) / 4 * 4 + 4) / 16 = line.val := by omega
  have h3 : (16 * line.val + byte.val) / 4 * 4 / 4 % 4 = byte.val / 4 := by omega
  have h4 : ((16 * line.val + byte.val) / 4 * 4 + 4) / 4 % 4 = byte.val / 4 + 1 := by omega
  rw [exec_msixTableWrite_double, msixWord_of_none_pending _ (by omega) hp, h1, h3,
    msixWord_of_none_pending (s := s.setVector _ _) _ (by omega) hp, h2, h4, vector_setVector_same]

/-- The pending bits left when the only pending vector is unmasked. -/
theorem msixTableWrite_unmask {line : Fin 4096} {byte : Fin 16} {v : BitVec 64} {s : State}
    (ho : 16 * line.val + byte.val = 16 * line.val + 12) (ho2 : 16 * line.val + byte.val < 0x8000) (hv : v.toNat = 0)
    (hp : s.host.pba = [line.val]) (hs : s.standby = false) (hcan : s.hostCan = true) (hstop : s.stopped = false) :
    Completes (.msixTableWrite line byte (.write 4 v)) s (fun t =>
      t.host.pba = [] ∧ t.out.msix = s.out.msix ++ [line.val] ∧ Only [.pcie, .pba, .outMsix] s t) := by
  have h1 : (16 * line.val + byte.val) / 4 * 4 / 16 = line.val := by omega
  have h2 : (16 * line.val + byte.val) / 4 * 4 / 4 % 4 = 3 := by omega
  have hw : (s.setVector line (vectorWord (s.vector line) 3 (v.toNat % 2 ^ 32))).withheld line = false := by
    refine (withheld_active (s := s.setVector _ _) hs).2 ⟨hcan, hstop, ?_⟩
    rw [vector_setVector_same, hv]
    show bitAt (0 % 2 ^ 32 % 2) 0 = false
    decide
  refine ⟨_, exec_msixTableWrite_word (by decide) (by decide), ?_⟩
  rw [msixWord_of_table _ (by omega), h1, h2, sendPending_of_one (s := s.setVector _ _) hp hw hs]
  exact ⟨rfl, rfl, (only_setVector s _ _).then (only_pba_msix _ _ _) (by decide) (by decide)⟩

theorem only_barAnswer (s : State) (v : Nat) : Only [.barData] s (s.barAnswer v) := only_host_barData s v

/-! ### The statement -/

theorem doorbells_written (cq : Bool) (r : Ring) (b : Fin 8) (n : Nat) (v : BitVec 64) (s : State) (ht : s.ringType r = 2 ↔ cq = true) :
    exec (if cq then Instr.cqDoorbell r b (BarAccess.write n v) else Instr.doorbell r b (BarAccess.write n v)) s
      = .next (s.doorbellWrite r b n v.toNat) :=
  exec_doorbellInstr (a := .write n v) ht

/-- Settles O39: the position and ARM of a doorbell write, the upper word, reads, the coalescing timeout, and the words of a vector, each from
the lemma of its own. -/
theorem doorbellsAndVectors : Obligations.DoorbellsAndVectors := by
  refine ⟨?_, ?_, ?_, ?_, ?_, ?_⟩
  · intro cq r b n v s ht i low old val pos valid arm rings
    have hexec : exec i s = .next (s.doorbellWrite r b n v.toNat) := doorbells_written cq r b n v s ht
    have hvalid := doorbellValid_iff (pos := pos) ht
    have hrings : ∀ {t : State}, DoorbellKept s t r n v.toNat → rings t := by
      rintro t ⟨hother, hring⟩
      refine ⟨hother, hring.trans (if_congr ?_ rfl rfl)⟩
      rw [ht]
      show _ ↔ (cq = true ∧ n = 8 ∧ bitAt v.toNat 32 = true) ∧ s.ringState r ≠ 0
      tauto
    refine ⟨fun hn => ?_, fun hlow hs => ?_, fun hlow hs hv => ?_, fun hlow hs hv => ?_⟩
    · exact ⟨_, hexec.trans (congrArg _ (doorbellWrite_narrow hn)), narrowAccess_occurs s _ _⟩
    · obtain ⟨hk, h⟩ := doorbellWrite_of_disabled hlow.1 hlow.2 hs
      exact ⟨_, hexec, hrings hk, h⟩
    · obtain ⟨hk, h⟩ := doorbellWrite_of_valid hlow.1 hlow.2 hs (hvalid.2 hv)
      exact ⟨_, hexec, hrings hk, h⟩
    · obtain ⟨hk, h⟩ := doorbellWrite_of_invalid hlow.1 hlow.2 hs (mt hvalid.1 hv)
      exact ⟨_, hexec, hrings hk, h⟩
  · intro r a b s
    exact ⟨fun h => ⟨s, exec_doorbell_other h, rfl⟩, fun h => ⟨s, exec_cqDoorbell_other h, rfl⟩⟩
  · intro i r b n s hi whole
    have hexec : exec i s = .next (s.barAnswer (barPart whole b n)) := by
      rcases hi with ⟨rfl, ht⟩ | ⟨rfl, ht⟩
      · exact exec_doorbellInstr (cq := false) (a := .read n) (by simp [ht])
      · exact exec_doorbellInstr (cq := true) (a := .read n) (by simp [ht])
    refine ⟨_, hexec, ?_, ?_, ?_, only_barAnswer s _⟩
    · rintro rfl
      exact barPart_double whole b
    · rintro rfl
      exact barPart_word whole b
    · exact fun hn hb => barPart_narrow hn hb
  · intro i r n v s hi
    refine ⟨fun hn => ?_, fun hn => ?_⟩
    · rcases hi with ⟨b, rfl⟩ | ⟨b, _, h4, _⟩
      · exact ⟨_, exec_cqArm_narrow hn, narrowAccess_occurs s _ _⟩
      · omega
    · have hexec : exec i s = .next (s.upperWrite r v.toNat) := by
        rcases hi with ⟨b, rfl⟩ | ⟨b, hb, _, hn8, ⟨rfl, ht⟩ | ⟨rfl, ht⟩⟩
        · exact exec_cqArm_word (by dsimp only; omega)
        · rw [← doorbellWrite_high hn hn8 hb]
          exact doorbells_written false r b n v s (by simp [ht])
        · rw [← doorbellWrite_high hn hn8 hb]
          exact doorbells_written true r b n v s (by simp [ht])
      exact ⟨_, hexec, upperWrite_does s r v.toNat⟩
  · intro r s due
    exact ⟨fun h hs => cqCoalesceTimeout_active h hs, fun h hs => cqCoalesceTimeout_standby h hs,
      fun h => ⟨s, exec_cqCoalesceTimeout_idle h, rfl⟩⟩
  · intro line byte n v s i o
    refine ⟨fun hn => ?_, fun hn ho => ?_, fun hn h8 ho hp => ?_, fun h8 ho8 ho hp => ?_, fun ho ho2 hv hp hs hcan hstop => ?_, fun ho => ?_⟩
    · exact ⟨_, exec_msixTableWrite_narrow hn, narrowAccess_occurs s _ _⟩
    · by_cases h8 : n = 8
      · subst h8
        refine ⟨_, exec_msixTableWrite_double, ?_⟩
        rw [msixWord_of_pba _ (by omega), msixWord_of_pba _ (by omega)]
      · exact ⟨_, exec_msixTableWrite_word hn h8, msixWord_of_pba _ (by omega)⟩
    · exact ⟨_, msixTableWrite_word hn h8 ho hp, setVector_does s i _⟩
    · subst h8
      refine ⟨_, msixTableWrite_double ho8 ho hp, ?_⟩
      obtain ⟨h1, h2⟩ := setVector_setVector_does s i (vectorWord (s.vector i) (byte / 4) (v.toNat % 2 ^ 32))
        (vectorWord (vectorWord (s.vector i) (byte / 4) (v.toNat % 2 ^ 32)) (byte / 4 + 1) (v.toNat / 2 ^ 32))
      refine ⟨h1.trans ?_, h2⟩
      split
      next h16 => rw [show byte.val / 4 = 0 by omega, vectorWord_address]
      next h16 => rw [show byte.val / 4 = 2 by omega, vectorWord_data]
    · exact msixTableWrite_unmask ho ho2 hv hp hs hcan hstop
    · have hline : o / 16 = i := by omega
      refine ⟨_, exec_msixTableRead_word ho, fun h => ?_, fun h1 h2 hp j hj => bitAt_msixRead_pba h1 h2 hp hj, fun h => ?_,
        only_barAnswer s _⟩
      · rw [← hline]
        exact congrArg (· % 2 ^ 32) (msixRead_of_table h)
      · exact congrArg (· % 2 ^ 32) (msixRead_above h)

end Sys2Proof.Machine
end

section
/-! PROOF. What one step does: the command at the front of the queue, or an idle step. -/

namespace Sys2Proof.Machine

namespace State

/-- An idle step takes one free value; then the crossing it names, if any, faults. -/
theorem idleStep_eq (s : State) :
    s.idleStep = (match Config.cdcFault s.freeIx with
      | some x => ({ s with freeIx := s.freeIx + 1 } : State).cdcFault x.1 x.2.1 x.2.2
      | none => { s with freeIx := s.freeIx + 1 }) := by
  unfold idleStep
  cases Config.cdcFault s.freeIx <;> rfl

theorem idleStep_quiet (s : State) (h : Config.cdcFault s.freeIx = none) : s.idleStep = { s with freeIx := s.freeIx + 1 } := by
  rw [idleStep_eq, h]

theorem idleStep_fault (s : State) {c : Nat} {o : Bool} {u : Nat} (h : Config.cdcFault s.freeIx = some (c, o, u)) :
    s.idleStep = ({ s with freeIx := s.freeIx + 1 } : State).cdcFault c o u := by
  rw [idleStep_eq, h]

theorem only_cdcFault (s : State) (c : Nat) (o : Bool) (u : Nat) : Only eventParts s (s.cdcFault c o u) := only_raiseIf s _ _ _

theorem cdcFault_keeps (s : State) (c : Nat) (o : Bool) (u : Nat) : KeepsRegs s (s.cdcFault c o u) (EventRegs Ev.CDC_FAULT) :=
  fun _ h => raiseIf_reg s _ _ _ h

/-- A fault of a FIFO crossing that is powered, clocked and outside a kept reset is counted. -/
theorem cdcFault_counted (s : State) {c : Nat} (o : Bool) (u : Nat) (hc : c ∈ fifoCrossings) (hp : s.pins.pwrOk) (hl : s.pins.loClk)
    (hk : s.sys.keptReset = false) : Counted s (s.cdcFault c o u) Ev.CDC_FAULT := by
  intro held
  have acts : (s.pins.pwrOk && s.pins.loClk && !s.sys.keptReset && fifoCrossings.contains c) = true := by simp [hp, hl, hk, hc]
  unfold cdcFault raiseIf
  rw [if_pos acts]
  exact raise_counts s _ _ (by decide) held

theorem only_idleStep (s : State) : Only (([.free] : List Part) ++ eventParts) s s.idleStep := by
  cases h : Config.cdcFault s.freeIx with
  | none => rw [idleStep_quiet s h]; exact (only_freeIx s _).mono (by decide)
  | some x =>
    rw [idleStep_fault s h]
    exact (only_freeIx s _).then (only_cdcFault _ _ _ _) (by decide) (by decide)

theorem idleStep_keeps (s : State) : KeepsRegs s s.idleStep (EventRegs Ev.CDC_FAULT) := by
  cases h : Config.cdcFault s.freeIx with
  | none => rw [idleStep_quiet s h]; exact fun _ _ => rfl
  | some x => rw [idleStep_fault s h]; exact cdcFault_keeps { s with freeIx := s.freeIx + 1 } _ _ _

end State

theorem step_cons (c : Instr) (rest : List Instr) (s : State) :
    step { s with pending := c :: rest } = exec c { s with pending := rest } := rfl

theorem step_nil (s : State) (h : s.pending = []) : step s = .next s.idleStep := by
  unfold step; rw [h]

/-- Settles O1: the front command by the definition of `step`, the idle step by the frame and the count of a clock crossing's fault. -/
theorem stepRunsTheFrontCommand : Obligations.StepRunsTheFrontCommand := by
  unfold Obligations.StepRunsTheFrontCommand
  refine ⟨step_cons, fun s h => ⟨s.idleStep, step_nil s h, ?_, s.idleStep_keeps, s.only_idleStep, ?_, ?_⟩, ?_⟩
  · have same : s.idleStep.pending = s.pending := s.only_idleStep .pending (by decide)
    rw [same, h]
  · intro quiet p hp
    rw [State.idleStep_quiet s quiet]
    exact State.only_freeIx s _ p (by simpa using hp)
  · intro c o u fault hc hp hl hk
    rw [State.idleStep_fault s fault]
    exact State.cdcFault_counted { s with freeIx := s.freeIx + 1 } o u hc hp hl hk
  · intro s nbits w h
    unfold State.withFetchWord
    rw [h]

end Sys2Proof.Machine
end

section
/-! PROOF. The HBM address map (R371): where the digits of an address go, and how they are found again. -/

namespace Sys2Proof.Machine

/-- The block group of an address, 32 groups of 6 blocks making the rows of R371. -/
def hbmGroup (a : Nat) : Nat := a / 256 / 6

/-- The spreading word of R371: an exclusive or of the digits above the group's lowest five bits. -/
def hbmSpread (u : Nat) : Nat :=
  Nat.xor (Nat.xor (Nat.xor (Nat.xor (u % 32) (u / 32 % 32)) (u / 1024 % 32)) (u / 32768 % 32)) (u / 1048576 % 8)

theorem hbmSpread_lt (u : Nat) : hbmSpread u < 32 := by
  have five : ∀ {x y : Nat}, x < 32 → y < 32 → Nat.xor x y < 32 := fun hx hy => Nat.xor_lt_two_pow (n := 5) hx hy
  unfold hbmSpread
  exact five (five (five (five (by omega) (by omega)) (by omega)) (by omega)) (by omega)

theorem hbmMap_pc (a : Nat) : (hbmMap a).pc = 32 * (a / 256 % 6) + Nat.xor (hbmGroup a % 32) (hbmSpread (hbmGroup a / 32)) := rfl

theorem hbmMap_bank (a : Nat) :
    (hbmMap a).bank = 16 * (hbmGroup a / 32 / 64 % 3) + 4 * (hbmGroup a / 32 / 4 % 4) + hbmGroup a / 32 / 16 % 4 := rfl

theorem hbmMap_row (a : Nat) : (hbmMap a).row = hbmGroup a / 32 / 64 / 3 := rfl

theorem hbmMap_col (a : Nat) : (hbmMap a).col = hbmGroup a / 32 % 4 * 256 + a % 256 := rfl

theorem xor_spread_lt (a u : Nat) : Nat.xor (a % 32) (hbmSpread u) < 32 :=
  Nat.xor_lt_two_pow (n := 5) (by omega) (hbmSpread_lt u)

theorem hbmMap_inRange {a : Nat} (h : a < State.hbmSize) :
    (hbmMap a).pc < 192 ∧ (hbmMap a).bank < 48 ∧ (hbmMap a).row < 24576 ∧ (hbmMap a).col < 1024 := by
  have spread := xor_spread_lt (hbmGroup a) (hbmGroup a / 32)
  rw [hbmMap_pc, hbmMap_bank, hbmMap_row, hbmMap_col]
  unfold State.hbmSize at h
  refine ⟨by omega, by omega, ?_, by omega⟩
  unfold hbmGroup
  omega

/-- Row, bank and page half give back the digits above the pseudo-channel. -/
theorem hbmGroup_high_of_map {a b : Nat} (e : hbmMap a = hbmMap b) : hbmGroup a / 32 = hbmGroup b / 32 := by
  have bank := congrArg HbmPlace.bank e
  have row := congrArg HbmPlace.row e
  have col := congrArg HbmPlace.col e
  rw [hbmMap_bank, hbmMap_bank] at bank
  rw [hbmMap_row, hbmMap_row] at row
  rw [hbmMap_col, hbmMap_col] at col
  generalize hbmGroup a / 32 = u at bank row col ⊢
  generalize hbmGroup b / 32 = v at bank row col ⊢
  have half : u % 4 = v % 4 := by omega
  have stackId : u / 64 % 3 = v / 64 % 3 := by omega
  have bankGroup : u / 4 % 4 = v / 4 % 4 := by omega
  have bankInGroup : u / 16 % 4 = v / 16 % 4 := by omega
  have top : u / 64 = v / 64 := by omega
  omega

theorem hbmMap_injective {a b : Nat} (e : hbmMap a = hbmMap b) : a = b := by
  have high := hbmGroup_high_of_map e
  have pc := congrArg HbmPlace.pc e
  have col := congrArg HbmPlace.col e
  rw [hbmMap_pc, hbmMap_pc, high] at pc
  rw [hbmMap_col, hbmMap_col] at col
  have sa := xor_spread_lt (hbmGroup a) (hbmGroup b / 32)
  have sb := xor_spread_lt (hbmGroup b) (hbmGroup b / 32)
  have stack : a / 256 % 6 = b / 256 % 6 := by omega
  have mixed : Nat.xor (hbmGroup a % 32) (hbmSpread (hbmGroup b / 32)) = Nat.xor (hbmGroup b % 32) (hbmSpread (hbmGroup b / 32)) := by omega
  have low : hbmGroup a % 32 = hbmGroup b % 32 := Nat.xor_left_injective mixed
  unfold hbmGroup at high low
  omega

theorem hbmMap_within_block (x : Nat) {i : Nat} (h : i < 256) :
    hbmMap (256 * x + i) = { hbmMap (256 * x) with col := (hbmMap (256 * x)).col + i } := by
  have block : (256 * x + i) / 256 = 256 * x / 256 := by omega
  have byte : (256 * x + i) % 256 = 256 * x % 256 + i := by omega
  simp only [hbmMap, block, byte, Nat.add_assoc]

/-- Block `i` of an aligned run of 192 lies in pseudo-channel `i % 6` of a stack's 32, spread by the run's own word. -/
theorem hbmMap_pc_run (run : Nat) {i : Nat} (h : i < 192) :
    (hbmMap (49152 * run + 256 * i)).pc = 32 * (i % 6) + Nat.xor (i / 6) (hbmSpread run) := by
  have block : (49152 * run + 256 * i) / 256 = 192 * run + i := by omega
  have group : hbmGroup (49152 * run + 256 * i) = 32 * run + i / 6 := by unfold hbmGroup; omega
  have high : (32 * run + i / 6) / 32 = run := by omega
  have low : (32 * run + i / 6) % 32 = i / 6 := by omega
  have stack : (192 * run + i) % 6 = i % 6 := by omega
  rw [hbmMap_pc, block, group, high, low, stack]

theorem hbmMap_run_onto (run : Nat) {pc : Nat} (h : pc < 192) :
    ∃ i < 192, (hbmMap (49152 * run + 256 * i)).pc = pc
      ∧ ∀ j < 192, (hbmMap (49152 * run + 256 * j)).pc = pc → j = i := by
  have below : ∀ x < 32, Nat.xor x (hbmSpread run) < 32 := fun x hx => Nat.xor_lt_two_pow (n := 5) hx (hbmSpread_lt run)
  have q := below (pc % 32) (by omega)
  have back : Nat.xor (Nat.xor (pc % 32) (hbmSpread run)) (hbmSpread run) = pc % 32 := Nat.xor_xor_cancel_right _ _
  refine ⟨6 * Nat.xor (pc % 32) (hbmSpread run) + pc / 32, by omega, ?_, ?_⟩
  · rw [hbmMap_pc_run run (by omega)]
    have digit : (6 * Nat.xor (pc % 32) (hbmSpread run) + pc / 32) / 6 = Nat.xor (pc % 32) (hbmSpread run) := by omega
    rw [digit, back]
    omega
  · intro j hj e
    rw [hbmMap_pc_run run hj] at e
    have sj := below (j / 6) (by omega)
    have digit : Nat.xor (j / 6) (hbmSpread run) = pc % 32 := by omega
    have found : j / 6 = Nat.xor (pc % 32) (hbmSpread run) := by
      rw [← digit]; exact (Nat.xor_xor_cancel_right _ _).symm
    omega

/-- Settles O45: the map's digits recovered one from another (R371), and the worked example by evaluation. -/
theorem hbmAddressMap : Obligations.HbmAddressMap := by
  unfold Obligations.HbmAddressMap
  exact ⟨fun _ h => hbmMap_inRange h, fun _ _ _ _ e => hbmMap_injective e, fun x _ h => hbmMap_within_block x h,
    fun run _ h => hbmMap_run_onto run h, by decide, by decide⟩

end Sys2Proof.Machine
end

section
/-! PROOF. The island reset (R558) on a state whose firing names an almanac entry past the 256 of R444. -/

namespace Sys2Proof.Machine

/-- A time command of the almanac waits, and its firing names entry 0x3FE00, whose STATUS word would lie at the offset of ADC_CFG. -/
def strayFiring : State :=
  { time := { jobs := [(.exec 0, 0, { })] }
    alm := { execs := [{ seq := 0, entry := 0x3FE00, ring := 0, desc := [], record := [] }] } }

theorem exec_islandReset (s : State) : exec .islandReset s = .next (if s.sys.checking then s else s.islandReset) := rfl

theorem strayFiring_islandReset : exec .islandReset strayFiring = .next strayFiring.islandReset := by
  rw [exec_islandReset, if_neg (by decide)]

/-- The answer REF_STOPPED lands in the converter's block. -/
theorem strayFiring_changes_adcCfg : strayFiring.islandReset.reg Reg.ADC_CFG ≠ strayFiring.reg Reg.ADC_CFG := by decide

theorem adcCfg_outside_islandReset : ¬ (InBlock [17, 18, 19, 21] Reg.ADC_CFG ∨ ∃ r < 16384, Reg.ADC_CFG = Reg.RING_COUNT r) := by
  have block : blockOf Reg.ADC_CFG = some ⟨20, 0x2000000, 0x20FFFFF⟩ := by decide
  rintro (⟨b, found, listed⟩ | ⟨r, bound, same⟩)
  · obtain rfl : (⟨20, 0x2000000, 0x20FFFFF⟩ : Block) = b := Option.some.inj (block.symm.trans found)
    exact absurd listed (by decide)
  · simp only [Reg.ADC_CFG, Reg.RING_COUNT] at same
    omega

/-- Refutes O59: the statement is about every state, and on `strayFiring` (which no run reaches: an entry's number is below 256) the island
reset answers the waiting time command by writing STATUS of an entry that lies outside the almanac's block, so the register frame of the
island reset (R558) does not hold. -/
theorem not_stopAndResets : ¬ Obligations.StopAndResets := by
  unfold Obligations.StopAndResets
  rintro ⟨-, -, -, -, -, -, -, -, -, -, islandClause, -⟩
  obtain ⟨-, -, resets⟩ := islandClause strayFiring
  obtain ⟨t, run, -, -, -, -, -, -, -, keeps, -⟩ := resets (by decide) (by decide) rfl
  obtain rfl : strayFiring.islandReset = t := Host.Outcome.next.inj (strayFiring_islandReset.symm.trans run)
  exact strayFiring_changes_adcCfg (keeps _ adcCfg_outside_islandReset)

end Sys2Proof.Machine
end

section
/-! SUPPORT. Frames of parts and registers together, and those of the links and of a yield of the twin pair (R83, R531, R532). -/

namespace Sys2Proof.Machine

/-- What an operation changes at most: some parts of the state and, of the registers, some. -/
structure Changes (ps : List Part) (P : Nat → Prop) (s t : State) : Prop where
  parts : Only ps s t
  regs : KeepsRegs s t P

namespace Changes

variable {ps qs : List Part} {P Q : Nat → Prop} {s t u : State}

theorem refl (ps : List Part) (P : Nat → Prop) (s : State) : Changes ps P s s := ⟨.refl ps s, fun _ _ => rfl⟩

theorem trans (h : Changes ps P s t) (k : Changes ps P t u) : Changes ps P s u :=
  ⟨h.parts.trans k.parts, fun a ha => (k.regs a ha).trans (h.regs a ha)⟩

theorem mono (h : Changes ps P s t) (hp : ∀ p ∈ ps, p ∈ qs) (hP : ∀ a, P a → Q a) : Changes qs Q s t :=
  ⟨h.parts.mono hp, fun a ha => h.regs a (fun k => ha (hP a k))⟩

/-- Parts other than the registers. -/
theorem of_only (h : Only ps s t) (hp : Part.regs ∉ ps) : Changes ps P s t := ⟨h, fun a _ => h .regs hp a⟩

theorem each {α : Type} {f : State → α → State} (l : List α) (h : ∀ s, ∀ x ∈ l, Changes ps P s (f s x)) (s : State) :
    Changes ps P s (s.each l f) := by
  induction l generalizing s with
  | nil => exact refl ps P s
  | cons x l ih =>
    exact (h s x List.mem_cons_self).trans (ih (fun s y hy => h s y (List.mem_cons_of_mem x hy)) (f s x))

theorem get_eq (h : Changes ps P s t) {a : Nat} (ha : ¬ P a) (f : Fld) : t.get a f = s.get a f := State.keeps_get h.regs ha f

theorem flag_eq (h : Changes ps P s t) {a : Nat} (ha : ¬ P a) (f : Fld) : t.flag a f = s.flag a f := State.keeps_flag h.regs ha f

theorem full_eq (h : Changes ps P s t) {a : Nat} (ha : ¬ P a) : t.full a = s.full a := by simp only [State.full, h.regs a ha]

end Changes

namespace State

theorem changes_set (s : State) (a : Nat) (f : Fld) (v : Nat) : Changes [.regs] (· = a) s (s.set a f v) :=
  ⟨only_set s a f v, keeps_set s a f v⟩

theorem changes_setFlag (s : State) (a : Nat) (f : Fld) (b : Bool) : Changes [.regs] (· = a) s (s.setFlag a f b) :=
  ⟨only_setFlag s a f b, keeps_setFlag s a f b⟩

theorem changes_wrN (s : State) (a v : Nat) : Changes [.regs] (· = a) s (s.wrN a v) := ⟨only_wrN s a v, keeps_wrN s a v⟩

theorem changes_count (s : State) (a n : Nat) : Changes [.regs] (· = a) s (s.count a n) := ⟨only_count s a n, keeps_count s a n⟩

theorem changes_raise (s : State) (e d : Nat) : Changes eventParts (EventRegs e) s (s.raise e d) :=
  ⟨only_raise s e d, fun _ h => raise_reg s e d h⟩

/-! ### Sending on links -/

theorem only_setLink (s : State) (k : Nat) (x : LinkSt) : Only [.links] s (s.setLink k x) := only_lanes_links s _

theorem only_emitFlit (s : State) (k type vc seq : Nat) (p : List Byte) : Only [.links, .outFlits] s (s.emitFlit k type vc seq p) :=
  (only_setLink s k _).then (only_out_flits _ _) (by decide) (by decide)

theorem only_pump (s : State) (k fuel : Nat) : Only [.links, .outFlits] s (s.pump k fuel) := by
  induction fuel generalizing s with
  | zero => exact .refl _ s
  | succ n ih =>
    unfold pump; dsimp only; split
    · exact .refl _ s
    · split
      · exact .refl _ s
      · exact (((only_setLink s k _).mono (by decide)).trans (only_emitFlit _ _ _ _ _ _)).trans (ih _)

theorem changes_pumpAll (s : State) (k : Nat) (P : Nat → Prop) : Changes sendParts P s (s.pumpAll k) :=
  (Changes.of_only (only_pump s k _) (by decide)).mono (by decide) fun _ h => h

theorem changes_setLink (s : State) (k : Nat) (x : LinkSt) (P : Nat → Prop) : Changes sendParts P s (s.setLink k x) :=
  (Changes.of_only (only_setLink s k x) (by decide)).mono (by decide) fun _ h => h

theorem changes_linkRefuse (s : State) (k : Nat) : Changes sendParts (EventRegs Ev.BALRAN_TX_BACKLOG) s (s.linkRefuse k) := by
  unfold linkRefuse; split
  · exact .refl _ _ s
  · exact (changes_setLink s k _ _).trans ((changes_raise _ _ _).mono (by decide) fun _ h => h)

theorem changes_sendVc0 (s : State) (k : Nat) (p : List Byte) :
    Changes sendParts (EventRegs Ev.BALRAN_TX_BACKLOG) s (s.sendVc0 k p) := by
  unfold sendVc0; dsimp only; split
  · exact (changes_setLink s k _ _).trans (changes_pumpAll _ k _)
  · exact changes_linkRefuse s k

theorem changes_twinVc0 (s : State) (p : List Byte) : Changes sendParts (EventRegs Ev.BALRAN_TX_BACKLOG) s (s.twinVc0 p) := by
  unfold twinVc0; split
  · exact changes_sendVc0 s _ p
  · exact .refl _ _ s

/-! ### A cause of the self-diagnosis -/

/-- The registers that a yield, or its report, may change. -/
def YieldRegs (a : Nat) : Prop :=
  a = Reg.TWIN_STATUS ∨ a = Reg.TWIN_COUNT 0 ∨ EventRegs Ev.TWIN_YIELD a ∨ EventRegs Ev.BALRAN_TX_BACKLOG a

/-- What a cause of the self-diagnosis touches. -/
def faultParts : List Part := ([.pins, .twin] : List Part) ++ sendParts

theorem changes_yieldNow (s : State) (cause : Nat) : Changes faultParts YieldRegs s (s.yieldNow cause) := by
  unfold yieldNow takeRole; dsimp only
  refine .trans (.trans (.trans (.trans (.trans (.trans
    ((Changes.of_only (only_pins s _) (by decide)).mono (by decide) fun _ h => h)
    ((changes_twinVc0 _ _).mono (by decide) fun _ h => .inr (.inr (.inr h))))
    ((changes_raise _ _ _).mono (by decide) fun _ h => .inr (.inr (.inl h))))
    ((changes_set _ _ _ _).mono (by decide) fun _ h => .inl h))
    ((changes_count _ _ _).mono (by decide) fun _ h => .inr (.inl h)))
    ((changes_set _ _ _ _).mono (by decide) fun _ h => .inl h))
    ((Changes.of_only (only_pins _ _) (by decide)).mono (by decide) fun _ h => h)

theorem changes_selfFault (s : State) (cause : Nat) : Changes faultParts YieldRegs s (s.selfFault cause) := by
  unfold selfFault; split
  · split
    · exact changes_yieldNow s cause
    · exact ((changes_set s _ _ _).mono (by decide) fun _ h => .inl h).trans
        ((changes_raise _ _ _).mono (by decide) fun _ h => .inr (.inr (.inl h)))
  · exact (Changes.of_only (only_twin s _) (by decide)).mono (by decide) fun _ h => h

end State

end Sys2Proof.Machine
end

section
/-! SUPPORT. Arbitration of the chip matrix (R34, R393): which waiting request a target grants. -/

namespace Sys2Proof.Machine

namespace State

/-- Two requests of one master to one 256-byte block. -/
def SameBlock (p o : MatrixReq) : Prop := p.master = o.master ∧ p.addr / 256 = o.addr / 256

/-- Request `o` stands at position `i` for target `t`, and none older there or in `older` is of its master and block (R393). -/
def Leads (t : Nat) (older : List MatrixReq) (l : List (Nat × MatrixReq)) (i : Nat) (o : MatrixReq) : Prop :=
  l[i]? = some (t, o) ∧ (∀ p ∈ older, ¬ SameBlock p o) ∧ ∀ j < i, ∀ p, l[j]? = some (t, p) → ¬ SameBlock p o

section Leads

variable {t i : Nat} {older : List MatrixReq} {w : Nat × MatrixReq} {l : List (Nat × MatrixReq)} {o : MatrixReq}

theorem leads_zero : Leads t older (w :: l) 0 o ↔ w = (t, o) ∧ ∀ p ∈ older, ¬ SameBlock p o := by
  simp [Leads]

theorem leads_succ_other (h : w.1 ≠ t) : Leads t older (w :: l) (i + 1) o ↔ Leads t older l i o := by
  constructor
  · rintro ⟨at', fresh, first⟩
    exact ⟨at', fresh, fun j hj p hp => first (j + 1) (by omega) p hp⟩
  · rintro ⟨at', fresh, first⟩
    refine ⟨at', fresh, fun j hj p hp => ?_⟩
    cases j with
    | zero => exact absurd (congrArg Prod.fst (Option.some.inj hp)) h
    | succ j => exact first j (by omega) p hp

theorem leads_succ_same (h : w.1 = t) : Leads t older (w :: l) (i + 1) o ↔ Leads t (w.2 :: older) l i o := by
  constructor
  · rintro ⟨at', fresh, first⟩
    refine ⟨at', List.forall_mem_cons.2 ⟨first 0 (by omega) w.2 (by rw [← h]; rfl), fresh⟩, fun j hj p hp => first (j + 1) (by omega) p hp⟩
  · rintro ⟨at', fresh, first⟩
    obtain ⟨here, fresh⟩ := List.forall_mem_cons.1 fresh
    refine ⟨at', fresh, fun j hj p hp => ?_⟩
    cases j with
    | zero =>
      obtain rfl : w.2 = p := congrArg Prod.snd (Option.some.inj hp)
      exact here
    | succ j => exact first j (by omega) p hp

/-- A request behind an older one of its block keeps back nobody that the older one does not. -/
theorem leads_cons_blocked (h : ∃ p ∈ older, SameBlock p w.2) : Leads t (w.2 :: older) l i o ↔ Leads t older l i o := by
  obtain ⟨p, hp, master, block⟩ := h
  refine and_congr_right fun _ => and_congr_left fun _ => ?_
  rw [List.forall_mem_cons, and_iff_right_iff_imp]
  exact fun fresh same => fresh p hp ⟨master.trans same.1, block.trans same.2⟩

end Leads

theorem any_sameBlock {older : List MatrixReq} {o : MatrixReq} :
    (older.any (fun r => r.master == o.master && r.addr / 256 == o.addr / 256)) = true ↔ ∃ p ∈ older, SameBlock p o := by
  simp [SameBlock]

/-- The contenders are the requests that lead. -/
theorem mem_contenders {t : Nat} {older : List MatrixReq} {l : List (Nat × MatrixReq)} {o : MatrixReq} :
    o ∈ contenders t older l ↔ ∃ i, Leads t older l i o := by
  induction l generalizing older with
  | nil => simp [contenders, Leads]
  | cons w l ih =>
    unfold contenders
    rw [← Nat.or_exists_add_one, leads_zero]
    split
    next other =>
      have no : w ≠ (t, o) := fun e => other (congrArg Prod.fst e)
      simp only [leads_succ_other other, no, false_and, false_or, ih]
    next mine =>
      have mine : w.1 = t := not_not.1 mine
      simp only [leads_succ_same mine]
      split
      next blocked =>
        have blocked := any_sameBlock.1 blocked
        simp only [leads_cons_blocked blocked, ih]
        refine (or_iff_right ?_).symm
        rintro ⟨rfl, fresh⟩
        obtain ⟨p, hp, same⟩ := blocked
        exact fresh p hp same
      next clear =>
        rw [any_sameBlock] at clear
        have here : (w = (t, o) ∧ ∀ p ∈ older, ¬ SameBlock p o) ↔ o = w.2 := by
          constructor
          · rintro ⟨rfl, -⟩; rfl
          · rintro rfl; exact ⟨by rw [← mine], fun p hp same => clear ⟨p, hp, same⟩⟩
        rw [List.mem_cons, ih, here]

/-- The first contender with a property stands before every other one with it. -/
theorem find_contenders {t : Nat} {older : List MatrixReq} {l : List (Nat × MatrixReq)} {q : MatrixReq → Bool} {r : MatrixReq}
    (h : (contenders t older l).find? q = some r) :
    ∃ i, Leads t older l i r ∧ q r = true ∧ ∀ j o, Leads t older l j o → q o = true → i ≤ j := by
  induction l generalizing older with
  | nil => simp [contenders] at h
  | cons w l ih =>
    unfold contenders at h
    split at h
    next other =>
      obtain ⟨i, lead, holds, first⟩ := ih h
      refine ⟨i + 1, (leads_succ_other other).2 lead, holds, fun j o lj ho => ?_⟩
      cases j with
      | zero => exact absurd (congrArg Prod.fst (leads_zero.1 lj).1) other
      | succ j => exact Nat.succ_le_succ (first j o ((leads_succ_other other).1 lj) ho)
    next mine =>
      have mine : w.1 = t := not_not.1 mine
      split at h
      next blocked =>
        have blocked := any_sameBlock.1 blocked
        obtain ⟨i, lead, holds, first⟩ := ih h
        refine ⟨i + 1, (leads_succ_same mine).2 ((leads_cons_blocked blocked).2 lead), holds, fun j o lj ho => ?_⟩
        cases j with
        | zero =>
          obtain ⟨rfl, fresh⟩ := leads_zero.1 lj
          obtain ⟨p, hp, same⟩ := blocked
          exact absurd same (fresh p hp)
        | succ j => exact Nat.succ_le_succ (first j o ((leads_cons_blocked blocked).1 ((leads_succ_same mine).1 lj)) ho)
      next clear =>
        rw [any_sameBlock] at clear
        rw [List.find?_cons] at h
        split at h
        next holds =>
          obtain rfl : w.2 = r := Option.some.inj h
          exact ⟨0, leads_zero.2 ⟨by rw [← mine], fun p hp same => clear ⟨p, hp, same⟩⟩, holds, fun _ _ _ _ => Nat.zero_le _⟩
        next fails =>
          obtain ⟨i, lead, holds, first⟩ := ih h
          refine ⟨i + 1, (leads_succ_same mine).2 lead, holds, fun j o lj ho => ?_⟩
          cases j with
          | zero =>
            obtain ⟨rfl, -⟩ := leads_zero.1 lj
            exact absurd ho (by simp [fails])
          | succ j => exact Nat.succ_le_succ (first j o ((leads_succ_same mine).1 lj) ho)

theorem dropWaiting_eq_eraseIdx {t i : Nat} {r : MatrixReq} {l : List (Nat × MatrixReq)} (h : l[i]? = some (t, r))
    (first : ∀ j < i, l[j]? ≠ some (t, r)) : dropWaiting t r l = l.eraseIdx i := by
  induction l generalizing i with
  | nil => simp at h
  | cons w l ih =>
    unfold dropWaiting
    cases i with
    | zero =>
      obtain rfl : w = (t, r) := Option.some.inj h
      simp
    | succ i =>
      have no : ¬ (w.1 = t ∧ w.2 = r) := fun e => first 0 (by omega) (congrArg some (Prod.ext e.1 e.2))
      rw [if_neg no, List.eraseIdx_cons_succ, ih h fun j hj => first (j + 1) (by omega)]

theorem dropWaiting_of_leads {t i : Nat} {r : MatrixReq} {l : List (Nat × MatrixReq)} (h : Leads t [] l i r) :
    dropWaiting t r l = l.eraseIdx i :=
  dropWaiting_eq_eraseIdx h.1 fun j hj e => h.2.2 j hj r e ⟨rfl, rfl⟩

/-! ### The lowest class, then the next master -/

theorem foldl_min_spec (l : List Nat) (b : Nat) :
    l.foldl min b ≤ b ∧ (∀ x ∈ l, l.foldl min b ≤ x) ∧ (l.foldl min b = b ∨ l.foldl min b ∈ l) := by
  induction l generalizing b with
  | nil => simp
  | cons y l ih =>
    obtain ⟨low, all, one⟩ := ih (min b y)
    rw [List.foldl_cons]
    refine ⟨by omega, List.forall_mem_cons.2 ⟨by omega, all⟩, ?_⟩
    rcases one with one | one
    · rcases Nat.le_total b y with h | h
      · exact .inl (by omega)
      · exact .inr (List.mem_cons.2 (.inl (by omega)))
    · exact .inr (List.mem_cons_of_mem _ one)

/-- How far a master is from its turn, after the last one granted. -/
def turnOf (last m : Nat) : Nat := if last < m then m else m + 24

/-- Round robin: of ascending masters below 24, the first after the last one granted, else the first. -/
theorem nextMaster_spec {l : List Nat} (rising : l.Pairwise (· < ·)) (bound : ∀ m ∈ l, m < 24) (some' : l ≠ []) (last : Nat) :
    ((l.find? (fun m => decide (last < m))).or l.head?).getD 24 ∈ l
      ∧ ∀ m ∈ l, turnOf last (((l.find? (fun m => decide (last < m))).or l.head?).getD 24) ≤ turnOf last m := by
  cases found : l.find? (fun m => decide (last < m)) with
  | some n =>
    obtain ⟨after, before, behind, rfl, none'⟩ := List.find?_eq_some_iff_append.1 found
    have after : last < n := by simpa using after
    refine ⟨by simp, fun m hm => ?_⟩
    have mine : turnOf last n = n := if_pos after
    have bound := bound n (by simp)
    simp only [Option.some_or, Option.getD_some, mine]
    unfold turnOf
    split
    next later =>
      rcases List.mem_append.1 hm with early | late
      · exact absurd later (by simpa using none' m early)
      · rcases List.mem_cons.1 late with rfl | late
        · exact le_rfl
        · exact le_of_lt (List.rel_of_pairwise_cons (List.pairwise_append.1 rising).2.1 late)
    next => omega
  | none =>
    obtain ⟨n, tail, rfl⟩ := List.exists_cons_of_ne_nil some'
    have none' : ∀ m ∈ n :: tail, m ≤ last := by simpa using List.find?_eq_none.1 found
    refine ⟨by simp, fun m hm => ?_⟩
    have least : n ≤ m := by
      rcases List.mem_cons.1 hm with rfl | late
      · exact le_rfl
      · exact le_of_lt (List.rel_of_pairwise_cons rising late)
    have mine : turnOf last n = n + 24 := if_neg (Nat.not_lt.2 (none' n List.mem_cons_self))
    have other : turnOf last m = m + 24 := if_neg (Nat.not_lt.2 (none' m hm))
    simp only [Option.none_or, List.head?_cons, Option.getD_some, mine, other]
    omega

/-- A request contends for a target's grant: it leads and the target has room for it. -/
def Contends (s : State) (t i : Nat) (o : MatrixReq) : Prop := Leads t [] s.xbar.waiting i o ∧ s.hbmRoom t o = true

/-- The last master that a target granted in a class. -/
def lastGranted (s : State) (t c : Nat) : Nat := (mapFind s.xbar.last (4 * t + c)).getD 23

/-- The requests that contend, those of the lowest class, and their masters, as `choose` gathers them. -/
def contending (s : State) (t : Nat) : List MatrixReq := (contenders t [] s.xbar.waiting).filter (s.hbmRoom t)
def lowestClass (s : State) (t : Nat) : Nat := ((s.contending t).map (·.cls.val)).foldl min 3
def topRequests (s : State) (t : Nat) : List MatrixReq := (s.contending t).filter (fun r => r.cls.val == s.lowestClass t)
def topMasters (s : State) (t : Nat) : List Nat := (List.range 24).filter (fun m => (s.topRequests t).any (fun r => r.master.val == m))
def nextMaster (s : State) (t : Nat) : Nat :=
  (((s.topMasters t).find? (fun m => decide (s.lastGranted t (s.lowestClass t) < m))).or (s.topMasters t).head?).getD 24

theorem choose_eq (s : State) (t : Nat) : s.choose t = (s.topRequests t).find? (fun r => r.master.val == s.nextMaster t) := rfl

theorem mem_contending {s : State} {t : Nat} {o : MatrixReq} : o ∈ s.contending t ↔ ∃ i, s.Contends t i o := by
  simp only [contending, List.mem_filter, mem_contenders, Contends, exists_and_right]

theorem lowestClass_le {s : State} {t : Nat} {o : MatrixReq} (h : o ∈ s.contending t) : s.lowestClass t ≤ o.cls.val :=
  (foldl_min_spec _ 3).2.1 _ (List.mem_map_of_mem h)

theorem exists_lowestClass {s : State} {t : Nat} {o : MatrixReq} (h : o ∈ s.contending t) : ∃ r ∈ s.contending t, r.cls.val = s.lowestClass t := by
  rcases (foldl_min_spec ((s.contending t).map (·.cls.val)) 3).2.2 with three | member
  · have low := lowestClass_le h
    have top := o.cls.isLt
    exact ⟨o, h, le_antisymm (by unfold lowestClass; omega) low⟩
  · obtain ⟨r, hr, e⟩ := List.mem_map.1 member
    exact ⟨r, hr, e⟩

theorem mem_topMasters {s : State} {t m : Nat} : m ∈ s.topMasters t ↔ ∃ r ∈ s.topRequests t, r.master.val = m := by
  simp only [topMasters, List.mem_filter, List.mem_range, List.any_eq_true, beq_iff_eq, and_iff_right_iff_imp]
  rintro ⟨r, -, rfl⟩
  exact r.master.isLt

theorem nextMaster_turn {s : State} {t : Nat} {o : MatrixReq} (h : o ∈ s.contending t) :
    s.nextMaster t ∈ s.topMasters t
      ∧ ∀ m ∈ s.topMasters t, turnOf (s.lastGranted t (s.lowestClass t)) (s.nextMaster t) ≤ turnOf (s.lastGranted t (s.lowestClass t)) m := by
  refine nextMaster_spec (List.pairwise_lt_range.filter _) (fun m hm => List.mem_range.1 (List.mem_of_mem_filter hm)) ?_ _
  obtain ⟨r, hr, low⟩ := exists_lowestClass h
  exact List.ne_nil_of_mem (mem_topMasters.2 ⟨r, List.mem_filter.2 ⟨hr, by simpa using low⟩, rfl⟩)

theorem choose_none {s : State} {t : Nat} (h : ∀ i o, ¬ s.Contends t i o) : s.choose t = none := by
  have none' : s.contending t = [] := List.eq_nil_iff_forall_not_mem.2 fun o ho => by
    obtain ⟨i, hi⟩ := mem_contending.1 ho
    exact h i o hi
  rw [choose_eq, topRequests, none']
  rfl

/-- What the chosen request is: it contends, its class is the lowest, its master the next in turn, and it is that master's oldest. -/
theorem choose_some {s : State} {t : Nat} (h : ∃ i o, s.Contends t i o) :
    ∃ i r, s.choose t = some r ∧ s.Contends t i r
      ∧ ∀ j o, s.Contends t j o → r.cls ≤ o.cls
        ∧ (o.cls = r.cls → turnOf (s.lastGranted t r.cls) r.master ≤ turnOf (s.lastGranted t o.cls) o.master ∧ (o.master = r.master → i ≤ j)) := by
  obtain ⟨i0, o0, h0⟩ := h
  obtain ⟨member, turn⟩ := nextMaster_turn (mem_contending.2 ⟨i0, h0⟩)
  obtain ⟨r0, top0, master0⟩ := mem_topMasters.1 member
  have found : (s.choose t).isSome := by
    rw [choose_eq, List.find?_isSome]
    exact ⟨r0, top0, by simpa using master0⟩
  obtain ⟨r, chosen⟩ := Option.isSome_iff_exists.1 found
  have one : (contenders t [] s.xbar.waiting).find?
      (fun o => s.hbmRoom t o && (o.cls.val == s.lowestClass t && o.master.val == s.nextMaster t)) = some r := by
    rw [← chosen, choose_eq, topRequests, contending, List.find?_filter, List.find?_filter]
    simp only [Bool.decide_and, Bool.decide_eq_true]
  obtain ⟨i, lead, holds, first⟩ := find_contenders one
  simp only [Bool.and_eq_true, beq_iff_eq] at holds first
  obtain ⟨room, cls, master⟩ := holds
  refine ⟨i, r, chosen, ⟨lead, room⟩, fun j o ho => ?_⟩
  have oc := mem_contending.2 ⟨j, ho⟩
  refine ⟨Fin.le_def.2 (cls ▸ lowestClass_le oc), fun same => ?_⟩
  have sameVal : o.cls.val = s.lowestClass t := by rw [same, cls]
  refine ⟨?_, fun m => first j o ho.1 ⟨ho.2, sameVal, by rw [m, master]⟩⟩
  have top : o.master.val ∈ s.topMasters t := mem_topMasters.2 ⟨o, List.mem_filter.2 ⟨oc, by simpa using sameVal⟩, rfl⟩
  rw [sameVal, cls, master]
  exact turn _ top

end State

end Sys2Proof.Machine
end

section
/-! SUPPORT. One grant of the chip matrix (R34, R35, R389–R395): the state that serves a request, and what serving it does. -/

namespace Sys2Proof.Machine

namespace State

/-! ### Requests with their class -/

theorem classed_eq (r : MatrixReq) : classed r = { r with cls := (classed r).cls } := by
  unfold classed
  split
  · rfl
  · split <;> rfl

@[simp] theorem classed_master (r : MatrixReq) : (classed r).master = r.master := by rw [classed_eq]
@[simp] theorem classed_space (r : MatrixReq) : (classed r).space = r.space := by rw [classed_eq]
@[simp] theorem classed_addr (r : MatrixReq) : (classed r).addr = r.addr := by rw [classed_eq]
@[simp] theorem classed_write (r : MatrixReq) : (classed r).write = r.write := by rw [classed_eq]
@[simp] theorem classed_beats (r : MatrixReq) : (classed r).beats = r.beats := by rw [classed_eq]
@[simp] theorem classed_data (r : MatrixReq) : (classed r).data = r.data := by rw [classed_eq]

@[simp] theorem matrixTarget_classed (s : State) (r : MatrixReq) : s.matrixTarget (classed r) = s.matrixTarget r := by
  rw [classed_eq]; rfl

@[simp] theorem hbmRoom_classed (s : State) (t : Nat) (r : MatrixReq) : s.hbmRoom t (classed r) = s.hbmRoom t r := by
  rw [classed_eq]; rfl

/-! ### The course of a grant -/

/-- The requests that have arrived wait behind the others. -/
def withArrivals (s : State) (l : List MatrixReq) : State :=
  { s with xbar := { s.xbar with waiting := s.xbar.waiting ++ (l.filter requestOk).map (fun r => ((s.matrixTarget r).1, classed r)) } }

/-- A granted request waits no longer, and its master is the last granted in its class. -/
def afterGrant (s : State) (t : Nat) (r : MatrixReq) : State :=
  { s with xbar := { s.xbar with
    waiting := dropWaiting t r s.xbar.waiting, last := mapPut s.xbar.last (4 * t + r.cls.val) r.master.val } }

/-- A granted request, by the outcome of its check bits (R394). -/
def grantOutcome (s : State) (t : Nat) (r : MatrixReq) : Secded → State
  | .double => s.datapathError r
  | .single => (s.count (Reg.XBAR_COUNT 1)).granted t r
  | .clean => s.granted t r

theorem endActive_of_none {s : State} {t : Nat} (h : ∀ w ∈ s.xbar.active, w.1 ≠ t) : s.endActive t = s := by
  have mine : s.xbar.active.filter (fun w => w.1 == t) = [] := by simpa using h
  have rest : s.xbar.active.filter (fun w => w.1 != t) = s.xbar.active := by simpa using h
  unfold endActive
  rw [mine, rest]
  rfl

@[simp] theorem withArrivals_nil (s : State) : s.withArrivals [] = s := by
  unfold withArrivals
  simp

/-- A grant at a target without a burst in progress. -/
theorem matrixGrantAt_of_free {s : State} {t : Nat} (h : ∀ w ∈ s.xbar.active, w.1 ≠ t) (l : List MatrixReq) (e : Secded) :
    s.matrixGrantAt t l e = (match (s.withArrivals l).choose t with
      | none => s.withArrivals l
      | some r => ((s.withArrivals l).afterGrant t r).grantOutcome t r e) := by
  have free : s.xbar.active.any (fun w => w.1 == t && !s.hbmRoom t w.2) = false := by
    rw [List.any_eq_false]
    intro w hw
    simp [h w hw]
  unfold matrixGrantAt
  simp only [free, Bool.false_eq_true, if_false, endActive_of_none h]
  cases e <;> rfl

/-- The state in which the only request there is is served. -/
def aloneGranted (s : State) (t : Nat) (r : MatrixReq) : State :=
  { s with xbar := { s.xbar with waiting := [], last := mapPut s.xbar.last (4 * t + (classed r).cls.val) r.master.val } }

theorem leads_singleton {t i : Nat} {r o : MatrixReq} (h : Leads t [] [(t, r)] i o) : i = 0 ∧ o = r := by
  obtain ⟨at', -, -⟩ := h
  cases i with
  | zero => exact ⟨rfl, (congrArg Prod.snd (Option.some.inj at')).symm⟩
  | succ i => simp at at'

/-- A request that arrives at a matrix without others is granted where its target has room. -/
theorem matrixGrantAt_alone {s : State} {t : Nat} {r : MatrixReq} (e : Secded) (hw : s.xbar.waiting = []) (ha : s.xbar.active = [])
    (ok' : requestOk r = true) (target : (s.matrixTarget r).1 = t) (room : s.hbmRoom t r = true) :
    s.matrixGrantAt t [r] e = (s.aloneGranted t r).grantOutcome t (classed r) e := by
  have arrived : (s.withArrivals [r]).xbar.waiting = [(t, classed r)] := by
    simp [withArrivals, hw, ok', target]
  have contends : (s.withArrivals [r]).Contends t 0 (classed r) :=
    ⟨⟨by rw [arrived]; rfl, by simp, by simp⟩, (hbmRoom_classed _ t r).trans room⟩
  obtain ⟨i, q, chosen, ⟨lead, -⟩, -⟩ := choose_some ⟨0, _, contends⟩
  rw [arrived] at lead
  obtain ⟨rfl, rfl⟩ := leads_singleton lead
  have gone : (s.withArrivals [r]).afterGrant t (classed r) = s.aloneGranted t r := by
    have none' : dropWaiting t (classed r) (s.withArrivals [r]).xbar.waiting = [] := by
      rw [arrived]; exact if_pos ⟨rfl, rfl⟩
    unfold afterGrant
    rw [none', classed_master]
    rfl
  rw [matrixGrantAt_of_free (by simp [ha]), chosen]
  exact congrArg (grantOutcome · t (classed r) e) gone

theorem only_aloneGranted (s : State) (t : Nat) (r : MatrixReq) : Only [.xbar] s (s.aloneGranted t r) := only_xbar s _

/-! ### What stays of the matrix -/

/-- The requests that wait and the turn of the masters are as they were. -/
structure KeepsQueue (s t : State) : Prop where
  waiting : t.xbar.waiting = s.xbar.waiting
  last : t.xbar.last = s.xbar.last

theorem KeepsQueue.of_xbar {s t : State} (h : t.xbar = s.xbar) : KeepsQueue s t := ⟨by rw [h], by rw [h]⟩

theorem KeepsQueue.trans {s t u : State} (h : KeepsQueue s t) (k : KeepsQueue t u) : KeepsQueue s u :=
  ⟨k.waiting.trans h.waiting, k.last.trans h.last⟩

theorem Only.xbar {ps : List Part} {s t : State} (h : Only ps s t) (hp : Part.xbar ∉ ps) : t.xbar = s.xbar := h .xbar hp

theorem KeepsQueue.respond (s : State) (m : Nat) (r : Option (List Byte)) : KeepsQueue s (s.respond m r) := ⟨rfl, rfl⟩

theorem only_respond (s : State) (m : Nat) (r : Option (List Byte)) : Only [.xbar] s (s.respond m r) := only_xbar s _

theorem xbar_each {α : Type} {f : State → α → State} (h : ∀ s x, (f s x).xbar = s.xbar) (l : List α) (s : State) :
    (s.each l f).xbar = s.xbar := by
  induction l generalizing s with
  | nil => rfl
  | cons x l ih => exact (ih (f s x)).trans (h s x)

theorem changes_hbmUe (s : State) (burst port : Nat) (w : Bool) :
    Changes faultParts (fun a => a = Reg.HBM_UE_INFO ∨ a = Reg.HBM_UE_ADDR_LO ∨ a = Reg.HBM_UE_ADDR_HI ∨ EventRegs Ev.HBM_UE a ∨ YieldRegs a)
      s (s.hbmUe burst port w) := by
  unfold hbmUe; dsimp only
  refine .trans (.trans (.trans (.trans
    ((changes_wrN s _ _).mono (by decide) fun _ h => .inl h)
    ((changes_wrN _ _ _).mono (by decide) fun _ h => .inr (.inl h)))
    ((changes_wrN _ _ _).mono (by decide) fun _ h => .inr (.inr (.inl h))))
    ((changes_raise _ _ _).mono (by decide) fun _ h => .inr (.inr (.inr (.inl h)))))
    ((changes_selfFault _ _).mono (by decide) fun _ h => .inr (.inr (.inr (.inr h))))

theorem xbar_rmwPoison (s : State) (b p : Nat) : (s.rmwPoison b p).xbar = s.xbar := by
  have counted : ((s.count (Reg.HBM_COUNT 1)).count (Reg.HBM_COUNT 7)).xbar = s.xbar := rfl
  unfold rmwPoison
  rw [Only.xbar (changes_hbmUe _ _ _ _).parts (by decide), counted]

theorem xbar_strobeWrite (s : State) (port a : Nat) (bs : List (Option Byte)) : (s.strobeWrite port a bs).xbar = s.xbar := by
  unfold strobeWrite cleanBursts; dsimp only
  show State.xbar (State.each _ _ _) = _
  rw [xbar_each (fun s b => xbar_rmwPoison s b port), xbar_each]
  intro s x
  split <;> rfl

theorem xbar_queueWrite (s : State) (p : Nat) (q : Queued) : (s.queueWrite p q).xbar = s.xbar := by
  unfold queueWrite; dsimp only; split <;> rfl

theorem KeepsQueue.readDone (s : State) (q : Queued) : KeepsQueue s (s.readDone q) := by
  unfold State.readDone; split
  · exact .respond s _ _
  · exact ⟨rfl, rfl⟩

theorem KeepsQueue.enterQueue (s : State) (p : Nat) (q : Queued) : KeepsQueue s (s.enterQueue p q) := by
  unfold State.enterQueue; dsimp only; split
  · refine .of_xbar ((xbar_queueWrite _ p q).trans ?_)
    split
    · rfl
    · exact xbar_strobeWrite s _ _ _
  · split
    · exact .readDone s _
    · exact ⟨rfl, rfl⟩

/-- A part finds no room in its queue (R373). -/
def noRoom (s : State) (p : Nat) (q : Queued) : Bool :=
  if q.part.write then !s.writeRoom p q.part else decide (64 ≤ (s.pcSt p).rq.length)

theorem takeIn_cons (s : State) (p : Nat) (blocked : List Nat) (q : Queued) (l : List Queued) :
    s.takeIn p blocked (q :: l) = if s.noRoom p q || blocked.contains q.part.port.val then
        (s.setPc p { s.pcSt p with waiting := (s.pcSt p).waiting ++ [q] }).takeIn p (q.part.port.val :: blocked) l
      else (s.enterQueue p q).takeIn p blocked l := rfl

theorem KeepsQueue.setPc (s : State) (p : Nat) (x : PcSt) : KeepsQueue s (s.setPc p x) := ⟨rfl, rfl⟩

theorem KeepsQueue.takeIn (s : State) (p : Nat) (blocked : List Nat) (l : List Queued) : KeepsQueue s (s.takeIn p blocked l) := by
  induction l generalizing s blocked with
  | nil => exact ⟨rfl, rfl⟩
  | cons q l ih =>
    rw [takeIn_cons]
    split
    · exact (KeepsQueue.setPc s p _).trans (ih _ _)
    · exact (KeepsQueue.enterQueue s p q).trans (ih _ _)

theorem KeepsQueue.arrive (s : State) (p : Nat) (l : List Queued) : KeepsQueue s (s.arrive p l) := by
  unfold State.arrive
  exact (KeepsQueue.setPc s p _).trans (.takeIn _ p [] _)

theorem KeepsQueue.defaultTarget (s : State) (r : MatrixReq) : KeepsQueue s (s.defaultTarget r) := by
  have decoded : KeepsQueue s (s.decodeError r.master r.space r.addr r.write) :=
    .of_xbar (Only.xbar (only_decodeError s r.master r.space r.addr r.write) (by decide))
  unfold State.defaultTarget; dsimp only; split
  · exact decoded.trans ⟨rfl, rfl⟩
  · exact decoded.trans (.respond _ _ _)

theorem KeepsQueue.granted (s : State) {t : Nat} (r : MatrixReq) (h : t ≠ 14) : KeepsQueue s (s.granted t r) := by
  unfold State.granted; dsimp only
  split
  · exact .defaultTarget s r
  split
  · exact ⟨rfl, rfl⟩
  split
  · exact .respond s _ _
  split
  · exact .respond s _ _
  split
  · split
    · exact ⟨rfl, rfl⟩
    · exact .respond s _ _
  · exact .arrive s _ _

theorem only_datapathError (s : State) (r : MatrixReq) : Only (([.xbar] : List Part) ++ eventParts) s (s.datapathError r) := by
  unfold datapathError; dsimp only
  have record : ∀ u : State, ∀ f b, Only [.regs] u ((u.setFlag (Reg.XBAR_ERR_INFO r.master) f b).count (Reg.XBAR_COUNT 2)) :=
    fun u f b => (only_setFlag u _ _ _).trans (only_count _ _ _)
  exact .trans ((((only_xbarErr s _ _ _ _ _ _).trans (record _ _ _)).then (only_raise _ _ _) (by decide) (fun _ h => h)).mono (by decide))
    ((only_respond _ _ _).mono (by decide))

theorem KeepsQueue.datapathError (s : State) (r : MatrixReq) : KeepsQueue s (s.datapathError r) := by
  unfold State.datapathError; dsimp only
  have raised : ∀ u : State, KeepsQueue u (u.raise Ev.XBAR_UE (xbarDetail r.master r.space r.addr r.write)) :=
    fun u => .of_xbar (Only.xbar (only_raise u _ _) (by decide))
  refine .trans (.trans ?_ (raised _)) (.respond _ _ _)
  exact ⟨rfl, rfl⟩

theorem KeepsQueue.grantOutcome (s : State) {t : Nat} (r : MatrixReq) (e : Secded) (h : t ≠ 14) : KeepsQueue s (s.grantOutcome t r e) := by
  cases e with
  | double => exact .datapathError s r
  | single =>
    have counted : KeepsQueue s (s.count (Reg.XBAR_COUNT 1)) := ⟨rfl, rfl⟩
    exact counted.trans (.granted _ r h)
  | clean => exact .granted s r h

theorem matrixGrantAt_nobody {s : State} {t : Nat} (e : Secded) (h : ∀ w ∈ s.xbar.active, w.1 ≠ t) (none' : ∀ i o, ¬ s.Contends t i o) :
    s.matrixGrantAt t [] e = s := by
  rw [matrixGrantAt_of_free h, withArrivals_nil, choose_none none']

/-- One of the requests that contend is granted: of the lowest class, of the next master in turn, that master's oldest (R34). -/
theorem matrixGrantAt_grants {s : State} {t : Nat} (e : Secded) (h : ∀ w ∈ s.xbar.active, w.1 ≠ t) (other : t ≠ 14)
    (some' : ∃ i o, s.Contends t i o) :
    ∃ i r, s.Contends t i r ∧ (s.matrixGrantAt t [] e).xbar.waiting = s.xbar.waiting.eraseIdx i
      ∧ mapFind (s.matrixGrantAt t [] e).xbar.last (4 * t + r.cls) = some r.master.val
      ∧ ∀ j o, s.Contends t j o → r.cls ≤ o.cls
        ∧ (o.cls = r.cls → turnOf (s.lastGranted t r.cls) r.master ≤ turnOf (s.lastGranted t o.cls) o.master ∧ (o.master = r.master → i ≤ j)) := by
  obtain ⟨i, r, chosen, contends, best⟩ := choose_some some'
  have stays : KeepsQueue (s.afterGrant t r) ((s.afterGrant t r).grantOutcome t r e) := .grantOutcome _ r e other
  rw [matrixGrantAt_of_free h, withArrivals_nil, chosen]
  refine ⟨i, r, contends, stays.waiting.trans (dropWaiting_of_leads contends.1), ?_, best⟩
  rw [stays.last]
  exact mapFind_mapPut_same _ _ _

end State

end Sys2Proof.Machine
end

section
/-! SUPPORT. What a granted request does at its target (R35, R389–R395), and what its error record shows (R394). -/

namespace Sys2Proof.Machine

namespace State

/-! ### Error records -/

/-- A master's error record shows a request: KIND and BEATS where no double-bit error is recorded. -/
def ErrorIs (t : State) (r : MatrixReq) (kind beats : Nat) (ue : Bool) : Prop :=
  t.get (Reg.XBAR_ERR_INFO r.master) Fld.XBAR_ERR_INFO_SPACE = r.space.val
  ∧ t.flag (Reg.XBAR_ERR_INFO r.master) Fld.XBAR_ERR_INFO_WRITE = r.write
  ∧ t.flag (Reg.XBAR_ERR_INFO r.master) Fld.XBAR_ERR_INFO_UE = ue
  ∧ (ue = false → t.get (Reg.XBAR_ERR_INFO r.master) Fld.XBAR_ERR_INFO_KIND = kind
      ∧ t.get (Reg.XBAR_ERR_INFO r.master) Fld.XBAR_ERR_INFO_BEATS = beats)
  ∧ t.full (Reg.XBAR_ERR_ADDR_LO r.master) = r.addr % 2 ^ 32 ∧ t.full (Reg.XBAR_ERR_ADDR_HI r.master) = r.addr / 2 ^ 32 % 2 ^ 32

theorem errorIs_classed {t : State} {r : MatrixReq} {kind beats : Nat} {ue : Bool} (h : ErrorIs t (classed r) kind beats ue) :
    ErrorIs t r kind beats ue := by simpa [ErrorIs] using h

theorem ErrorIs.of_keeps {s t : State} {r : MatrixReq} {kind beats : Nat} {ue : Bool} {P : Nat → Prop} (h : ErrorIs s r kind beats ue)
    (keeps : KeepsRegs s t P) (apart : ∀ a, ErrorRecord r.master a → ¬ P a) : ErrorIs t r kind beats ue := by
  obtain ⟨space, write, ue', kinds, low, high⟩ := h
  have info := apart (Reg.XBAR_ERR_INFO r.master) (.inl rfl)
  have same : ∀ a, ErrorRecord r.master a → t.full a = s.full a := fun a ha => by simp only [full, keeps a (apart a ha)]
  exact ⟨(keeps_get keeps info _).trans space, (keeps_flag keeps info _).trans write, (keeps_flag keeps info _).trans ue',
    fun e => ⟨(keeps_get keeps info _).trans (kinds e).1, (keeps_get keeps info _).trans (kinds e).2⟩,
    (same _ (.inr (.inl rfl))).trans low, (same _ (.inr (.inr rfl))).trans high⟩

theorem get_wrN_same (s : State) (a v : Nat) (f : Fld) : (s.wrN a v).get a f = v % 2 ^ 32 / 2 ^ f.lo % 2 ^ f.width := by
  simp only [get, wrN, reg_wr_same, Fld.of, BitVec.toNat_ofNat]

theorem get_xbarErr (s : State) (m kind space addr : Nat) (w : Bool) (beats : Nat) (f : Fld) :
    (s.xbarErr m kind space addr w beats).get (Reg.XBAR_ERR_INFO m) f
      = (kind + space * 4 + b2n w * 16 + beats * 256) % 2 ^ 32 / 2 ^ f.lo % 2 ^ f.width := by
  have low : Reg.XBAR_ERR_INFO m ≠ Reg.XBAR_ERR_ADDR_LO m := by simp only [Reg.XBAR_ERR_INFO, Reg.XBAR_ERR_ADDR_LO]; omega
  have high : Reg.XBAR_ERR_INFO m ≠ Reg.XBAR_ERR_ADDR_HI m := by simp only [Reg.XBAR_ERR_INFO, Reg.XBAR_ERR_ADDR_HI]; omega
  rw [← get_wrN_same s (Reg.XBAR_ERR_INFO m)]
  unfold xbarErr
  simp only [get, reg_wrN_other _ _ low, reg_wrN_other _ _ high]

theorem full_xbarErr_high (s : State) (m kind space addr : Nat) (w : Bool) (beats : Nat) :
    (s.xbarErr m kind space addr w beats).full (Reg.XBAR_ERR_ADDR_HI m) = addr / 2 ^ 32 % 2 ^ 32 := by
  unfold xbarErr
  rw [full_wrN_same]

theorem xbarErr_is (s : State) (r : MatrixReq) {kind beats : Nat} (hk : kind < 4) (hb : beats < 8) :
    ErrorIs (s.xbarErr r.master kind r.space r.addr r.write beats) r kind beats false := by
  have space := r.space.isLt
  unfold ErrorIs flag
  simp only [get_xbarErr, full_xbarErr_addr, full_xbarErr_high, Fld.XBAR_ERR_INFO_SPACE, Fld.XBAR_ERR_INFO_WRITE, Fld.XBAR_ERR_INFO_UE,
    Fld.XBAR_ERR_INFO_KIND, Fld.XBAR_ERR_INFO_BEATS]
  cases r.write <;> simp only [b2n, Bool.false_eq_true, if_true, if_false, decide_eq_true_eq, decide_eq_false_iff_not, and_true,
    forall_const] <;> omega

theorem errorIs_setUe {s : State} {r : MatrixReq} {kind beats : Nat} {ue : Bool} (h : ErrorIs s r kind beats ue) (k b : Nat) :
    ErrorIs (s.setFlag (Reg.XBAR_ERR_INFO r.master) Fld.XBAR_ERR_INFO_UE true) r k b true := by
  obtain ⟨space, write, -, -, low, high⟩ := h
  have lowApart : Reg.XBAR_ERR_ADDR_LO r.master ≠ Reg.XBAR_ERR_INFO r.master := by
    simp only [Reg.XBAR_ERR_INFO, Reg.XBAR_ERR_ADDR_LO]; omega
  have highApart : Reg.XBAR_ERR_ADDR_HI r.master ≠ Reg.XBAR_ERR_INFO r.master := by
    simp only [Reg.XBAR_ERR_INFO, Reg.XBAR_ERR_ADDR_HI]; omega
  refine ⟨?_, ?_, flag_setFlag_same s _ _ (by decide) (by decide), fun e => absurd e (by decide), ?_, ?_⟩
  · exact (get_set_apart s _ _ (by decide) (by decide)).trans space
  · rw [flag, setFlag, get_set_apart s _ _ (by decide) (by decide)]; exact write
  · rw [full, reg_setFlag_other _ _ _ lowApart]; exact low
  · rw [full, reg_setFlag_other _ _ _ highApart]; exact high

/-- The matrix's own registers: neither records nor counters of an event. -/
theorem xbarCount_not_record (m n : Nat) (h : n < 8) : ¬ ErrorRecord m (Reg.XBAR_COUNT n) := by
  simp only [ErrorRecord, Reg.XBAR_ERR_INFO, Reg.XBAR_ERR_ADDR_LO, Reg.XBAR_ERR_ADDR_HI, Reg.XBAR_COUNT]
  omega

theorem record_not_xbarCount {m n a : Nat} (h : n < 8) (ha : ErrorRecord m a) : a ≠ Reg.XBAR_COUNT n := by
  rintro rfl
  exact xbarCount_not_record m n h ha

theorem record_not_event {m e a : Nat} (he : e < 2048) (ha : ErrorRecord m a) : ¬ EventRegs e a := by
  refine not_eventRegs_of_xbar he ?_
  simp only [ErrorRecord, Reg.XBAR_ERR_INFO, Reg.XBAR_ERR_ADDR_LO, Reg.XBAR_ERR_ADDR_HI] at ha
  omega

theorem eventCount_not_record {m e : Nat} (he : e < 2048) : ¬ ErrorRecord m (Reg.EVT_SRC_CNT e) := fun ha =>
  record_not_event he ha (.inl rfl)

/-! ### A double-bit error on the datapath -/

/-- The error record of a double-bit error. -/
def ueRecorded (s : State) (r : MatrixReq) : State :=
  (s.xbarErr r.master (s.get (Reg.XBAR_ERR_INFO r.master) Fld.XBAR_ERR_INFO_KIND) r.space r.addr r.write
    (s.get (Reg.XBAR_ERR_INFO r.master) Fld.XBAR_ERR_INFO_BEATS)).setFlag (Reg.XBAR_ERR_INFO r.master) Fld.XBAR_ERR_INFO_UE true

theorem datapathError_eq (s : State) (r : MatrixReq) :
    s.datapathError r = (((s.ueRecorded r).count (Reg.XBAR_COUNT 2)).raise Ev.XBAR_UE (xbarDetail r.master r.space r.addr r.write)).respond
      r.master none := rfl

theorem changes_ueRecorded (s : State) (r : MatrixReq) : Changes [.regs] (ErrorRecord r.master) s (s.ueRecorded r) :=
  Changes.trans ⟨only_xbarErr s _ _ _ _ _ _, keeps_xbarErr s _ _ _ _ _ _⟩
    ((changes_setFlag _ _ _ _).mono (fun _ h => h) fun _ h => .inl h)

/-- The registers that a request with a double-bit error changes. -/
def UeRegs (m a : Nat) : Prop := ErrorRecord m a ∨ a = Reg.XBAR_COUNT 2 ∨ EventRegs Ev.XBAR_UE a

theorem changes_ueRaised (s : State) (r : MatrixReq) (d : Nat) :
    Changes eventParts (UeRegs r.master) s (((s.ueRecorded r).count (Reg.XBAR_COUNT 2)).raise Ev.XBAR_UE d) :=
  (((changes_ueRecorded s r).mono (by decide) fun _ h => .inl h).trans
    ((changes_count _ _ _).mono (by decide) fun _ h => .inr (.inl h))).trans
    ((changes_raise _ _ _).mono (fun _ h => h) fun _ h => .inr (.inr h))

theorem datapathError_record (s : State) (r : MatrixReq) : ErrorIs (s.datapathError r) r 0 0 true := by
  have recorded : ErrorIs (s.ueRecorded r) r 0 0 true :=
    errorIs_setUe (xbarErr_is s r (Fld.of_lt Fld.XBAR_ERR_INFO_KIND _) (Fld.of_lt Fld.XBAR_ERR_INFO_BEATS _)) 0 0
  have counted := recorded.of_keeps (keeps_count _ (Reg.XBAR_COUNT 2) 1) fun a ha => record_not_xbarCount (by decide) ha
  exact counted.of_keeps (fun a h => raise_reg _ Ev.XBAR_UE (xbarDetail r.master r.space r.addr r.write) h) fun a ha => record_not_event (by decide) ha

theorem datapathError_counts (s : State) (r : MatrixReq) :
    (s.datapathError r).full (Reg.XBAR_COUNT 2) = min (s.full (Reg.XBAR_COUNT 2) + 1) (2 ^ 32 - 1) := by
  have apart : ¬ EventRegs Ev.XBAR_UE (Reg.XBAR_COUNT 2) := not_eventRegs_of_xbar (by decide) (by decide)
  rw [datapathError_eq]
  show State.full (State.raise _ _ _) _ = _
  rw [full, raise_reg _ _ _ apart]
  refine (full_count_same _ _ 1).trans ?_
  rw [(changes_ueRecorded s r).full_eq (xbarCount_not_record _ _ (by decide))]

theorem datapathError_occurs (s : State) (r : MatrixReq) : Counted s (s.datapathError r) Ev.XBAR_UE := by
  intro held
  have raised := (((s.ueRecorded r).count (Reg.XBAR_COUNT 2)).raise_occurs (xbarDetail r.master r.space r.addr r.write)
    (by decide +kernel : (eventClass Ev.XBAR_UE).isSome = true)).1 held
  refine raised.trans ?_
  rw [full, reg_count_other _ _ (by decide), (changes_ueRecorded s r).regs _ (eventCount_not_record (by decide)), ← full]

theorem datapathError_xbar (s : State) (r : MatrixReq) :
    (s.datapathError r).xbar = { s.xbar with responses := s.xbar.responses ++ [(r.master.val, none)] } := by
  have same := Only.xbar (changes_ueRaised s r (xbarDetail r.master r.space r.addr r.write)).parts (by decide)
  rw [datapathError_eq, respond, same]

theorem changes_datapathError (s : State) (r : MatrixReq) :
    Changes (([.xbar] : List Part) ++ eventParts) (UeRegs r.master) s (s.datapathError r) := by
  rw [datapathError_eq]
  exact ((changes_ueRaised s r _).mono (by decide) fun _ h => h).trans
    ((Changes.of_only (only_respond _ _ _) (by decide)).mono (by decide) fun _ h => h)

/-! ### The default target -/

theorem decodeError_record (s : State) (r : MatrixReq) : ErrorIs (s.decodeError r.master r.space r.addr r.write) r 1 0 false := by
  have counted := (xbarErr_is s r (kind := 1) (beats := 0) (by decide) (by decide)).of_keeps (keeps_count _ (Reg.XBAR_COUNT 0) 1)
    fun a ha => record_not_xbarCount (by decide) ha
  exact counted.of_keeps (fun a h => raise_reg _ Ev.XBAR_DECODE (xbarDetail r.master r.space r.addr r.write) h)
    fun a ha => record_not_event (by decide) ha

/-- The answer of the default target: zero data to a PCIe read, else an error (R35). -/
def defaultAnswer (r : MatrixReq) : Option (List Byte) := if r.master = 0 ∧ r.write = false then some [0, 0, 0, 0] else none

theorem defaultTarget_eq (s : State) (r : MatrixReq) :
    ∃ u, u = s.decodeError r.master r.space r.addr r.write
      ∧ s.defaultTarget r = ({ u with readData := if r.master = 0 ∧ r.write = false then 0 else u.readData } : State).respond r.master
          (defaultAnswer r) := by
  refine ⟨_, rfl, ?_⟩
  unfold defaultTarget defaultAnswer
  have zero : r.master.val = 0 ↔ r.master = 0 := (Fin.ext_iff (b := (0 : Fin 24))).symm
  by_cases h : r.master = 0 ∧ r.write = false
  · rw [if_pos h, if_pos (by simpa [zero] using h), h.1]
    simp only [h.2, and_self, if_true]
    rfl
  · rw [if_neg h, if_neg (by simpa [zero] using h)]
    simp only [if_neg h]

/-! ### The other targets -/

theorem granted_default (s : State) (r : MatrixReq) : s.granted 16 r = s.defaultTarget r := rfl

theorem granted_register (s : State) (r : MatrixReq) : s.granted 14 r = s.registerAccess r (s.matrixTarget r).2 := rfl

/-- The space in which a target's addresses lie. -/
def targetSpace (t : Nat) : Fin 4 := if t < 12 then 0 else if t = 13 then 3 else 1

theorem granted_writes {s : State} {t : Nat} {r : MatrixReq} (h16 : t ≠ 16) (h14 : t ≠ 14) (h12 : t ≠ 12) (w : r.write = true) :
    s.granted t r = { s with xbar := { s.xbar with
      active := s.xbar.active ++ [(t, { r with space := targetSpace t, addr := (s.matrixTarget r).2 })] } } := by
  simp only [granted, targetSpace, h16, h14, h12, w, if_false, ne_eq, not_false_eq_true, and_self, if_true]

theorem granted_rom (s : State) (r : MatrixReq) :
    s.granted 12 r = s.respond r.master
      (some (if r.write then [] else matrixBytes (64 * r.beats.val) (fun i => Config.romByte ((s.matrixTarget r).2 + i)))) := by
  simp [granted]

theorem granted_sram {s : State} {r : MatrixReq} (w : r.write = false) :
    s.granted 13 r = s.respond r.master (some (matrixBytes (64 * r.beats.val) (fun i => s.sramByte ((s.matrixTarget r).2 + i)))) := by
  simp [granted, w]

theorem granted_host {s : State} {r : MatrixReq} (w : r.write = false) (free : s.hostFree = true) (tag : s.tagFree = true) :
    s.granted 15 r = s.hostRead (s.matrixTarget r).2 (min s.host.mrrs (64 * r.beats.val))
      (.matrix r.master [] (64 * r.beats.val - min s.host.mrrs (64 * r.beats.val))) s.dataRo := by
  simp [granted, w, free, tag]

/-- The part that a granted read of HBM is at the memory controller. -/
def readPart (s : State) (r : MatrixReq) : HbmPart :=
  { port := masterPort r.master, write := false, addr := (s.matrixTarget r).2, len := 64 * r.beats.val, data := [] }

theorem granted_hbm {s : State} {t : Nat} {r : MatrixReq} (ht : t < 12) (w : r.write = false) :
    s.granted t r = s.arrive (hbmMap (s.matrixTarget r).2).pc [{ part := s.readPart r, master := some r.master.val }] := by
  have h16 : t ≠ 16 := by omega
  have h14 : t ≠ 14 := by omega
  have h12 : t ≠ 12 := by omega
  have h13 : t ≠ 13 := by omega
  have h15 : t ≠ 15 := by omega
  simp only [granted, readPart, w, h16, h14, h12, h13, h15, if_false, Bool.false_eq_true, false_and]

theorem only_hostRead (s : State) (a n : Nat) (u : ReadUse) (ro : Bool) : Only [.reads] s (s.hostRead a n u ro) := by
  intro p hp
  cases p with
  | reads => exact absurd (by decide) hp
  | rings => exact fun _ => rfl
  | streams => exact fun _ => rfl
  | regs => exact fun _ => rfl
  | hbm => exact fun _ => rfl
  | ports => exact ⟨fun _ => rfl, rfl⟩
  | _ => simp [SamePart, hostRead]

/-! ### Reads of HBM -/

@[simp] theorem pcSt_setPc_same (s : State) (p : Nat) (x : PcSt) : (s.setPc p x).pcSt p = x := by
  simp only [pcSt, setPc, mapFind_mapSet_same]

theorem pcSt_setPc_other (s : State) {p q : Nat} (x : PcSt) (h : q ≠ p) : (s.setPc p x).pcSt q = s.pcSt q := by
  simp only [pcSt, setPc, mapFind_mapSet_other _ _ _ h]

theorem only_setPc (s : State) (p : Nat) (x : PcSt) : Only [.mem] s (s.setPc p x) := only_mem s _

/-- The bursts of a part that a queued write answers (R376). -/
def answeredBursts (s : State) (p : Nat) (q : HbmPart) : List Nat :=
  (partBursts q).filter (fun b => (s.pcSt p).wq.any (fun w => (partBursts w.part).contains b))

/-- The pseudo-channel with its parts that wait taken out. -/
def unwaiting (s : State) (p : Nat) : State := s.setPc p { s.pcSt p with waiting := [] }

theorem pcSt_unwaiting {s : State} {p : Nat} (h : (s.pcSt p).waiting = []) : (s.unwaiting p).pcSt p = s.pcSt p := by
  rw [unwaiting, pcSt_setPc_same, ← h]

theorem writeRoom_unwaiting {s : State} {p : Nat} (h : (s.pcSt p).waiting = []) (q : HbmPart) :
    (s.unwaiting p).writeRoom p q = s.writeRoom p q := by
  rw [writeRoom, pcSt_unwaiting h, writeRoom]

/-- One part arrives at a pseudo-channel where nothing waits, and its queue has room. -/
theorem arrive_one {s : State} {p : Nat} {q : Queued} (h : (s.pcSt p).waiting = []) (room : (s.unwaiting p).noRoom p q = false) :
    s.arrive p [q] = (s.unwaiting p).enterQueue p q := by
  have one : (s.pcSt p).waiting ++ [q] = [q] := by rw [h]; rfl
  unfold arrive; dsimp only
  rw [one]
  show (s.unwaiting p).takeIn p [] [q] = _
  rw [takeIn_cons, room]
  rfl

/-- A read as it captures its bytes on its way into the queue. -/
def captured (s : State) (p : Nat) (q : Queued) : Queued :=
  { q with data := s.hbmRead q.part.addr q.part.len, fwd := s.answeredBursts p q.part }

/-- A read that arrives with room in its queue is answered if queued writes hold all its bursts, else queued (R373, R376). -/
theorem arrive_read {s : State} {p : Nat} {q : Queued} (h : (s.pcSt p).waiting = []) (room : (s.pcSt p).rq.length < 64)
    (w : q.part.write = false) :
    (s.answeredBursts p q.part = partBursts q.part → s.arrive p [q] = (s.unwaiting p).readDone (s.captured p q))
    ∧ (s.answeredBursts p q.part ≠ partBursts q.part →
        s.arrive p [q] = (s.unwaiting p).setPc p { s.pcSt p with rq := (s.pcSt p).rq ++ [s.captured p q] }) := by
  have free : (s.unwaiting p).noRoom p q = false := by
    unfold noRoom
    rw [w, pcSt_unwaiting h]
    simpa using room
  have entered : s.arrive p [q] = (if s.answeredBursts p q.part == partBursts q.part then (s.unwaiting p).readDone (s.captured p q)
      else (s.unwaiting p).setPc p { s.pcSt p with rq := (s.pcSt p).rq ++ [s.captured p q] }) := by
    rw [arrive_one h free]
    unfold enterQueue
    rw [w, pcSt_unwaiting h]
    rfl
  rw [entered]
  exact ⟨fun whole => if_pos (beq_iff_eq.2 whole), fun part => if_neg (mt beq_iff_eq.1 part)⟩

/-- Room of a read at the memory controller. -/
theorem hbmRoom_read {s : State} {t : Nat} {r : MatrixReq} (ht : t < 12) (w : r.write = false) (room : s.hbmRoom t r = true) :
    (s.pcSt (hbmMap (s.matrixTarget r).2).pc).rq.length < 64 := by
  simp only [hbmRoom, ht, if_true, w, Bool.false_eq_true, if_false, Bool.and_eq_true, decide_eq_true_eq] at room
  exact room.2

end State

end Sys2Proof.Machine
end

section
/-! PROOF. One grant of the chip matrix, as O47 states it: who is granted, and what the granted request does. -/

namespace Sys2Proof.Machine

theorem exec_matrixGrant (tgt : Fin 17) (l : List MatrixReq) (e : Secded) (s : State) :
    exec (.matrixGrant tgt l e) s = .next (s.matrixGrantAt tgt l e) := rfl

namespace State

theorem contends_iff {s : State} {t i : Nat} {o : MatrixReq} :
    s.Contends t i o ↔ s.xbar.waiting[i]? = some (t, o) ∧ s.hbmRoom t o = true
      ∧ ∀ j < i, ∀ p : MatrixReq, s.xbar.waiting[j]? = some (t, p) → ¬ (p.master = o.master ∧ p.addr / 256 = o.addr / 256) := by
  unfold Contends Leads SameBlock
  simp only [List.not_mem_nil, false_implies, implies_true, true_and]
  tauto

/-- A command that grants the only request there is. -/
theorem completes_grant {tgt : Fin 17} {r : MatrixReq} {e : Secded} {s : State} {P : State → Prop} (hw : s.xbar.waiting = [])
    (ha : s.xbar.active = []) (ok' : requestOk r = true) (target : (s.matrixTarget r).1 = tgt) (room : s.hbmRoom tgt r = true)
    (h : P ((s.aloneGranted tgt r).grantOutcome tgt (classed r) e)) : Completes (.matrixGrant tgt [r] e) s P :=
  ⟨_, exec_matrixGrant tgt [r] e s, by rw [matrixGrantAt_alone e hw ha ok' target room]; exact h⟩

/-- A response after the grant. -/
theorem only_granted_respond (s : State) (t : Nat) (r : MatrixReq) (m : Nat) (x : Option (List Byte)) :
    Only [.xbar] s ((s.aloneGranted t r).respond m x) := (only_aloneGranted s t r).trans (only_respond _ m x)

theorem only_arrive_read {s : State} {p : Nat} {q : Queued} (h : (s.pcSt p).waiting = []) (room : (s.pcSt p).rq.length < 64)
    (w : q.part.write = false) : Only [.xbar, .mem] s (s.arrive p [q]) := by
  have out : Only [.xbar, .mem] s (s.unwaiting p) := (only_setPc s p _).mono (by decide)
  obtain ⟨answered, queued⟩ := arrive_read h room w
  by_cases whole : s.answeredBursts p q.part = partBursts q.part
  · rw [answered whole]
    unfold State.readDone
    split
    · exact out.trans ((only_respond _ _ _).mono (by decide))
    · exact out
  · rw [queued whole]
    exact out.trans ((only_setPc _ p _).mono (by decide))

/-- A double-bit error: recorded, counted, raised, answered with an error. -/
theorem granted_double (s : State) {t : Nat} {r : MatrixReq} (ha : s.xbar.active = []) :
    let u := (s.aloneGranted t r).grantOutcome t (classed r) .double
    ErrorIs u r 0 0 true ∧ u.full (Reg.XBAR_COUNT 2) = min (s.full (Reg.XBAR_COUNT 2) + 1) (2 ^ 32 - 1) ∧ Counted s u Ev.XBAR_UE
      ∧ u.xbar.responses = s.xbar.responses ++ [(r.master.val, none)] ∧ u.xbar.active = []
      ∧ Changes (([.xbar] : List Part) ++ eventParts) (UeRegs r.master) s u := by
  have xbar := datapathError_xbar (s.aloneGranted t r) (classed r)
  rw [classed_master] at xbar
  have frame := changes_datapathError (s.aloneGranted t r) (classed r)
  rw [classed_master] at frame
  refine ⟨errorIs_classed (datapathError_record _ _), datapathError_counts (s.aloneGranted t r) (classed r),
    datapathError_occurs (s.aloneGranted t r) (classed r), congrArg XbarSt.responses xbar, (congrArg XbarSt.active xbar).trans ha, ?_⟩
  exact ((Changes.of_only (only_aloneGranted s t r) (by decide)).mono (by decide) fun _ h => h).trans frame

/-- A request at the default target. -/
theorem granted_decode (s : State) {r : MatrixReq} :
    let u := (s.aloneGranted 16 r).grantOutcome 16 (classed r) .clean
    ErrorIs u r 1 0 false ∧ u.full (Reg.XBAR_COUNT 0) = min (s.full (Reg.XBAR_COUNT 0) + 1) (2 ^ 32 - 1) ∧ Counted s u Ev.XBAR_DECODE
      ∧ u.xbar.responses = s.xbar.responses ++ [(r.master.val, defaultAnswer r)]
      ∧ (r.master = 0 → r.write = false → u.readData = 0)
      ∧ Changes (([.xbar, .readData] : List Part) ++ eventParts) (DecodeRegs r.master) s u := by
  intro u
  obtain ⟨v, hv, hu⟩ := defaultTarget_eq (s.aloneGranted 16 r) (classed r)
  have frame : Changes eventParts (DecodeRegs r.master) (s.aloneGranted 16 r) v := by
    rw [hv, classed_master]
    exact ⟨only_decodeError _ _ _ _ _, keeps_decodeError _ _ _ _ _⟩
  have xbar := Only.xbar frame.parts (by decide)
  have regs : ∀ a, u.reg a = v.reg a := by
    intro a
    show (State.defaultTarget _ _).reg a = _
    rw [hu]
    rfl
  have keeps : KeepsRegs v u (fun _ => False) := fun a _ => regs a
  have full : ∀ a, u.full a = v.full a := fun a => by simp only [State.full, regs]
  refine ⟨?_, ?_, fun held => ?_, ?_, ?_, ?_⟩
  · refine errorIs_classed (ErrorIs.of_keeps ?_ keeps fun _ _ => id)
    rw [hv]
    exact decodeError_record _ _
  · rw [full, hv]
    exact decodeError_counted _ _ _ _ _
  · rw [full, hv]
    exact decodeError_occurs (s.aloneGranted 16 r) held
  · have answer : defaultAnswer (classed r) = defaultAnswer r := by unfold defaultAnswer; simp only [classed_master, classed_write]
    show (State.defaultTarget _ _).xbar.responses = _
    rw [hu, answer, classed_master]
    show v.xbar.responses ++ _ = _
    rw [xbar]
    rfl
  · intro master read
    show (State.defaultTarget _ _).readData = _
    rw [hu]
    show (if _ then _ else _) = _
    rw [if_pos ⟨(classed_master r).trans master, (classed_write r).trans read⟩]
  · show Changes _ _ s (State.defaultTarget _ _)
    rw [hu]
    have start : Changes (([.xbar, .readData] : List Part) ++ eventParts) (DecodeRegs r.master) s (s.aloneGranted 16 r) :=
      (Changes.of_only (only_aloneGranted s 16 r) (by decide)).mono (by decide) fun _ h => h
    have data : ∀ x, Changes (([.xbar, .readData] : List Part) ++ eventParts) (DecodeRegs r.master) v { v with readData := x } :=
      fun x => (Changes.of_only (only_readData v x) (by decide)).mono (by decide) fun _ h => h
    exact ((start.trans (frame.mono (by decide) fun _ h => h)).trans (data _)).trans
      ((Changes.of_only (only_respond _ _ _) (by decide)).mono (by decide) fun _ h => h)

/-- A granted read of HBM, at the memory controller. -/
def grantedRead (s : State) (r : MatrixReq) : Queued := { part := s.readPart r, master := some r.master.val }

theorem granted_read (s : State) {t : Nat} {r : MatrixReq} (ht : t < 12) (w : r.write = false) :
    (s.aloneGranted t r).grantOutcome t (classed r) .clean
      = (s.aloneGranted t r).arrive (hbmMap (s.matrixTarget r).2).pc [s.grantedRead r] := by
  have target : (s.aloneGranted t r).matrixTarget (classed r) = s.matrixTarget r := matrixTarget_classed s r
  have part : (s.aloneGranted t r).readPart (classed r) = s.readPart r := by
    simp only [readPart, target, classed_master, classed_beats]
  show State.granted _ _ _ = _
  rw [granted_hbm ht (by rw [classed_write, w]), target, part, classed_master]
  rfl

theorem only_granted_read (s : State) {t : Nat} {r : MatrixReq} (ht : t < 12) (w : r.write = false) (room : s.hbmRoom t r = true)
    (idle : (s.pcSt (hbmMap (s.matrixTarget r).2).pc).waiting = []) :
    Only [.xbar, .mem] s ((s.aloneGranted t r).grantOutcome t (classed r) .clean) := by
  rw [granted_read s ht w]
  exact ((only_aloneGranted s t r).mono (by decide)).trans
    (only_arrive_read (s := s.aloneGranted t r) (q := s.grantedRead r) idle (hbmRoom_read ht w room) rfl)

/-- A read of HBM that queued writes do not answer whole waits in its queue. -/
theorem granted_read_queued (s : State) {t : Nat} {r : MatrixReq} (ht : t < 12) (w : r.write = false) (room : s.hbmRoom t r = true)
    (idle : (s.pcSt (hbmMap (s.matrixTarget r).2).pc).waiting = [])
    (part : s.answeredBursts (hbmMap (s.matrixTarget r).2).pc (s.readPart r) ≠ partBursts (s.readPart r)) :
    let u := (s.aloneGranted t r).grantOutcome t (classed r) .clean
    (u.pcSt (hbmMap (s.matrixTarget r).2).pc).rq
        = (s.pcSt (hbmMap (s.matrixTarget r).2).pc).rq ++ [s.captured (hbmMap (s.matrixTarget r).2).pc (s.grantedRead r)]
      ∧ u.xbar.responses = s.xbar.responses := by
  have queued := (arrive_read (s := s.aloneGranted t r) (q := s.grantedRead r) idle (hbmRoom_read ht w room) rfl).2 part
  simp only [granted_read s ht w, queued, pcSt_setPc_same]
  exact ⟨rfl, rfl⟩

/-- A read of HBM that queued writes answer whole is answered at once. -/
theorem granted_read_answered (s : State) {t : Nat} {r : MatrixReq} (ht : t < 12) (w : r.write = false) (room : s.hbmRoom t r = true)
    (idle : (s.pcSt (hbmMap (s.matrixTarget r).2).pc).waiting = [])
    (whole : s.answeredBursts (hbmMap (s.matrixTarget r).2).pc (s.readPart r) = partBursts (s.readPart r)) (clean : s.poison = []) :
    ((s.aloneGranted t r).grantOutcome t (classed r) .clean).xbar.responses
      = s.xbar.responses ++ [(r.master.val, some (s.hbmRead (s.matrixTarget r).2 (64 * r.beats.val)))] := by
  have answered := (arrive_read (s := s.aloneGranted t r) (q := s.grantedRead r) idle (hbmRoom_read ht w room) rfl).1 whole
  have pure : ∀ a n, ((s.aloneGranted t r).unwaiting (hbmMap (s.matrixTarget r).2).pc).poisoned a n = false := by
    intro a n
    show s.poison.any _ = false
    rw [clean]
    rfl
  rw [granted_read s ht w, answered]
  simp only [readDone, captured, grantedRead, pure, Bool.false_eq_true, if_false]
  rfl

end State

end Sys2Proof.Machine
end

section
/-! SUPPORT. Register reads over the matrix (R389, R390), the end of a write burst (R393), and promotion (R34). -/

namespace Sys2Proof.Machine

namespace State

/-! ### A register read -/

theorem barRead_xbar (s : State) (x : XbarSt) (m : Nat) {a : Nat} {b : Block} (hb : blockOf a = some b) :
    ({ s with xbar := x } : State).barRead m a = { s.barRead m a with xbar := x } := by
  simp only [barRead, hb]
  cases regAt a with
  | none => rfl
  | some d =>
    show (if (!s.blockServed b.index) = true then _ else _) = ({ (if (!s.blockServed b.index) = true then _ else _ : State) with xbar := x } : State)
    split
    · rfl
    · show (if a = Reg.GLB_GPIO then _ else _) = ({ (if a = Reg.GLB_GPIO then _ else _ : State) with xbar := x } : State)
      split <;> rfl

theorem only_barRead (s : State) (m : Nat) {a : Nat} {b : Block} (hb : blockOf a = some b) :
    Only [.regs, .readData, .free] s (s.barRead m a) := by
  have data : ∀ (u : State) x, Only [.regs, .readData, .free] u { u with readData := x } := fun u x => (only_readData u x).mono (by decide)
  simp only [barRead, hb]
  split
  · exact data s _
  · split
    · exact data s _
    · split
      · exact ((only_free s 256).mono (by decide)).trans (data _ _)
      · exact ((only_wr s a _).mono (by decide)).trans (data _ _)

/-- A read of a register without a row of its own. -/
theorem matrixRead_plain (s : State) (m : Nat) {a : Nat}
    (rows : a ∉ [Reg.HARROW_DC_RE, Reg.WEED_PROBE_SK, Reg.TIME_NOW_NS, Reg.REF_BUILDOUT_LO, Reg.ADC_QUEUE_ENTRY])
    (seq : a < Reg.ETH_STR_SEQ_LO 0 ∨ Reg.ETH_STR_SEQ_LO 4096 ≤ a) : s.matrixRead m a = s.barRead m a := by
  simp only [List.mem_cons, List.not_mem_nil, or_false, not_or] at rows
  obtain ⟨h1, h2, h3, h4, h5⟩ := rows
  have h6 : ¬ (Reg.ETH_STR_SEQ_LO 0 ≤ a ∧ (a - Reg.ETH_STR_SEQ_LO 0) / (Reg.ETH_STR_SEQ_LO 1 - Reg.ETH_STR_SEQ_LO 0) < 4096) := by
    simp only [Reg.ETH_STR_SEQ_LO] at seq ⊢
    omega
  unfold matrixRead
  rw [if_neg h1, if_neg h2, if_neg h3, if_neg h4, if_neg h5, dif_neg h6]

/-- The host's read of a register as a request of the matrix. -/
def hostRegRead (o : Nat) : MatrixReq := { master := 0, cls := 0, space := 2, addr := o, write := false, beats := 1, data := [] }

theorem matrixTarget_hostRegRead (s : State) {o : Nat} (h : (blockOf o).isSome) : s.matrixTarget (hostRegRead o) = (14, o) := by
  show (if (0 : Nat) = 0 ∨ (0 : Nat) = 23 then regTarget o else (16, o)) = _
  rw [if_pos (.inl rfl), regTarget, if_pos h]

theorem registerAccess_hostRegRead (s : State) {o : Nat} (aligned : o % 4 = 0) :
    s.registerAccess (hostRegRead o) o = (s.matrixRead 0 o).respond 0 (some (le 4 (s.matrixRead 0 o).readData.toNat)) := by
  have whole : o / 4 * 4 = o := by omega
  unfold registerAccess
  simp only [whole, hostRegRead, Bool.false_eq_true, if_false]
  rfl

/-! ### The end of a write burst -/

/-- No burst is in progress any longer. -/
def withoutActive (s : State) : State := { s with xbar := { s.xbar with active := [] } }

theorem KeepsQueue.completeBurst (s : State) (t : Nat) (r : MatrixReq) : KeepsQueue s (s.completeBurst t r) := by
  unfold State.completeBurst; dsimp only
  split
  · exact (KeepsQueue.arrive s _ _).trans (.respond _ _ _)
  · split
    · exact ⟨rfl, rfl⟩
    · split
      · exact ⟨rfl, rfl⟩
      · exact .respond s _ _

theorem choose_of_empty {s : State} (t : Nat) (h : s.xbar.waiting = []) : s.choose t = none :=
  choose_none fun i o c => by
    have at' := c.1.1
    rw [h] at at'
    simp at at'

/-- A grant while the only burst finds its queue full changes nothing (R373). -/
theorem matrixGrantAt_stuck {s : State} {t : Nat} {q : MatrixReq} (e : Secded) (ha : s.xbar.active = [(t, q)])
    (full : s.hbmRoom t q = false) : s.matrixGrantAt t [] e = s := by
  have stuck : s.xbar.active.any (fun w => w.1 == t && !s.hbmRoom t w.2) = true := by simp [ha, full]
  unfold matrixGrantAt
  simp only [stuck, if_true, List.filter_nil, List.map_nil, List.append_nil]

/-- A grant that finds no request ends the target's burst (R393). -/
theorem matrixGrantAt_ends {s : State} {t : Nat} {q : MatrixReq} (e : Secded) (hw : s.xbar.waiting = []) (ha : s.xbar.active = [(t, q)])
    (room : s.hbmRoom t q = true) : s.matrixGrantAt t [] e = s.withoutActive.completeBurst t q := by
  have free : s.xbar.active.any (fun w => w.1 == t && !s.hbmRoom t w.2) = false := by simp [ha, room]
  have mine : s.xbar.active.filter (fun w => w.1 == t) = [(t, q)] := by simp [ha]
  have rest : s.xbar.active.filter (fun w => w.1 != t) = [] := by simp [ha]
  have ended : s.endActive t = s.withoutActive.completeBurst t q := by
    unfold endActive
    rw [mine, rest]
    rfl
  have nobody : (s.withoutActive.completeBurst t q).choose t = none :=
    choose_of_empty t ((KeepsQueue.completeBurst s.withoutActive t q).waiting.trans hw)
  unfold matrixGrantAt
  simp only [free, Bool.false_eq_true, if_false, ended, List.filter_nil, List.map_nil, List.append_nil, nobody]

theorem hbmRoom_elsewhere (s : State) {t : Nat} (q : MatrixReq) (h : 12 ≤ t) : s.hbmRoom t q = true := by
  unfold hbmRoom
  rw [if_neg (by omega)]

/-- The bytes of a burst as they are delivered. -/
def burstBytes (q : MatrixReq) : List Byte := q.data.take (64 * q.beats)

/-! Bytes put one after another from an address upward. -/

theorem mapFind_putBytes (bs : List Byte) (m : List Host.Cell) (a k c : Nat) :
    mapFind ((bs.zipIdx k).foldl (fun m x => mapPut m (a + x.2) x.1) m) c
      = if a + k ≤ c ∧ c < a + k + bs.length then bs[c - (a + k)]? else mapFind m c := by
  induction bs generalizing m k with
  | nil => simp
  | cons b bs ih =>
    rw [List.zipIdx_cons, List.foldl_cons, ih, List.length_cons]
    rcases Nat.lt_trichotomy c (a + k) with h | rfl | h
    · rw [if_neg (by omega), if_neg (by omega), mapFind_mapPut_other _ _ (by omega)]
    · rw [if_neg (by omega), if_pos (by omega), mapFind_mapPut_same, Nat.sub_self]
      rfl
    · by_cases inside : c < a + k + (bs.length + 1)
      · rw [if_pos (by omega), if_pos (by omega), show c - (a + k) = c - (a + (k + 1)) + 1 by omega]
        rfl
      · rw [if_neg (by omega), if_neg (by omega), mapFind_mapPut_other _ _ (by omega)]

theorem sramByte_putBytes (s : State) (bs : List Byte) (a c : Nat) :
    ({ s with xbar := { s.xbar with sram := bs.zipIdx.foldl (fun m x => mapPut m (a + x.2) x.1) s.xbar.sram } } : State).sramByte c
      = if a ≤ c ∧ c < a + bs.length then bs.getD (c - a) 0 else s.sramByte c := by
  show (mapFind (bs.zipIdx.foldl (fun m x => mapPut m (a + x.2) x.1) s.xbar.sram) c).getD _ = _
  rw [mapFind_putBytes]
  simp only [Nat.add_zero]
  split
  next inside =>
    have h : c - a < bs.length := by omega
    simp [h]
  next => rfl

/-- A burst that ends at the working SRAM. -/
theorem completeBurst_sram (s : State) (q : MatrixReq) :
    let u := s.completeBurst 13 q
    (∀ i (h : i < (burstBytes q).length), u.sramByte (q.addr + i) = (burstBytes q)[i])
      ∧ (∀ x, x < q.addr ∨ q.addr + (burstBytes q).length ≤ x → u.sramByte x = s.sramByte x)
      ∧ u.xbar.active = s.xbar.active ∧ u.xbar.responses = s.xbar.responses ++ [(q.master.val, some [])] ∧ Only [.xbar] s u := by
  have bytes := sramByte_putBytes s (burstBytes q) q.addr
  refine ⟨fun i h => (bytes _).trans ?_, fun x h => (bytes x).trans (if_neg (by omega)), rfl, rfl,
    (only_xbar s _).trans (only_respond _ _ _)⟩
  rw [if_pos (by omega), Nat.add_sub_cancel_left, List.getD_eq_getElem _ _ h]

/-- A burst that leaves for the host. -/
theorem completeBurst_host (s : State) (q : MatrixReq) (free : s.hostFree = true) :
    s.completeBurst 15 q = (s.matrixOut q.addr (burstBytes q)).respond q.master (some []) := by
  unfold completeBurst
  simp only [free, if_true]
  rfl

theorem only_matrixOut (s : State) (a : Nat) (bs : List Byte) : Only [.outHost] s (s.matrixOut a bs) := only_out_host s _

/-- A write burst as a part at the memory controller. -/
def burstPart (q : MatrixReq) : HbmPart :=
  { port := masterPort q.master, write := true, addr := q.addr, len := (burstBytes q).length, data := (burstBytes q).map some }

theorem completeBurst_hbm (s : State) {t : Nat} (q : MatrixReq) (ht : t < 12) :
    s.completeBurst t q = (s.arrive (hbmMap q.addr).pc [{ part := burstPart q }]).respond q.master (some []) := by
  unfold completeBurst
  simp only [ht, if_true]
  rfl

theorem arrive_write {s : State} {p : Nat} {q : HbmPart} (h : (s.pcSt p).waiting = []) (room : (s.pcSt p).wq.length < 64)
    (w : q.write = true) :
    s.arrive p [{ part := q }] = ((s.unwaiting p).strobeWrite q.port q.addr q.data).queueWrite p { part := q } := by
  have free : (s.unwaiting p).noRoom p { part := q } = false := by
    unfold noRoom
    rw [w, writeRoom_unwaiting h]
    simp [writeRoom, room]
  rw [arrive_one h free]
  unfold enterQueue
  rw [w]
  rfl

theorem only_queueWrite (s : State) (p : Nat) (q : Queued) : Only [.mem] s (s.queueWrite p q) := by
  unfold queueWrite; dsimp only; split <;> exact only_setPc s p _

/-- The bytes of a write as they reach HBM. -/
def putBytes (s : State) (a : Nat) (bs : List (Option Byte)) : State :=
  s.each bs.zipIdx (fun s x => match x.1 with
    | some v => s.hbmPut (a + x.2) v
    | none => s)

theorem only_hbmPut (s : State) (a : Nat) (b : Byte) : Only [.hbm] s (s.hbmPut a b) := by
  intro p hp
  cases p with
  | hbm => exact absurd (by decide) hp
  | rings => exact fun _ => rfl
  | streams => exact fun _ => rfl
  | regs => exact fun _ => rfl
  | ports => exact ⟨fun _ => rfl, rfl⟩
  | _ => simp [SamePart, hbmPut]

theorem only_putBytes (s : State) (a : Nat) (bs : List (Option Byte)) : Only [.hbm] s (s.putBytes a bs) := by
  refine (Changes.each (P := fun _ => False) _ (fun s x _ => ?_) s).parts
  split
  · exact .of_only (only_hbmPut s _ _) (by decide)
  · exact .refl _ _ s

theorem hbm_putBytes (s : State) (a k : Nat) (bs : List Byte) :
    (s.each ((bs.map some).zipIdx k) (fun s x => match x.1 with
      | some v => s.hbmPut (a + x.2) v
      | none => s)).hbm = (bs.zipIdx k).foldl (fun m x => mapPut m (a + x.2) x.1) s.hbm := by
  induction bs generalizing s k with
  | nil => rfl
  | cons b bs ih => exact ih (s.hbmPut (a + k) b) (k + 1)

theorem hbmEpoch_putBytes (s : State) (a : Nat) (bs : List (Option Byte)) : (s.putBytes a bs).hbmEpoch = s.hbmEpoch := by
  unfold putBytes each
  generalize bs.zipIdx = l
  induction l generalizing s with
  | nil => rfl
  | cons x l ih =>
    rw [List.foldl_cons, ih]
    split <;> rfl

theorem hbmByte_putBytes (s : State) (a c : Nat) (bs : List Byte) :
    (s.putBytes a (bs.map some)).hbmByte c = if a ≤ c ∧ c < a + bs.length then bs.getD (c - a) 0 else s.hbmByte c := by
  have bytes : (s.putBytes a (bs.map some)).hbm = bs.zipIdx.foldl (fun m x => mapPut m (a + x.2) x.1) s.hbm := hbm_putBytes s a 0 bs
  unfold hbmByte
  rw [bytes, hbmEpoch_putBytes, mapFind_putBytes]
  simp only [Nat.add_zero]
  split
  next inside =>
    have h : c - a < bs.length := by omega
    simp [h]
  next => rfl

/-- A write of bytes with strobes, as a part. -/
def strobePart (a : Nat) (bs : List (Option Byte)) : HbmPart := { port := 0, write := true, addr := a, len := bs.length, data := bs }

/-- No burst of a write is reissued any longer. -/
def unissued (s : State) (q : HbmPart) : State :=
  { s with mem := { s.mem with reissue := s.mem.reissue.filter (fun r => !(wholeBursts q ++ partialBursts q).contains r.1) } }

/-- Without poison a write with strobes changes the bytes and the queues only. -/
theorem strobeWrite_of_clean {s : State} (h : s.poison = []) (port a : Nat) (bs : List (Option Byte)) :
    s.strobeWrite port a bs = ((s.putBytes a bs).unissued (strobePart a bs)).cleanBursts (wholeBursts (strobePart a bs)) := by
  have same : (s.putBytes a bs).poison = s.poison := only_putBytes s a bs .poison (by decide)
  have none' : ∀ l : List Nat, l.filter (s.putBytes a bs).poison.contains = [] := fun l => by rw [same, h]; simp
  show State.cleanBursts (State.unissued (State.each (s.putBytes a bs) (List.filter (s.putBytes a bs).poison.contains _) _) _) _ = _
  rw [none']
  rfl

theorem only_cleanBursts {s : State} (h : s.poison = []) (l : List Nat) : Only [.mem] s (s.cleanBursts l) := by
  have empty : s.poison.filter (fun b => !l.contains b) = s.poison := by rw [h]; rfl
  unfold cleanBursts; dsimp only
  rw [empty]
  exact only_mem s _

theorem only_strobeWrite {s : State} (h : s.poison = []) (port a : Nat) (bs : List (Option Byte)) :
    Only [.mem, .hbm] s (s.strobeWrite port a bs) := by
  have same : (s.putBytes a bs).poison = s.poison := only_putBytes s a bs .poison (by decide)
  rw [strobeWrite_of_clean h]
  have put : Only [.mem, .hbm] s (s.putBytes a bs) := (only_putBytes s a bs).mono (by decide)
  have rest : Only [.mem, .hbm] (s.putBytes a bs) ((s.putBytes a bs).unissued (strobePart a bs)) := (only_mem _ _).mono (by decide)
  have last := only_cleanBursts (s := (s.putBytes a bs).unissued (strobePart a bs)) (same.trans h) (wholeBursts (strobePart a bs))
  exact (put.trans rest).trans (last.mono (by decide))

theorem hbmByte_strobeWrite {s : State} (h : s.poison = []) (port a c : Nat) (bs : List (Option Byte)) :
    (s.strobeWrite port a bs).hbmByte c = (s.putBytes a bs).hbmByte c := by
  rw [strobeWrite_of_clean h]
  rfl

/-- A burst that ends at the memory controller, its queue with room and no poison anywhere. -/
theorem completeBurst_write {s : State} {t : Nat} {q : MatrixReq} (ht : t < 12) (clean : s.poison = [])
    (idle : (s.pcSt (hbmMap q.addr).pc).waiting = []) (room : (s.pcSt (hbmMap q.addr).pc).wq.length < 64) :
    let u := s.completeBurst t q
    (∀ i (h : i < (burstBytes q).length), u.hbmByte (q.addr + i) = (burstBytes q)[i]) ∧ KeepsHbmBut s u q.addr (burstBytes q).length
      ∧ u.xbar.active = s.xbar.active ∧ u.xbar.responses = s.xbar.responses ++ [(q.master.val, some [])]
      ∧ Only [.xbar, .mem, .hbm] s u := by
  have stored : s.arrive (hbmMap q.addr).pc [{ part := burstPart q }]
      = ((s.unwaiting (hbmMap q.addr).pc).strobeWrite (burstPart q).port q.addr ((burstBytes q).map some)).queueWrite (hbmMap q.addr).pc
        { part := burstPart q } := arrive_write idle room rfl
  have bytes : ∀ c, (s.completeBurst t q).hbmByte c
      = if q.addr ≤ c ∧ c < q.addr + (burstBytes q).length then (burstBytes q).getD (c - q.addr) 0 else s.hbmByte c := by
    intro c
    have responded : ∀ v : State, (v.respond q.master (some [])).hbmByte c = v.hbmByte c := fun _ => rfl
    have queued : ∀ v : State, (v.queueWrite (hbmMap q.addr).pc { part := burstPart q }).hbmByte c = v.hbmByte c := fun v =>
      only_queueWrite v _ _ .hbm (by decide) c
    have same : (s.unwaiting (hbmMap q.addr).pc).hbmByte c = s.hbmByte c := rfl
    rw [completeBurst_hbm s q ht, responded, stored, queued, hbmByte_strobeWrite (s := s.unwaiting (hbmMap q.addr).pc) clean, hbmByte_putBytes, same]
  have frame : Only [.mem, .hbm] s (s.arrive (hbmMap q.addr).pc [{ part := burstPart q }]) := by
    rw [stored]
    have out : Only [.mem, .hbm] s (s.unwaiting (hbmMap q.addr).pc) := (only_setPc s _ _).mono (by decide)
    exact (out.trans (only_strobeWrite (s := s.unwaiting (hbmMap q.addr).pc) clean _ _ _)).trans ((only_queueWrite _ _ _).mono (by decide))
  have xbar := Only.xbar frame (by decide)
  refine ⟨fun i h => ?_, fun c out => ?_, ?_, ?_, ?_⟩
  · rw [bytes, if_pos (by omega), Nat.add_sub_cancel_left, List.getD_eq_getElem _ _ h]
  · rw [bytes, if_neg (by omega)]
  · have same : ∀ v : State, (v.respond q.master (some [])).xbar.active = v.xbar.active := fun _ => rfl
    rw [completeBurst_hbm s q ht, same, xbar]
  · have same : ∀ v : State, (v.respond q.master (some [])).xbar.responses = v.xbar.responses ++ [(q.master.val, some [])] := fun _ => rfl
    rw [completeBurst_hbm s q ht, same, xbar]
  · rw [completeBurst_hbm s q ht]
    exact (frame.mono (by decide)).trans ((only_respond _ _ _).mono (by decide))

/-! ### Promotion -/

/-- The requests of a master that wait. -/
def waitsOf (m : Fin 24) (l : List (Nat × MatrixReq)) : Nat := (l.filter (fun w => w.2.master == m)).length

theorem promote_cons_mine {m : Fin 24} {w : Nat × MatrixReq} (h : w.2.master = m) (n : Nat) (l : List (Nat × MatrixReq)) :
    promote m (n + 1) (w :: l) = w :: promote m n l :=
  if_pos (congrArg Fin.val h)

theorem promote_cons_other {m : Fin 24} {w : Nat × MatrixReq} (h : w.2.master ≠ m) (n : Nat) (l : List (Nat × MatrixReq)) :
    promote m n (w :: l) = w :: promote m n l := by
  have other : w.2.master.val ≠ m.val := fun e => h (Fin.ext e)
  cases n <;> exact if_neg other

/-- One class lower in number, and nothing else. -/
def lowered (r : MatrixReq) : MatrixReq := { r with cls := ⟨r.cls.val - 1, by omega⟩ }

theorem promote_cons_zero {m : Fin 24} {w : Nat × MatrixReq} (h : w.2.master = m) (l : List (Nat × MatrixReq)) :
    promote m 0 (w :: l) = (w.1, lowered w.2) :: l :=
  if_pos (congrArg Fin.val h)

theorem promote_none {m : Fin 24} {n : Nat} {l : List (Nat × MatrixReq)} (h : waitsOf m l ≤ n) : promote m n l = l := by
  induction l generalizing n with
  | nil => cases n <;> rfl
  | cons w l ih =>
    by_cases mine : w.2.master = m
    · have more : waitsOf m (w :: l) = waitsOf m l + 1 := by simp [waitsOf, mine]
      obtain ⟨k, rfl⟩ : ∃ k, n = k + 1 := ⟨n - 1, by omega⟩
      rw [promote_cons_mine mine, ih (by omega)]
    · have same : waitsOf m (w :: l) = waitsOf m l := by simp [waitsOf, mine]
      rw [promote_cons_other mine, ih (by omega)]

theorem promote_append {m : Fin 24} {w : Nat × MatrixReq} (a b : List (Nat × MatrixReq)) (h : w.2.master = m) :
    promote m (waitsOf m a) (a ++ w :: b) = a ++ (w.1, lowered w.2) :: b := by
  induction a with
  | nil => exact promote_cons_zero h b
  | cons v a ih =>
    by_cases mine : v.2.master = m
    · have more : waitsOf m (v :: a) = waitsOf m a + 1 := by simp [waitsOf, mine]
      rw [more, List.cons_append, promote_cons_mine mine, ih, List.cons_append]
    · have same : waitsOf m (v :: a) = waitsOf m a := by simp [waitsOf, mine]
      rw [same, List.cons_append, promote_cons_other mine, ih, List.cons_append]

end State

end Sys2Proof.Machine
end

section
/-! SUPPORT. The reset of a master port (R37, R396, R397). -/

namespace Sys2Proof.Machine

namespace State

/-- The ports that a mask with one bit names. -/
theorem onePort (m : Fin 24) : (List.range 24).filter (bitAt (BitVec.ofNat 24 (2 ^ m.val)).toNat) = [m.val] := by
  revert m; decide

/-- Requests of a master that wait, and those of the others. -/
def ofMaster (m : Fin 24) (l : List (Nat × MatrixReq)) : List (Nat × MatrixReq) := l.filter (fun w => w.2.master == m)
def ofOthers (m : Fin 24) (l : List (Nat × MatrixReq)) : List (Nat × MatrixReq) := l.filter (fun w => w.2.master != m)

theorem ofMaster_val (m : Fin 24) (l : List (Nat × MatrixReq)) : l.filter (fun w => w.2.master.val == m.val) = ofMaster m l := by
  refine List.filter_congr fun w _ => ?_
  rw [Bool.eq_iff_iff, beq_iff_eq, beq_iff_eq, Fin.ext_iff]

theorem ofOthers_val (m : Fin 24) (l : List (Nat × MatrixReq)) : l.filter (fun w => w.2.master.val != m.val) = ofOthers m l := by
  refine List.filter_congr fun w _ => ?_
  rw [Bool.eq_iff_iff, bne_iff_ne, bne_iff_ne, ne_eq, ne_eq, Fin.ext_iff]

/-- What a reset master had waiting is withdrawn, each request with an error response. -/
def withdrawn (s : State) (m : Fin 24) : State :=
  { s with xbar := { s.xbar with
    waiting := ofOthers m s.xbar.waiting, active := ofOthers m s.xbar.active
    responses := s.xbar.responses ++ (ofMaster m s.xbar.waiting).map (fun _ => (m.val, none)) } }

theorem each_respond {α : Type} (s : State) (l : List α) (m : Nat) (r : Option (List Byte)) :
    s.each l (fun s _ => s.respond m r) = { s with xbar := { s.xbar with responses := s.xbar.responses ++ l.map (fun _ => (m, r)) } } := by
  induction l generalizing s with
  | nil => simp [each]
  | cons x l ih =>
    refine (ih (s.respond m r)).trans ?_
    simp [respond]

/-- The requests withdrawn, the bursts ended, the reads at the memory controller drained, in that order. -/
theorem masterReset_eq (s : State) (m : Fin 24) (d : Nat) :
    s.masterReset m (some d) = ((s.withdrawn m).each (ofMaster m s.xbar.active) (fun s w => s.endBurst w.2 d)).each
      (((s.withdrawn m).each (ofMaster m s.xbar.active) (fun s w => s.endBurst w.2 d)).mem.pcs.map (·.1)) (fun s p => s.drainReads m p) := by
  unfold masterReset
  simp only [ofMaster_val, ofOthers_val, each_respond]
  rfl

/-- Without outstanding host reads the reset of a port is that of its master. -/
theorem portReset_of_no_reads {s : State} {m : Nat} {d : Option Nat} (h : (s.masterReset m d).host.reads = []) :
    s.portReset m d = s.masterReset m d := by
  unfold portReset; dsimp only
  rw [h]
  rfl

/-! ### A burst in progress -/

/-- The end of a burst is recorded, counted and answered with an error. -/
def burstRecorded (s : State) (r : MatrixReq) (d : Nat) : State :=
  ((s.xbarErr r.master (if r.write then 2 else 3) r.space r.addr r.write (r.beats - cutAt r d)).count (Reg.XBAR_COUNT 3)).respond r.master none

/-- What was delivered of a write takes effect at its target. -/
def burstEffect (s : State) (r : MatrixReq) (d : Nat) : State :=
  if r.write ∧ r.space = 0 ∧ 0 < d then
    s.setPc (hbmMap r.addr).pc { s.pcSt (hbmMap r.addr).pc with waiting := (s.pcSt (hbmMap r.addr).pc).waiting ++ [{ part := partialPart r d }] }
  else if r.write ∧ r.space = 1 ∧ 0 < d then (if s.hostFree then s.matrixOut r.addr (r.data.take (64 * d)) else s)
  else if r.write ∧ r.space = 3 then
    { s with xbar := { s.xbar with sram := (r.data.take (64 * d)).zipIdx.foldl (fun m x => mapPut m (r.addr + x.2) x.1) s.xbar.sram } }
  else s

theorem endBurst_eq (s : State) (r : MatrixReq) (d : Nat) : s.endBurst r d = (s.burstRecorded r d).burstEffect r (cutAt r d) := rfl

theorem changes_burstRecorded (s : State) (r : MatrixReq) (d : Nat) :
    Changes [.regs, .xbar] (fun a => ErrorRecord r.master a ∨ a = Reg.XBAR_COUNT 3) s (s.burstRecorded r d) := by
  have recorded : Changes [.regs, .xbar] (fun a => ErrorRecord r.master a ∨ a = Reg.XBAR_COUNT 3) s
      (s.xbarErr r.master (if r.write then 2 else 3) r.space r.addr r.write (r.beats - cutAt r d)) :=
    Changes.mono ⟨only_xbarErr s _ _ _ _ _ _, keeps_xbarErr s _ _ _ _ _ _⟩ (by decide) fun _ h => .inl h
  exact (recorded.trans ((changes_count _ _ _).mono (by decide) fun _ h => .inr h)).trans
    ((Changes.of_only (only_respond _ _ _) (by decide)).mono (by decide) fun _ h => h)

theorem burstRecorded_record (s : State) (r : MatrixReq) (d : Nat) :
    ErrorIs (s.burstRecorded r d) r (if r.write then 2 else 3) (r.beats.val - cutAt r d) false := by
  have beats := r.beats.isLt
  have recorded := xbarErr_is s r (kind := if r.write then 2 else 3) (beats := r.beats.val - cutAt r d) (by split <;> decide) (by omega)
  have counted := recorded.of_keeps (keeps_count _ (Reg.XBAR_COUNT 3) 1) fun a ha => record_not_xbarCount (by decide) ha
  exact counted.of_keeps (keeps_only (only_respond _ r.master none) (by decide) fun _ => False) fun _ _ => id

theorem full_respond (s : State) (m : Nat) (r : Option (List Byte)) (a : Nat) : (s.respond m r).full a = s.full a := rfl

theorem burstRecorded_counts (s : State) (r : MatrixReq) (d : Nat) :
    (s.burstRecorded r d).full (Reg.XBAR_COUNT 3) = min (s.full (Reg.XBAR_COUNT 3) + 1) (2 ^ 32 - 1) := by
  unfold burstRecorded
  rw [full_respond, full_count_same, full, keeps_xbarErr s _ _ _ _ _ _ _ (xbarCount_not_record _ 3 (by decide)), ← full]

theorem changes_burstEffect (s : State) (r : MatrixReq) (d : Nat) (P : Nat → Prop) :
    Changes [.xbar, .mem, .outHost] P s (s.burstEffect r d) := by
  unfold burstEffect
  split
  · exact Changes.of_only ((only_setPc s _ _).mono (by decide)) (by decide)
  · split
    · split
      · exact Changes.of_only ((only_matrixOut s _ _).mono (by decide)) (by decide)
      · exact .refl _ _ s
    · split
      · exact Changes.of_only ((only_xbar s _).mono (by decide)) (by decide)
      · exact .refl _ _ s

/-- The requests and responses of the matrix are as they were. -/
theorem burstEffect_xbar (s : State) (r : MatrixReq) (d : Nat) :
    (s.burstEffect r d).xbar = { s.xbar with sram := (s.burstEffect r d).xbar.sram } := by
  unfold burstEffect
  split
  · rfl
  · split
    · split <;> rfl
    · split <;> rfl

/-! ### Parts at the memory controller -/

/-- A pseudo-channel where no read of the master waits stays as it is. -/
theorem drainReads_of_none {s : State} {m p : Nat} {w : HbmPart} (hw : w.write = true) (h : s.pcSt p = { waiting := [{ part := w }] }) :
    s.drainReads m p = s.setPc p { waiting := [{ part := w }] } := by
  unfold drainReads
  simp only [h, hw, List.append_nil, List.filter_cons, Bool.not_true, Bool.false_and, Bool.false_eq_true, if_false, List.filter_nil,
    Bool.not_false, if_true, List.map_nil]
  rfl

theorem pcs_setPc_of_empty {s : State} (h : s.mem.pcs = []) (p : Nat) {x : PcSt} (hx : x ≠ {}) : (s.setPc p x).mem.pcs = [(p, x)] := by
  show mapSet {} s.mem.pcs p x = _
  rw [h, mapSet, if_neg hx]
  rfl

theorem pcSt_of_empty {s : State} (h : s.mem.pcs = []) (p : Nat) : s.pcSt p = {} := by
  unfold pcSt
  rw [h]
  rfl

/-- The delivered beats of a write to HBM wait at the memory controller; draining the master's reads leaves them. -/
theorem burstEffect_hbm {s : State} {r : MatrixReq} {d : Nat} (h : s.mem.pcs = []) (eff : r.write = true ∧ r.space = 0 ∧ 0 < d) (m : Nat) :
    (((s.burstEffect r d).mem.pcs.map (·.1)) = [(hbmMap r.addr).pc])
      ∧ (s.burstEffect r d).drainReads m (hbmMap r.addr).pc
        = (s.burstEffect r d).setPc (hbmMap r.addr).pc { waiting := [{ part := partialPart r d }] } := by
  have here : s.burstEffect r d = s.setPc (hbmMap r.addr).pc { waiting := [{ part := partialPart r d }] } := by
    unfold burstEffect
    rw [if_pos eff, pcSt_of_empty h]
    rfl
  have new : ({ waiting := [{ part := partialPart r d }] } : PcSt) ≠ {} := fun e => by simpa using congrArg PcSt.waiting e
  rw [here, pcs_setPc_of_empty h _ new]
  exact ⟨rfl, drainReads_of_none rfl (pcSt_setPc_same _ _ _)⟩

theorem burstEffect_pcs {s : State} {r : MatrixReq} {d : Nat} (eff : ¬ (r.write = true ∧ r.space = 0 ∧ 0 < d)) :
    (s.burstEffect r d).mem = s.mem := by
  unfold burstEffect
  rw [if_neg eff]
  split
  · split <;> rfl
  · split <;> rfl

/-- A burst ends while nothing else is at the memory controller: what was delivered takes effect, and no read is drained. -/
def burstEnded (s : State) (r : MatrixReq) (d : Nat) : State :=
  if r.write = true ∧ r.space = 0 ∧ 0 < cutAt r d then
    (s.endBurst r d).setPc (hbmMap r.addr).pc { waiting := [{ part := partialPart r (cutAt r d) }] }
  else s.endBurst r d

theorem drained_burstEnded {s : State} (h : s.mem.pcs = []) (r : MatrixReq) (d m : Nat) :
    (s.endBurst r d).each ((s.endBurst r d).mem.pcs.map (·.1)) (fun s p => s.drainReads m p) = s.burstEnded r d := by
  have empty : (s.burstRecorded r d).mem.pcs = [] := h
  unfold burstEnded
  rw [endBurst_eq]
  split
  next eff =>
    obtain ⟨keys, drained⟩ := burstEffect_hbm empty eff m
    rw [keys, ← drained]
    rfl
  next eff =>
    rw [burstEffect_pcs eff, empty]
    rfl

theorem changes_burstEnded (s : State) (r : MatrixReq) (d : Nat) :
    Changes [.regs, .xbar, .mem, .outHost] (fun a => ErrorRecord r.master a ∨ a = Reg.XBAR_COUNT 3) s (s.burstEnded r d) := by
  have ended : Changes [.regs, .xbar, .mem, .outHost] (fun a => ErrorRecord r.master a ∨ a = Reg.XBAR_COUNT 3) s (s.endBurst r d) :=
    ((changes_burstRecorded s r d).mono (by decide) fun _ h => h).trans
      ((changes_burstEffect (s.burstRecorded r d) r (cutAt r d) _).mono (by decide) fun _ h => h)
  unfold burstEnded
  split
  · exact ended.trans ((Changes.of_only (only_setPc _ _ _) (by decide)).mono (by decide) fun _ h => h)
  · exact ended

/-- Apart from the memory controller the end of a burst is its record and its effect. -/
theorem burstEnded_rest (s : State) (r : MatrixReq) (d : Nat) :
    (s.burstEnded r d).regs = (s.burstRecorded r d).regs ∧ (s.burstEnded r d).out = ((s.burstRecorded r d).burstEffect r (cutAt r d)).out
      ∧ (s.burstEnded r d).xbar = ((s.burstRecorded r d).burstEffect r (cutAt r d)).xbar := by
  have regs : ((s.burstRecorded r d).burstEffect r (cutAt r d)).regs = (s.burstRecorded r d).regs := by
    unfold burstEffect
    split
    · rfl
    · split
      · split <;> rfl
      · split <;> rfl
  unfold burstEnded
  split <;> exact ⟨regs, rfl, rfl⟩

theorem burstEffect_quiet {s : State} {r : MatrixReq} (d : Nat) (h : r.space ≠ 1 ∨ r.write = false ∨ s.hostFree = false) :
    (s.burstEffect r d).out.host = s.out.host := by
  unfold burstEffect
  split
  · rfl
  · split
    next eff =>
      have shut : s.hostFree = false := by
        rcases h with space | read | shut
        · exact absurd eff.2.1 space
        · exact absurd eff.1 (by simp [read])
        · exact shut
      rw [shut]
      rfl
    next => split <;> rfl

theorem burstEffect_host {s : State} {r : MatrixReq} {d : Nat} (space : r.space = 1) (w : r.write = true) (some' : 0 < d)
    (free : s.hostFree = true) : s.burstEffect r d = s.matrixOut r.addr (r.data.take (64 * d)) := by
  have other : ¬ (r.write = true ∧ r.space = 0 ∧ 0 < d) := fun e => absurd (space.symm.trans e.2.1) (by decide)
  unfold burstEffect
  rw [if_neg other, if_pos ⟨w, space, some'⟩, if_pos free]

/-! ### The delivered beats as a part -/

theorem partialPart_delivered (r : MatrixReq) {d i : Nat} (h : i < 64 * d) :
    (partialPart r d).data[i]? = (r.data[i]?).map some ∨ r.data.length ≤ i := by
  by_cases inside : i < r.data.length
  · left
    have taken : i < (r.data.take (64 * d)).length := by rw [List.length_take]; omega
    unfold partialPart
    rw [List.getElem?_append_left (by rw [List.length_map]; exact taken), List.getElem?_map, List.getElem?_take_of_lt h]
  · exact .inr (Nat.not_lt.1 inside)

theorem partialPart_strobesOff (r : MatrixReq) {d i : Nat} {x : Option Byte} (h : 64 * d ≤ i) (hx : (partialPart r d).data[i]? = some x) :
    x = none := by
  have taken : (r.data.take (64 * d)).length ≤ i := by rw [List.length_take]; omega
  unfold partialPart at hx
  rw [List.getElem?_append_right (by rw [List.length_map]; exact taken), List.getElem?_replicate] at hx
  split at hx
  · exact (Option.some.inj hx).symm
  · exact absurd hx (by simp)

/-! ### A read at the memory controller -/

/-- The only read at the memory controller is drained. -/
theorem drainReads_one {s : State} {m p : Nat} {q : Queued} (h : s.pcSt p = { issued := [q] }) (master : q.master = some m)
    (read : q.part.write = false) :
    s.drainReads m p = ((((s.xbarErr m 3 0 q.part.addr false (ceilDiv q.part.len 64)).count (Reg.XBAR_COUNT 3)).respond m none).setPc p
      { issued := [{ q with master := none }] }) := by
  unfold drainReads
  simp only [h, master, read, List.nil_append, List.filter_cons, Bool.not_false, Bool.true_and, beq_self_eq_true, if_true, List.filter_nil,
    List.map_nil, List.map_cons]
  rfl

end State

end Sys2Proof.Machine
end

section
/-! PROOF. The chip matrix as O47 states it. -/

namespace Sys2Proof.Machine

theorem exec_matrixPromotion (m : Fin 24) (n : Nat) (s : State) :
    exec (.matrixPromotion ⟨m, n⟩) s = .next { s with xbar := { s.xbar with waiting := State.promote m n s.xbar.waiting } } := rfl

theorem exec_xbarMrst (ports : BitVec 24) (d : Nat) (s : State) :
    exec (.xbarMrst ports d) s
      = .next (if s.served then s.each ((List.range 24).filter (bitAt ports.toNat)) (fun s m => s.portReset m (some d)) else s) := rfl

theorem exec_rcRead (o : Fin 67108864) (s : State) : exec (.rcRead o) s = .next (s.barRead 0 (o.val / 4 * 4)) := rfl

namespace State

theorem only_masterReset_ended {s : State} (m : Fin 24) {d tgt : Nat} {r : MatrixReq} (hm : s.mem.pcs = [])
    (busy : ofMaster m s.xbar.active = [(tgt, r)]) : s.masterReset m (some d) = (s.withdrawn m).burstEnded r d := by
  rw [masterReset_eq, busy]
  exact drained_burstEnded (s := s.withdrawn m) hm r d m

theorem masterReset_idle {s : State} (m : Fin 24) (d : Nat) (hm : s.mem.pcs = []) (busy : ofMaster m s.xbar.active = []) :
    s.masterReset m (some d) = s.withdrawn m := by
  have none' : (s.withdrawn m).mem.pcs = [] := hm
  rw [masterReset_eq, busy]
  show (s.withdrawn m).each ((s.withdrawn m).mem.pcs.map (·.1)) _ = _
  rw [none']
  rfl

end State

/-- XBAR_MRST on one port of a matrix that is served and has no outstanding host read. -/
theorem completes_xbarMrst {m : Fin 24} {d : Nat} {s : State} {P : State → Prop} (hs : s.served = true)
    (reads : (s.masterReset m (some d)).host.reads = []) (h : P (s.masterReset m (some d))) :
    Completes (.xbarMrst (BitVec.ofNat 24 (2 ^ m.val)) d) s P := by
  refine ⟨_, exec_xbarMrst _ d s, ?_⟩
  rw [if_pos hs, State.onePort]
  show P (s.portReset m (some d))
  rw [State.portReset_of_no_reads reads]
  exact h

/-- R34, R393: the grant. -/
theorem matrixGrant_arbitrates (tgt : Fin 17) (ecc : Secded) (s : State) (idle : ∀ w ∈ s.xbar.active, w.1 ≠ tgt.val) (other : tgt.val ≠ 14) :
    ((∀ i o, ¬ s.Contends tgt i o) → Completes (.matrixGrant tgt [] ecc) s (fun t => t = s))
    ∧ ((∃ i o, s.Contends tgt i o) → Completes (.matrixGrant tgt [] ecc) s (fun t =>
        ∃ i r, s.Contends tgt i r ∧ t.xbar.waiting = s.xbar.waiting.eraseIdx i ∧ mapFind t.xbar.last (4 * tgt + r.cls) = some r.master.val
        ∧ ∀ j o, s.Contends tgt j o → r.cls ≤ o.cls ∧ (o.cls = r.cls →
            State.turnOf (s.lastGranted tgt r.cls) r.master ≤ State.turnOf (s.lastGranted tgt o.cls) o.master ∧ (o.master = r.master → i ≤ j)))) :=
  ⟨fun none' => ⟨_, exec_matrixGrant .., State.matrixGrantAt_nobody ecc idle none'⟩,
    fun some' => ⟨_, exec_matrixGrant .., State.matrixGrantAt_grants ecc idle other some'⟩⟩

/-- R390: a register read over the matrix is the host's read. -/
theorem matrixGrant_reads (o : Fin 67108864) (s u : State) (hw : s.xbar.waiting = []) (ha : s.xbar.active = []) (block : (blockOf o).isSome)
    (aligned : o.val % 4 = 0) (read : exec (.rcRead o) s = .next u)
    (rows : o.val ∉ [Reg.HARROW_DC_RE, Reg.WEED_PROBE_SK, Reg.TIME_NOW_NS, Reg.REF_BUILDOUT_LO, Reg.ADC_QUEUE_ENTRY])
    (seq : o.val < Reg.ETH_STR_SEQ_LO 0 ∨ Reg.ETH_STR_SEQ_LO 4096 ≤ o.val) :
    Completes (.matrixGrant 14 [State.hostRegRead o] Secded.clean) s (fun t =>
      t.readData = u.readData ∧ t.regs = u.regs ∧ t.xbar.responses = s.xbar.responses ++ [(0, some (le 4 u.readData.toNat))]
      ∧ Only [.regs, .readData, .xbar, .free] s t) := by
  obtain ⟨b, hb⟩ := Option.isSome_iff_exists.1 block
  have target : s.matrixTarget (State.hostRegRead o) = (14, o.val) := State.matrixTarget_hostRegRead s block
  have whole : o.val / 4 * 4 = o.val := by omega
  obtain rfl : s.barRead 0 o = u := by
    rw [exec_rcRead, whole] at read
    exact Host.Outcome.next.inj read
  have again : (s.aloneGranted 14 (State.hostRegRead o)).matrixTarget (State.hostRegRead o) = (14, o.val) := target
  have same := State.barRead_xbar s (s.aloneGranted 14 (State.hostRegRead o)).xbar 0 hb
  have served : (s.aloneGranted 14 (State.hostRegRead o)).grantOutcome 14 (State.classed (State.hostRegRead o)) .clean
      = ({ s.barRead 0 o with xbar := (s.aloneGranted 14 (State.hostRegRead o)).xbar } : State).respond 0
          (some (le 4 (s.barRead 0 o).readData.toNat)) := by
    show State.granted _ 14 (State.hostRegRead o) = _
    rw [State.granted_register, again, State.registerAccess_hostRegRead _ aligned, State.matrixRead_plain _ _ rows seq]
    exact congrArg (fun v : State => v.respond 0 (some (le 4 v.readData.toNat))) same
  have frame : Only [.regs, .readData, .xbar, .free] s (({ s.barRead 0 o with xbar := (s.aloneGranted 14 (State.hostRegRead o)).xbar } : State).respond 0
      (some (le 4 (s.barRead 0 o).readData.toNat))) :=
    ((State.only_barRead s 0 hb).mono (by decide)).trans (((State.only_xbar _ _).trans (State.only_respond _ _ _)).mono (by decide))
  have ok' : State.requestOk (State.hostRegRead o) = true := by simp [State.requestOk, State.hostRegRead]
  have answer : ∀ v, v = ({ s.barRead 0 o with xbar := (s.aloneGranted 14 (State.hostRegRead o)).xbar } : State).respond 0
      (some (le 4 (s.barRead 0 o).readData.toNat)) → v.readData = (s.barRead 0 o).readData ∧ v.regs = (s.barRead 0 o).regs
        ∧ v.xbar.responses = s.xbar.responses ++ [(0, some (le 4 (s.barRead 0 o).readData.toNat))] ∧ Only [.regs, .readData, .xbar, .free] s v := by
    rintro _ rfl
    exact ⟨rfl, rfl, rfl, frame⟩
  exact State.completes_grant hw ha ok' (congrArg Prod.fst target) (State.hbmRoom_elsewhere s _ (by decide)) (answer _ served)


namespace State

/-- R396, R397: the reset of a master port whose only burst in progress is `r`. -/
theorem masterReset_busy {s : State} {m : Fin 24} {d tgt : Nat} {r : MatrixReq} (hm : s.mem.pcs = [])
    (busy : ofMaster m s.xbar.active = [(tgt, r)]) (master : r.master = m) :
    let t := s.masterReset m (some d)
    ErrorIs t r (if r.write then 2 else 3) (r.beats.val - cutAt r d) false
      ∧ t.full (Reg.XBAR_COUNT 3) = min (s.full (Reg.XBAR_COUNT 3) + 1) (2 ^ 32 - 1)
      ∧ t.xbar.waiting = ofOthers m s.xbar.waiting ∧ t.xbar.active = ofOthers m s.xbar.active
      ∧ t.xbar.responses = s.xbar.responses ++ (ofMaster m s.xbar.waiting).map (fun _ => (m.val, none)) ++ [(m.val, none)]
      ∧ Changes [.regs, .xbar, .mem, .outHost] (fun a => ErrorRecord m a ∨ a = Reg.XBAR_COUNT 3) s t := by
  obtain ⟨regs, -, xbar⟩ := burstEnded_rest (s.withdrawn m) r d
  have matrix := xbar.trans (burstEffect_xbar ((s.withdrawn m).burstRecorded r d) r (cutAt r d))
  have same : ∀ a, ((s.withdrawn m).burstEnded r d).reg a = ((s.withdrawn m).burstRecorded r d).reg a := fun a => by simp only [reg, regs]
  simp only [only_masterReset_ended m hm busy]
  refine ⟨(burstRecorded_record _ r d).of_keeps (P := fun _ => False) (fun a _ => same a) (fun _ _ => id), ?_, ?_, ?_, ?_, ?_⟩
  · simp only [full, same]
    exact burstRecorded_counts (s.withdrawn m) r d
  · rw [matrix]
    rfl
  · rw [matrix]
    rfl
  · rw [matrix, ← master]
    rfl
  · rw [← master]
    exact ((Changes.of_only (only_xbar s _) (by decide)).mono (by decide) fun _ h => h).trans (changes_burstEnded (s.withdrawn r.master) r d)

/-- The matrix's records decide nothing about the host: whether a transfer can start, and in which order it may go. -/
theorem burstRecorded_host (s : State) (r : MatrixReq) (d : Nat) :
    (s.burstRecorded r d).hostFree = s.hostFree ∧ (s.burstRecorded r d).dataRo = s.dataRo := by
  have apart : ∀ a, a < 0x1C00000 → ¬ (ErrorRecord r.master a ∨ a = Reg.XBAR_COUNT 3) := by
    intro a below
    simp only [ErrorRecord, Reg.XBAR_ERR_INFO, Reg.XBAR_ERR_ADDR_LO, Reg.XBAR_ERR_ADDR_HI, Reg.XBAR_COUNT]
    omega
  have same : ∀ a f, a < 0x1C00000 → (s.burstRecorded r d).flag a f = s.flag a f := fun a f below =>
    (changes_burstRecorded s r d).flag_eq (apart a below) f
  unfold hostFree hostCan dataRo
  rw [same _ _ (by decide), same _ _ (by decide), same _ _ (by decide), same _ _ (by decide)]
  exact ⟨rfl, rfl⟩

/-- What was delivered of a burst of a reset master: a write to HBM waits there with its strobes, one to the host leaves (R37). -/
theorem masterReset_delivered {s : State} {m : Fin 24} {d tgt : Nat} {r : MatrixReq} (hm : s.mem.pcs = [])
    (busy : ofMaster m s.xbar.active = [(tgt, r)]) :
    let t := s.masterReset m (some d)
    (r.write = true → r.space = 0 → 0 < cutAt r d →
        (t.pcSt (hbmMap r.addr).pc).waiting = [{ part := partialPart r (cutAt r d) }])
      ∧ (r.space ≠ 1 ∨ r.write = false ∨ s.hostFree = false → t.out.host = s.out.host)
      ∧ (r.space = 1 → r.write = true → 0 < cutAt r d → s.hostFree = true →
          t.out.host = (s.matrixOut r.addr (r.data.take (64 * cutAt r d))).out.host) := by
  obtain ⟨-, out, -⟩ := burstEnded_rest (s.withdrawn m) r d
  obtain ⟨free, ro⟩ := burstRecorded_host (s.withdrawn m) r d
  simp only [only_masterReset_ended m hm busy]
  refine ⟨fun w space some' => ?_, fun quiet => ?_, fun space w some' open' => ?_⟩
  · unfold burstEnded
    rw [if_pos ⟨w, space, some'⟩, pcSt_setPc_same]
  · rw [out, burstEffect_quiet _ (by rw [free]; exact quiet)]
    rfl
  · rw [out, burstEffect_host space w some' (free.trans open')]
    unfold matrixOut
    rw [ro]
    rfl

end State

end Sys2Proof.Machine
end

section
/-! PROOF. O47: the grants, the bursts, the promotion and the resets of the chip matrix put together. -/

namespace Sys2Proof.Machine

namespace State

theorem tagFrom_aloneGranted (s : State) (t : Nat) (r : MatrixReq) (n k : Nat) : (s.aloneGranted t r).tagFrom n k = s.tagFrom n k := by
  induction n generalizing k with
  | zero => rfl
  | succ n ih =>
    unfold tagFrom
    rw [ih]
    rfl

theorem newTag_aloneGranted (s : State) (t : Nat) (r : MatrixReq) : (s.aloneGranted t r).newTag = s.newTag :=
  tagFrom_aloneGranted s t r 768 s.host.nextTag

theorem reads_hostRead (s : State) (a n : Nat) (u : ReadUse) (ro : Bool) :
    (s.hostRead a n u ro).host.reads = s.host.reads ++ [⟨s.newTag, a, n, u, ro⟩] := rfl

end State

open State in
/-- R34, R35, R390, R394: what the only request there is does when it is granted. -/
theorem matrixGrant_serves (tgt : Fin 17) (r : MatrixReq) (ecc : Secded) (s : State) (hw : s.xbar.waiting = []) (ha : s.xbar.active = [])
    (ok' : requestOk r = true) (target : (s.matrixTarget r).1 = tgt) (room : s.hbmRoom tgt r = true) :
    let a := (s.matrixTarget r).2
    let served := fun P => Completes (.matrixGrant tgt [r] ecc) s P
    let answers := fun (t : State) x => t.xbar.responses = s.xbar.responses ++ [(r.master.val, x)]
    (ecc = .double → served fun t => ErrorIs t r 0 0 true ∧ t.full (Reg.XBAR_COUNT 2) = min (s.full (Reg.XBAR_COUNT 2) + 1) (2 ^ 32 - 1)
      ∧ Counted s t Ev.XBAR_UE ∧ answers t none ∧ t.xbar.active = [] ∧ Changes (([.xbar] : List Part) ++ eventParts) (UeRegs r.master) s t)
    ∧ (ecc = .clean → tgt.val = 16 → served fun t => ErrorIs t r 1 0 false
      ∧ t.full (Reg.XBAR_COUNT 0) = min (s.full (Reg.XBAR_COUNT 0) + 1) (2 ^ 32 - 1) ∧ Counted s t Ev.XBAR_DECODE
      ∧ answers t (defaultAnswer r) ∧ (r.master = 0 → r.write = false → t.readData = 0)
      ∧ Changes (([.xbar, .readData] : List Part) ++ eventParts) (DecodeRegs r.master) s t)
    ∧ (ecc = .clean → tgt.val ≠ 16 → tgt.val ≠ 14 → tgt.val ≠ 12 → r.write = true → served fun t =>
        t.xbar.active = [(tgt.val, { r with cls := (classed r).cls, space := targetSpace tgt, addr := a })]
          ∧ t.xbar.responses = s.xbar.responses ∧ Only [.xbar] s t)
    ∧ (ecc = .clean → tgt.val = 12 → served fun t =>
        answers t (some (if r.write then [] else matrixBytes (64 * r.beats.val) fun i => Config.romByte (a + i)))
          ∧ t.xbar.sram = s.xbar.sram ∧ Only [.xbar] s t)
    ∧ (ecc = .clean → tgt.val = 13 → r.write = false → served fun t =>
        answers t (some (matrixBytes (64 * r.beats.val) fun i => s.sramByte (a + i))) ∧ Only [.xbar] s t)
    ∧ (ecc = .clean → tgt.val = 15 → r.write = false → s.hostFree = true → s.tagFree = true → served fun t =>
        t.host.reads = s.host.reads ++ [⟨s.newTag, a, min s.host.mrrs (64 * r.beats.val),
          .matrix r.master [] (64 * r.beats.val - min s.host.mrrs (64 * r.beats.val)), s.dataRo⟩]
          ∧ t.xbar.responses = s.xbar.responses ∧ Only [.xbar, .reads] s t)
    ∧ (ecc = .single → tgt.val = 13 → served fun t => t.full (Reg.XBAR_COUNT 1) = min (s.full (Reg.XBAR_COUNT 1) + 1) (2 ^ 32 - 1)
        ∧ Changes [.regs, .xbar] (· = Reg.XBAR_COUNT 1) s t) := by
  have serve : ∀ e P, P ((s.aloneGranted tgt r).grantOutcome tgt (classed r) e) → Completes (.matrixGrant tgt [r] e) s P :=
    fun e P h => completes_grant hw ha ok' target room h
  have goal := matrixTarget_classed (s.aloneGranted tgt r) r
  have alone : Only [.xbar] s (s.aloneGranted tgt r) := only_aloneGranted s tgt r
  refine ⟨?_, ?_, ?_, ?_, ?_, ?_, ?_⟩
  · rintro rfl
    exact serve _ _ (granted_double s ha)
  · rintro rfl h
    refine serve _ _ ?_
    rw [h]
    exact granted_decode s
  · rintro rfl h16 h14 h12 w
    refine serve _ _ ?_
    show (State.granted _ _ _).xbar.active = _ ∧ (State.granted _ _ _).xbar.responses = _ ∧ Only _ s (State.granted _ _ _)
    rw [granted_writes h16 h14 h12 ((classed_write r).trans w), goal]
    refine ⟨?_, rfl, alone.trans (only_xbar _ _)⟩
    show s.xbar.active ++ [_] = _
    rw [ha, classed_eq r]
    rfl
  · rintro rfl h
    refine serve _ _ ?_
    show (State.granted _ _ _).xbar.responses = _ ∧ (State.granted _ _ _).xbar.sram = _ ∧ Only _ s (State.granted _ _ _)
    rw [h, granted_rom, ← h, goal, classed_master, classed_write, classed_beats]
    exact ⟨rfl, rfl, alone.trans (only_respond _ _ _)⟩
  · rintro rfl h w
    refine serve _ _ ?_
    show (State.granted _ _ _).xbar.responses = _ ∧ Only _ s (State.granted _ _ _)
    rw [h, granted_sram ((classed_write r).trans w), ← h, goal, classed_master, classed_beats]
    exact ⟨rfl, alone.trans (only_respond _ _ _)⟩
  · rintro rfl h w free tag
    refine serve _ _ ?_
    show (State.granted _ _ _).host.reads = _ ∧ (State.granted _ _ _).xbar.responses = _ ∧ Only _ s (State.granted _ _ _)
    rw [h, granted_host (s := s.aloneGranted 15 r) ((classed_write r).trans w) free tag, ← h, goal, classed_master, classed_beats]
    refine ⟨?_, rfl, (alone.mono (by decide)).trans ((only_hostRead _ _ _ _ _).mono (by decide))⟩
    rw [reads_hostRead, newTag_aloneGranted]
    rfl
  · rintro rfl h
    refine serve _ _ ?_
    have counted : Changes [.regs, .xbar] (· = Reg.XBAR_COUNT 1) s ((s.aloneGranted tgt r).count (Reg.XBAR_COUNT 1)) :=
      Changes.trans ((Changes.of_only alone (by decide)).mono (by decide) fun _ h => h) ((changes_count _ _ _).mono (by decide) fun _ h => h)
    have full : ((s.aloneGranted tgt r).count (Reg.XBAR_COUNT 1)).full (Reg.XBAR_COUNT 1) = min (s.full (Reg.XBAR_COUNT 1) + 1) (2 ^ 32 - 1) :=
      full_count_same (s.aloneGranted tgt r) _ 1
    show (State.granted _ _ _).full _ = _ ∧ Changes _ _ s (State.granted _ _ _)
    by_cases w : (classed r).write = true
    · rw [granted_writes (by omega) (by omega) (by omega) w]
      exact ⟨full, counted.trans ((Changes.of_only (only_xbar _ _) (by decide)).mono (by decide) fun _ h => h)⟩
    · rw [h, granted_sram (Bool.eq_false_iff.2 w), ← h]
      exact ⟨full, counted.trans ((Changes.of_only (only_respond _ _ _) (by decide)).mono (by decide) fun _ h => h)⟩

/-- R393: the burst in progress at a target ends at its next grant. -/
theorem matrixGrant_ends {tgt : Fin 17} {q : MatrixReq} {s : State} {P : State → Prop} (hw : s.xbar.waiting = [])
    (ha : s.xbar.active = [(tgt.val, q)]) (room : s.hbmRoom tgt q = true) (h : P (s.withoutActive.completeBurst tgt q)) :
    Completes (.matrixGrant tgt [] Secded.clean) s P :=
  ⟨_, exec_matrixGrant .., by rw [State.matrixGrantAt_ends .clean hw ha room]; exact h⟩

open State in
/-- R34: a promotion lowers the class number of one request. -/
theorem matrixPromotion_promotes (m : Fin 24) (n : Nat) (s : State) : Completes (.matrixPromotion ⟨m, n⟩) s (fun t =>
    (waitsOf m s.xbar.waiting ≤ n → t = s)
    ∧ (∀ a w b, s.xbar.waiting = a ++ w :: b → waitsOf m a = n → w.2.master = m → t.xbar.waiting = a ++ (w.1, lowered w.2) :: b)
    ∧ t.xbar = { s.xbar with waiting := t.xbar.waiting } ∧ Only [.xbar] s t) := by
  refine ⟨_, exec_matrixPromotion m n s, fun few => ?_, ?_, rfl, only_xbar s _⟩
  · rw [promote_none few]
  · rintro a w b split rfl master
    show promote m _ s.xbar.waiting = _
    rw [split, promote_append a b master]

open State in
/-- R396: the only read at the memory controller is drained. -/
theorem masterReset_read {s : State} {m : Fin 24} {p d : Nat} {q : Queued} (hw : s.xbar.waiting = []) (ha : s.xbar.active = [])
    (hm : s.mem.pcs = [(p, { issued := [q] })]) (master : q.master = some m.val) (read : q.part.write = false) :
    let t := s.masterReset m (some d)
    (t.pcSt p).issued = [{ q with master := none }] ∧ t.xbar.responses = s.xbar.responses ++ [(m.val, none)]
      ∧ t.get (Reg.XBAR_ERR_INFO m) Fld.XBAR_ERR_INFO_KIND = 3 ∧ t.full (Reg.XBAR_COUNT 3) = min (s.full (Reg.XBAR_COUNT 3) + 1) (2 ^ 32 - 1)
      ∧ t.host = s.host ∧ Changes [.regs, .xbar, .mem] (fun a => ErrorRecord m a ∨ a = Reg.XBAR_COUNT 3) s t := by
  have same : s.withdrawn m = s := by
    have waiting : ofOthers m s.xbar.waiting = s.xbar.waiting := by rw [hw]; rfl
    have active : ofOthers m s.xbar.active = s.xbar.active := by rw [ha]; rfl
    have gone : ofMaster m s.xbar.waiting = [] := by rw [hw]; rfl
    unfold withdrawn
    rw [waiting, active, gone, List.map_nil, List.append_nil]
  have here : s.pcSt p = { issued := [q] } := by
    unfold pcSt
    rw [hm]
    simp [mapFind]
  have drained : s.masterReset m (some d) = (((s.xbarErr m 3 0 q.part.addr false (ceilDiv q.part.len 64)).count (Reg.XBAR_COUNT 3)).respond
      m none).setPc p { issued := [{ q with master := none }] } := by
    rw [masterReset_eq, same, ha]
    show s.each (s.mem.pcs.map (·.1)) _ = _
    rw [hm, ← drainReads_one here master read]
    rfl
  have recorded : Changes [.regs, .xbar, .mem] (fun a => ErrorRecord m a ∨ a = Reg.XBAR_COUNT 3) s
      (s.xbarErr m 3 0 q.part.addr false (ceilDiv q.part.len 64)) :=
    Changes.mono ⟨only_xbarErr s _ _ _ _ _ _, keeps_xbarErr s _ _ _ _ _ _⟩ (by decide) fun _ h => .inl h
  have apart : Reg.XBAR_ERR_INFO m ≠ Reg.XBAR_COUNT 3 := record_not_xbarCount (m := m) (by decide) (.inl rfl)
  simp only [drained]
  refine ⟨by rw [pcSt_setPc_same], rfl, ?_, ?_, rfl, ?_⟩
  · have get' : ∀ (v : State) x a f, ((v.respond m none).setPc p x).get a f = v.get a f := fun _ _ _ _ => rfl
    rw [get', keeps_get (keeps_count _ _ 1) apart, get_xbarErr]
    simp only [Fld.XBAR_ERR_INFO_KIND, b2n, Bool.false_eq_true, if_false]
    omega
  · have full' : ∀ (v : State) x a, ((v.respond m none).setPc p x).full a = v.full a := fun _ _ _ => rfl
    rw [full', full_count_same, full, keeps_xbarErr s _ _ _ _ _ _ _ (xbarCount_not_record _ 3 (by decide)), ← full]
  · exact ((recorded.trans ((changes_count _ _ _).mono (by decide) fun _ h => .inr h)).trans
      ((Changes.of_only (only_respond _ _ _) (by decide)).mono (by decide) fun _ h => h)).trans
      ((Changes.of_only (only_setPc _ _ _) (by decide)).mono (by decide) fun _ h => h)

end Sys2Proof.Machine
end

section
/-! PROOF. O47 settled. -/

namespace Sys2Proof.Machine

open State in
/-- Settles O47: arbitration by the leading requests of the queue, each target's service by what `granted` does there, the resets by the
withdrawal, the burst's end and the drained reads of `masterReset`. -/
theorem matrixGrantsAndResets : Obligations.MatrixGrantsAndResets := by
  unfold Obligations.MatrixGrantsAndResets
  refine ⟨?_, ?_, ?_, ?_, ?_, ?_, ?_, ?_⟩
  · intro tgt ecc s idle other
    have grants := matrixGrant_arbitrates tgt ecc s idle other
    simp only [contends_iff] at grants
    exact grants
  · intro tgt r ecc s hw ha ok' target room
    obtain ⟨double, decode, writes, rom, sram, host, single⟩ := matrixGrant_serves tgt r ecc s hw ha ok' target room
    have serve : ∀ P, P ((s.aloneGranted tgt r).grantOutcome tgt (classed r) ecc) → Completes (.matrixGrant tgt [r] ecc) s P :=
      fun P h => completes_grant hw ha ok' target room h
    refine ⟨fun e => ?_, fun e h => ?_, fun e h16 h14 h12 w => ?_, fun e h w => ?_, fun e h w => ?_, fun e h w => sram e h w,
      fun e h w free tag => host e h w free tag, fun e h w idle few part => ?_, fun e h w idle whole clean => ?_, fun e h => ?_⟩
    · obtain ⟨t, run, record, count, raised, answer, active, frame⟩ := double e
      exact ⟨t, run, record, count, raised, answer, active, frame.regs, frame.parts⟩
    · obtain ⟨t, run, record, count, raised, answer, data, frame⟩ := decode e h
      exact ⟨t, run, record, count, raised, answer, data, frame.regs, frame.parts⟩
    · obtain ⟨t, run, active, responses, frame⟩ := writes e h16 h14 h12 w
      exact ⟨t, run, _, active, rfl, rfl, rfl, rfl, rfl, responses, frame⟩
    · obtain ⟨t, run, answer, -, frame⟩ := rom e h
      rw [w] at answer
      exact ⟨t, run, answer, frame⟩
    · obtain ⟨t, run, answer, bytes, frame⟩ := rom e h
      rw [w] at answer
      exact ⟨t, run, answer, bytes, frame⟩
    · subst e
      obtain ⟨queued, responses⟩ := granted_read_queued s h w room idle part
      exact serve _ ⟨_, queued, rfl, rfl, rfl, rfl, rfl, rfl, responses, only_granted_read s h w room idle⟩
    · subst e
      exact serve _ ⟨granted_read_answered s h w room idle whole clean, only_granted_read s h w room idle⟩
    · obtain ⟨t, run, count, frame⟩ := single e h
      exact ⟨t, run, count, frame.regs, frame.parts⟩
  · exact matrixGrant_reads
  · intro tgt q s hw ha
    refine ⟨fun full => ⟨_, exec_matrixGrant .., matrixGrantAt_stuck .clean ha full⟩, fun h => ?_, fun h free => ?_,
      fun h clean room idle few => ?_⟩
    · refine matrixGrant_ends hw ha (hbmRoom_elsewhere s q (by omega)) ?_
      rw [h]
      obtain ⟨inside, outside, active, responses, frame⟩ := completeBurst_sram s.withoutActive q
      exact ⟨inside, outside, active, responses, (only_xbar s _).trans frame⟩
    · refine matrixGrant_ends hw ha (hbmRoom_elsewhere s q (by omega)) ?_
      rw [h, completeBurst_host s.withoutActive q free]
      exact ⟨rfl, rfl, rfl, (((only_xbar s _).mono (by decide)).trans ((only_matrixOut _ _ _).mono (by decide))).trans
        ((only_respond _ _ _).mono (by decide))⟩
    · refine matrixGrant_ends hw ha room ?_
      obtain ⟨inside, outside, active, responses, frame⟩ := completeBurst_write (s := s.withoutActive) h clean idle few
      exact ⟨inside, outside, active, responses, ((only_xbar s _).mono (by decide)).trans frame⟩
  · intro m n s
    obtain ⟨t, run, few, promotes, matrix, frame⟩ := matrixPromotion_promotes m n s
    exact ⟨t, run, few, fun a w b split older master => ⟨_, promotes a w b split older master, rfl, rfl⟩, matrix, frame⟩
  · rintro ports d s nothing
    refine ⟨_, exec_xbarMrst ports d s, ?_⟩
    rcases nothing with shut | rfl
    · rw [if_neg (by simp [shut])]
    · split
      · rfl
      · rfl
  · intro m d s hs reads hm
    refine ⟨fun idle => ?_, fun tgt r busy master => ?_⟩
    · have none' : ofMaster m s.xbar.active = [] := List.filter_eq_nil_iff.2 fun w hw => by simpa using idle w hw
      have all : ofOthers m s.xbar.active = s.xbar.active := List.filter_eq_self.2 fun w hw => by simpa using idle w hw
      have reset := masterReset_idle m d hm none'
      refine completes_xbarMrst hs (by rw [reset]; exact reads) ?_
      rw [reset]
      refine ⟨?_, only_xbar s _⟩
      show ({ s.xbar with waiting := _, active := ofOthers m s.xbar.active, responses := _ } : XbarSt) = _
      rw [all]
      rfl
    · obtain ⟨record, count, waiting, active, responses, frame⟩ := masterReset_busy (d := d) hm busy master
      obtain ⟨hbm, quiet, host⟩ := masterReset_delivered (d := d) hm busy
      have noReads : (s.masterReset m (some d)).host.reads = [] := (frame.parts .reads (by decide)).1.trans reads
      refine completes_xbarMrst hs noReads ⟨record, count, waiting, active, responses, fun w space some' => ?_, quiet,
        fun space w some' free => host space w some' free, frame.regs, frame.parts⟩
      exact ⟨_, hbm w space some', rfl, rfl, by rw [← master]; rfl, fun i hi => partialPart_delivered r hi,
        fun i x hi hx => partialPart_strobesOff r hi hx⟩
  · intro m p q d s hs reads ha hw hm master read
    obtain ⟨issued, responses, kind, count, host, frame⟩ := masterReset_read (d := d) hw ha hm master read
    exact completes_xbarMrst hs (by rw [host]; exact reads) ⟨issued, responses, kind, count, frame.regs, frame.parts⟩

end Sys2Proof.Machine
end

section
/-! SUPPORT. The bookkeeping of furrows, spares and retirements (R187, R195–R203): what each operation does to a furrow's register, and what
it leaves alone. -/

namespace Sys2Proof.Machine

/-- Registers away from those that a claim about spills and recomputes speaks of: the turning buffer, the rings, the almanac and the twin
pair, and the events of retirement, lag and yield. -/
def ArrayAside (a : Nat) : Prop :=
  (0x800000 ≤ a ∧ a < 0x900000) ∨ 0x1400000 ≤ a ∨ EventRegs Ev.CORR_RETIRED a ∨ EventRegs Ev.CORR_SPARES_OUT a ∨ EventRegs Ev.TURN_LAG a
    ∨ EventRegs Ev.TWIN_YIELD a ∨ EventRegs Ev.BALRAN_TX_BACKLOG a

/-- The registers that the bookkeeping of a furrow may change. -/
def FurrowRegs (f a : Nat) : Prop :=
  a = State.furReg f ∨ a = Reg.CORR_GOV_STATUS ∨ a = Reg.CORR_STATUS ∨ a = Reg.CORR_COUNT 10 ∨ ArrayAside a

/-- What bookkeeping of the array outside a twin pair touches. -/
def arrayParts : List Part := ([.corr, .turn, .weed, .rings, .firings, .twin] : List Part) ++ eventParts

/-- Passes in flight, suspects, spills, buses and spill ports read as before. -/
structure KeepsPasses (s t : State) : Prop where
  flights : t.corr.flights = s.corr.flights
  suspects : t.corr.suspects = s.corr.suspects
  spills : t.corr.spills = s.corr.spills
  bus : t.corr.bus = s.corr.bus
  port : t.corr.port = s.corr.port

namespace KeepsPasses

variable {s t u : State}

theorem refl (s : State) : KeepsPasses s s := ⟨rfl, rfl, rfl, rfl, rfl⟩

theorem trans (h : KeepsPasses s t) (k : KeepsPasses t u) : KeepsPasses s u :=
  ⟨k.flights.trans h.flights, k.suspects.trans h.suspects, k.spills.trans h.spills, k.bus.trans h.bus, k.port.trans h.port⟩

theorem of_corr (h : t.corr = s.corr) : KeepsPasses s t := by
  constructor <;> rw [h]

theorem of_only {ps : List Part} (h : Only ps s t) (hp : Part.corr ∉ ps) : KeepsPasses s t := of_corr (h .corr hp)

end KeepsPasses

/-- A step of the array's bookkeeping: it leaves the passes alone and changes some registers; outside a twin pair its parts are few. -/
structure ArrayStep (P : Nat → Prop) (s t : State) : Prop where
  regs : KeepsRegs s t P
  sys : t.sys = s.sys
  alone : s.twinOn = false → Only arrayParts s t
  passes : KeepsPasses s t

theorem State.twinOn_of_sys {s t : State} (h : t.sys = s.sys) : t.twinOn = s.twinOn := by
  show decide (Fld.of _ ((mapFind t.sys.unitRegs _).getD _) = 1) = _
  rw [h]; rfl

namespace ArrayStep

variable {P Q : Nat → Prop} {s t u : State}

theorem refl (P : Nat → Prop) (s : State) : ArrayStep P s s := ⟨fun _ _ => rfl, rfl, fun _ => .refl _ s, .refl s⟩

theorem trans (h : ArrayStep P s t) (k : ArrayStep P t u) : ArrayStep P s u :=
  ⟨State.KeepsRegs.trans h.regs k.regs, k.sys.trans h.sys,
    fun hs => (h.alone hs).trans (k.alone ((State.twinOn_of_sys h.sys).trans hs)), h.passes.trans k.passes⟩

theorem mono (h : ArrayStep P s t) (hP : ∀ a, P a → Q a) : ArrayStep Q s t := ⟨State.KeepsRegs.mono h.regs hP, h.sys, h.alone, h.passes⟩

theorem of_changes {ps : List Part} (h : Changes ps P s t) (k : KeepsPasses s t) (hp : ∀ p ∈ ps, p ∈ arrayParts) : ArrayStep P s t :=
  ⟨h.regs, (h.parts.mono hp) .sys (by decide), fun _ => h.parts.mono hp, k⟩

theorem each {α : Type} {f : State → α → State} (l : List α) (h : ∀ s, ∀ x ∈ l, ArrayStep P s (f s x)) (s : State) :
    ArrayStep P s (s.each l f) := by
  induction l generalizing s with
  | nil => exact refl P s
  | cons x l ih =>
    exact (h s x List.mem_cons_self).trans (ih (fun s y hy => h s y (List.mem_cons_of_mem x hy)) (f s x))

theorem get_eq (h : ArrayStep P s t) {a : Nat} (ha : ¬ P a) (f : Fld) : t.get a f = s.get a f := State.keeps_get h.regs ha f

theorem full_eq (h : ArrayStep P s t) {a : Nat} (ha : ¬ P a) : t.full a = s.full a := by simp only [State.full, h.regs a ha]

end ArrayStep

namespace State

/-! ### Addresses -/

theorem furReg_ne_low (f : Nat) {a : Nat} (h : a < 0x901000) : a ≠ furReg f := by
  simp only [furReg, Reg.CORR_FURROW]; omega

theorem furReg_inj {f g : Nat} (h : furReg f = furReg g) : f = g := by
  simp only [furReg, Reg.CORR_FURROW] at h; omega

theorem count_not_furrowRegs {k : Nat} (hk : k < 12) (h10 : k ≠ 10) (f : Nat) : ¬ FurrowRegs f (Reg.CORR_COUNT k) := by
  simp only [FurrowRegs, ArrayAside, EventRegs, furReg, Reg.CORR_FURROW, Reg.CORR_GOV_STATUS, Reg.CORR_STATUS, Reg.CORR_COUNT,
    Reg.EVT_SRC_CNT, Reg.EVT_SRC_CFG, Reg.EVT_STATUS, Ev.CORR_RETIRED, Ev.CORR_SPARES_OUT, Ev.TURN_LAG, Ev.TWIN_YIELD,
    Ev.BALRAN_TX_BACKLOG]
  omega

theorem furReg_not_aside {f : Nat} (hf : f < 272) : ¬ ArrayAside (furReg f) := by
  simp only [ArrayAside, EventRegs, furReg, Reg.CORR_FURROW, Reg.EVT_SRC_CNT, Reg.EVT_SRC_CFG, Reg.EVT_STATUS, Ev.CORR_RETIRED,
    Ev.CORR_SPARES_OUT, Ev.TURN_LAG, Ev.TWIN_YIELD, Ev.BALRAN_TX_BACKLOG]
  omega

/-- The counter of an event other than those of retirement, lag and yield. -/
theorem eventCount_not_furrowRegs {e : Nat} (he : e < 2048)
    (h : e ∉ [Ev.CORR_RETIRED, Ev.CORR_SPARES_OUT, Ev.TURN_LAG, Ev.TWIN_YIELD, Ev.BALRAN_TX_BACKLOG]) (f : Nat) :
    ¬ FurrowRegs f (Reg.EVT_SRC_CNT e) := by
  simp only [List.mem_cons, List.not_mem_nil, not_or, or_false, Ev.CORR_RETIRED, Ev.CORR_SPARES_OUT, Ev.TURN_LAG, Ev.TWIN_YIELD,
    Ev.BALRAN_TX_BACKLOG] at h
  simp only [FurrowRegs, ArrayAside, EventRegs, furReg, Reg.CORR_FURROW, Reg.CORR_GOV_STATUS, Reg.CORR_STATUS, Reg.CORR_COUNT,
    Reg.EVT_SRC_CNT, Reg.EVT_SRC_CFG, Reg.EVT_STATUS, Ev.CORR_RETIRED, Ev.CORR_SPARES_OUT, Ev.TURN_LAG, Ev.TWIN_YIELD,
    Ev.BALRAN_TX_BACKLOG]
  omega

theorem yieldRegs_aside {a : Nat} (h : YieldRegs a) : ArrayAside a := by
  rcases h with h | h | h | h
  · exact .inr (.inl (by simp only [h, Reg.TWIN_STATUS]; omega))
  · exact .inr (.inl (by simp only [h, Reg.TWIN_COUNT]; omega))
  · exact .inr (.inr (.inr (.inr (.inr (.inl h)))))
  · exact .inr (.inr (.inr (.inr (.inr (.inr h)))))

/-! ### A furrow's state and activity -/

theorem changes_furTo (s : State) (f st : Nat) : Changes [.regs] (· = furReg f) s (s.furTo f st) := changes_set s _ _ _

theorem changes_setWarm (s : State) (f : Nat) (b : Bool) :
    Changes [.regs] (fun a => a = furReg f ∨ a = Reg.CORR_GOV_STATUS) s (s.setWarm f b) := by
  unfold setWarm; dsimp only; split
  · exact .refl _ _ s
  · exact ((changes_setFlag s _ _ b).mono (by decide) fun _ h => .inl h).trans
      ((changes_set _ _ _ _).mono (by decide) fun _ h => .inr h)

theorem furState_furTo_same (s : State) (f : Nat) {st : Nat} (h : st < 8) : (s.furTo f st).furState f = st := by
  unfold furState furTo
  rw [get_set_same s _ st (by decide)]
  exact Nat.mod_eq_of_lt h

/-- What `setWarm` leaves of a furrow's register beside WARM. -/
theorem get_setWarm (s : State) (f g : Nat) (b : Bool) {fl : Fld} (h : Fld.CORR_FURROW_WARM.apart fl) :
    (s.setWarm f b).get (furReg g) fl = s.get (furReg g) fl := by
  unfold setWarm; dsimp only; split
  · rfl
  · rw [get_set_other _ _ _ _ (furReg_ne_low g (by decide)).symm]
    by_cases hg : g = f
    · subst hg; exact get_set_apart s _ (b2n b) (by decide) h
    · exact get_set_other s _ _ _ (fun k => hg (furReg_inj k))

theorem furState_setWarm (s : State) (f g : Nat) (b : Bool) : (s.setWarm f b).furState g = s.furState g :=
  s.get_setWarm f g b (by decide)

theorem furWarm_setWarm_same (s : State) (f : Nat) (b : Bool) : (s.setWarm f b).furWarm f = b := by
  unfold setWarm; dsimp only; split
  · assumption
  · unfold furWarm
    rw [Changes.flag_eq (changes_set _ _ _ _) (furReg_ne_low f (by decide)).symm]
    exact flag_setFlag_same s _ b (by decide) (by decide)

theorem furWarm_furTo (s : State) (f g st : Nat) : (s.furTo f st).furWarm g = s.furWarm g := by
  unfold furWarm furTo flag
  by_cases hg : g = f
  · subst hg; rw [get_set_apart s _ st (by decide) (by decide)]
  · rw [get_set_other s _ _ _ (fun k => hg (furReg_inj k))]

/-! ### Spares brought up -/

theorem only_bringUp (s : State) (f : Nat) : Only [.corr] s (s.bringUp f) := by
  unfold bringUp; split
  · exact .refl _ s
  · exact only_corr s _

theorem bringUp_passes (s : State) (f : Nat) : KeepsPasses s (s.bringUp f) := by
  unfold bringUp; split
  · exact .refl s
  · exact ⟨rfl, rfl, rfl, rfl, rfl⟩

theorem only_rampSpare (s : State) (m : Nat) : Only [.corr] s (s.rampSpare m) := by
  unfold rampSpare; split
  · exact only_bringUp s _
  · exact .refl _ s

theorem rampSpare_passes (s : State) (m : Nat) : KeepsPasses s (s.rampSpare m) := by
  unfold rampSpare; split
  · exact bringUp_passes s _
  · exact .refl s

/-! ### A furrow is retired -/

/-- Any answer of a command: nothing below the rings' registers. -/
theorem finish_step (s : State) (ref : CmdRef) (c : CplRec) : ArrayStep ArrayAside s (s.finish ref c) :=
  .of_changes ⟨only_finish s ref c, fun a ha => by
      have low : a < 0x1400000 := by
        by_contra h; exact ha (.inr (.inl (by omega)))
      exact finish_reg s ref c (fun x _ => by simp only [Reg.ALM_STATE]; omega) (by simp only [Reg.RING_COUNT]; omega)
        (by simp only [Reg.ALM_COUNT]; omega)⟩
    (.of_only (only_finish s ref c) (by decide)) (by decide)

end State

end Sys2Proof.Machine
end

section
/-! SUPPORT. A furrow's retirement, and a recompute's spare that is idle again (R32, R189, R195–R198). -/

namespace Sys2Proof.Machine

/-- A change of the array's fields beside its passes. -/
theorem ArrayStep.corr {P : Nat → Prop} {s : State} {x : CorrSt} (k : KeepsPasses s { s with corr := x }) :
    ArrayStep P s { s with corr := x } :=
  .of_changes (.of_only (State.only_corr s x) (by decide)) k (by decide)

theorem ArrayStep.of_regs {P : Nat → Prop} {s t : State} (h : Changes [.regs] P s t) : ArrayStep P s t :=
  .of_changes h (.of_only h.parts (by decide)) (by decide)

theorem ArrayStep.of_raise (s : State) (e d : Nat) : ArrayStep (EventRegs e) s (s.raise e d) :=
  .of_changes (State.changes_raise s e d) (.of_only (State.only_raise s e d) (by decide)) (by decide)

namespace State

/-- A cause of the self-diagnosis: outside a twin pair it only marks the unit. -/
theorem selfFault_step (s : State) (cause : Nat) : ArrayStep ArrayAside s (s.selfFault cause) where
  regs := KeepsRegs.mono (changes_selfFault s cause).regs fun _ => yieldRegs_aside
  sys := (changes_selfFault s cause).parts .sys (by decide)
  alone h := by
    unfold selfFault; rw [if_neg (by simp [h])]
    exact (only_twin s _).mono (by decide)
  passes := .of_only (changes_selfFault s cause).parts (by decide)

/-- The registers that retirement may change beside its furrow's own and the governor's. -/
def RetiredRegs (a : Nat) : Prop := a = Reg.CORR_STATUS ∨ a = Reg.CORR_COUNT 10 ∨ ArrayAside a

theorem retiredRegs_furrowRegs (f : Nat) {a : Nat} (h : RetiredRegs a) : FurrowRegs f a := .inr (.inr h)

theorem furReg_not_retiredRegs {f : Nat} (hf : f < 272) : ¬ RetiredRegs (furReg f) := by
  rintro (h | h | h)
  · exact furReg_ne_low f (by decide) h.symm
  · exact furReg_ne_low f (by decide) h.symm
  · exact furReg_not_aside hf h

theorem checkSpares_step (s : State) : ArrayStep RetiredRegs s s.checkSpares := by
  unfold checkSpares
  refine .each _ (fun s m _ => ?_) s
  dsimp only; split
  · exact .refl _ s
  · refine .trans (.trans (.trans (t := { s with corr := { s.corr with out := m :: s.corr.out } }) (.corr ⟨rfl, rfl, rfl, rfl, rfl⟩)
      ((ArrayStep.of_regs (changes_setFlag _ _ _ _)).mono fun _ h => .inl h))
      ((ArrayStep.of_raise _ _ _).mono fun _ h => .inr (.inr (.inr (.inr (.inr (.inl h)))))))
      ((selfFault_step _ _).mono fun _ h => .inr (.inr h))

theorem cmds_step {P : Nat → Prop} (s : State) (l : List (CmdRef × Nat)) :
    ArrayStep P s { s with corr := { s.corr with cmds := l } } := .corr ⟨rfl, rfl, rfl, rfl, rfl⟩

theorem resting_step {P : Nat → Prop} (s : State) (l : List (Nat × Nat)) :
    ArrayStep P s { s with corr := { s.corr with resting := l } } := .corr ⟨rfl, rfl, rfl, rfl, rfl⟩

theorem doomed_step {P : Nat → Prop} (s : State) (l : List (Nat × Nat)) :
    ArrayStep P s { s with corr := { s.corr with doomed := l } } := .corr ⟨rfl, rfl, rfl, rfl, rfl⟩

/-- After a furrow has been marked RETIRED, what follows leaves its register alone. -/
theorem retired_tail (s : State) (f : Nat) : ArrayStep RetiredRegs ((s.furTo f fRetired).setWarm f false) (s.retired f) := by
  unfold retired
  generalize (s.furTo f fRetired).setWarm f false = s
  dsimp only
  refine .trans ((ArrayStep.of_regs (changes_count s _ 1)).mono fun _ h => .inr (.inl h)) ?_
  refine .trans ((ArrayStep.of_raise _ _ (corrDetail f 0 0 0 0)).mono fun _ h => .inr (.inr (.inr (.inr (.inl h))))) ?_
  generalize (s.count _).raise _ _ = s
  refine .trans (cmds_step s (s.corr.cmds.filter (fun c => c.2 != f))) ?_
  exact .trans (.each _ (fun s c _ => (finish_step s c.1 {}).mono fun _ h => .inr (.inr h)) _) (checkSpares_step _)

theorem furTo_setWarm_changes (s : State) (f st : Nat) (b : Bool) :
    Changes [.regs] (fun a => a = furReg f ∨ a = Reg.CORR_GOV_STATUS) s ((s.furTo f st).setWarm f b) :=
  ((changes_furTo s f st).mono (by decide) fun _ h => .inl h).trans (changes_setWarm _ f b)

theorem furTo_setWarm_furrowRegs {f a : Nat} (h : a = furReg f ∨ a = Reg.CORR_GOV_STATUS) : FurrowRegs f a := h.imp_right .inl

theorem furTo_setWarm_step (s : State) (f st : Nat) (b : Bool) : ArrayStep (FurrowRegs f) s ((s.furTo f st).setWarm f b) :=
  (ArrayStep.of_regs (furTo_setWarm_changes s f st b)).mono fun _ => furTo_setWarm_furrowRegs

theorem retired_step (s : State) (f : Nat) : ArrayStep (FurrowRegs f) s (s.retired f) :=
  (furTo_setWarm_step s f _ _).trans ((retired_tail s f).mono fun _ => retiredRegs_furrowRegs f)

theorem furState_retired (s : State) {f : Nat} (hf : f < 272) : (s.retired f).furState f = fRetired :=
  calc (s.retired f).furState f
    _ = ((s.furTo f fRetired).setWarm f false).furState f := (retired_tail s f).get_eq (furReg_not_retiredRegs hf) _
    _ = fRetired := by rw [furState_setWarm, furState_furTo_same s f (by decide)]

/-- Retirement leaves the cause and the errors of its furrow. -/
theorem get_retired (s : State) {f : Nat} (hf : f < 272) {fl : Fld} (hs : Fld.CORR_FURROW_STATE.apart fl) (hw : Fld.CORR_FURROW_WARM.apart fl) :
    (s.retired f).get (furReg f) fl = s.get (furReg f) fl :=
  calc (s.retired f).get (furReg f) fl
    _ = ((s.furTo f fRetired).setWarm f false).get (furReg f) fl := (retired_tail s f).get_eq (furReg_not_retiredRegs hf) _
    _ = s.get (furReg f) fl := by rw [get_setWarm _ f f false hw]; exact get_set_apart s _ _ (by decide) hs

/-! ### Retirement by a furrow's state -/

theorem furState_set_apart (s : State) (f v : Nat) {fl : Fld} (hf : fl.fits) (h : fl.apart Fld.CORR_FURROW_STATE) :
    (s.set (furReg f) fl v).furState f = s.furState f := get_set_apart s _ v hf h

theorem retire_of_retired (s : State) (f cause : Nat) (h : s.furState f = fRetired) : s.retire f cause = s := by
  unfold retire; dsimp only; rw [if_pos (.inl h)]

theorem retire_of_spare (s : State) (f cause : Nat) (h : s.furState f = fSpare) :
    s.retire f cause = (s.set (furReg f) Fld.CORR_FURROW_CAUSE cause).retired f := by
  unfold retire; dsimp only
  rw [h, if_neg (by decide), if_neg (by decide), if_pos rfl]

theorem retire_of_active (s : State) (f cause : Nat) (h : s.furState f = fActive) :
    s.retire f cause = ((s.set (furReg f) Fld.CORR_FURROW_CAUSE cause).furTo f fRetiring).rampSpare (f / 68) := by
  unfold retire; dsimp only
  rw [h, if_neg (by decide), if_neg (by decide), if_neg (by decide), if_neg (by decide)]

theorem retire_step (s : State) (f cause : Nat) : ArrayStep (fun _ => True) s (s.retire f cause) := by
  have cause_set : ArrayStep (fun _ => True) s (s.set (furReg f) Fld.CORR_FURROW_CAUSE cause) :=
    (ArrayStep.of_regs (changes_set s _ _ _)).mono fun _ _ => trivial
  unfold retire; dsimp only; split
  · exact .refl _ s
  · split
    · exact doomed_step s _
    · split
      · exact cause_set.trans ((retired_step _ f).mono fun _ _ => trivial)
      · split
        · refine cause_set.trans ?_
          generalize s.set _ _ _ = s
          refine .trans (.each (s.corr.resting.filter (fun p => p.1 == f)) (fun s (p : Nat × Nat) _ =>
            (ArrayStep.of_regs (changes_furTo s p.2 fActive)).mono fun _ _ => trivial) _) ?_
          generalize State.each _ _ _ = s
          exact .trans (resting_step s (s.corr.resting.filter (fun p => p.1 != f))) ((retired_step _ f).mono fun _ _ => trivial)
        · exact (cause_set.trans ((ArrayStep.of_regs (changes_furTo _ f _)).mono fun _ _ => trivial)).trans
            (.of_changes (.of_only (only_rampSpare _ _) (by decide)) (rampSpare_passes _ _) (by decide))

theorem retire_spare_step (s : State) (f cause : Nat) (h : s.furState f = fSpare) : ArrayStep (FurrowRegs f) s (s.retire f cause) := by
  rw [retire_of_spare s f cause h]
  exact ((ArrayStep.of_regs (changes_set s _ _ _)).mono fun _ h => .inl h).trans (retired_step _ f)

theorem retire_active_step (s : State) (f cause : Nat) (h : s.furState f = fActive) : ArrayStep (· = furReg f) s (s.retire f cause) := by
  rw [retire_of_active s f cause h]
  exact ((ArrayStep.of_regs (changes_set s _ _ _)).trans (.of_regs (changes_furTo _ f _))).trans
    (.of_changes (.of_only (only_rampSpare _ _) (by decide)) (rampSpare_passes _ _) (by decide))

theorem retire_active_state (s : State) (f cause : Nat) (h : s.furState f = fActive) : (s.retire f cause).furState f = fRetiring := by
  rw [retire_of_active s f cause h, furState, keeps_get (keeps_only (only_rampSpare _ _) (by decide) (fun _ => False)) id]
  exact furState_furTo_same _ f (by decide)

theorem retire_active_cause (s : State) (f : Nat) {cause : Nat} (hc : cause < 8) (h : s.furState f = fActive) :
    (s.retire f cause).get (furReg f) Fld.CORR_FURROW_CAUSE = cause := by
  rw [retire_of_active s f cause h, keeps_get (keeps_only (only_rampSpare _ _) (by decide) (fun _ => False)) id, furTo,
    get_set_apart _ _ _ (by decide) (by decide), get_set_same _ _ _ (by decide)]
  exact Nat.mod_eq_of_lt hc

/-! ### Uncorrectable errors of a furrow -/

theorem furErrors_zero (s : State) (f : Nat) : s.furErrors f 0 = s := if_pos rfl

/-- On a furrow that is RETIRED errors are only counted. -/
theorem furErrors_of_retired (s : State) (f n : Nat) (h : s.furState f = fRetired) :
    s.furErrors f n = if n = 0 then s else s.bump (furReg f) Fld.CORR_FURROW_ERRORS n := by
  have still : (s.bump (furReg f) Fld.CORR_FURROW_ERRORS n).furState f = fRetired :=
    (furState_set_apart s f _ (by decide) (by decide)).trans h
  unfold furErrors
  dsimp only; split
  · rfl
  · split
    · exact retire_of_retired _ f 2 still
    · rfl

theorem satU_of_lt {n v : Nat} (h : v < 2 ^ n) : satU n v = v := if_pos h

theorem satU_lt (n v : Nat) : satU n v < 2 ^ n := by
  unfold satU; have := Nat.two_pow_pos n; split <;> omega

theorem get_furErrors_of_retired (s : State) (f n : Nat) (h : s.furState f = fRetired) :
    (s.furErrors f n).get (furReg f) Fld.CORR_FURROW_ERRORS
      = satU Fld.CORR_FURROW_ERRORS.width (s.get (furReg f) Fld.CORR_FURROW_ERRORS + n) := by
  rw [furErrors_of_retired s f n h]; split
  · rename_i h0; rw [h0]; exact (satU_of_lt (Fld.of_lt _ _)).symm
  · rw [bump, get_set_same _ _ _ (by decide)]
    exact Nat.mod_eq_of_lt (satU_lt _ _)

theorem furErrors_of_retired_step (s : State) (f n : Nat) (h : s.furState f = fRetired) : ArrayStep (· = furReg f) s (s.furErrors f n) := by
  rw [furErrors_of_retired s f n h]; split
  · exact .refl _ s
  · exact .of_regs (changes_set s _ _ _)

theorem get_furErrors_of_retired_apart (s : State) (f n : Nat) (h : s.furState f = fRetired) {fl : Fld}
    (hf : Fld.CORR_FURROW_ERRORS.apart fl) : (s.furErrors f n).get (furReg f) fl = s.get (furReg f) fl := by
  rw [furErrors_of_retired s f n h]; split
  · rfl
  · exact get_set_apart s _ _ (by decide) hf

/-! ### A spare is idle again -/

theorem furState_idle (s : State) (f : Nat) : ((s.furTo f fSpare).setWarm f false).furState f = fSpare := by
  rw [furState_setWarm, furState_furTo_same s f (by decide)]

/-- A spare leaves the list of those brought up and is idle. -/
def idleAgain (s : State) (f : Nat) : State :=
  (({ s with corr := { s.corr with ramps := s.corr.ramps.filter (fun g => g != f) } } : State).furTo f fSpare).setWarm f false

theorem freeSpare_some (s : State) (f : Nat) :
    s.freeSpare (some f) = match s.corr.doomed.find? (fun d => d.1 == f) with
      | some d => ({ s.idleAgain f with corr := { (s.idleAgain f).corr with
          doomed := (s.idleAgain f).corr.doomed.filter (fun e => e.1 != f) } } : State).retire f d.2
      | none => s.idleAgain f := by
  have same : (s.idleAgain f).corr.doomed = s.corr.doomed := by
    have h : (s.idleAgain f).corr = { s.corr with ramps := s.corr.ramps.filter (fun g => g != f) } :=
      (furTo_setWarm_changes _ f fSpare false).parts .corr (by decide)
    rw [h]
  rw [← same]; rfl

theorem freeSpare_undoomed (s : State) (f : Nat) (h : ∀ d ∈ s.corr.doomed, d.1 ≠ f) : s.freeSpare (some f) = s.idleAgain f := by
  rw [freeSpare_some, List.find?_eq_none.2 (by simpa using h)]

theorem idleAgain_changes (s : State) (f : Nat) : Changes [.corr, .regs] (FurrowRegs f) s (s.idleAgain f) :=
  .trans ((Changes.of_only (only_corr s _) (by decide)).mono (by decide) fun _ h => h)
    ((furTo_setWarm_changes _ f fSpare false).mono (by decide) fun _ => furTo_setWarm_furrowRegs)

theorem idleAgain_passes (s : State) (f : Nat) : KeepsPasses s (s.idleAgain f) :=
  .trans (t := { s with corr := { s.corr with ramps := s.corr.ramps.filter (fun g => g != f) } }) ⟨rfl, rfl, rfl, rfl, rfl⟩
    (.of_only (furTo_setWarm_changes _ f fSpare false).parts (by decide))

theorem furState_idleAgain (s : State) (f : Nat) : (s.idleAgain f).furState f = fSpare := furState_idle _ f

theorem furWarm_idleAgain (s : State) (f : Nat) : (s.idleAgain f).furWarm f = false := furWarm_setWarm_same _ f false

theorem freeSpare_some_step (s : State) (f : Nat) : ArrayStep (FurrowRegs f) s (s.freeSpare (some f)) := by
  have idle : ArrayStep (FurrowRegs f) s (s.idleAgain f) := .of_changes (idleAgain_changes s f) (idleAgain_passes s f) (by decide)
  rw [freeSpare_some]; split
  · exact .trans (idle.trans (doomed_step _ _)) (retire_spare_step _ f _ (furState_idleAgain s f))
  · exact idle

theorem freeSpare_undoomed_changes (s : State) {f : Nat} (h : ∀ d ∈ s.corr.doomed, d.1 ≠ f) :
    Changes [.corr, .regs] (FurrowRegs f) s (s.freeSpare (some f)) := by
  rw [freeSpare_undoomed s f h]; exact idleAgain_changes s f

theorem freeSpare_passes (s : State) (sp : Option Nat) : KeepsPasses s (s.freeSpare sp) := by
  cases sp with
  | none => exact .refl s
  | some f => exact (freeSpare_some_step s f).passes

end State

end Sys2Proof.Machine
end

section
/-! SUPPORT. The end of passes: what releasing a pass and writing its record leave alone (R159, R161, R165). -/

namespace Sys2Proof.Machine

/-- What the end of passes and the way of a spill touch. -/
def spillParts : List Part := ([.corr, .turn, .weed, .rings] : List Part) ++ eventParts

theorem State.each_induct {α : Type} {J : State → Prop} {f : State → α → State} (l : List α) (h : ∀ s, ∀ x ∈ l, J s → J (f s x)) {s : State}
    (hs : J s) : J (s.each l f) := by
  induction l generalizing s with
  | nil => exact hs
  | cons x l ih => exact ih (fun s y hy => h s y (List.mem_cons_of_mem x hy)) (h s x List.mem_cons_self hs)

/-- A step at the end of passes: a pass in flight afterwards was so before, with the same tiles left; suspects, spills, buses, ports and
the ready queue read as before. -/
structure EndsPasses (s t : State) : Prop where
  changes : Changes spillParts ArrayAside s t
  flights : ∀ x ∈ t.corr.flights, ∃ y ∈ s.corr.flights, y.chan = x.chan ∧ y.pass = x.pass ∧ y.left = x.left
  suspects : t.corr.suspects = s.corr.suspects
  spills : t.corr.spills = s.corr.spills
  bus : t.corr.bus = s.corr.bus
  port : t.corr.port = s.corr.port
  rdy : t.turn.rdy = s.turn.rdy

namespace EndsPasses

variable {s t u : State}

theorem refl (s : State) : EndsPasses s s := ⟨.refl _ _ s, fun x hx => ⟨x, hx, rfl, rfl, rfl⟩, rfl, rfl, rfl, rfl, rfl⟩

theorem trans (h : EndsPasses s t) (k : EndsPasses t u) : EndsPasses s u where
  changes := h.changes.trans k.changes
  flights x hx := by
    obtain ⟨y, hy, c, p, l⟩ := k.flights x hx
    obtain ⟨z, hz, c', p', l'⟩ := h.flights y hy
    exact ⟨z, hz, c'.trans c, p'.trans p, l'.trans l⟩
  suspects := k.suspects.trans h.suspects
  spills := k.spills.trans h.spills
  bus := k.bus.trans h.bus
  port := k.port.trans h.port
  rdy := k.rdy.trans h.rdy

/-- A step that leaves the array alone, and the ready queue. -/
theorem of_corr (h : Changes spillParts ArrayAside s t) (hc : t.corr = s.corr) (hr : t.turn.rdy = s.turn.rdy) : EndsPasses s t where
  changes := h
  flights x hx := ⟨x, hc ▸ hx, rfl, rfl, rfl⟩
  suspects := by rw [hc]
  spills := by rw [hc]
  bus := by rw [hc]
  port := by rw [hc]
  rdy := hr

end EndsPasses

namespace State

theorem changes_corr (s : State) (x : CorrSt) (P : Nat → Prop) : Changes spillParts P s { s with corr := x } :=
  (Changes.of_only (only_corr s x) (by decide)).mono (by decide) fun _ h => h

theorem showMargin_changes (s : State) (ch : Nat) : Changes eventParts ArrayAside s (s.showMargin ch) := by
  have turn : ∀ {a}, a = Reg.TURN_STATUS ∨ a = Reg.TURN_MARGIN_MIN → ArrayAside a := by
    rintro a (h | h) <;> exact .inl (by simp only [h, Reg.TURN_STATUS, Reg.TURN_MARGIN_MIN]; omega)
  unfold showMargin; dsimp only
  generalize hx : s.set _ _ _ = s1
  generalize hy : (if _ < s1.get Reg.TURN_MARGIN_MIN _ then s1.set _ _ _ else s1) = s2
  generalize hz : s2.setFlag _ _ _ = s3
  have h1 : Changes eventParts ArrayAside s s1 := hx ▸ (changes_set s _ _ _).mono (by decide) fun _ h => turn (.inl h)
  have h2 : Changes eventParts ArrayAside s1 s2 := by
    rw [← hy]; split
    · exact (changes_set s1 _ _ _).mono (by decide) fun _ h => turn (.inr h)
    · exact .refl _ _ s1
  have h3 : Changes eventParts ArrayAside s2 s3 := hz ▸ (changes_setFlag s2 _ _ _).mono (by decide) fun _ h => turn (.inl h)
  exact ((h1.trans h2).trans h3).trans
    ⟨only_raiseIf s3 _ _ _, fun a h => raiseIf_reg s3 _ _ _ fun k => h (.inr (.inr (.inr (.inr (.inl k)))))⟩

theorem releasePass_ends (s : State) (ch q : Nat) : EndsPasses s (s.releasePass ch q) := by
  unfold releasePass; dsimp only
  generalize hx : s.setTurnChan ch _ = s1
  generalize hy : ({ s1 with weed := _ } : State) = s2
  have h1 : EndsPasses s s1 := by
    rw [← hx]
    exact .of_corr ((Changes.of_only (only_turn s _) (by decide)).mono (by decide) fun _ h => h) rfl rfl
  have h2 : EndsPasses s1 s2 := by
    rw [← hy]
    exact .of_corr ((Changes.of_only (only_weed s1 _) (by decide)).mono (by decide) fun _ h => h) rfl rfl
  have h3 := showMargin_changes s2 ch
  exact (h1.trans h2).trans (.of_corr (h3.mono (by decide) fun _ h => h) (h3.parts .corr (by decide))
    (congrArg TurnSt.rdy (show (s2.showMargin ch).turn = s2.turn from h3.parts .turn (by decide))))

/-- Replacing a flight of a pass by one with the same tiles left. -/
theorem setFlight_ends {s0 s : State} (h : EndsPasses s0 s) {f g : Flight} (hf : f ∈ s0.corr.flights) (hc : f.chan = g.chan)
    (hp : f.pass = g.pass) (hl : f.left = g.left) : EndsPasses s0 (s.setFlight g) where
  changes := h.changes.trans (changes_corr s _ _)
  flights x hx := by
    obtain ⟨y, hy, rfl⟩ := List.mem_map.1 hx
    split
    · exact ⟨f, hf, hc, hp, hl⟩
    · exact h.flights y hy
  suspects := h.suspects
  spills := h.spills
  bus := h.bus
  port := h.port
  rdy := h.rdy

theorem toRing_ends (s : State) (r : Nat) {m : Msg} (hm : m.full = .counts (Reg.TURN_COUNT 1)) : EndsPasses s (s.toRing r m) := by
  have parts := only_toRing s r m
  refine .of_corr ⟨parts.mono (by decide), fun a ha => toRing_reg s r m ?_ ?_⟩ (parts .corr (by decide))
    (congrArg TurnSt.rdy (show (s.toRing r m).turn = s.turn from parts .turn (by decide)))
  · exact fun h => ha (.inr (.inl (by simp only [h, Reg.RING_COUNT]; omega)))
  · intro b hb h
    rw [hm] at hb; cases hb
    exact ha (.inl (by simp only [h, Reg.TURN_COUNT]; omega))

theorem tellPasses_ends (s : State) : EndsPasses s s.tellPasses := by
  unfold tellPasses; dsimp only
  generalize hu : s.each s.corr.flights _ = u
  have told : EndsPasses s u := by
    rw [← hu]
    refine each_induct (J := EndsPasses s) _ (fun t f hf ht => ?_) (.refl s)
    split
    · have marked : EndsPasses s (t.setFlight { f with told := true }) := setFlight_ends ht hf rfl rfl rfl
      split
      · exact marked.trans (toRing_ends _ _ rfl)
      · exact marked
    · exact ht
  exact ⟨told.changes.trans (changes_corr u _ _), fun x hx => told.flights x (List.mem_filter.1 hx).1, told.suspects, told.spills, told.bus,
    told.port, told.rdy⟩

theorem endPasses_ends (s : State) : EndsPasses s s.endPasses := by
  unfold endPasses
  refine .trans (t := s.each s.corr.flights _) ?_ (tellPasses_ends _)
  refine each_induct (J := EndsPasses s) _ (fun t f hf ht => ?_) (.refl s)
  split
  · exact (setFlight_ends (g := { f with ended := true }) ht hf rfl rfl rfl).trans (releasePass_ends _ _ _)
  · exact ht

end State

end Sys2Proof.Machine
end

section
/-! SUPPORT. Drains settled at a command's end (R222, R223), and a recompute that is given up (R190, R191). -/

namespace Sys2Proof.Machine.State

/-- An event raised after steps that leave its counter alone. -/
theorem counted_raise {s t : State} {e : Nat} (d : Nat) (he : (eventClass e).isSome = true) (hs : t.sys = s.sys)
    (hf : t.full (Reg.EVT_SRC_CNT e) = s.full (Reg.EVT_SRC_CNT e)) : Counted s (t.raise e d) e := by
  intro k
  rw [raise_counts t e d he (by rw [hs]; exact k), hf]

/-- An occurrence stays counted over steps that leave its counter alone. -/
theorem counted_then {s t u : State} {e : Nat} (h : Counted s t e) (hf : u.full (Reg.EVT_SRC_CNT e) = t.full (Reg.EVT_SRC_CNT e)) :
    Counted s u e := fun k => hf.trans (h k)

/-! ### Settling of drains -/

/-- No drain makes a request at once at a held channel: HOLD_US is not 0, or nothing drains. -/
def HoldsWait (s : State) : Prop := s.get Reg.GRAN_CFG Fld.GRAN_CFG_HOLD_US ≠ 0 ∨ ∀ g < 8, (s.grp g).drain = none

/-- The granary's registers that show drains. -/
def HoldRegs (a : Nat) : Prop := 0xC00004 ≤ a ∧ a < 0xC01000

theorem HoldsWait.of_changes {ps : List Part} {P : Nat → Prop} {s t : State} (h : Changes ps P s t) (hp : Part.gran ∉ ps)
    (hP : ¬ P Reg.GRAN_CFG) (hs : HoldsWait s) : HoldsWait t := by
  have gran : t.gran = s.gran := h.parts .gran hp
  refine hs.imp (fun k => by rwa [h.get_eq hP]) (fun k g hg => ?_)
  rw [grp, gran]; exact k g hg

theorem settleHold_changes (s : State) {g : Nat} (hg : g < 8) (h : HoldsWait s) : Changes [.regs] HoldRegs s (s.settleHold g) := by
  have shown (d b : Nat) : Changes [.regs] HoldRegs s
      ((s.set (Reg.GRAN_GRP_STATE g) Fld.GRAN_GRP_STATE_DRAIN d).set Reg.GRAN_STATUS ⟨Fld.GRAN_STATUS_HOLDING.lo + g, 1⟩ b) :=
    ((changes_set s _ _ _).mono (by decide) fun a h => by simp only [h, Reg.GRAN_GRP_STATE, HoldRegs]; omega).trans
      ((changes_set _ _ _ _).mono (by decide) fun a h => by simp only [h, Reg.GRAN_STATUS, HoldRegs]; omega)
  unfold settleHold; split
  · rename_i hd
    dsimp only; split
    · exact shown 1 0
    · split
      · rename_i h0
        rcases h with h | h
        · exact absurd h0 h
        · simp [h g hg] at hd
      · exact shown 2 1
  · exact .refl _ _ s

theorem settleHolds_changes (s : State) (h : HoldsWait s) : Changes [.regs] HoldRegs s s.settleHolds := by
  refine each_induct (J := fun t => Changes [.regs] HoldRegs s t) _ (fun t g hg ht => ?_) (.refl _ _ s)
  exact ht.trans (settleHold_changes t (List.mem_range.1 hg)
    (h.of_changes ht (by decide) (by simp only [HoldRegs, Reg.GRAN_CFG]; omega)))

/-! ### Passes held back by a recompute -/

theorem requeue_changes (s : State) (ch : Nat) (P : Nat → Prop) : Changes [.turn] P s (s.requeue ch) := by
  unfold requeue; split
  · exact .of_only (only_turn s _) (by decide)
  · exact .refl _ _ s

theorem requeue_corr (s : State) (ch : Nat) : (s.requeue ch).corr = s.corr := (s.requeue_changes ch (fun _ => False)).parts .corr (by decide)

/-! ### A recompute is given up -/

/-- The suspect spills of a recompute on their way to the adder again, counted and raised, before its spare is freed. -/
def spillsBack (s : State) (x : Suspect) : State :=
  let s := { s with corr := { s.corr with
    suspects := s.corr.suspects.filter (fun y => !(y.furrow == x.furrow && y.chan == x.chan && y.pass == x.pass)) } }
  let s := s.queueSpills x.pass x.chan (x.tiles.map (fun t => { t with unverified := true }))
  let s := s.markFlight x.chan x.pass (fun f => { f with unverified := true, loose := x.furrow :: f.loose })
  (s.count (Reg.CORR_COUNT 9)).raise Ev.CORR_RECOMPUTE_GIVEUP (corrDetail x.furrow 0 0 x.chan x.pass)

/-- The array after its suspect spills have been put back. -/
def spillsBackCorr (c : CorrSt) (x : Suspect) : CorrSt :=
  let i := c.spills.findIdx (fun t => t.chan == x.chan && decide (x.pass < t.pass))
  { c with
    suspects := c.suspects.filter (fun y => !(y.furrow == x.furrow && y.chan == x.chan && y.pass == x.pass))
    spills := c.spills.take i ++ x.tiles.map (fun t => { t with unverified := true }) ++ c.spills.drop i
    flights := c.flights.map (fun f =>
      if f.chan = x.chan ∧ f.pass = x.pass then { f with unverified := true, loose := x.furrow :: f.loose } else f) }

theorem spillsBack_eq (s : State) (x : Suspect) :
    s.spillsBack x = (({ s with corr := spillsBackCorr s.corr x } : State).count (Reg.CORR_COUNT 9)).raise Ev.CORR_RECOMPUTE_GIVEUP
      (corrDetail x.furrow 0 0 x.chan x.pass) := rfl

theorem spillsBack_corr (s : State) (x : Suspect) : (s.spillsBack x).corr = spillsBackCorr s.corr x := by
  rw [spillsBack_eq]; exact only_raise _ _ _ .corr (by decide)

theorem spillsBack_changes (s : State) (x : Suspect) :
    Changes spillParts (fun a => a = Reg.CORR_COUNT 9 ∨ EventRegs Ev.CORR_RECOMPUTE_GIVEUP a) s (s.spillsBack x) := by
  rw [spillsBack_eq]
  exact ((changes_corr s _ _).trans ((changes_count _ _ _).mono (by decide) fun _ h => .inl h)).trans
    ((changes_raise _ _ _).mono (by decide) fun _ h => .inr h)

theorem spillsBack_counts (s : State) (x : Suspect) :
    (s.spillsBack x).full (Reg.CORR_COUNT 9) = min (s.full (Reg.CORR_COUNT 9) + 1) (2 ^ 32 - 1) := by
  rw [spillsBack_eq, (changes_raise _ _ _).full_eq (by
    simp only [EventRegs, Reg.CORR_COUNT, Reg.EVT_SRC_CNT, Reg.EVT_SRC_CFG, Reg.EVT_STATUS, Ev.CORR_RECOMPUTE_GIVEUP]; omega)]
  exact full_count_same _ _ 1

theorem spillsBack_raises (s : State) (x : Suspect) : Counted s (s.spillsBack x) Ev.CORR_RECOMPUTE_GIVEUP := by
  rw [spillsBack_eq]
  exact counted_raise _ (by decide +kernel) rfl ((changes_count _ _ _).full_eq (by
    simp only [Reg.CORR_COUNT, Reg.EVT_SRC_CNT, Ev.CORR_RECOMPUTE_GIVEUP]; omega))

/-- The registers that freeing a recompute's spare may change, and the end of its passes. -/
def SpareRegs (x : Suspect) (a : Nat) : Prop := ArrayAside a ∨ ∃ sp, x.spare = some sp ∧ FurrowRegs sp a

/-- No retirement waits for the end of a recompute on this spare. -/
def Undoomed (s : State) (x : Suspect) : Prop := ∀ sp, x.spare = some sp → ∀ d ∈ s.corr.doomed, d.1 ≠ sp

/-- The spare of a recompute is freed, the passes that it held back are queued, and passes end. -/
def settled (s : State) (x : Suspect) : State := ((s.freeSpare x.spare).requeue x.chan).endPasses

theorem freeSpare_changes {s : State} {x : Suspect} (h : Undoomed s x) : Changes [.corr, .regs] (SpareRegs x) s (s.freeSpare x.spare) := by
  cases hx : x.spare with
  | none => exact .refl _ _ s
  | some sp => exact (freeSpare_undoomed_changes s (h sp hx)).mono (by decide) fun _ k => .inr ⟨sp, hx, k⟩

theorem settled_tail (s : State) (x : Suspect) : Changes spillParts ArrayAside (s.freeSpare x.spare) (s.settled x) :=
  ((requeue_changes _ x.chan _).mono (by decide) fun _ h => h).trans (endPasses_ends _).changes

theorem settled_changes {s : State} {x : Suspect} (h : Undoomed s x) : Changes spillParts (SpareRegs x) s (s.settled x) :=
  ((freeSpare_changes h).mono (by decide) fun _ k => k).trans ((settled_tail s x).mono (by decide) fun _ k => .inl k)

theorem settled_suspects (s : State) (x : Suspect) : (s.settled x).corr.suspects = s.corr.suspects := by
  rw [settled, (endPasses_ends _).suspects, requeue_corr, (freeSpare_passes s _).suspects]

theorem settled_spills (s : State) (x : Suspect) : (s.settled x).corr.spills = s.corr.spills := by
  rw [settled, (endPasses_ends _).spills, requeue_corr, (freeSpare_passes s _).spills]

theorem settled_bus (s : State) (x : Suspect) : (s.settled x).corr.bus = s.corr.bus := by
  rw [settled, (endPasses_ends _).bus, requeue_corr, (freeSpare_passes s _).bus]

theorem settled_furState {s : State} {x : Suspect} {sp : Nat} (h : Undoomed s x) (hx : x.spare = some sp) (hsp : sp < 272) :
    (s.settled x).furState sp = fSpare := by
  have idle : (s.freeSpare x.spare).furState sp = fSpare := by rw [hx, freeSpare_undoomed s sp (h sp hx), furState_idleAgain]
  exact ((settled_tail s x).get_eq (furReg_not_aside hsp) _).trans idle

theorem settled_furWarm {s : State} {x : Suspect} {sp : Nat} (h : Undoomed s x) (hx : x.spare = some sp) (hsp : sp < 272) :
    (s.settled x).furWarm sp = false := by
  have cold : (s.freeSpare x.spare).furWarm sp = false := by rw [hx, freeSpare_undoomed s sp (h sp hx), furWarm_idleAgain]
  exact ((settled_tail s x).flag_eq (furReg_not_aside hsp) _).trans cold

theorem aside_furrowRegs (f : Nat) {a : Nat} (h : ArrayAside a) : FurrowRegs f a := .inr (.inr (.inr (.inr h)))

/-- A register that no furrow's bookkeeping touches is not touched by the settling of a recompute either. -/
theorem not_spareRegs {x : Suspect} {a : Nat} (h : ∀ f, ¬ FurrowRegs f a) : ¬ SpareRegs x a := by
  rintro (k | ⟨sp, _, k⟩)
  · exact h 0 (aside_furrowRegs 0 k)
  · exact h sp k

theorem giveUp_settled (s : State) (x : Suspect) : s.giveUp x = (s.spillsBack x).settled x := rfl

theorem Undoomed.spillsBack {s : State} {x : Suspect} (h : Undoomed s x) : Undoomed (s.spillsBack x) x := by
  intro sp hx d hd
  rw [spillsBack_corr] at hd
  exact h sp hx d hd

/-- What giving up may change of the registers. -/
def GiveUpRegs (x : Suspect) (a : Nat) : Prop := a = Reg.CORR_COUNT 9 ∨ EventRegs Ev.CORR_RECOMPUTE_GIVEUP a ∨ SpareRegs x a

theorem giveUp_changes {s : State} {x : Suspect} (h : Undoomed s x) : Changes spillParts (GiveUpRegs x) s (s.giveUp x) :=
  ((spillsBack_changes s x).mono (by decide) fun _ k => k.imp_right .inl).trans
    ((settled_changes h.spillsBack).mono (by decide) fun _ k => .inr (.inr k))

theorem giveUp_suspects (s : State) (x : Suspect) :
    (s.giveUp x).corr.suspects = s.corr.suspects.filter (fun y => !(y.furrow == x.furrow && y.chan == x.chan && y.pass == x.pass)) := by
  rw [giveUp_settled, settled_suspects, spillsBack_corr, spillsBackCorr]

theorem giveUp_bus (s : State) (x : Suspect) : (s.giveUp x).corr.bus = s.corr.bus := by
  rw [giveUp_settled, settled_bus, spillsBack_corr, spillsBackCorr]

theorem giveUp_spills (s : State) (x : Suspect) : ∃ i, (s.giveUp x).corr.spills
    = s.corr.spills.take i ++ x.tiles.map (fun t => { t with unverified := true }) ++ s.corr.spills.drop i := by
  rw [giveUp_settled, settled_spills, spillsBack_corr]; exact ⟨_, rfl⟩

/-- What lies in a list cut in two with another list between. -/
theorem mem_take_append_drop {α : Type} (l m : List α) (i : Nat) (z : α) : z ∈ l.take i ++ m ++ l.drop i ↔ z ∈ l ∨ z ∈ m := by
  have cut : z ∈ l ↔ z ∈ l.take i ∨ z ∈ l.drop i := by rw [← List.mem_append, List.take_append_drop]
  simp only [List.mem_append, cut]; tauto

theorem giveUp_counts {s : State} {x : Suspect} (h : Undoomed s x) :
    (s.giveUp x).full (Reg.CORR_COUNT 9) = min (s.full (Reg.CORR_COUNT 9) + 1) (2 ^ 32 - 1) := by
  rw [giveUp_settled, (settled_changes h.spillsBack).full_eq (not_spareRegs (count_not_furrowRegs (by decide) (by decide))),
    spillsBack_counts]

theorem giveUp_raises {s : State} {x : Suspect} (h : Undoomed s x) : Counted s (s.giveUp x) Ev.CORR_RECOMPUTE_GIVEUP := by
  intro k
  rw [giveUp_settled, (settled_changes h.spillsBack).full_eq (not_spareRegs (eventCount_not_furrowRegs (by decide) (by decide)))]
  exact spillsBack_raises s x k

theorem giveUp_furState {s : State} {x : Suspect} {sp : Nat} (h : Undoomed s x) (hx : x.spare = some sp) (hsp : sp < 272) :
    (s.giveUp x).furState sp = fSpare := settled_furState h.spillsBack hx hsp

end Sys2Proof.Machine.State
end

section
/-! SUPPORT. RECOMPUTE_START and RECOMPUTE_DEADLINE: the choice of a spare (R187), the start of a recompute (R188, R194), and its deadline
(R190). -/

namespace Sys2Proof.Machine.State

theorem furReg_field {m n : Nat} (_h : n < 68) : furReg (68 * m + n) = Reg.CORR_FURROW m n := by
  simp only [furReg, Reg.CORR_FURROW]; omega

theorem granCfg_not_furrowRegs {f : Nat} (hf : f < 272) : ¬ FurrowRegs f Reg.GRAN_CFG := by
  simp only [FurrowRegs, ArrayAside, EventRegs, furReg, Reg.CORR_FURROW, Reg.CORR_GOV_STATUS, Reg.CORR_STATUS, Reg.CORR_COUNT,
    Reg.EVT_SRC_CNT, Reg.EVT_SRC_CFG, Reg.EVT_STATUS, Reg.GRAN_CFG, Ev.CORR_RETIRED, Ev.CORR_SPARES_OUT, Ev.TURN_LAG, Ev.TWIN_YIELD,
    Ev.BALRAN_TX_BACKLOG]
  omega

theorem granCfg_not_spareRegs {x : Suspect} (h : ∀ sp, x.spare = some sp → sp < 272) : ¬ SpareRegs x Reg.GRAN_CFG := by
  rintro (k | ⟨sp, hx, k⟩)
  · exact granCfg_not_furrowRegs (f := 0) (by decide) (aside_furrowRegs 0 k)
  · exact granCfg_not_furrowRegs (h sp hx) k

theorem granCfg_not_giveUpRegs {x : Suspect} (h : ∀ sp, x.spare = some sp → sp < 272) : ¬ GiveUpRegs x Reg.GRAN_CFG := by
  rintro (k | k | k)
  · simp only [Reg.GRAN_CFG, Reg.CORR_COUNT] at k; omega
  · simp only [EventRegs, Reg.GRAN_CFG, Reg.EVT_SRC_CNT, Reg.EVT_SRC_CFG, Reg.EVT_STATUS, Ev.CORR_RECOMPUTE_GIVEUP] at k; omega
  · exact granCfg_not_spareRegs h k

/-- The registers that show drains are none of the array's, nor event counters. -/
theorem not_holdRegs {a : Nat} (h : a < 0xC00000) : ¬ HoldRegs a := fun k => by have := k.1; omega

/-! ### The choice of a spare -/

theorem mem_idleSpares {s : State} {m g : Nat} : g ∈ s.idleSpares m ↔ g / 68 = m ∧ s.furState g = fSpare := by
  simp only [idleSpares, List.mem_filter, List.mem_map, List.mem_range, beq_iff_eq]
  constructor
  · rintro ⟨⟨j, hj, rfl⟩, hg⟩; exact ⟨by omega, hg⟩
  · rintro ⟨rfl, hg⟩; exact ⟨⟨g % 68, Nat.mod_lt _ (by decide), by omega⟩, hg⟩

theorem idleSpares_sorted (s : State) (m : Nat) : (s.idleSpares m).Pairwise (· < ·) :=
  (List.pairwise_map.2 (List.pairwise_lt_range.imp fun h => by omega)).filter _

/-- The idle spares of fields in rising order rise. -/
theorem flatMap_idleSpares_sorted (s : State) {l : List Nat} (h : l.Pairwise (· < ·)) : (l.flatMap s.idleSpares).Pairwise (· < ·) := by
  refine List.pairwise_flatMap.2 ⟨fun m _ => s.idleSpares_sorted m, h.imp fun {m n} hmn g hg k hk => ?_⟩
  have := (mem_idleSpares.1 hg).1; have := (mem_idleSpares.1 hk).1; omega

/-- The idle spares of the other fields, in rising order. -/
def otherSpares (s : State) (fur : Nat) : List Nat := ((List.range 4).filter (fun m => m != fur / 68)).flatMap s.idleSpares

theorem mem_otherSpares {s : State} {fur g : Nat} : g ∈ s.otherSpares fur ↔ g < 272 ∧ g / 68 ≠ fur / 68 ∧ s.furState g = fSpare := by
  simp only [otherSpares, List.mem_flatMap, List.mem_filter, List.mem_range, mem_idleSpares, bne_iff_ne]
  constructor
  · rintro ⟨m, ⟨hm, hne⟩, rfl, hg⟩; exact ⟨by omega, hne, hg⟩
  · rintro ⟨hg, hne, hs⟩; exact ⟨g / 68, ⟨by omega, hne⟩, rfl, hs⟩

theorem otherSpares_sorted (s : State) (fur : Nat) : (s.otherSpares fur).Pairwise (· < ·) :=
  s.flatMap_idleSpares_sorted (List.pairwise_lt_range.filter _)

theorem chooseSpare_eq (s : State) (fur : Nat) :
    s.chooseSpare fur = (s.otherSpares fur).head?.or (s.idleSpares (fur / 68)).head? := by
  unfold chooseSpare otherSpares
  cases ((List.range 4).filter (fun m => m != fur / 68)).flatMap s.idleSpares <;> rfl

theorem head_le_of_sorted {l : List Nat} (h : l.Pairwise (· < ·)) {a g : Nat} (ha : l.head? = some a) (hg : g ∈ l) : a ≤ g := by
  cases l with
  | nil => cases hg
  | cons b l =>
    cases ha
    rcases List.mem_cons.1 hg with rfl | hg
    · exact Nat.le_refl g
    · exact Nat.le_of_lt (List.rel_of_pairwise_cons h hg)

/-- The spare chosen is idle: the lowest of the other fields, or where they have none, the lowest of its own. -/
theorem chooseSpare_some {s : State} {fur sp : Nat} (h : s.chooseSpare fur = some sp) :
    (s.otherSpares fur).head? = some sp ∨ (s.otherSpares fur = [] ∧ (s.idleSpares (fur / 68)).head? = some sp) := by
  rw [chooseSpare_eq] at h
  cases hl : s.otherSpares fur with
  | nil => rw [hl] at h; exact .inr ⟨rfl, h⟩
  | cons a l => rw [hl] at h; exact .inl h

theorem chooseSpare_spec (s : State) {fur : Nat} (hf : fur < 272) :
    match s.chooseSpare fur with
    | some sp => sp < 272 ∧ s.furState sp = fSpare
        ∧ (∀ g < 272, s.furState g = fSpare → g / 68 ≠ fur / 68 → sp / 68 ≠ fur / 68 ∧ sp ≤ g)
        ∧ (∀ g < 272, s.furState g = fSpare → g / 68 = fur / 68 → sp / 68 = fur / 68 → sp ≤ g)
    | none => ∀ g < 272, s.furState g ≠ fSpare := by
  cases hc : s.chooseSpare fur with
  | none =>
    intro g hg hs
    rw [chooseSpare_eq, Option.or_eq_none_iff] at hc
    obtain ⟨others, own⟩ := hc
    by_cases hm : g / 68 = fur / 68
    · have : g ∈ s.idleSpares (fur / 68) := mem_idleSpares.2 ⟨hm, hs⟩
      rw [List.head?_eq_none_iff.1 own] at this; cases this
    · have : g ∈ s.otherSpares fur := mem_otherSpares.2 ⟨hg, hm, hs⟩
      rw [List.head?_eq_none_iff.1 others] at this; cases this
  | some sp =>
    rcases chooseSpare_some hc with others | ⟨empty, own⟩
    · obtain ⟨hsp, hne, hs⟩ := mem_otherSpares.1 (List.mem_of_mem_head? others)
      exact ⟨hsp, hs, fun g hg k hm => ⟨hne, head_le_of_sorted (s.otherSpares_sorted fur) others (mem_otherSpares.2 ⟨hg, hm, k⟩)⟩,
        fun g _ _ _ k => absurd k hne⟩
    · obtain ⟨hm, hs⟩ := mem_idleSpares.1 (List.mem_of_mem_head? own)
      refine ⟨by omega, hs, fun g hg k hne => ?_, fun g _ k hg _ =>
        head_le_of_sorted (s.idleSpares_sorted _) own (mem_idleSpares.2 ⟨hg, k⟩)⟩
      have : g ∈ s.otherSpares fur := mem_otherSpares.2 ⟨hg, hne, k⟩
      rw [empty] at this; cases this

/-! ### A recompute begins -/

/-- A spare that is not at full activity joins those brought up, once. -/
theorem bringUp_corr (s : State) (f : Nat) : (s.bringUp f).corr
    = { s.corr with ramps := if s.furWarm f = true ∨ f ∈ s.corr.ramps then s.corr.ramps else s.corr.ramps ++ [f] } := by
  unfold bringUp
  simp only [List.contains_iff_mem]
  split <;> rfl

/-- A recompute of the first suspect without a spare begins on a spare. -/
def startOn (s : State) (x : Suspect) (sp : Nat) : State :=
  let s := (s.furTo sp fRecompute).bringUp sp
  let s := { s with corr := { s.corr with suspects := s.corr.suspects.map (fun y => if y = x then { y with spare := some sp } else y) } }
  (s.count (Reg.CORR_COUNT 7)).count (Reg.TURN_COUNT 2)

theorem recomputeStart_some {s : State} {x : Suspect} {sp : Nat} (hx : s.corr.suspects.find? (fun (x : Suspect) => x.spare.isNone) = some x)
    (hsp : s.chooseSpare x.furrow = some sp) : s.recomputeStart = s.startOn x sp := by
  unfold recomputeStart; rw [hx]; dsimp only; rw [hsp]; rfl

/-- The state in which a recompute's spare has its furrow state and its ramp, and its suspect its spare. -/
theorem startOn_spec (s : State) (x : Suspect) (sp : Nat) :
    (s.startOn x sp).corr = { s.corr with
        suspects := s.corr.suspects.map (fun (y : Suspect) => if y = x then { y with spare := some sp } else y)
        ramps := if s.furWarm sp = true ∨ sp ∈ s.corr.ramps then s.corr.ramps else s.corr.ramps ++ [sp] }
    ∧ (s.startOn x sp).furState sp = fRecompute ∧ (s.startOn x sp).furWarm sp = s.furWarm sp
    ∧ (s.startOn x sp).full (Reg.CORR_COUNT 7) = min (s.full (Reg.CORR_COUNT 7) + 1) (2 ^ 32 - 1)
    ∧ (s.startOn x sp).full (Reg.TURN_COUNT 2) = min (s.full (Reg.TURN_COUNT 2) + 1) (2 ^ 32 - 1)
    ∧ KeepsRegs s (s.startOn x sp) (fun a => a = Reg.CORR_FURROW (sp / 68) (sp % 68) ∨ a = Reg.CORR_COUNT 7 ∨ a = Reg.TURN_COUNT 2)
    ∧ Only [.regs, .corr] s (s.startOn x sp) := by
  generalize ht : s.startOn x sp = t
  unfold startOn at ht; dsimp only at ht
  have h1 := changes_furTo s sp fRecompute
  have h2 : (s.furTo sp fRecompute).corr = s.corr := h1.parts .corr (by decide)
  have h3 := bringUp_corr (s.furTo sp fRecompute) sp
  rw [furWarm_furTo, h2] at h3
  have h4 : Changes [.corr] (fun _ => False) (s.furTo sp fRecompute) ((s.furTo sp fRecompute).bringUp sp) :=
    .of_only (only_bringUp _ sp) (by decide)
  generalize (s.furTo sp fRecompute).bringUp sp = s1 at ht h3 h4
  generalize hy : ({ s1 with corr := _ } : State) = s2 at ht
  have h5 : Changes [.corr] (fun _ => False) s1 s2 := hy ▸ .of_only (only_corr s1 _) (by decide)
  have h6 : s2.corr = { s1.corr with
      suspects := s1.corr.suspects.map (fun (y : Suspect) => if y = x then { y with spare := some sp } else y) } := by rw [← hy]
  have c7 := changes_count s2 (Reg.CORR_COUNT 7) 1
  have c2 := changes_count (s2.count (Reg.CORR_COUNT 7)) (Reg.TURN_COUNT 2) 1
  rw [ht] at c2
  have to2 : Changes [.regs, .corr] (· = furReg sp) s s2 :=
    ((h1.mono (by decide) fun _ h => h).trans (h4.mono (by decide) fun _ h => h.elim)).trans (h5.mono (by decide) fun _ h => h.elim)
  have from2 : Changes [.regs] (fun a => a = Reg.CORR_COUNT 7 ∨ a = Reg.TURN_COUNT 2) s2 t :=
    (c7.mono (by decide) fun _ h => .inl h).trans (c2.mono (by decide) fun _ h => .inr h)
  have furrow : ¬ (furReg sp = Reg.CORR_COUNT 7 ∨ furReg sp = Reg.TURN_COUNT 2) := by
    rintro (h | h) <;> exact furReg_ne_low sp (by decide) h.symm
  have state : s2.furState sp = (s.furTo sp fRecompute).furState sp := (h5.get_eq id _).trans (h4.get_eq id _)
  have warm : s2.furWarm sp = (s.furTo sp fRecompute).furWarm sp := (h5.flag_eq id _).trans (h4.flag_eq id _)
  refine ⟨?_, ?_, ?_, ?_, ?_, ?_, ?_⟩
  · rw [show t.corr = s2.corr from from2.parts .corr (by decide), h6, h3]
  · rw [show t.furState sp = s2.furState sp from from2.get_eq furrow _, state, furState_furTo_same s sp (by decide)]
  · rw [show t.furWarm sp = s2.furWarm sp from from2.flag_eq furrow _, warm, furWarm_furTo]
  · rw [c2.full_eq (by decide), full_count_same, to2.full_eq (furReg_ne_low sp (by decide))]
  · rw [← ht, full_count_same, c7.full_eq (by decide), to2.full_eq (furReg_ne_low sp (by decide))]
  · exact ((to2.mono (by decide) fun _ h => .inl h).trans
      ((from2.mono (qs := [.regs, .corr]) (by decide) fun _ h => .inr h))).regs
  · exact to2.parts.trans (from2.parts.mono (by decide))

/-! ### A recompute's deadline -/

theorem recomputeDeadline_next {m : Fin 4} {n : Fin 68} {s : State} {x : Suspect}
    (hx : s.corr.suspects.find? (fun (x : Suspect) => x.furrow == 68 * m.val + n.val) = some x) :
    exec (.recomputeDeadline m n) s = .next (s.giveUp x).settleHolds := by
  show execRecomputeDeadline m n s = _
  unfold execRecomputeDeadline; rw [hx]; rfl

/-- A recompute given up, and drains settled. -/
theorem giveUp_settleHolds_spec {s : State} {x : Suspect} (hsp : ∀ sp, x.spare = some sp → sp < 272) (hu : Undoomed s x)
    (hw : HoldsWait s) :
    let t := (s.giveUp x).settleHolds
    t.corr.suspects = s.corr.suspects.filter (fun (y : Suspect) => !(y.furrow == x.furrow && y.chan == x.chan && y.pass == x.pass))
    ∧ (∀ y ∈ x.tiles, { y with unverified := true } ∈ t.corr.spills) ∧ (∀ z ∈ s.corr.spills, z ∈ t.corr.spills)
    ∧ (∀ sp, x.spare = some sp → t.furState sp = fSpare)
    ∧ t.full (Reg.CORR_COUNT 9) = min (s.full (Reg.CORR_COUNT 9) + 1) (2 ^ 32 - 1) ∧ Counted s t Ev.CORR_RECOMPUTE_GIVEUP
    ∧ KeepsHbm s t ∧ Only (([.corr, .turn, .weed, .rings] : List Part) ++ eventParts) s t := by
  have given := giveUp_changes hu
  have held := settleHolds_changes _ (hw.of_changes given (by decide) (granCfg_not_giveUpRegs hsp))
  have corr : (s.giveUp x).settleHolds.corr = (s.giveUp x).corr := held.parts .corr (by decide)
  have parts : Only spillParts s (s.giveUp x).settleHolds := given.parts.trans (held.parts.mono (by decide))
  obtain ⟨i, spills⟩ := giveUp_spills s x
  refine ⟨?_, ?_, ?_, ?_, ?_, ?_, parts .hbm (by decide), parts⟩
  · rw [corr, giveUp_suspects]
  · intro y hy
    rw [corr, spills, mem_take_append_drop]
    exact .inr (List.mem_map.2 ⟨y, hy, rfl⟩)
  · intro z hz
    rw [corr, spills, mem_take_append_drop]
    exact .inl hz
  · intro sp hx
    have low : ¬ HoldRegs (furReg sp) := not_holdRegs (by simp only [furReg, Reg.CORR_FURROW]; have := hsp sp hx; omega)
    exact (held.get_eq low _).trans (giveUp_furState hu hx (hsp sp hx))
  · rw [held.full_eq (not_holdRegs (by decide)), giveUp_counts hu]
  · exact counted_then (giveUp_raises hu) (held.full_eq (not_holdRegs (by decide)))

end Sys2Proof.Machine.State
end

section
/-! SUPPORT. RECOMPUTE_END: what the banks of a spare show (R31, R193), and how a recompute ends with good banks and with bad ones (R33, R189,
R191). -/

namespace Sys2Proof.Machine.State

/-! ### What a bank shows -/

/-- An error shown: counted and raised. -/
def showHit (s : State) (b : Bool) (i ev d : Nat) : State := if b then (s.count (Reg.CORR_COUNT i)).raise ev d else s

/-- The registers in which errors of spills are shown: the first seven counters and those of the events. -/
def ShowRegs (a : Nat) : Prop := (0x900100 ≤ a ∧ a < 0x90011C) ∨ (0x100000 ≤ a ∧ a < 0x108000)

theorem eventRegs_show {e a : Nat} (he : e < 2048) (h : EventRegs e a) : ShowRegs a := by
  simp only [EventRegs, Reg.EVT_SRC_CNT, Reg.EVT_SRC_CFG, Reg.EVT_STATUS] at h
  simp only [ShowRegs]; omega

theorem showHit_changes (s : State) (b : Bool) {i ev : Nat} (d : Nat) (hi : i < 7) (he : ev < 2048) :
    Changes eventParts ShowRegs s (s.showHit b i ev d) := by
  unfold showHit; split
  · exact ((changes_count s _ 1).mono (by decide) fun a h => by simp only [h, Reg.CORR_COUNT, ShowRegs]; omega).trans
      ((changes_raise _ _ _).mono (by decide) fun _ h => eventRegs_show he h)
  · exact .refl _ _ s

theorem spillShows_eq (s : State) (f bank ch q : Nat) (mismatch : Bool) (r : SpillReport) :
    s.spillShows f bank ch q mismatch r =
      (((((s.each (List.range r.bufCe) (fun s _ => s.showHit true 2 Ev.CORR_OPBUF_CE (corrDetail f 0 bank ch q))).each
        (List.range r.pathCe) (fun s _ => s.showHit true 5 Ev.CORR_SPILL_CE (corrDetail f 0 bank ch q))).showHit
        mismatch 0 Ev.CORR_WITNESS (corrDetail f 0 bank ch q)).showHit r.parity 1 Ev.CORR_PARITY (corrDetail f r.cell bank ch q)).showHit
        r.bufUe 3 Ev.CORR_OPBUF_UE (corrDetail f 0 bank ch q)).showHit r.pathUe 6 Ev.CORR_SPILL_UE (corrDetail f 0 bank ch q) := rfl

theorem spillShows_changes (s : State) (f bank ch q : Nat) (mismatch : Bool) (r : SpillReport) :
    Changes eventParts ShowRegs s (s.spillShows f bank ch q mismatch r) := by
  have buffer := Changes.each (List.range r.bufCe)
    (fun t _ _ => showHit_changes t true (i := 2) (ev := Ev.CORR_OPBUF_CE) (corrDetail f 0 bank ch q) (by decide) (by decide)) s
  have path := fun t => Changes.each (List.range r.pathCe)
    (fun t _ _ => showHit_changes t true (i := 5) (ev := Ev.CORR_SPILL_CE) (corrDetail f 0 bank ch q) (by decide) (by decide)) t
  rw [spillShows_eq]
  exact ((((buffer.trans (path _)).trans (showHit_changes _ mismatch _ (by decide) (by decide))).trans
    (showHit_changes _ r.parity _ (by decide) (by decide))).trans (showHit_changes _ r.bufUe _ (by decide) (by decide))).trans
    (showHit_changes _ r.pathUe _ (by decide) (by decide))

/-- A report without any error of bank, buffer or path. -/
structure QuietReport (r : SpillReport) : Prop where
  parity : r.parity = false
  bufCe : r.bufCe = 0
  bufUe : r.bufUe = false
  pathCe : r.pathCe = 0
  pathUe : r.pathUe = false

theorem QuietReport.of_eq {r : SpillReport} (h : r = { deltas := r.deltas, witness := r.witness }) : QuietReport r := by
  rw [h]; exact ⟨rfl, rfl, rfl, rfl, rfl⟩

theorem QuietReport.errors {r : SpillReport} (h : QuietReport r) : reportErrors r = 0 := by
  rw [reportErrors, h.parity, h.bufUe, h.pathUe]; rfl

/-- A bank without error bits shows at most a mismatch. -/
theorem spillShows_quiet (s : State) (f bank ch q : Nat) (mismatch : Bool) {r : SpillReport} (h : QuietReport r) :
    s.spillShows f bank ch q mismatch r = s.showHit mismatch 0 Ev.CORR_WITNESS (corrDetail f 0 bank ch q) := by
  rw [spillShows_eq, h.parity, h.bufCe, h.bufUe, h.pathCe, h.pathUe]; rfl

/-! ### The banks of a recompute -/

/-- The tiles of a suspect's furrow. -/
def suspectTiles (s : State) (x : Suspect) (f : Flight) : List Nat :=
  (List.range s.nTiles).filter (fun n => (s.tilePlace f.list n).1 == x.furrow)

/-- A bank of a recompute, checked: its tile, its words, whether its witness fails, and its report. -/
def checkBank (s : State) (fl : Flight) (shown : Nat → SpillReport) (n : Nat) : Nat × List (Int × Int) × Bool × SpillReport :=
  (n, s.spilledTile fl n (shown n), s.witnessFails fl n (s.spilledTile fl n (shown n)) (shown n), shown n)

/-- Does a bank fail a check? -/
def badBank (b : Nat × List (Int × Int) × Bool × SpillReport) : Bool := b.2.2.1 || b.2.2.2.parity || b.2.2.2.bufUe || b.2.2.2.pathUe

theorem checkBank_tile (s : State) (fl : Flight) (shown : Nat → SpillReport) (n : Nat) : (s.checkBank fl shown n).1 = n := by
  simp only [checkBank]

theorem checkBank_words (s : State) (fl : Flight) (shown : Nat → SpillReport) (n : Nat) :
    (s.checkBank fl shown n).2.1 = s.spilledTile fl n (shown n) := by
  simp only [checkBank]

theorem checkBank_fails (s : State) (fl : Flight) (shown : Nat → SpillReport) (n : Nat) :
    (s.checkBank fl shown n).2.2.1 = s.witnessFails fl n (s.spilledTile fl n (shown n)) (shown n) := by
  simp only [checkBank]

theorem checkBank_report (s : State) (fl : Flight) (shown : Nat → SpillReport) (n : Nat) : (s.checkBank fl shown n).2.2.2 = shown n := by
  simp only [checkBank]

theorem badBank_checkBank (s : State) (fl : Flight) (shown : Nat → SpillReport) (n : Nat) :
    badBank (s.checkBank fl shown n) = (s.witnessFails fl n (s.spilledTile fl n (shown n)) (shown n) || (shown n).parity
      || (shown n).bufUe || (shown n).pathUe) := by
  rw [badBank, checkBank_fails, checkBank_report]

/-- The banks of a recompute on a spare, checked. -/
def checkBanks (s : State) (x : Suspect) (f : Flight) (shown : Nat → SpillReport) : List (Nat × List (Int × Int) × Bool × SpillReport) :=
  (s.suspectTiles x f).map (s.checkBank { f with sheaves := s.readPass x.chan x.pass } shown)

/-- Every bank of a recompute is shown. -/
def showChecks (s : State) (sp : Nat) (x : Suspect) (f : Flight) (banks : List (Nat × List (Int × Int) × Bool × SpillReport)) : State :=
  s.each banks (fun s b => s.spillShows sp (s.slotBank (s.tilePlace f.list b.1).2.2) x.chan x.pass b.2.2.1 b.2.2.2)

/-- A recompute whose spare is bad: the suspect has none again, and the spare is to be idle and then RETIRED. -/
def spareLost (s : State) (sp : Nat) (x : Suspect) : State :=
  { s with corr := { s.corr with
    suspects := s.corr.suspects.map (fun y => if y = x then { y with spare := none, failed := y.failed + 1 } else y)
    ramps := s.corr.ramps.filter (fun g => g != sp)
    doomed := s.corr.doomed.filter (fun d => d.1 != sp) } }

/-- A bad spare is RETIRED with cause 6 and its errors. -/
def spareRetired (s : State) (sp : Nat) (x : Suspect) (errors : Nat) : State :=
  ((((s.spareLost sp x).furTo sp fSpare).setWarm sp false).retire sp 6).furErrors sp errors

/-- A recompute fails: it starts again, or is given up. -/
def recomputeFails (s : State) (sp : Nat) (x : Suspect) (errors : Nat) : State :=
  let s := s.spareRetired sp x errors
  if decide (2 ≤ x.failed + 1) || (s.chooseSpare x.furrow).isNone then s.giveUp { x with spare := none } else s

/-- The spills of a recompute that passes take the place of the suspect ones, counted. -/
def spillsReplaced (s : State) (x : Suspect) (ts : List TileSum) : State :=
  let s := { s with corr := { s.corr with suspects := s.corr.suspects.filter (fun y => y != x) } }
  let s := s.queueSpills x.pass x.chan ts
  let s := s.markFlight x.chan x.pass (fun f => { f with recomputed := true })
  s.count (Reg.CORR_COUNT 8)

/-- The suspect spills with the words of their banks on the spare. -/
def recomputedTiles (x : Suspect) (banks : List (Nat × List (Int × Int) × Bool × SpillReport)) : List TileSum :=
  x.tiles.map (fun t =>
    { t with words := ((banks.find? (fun b => b.1 == t.tile)).map (·.2.1)).getD t.words, recomputed := true, unverified := false })

/-- What is shown of a tile among the reports of a recompute. -/
def shownOf (s : State) (f : Flight) (reports : List (Nat × Nat × SpillReport)) (b : Nat) : SpillReport :=
  ((reports.find? (fun e => e.1 == (s.tilePlace f.list b).2.1 && e.2.1 == (s.tilePlace f.list b).2.2)).map (fun e => e.2.2)).getD {}

/-- A recompute on a spare, its suspect and its pass found: it ends with good banks or with a bad one. -/
def recomputeRun (s : State) (sp : Nat) (reports : List (Nat × Nat × SpillReport)) (x : Suspect) (f : Flight) : State :=
  let banks := s.checkBanks x f (s.shownOf f reports)
  let u := s.showChecks sp x f banks
  if banks.any badBank then u.recomputeFails sp x (banks.map (fun b => reportErrors b.2.2.2)).sum
  else (((u.spillsReplaced x (recomputedTiles x banks)).freeSpare (some sp)).requeue x.chan).endPasses

theorem recomputeEnd_cases (s : State) (sp : Nat) (reports : List (Nat × Nat × SpillReport)) :
    s.recomputeEnd sp reports = match s.corr.suspects.find? (fun (x : Suspect) => x.spare == some sp) with
      | none => s
      | some x =>
        match (s.corr.flights.find? (fun (f : Flight) => f.chan == x.chan && f.pass == x.pass)).filter
          (fun f => !s.stillDrains f x.furrow) with
        | none => s
        | some f => s.recomputeRun sp reports x f := rfl

theorem recomputeEnd_eq {s : State} {sp : Nat} {x : Suspect} {f : Flight} (reports : List (Nat × Nat × SpillReport))
    (hx : s.corr.suspects.find? (fun (x : Suspect) => x.spare == some sp) = some x)
    (hf : s.corr.flights.find? (fun (f : Flight) => f.chan == x.chan && f.pass == x.pass) = some f)
    (hl : ∀ i ∈ f.left, (s.tilePlace f.list i).1 ≠ x.furrow) : s.recomputeEnd sp reports = s.recomputeRun sp reports x f := by
  have drained : s.stillDrains f x.furrow = false := by
    simpa [stillDrains] using hl
  have found : (s.corr.flights.find? (fun (f : Flight) => f.chan == x.chan && f.pass == x.pass)).filter
      (fun f => !s.stillDrains f x.furrow) = some f := by
    rw [hf, Option.filter_some, drained]; rfl
  rw [recomputeEnd_cases, hx]; dsimp only
  rw [found]

/-! ### Good banks -/

theorem checkBanks_any (s : State) (x : Suspect) (f : Flight) (shown : Nat → SpillReport) (fl : Flight)
    (hfl : fl = { f with sheaves := s.readPass x.chan x.pass }) :
    (s.checkBanks x f shown).any badBank = true ↔ ∃ b ∈ s.suspectTiles x f,
      s.witnessFails fl b (s.spilledTile fl b (shown b)) (shown b) = true ∨ (shown b).parity = true ∨ (shown b).bufUe = true
        ∨ (shown b).pathUe = true := by
  rw [checkBanks, ← hfl, List.any_eq_true]
  constructor
  · rintro ⟨_, mem, bad⟩
    obtain ⟨b, hb, rfl⟩ := List.mem_map.1 mem
    rw [badBank_checkBank] at bad
    exact ⟨b, hb, by simpa only [Bool.or_eq_true, or_assoc] using bad⟩
  · rintro ⟨b, hb, bad⟩
    refine ⟨_, List.mem_map.2 ⟨b, hb, rfl⟩, ?_⟩
    rw [badBank_checkBank]
    simpa only [Bool.or_eq_true, or_assoc] using bad

/-- Reports that hold no error bits show none for any tile. -/
theorem shownOf_quiet (s : State) (f : Flight) {reports : List (Nat × Nat × SpillReport)}
    (h : ∀ e ∈ reports, e.2.2 = { deltas := e.2.2.deltas, witness := e.2.2.witness }) (b : Nat) :
    QuietReport (s.shownOf f reports b) := by
  unfold shownOf
  cases hfind : reports.find? _ with
  | none => exact ⟨rfl, rfl, rfl, rfl, rfl⟩
  | some e => exact .of_eq (h e (List.mem_of_find?_eq_some hfind))

theorem showChecks_quiet {s : State} (sp : Nat) (x : Suspect) (f : Flight) {banks : List (Nat × List (Int × Int) × Bool × SpillReport)}
    (h : ∀ b ∈ banks, b.2.2.1 = false ∧ QuietReport b.2.2.2) :
    s.showChecks sp x f banks = s := by
  refine each_induct (J := (· = s)) banks (fun t b hb ht => ?_) rfl
  obtain ⟨good, quiet⟩ := h b hb
  rw [spillShows_quiet _ _ _ _ _ _ quiet, good, ht]; rfl

theorem showChecks_changes (s : State) (sp : Nat) (x : Suspect) (f : Flight) (banks : List (Nat × List (Int × Int) × Bool × SpillReport)) :
    Changes eventParts ShowRegs s (s.showChecks sp x f banks) :=
  .each banks (fun s _ _ => spillShows_changes s _ _ _ _ _ _) s

end Sys2Proof.Machine.State
end

section
/-! SUPPORT. How a recompute ends: with good banks its spills take the place of the suspect ones (R189, R191); with a bad one its spare is
RETIRED (R33). -/

namespace Sys2Proof.Machine.State

/-! ### Good banks -/

/-- The array after the spills of a recompute have taken the place of the suspect ones. -/
def spillsReplacedCorr (c : CorrSt) (x : Suspect) (ts : List TileSum) : CorrSt :=
  let i := c.spills.findIdx (fun t => t.chan == x.chan && decide (x.pass < t.pass))
  { c with
    suspects := c.suspects.filter (fun y => y != x)
    spills := c.spills.take i ++ ts ++ c.spills.drop i
    flights := c.flights.map (fun f => if f.chan = x.chan ∧ f.pass = x.pass then { f with recomputed := true } else f) }

theorem spillsReplaced_eq (s : State) (x : Suspect) (ts : List TileSum) :
    s.spillsReplaced x ts = ({ s with corr := spillsReplacedCorr s.corr x ts } : State).count (Reg.CORR_COUNT 8) := rfl

theorem spillsReplaced_corr (s : State) (x : Suspect) (ts : List TileSum) : (s.spillsReplaced x ts).corr = spillsReplacedCorr s.corr x ts := by
  rw [spillsReplaced_eq, count_corr]

theorem spillsReplaced_changes (s : State) (x : Suspect) (ts : List TileSum) :
    Changes spillParts (· = Reg.CORR_COUNT 8) s (s.spillsReplaced x ts) := by
  rw [spillsReplaced_eq]
  exact (changes_corr s _ _).trans ((changes_count _ _ _).mono (by decide) fun _ h => h)

theorem spillsReplaced_turn (s : State) (x : Suspect) (ts : List TileSum) : (s.spillsReplaced x ts).turn = s.turn := by
  rw [spillsReplaced_eq, count_turn]

theorem Undoomed.spillsReplaced {s : State} {x : Suspect} (h : Undoomed s x) (ts : List TileSum) : Undoomed (s.spillsReplaced x ts) x := by
  intro sp hx d hd
  rw [spillsReplaced_corr] at hd
  exact h sp hx d hd

/-- With no other recompute of its channel the passes that a recompute held back take their places at the end of the ready queue. -/
theorem settled_rdy {s : State} {x : Suspect} (h : Undoomed s x) (hn : ∀ y ∈ s.corr.suspects, y.chan ≠ x.chan) :
    (s.settled x).turn.rdy = s.turn.rdy.filter (fun c => c != x.chan) ++ s.turn.rdy.filter (fun c => c == x.chan) := by
  have free : (s.freeSpare x.spare).dispatchable x.chan = true := by
    simpa [dispatchable, (freeSpare_passes s x.spare).suspects] using hn
  have turn : (s.freeSpare x.spare).turn = s.turn := (freeSpare_changes h).parts .turn (by decide)
  rw [settled, (endPasses_ends _).rdy, requeue, if_pos free]
  dsimp only
  rw [turn]

theorem recomputeRun_good {s : State} {sp : Nat} {reports : List (Nat × Nat × SpillReport)} {x : Suspect} {f : Flight}
    (hsp : x.spare = some sp)
    (good : ∀ b ∈ s.suspectTiles x f, s.witnessFails { f with sheaves := s.readPass x.chan x.pass } b
      (s.spilledTile { f with sheaves := s.readPass x.chan x.pass } b (s.shownOf f reports b)) (s.shownOf f reports b) = false)
    (quiet : ∀ e ∈ reports, e.2.2 = { deltas := e.2.2.deltas, witness := e.2.2.witness }) :
    s.recomputeRun sp reports x f = (s.spillsReplaced x (recomputedTiles x (s.checkBanks x f (s.shownOf f reports)))).settled x := by
  have shown := fun b => s.shownOf_quiet f quiet b
  have none_bad : ¬ (s.checkBanks x f (s.shownOf f reports)).any badBank = true := by
    rw [checkBanks_any s x f _ _ rfl]
    rintro ⟨b, hb, bad⟩
    rw [good b hb, (shown b).parity, (shown b).bufUe, (shown b).pathUe] at bad
    simp at bad
  have same : s.showChecks sp x f (s.checkBanks x f (s.shownOf f reports)) = s := by
    refine showChecks_quiet sp x f fun b hb => ?_
    obtain ⟨n, hn, rfl⟩ := List.mem_map.1 hb
    rw [checkBank_fails, checkBank_report]
    exact ⟨good n hn, shown n⟩
  unfold recomputeRun settled
  dsimp only
  rw [if_neg none_bad, same, hsp]

/-- A tile of the suspect's furrow carries the words of its bank on the spare. -/
theorem mem_recomputedTiles {s : State} {x : Suspect} {f : Flight} {shown : Nat → SpillReport} {y : TileSum} (hy : y ∈ x.tiles)
    (hb : y.tile ∈ s.suspectTiles x f) :
    { y with
      words := s.spilledTile { f with sheaves := s.readPass x.chan x.pass } y.tile (shown y.tile), recomputed := true, unverified := false }
      ∈ recomputedTiles x (s.checkBanks x f shown) := by
  refine List.mem_map.2 ⟨y, hy, ?_⟩
  have words : (((s.checkBanks x f shown).find? (fun b => b.1 == y.tile)).map (·.2.1))
      = some (s.spilledTile { f with sheaves := s.readPass x.chan x.pass } y.tile (shown y.tile)) := by
    cases hfind : (s.checkBanks x f shown).find? (fun b => b.1 == y.tile) with
    | none =>
      exact absurd (List.find?_eq_none.1 hfind _ (List.mem_map.2 ⟨_, hb, rfl⟩))
        (by simp only [checkBank_tile, beq_self_eq_true, not_true_eq_false, not_false_eq_true])
    | some b =>
      obtain ⟨n, _, rfl⟩ := List.mem_map.1 (List.mem_of_find?_eq_some hfind)
      have hn : n = y.tile := by simpa only [checkBank_tile, beq_iff_eq] using List.find?_some hfind
      subst hn
      exact congrArg some (checkBank_words s _ shown y.tile)
  rw [words, Option.getD_some]

/-- A recompute that passes, and drains settled. -/
theorem spillsReplaced_settled_spec {s : State} {x : Suspect} {sp : Nat} (ts : List TileSum) (hx : x.spare = some sp) (hsp : sp < 272)
    (hu : Undoomed s x) (hw : HoldsWait s) :
    let t := ((s.spillsReplaced x ts).settled x).settleHolds
    t.corr.suspects = s.corr.suspects.filter (fun (y : Suspect) => y != x) ∧ t.furState sp = fSpare ∧ t.furWarm sp = false
    ∧ t.full (Reg.CORR_COUNT 8) = min (s.full (Reg.CORR_COUNT 8) + 1) (2 ^ 32 - 1)
    ∧ (∀ z, z ∈ t.corr.spills ↔ z ∈ s.corr.spills ∨ z ∈ ts) ∧ t.corr.spills.length = s.corr.spills.length + ts.length
    ∧ ((∀ y ∈ t.corr.suspects, y.chan ≠ x.chan) →
        t.turn.rdy = s.turn.rdy.filter (fun c => c != x.chan) ++ s.turn.rdy.filter (fun c => c == x.chan))
    ∧ Only (([.corr, .turn, .weed, .rings] : List Part) ++ eventParts) s t := by
  have spares : ∀ sp, x.spare = some sp → sp < 272 := by
    intro sp' h; rw [hx] at h; cases h; exact hsp
  have replaced := spillsReplaced_changes s x ts
  have ended := settled_changes (hu.spillsReplaced ts)
  have wait : HoldsWait ((s.spillsReplaced x ts).settled x) :=
    (hw.of_changes replaced (by decide) (by decide)).of_changes ended (by decide) (granCfg_not_spareRegs spares)
  have held := settleHolds_changes _ wait
  have low : ¬ HoldRegs (furReg sp) := not_holdRegs (by simp only [furReg, Reg.CORR_FURROW]; omega)
  have corr : ((s.spillsReplaced x ts).settled x).settleHolds.corr = ((s.spillsReplaced x ts).settled x).corr :=
    held.parts .corr (by decide)
  have turn : ((s.spillsReplaced x ts).settled x).settleHolds.turn = ((s.spillsReplaced x ts).settled x).turn :=
    held.parts .turn (by decide)
  have suspects : ((s.spillsReplaced x ts).settled x).corr.suspects = s.corr.suspects.filter (fun (y : Suspect) => y != x) := by
    rw [settled_suspects, spillsReplaced_corr, spillsReplacedCorr]
  obtain ⟨i, spills⟩ : ∃ i, ((s.spillsReplaced x ts).settled x).corr.spills = s.corr.spills.take i ++ ts ++ s.corr.spills.drop i := by
    rw [settled_spills, spillsReplaced_corr]; exact ⟨_, rfl⟩
  refine ⟨?_, ?_, ?_, ?_, fun z => ?_, ?_, fun hn => ?_, ?_⟩
  · rw [corr, suspects]
  · exact (held.get_eq low _).trans (settled_furState (hu.spillsReplaced ts) hx hsp)
  · exact (held.flag_eq low _).trans (settled_furWarm (hu.spillsReplaced ts) hx hsp)
  · rw [held.full_eq (not_holdRegs (by decide)), ended.full_eq (not_spareRegs (count_not_furrowRegs (by decide) (by decide))),
      spillsReplaced_eq, full_count_same]
    rfl
  · rw [corr, spills, mem_take_append_drop]
  · rw [corr, spills]
    simp only [List.length_append, List.length_take, List.length_drop]; omega
  · rw [corr, settled_suspects] at hn
    rw [turn, settled_rdy (hu.spillsReplaced ts) hn, spillsReplaced_turn]
  · exact (replaced.parts.trans ended.parts).trans (held.parts.mono (by decide))

/-! ### A bad bank -/

theorem arrayStep_changes {P : Nat → Prop} {s t : State} (h : ArrayStep P s t) (hs : s.twinOn = false) : Changes arrayParts P s t :=
  ⟨h.alone hs, h.regs⟩

/-- A bad spare is RETIRED, with its cause and its errors. -/
theorem spareRetired_spec (s : State) {sp : Nat} (x : Suspect) (n : Nat) (hsp : sp < 272) (hs : s.twinOn = false) :
    (s.spareRetired sp x n).furState sp = fRetired ∧ (s.spareRetired sp x n).get (furReg sp) Fld.CORR_FURROW_CAUSE = 6
    ∧ (s.spareRetired sp x n).get (furReg sp) Fld.CORR_FURROW_ERRORS
        = satU Fld.CORR_FURROW_ERRORS.width (s.get (furReg sp) Fld.CORR_FURROW_ERRORS + n)
    ∧ Changes arrayParts (FurrowRegs sp) s (s.spareRetired sp x n) := by
  have lost : Changes arrayParts (FurrowRegs sp) s (s.spareLost sp x) := (changes_corr s _ _).mono (by decide) fun _ h => h
  have errors : (s.spareLost sp x).get (furReg sp) Fld.CORR_FURROW_ERRORS = s.get (furReg sp) Fld.CORR_FURROW_ERRORS := rfl
  have alone : (s.spareLost sp x).twinOn = false := (twinOn_of_sys rfl).trans hs
  unfold spareRetired
  generalize s.spareLost sp x = a at lost errors alone
  have idle := furTo_setWarm_step a sp fSpare false
  have idle_errors : ((a.furTo sp fSpare).setWarm sp false).get (furReg sp) Fld.CORR_FURROW_ERRORS = a.get (furReg sp) Fld.CORR_FURROW_ERRORS := by
    rw [get_setWarm _ sp sp false (by decide)]; exact get_set_apart a _ _ (by decide) (by decide)
  have idle_state := furState_idle a sp
  generalize (a.furTo sp fSpare).setWarm sp false = b at idle idle_errors idle_state
  have gone := retire_spare_step b sp 6 idle_state
  have retired := retire_of_spare b sp 6 idle_state
  have gone_state : (b.retire sp 6).furState sp = fRetired := by rw [retired, furState_retired _ hsp]
  have gone_cause : (b.retire sp 6).get (furReg sp) Fld.CORR_FURROW_CAUSE = 6 := by
    rw [retired, get_retired _ hsp (by decide) (by decide), get_set_same _ _ _ (by decide)]; rfl
  have gone_errors : (b.retire sp 6).get (furReg sp) Fld.CORR_FURROW_ERRORS = b.get (furReg sp) Fld.CORR_FURROW_ERRORS := by
    rw [retired, get_retired _ hsp (by decide) (by decide), get_set_apart _ _ _ (by decide) (by decide)]
  generalize b.retire sp 6 = c at gone gone_state gone_cause gone_errors
  have counted := (furErrors_of_retired_step c sp n gone_state).mono (Q := FurrowRegs sp) fun _ h => .inl h
  refine ⟨?_, ?_, ?_, lost.trans (arrayStep_changes ((idle.trans gone).trans counted) alone)⟩
  · exact (get_furErrors_of_retired_apart c sp n gone_state (by decide)).trans gone_state
  · rw [get_furErrors_of_retired_apart c sp n gone_state (by decide), gone_cause]
  · rw [get_furErrors_of_retired c sp n gone_state, gone_errors, idle_errors, errors]

/-- The registers that a recompute with a bad bank may change after what it shows. -/
def FailRegs (sp a : Nat) : Prop := FurrowRegs sp a ∨ a = Reg.CORR_COUNT 9 ∨ EventRegs Ev.CORR_RECOMPUTE_GIVEUP a

/-- What a recompute that failed does at last: nothing, or it is given up. -/
theorem recomputeFails_tail (s : State) (sp : Nat) (x : Suspect) (n : Nat) :
    Changes spillParts (GiveUpRegs { x with spare := none }) (s.spareRetired sp x n) (s.recomputeFails sp x n) := by
  unfold recomputeFails; dsimp only; split
  · exact giveUp_changes fun sp h => by cases h
  · exact .refl _ _ _

theorem giveUpRegs_none {x : Suspect} {a : Nat} (h : GiveUpRegs { x with spare := none } a) :
    a = Reg.CORR_COUNT 9 ∨ EventRegs Ev.CORR_RECOMPUTE_GIVEUP a ∨ ArrayAside a := by
  rcases h with h | h | h | ⟨_, k, _⟩
  · exact .inl h
  · exact .inr (.inl h)
  · exact .inr (.inr h)
  · cases k

theorem furReg_not_giveUpRegs {x : Suspect} {f : Nat} (hf : f < 272) : ¬ GiveUpRegs { x with spare := none } (furReg f) := by
  intro h
  rcases giveUpRegs_none h with h | h | h
  · exact furReg_ne_low f (by decide) h.symm
  · simp only [EventRegs, furReg, Reg.CORR_FURROW, Reg.EVT_SRC_CNT, Reg.EVT_SRC_CFG, Reg.EVT_STATUS, Ev.CORR_RECOMPUTE_GIVEUP] at h; omega
  · exact furReg_not_aside hf h

theorem recomputeFails_spec (s : State) {sp : Nat} (x : Suspect) (n : Nat) (hsp : sp < 272) (hs : s.twinOn = false) :
    (s.recomputeFails sp x n).furState sp = fRetired ∧ (s.recomputeFails sp x n).get (furReg sp) Fld.CORR_FURROW_CAUSE = 6
    ∧ (s.recomputeFails sp x n).get (furReg sp) Fld.CORR_FURROW_ERRORS
        = satU Fld.CORR_FURROW_ERRORS.width (s.get (furReg sp) Fld.CORR_FURROW_ERRORS + n)
    ∧ Changes arrayParts (FailRegs sp) s (s.recomputeFails sp x n) := by
  obtain ⟨state, cause, errors, changes⟩ := spareRetired_spec s x n hsp hs
  have tail := recomputeFails_tail s sp x n
  have kept := furReg_not_giveUpRegs (x := x) hsp
  refine ⟨(tail.get_eq kept _).trans state, (tail.get_eq kept _).trans cause, (tail.get_eq kept _).trans errors,
    (changes.mono (by decide) fun _ h => .inl h).trans (tail.mono (by decide) fun a h => ?_)⟩
  rcases giveUpRegs_none h with h | h | h
  · exact .inr (.inl h)
  · exact .inr (.inr h)
  · exact .inl (aside_furrowRegs sp h)

/-- A recompute with a bad bank: what its banks show, its spare RETIRED, and drains settled. -/
theorem recomputeRun_bad_spec {s : State} {sp : Nat} {reports : List (Nat × Nat × SpillReport)} {x : Suspect} {f : Flight} (hsp : sp < 272)
    (hs : s.twinOn = false) (hw : HoldsWait s) (bad : (s.checkBanks x f (s.shownOf f reports)).any badBank = true) :
    let t := (s.recomputeRun sp reports x f).settleHolds
    t.furState sp = fRetired ∧ t.get (furReg sp) Fld.CORR_FURROW_CAUSE = 6
    ∧ t.get (furReg sp) Fld.CORR_FURROW_ERRORS = satU Fld.CORR_FURROW_ERRORS.width (s.get (furReg sp) Fld.CORR_FURROW_ERRORS
        + ((s.suspectTiles x f).map (fun b => reportErrors (s.shownOf f reports b))).sum)
    ∧ t.full (Reg.CORR_COUNT 8) = s.full (Reg.CORR_COUNT 8) ∧ KeepsHbm s t := by
  generalize he : ((s.checkBanks x f (s.shownOf f reports)).map (fun b => reportErrors b.2.2.2)).sum = n
  have sum : ((s.suspectTiles x f).map (fun b => reportErrors (s.shownOf f reports b))).sum = n := by
    rw [← he, checkBanks, List.map_map]; rfl
  have run : s.recomputeRun sp reports x f = (s.showChecks sp x f (s.checkBanks x f (s.shownOf f reports))).recomputeFails sp x n := by
    unfold recomputeRun; dsimp only
    rw [if_pos bad, he]
  have shown := showChecks_changes s sp x f (s.checkBanks x f (s.shownOf f reports))
  rw [run, sum]
  generalize s.showChecks sp x f (s.checkBanks x f (s.shownOf f reports)) = u at shown
  have alone : u.twinOn = false := (twinOn_of_sys (shown.parts .sys (by decide))).trans hs
  obtain ⟨state, cause, errors, fails⟩ := recomputeFails_spec u x n hsp alone
  have granCfg : ¬ FailRegs sp Reg.GRAN_CFG := by
    rintro (h | h | h)
    · exact granCfg_not_furrowRegs hsp h
    · simp only [Reg.GRAN_CFG, Reg.CORR_COUNT] at h; omega
    · simp only [EventRegs, Reg.GRAN_CFG, Reg.EVT_SRC_CNT, Reg.EVT_SRC_CFG, Reg.EVT_STATUS, Ev.CORR_RECOMPUTE_GIVEUP] at h; omega
  have held := settleHolds_changes _ ((hw.of_changes shown (by decide) (by simp only [ShowRegs, Reg.GRAN_CFG]; omega)).of_changes fails
    (by decide) granCfg)
  have low : ¬ HoldRegs (furReg sp) := not_holdRegs (by simp only [furReg, Reg.CORR_FURROW]; omega)
  have unshown : ¬ ShowRegs (furReg sp) := by simp only [ShowRegs, furReg, Reg.CORR_FURROW]; omega
  have count8 : ¬ FailRegs sp (Reg.CORR_COUNT 8) := by
    rintro (h | h | h)
    · exact count_not_furrowRegs (by decide) (by decide) sp h
    · revert h; decide
    · simp only [EventRegs, Reg.CORR_COUNT, Reg.EVT_SRC_CNT, Reg.EVT_SRC_CFG, Reg.EVT_STATUS, Ev.CORR_RECOMPUTE_GIVEUP] at h; omega
  refine ⟨(held.get_eq low _).trans state, (held.get_eq low _).trans cause, ?_, ?_, ?_⟩
  · rw [held.get_eq low, errors, shown.get_eq unshown]
  · rw [held.full_eq (not_holdRegs (by decide)), fails.full_eq count8, shown.full_eq (by simp only [ShowRegs, Reg.CORR_COUNT]; omega)]
  · have parts : Only arrayParts s (u.recomputeFails sp x n).settleHolds :=
      ((shown.parts.mono (by decide)).trans fails.parts).trans (held.parts.mono (by decide))
    exact parts .hbm (by decide)

end Sys2Proof.Machine.State
end

section
/-! SUPPORT. OPERAND_BUS_TRANSFER: consecutive failures of a bus, and what the third one does to passes and recomputes (R31). -/

namespace Sys2Proof.Machine.State

/-- Record consecutive failures of a bus. -/
def putBus (s : State) (key v : Nat) : State := { s with corr := { s.corr with bus := mapSet 0 s.corr.bus key v } }

theorem putBus_same (s : State) (key v : Nat) : (mapFind (s.putBus key v).corr.bus key).getD 0 = v := mapFind_mapSet_same 0 s.corr.bus key v

theorem putBus_other (s : State) {key j : Nat} (v : Nat) (h : j ≠ key) :
    (mapFind (s.putBus key v).corr.bus j).getD 0 = (mapFind s.corr.bus j).getD 0 :=
  congrArg (·.getD 0) (mapFind_mapSet_other 0 s.corr.bus v h)

theorem putBus_changes (s : State) (key v : Nat) (P : Nat → Prop) : Changes [.corr] P s (s.putBus key v) :=
  .of_only (only_corr s _) (by decide)

/-- A transfer that fails its check, counted and raised. -/
def busFails (s : State) (fur : Nat) : State := (s.count (Reg.CORR_COUNT 4)).raise Ev.CORR_BUS_CRC (corrDetail fur 0 0 0 0)

/-- A recompute loses its spare: it starts again, or after its second failure is given up. -/
def loseSpare (s : State) (x : Suspect) : State :=
  let s := s.freeSpare x.spare
  let y := { x with spare := none, failed := x.failed + 1 }
  let s := { s with corr := { s.corr with suspects := s.corr.suspects.map (fun z => if z = x then y else z) } }
  if 2 ≤ y.failed then s.giveUp y else s

/-- The recomputes on spares of a field. -/
def fieldRecomputes (s : State) (m : Nat) : List Suspect := s.corr.suspects.filter (fun x => x.spare.any (fun sp => sp / 68 == m))

/-- A bus whose third transfer in a row has failed: its count starts anew, and it is raised. -/
def busSuspect (s : State) (fur key : Nat) : State := ((s.busFails fur).putBus key 0).raise Ev.CORR_BUS_SUSPECT (corrDetail fur 0 0 0 0)

/-- Every pass in flight of a field becomes suspect. -/
def flightsSuspect (s : State) (m : Nat) : State :=
  { s with corr := { s.corr with flights := s.corr.flights.map (fun f => if f.left.isEmpty then f else { f with bad := m :: f.bad }) } }

theorem busTransfer_eq (s : State) (fur path bus : Nat) (ok : Bool) :
    s.busTransfer fur path bus ok =
      if ok = true then s.putBus (4 * (fur / 68) + 2 * path + bus) 0
      else if (mapFind s.corr.bus (4 * (fur / 68) + 2 * path + bus)).getD 0 + 1 < 3 then
        (s.busFails fur).putBus (4 * (fur / 68) + 2 * path + bus) ((mapFind s.corr.bus (4 * (fur / 68) + 2 * path + bus)).getD 0 + 1)
      else if path = 0 then (s.busSuspect fur (4 * (fur / 68) + 2 * path + bus)).flightsSuspect (fur / 68)
      else (s.busSuspect fur (4 * (fur / 68) + 2 * path + bus)).each
        ((s.busSuspect fur (4 * (fur / 68) + 2 * path + bus)).fieldRecomputes (fur / 68)) loseSpare := rfl

/-! ### A failed transfer -/

theorem busFails_changes (s : State) (fur : Nat) :
    Changes eventParts (fun a => a = Reg.CORR_COUNT 4 ∨ EventRegs Ev.CORR_BUS_CRC a) s (s.busFails fur) :=
  ((changes_count s _ 1).mono (by decide) fun _ h => .inl h).trans ((changes_raise _ _ _).mono (by decide) fun _ h => .inr h)

theorem busFails_raises (s : State) (fur : Nat) : Counted s (s.busFails fur) Ev.CORR_BUS_CRC :=
  counted_raise _ (by decide +kernel) rfl ((changes_count s _ 1).full_eq (by decide))

theorem busFails_counts (s : State) (fur : Nat) :
    (s.busFails fur).full (Reg.CORR_COUNT 4) = min (s.full (Reg.CORR_COUNT 4) + 1) (2 ^ 32 - 1) := by
  rw [busFails, (changes_raise _ _ _).full_eq (by
    simp only [EventRegs, Reg.CORR_COUNT, Reg.EVT_SRC_CNT, Reg.EVT_SRC_CFG, Reg.EVT_STATUS, Ev.CORR_BUS_CRC]; omega), full_count_same]

/-! ### A bus that is suspect -/

theorem busFails_putBus_changes (s : State) (fur key v : Nat) :
    Changes (([.corr] : List Part) ++ eventParts) (fun a => a = Reg.CORR_COUNT 4 ∨ EventRegs Ev.CORR_BUS_CRC a) s
      ((s.busFails fur).putBus key v) :=
  ((busFails_changes s fur).mono (by decide) fun _ h => h).trans ((putBus_changes _ key v _).mono (by decide) fun _ h => h)

theorem busFails_corr (s : State) (fur : Nat) : (s.busFails fur).corr = s.corr := (busFails_changes s fur).parts .corr (by decide)

theorem busSuspect_corr (s : State) (fur key : Nat) : (s.busSuspect fur key).corr = ((s.busFails fur).putBus key 0).corr :=
  only_raise _ _ _ .corr (by decide)

theorem busSuspect_suspects (s : State) (fur key : Nat) : (s.busSuspect fur key).corr.suspects = s.corr.suspects := by
  rw [busSuspect_corr, putBus, busFails_corr]

theorem busSuspect_flights (s : State) (fur key : Nat) : (s.busSuspect fur key).corr.flights = s.corr.flights := by
  rw [busSuspect_corr, putBus, busFails_corr]

theorem busSuspect_tail (s : State) (fur key : Nat) :
    Changes (([.corr] : List Part) ++ eventParts) (EventRegs Ev.CORR_BUS_SUSPECT) (s.busFails fur) (s.busSuspect fur key) :=
  ((putBus_changes _ key 0 _).mono (by decide) fun _ h => h).trans ((changes_raise _ _ _).mono (by decide) fun _ h => h)

theorem busSuspect_parts (s : State) (fur key : Nat) : Only (([.corr] : List Part) ++ eventParts) s (s.busSuspect fur key) :=
  ((busFails_changes s fur).parts.mono (by decide)).trans (busSuspect_tail s fur key).parts

theorem busSuspect_raises (s : State) (fur key : Nat) : Counted s (s.busSuspect fur key) Ev.CORR_BUS_SUSPECT :=
  have before := busFails_putBus_changes s fur key 0
  counted_raise _ (by decide +kernel) (before.parts .sys (by decide)) (before.full_eq (by
    simp only [EventRegs, Reg.CORR_COUNT, Reg.EVT_SRC_CNT, Reg.EVT_SRC_CFG, Reg.EVT_STATUS, Ev.CORR_BUS_SUSPECT, Ev.CORR_BUS_CRC]; omega))

theorem busSuspect_crc (s : State) (fur key : Nat) : Counted s (s.busSuspect fur key) Ev.CORR_BUS_CRC :=
  counted_then (busFails_raises s fur) ((busSuspect_tail s fur key).full_eq (by
    simp only [EventRegs, Reg.EVT_SRC_CNT, Reg.EVT_SRC_CFG, Reg.EVT_STATUS, Ev.CORR_BUS_SUSPECT, Ev.CORR_BUS_CRC]; omega))

theorem busSuspect_counts (s : State) (fur key : Nat) :
    (s.busSuspect fur key).full (Reg.CORR_COUNT 4) = min (s.full (Reg.CORR_COUNT 4) + 1) (2 ^ 32 - 1) := by
  rw [(busSuspect_tail s fur key).full_eq (by
    simp only [EventRegs, Reg.CORR_COUNT, Reg.EVT_SRC_CNT, Reg.EVT_SRC_CFG, Reg.EVT_STATUS, Ev.CORR_BUS_SUSPECT]; omega), busFails_counts]

/-- A third failure of a bus has shown: counted and raised for itself and for the bus, whose count starts anew; other buses read as before. -/
structure BusShown (s t : State) (key : Nat) : Prop where
  crc : Counted s t Ev.CORR_BUS_CRC
  counts : t.full (Reg.CORR_COUNT 4) = min (s.full (Reg.CORR_COUNT 4) + 1) (2 ^ 32 - 1)
  bus : (mapFind t.corr.bus key).getD 0 = 0
  suspect : Counted s t Ev.CORR_BUS_SUSPECT
  others : ∀ j, j ≠ key → (mapFind t.corr.bus j).getD 0 = (mapFind s.corr.bus j).getD 0

theorem busSuspect_shown (s : State) (fur key : Nat) : BusShown s (s.busSuspect fur key) key where
  crc := busSuspect_crc s fur key
  counts := busSuspect_counts s fur key
  bus := by rw [busSuspect_corr]; exact putBus_same _ key 0
  suspect := busSuspect_raises s fur key
  others j hj := by rw [busSuspect_corr, putBus_other _ 0 hj, busFails_corr]

/-- What has shown stays over steps that leave its counters and the buses alone. -/
theorem BusShown.then {s t u : State} {key : Nat} (h : BusShown s t key)
    (hf : ∀ a ∈ [Reg.EVT_SRC_CNT Ev.CORR_BUS_CRC, Reg.CORR_COUNT 4, Reg.EVT_SRC_CNT Ev.CORR_BUS_SUSPECT], u.full a = t.full a)
    (hb : u.corr.bus = t.corr.bus) : BusShown s u key where
  crc := counted_then h.crc (hf _ (by simp))
  counts := (hf _ (by simp)).trans h.counts
  bus := by rw [hb, h.bus]
  suspect := counted_then h.suspect (hf _ (by simp))
  others j hj := by rw [hb, h.others j hj]

theorem flightsSuspect_changes (s : State) (m : Nat) (P : Nat → Prop) : Changes [.corr] P s (s.flightsSuspect m) :=
  .of_only (only_corr s _) (by decide)

/-- A main bus that is suspect makes the passes in flight suspect. -/
theorem flightsSuspect_spec (s : State) (fur key m : Nat) :
    let t := (s.busSuspect fur key).flightsSuspect m
    BusShown s t key ∧ t.corr.flights = s.corr.flights.map (fun (f : Flight) => if f.left.isEmpty then f else { f with bad := m :: f.bad })
    ∧ t.corr.suspects = s.corr.suspects ∧ Only (([.corr] : List Part) ++ eventParts) s t := by
  have same := flightsSuspect_changes (s.busSuspect fur key) m (fun _ => False)
  refine ⟨(busSuspect_shown s fur key).then (fun _ _ => same.full_eq id) rfl, ?_, ?_,
    (busSuspect_parts s fur key).trans (same.parts.mono (by decide))⟩
  · rw [flightsSuspect, busSuspect_flights]
  · exact busSuspect_suspects s fur key

/-! ### Recomputes lose their spares -/

/-- The registers that recomputes on spares of the array may change when they lose them. -/
def LoseRegs (a : Nat) : Prop := (∃ f < 272, FurrowRegs f a) ∨ a = Reg.CORR_COUNT 9 ∨ EventRegs Ev.CORR_RECOMPUTE_GIVEUP a

/-- A suspect without its spare, in the place of one with it. -/
def spareTaken (s : State) (x : Suspect) : State :=
  { s.freeSpare x.spare with corr := { (s.freeSpare x.spare).corr with
    suspects := (s.freeSpare x.spare).corr.suspects.map (fun z => if z = x then { x with spare := none, failed := x.failed + 1 } else z) } }

theorem loseSpare_eq (s : State) (x : Suspect) :
    s.loseSpare x = if 2 ≤ x.failed + 1 then (s.spareTaken x).giveUp { x with spare := none, failed := x.failed + 1 } else s.spareTaken x := rfl

theorem spareTaken_suspects (s : State) (x : Suspect) : (s.spareTaken x).corr.suspects
    = s.corr.suspects.map (fun z => if z = x then { x with spare := none, failed := x.failed + 1 } else z) := by
  rw [spareTaken, (freeSpare_passes s x.spare).suspects]

theorem loseSpare_bus (s : State) (x : Suspect) : (s.loseSpare x).corr.bus = s.corr.bus := by
  have taken : (s.spareTaken x).corr.bus = s.corr.bus := (freeSpare_passes s x.spare).bus
  rw [loseSpare_eq]; split
  · rw [giveUp_bus, taken]
  · exact taken

theorem loseSpare_regs (s : State) {x : Suspect} (h : ∀ sp, x.spare = some sp → sp < 272) : KeepsRegs s (s.loseSpare x) LoseRegs := by
  have taken : KeepsRegs s (s.spareTaken x) LoseRegs := by
    have freed : KeepsRegs s (s.freeSpare x.spare) LoseRegs := by
      cases hx : x.spare with
      | none => exact fun _ _ => rfl
      | some sp => exact KeepsRegs.mono (freeSpare_some_step s sp).regs fun _ k => .inl ⟨sp, h sp hx, k⟩
    exact KeepsRegs.trans freed (keeps_only (only_corr _ _) (by decide) _)
  rw [loseSpare_eq]; split
  · have given := giveUp_changes (s := s.spareTaken x) (x := { x with spare := none, failed := x.failed + 1 }) fun sp h => by cases h
    refine KeepsRegs.trans taken (KeepsRegs.mono given.regs fun a k => ?_)
    rcases k with k | k | k | ⟨_, k, _⟩
    · exact .inr (.inl k)
    · exact .inr (.inr k)
    · exact .inl ⟨0, by decide, aside_furrowRegs 0 k⟩
    · cases k
  · exact taken

/-- A suspect that has a spare after one has lost its own is another one, and was there before. -/
theorem loseSpare_suspects (s : State) (x : Suspect) : ∀ z ∈ (s.loseSpare x).corr.suspects, z.spare = none ∨ (z ∈ s.corr.suspects ∧ z ≠ x) := by
  have taken : ∀ z ∈ (s.spareTaken x).corr.suspects, z.spare = none ∨ (z ∈ s.corr.suspects ∧ z ≠ x) := by
    intro z hz
    rw [spareTaken_suspects] at hz
    obtain ⟨y, hy, rfl⟩ := List.mem_map.1 hz
    split
    · exact .inl rfl
    · exact .inr ⟨hy, ‹_›⟩
  intro z hz
  rw [loseSpare_eq] at hz
  split at hz
  · rw [giveUp_suspects] at hz
    exact taken z (List.mem_filter.1 hz).1
  · exact taken z hz

/-- When every recompute on a spare of a field has lost it, none is left. -/
theorem each_loseSpare_none (m : Nat) (l : List Suspect) (s : State)
    (h : ∀ z ∈ s.corr.suspects, ∀ sp, z.spare = some sp → sp / 68 = m → z ∈ l) :
    ∀ z ∈ (s.each l loseSpare).corr.suspects, ∀ sp, z.spare = some sp → sp / 68 ≠ m := by
  induction l generalizing s with
  | nil => exact fun z hz sp hsp hm => absurd (h z hz sp hsp hm) (List.not_mem_nil)
  | cons x l ih =>
    refine ih (s.loseSpare x) fun z hz sp hsp hm => ?_
    rcases loseSpare_suspects s x z hz with k | ⟨hz, hne⟩
    · rw [k] at hsp; cases hsp
    · exact (List.mem_cons.1 (h z hz sp hsp hm)).resolve_left hne

theorem each_loseSpare_keeps {m : Nat} (hm : m < 4) (s : State) :
    KeepsRegs s (s.each (s.fieldRecomputes m) loseSpare) LoseRegs ∧ (s.each (s.fieldRecomputes m) loseSpare).corr.bus = s.corr.bus := by
  refine each_induct (J := fun t => KeepsRegs s t LoseRegs ∧ t.corr.bus = s.corr.bus) _ (fun t x hx ht => ?_) ⟨fun _ _ => rfl, rfl⟩
  have low : ∀ sp, x.spare = some sp → sp < 272 := by
    intro sp hsp
    have := (List.mem_filter.1 hx).2
    simp only [hsp, Option.any_some, beq_iff_eq] at this
    omega
  exact ⟨KeepsRegs.trans ht.1 (loseSpare_regs t low), (loseSpare_bus t x).trans ht.2⟩

theorem each_fieldRecomputes_none (s : State) (m : Nat) :
    ∀ z ∈ (s.each (s.fieldRecomputes m) loseSpare).corr.suspects, ∀ sp, z.spare = some sp → sp / 68 ≠ m :=
  each_loseSpare_none m _ s fun z hz sp hsp hm => List.mem_filter.2 ⟨hz, by simp [hsp, hm]⟩

theorem eventCount_not_loseRegs {e : Nat} (he : e < 2048)
    (h : e ∉ [Ev.CORR_RETIRED, Ev.CORR_SPARES_OUT, Ev.TURN_LAG, Ev.TWIN_YIELD, Ev.BALRAN_TX_BACKLOG]) (hg : e ≠ Ev.CORR_RECOMPUTE_GIVEUP) :
    ¬ LoseRegs (Reg.EVT_SRC_CNT e) := by
  rintro (⟨f, _, k⟩ | k | k)
  · exact eventCount_not_furrowRegs he h f k
  · simp only [Reg.EVT_SRC_CNT, Reg.CORR_COUNT] at k; omega
  · simp only [EventRegs, Reg.EVT_SRC_CNT, Reg.EVT_SRC_CFG, Reg.EVT_STATUS, Ev.CORR_RECOMPUTE_GIVEUP] at k hg; omega

theorem count4_not_loseRegs : ¬ LoseRegs (Reg.CORR_COUNT 4) := by
  rintro (⟨f, _, k⟩ | k | k)
  · exact count_not_furrowRegs (by decide) (by decide) f k
  · revert k; decide
  · simp only [EventRegs, Reg.CORR_COUNT, Reg.EVT_SRC_CNT, Reg.EVT_SRC_CFG, Reg.EVT_STATUS, Ev.CORR_RECOMPUTE_GIVEUP] at k; omega

/-- A recompute bus that is suspect leaves no recompute on a spare of its field. -/
theorem each_loseSpare_spec (s : State) (fur key : Nat) {m : Nat} (hm : m < 4) :
    let t := (s.busSuspect fur key).each ((s.busSuspect fur key).fieldRecomputes m) loseSpare
    BusShown s t key ∧ ∀ x ∈ t.corr.suspects, ∀ sp, x.spare = some sp → sp / 68 ≠ m := by
  obtain ⟨regs, bus⟩ := each_loseSpare_keeps hm (s.busSuspect fur key)
  refine ⟨(busSuspect_shown s fur key).then (fun a ha => congrArg BitVec.toNat (regs a ?_)) bus, each_fieldRecomputes_none _ m⟩
  rcases List.mem_cons.1 ha with rfl | ha
  · exact eventCount_not_loseRegs (by decide) (by decide) (by decide)
  · rcases List.mem_cons.1 ha with rfl | ha
    · exact count4_not_loseRegs
    · rw [List.mem_singleton.1 ha]
      exact eventCount_not_loseRegs (by decide) (by decide) (by decide)

/-- A failure before the third one. -/
theorem busFails_putBus_spec (s : State) (fur key v : Nat) :
    let t := (s.busFails fur).putBus key v
    Counted s t Ev.CORR_BUS_CRC ∧ t.full (Reg.CORR_COUNT 4) = min (s.full (Reg.CORR_COUNT 4) + 1) (2 ^ 32 - 1)
    ∧ (mapFind t.corr.bus key).getD 0 = v
    ∧ ∀ j, j ≠ key → (mapFind t.corr.bus j).getD 0 = (mapFind s.corr.bus j).getD 0 := by
  have put := putBus_changes (s.busFails fur) key v (fun _ => False)
  refine ⟨counted_then (busFails_raises s fur) (put.full_eq id), (put.full_eq id).trans (busFails_counts s fur), putBus_same _ key v,
    fun j hj => ?_⟩
  rw [putBus_other _ v hj, busFails_corr]

/-! ### The obligation's clause -/

/-- What a transfer on a bus does, by its check and the failures before it. -/
theorem busTransfer_spec (m : Fin 4) (fur : Fin 68) (rec col good : Bool) (s : State) :
    let key := 4 * m.val + 2 * b2n rec + b2n col
    let n := (mapFind s.corr.bus key).getD 0
    let t := s.busTransfer (68 * m + fur) (b2n rec) (b2n col) good
    (good → (mapFind t.corr.bus key).getD 0 = 0 ∧ Only [.corr] s t)
    ∧ (good = false → Counted s t Ev.CORR_BUS_CRC ∧ t.full (Reg.CORR_COUNT 4) = min (s.full (Reg.CORR_COUNT 4) + 1) (2 ^ 32 - 1)
        ∧ (mapFind t.corr.bus key).getD 0 = (if n + 1 < 3 then n + 1 else 0)
        ∧ (n + 1 < 3 → KeepsRegs s t (fun a => a = Reg.CORR_COUNT 4 ∨ EventRegs Ev.CORR_BUS_CRC a) ∧ Only (([.corr] : List Part) ++ eventParts) s t)
        ∧ (3 ≤ n + 1 → Counted s t Ev.CORR_BUS_SUSPECT)
        ∧ (3 ≤ n + 1 → rec = false →
            t.corr.flights = s.corr.flights.map (fun (f : Flight) => if f.left.isEmpty then f else { f with bad := m.val :: f.bad })
            ∧ t.corr.suspects = s.corr.suspects ∧ Only (([.corr] : List Part) ++ eventParts) s t)
        ∧ (3 ≤ n + 1 → rec = true → s.twinOn = false → ∀ x ∈ t.corr.suspects, ∀ sp, x.spare = some sp → sp / 68 ≠ m.val))
    ∧ (∀ j, j ≠ key → (mapFind t.corr.bus j).getD 0 = (mapFind s.corr.bus j).getD 0) := by
  have field : (68 * m.val + fur.val) / 68 = m.val := by omega
  generalize hk : 4 * m.val + 2 * b2n rec + b2n col = key
  dsimp only
  generalize hn : (mapFind s.corr.bus key).getD 0 = n
  rw [busTransfer_eq, field, hk, hn]
  generalize 68 * m.val + fur.val = d
  cases good with
  | true =>
    rw [if_pos rfl]
    exact ⟨fun _ => ⟨putBus_same s key 0, (putBus_changes s key 0 (fun _ => True)).parts⟩, nofun, fun j hj => putBus_other s 0 hj⟩
  | false =>
    rw [if_neg (by decide)]
    by_cases few : n + 1 < 3
    · obtain ⟨crc, counts, bus, others⟩ := s.busFails_putBus_spec d key (n + 1)
      have all := busFails_putBus_changes s d key (n + 1)
      rw [if_pos few, if_pos few]
      exact ⟨nofun, fun _ => ⟨crc, counts, bus, fun _ => ⟨all.regs, all.parts⟩, fun h => by omega, fun h => by omega, fun h => by omega⟩,
        others⟩
    · rw [if_neg few, if_neg few]
      cases rec with
      | false =>
        obtain ⟨shown, flights, suspects, parts⟩ := s.flightsSuspect_spec d key m
        rw [if_pos (show b2n false = 0 from rfl)]
        exact ⟨nofun, fun _ => ⟨shown.crc, shown.counts, shown.bus, fun h => absurd h few, fun _ => shown.suspect,
          fun _ _ => ⟨flights, suspects, parts⟩, nofun⟩, shown.others⟩
      | true =>
        obtain ⟨shown, lost⟩ := s.each_loseSpare_spec d key m.isLt
        rw [if_neg (show ¬ b2n true = 0 by decide)]
        exact ⟨nofun, fun _ => ⟨shown.crc, shown.counts, shown.bus, fun h => absurd h few, fun _ => shown.suspect, nofun,
          fun _ _ _ => lost⟩, shown.others⟩

end Sys2Proof.Machine.State
end

section
/-! SUPPORT. A field's spill port: the furrow that it serves next (R29, R180), and the tile in a slot of it (R179). -/

namespace Sys2Proof.Machine.State

/-! ### The order of a spill port -/

/-- The places of a field's tiles that a pass has left. -/
def leftInField (s : State) (m : Nat) (f : Flight) : List (Nat × Nat × Nat) :=
  (f.left.map (s.tilePlace f.list)).filter (fun p => p.1 / 68 == m)

/-- The earliest round with tiles left in a field. -/
def roundLeft (s : State) (m : Nat) (f : Flight) : Nat := ((s.leftInField m f).map (·.2.1)).foldl min (2 ^ 16)

/-- The furrows of a field that hold tiles of the earliest round. -/
def furrowsLeft (s : State) (m : Nat) (f : Flight) : List Nat :=
  (List.range 68).filter (fun j => (s.leftInField m f).any (fun p => p.1 == 68 * m + j && p.2.1 == s.roundLeft m f))

theorem portNext_eq (s : State) (m : Nat) :
    s.portNext m = match s.corr.flights.find? (fun f => !(s.leftInField m f).isEmpty) with
      | none => none
      | some f => (((s.furrowsLeft m f).find? (fun j => decide ((mapFind s.corr.port m).getD 67 < j))).or (s.furrowsLeft m f).head?).map
          (fun j => (f, 68 * m + j, s.roundLeft m f)) := rfl

theorem mem_leftInField {s : State} {m : Nat} {f : Flight} {p : Nat × Nat × Nat} :
    p ∈ s.leftInField m f ↔ (∃ i ∈ f.left, s.tilePlace f.list i = p) ∧ p.1 / 68 = m := by
  simp only [leftInField, List.mem_filter, List.mem_map, beq_iff_eq]

theorem mem_furrowsLeft {s : State} {m j : Nat} {f : Flight} :
    j ∈ s.furrowsLeft m f ↔ j < 68 ∧ ∃ p ∈ s.leftInField m f, p.1 = 68 * m + j ∧ p.2.1 = s.roundLeft m f := by
  simp only [furrowsLeft, List.mem_filter, List.mem_range, List.any_eq_true, Bool.and_eq_true, beq_iff_eq]

theorem foldl_min_le (l : List Nat) (a : Nat) : l.foldl min a ≤ a ∧ ∀ b ∈ l, l.foldl min a ≤ b := by
  induction l generalizing a with
  | nil => exact ⟨Nat.le_refl a, nofun⟩
  | cons x l ih =>
    obtain ⟨h1, h2⟩ := ih (min a x)
    refine ⟨h1.trans (Nat.min_le_left a x), fun b hb => ?_⟩
    rcases List.mem_cons.1 hb with rfl | hb
    · exact h1.trans (Nat.min_le_right a b)
    · exact h2 b hb

theorem roundLeft_le {s : State} {m : Nat} {f : Flight} {p : Nat × Nat × Nat} (h : p ∈ s.leftInField m f) : s.roundLeft m f ≤ p.2.1 :=
  (foldl_min_le _ _).2 _ (List.mem_map.2 ⟨p, h, rfl⟩)

theorem furrowsLeft_sorted (s : State) (m : Nat) (f : Flight) : (s.furrowsLeft m f).Pairwise (· < ·) := List.pairwise_lt_range.filter _

/-- In a rising list the first element with a property is the least. -/
theorem find_le_of_sorted {l : List Nat} (h : l.Pairwise (· < ·)) {p : Nat → Bool} {a b : Nat} (ha : l.find? p = some a) (hb : b ∈ l)
    (hp : p b = true) : a ≤ b := by
  obtain ⟨_, as, bs, rfl, before⟩ := List.find?_eq_some_iff_append.1 ha
  rcases List.mem_append.1 hb with hb | hb
  · exact absurd hp (by simpa using before b hb)
  · have after := (List.pairwise_append.1 h).2.1
    rcases List.mem_cons.1 hb with rfl | hb
    · exact Nat.le_refl b
    · exact Nat.le_of_lt (List.rel_of_pairwise_cons after hb)

/-- Round robin: the next furrow after the one served last, or else the first of all. -/
theorem roundRobin_spec {l : List Nat} (h : l.Pairwise (· < ·)) {last j : Nat}
    (hj : (l.find? (fun j => decide (last < j))).or l.head? = some j) :
    j ∈ l ∧ ∀ k ∈ l, if last < j then last < k → j ≤ k else k ≤ last ∧ j ≤ k := by
  cases hfind : l.find? (fun j => decide (last < j)) with
  | some a =>
    rw [hfind] at hj; cases hj
    have later : last < j := by simpa using List.find?_some hfind
    refine ⟨List.mem_of_find?_eq_some hfind, fun k hk => ?_⟩
    rw [if_pos later]
    exact fun hlt => find_le_of_sorted h hfind hk (by simpa using hlt)
  | none =>
    rw [hfind, Option.none_or] at hj
    have early : ∀ k ∈ l, k ≤ last := by simpa using hfind
    have mem := List.mem_of_mem_head? hj
    refine ⟨mem, fun k hk => ?_⟩
    rw [if_neg (by have := early j mem; omega)]
    exact ⟨early k hk, head_le_of_sorted h hj hk⟩

/-- The furrow that a port serves next: of a pass in flight, in the earliest round that the field has left, in round robin. -/
theorem portNext_spec {s : State} {m fur round : Nat} {f : Flight} (h : s.portNext m = some (f, fur, round)) :
    let last := (mapFind s.corr.port m).getD 67
    f ∈ s.corr.flights ∧ fur / 68 = m ∧ (∃ i ∈ f.left, (s.tilePlace f.list i).1 = fur ∧ (s.tilePlace f.list i).2.1 = round)
    ∧ (∀ i ∈ f.left, let p := s.tilePlace f.list i
        p.1 / 68 = m → round ≤ p.2.1
          ∧ (p.2.1 = round → if last < fur % 68 then last < p.1 % 68 → fur ≤ p.1 else p.1 % 68 ≤ last ∧ fur ≤ p.1)) := by
  rw [portNext_eq] at h
  cases hfind : s.corr.flights.find? (fun f => !(s.leftInField m f).isEmpty) with
  | none => rw [hfind] at h; cases h
  | some g =>
    rw [hfind] at h
    obtain ⟨j, hj, e⟩ := Option.map_eq_some_iff.1 h
    cases e
    obtain ⟨mem, order⟩ := roundRobin_spec (s.furrowsLeft_sorted m f) hj
    obtain ⟨hj68, p, hp, hfur, hround⟩ := mem_furrowsLeft.1 mem
    obtain ⟨⟨i, hi, rfl⟩, _⟩ := mem_leftInField.1 hp
    refine ⟨List.mem_of_find?_eq_some hfind, by omega, ⟨i, hi, hfur, hround⟩, fun k hk => ?_⟩
    dsimp only
    generalize hk' : s.tilePlace f.list k = q
    intro hq
    have left : q ∈ s.leftInField m f := mem_leftInField.2 ⟨⟨k, hk, hk'⟩, hq⟩
    refine ⟨roundLeft_le left, fun hr => ?_⟩
    have rest := order (q.1 % 68) (mem_furrowsLeft.2 ⟨Nat.mod_lt _ (by decide), q, left, by omega, hr⟩)
    rw [show (68 * m + j) % 68 = j by omega]
    split
    · rename_i hl
      rw [if_pos hl] at rest
      intro later; have := rest later; omega
    · rename_i hl
      rw [if_neg hl] at rest
      omega

/-! ### The tile in a slot -/

theorem getD_findIdx {l : List Nat} {a : Nat} (h : l.findIdx (fun x => x == a) < l.length) : l.getD (l.findIdx (fun x => x == a)) 0 = a := by
  rw [List.getD_eq_getElem _ _ h]
  simpa using List.findIdx_getElem (w := h)

/-- The tile found at a furrow, round and slot has its place there. -/
theorem tilePlace_tileAt {s : State} {l : List Nat} {fur round slot i : Nat} (h : s.tileAt l fur round slot = some i) :
    s.tilePlace l i = (fur, round, slot) := by
  unfold tileAt at h
  dsimp only at h
  split at h
  · rename_i hc
    obtain ⟨hp, hs, -⟩ := hc
    cases h
    have found := getD_findIdx hp
    generalize l.findIdx (fun x => x == fur) = p at hp found
    unfold tilePlace
    dsimp only
    generalize l.length = na at hp
    generalize s.tileSlots = slots at hs
    have low : slot * na + p < na * slots := by
      have : (slot + 1) * na ≤ slots * na := Nat.mul_le_mul_right na hs
      rw [Nat.mul_comm na slots]; rw [Nat.succ_mul] at this; omega
    have rest : (round * (na * slots) + slot * na + p) % (na * slots) = slot * na + p := by
      rw [Nat.add_assoc, Nat.add_comm, Nat.add_mul_mod_self_right, Nat.mod_eq_of_lt low]
    have whole : (round * (na * slots) + slot * na + p) / (na * slots) = round := by
      rw [Nat.add_assoc, Nat.add_comm, Nat.add_mul_div_right _ _ (by omega), Nat.div_eq_of_lt low, Nat.zero_add]
    have place : (slot * na + p) % na = p := by rw [Nat.add_comm, Nat.add_mul_mod_self_right, Nat.mod_eq_of_lt hp]
    have level : (slot * na + p) / na = slot := by
      rw [Nat.add_comm, Nat.add_mul_div_right _ _ (by omega), Nat.div_eq_of_lt hp, Nat.zero_add]
    rw [rest, whole, place, level, found]
  · cases h

theorem tilePlace_of_width {s t : State} (h : t.width8 = s.width8) (l : List Nat) (n : Nat) : t.tilePlace l n = s.tilePlace l n := by
  unfold tilePlace tileSlots; rw [h]

/-! ### A grant of a spill port -/

theorem bankSpill_drains {s : State} {m slot fur round i : Nat} {f : Flight} (r : SpillReport) (hn : s.portNext m = some (f, fur, round))
    (ht : s.tileAt f.list fur round slot = some i) (hl : i ∈ f.left) :
    s.bankSpill m slot r = ({ s with corr := { s.corr with port := mapPut s.corr.port m (fur % 68) } } : State).drainTile f i r := by
  have found : (s.tileAt f.list fur round slot).filter f.left.contains = some i := by
    rw [ht, Option.filter_some, if_pos (by simpa using hl)]
  unfold bankSpill; rw [hn]; dsimp only; rw [found]

theorem bankSpill_nothing {s : State} {m slot : Nat} (r : SpillReport)
    (h : ∀ (f : Flight) (fur round i : Nat), s.portNext m = some (f, fur, round) → s.tileAt f.list fur round slot = some i → i ∉ f.left) :
    s.bankSpill m slot r = s := by
  unfold bankSpill
  cases hn : s.portNext m with
  | none => rfl
  | some e =>
    obtain ⟨f, fur, round⟩ := e
    have none_left : (s.tileAt f.list fur round slot).filter f.left.contains = none := by
      cases ht : s.tileAt f.list fur round slot with
      | none => rfl
      | some i => rw [Option.filter_some, if_neg (by simpa using h f fur round i hn ht)]
    dsimp only; rw [none_left]

end Sys2Proof.Machine.State
end

section
/-! SUPPORT. A bank that drains (R176, R186): a clean one goes to the adder, one that fails its witness is held for a recompute (R189) or goes
on marked UNVERIFIED (R192). -/

namespace Sys2Proof.Machine.State

/-! ### The steps of a drain -/

/-- A pass with one tile fewer left. -/
def withoutTile (f : Flight) (n : Nat) : Flight := { f with left := f.left.filter (fun x => x != n) }

/-- A spill joins those on their way to the adder. -/
def addSpilled (s : State) (t : TileSum) : State := { s with corr := { s.corr with spills := s.corr.spills ++ [t] } }

/-- The end of a drain: the array may have come to rest, and passes may end. -/
def drainEnd (s : State) : State :=
  (if s.corr.flights.all (fun f => f.left.isEmpty) then s.setFlag Reg.CORR_STATUS Fld.CORR_STATUS_RUNNING false else s).endPasses

/-- The bank of a tile drains at its place. -/
def drainAt (s : State) (f : Flight) (n : Nat) (r : SpillReport) (fur round slot : Nat) : State :=
  let words := s.spilledTile f n r
  let bad := s.witnessFails f n words r
  let loose := f.loose.contains fur || f.looseRounds.contains (fur, round)
  let t : TileSum := { chan := f.chan, pass := f.pass, tile := n, furrow := fur, words := words, unverified := loose }
  let u := (s.setFlight (withoutTile f n)).spillErrors fur ((s.setFlight (withoutTile f n)).slotBank slot) f.chan f.pass bad r
  let known := u.corr.suspects.any (fun x => x.furrow == fur && x.chan == f.chan && x.pass == f.pass)
  let suspect := bad || r.parity || r.bufUe || r.pathUe || known || f.bad.contains (fur / 68)
  (if suspect && !loose then u.holdSpill (withoutTile f n) t round else u.addSpilled t).drainEnd

theorem drainTile_eq {s : State} {f : Flight} {n fur round slot : Nat} (r : SpillReport) (h : s.tilePlace f.list n = (fur, round, slot)) :
    s.drainTile f n r = s.drainAt f n r fur round slot := by
  unfold drainTile drainAt
  rw [h]
  generalize s.spilledTile f n r = words
  generalize s.witnessFails f n words r = bad
  rfl

/-- The spill of a tile that is not loose. -/
def spillOf (s : State) (f : Flight) (i fur : Nat) (r : SpillReport) : TileSum :=
  { chan := f.chan, pass := f.pass, tile := i, furrow := fur, words := s.spilledTile f i r }

theorem spillOf_words (s : State) (f : Flight) (i fur : Nat) (r : SpillReport) : (s.spillOf f i fur r).words = s.spilledTile f i r := by
  simp only [spillOf]

/-- A bank that fails its witness: counted and raised, and its furrow is to be retired. -/
def witnessFailed (s : State) (f : Flight) (fur slot : Nat) : State :=
  (s.showHit true 0 Ev.CORR_WITNESS (corrDetail fur 0 (s.slotBank slot) f.chan f.pass)).retire fur 1

section
variable {s : State} {f : Flight} {i fur round slot : Nat} {r : SpillReport}

/-- A clean bank's spill goes to the adder. -/
theorem drainAt_clean (quiet : QuietReport r) (h1 : fur ∉ f.loose) (h2 : (fur, round) ∉ f.looseRounds)
    (h3 : fur / 68 ∉ f.bad) (h4 : ∀ x ∈ s.corr.suspects, x.furrow = fur → x.chan = f.chan → x.pass ≠ f.pass)
    (good : s.witnessFails f i (s.spilledTile f i r) r = false) :
    s.drainAt f i r fur round slot = ((s.setFlight (withoutTile f i)).addSpilled (s.spillOf f i fur r)).drainEnd := by
  have errors : ∀ (u : State) (bank : Nat), u.spillErrors fur bank f.chan f.pass false r = u := by
    intro u bank
    unfold spillErrors
    rw [spillShows_quiet _ _ _ _ _ _ quiet, quiet.errors]
    exact furErrors_zero u fur
  have known : s.corr.suspects.any (fun x => x.furrow == fur && x.chan == f.chan && x.pass == f.pass) = false := by
    simpa using h4
  have known' : (s.setFlight (withoutTile f i)).corr.suspects.any (fun x => x.furrow == fur && x.chan == f.chan && x.pass == f.pass) = false :=
    known
  unfold drainAt spillOf
  dsimp only
  rw [good, errors, known', quiet.parity, quiet.bufUe, quiet.pathUe]
  simp [h1, h2, h3]

/-- A bank that fails its witness is held. -/
theorem drainAt_failing (quiet : QuietReport r) (h1 : fur ∉ f.loose)
    (h2 : (fur, round) ∉ f.looseRounds) (bad : s.witnessFails f i (s.spilledTile f i r) r = true) :
    s.drainAt f i r fur round slot
      = (((s.setFlight (withoutTile f i)).witnessFailed f fur slot).holdSpill (withoutTile f i) (s.spillOf f i fur r) round).drainEnd := by
  have errors : ∀ u : State, u.spillErrors fur (u.slotBank slot) f.chan f.pass true r = u.witnessFailed f fur slot := by
    intro u
    unfold spillErrors witnessFailed
    rw [spillShows_quiet _ _ _ _ _ _ quiet, quiet.errors, quiet.parity, furErrors_zero]; rfl
  unfold drainAt spillOf
  dsimp only
  rw [bad, errors]
  simp [h1, h2]

end

/-! ### A pass has lost a tile -/

/-- No flight of a pass has a tile left. -/
def TileGone (s : State) (ch q i : Nat) : Prop := ∀ x ∈ s.corr.flights, x.chan = ch → x.pass = q → i ∉ x.left

theorem tileGone_setFlight_withoutTile (s : State) (f : Flight) (i : Nat) : TileGone (s.setFlight (withoutTile f i)) f.chan f.pass i := by
  intro x hx hc hp
  obtain ⟨y, _, rfl⟩ := List.mem_map.1 hx
  split at hc
  · rename_i h
    rw [if_pos h]; simp [withoutTile]
  · rename_i h
    rw [if_neg h] at hp
    exact absurd ⟨hc, hp⟩ h

theorem TileGone.of_flights {s t : State} {ch q i : Nat} (h : t.corr.flights = s.corr.flights) (hs : TileGone s ch q i) : TileGone t ch q i := by
  intro x hx
  rw [h] at hx
  exact hs x hx

theorem TileGone.setFlight {s : State} {ch q i : Nat} (hs : TileGone s ch q i) {g : Flight} (hg : i ∉ g.left) :
    TileGone (s.setFlight g) ch q i := by
  intro x hx hc hp
  obtain ⟨y, hy, rfl⟩ := List.mem_map.1 hx
  split at hc
  · rename_i h; rwa [if_pos h]
  · rename_i h
    rw [if_neg h] at hp ⊢
    exact hs y hy hc hp

/-- The registers that the end of a drain may change. -/
def DrainRegs (a : Nat) : Prop := a = Reg.CORR_STATUS ∨ ArrayAside a

/-- The end of a drain leaves suspects, spills and ports as they were, and no pass gets a tile back. -/
theorem drainEnd_spec (s : State) :
    Changes spillParts DrainRegs s s.drainEnd ∧ s.drainEnd.corr.suspects = s.corr.suspects ∧ s.drainEnd.corr.spills = s.corr.spills
    ∧ s.drainEnd.corr.port = s.corr.port ∧ ∀ ch q i, TileGone s ch q i → TileGone s.drainEnd ch q i := by
  unfold drainEnd
  generalize hu : (if s.corr.flights.all (fun f => f.left.isEmpty) then s.setFlag Reg.CORR_STATUS Fld.CORR_STATUS_RUNNING false else s) = u
  have rest : Changes [.regs] (· = Reg.CORR_STATUS) s u := by
    rw [← hu]; split
    · exact changes_setFlag s _ _ _
    · exact .refl _ _ s
  have corr : u.corr = s.corr := rest.parts .corr (by decide)
  have ends := endPasses_ends u
  refine ⟨(rest.mono (by decide) fun _ h => .inl h).trans (ends.changes.mono (by decide) fun _ h => .inr h), ?_, ?_, ?_,
    fun ch q i gone x hx hc hp => ?_⟩
  · rw [ends.suspects, corr]
  · rw [ends.spills, corr]
  · rw [ends.port, corr]
  · obtain ⟨y, hy, c, p, l⟩ := ends.flights x hx
    rw [← l]
    exact gone y (by rwa [corr] at hy) (c.trans hc) (p.trans hp)

theorem furReg_not_drainRegs {f : Nat} (hf : f < 272) : ¬ DrainRegs (furReg f) := by
  rintro (h | h)
  · exact furReg_ne_low f (by decide) h.symm
  · exact furReg_not_aside hf h

theorem count_not_drainRegs {k : Nat} (hk : k < 12) : ¬ DrainRegs (Reg.CORR_COUNT k) := by
  simp only [DrainRegs, ArrayAside, EventRegs, Reg.CORR_STATUS, Reg.CORR_COUNT, Reg.EVT_SRC_CNT, Reg.EVT_SRC_CFG, Reg.EVT_STATUS,
    Ev.CORR_RETIRED, Ev.CORR_SPARES_OUT, Ev.TURN_LAG, Ev.TWIN_YIELD, Ev.BALRAN_TX_BACKLOG]
  omega

theorem witnessCount_not_drainRegs : ¬ DrainRegs (Reg.EVT_SRC_CNT Ev.CORR_WITNESS) :=
  fun h => eventCount_not_furrowRegs (by decide) (by decide) 0 (h.elim (fun k => .inr (.inr (.inl k))) (aside_furrowRegs 0))

/-! ### A suspect spill is held, or let go -/

/-- A suspect spill held anew for a recompute. -/
def holdNew (s : State) (f : Flight) (t : TileSum) (round : Nat) : State :=
  let mine (x : TileSum) : Bool := x.furrow == t.furrow && x.chan == t.chan && x.pass == t.pass
  let place (x : TileSum) : Nat := (s.tilePlace f.list x.tile).2.1
  let rs := (round :: (s.corr.spills.filter mine).map place).eraseDups
  let fits := decide (s.storeUse (t.furrow / 68) + rs.length ≤ 8)
  let take (x : TileSum) : Bool := mine x && (fits || place x == round)
  { s with corr := { s.corr with
    suspects := s.corr.suspects ++
      [⟨t.furrow, t.chan, t.pass, (s.corr.spills.filter mine).filter take ++ [t], none, 0, if fits then rs else [round]⟩]
    spills := s.corr.spills.filter (fun x => !take x) } }

theorem holdSpill_cases (s : State) (f : Flight) (t : TileSum) (round : Nat) :
    s.holdSpill f t round = match s.corr.suspects.findIdx? (fun x => x.furrow == t.furrow && x.chan == t.chan && x.pass == t.pass) with
      | some i =>
        let known := s.corr.suspects[i]?.any (fun x => x.rounds.contains round)
        if !known && decide (8 ≤ s.storeUse (t.furrow / 68)) then s.spillLoose f t round
        else
          { s with corr := { s.corr with suspects := s.corr.suspects.modify i (fun x =>
              { x with tiles := x.tiles ++ [t], rounds := if known then x.rounds else x.rounds ++ [round] }) } }
      | none => if 8 ≤ s.storeUse (t.furrow / 68) then s.spillLoose f t round else s.holdNew f t round := rfl

/-- A furrow whose pass is not suspect yet: with the store full its spill is let go, otherwise it is held anew. -/
theorem holdSpill_new {s : State} {t : TileSum} (f : Flight) (round : Nat)
    (h : ∀ x ∈ s.corr.suspects, x.furrow = t.furrow → x.chan = t.chan → x.pass ≠ t.pass) :
    s.holdSpill f t round = if 8 ≤ s.storeUse (t.furrow / 68) then s.spillLoose f t round else s.holdNew f t round := by
  have unknown : s.corr.suspects.findIdx? (fun x => x.furrow == t.furrow && x.chan == t.chan && x.pass == t.pass) = none := by
    rw [List.findIdx?_eq_none_iff]; simpa using h
  rw [holdSpill_cases, unknown]

theorem storeUse_of_suspects {s t : State} (h : t.corr.suspects = s.corr.suspects) (m : Nat) : t.storeUse m = s.storeUse m := by
  unfold storeUse; rw [h]

/-- A flight whose furrow spill of a round is let go. -/
def looseFlight (f : Flight) (fur round : Nat) : Flight := { f with looseRounds := (fur, round) :: f.looseRounds, unverified := true }

/-- The state in which a suspect spill has been let go, before it is queued. -/
def looseCounted (s : State) (f : Flight) (fur round : Nat) : State := (s.setFlight (looseFlight f fur round)).count (Reg.CORR_COUNT 9)

theorem spillLoose_eq (s : State) (f : Flight) (t : TileSum) (round : Nat) :
    s.spillLoose f t round = { s.looseCounted f t.furrow round with corr := { (s.looseCounted f t.furrow round).corr with
      spills := (s.looseCounted f t.furrow round).corr.spills.map (fun x =>
        if (x.furrow == t.furrow && x.chan == t.chan && x.pass == t.pass
          && ((s.looseCounted f t.furrow round).tilePlace f.list x.tile).2.1 == round) = true then { x with unverified := true } else x)
        ++ [{ t with unverified := true }] } } := rfl

theorem looseCounted_changes (s : State) (f : Flight) (fur round : Nat) :
    Changes spillParts (· = Reg.CORR_COUNT 9) s (s.looseCounted f fur round) :=
  (changes_corr s _ _).trans ((changes_count _ _ 1).mono (by decide) fun _ h => h)

/-- A spill let go is among those on their way to the adder, marked UNVERIFIED and counted. -/
theorem spillLoose_spec (s : State) (f : Flight) (t : TileSum) (round : Nat) :
    Changes spillParts (· = Reg.CORR_COUNT 9) s (s.spillLoose f t round)
    ∧ (s.spillLoose f t round).full (Reg.CORR_COUNT 9) = min (s.full (Reg.CORR_COUNT 9) + 1) (2 ^ 32 - 1)
    ∧ (s.spillLoose f t round).corr.suspects = s.corr.suspects ∧ { t with unverified := true } ∈ (s.spillLoose f t round).corr.spills
    ∧ (s.spillLoose f t round).corr.port = s.corr.port
    ∧ ∀ ch q i, i ∉ f.left → TileGone s ch q i → TileGone (s.spillLoose f t round) ch q i := by
  rw [spillLoose_eq]
  refine ⟨(looseCounted_changes s f t.furrow round).trans (changes_corr _ _ _), ?_, rfl, ?_, rfl, fun ch q i hl gone => ?_⟩
  · exact full_count_same (s.setFlight (looseFlight f t.furrow round)) (Reg.CORR_COUNT 9) 1
  · exact List.mem_append_right _ (List.mem_singleton_self _)
  · have marked : TileGone (s.setFlight (looseFlight f t.furrow round)) ch q i := gone.setFlight hl
    exact marked.of_flights rfl

theorem holdNew_changes (s : State) (f : Flight) (t : TileSum) (round : Nat) (P : Nat → Prop) :
    Changes spillParts P s (s.holdNew f t round) := changes_corr s _ P

/-- Where the furrow's rounds fit in the store, all its spills of the pass that have not been added are held. -/
theorem holdNew_fits {s : State} (f : Flight) (t : TileSum) (round : Nat)
    (hfit : s.storeUse (t.furrow / 68) + (round :: (s.corr.spills.filter (fun x => x.furrow == t.furrow && x.chan == t.chan && x.pass == t.pass)).map
      (fun x => (s.tilePlace f.list x.tile).2.1)).eraseDups.length ≤ 8) :
    (s.holdNew f t round).corr.suspects = s.corr.suspects ++ [⟨t.furrow, t.chan, t.pass,
        s.corr.spills.filter (fun x => x.furrow == t.furrow && x.chan == t.chan && x.pass == t.pass) ++ [t], none, 0,
        (round :: (s.corr.spills.filter (fun x => x.furrow == t.furrow && x.chan == t.chan && x.pass == t.pass)).map
          (fun x => (s.tilePlace f.list x.tile).2.1)).eraseDups⟩]
    ∧ (s.holdNew f t round).corr.spills = s.corr.spills.filter (fun x => !(x.furrow == t.furrow && x.chan == t.chan && x.pass == t.pass)) := by
  unfold holdNew
  dsimp only
  rw [decide_eq_true hfit]
  simp only [Bool.true_or, Bool.and_true, List.filter_filter, Bool.and_self, if_true, and_self]

/-- Holding a suspect spill, for a furrow whose pass is not suspect yet. -/
theorem holdSpill_new_frame {s : State} {t : TileSum} (f : Flight) (round : Nat)
    (h : ∀ x ∈ s.corr.suspects, x.furrow = t.furrow → x.chan = t.chan → x.pass ≠ t.pass) :
    Changes spillParts (· = Reg.CORR_COUNT 9) s (s.holdSpill f t round) ∧ (s.holdSpill f t round).corr.port = s.corr.port
    ∧ ∀ ch q i, i ∉ f.left → TileGone s ch q i → TileGone (s.holdSpill f t round) ch q i := by
  rw [holdSpill_new f round h]
  split
  · obtain ⟨changes, -, -, -, port, gone⟩ := spillLoose_spec s f t round
    exact ⟨changes, port, gone⟩
  · exact ⟨holdNew_changes s f t round _, rfl, fun ch q i _ hs => hs.of_flights rfl⟩

end Sys2Proof.Machine.State
end

section
/-! SUPPORT. BANK_SPILL: what a grant of a spill port leaves, for a clean bank and for one that fails its witness (R29, R186, R189, R192). -/

namespace Sys2Proof.Machine.State

/-- A port takes a furrow's turn. -/
def portTurned (s : State) (m fur : Nat) : State := { s with corr := { s.corr with port := mapPut s.corr.port m (fur % 68) } }

/-- A port has served a furrow, and the bank of a tile has left its pass. -/
def portServed (s : State) (m fur : Nat) (f : Flight) (i : Nat) : State := (s.portTurned m fur).setFlight (withoutTile f i)

/-! ### What a change of the array's own state leaves alone -/

theorem spilledTile_portTurned (s : State) (m fur : Nat) (f : Flight) (i : Nat) (r : SpillReport) :
    (s.portTurned m fur).spilledTile f i r = s.spilledTile f i r := rfl

theorem witnessFails_portTurned (s : State) (m fur : Nat) (f : Flight) (i : Nat) (w : List (Int × Int)) (r : SpillReport) :
    (s.portTurned m fur).witnessFails f i w r = s.witnessFails f i w r := rfl

theorem tilePlace_portTurned (s : State) (m fur : Nat) (l : List Nat) (i : Nat) : (s.portTurned m fur).tilePlace l i = s.tilePlace l i :=
  tilePlace_of_width rfl l i

theorem spillOf_portTurned (s : State) (m fur : Nat) (f : Flight) (i : Nat) (r : SpillReport) :
    (s.portTurned m fur).spillOf f i fur r = s.spillOf f i fur r := by
  rw [spillOf, spilledTile_portTurned, spillOf]

theorem portServed_changes (s : State) (m fur : Nat) (f : Flight) (i : Nat) (P : Nat → Prop) :
    Changes spillParts P s (s.portServed m fur f i) := changes_corr s _ P

theorem portServed_port (s : State) (m fur : Nat) (f : Flight) (i : Nat) :
    mapFind (s.portServed m fur f i).corr.port m = some (fur % 68) := mapFind_mapPut_same s.corr.port m (fur % 68)

theorem portServed_gone (s : State) (m fur : Nat) (f : Flight) (i : Nat) : TileGone (s.portServed m fur f i) f.chan f.pass i :=
  tileGone_setFlight_withoutTile _ f i

theorem withoutTile_left (f : Flight) (i : Nat) : i ∉ (withoutTile f i).left := by simp [withoutTile]

section
variable {s : State} {m fur round slot i : Nat} {f : Flight} {r : SpillReport}
  (hn : s.portNext m = some (f, fur, round)) (ht : s.tileAt f.list fur round slot = some i) (hl : i ∈ f.left)
  (quiet : QuietReport r) (h1 : fur ∉ f.loose) (h2 : (fur, round) ∉ f.looseRounds)
include hn ht hl quiet h1 h2

/-- A grant of a bank that is clean and not known to be suspect. -/
theorem bankSpill_clean (h3 : m ∉ f.bad) (h4 : ∀ x ∈ s.corr.suspects, x.furrow = fur → x.chan = f.chan → x.pass ≠ f.pass)
    (good : s.witnessFails f i (s.spilledTile f i r) r = false) :
    s.bankSpill m slot r = ((s.portServed m fur f i).addSpilled (s.spillOf f i fur r)).drainEnd := by
  obtain ⟨-, field, -, -⟩ := portNext_spec hn
  have place := (tilePlace_portTurned s m fur f.list i).trans (tilePlace_tileAt ht)
  have drained := drainAt_clean (s := s.portTurned m fur) (slot := slot) quiet h1 h2 (field ▸ h3) h4
    (by rw [spilledTile_portTurned, witnessFails_portTurned, good])
  rw [spillOf_portTurned] at drained
  exact (bankSpill_drains r hn ht hl).trans ((drainTile_eq r place).trans drained)

/-- A grant of a bank that fails its witness. -/
theorem bankSpill_failing (bad : s.witnessFails f i (s.spilledTile f i r) r = true) :
    s.bankSpill m slot r
      = (((s.portServed m fur f i).witnessFailed f fur slot).holdSpill (withoutTile f i) (s.spillOf f i fur r) round).drainEnd := by
  have place := (tilePlace_portTurned s m fur f.list i).trans (tilePlace_tileAt ht)
  have drained := drainAt_failing (s := s.portTurned m fur) (slot := slot) quiet h1 h2
    (by rw [spilledTile_portTurned, witnessFails_portTurned, bad])
  rw [spillOf_portTurned] at drained
  exact (bankSpill_drains r hn ht hl).trans ((drainTile_eq r place).trans drained)

end

/-! ### A clean bank -/

/-- After a clean bank's grant: its spill is on its way to the adder, and no counter and no furrow's state changes. -/
theorem addSpilled_drainEnd_spec (s : State) (m fur : Nat) (f : Flight) (i : Nat) (t0 : TileSum) :
    let t := ((s.portServed m fur f i).addSpilled t0).drainEnd
    TileGone t f.chan f.pass i ∧ mapFind t.corr.port m = some (fur % 68)
    ∧ t.corr.spills = s.corr.spills ++ [t0] ∧ t.corr.suspects = s.corr.suspects ∧ Changes spillParts DrainRegs s t := by
  obtain ⟨changes, suspects, spills, port, gone⟩ := drainEnd_spec ((s.portServed m fur f i).addSpilled t0)
  refine ⟨gone _ _ _ ((s.portServed_gone m fur f i).of_flights rfl), ?_, ?_, ?_, ?_⟩
  · rw [port]; exact s.portServed_port m fur f i
  · rw [spills]; rfl
  · rw [suspects]; rfl
  · exact ((s.portServed_changes m fur f i _).trans (changes_corr _ _ _)).trans changes

/-! ### A bank that fails its witness -/

theorem witnessFailed_step (s : State) (f : Flight) (fur slot : Nat) : ArrayStep (fun _ => True) s (s.witnessFailed f fur slot) :=
  (ArrayStep.of_changes ((showHit_changes s true _ (by decide) (by decide)).mono (fun _ h => h) fun _ _ => trivial)
    (.of_only (showHit_changes s true _ (by decide) (by decide)).parts (by decide)) (by decide)).trans (retire_step _ fur 1)

/-- The registers in which a failed witness on an active furrow shows. -/
def WitnessRegs (fur a : Nat) : Prop := a = furReg fur ∨ a = Reg.CORR_COUNT 0 ∨ EventRegs Ev.CORR_WITNESS a

/-- An active furrow whose bank fails its witness is to be retired with cause 1, counted and raised. -/
theorem witnessFailed_active_spec (s : State) (f : Flight) {fur : Nat} (slot : Nat) (hf : fur < 272) (ha : s.furState fur = fActive) :
    (s.witnessFailed f fur slot).furState fur = fRetiring ∧ (s.witnessFailed f fur slot).get (furReg fur) Fld.CORR_FURROW_CAUSE = 1
    ∧ (s.witnessFailed f fur slot).full (Reg.CORR_COUNT 0) = min (s.full (Reg.CORR_COUNT 0) + 1) (2 ^ 32 - 1)
    ∧ Counted s (s.witnessFailed f fur slot) Ev.CORR_WITNESS ∧ KeepsRegs s (s.witnessFailed f fur slot) (WitnessRegs fur) := by
  unfold witnessFailed showHit
  rw [if_pos rfl]
  generalize corrDetail fur 0 (s.slotBank slot) f.chan f.pass = d
  have counted := changes_count s (Reg.CORR_COUNT 0) 1
  have raised := changes_raise (s.count (Reg.CORR_COUNT 0)) Ev.CORR_WITNESS d
  have count0 : ((s.count (Reg.CORR_COUNT 0)).raise Ev.CORR_WITNESS d).full (Reg.CORR_COUNT 0) = min (s.full (Reg.CORR_COUNT 0) + 1) (2 ^ 32 - 1) := by
    rw [raised.full_eq (by
      simp only [EventRegs, Reg.CORR_COUNT, Reg.EVT_SRC_CNT, Reg.EVT_SRC_CFG, Reg.EVT_STATUS, Ev.CORR_WITNESS]; omega), full_count_same]
  have event : Counted s ((s.count (Reg.CORR_COUNT 0)).raise Ev.CORR_WITNESS d) Ev.CORR_WITNESS :=
    counted_raise d (by decide +kernel) rfl (counted.full_eq (by decide))
  have regs : KeepsRegs s ((s.count (Reg.CORR_COUNT 0)).raise Ev.CORR_WITNESS d) (WitnessRegs fur) :=
    KeepsRegs.trans (KeepsRegs.mono counted.regs fun _ h => .inr (.inl h)) (KeepsRegs.mono raised.regs fun _ h => .inr (.inr h))
  have active : ((s.count (Reg.CORR_COUNT 0)).raise Ev.CORR_WITNESS d).furState fur = fActive := by
    refine ((raised.get_eq ?_ _).trans (counted.get_eq (furReg_ne_low fur (by decide)).symm _)).trans ha
    simp only [EventRegs, furReg, Reg.CORR_FURROW, Reg.EVT_SRC_CNT, Reg.EVT_SRC_CFG, Reg.EVT_STATUS, Ev.CORR_WITNESS]; omega
  generalize (s.count (Reg.CORR_COUNT 0)).raise Ev.CORR_WITNESS d = v at count0 event regs active
  have step := retire_active_step v fur 1 active
  refine ⟨retire_active_state v fur 1 active, retire_active_cause v fur (by decide) active, ?_, ?_, ?_⟩
  · rw [step.full_eq (furReg_ne_low fur (by decide)), count0]
  · exact counted_then event (step.full_eq (furReg_ne_low fur (by decide)))
  · exact KeepsRegs.trans regs (KeepsRegs.mono step.regs fun _ h => .inl h)

section
variable {s : State} {m fur round slot i : Nat} {f : Flight} {t0 : TileSum} (hf : t0.furrow = fur) (hc : t0.chan = f.chan)
  (hp : t0.pass = f.pass) (unknown : ∀ x ∈ s.corr.suspects, x.furrow = fur → x.chan = f.chan → x.pass ≠ f.pass)
include hf hc hp unknown

/-- The recompute store knows nothing of the furrow's pass when its first bad bank drains. -/
theorem witnessFailed_unknown : ∀ x ∈ ((s.portServed m fur f i).witnessFailed f fur slot).corr.suspects,
    x.furrow = t0.furrow → x.chan = t0.chan → x.pass ≠ t0.pass := by
  rw [(witnessFailed_step _ f fur slot).passes.suspects, hf, hc, hp]
  exact unknown

/-- After the grant of a bank that fails its witness: its tile has left its pass, and outside a twin pair few parts change. -/
theorem holdSpill_drainEnd_frame (alone : s.twinOn = false) :
    let t := (((s.portServed m fur f i).witnessFailed f fur slot).holdSpill (withoutTile f i) t0 round).drainEnd
    TileGone t f.chan f.pass i ∧ mapFind t.corr.port m = some (fur % 68) ∧ Only arrayParts s t := by
  have failed := witnessFailed_step (s.portServed m fur f i) f fur slot
  obtain ⟨held, held_port, held_gone⟩ := holdSpill_new_frame (withoutTile f i) round (witnessFailed_unknown (slot := slot) hf hc hp unknown)
  obtain ⟨ended, -, -, port, gone⟩ := drainEnd_spec
    (((s.portServed m fur f i).witnessFailed f fur slot).holdSpill (withoutTile f i) t0 round)
  refine ⟨gone _ _ _ (held_gone _ _ _ (withoutTile_left f i) ((s.portServed_gone m fur f i).of_flights failed.passes.flights)), ?_, ?_⟩
  · rw [port, held_port, failed.passes.port]; exact s.portServed_port m fur f i
  · exact ((((s.portServed_changes m fur f i (fun _ => True)).parts.mono (by decide)).trans
      (failed.alone ((twinOn_of_sys rfl).trans alone))).trans (held.parts.mono (by decide))).trans (ended.parts.mono (by decide))

/-- The furrow is to be retired, and the failure is counted and raised. -/
theorem holdSpill_drainEnd_active (hfur : fur < 272) (ha : s.furState fur = fActive) :
    let t := (((s.portServed m fur f i).witnessFailed f fur slot).holdSpill (withoutTile f i) t0 round).drainEnd
    t.furState fur = fRetiring ∧ t.get (furReg fur) Fld.CORR_FURROW_CAUSE = 1
    ∧ t.full (Reg.CORR_COUNT 0) = min (s.full (Reg.CORR_COUNT 0) + 1) (2 ^ 32 - 1) ∧ Counted s t Ev.CORR_WITNESS := by
  obtain ⟨state, cause, count0, event, -⟩ := witnessFailed_active_spec (s.portServed m fur f i) f slot hfur ha
  have held := (holdSpill_new_frame (withoutTile f i) round (witnessFailed_unknown (slot := slot) (i := i) (m := m) hf hc hp unknown)).1
  have ended := (drainEnd_spec (((s.portServed m fur f i).witnessFailed f fur slot).holdSpill (withoutTile f i) t0 round)).1
  have low := furReg_ne_low fur (a := Reg.CORR_COUNT 9) (by decide)
  refine ⟨(ended.get_eq (furReg_not_drainRegs hfur) _).trans ((held.get_eq low.symm _).trans state),
    (ended.get_eq (furReg_not_drainRegs hfur) _).trans ((held.get_eq low.symm _).trans cause), ?_, ?_⟩
  · rw [ended.full_eq (count_not_drainRegs (by decide)), held.full_eq (by decide), count0]; rfl
  · exact counted_then (counted_then event (held.full_eq (by decide))) (ended.full_eq witnessCount_not_drainRegs)

/-- With the store full the spill goes on marked UNVERIFIED, counted. -/
theorem holdSpill_drainEnd_full (hm : fur / 68 = m) (hfur : fur < 272) (ha : s.furState fur = fActive) (full_store : 8 ≤ s.storeUse m) :
    let t := (((s.portServed m fur f i).witnessFailed f fur slot).holdSpill (withoutTile f i) t0 round).drainEnd
    t.corr.suspects = s.corr.suspects ∧ { t0 with unverified := true } ∈ t.corr.spills
    ∧ t.full (Reg.CORR_COUNT 9) = min (s.full (Reg.CORR_COUNT 9) + 1) (2 ^ 32 - 1) := by
  have failed := (witnessFailed_step (s.portServed m fur f i) f fur slot).passes
  have regs := (witnessFailed_active_spec (s.portServed m fur f i) f slot hfur ha).2.2.2.2
  have unknown' := witnessFailed_unknown (slot := slot) (i := i) (m := m) hf hc hp unknown
  have use : 8 ≤ ((s.portServed m fur f i).witnessFailed f fur slot).storeUse (t0.furrow / 68) := by
    rw [storeUse_of_suspects failed.suspects, hf, hm]; exact full_store
  have count9 : ((s.portServed m fur f i).witnessFailed f fur slot).full (Reg.CORR_COUNT 9) = s.full (Reg.CORR_COUNT 9) := by
    refine congrArg BitVec.toNat (regs _ ?_)
    simp only [WitnessRegs, EventRegs, furReg, Reg.CORR_FURROW, Reg.CORR_COUNT, Reg.EVT_SRC_CNT, Reg.EVT_SRC_CFG, Reg.EVT_STATUS,
      Ev.CORR_WITNESS]
    omega
  dsimp only
  rw [holdSpill_new _ round unknown', if_pos use]
  obtain ⟨-, counts, suspects, mem, -, -⟩ := spillLoose_spec ((s.portServed m fur f i).witnessFailed f fur slot) (withoutTile f i) t0 round
  obtain ⟨ended, ended_suspects, ended_spills, -, -⟩ :=
    drainEnd_spec (((s.portServed m fur f i).witnessFailed f fur slot).spillLoose (withoutTile f i) t0 round)
  refine ⟨?_, ?_, ?_⟩
  · rw [ended_suspects, suspects, failed.suspects]; rfl
  · rw [ended_spills]; exact mem
  · rw [ended.full_eq (count_not_drainRegs (by decide)), counts, count9]

/-- Where the furrow's rounds fit in the store, it joins the suspects with its earlier spills of the pass. -/
theorem holdSpill_drainEnd_fits (hm : fur / 68 = m) (hfur : fur < 272) (ha : s.furState fur = fActive) :
    let mine := fun (x : TileSum) => x.furrow == fur && x.chan == f.chan && x.pass == f.pass
    let rs := (round :: (s.corr.spills.filter mine).map (fun x => (s.tilePlace f.list x.tile).2.1)).eraseDups
    let t := (((s.portServed m fur f i).witnessFailed f fur slot).holdSpill (withoutTile f i) t0 round).drainEnd
    s.storeUse m + rs.length ≤ 8 →
      t.corr.suspects = s.corr.suspects ++ [⟨fur, f.chan, f.pass, s.corr.spills.filter mine ++ [t0], none, 0, rs⟩]
      ∧ t.corr.spills = s.corr.spills.filter (fun (x : TileSum) => !mine x) := by
  intro mine rs t fits
  have failed := (witnessFailed_step (s.portServed m fur f i) f fur slot).passes
  have regs := (witnessFailed_active_spec (s.portServed m fur f i) f slot hfur ha).2.2.2.2
  have unknown' := witnessFailed_unknown (slot := slot) (i := i) (m := m) hf hc hp unknown
  have width : ((s.portServed m fur f i).witnessFailed f fur slot).width8 = s.width8 := by
    refine keeps_flag (s := s.portServed m fur f i) regs ?_ _
    simp only [WitnessRegs, EventRegs, furReg, Reg.CORR_FURROW, Reg.CORR_COUNT, Reg.EVT_SRC_CNT, Reg.EVT_SRC_CFG, Reg.EVT_STATUS,
      Ev.CORR_WITNESS, Reg.INGEST_CTL]
    omega
  have place : ∀ x : TileSum, (((s.portServed m fur f i).witnessFailed f fur slot).tilePlace (withoutTile f i).list x.tile).2.1
      = (s.tilePlace f.list x.tile).2.1 := fun x => by rw [tilePlace_of_width width]; rfl
  have spills : ((s.portServed m fur f i).witnessFailed f fur slot).corr.spills = s.corr.spills := failed.spills
  have suspects : ((s.portServed m fur f i).witnessFailed f fur slot).corr.suspects = s.corr.suspects := failed.suspects
  have use : ((s.portServed m fur f i).witnessFailed f fur slot).storeUse (t0.furrow / 68) = s.storeUse m := by
    rw [storeUse_of_suspects failed.suspects, hf, hm]; rfl
  have room : ¬ 8 ≤ ((s.portServed m fur f i).witnessFailed f fur slot).storeUse (t0.furrow / 68) := by
    have some_round : 1 ≤ rs.length := List.length_pos_of_mem (List.mem_eraseDups.2 List.mem_cons_self)
    rw [use]; omega
  obtain ⟨held_suspects, held_spills⟩ := holdNew_fits (s := (s.portServed m fur f i).witnessFailed f fur slot) (withoutTile f i) t0 round
    (by rw [use]; simp only [spills, hf, hc, hp, place]; exact fits)
  obtain ⟨-, ended_suspects, ended_spills, -, -⟩ :=
    drainEnd_spec (((s.portServed m fur f i).witnessFailed f fur slot).holdNew (withoutTile f i) t0 round)
  show (State.drainEnd _).corr.suspects = _ ∧ (State.drainEnd _).corr.spills = _
  rw [holdSpill_new _ round unknown', if_neg room, ended_suspects, ended_spills, held_suspects, held_spills]
  simp only [suspects, spills, hf, hc, hp, place]
  exact ⟨rfl, rfl⟩

end

end Sys2Proof.Machine.State
end

section
/-! O25: spills and recomputes (R29, R31–R33, R186–R194). -/

namespace Sys2Proof.Machine

open State in
/-- The clause of the spill port's grants. -/
theorem State.bankSpill_spec (m : Fin 4) (slot : Fin 8) (bank : BankReport) (buffer path : WordErrors) (s : State) (f : Flight)
    (fur round i : Nat) :
    let r := spillReport bank buffer path
    let mine := fun (x : TileSum) => x.furrow == fur && x.chan == f.chan && x.pass == f.pass
    let place := fun (x : TileSum) => (s.tilePlace f.list x.tile).2.1
    let t0 : TileSum := { chan := f.chan, pass := f.pass, tile := i, furrow := fur, words := s.spilledTile f i r }
    let rs := (round :: (s.corr.spills.filter mine).map place).eraseDups
    s.twinOn = false → s.portNext m = some (f, fur, round) → s.tileAt f.list fur round slot = some i → i ∈ f.left →
    fur ∉ f.loose → (fur, round) ∉ f.looseRounds → m.val ∉ f.bad →
    (∀ x ∈ s.corr.suspects, x.furrow = fur → x.chan = f.chan → x.pass ≠ f.pass) →
    bank.parity = false → buffer = {} → path = {} →
    let t := s.bankSpill m slot r
    TileGone t f.chan f.pass i ∧ mapFind t.corr.port m.val = some (fur % 68)
      ∧ (s.witnessFails f i t0.words r = false →
          t.corr.spills = s.corr.spills ++ [t0] ∧ t.corr.suspects = s.corr.suspects
          ∧ (∀ k < 12, t.reg (Reg.CORR_COUNT k) = s.reg (Reg.CORR_COUNT k)) ∧ (∀ g < 272, t.furState g = s.furState g))
      ∧ (s.witnessFails f i t0.words r = true → s.furState fur = fActive →
          t.furState fur = fRetiring ∧ t.get (Reg.CORR_FURROW m (fur % 68)) Fld.CORR_FURROW_CAUSE = 1
          ∧ t.full (Reg.CORR_COUNT 0) = min (s.full (Reg.CORR_COUNT 0) + 1) (2 ^ 32 - 1) ∧ Counted s t Ev.CORR_WITNESS
          ∧ (s.storeUse m + rs.length ≤ 8 →
              t.corr.suspects = s.corr.suspects ++ [⟨fur, f.chan, f.pass, s.corr.spills.filter mine ++ [t0], none, 0, rs⟩]
              ∧ t.corr.spills = s.corr.spills.filter (fun (x : TileSum) => !mine x))
          ∧ (8 ≤ s.storeUse m → t.corr.suspects = s.corr.suspects ∧ { t0 with unverified := true } ∈ t.corr.spills
              ∧ t.full (Reg.CORR_COUNT 9) = min (s.full (Reg.CORR_COUNT 9) + 1) (2 ^ 32 - 1)))
      ∧ KeepsHbm s t ∧ Only arrayParts s t := by
  intro r mine place t0 rs alone hn ht hl h1 h2 h3 h4 parity hbuf hpath t
  have quiet : QuietReport r := by
    subst hbuf hpath
    exact ⟨parity, rfl, rfl, rfl, rfl⟩
  have spill : s.spillOf f i fur r = t0 := rfl
  obtain ⟨-, field, -, -⟩ := portNext_spec hn
  have low : fur < 272 := by have := m.isLt; omega
  have words : t0.words = s.spilledTile f i r := by rw [← spill, spillOf_words]
  cases hw : s.witnessFails f i t0.words r with
  | false =>
    have ht' : t = ((s.portServed m fur f i).addSpilled t0).drainEnd := by
      rw [words] at hw
      rw [← spill]; exact bankSpill_clean hn ht hl quiet h1 h2 h3 h4 hw
    obtain ⟨gone, port, spills, suspects, changes⟩ := s.addSpilled_drainEnd_spec m fur f i t0
    rw [← ht'] at gone port spills suspects changes
    refine ⟨gone, port, fun _ => ⟨spills, suspects, fun k hk => changes.regs _ (count_not_drainRegs hk),
      fun g hg => changes.get_eq (furReg_not_drainRegs hg) _⟩, nofun, changes.parts .hbm (by decide), changes.parts.mono (by decide)⟩
  | true =>
    have ht' : t = (((s.portServed m fur f i).witnessFailed f fur slot).holdSpill (withoutTile f i) t0 round).drainEnd := by
      rw [words] at hw
      rw [← spill]; exact bankSpill_failing hn ht hl quiet h1 h2 hw
    obtain ⟨gone, port, parts⟩ := holdSpill_drainEnd_frame (m := m) (i := i) (slot := slot) (round := round) (t0 := t0) rfl rfl rfl h4 alone
    rw [← ht'] at gone port parts
    refine ⟨gone, port, nofun, fun _ active => ?_, parts .hbm (by decide), parts⟩
    obtain ⟨state, cause, count0, event⟩ :=
      holdSpill_drainEnd_active (m := m) (i := i) (slot := slot) (round := round) (t0 := t0) rfl rfl rfl h4 low active
    have fits := holdSpill_drainEnd_fits (m := m) (i := i) (slot := slot) (round := round) (t0 := t0) rfl rfl rfl h4 field low active
    have full_store := holdSpill_drainEnd_full (m := m) (i := i) (slot := slot) (round := round) (t0 := t0) rfl rfl rfl h4 field low active
    rw [← ht'] at state cause count0 event full_store
    have reg : furReg fur = Reg.CORR_FURROW m (fur % 68) := by rw [furReg, field]
    rw [reg] at cause
    refine ⟨state, cause, count0, event, fun h => ?_, full_store⟩
    rw [ht']
    exact fits h

open State in
/-- The clause of a recompute's end. -/
theorem State.recomputeEnd_spec (m : Fin 4) (n : Fin 68) (bs : List (Nat × Nat × BankReport)) (es ps : List (Nat × Nat × WordErrors)) {s : State}
    {x : Suspect} {f : Flight} (hx : s.corr.suspects.find? (fun (x : Suspect) => x.spare == some (68 * m.val + n.val)) = some x)
    (hf : s.corr.flights.find? (fun (f : Flight) => f.chan == x.chan && f.pass == x.pass) = some f)
    (hl : ∀ i ∈ f.left, (s.tilePlace f.list i).1 ≠ x.furrow) :
    exec (.recomputeEnd m n bs es ps) s = .next (s.recomputeRun (68 * m.val + n.val) (spillReports bs es ps) x f).settleHolds := by
  show ok (s.recomputeEnd (68 * m.val + n.val) (spillReports bs es ps)).settleHolds = _
  rw [recomputeEnd_eq _ hx hf hl]; rfl

open State in
/-- Settles O25: frames and equations for each step of the array's bookkeeping, then each clause by the branches of its command. -/
theorem spillsAndRecomputes : Obligations.SpillsAndRecomputes := by
  unfold Obligations.SpillsAndRecomputes
  refine ⟨fun s m fur round f h => portNext_spec h, ?_, fun m slot bank buffer path s h => ⟨_, rfl, bankSpill_nothing _ h⟩, fun s => ?_,
    fun s fur h => s.chooseSpare_spec h, ?_, ?_, fun m fur rec col good s => ⟨_, rfl, busTransfer_spec m fur rec col good s⟩⟩
  · intro m slot bank buffer path s f fur round i r mine place t0 rs alone hn ht hl h1 h2 h3 h4 parity hbuf hpath
    exact ⟨_, rfl, bankSpill_spec m slot bank buffer path s f fur round i alone hn ht hl h1 h2 h3 h4 parity hbuf hpath⟩
  · cases hx : s.corr.suspects.find? (fun (x : Suspect) => x.spare.isNone) with
    | none =>
      refine ⟨s.recomputeStart, rfl, ?_⟩
      unfold recomputeStart; rw [hx]
    | some x =>
      refine ⟨fun hsp => ⟨s.recomputeStart, rfl, ?_⟩, fun sp hsp => ⟨s.recomputeStart, rfl, ?_⟩⟩
      · unfold recomputeStart; rw [hx]; dsimp only; rw [hsp]
      · rw [recomputeStart_some hx hsp]; exact s.startOn_spec x sp
  · intro m n bs es ps s x f reports sp fl shown banks fails hx hf hl hd hw
    have hsp : sp < 272 := by have := m.isLt; have := n.isLt; omega
    have spare : x.spare = some sp := by simpa using List.find?_some hx
    have undoomed : Undoomed s x := by
      intro sp' h; rw [spare] at h; cases h; exact hd
    have run := recomputeEnd_spec m n bs es ps hx hf hl
    refine ⟨fun good quiet => ⟨_, run, ?_⟩, fun bad alone => ⟨_, run, ?_⟩⟩
    · rw [recomputeRun_good spare good quiet]
      obtain ⟨suspects, state, warm, count8, spills, length, rdy, parts⟩ := spillsReplaced_settled_spec
        (recomputedTiles x (s.checkBanks x f (s.shownOf f reports))) spare hsp undoomed hw
      refine ⟨suspects, state, warm, count8, fun y hy hb => (spills _).2 (.inr (mem_recomputedTiles hy hb)), fun z hz => (spills z).2 (.inl hz),
        ?_, rdy, parts .hbm (by decide), parts⟩
      rw [length, recomputedTiles, List.length_map]
    · have any := (s.checkBanks_any x f (s.shownOf f reports) fl rfl).2 bad
      obtain ⟨state, cause, errors, count8, hbm⟩ := recomputeRun_bad_spec hsp alone hw any
      have reg : furReg sp = Reg.CORR_FURROW m n := furReg_field n.isLt
      rw [reg] at cause errors
      exact ⟨state, cause, errors, count8, hbm⟩
  · intro m n s x hx hsp hw
    exact ⟨_, recomputeDeadline_next hx, giveUp_settleHolds_spec (fun sp h => (hsp sp h).1) (fun sp h => (hsp sp h).2) hw⟩

end Sys2Proof.Machine
end

section
/-! SUPPORT. A lane's registers and its state outside them: what each shared operation on a lane leaves alone, and which state it takes the lane
to (R46, R53, R57, R58, R84). -/

namespace Sys2Proof.Machine

theorem KeepsFields.trans {s t u : State} {a : Nat} {fs : List Fld} (h : KeepsFields s t a fs) (k : KeepsFields t u a fs) :
    KeepsFields s u a fs := fun g hg => (k g hg).trans (h g hg)

theorem KeepsFields.mono {s t : State} {a : Nat} {fs gs : List Fld} (h : KeepsFields s t a fs) (hs : ∀ f ∈ fs, f ∈ gs) :
    KeepsFields s t a gs := fun g hg => h g (fun f hf => hg f (hs f hf))

theorem KeepsFields.of_reg {s t : State} {a : Nat} (fs : List Fld) (h : t.reg a = s.reg a) : KeepsFields s t a fs :=
  fun g _ => by simp only [State.get, h]

theorem KeepsFields.flag {s t : State} {a : Nat} {fs : List Fld} (h : KeepsFields s t a fs) {g : Fld} (hg : ∀ f ∈ fs, f.apart g) :
    t.flag a g = s.flag a g := by simp only [State.flag, h g hg]

namespace State

/-! ### Fields under a flag's write -/

theorem get_setFlag_apart (s : State) (a : Nat) {f g : Fld} (b : Bool) (hf : f.fits) (h : f.apart g) :
    (s.setFlag a f b).get a g = s.get a g := get_set_apart s a _ hf h

theorem get_setFlag_other (s : State) {a c : Nat} (f g : Fld) (b : Bool) (h : c ≠ a) : (s.setFlag a f b).get c g = s.get c g :=
  get_set_other s f g _ h

theorem flag_setFlag_apart (s : State) (a : Nat) {f g : Fld} (b : Bool) (hf : f.fits) (h : f.apart g) :
    (s.setFlag a f b).flag a g = s.flag a g := by simp only [flag, get_setFlag_apart s a b hf h]

theorem flag_set_apart (s : State) (a : Nat) {f g : Fld} (v : Nat) (hf : f.fits) (h : f.apart g) :
    (s.set a f v).flag a g = s.flag a g := by simp only [flag, get_set_apart s a v hf h]

theorem keepsFields_set (s : State) (a : Nat) {f : Fld} (v : Nat) (h : f.fits) : KeepsFields s (s.set a f v) a [f] :=
  fun _ hg => get_set_apart s a v h (hg f (List.mem_singleton.2 rfl))

/-! ### A lane outside its registers -/

@[simp] theorem lane_setLane_same (s : State) (l : Nat) (x : LaneSt) : (s.setLane l x).lane l = x := by
  simp only [lane, setLane, mapFind_mapSet_same]

theorem lane_setLane_other (s : State) {l j : Nat} (x : LaneSt) (h : j ≠ l) : (s.setLane l x).lane j = s.lane j := by
  simp only [lane, setLane, mapFind_mapSet_other _ _ _ h]

@[simp] theorem reg_setLane (s : State) (l : Nat) (x : LaneSt) (a : Nat) : (s.setLane l x).reg a = s.reg a := (rfl)
@[simp] theorem get_setLane (s : State) (l : Nat) (x : LaneSt) (a : Nat) (f : Fld) : (s.setLane l x).get a f = s.get a f := (rfl)
@[simp] theorem flag_setLane (s : State) (l : Nat) (x : LaneSt) (a : Nat) (f : Fld) : (s.setLane l x).flag a f = s.flag a f := (rfl)
@[simp] theorem laneState_setLane (s : State) (l : Nat) (x : LaneSt) (j : Nat) : (s.setLane l x).laneState j = s.laneState j := (rfl)
@[simp] theorem link_setLane (s : State) (l : Nat) (x : LaneSt) (k : Nat) : (s.setLane l x).link k = s.link k := (rfl)
@[simp] theorem lane_wr (s : State) (a : Nat) (v : Word) (l : Nat) : (s.wr a v).lane l = s.lane l := (rfl)
@[simp] theorem lane_set (s : State) (a : Nat) (f : Fld) (v l : Nat) : (s.set a f v).lane l = s.lane l := (rfl)
@[simp] theorem lane_setFlag (s : State) (a : Nat) (f : Fld) (b : Bool) (l : Nat) : (s.setFlag a f b).lane l = s.lane l := (rfl)
@[simp] theorem lane_wrN (s : State) (a v l : Nat) : (s.wrN a v).lane l = s.lane l := (rfl)

@[simp] theorem flag_latchLane (s : State) (l a : Nat) (f : Fld) : (s.latchLane l).flag a f = s.flag a f := (rfl)
@[simp] theorem reg_latchLane (s : State) (l a : Nat) : (s.latchLane l).reg a = s.reg a := (rfl)

theorem only_setLane (s : State) (l : Nat) (x : LaneSt) : Only [.lanes] s (s.setLane l x) := only_lanes_lanes s _

end State

theorem Only.lane {ps : List Part} {s t : State} (h : Only ps s t) (hp : Part.lanes ∉ ps) (l : Nat) : t.lane l = s.lane l := by
  have same : t.lanes.lanes = s.lanes.lanes := h .lanes hp
  simp only [State.lane, same]

/-! ### One lane's step -/

/-- The registers that bringing a lane up, or down, may change. -/
def LaneRegs (l a : Nat) : Prop := a = Reg.LANE_STATUS l ∨ a = Reg.LANE_EQ l ∨ a = Reg.LANE_EYE_CTL l ∨ a = Reg.LANE_EYE_RESULT l

theorem laneRegs_status_iff {i l : Nat} : LaneRegs i (Reg.LANE_STATUS l) ↔ l = i := by
  simp only [LaneRegs, Reg.LANE_STATUS, Reg.LANE_EQ, Reg.LANE_EYE_CTL, Reg.LANE_EYE_RESULT]; omega

theorem not_laneRegs_cfg (i l : Nat) : ¬ LaneRegs i (Reg.LANE_CFG l) := by
  simp only [LaneRegs, Reg.LANE_STATUS, Reg.LANE_EQ, Reg.LANE_EYE_CTL, Reg.LANE_EYE_RESULT, Reg.LANE_CFG]; omega

/-- Of the lane block's upper half, of the event block and of every block after them nothing is a register of a lane. -/
theorem not_laneRegs_of_range {i a : Nat} (hi : i < 128) (h : a < 0x200000 ∨ 0x210000 ≤ a) : ¬ LaneRegs i a := by
  simp only [LaneRegs, Reg.LANE_STATUS, Reg.LANE_EQ, Reg.LANE_EYE_CTL, Reg.LANE_EYE_RESULT]; omega

theorem laneRegs_between {i a : Nat} (hi : i < 128) (h : LaneRegs i a) : Between 0x200000 0x23FFFF a := by
  simp only [LaneRegs, Reg.LANE_STATUS, Reg.LANE_EQ, Reg.LANE_EYE_CTL, Reg.LANE_EYE_RESULT, Between] at *; omega

/-- A step of one lane: of the registers and of the lanes it changes that lane's alone. -/
structure LaneStep (l : Nat) (s t : State) : Prop where
  changes : Changes [.regs, .lanes] (LaneRegs l) s t
  others : ∀ j, j ≠ l → t.lane j = s.lane j

namespace LaneStep

variable {l : Nat} {s t u : State}

theorem refl (l : Nat) (s : State) : LaneStep l s s := ⟨.refl _ _ s, fun _ _ => rfl⟩

theorem trans (h : LaneStep l s t) (k : LaneStep l t u) : LaneStep l s u :=
  ⟨h.changes.trans k.changes, fun j hj => (k.others j hj).trans (h.others j hj)⟩

theorem of_set (s : State) {a : Nat} (f : Fld) (v : Nat) (ha : LaneRegs l a) : LaneStep l s (s.set a f v) :=
  ⟨(State.changes_set s a f v).mono (by decide) fun _ h => h ▸ ha, fun _ _ => rfl⟩

theorem of_setFlag (s : State) {a : Nat} (f : Fld) (b : Bool) (ha : LaneRegs l a) : LaneStep l s (s.setFlag a f b) := of_set s f _ ha

theorem of_wrN (s : State) {a : Nat} (v : Nat) (ha : LaneRegs l a) : LaneStep l s (s.wrN a v) :=
  ⟨(State.changes_wrN s a v).mono (by decide) fun _ h => h ▸ ha, fun _ _ => rfl⟩

theorem of_setLane (s : State) (l : Nat) (x : LaneSt) : LaneStep l s (s.setLane l x) :=
  ⟨(Changes.of_only (State.only_setLane s l x) (by decide)).mono (by decide) fun _ h => h, fun _ hj => State.lane_setLane_other s x hj⟩

theorem link (h : LaneStep l s t) (k : Nat) : t.link k = s.link k := by
  have same : t.lanes.links = s.lanes.links := h.changes.parts .links (by decide)
  simp only [State.link, same]

theorem laneState_other (h : LaneStep l s t) {j : Nat} (hj : j ≠ l) : t.laneState j = s.laneState j :=
  h.changes.get_eq (fun k => hj (laneRegs_status_iff.1 k)) _

theorem cfg (h : LaneStep l s t) (j : Nat) : t.reg (Reg.LANE_CFG j) = s.reg (Reg.LANE_CFG j) := h.changes.regs _ (not_laneRegs_cfg l j)

theorem flag_cfg (h : LaneStep l s t) (j : Nat) (f : Fld) : t.flag (Reg.LANE_CFG j) f = s.flag (Reg.LANE_CFG j) f :=
  h.changes.flag_eq (not_laneRegs_cfg l j) f

end LaneStep

namespace State

/-! ### A scan is aborted -/

theorem abortScan_step (s : State) (l : Nat) : LaneStep l s (s.abortScan l) := by
  unfold abortScan; dsimp only; split
  · exact (((LaneStep.of_setFlag s _ _ (.inr (.inr (.inr rfl)))).trans (.of_setFlag _ _ _ (.inr (.inr (.inr rfl))))).trans
      (.of_setFlag _ _ _ (.inr (.inr (.inl rfl))))).trans (.of_setLane _ l _)
  · exact .refl l s

/-- The registers of an eye scan. -/
theorem abortScan_keeps (s : State) (l : Nat) :
    KeepsRegs s (s.abortScan l) (fun a => a = Reg.LANE_EYE_CTL l ∨ a = Reg.LANE_EYE_RESULT l) := by
  unfold abortScan; dsimp only; split
  · intro a ha
    obtain ⟨h1, h2⟩ := not_or.1 ha
    rw [reg_setLane, reg_setFlag_other _ _ _ h1, reg_setFlag_other _ _ _ h2, reg_setFlag_other _ _ _ h2]
  · exact keeps_refl s _

theorem abortScan_reg_status (s : State) (l j : Nat) : (s.abortScan l).reg (Reg.LANE_STATUS j) = s.reg (Reg.LANE_STATUS j) :=
  abortScan_keeps s l _ (by simp only [Reg.LANE_STATUS, Reg.LANE_EYE_CTL, Reg.LANE_EYE_RESULT]; omega)

theorem abortScan_reg_eq (s : State) (l j : Nat) : (s.abortScan l).reg (Reg.LANE_EQ j) = s.reg (Reg.LANE_EQ j) :=
  abortScan_keeps s l _ (by simp only [Reg.LANE_EQ, Reg.LANE_EYE_CTL, Reg.LANE_EYE_RESULT]; omega)

theorem abortScan_laneState (s : State) (l j : Nat) : (s.abortScan l).laneState j = s.laneState j := by
  simp only [laneState, get, abortScan_reg_status]

theorem abortScan_of_below {s : State} {l : Nat} (h : s.laneState l < 4) : s.abortScan l = s := if_neg fun k => by omega

theorem abortScan_lane (s : State) (l j : Nat) :
    (s.abortScan l).lane j = s.lane j ∨ j = l ∧ (s.abortScan l).lane j = { s.lane j with scanning := false, held := false } := by
  by_cases hj : j = l
  · subst hj
    unfold abortScan; dsimp only; split
    · exact .inr ⟨rfl, lane_setLane_same _ _ _⟩
    · exact .inl rfl
  · exact .inl ((abortScan_step s l).others j hj)

/-! ### To a state other than ADAPT -/

theorem laneTo_step (s : State) (l st : Nat) : LaneStep l s (s.laneTo l st) := by
  unfold laneTo; dsimp only; split
  · exact .of_set s _ _ (.inl rfl)
  · exact (abortScan_step s l).trans (.of_set _ _ _ (.inl rfl))

theorem laneTo_of_high (s : State) (l : Nat) {st : Nat} (h : 4 ≤ st) :
    s.laneTo l st = s.set (Reg.LANE_STATUS l) Fld.LANE_STATUS_STATE st := by
  unfold laneTo; dsimp only; rw [if_pos h]

theorem laneTo_of_low (s : State) (l : Nat) {st : Nat} (h : ¬ 4 ≤ st) :
    s.laneTo l st = (s.abortScan l).set (Reg.LANE_STATUS l) Fld.LANE_STATUS_STATE st := by
  unfold laneTo; dsimp only; rw [if_neg h]

theorem laneState_laneTo_same (s : State) (l : Nat) {st : Nat} (h : st < 8) : (s.laneTo l st).laneState l = st :=
  (get_set_same _ _ st (by decide)).trans (Nat.mod_eq_of_lt h)

theorem laneTo_keepsFields (s : State) (l st : Nat) :
    KeepsFields s (s.laneTo l st) (Reg.LANE_STATUS l) [Fld.LANE_STATUS_STATE] := by
  unfold laneTo; dsimp only; split
  · exact keepsFields_set s _ _ (by decide)
  · exact (KeepsFields.of_reg _ (abortScan_reg_status s l l)).trans (keepsFields_set _ _ _ (by decide))

/-! ### To ADAPT -/

theorem laneAdapt_step (s : State) (l : Nat) : LaneStep l s (s.laneAdapt l) := by
  have h1 : LaneStep l s ((s.abortScan l).latchLane l) := (abortScan_step s l).trans (.of_setLane _ l _)
  unfold laneAdapt; dsimp only; split
  · exact h1.trans (.of_wrN _ _ (.inl rfl))
  · have h2 := ((h1.trans (.of_set _ Fld.LANE_STATUS_STATE 2 (.inl rfl))).trans
      (.of_setFlag _ Fld.LANE_STATUS_CDR_LOCK false (.inl rfl))).trans (.of_setFlag _ Fld.LANE_STATUS_MARKER_LOCK false (.inl rfl))
    refine LaneStep.trans (LaneStep.trans ?_ (.of_setFlag _ _ _ (.inr (.inl rfl)))) (.of_setLane _ l _)
    split
    · exact h2
    · exact h2.trans (.of_set _ _ _ (.inr (.inl rfl)))

/-- A lane in ADAPT without its locks, its receiver enabled. -/
structure InAdapt (l : Nat) (s : State) : Prop where
  state : s.laneState l = 2
  cdr : s.flag (Reg.LANE_STATUS l) Fld.LANE_STATUS_CDR_LOCK = false
  marker : s.flag (Reg.LANE_STATUS l) Fld.LANE_STATUS_MARKER_LOCK = false
  enabled : s.flag (Reg.LANE_CFG l) Fld.LANE_CFG_RX_EN = true

theorem InAdapt.of_reg {l : Nat} {s t : State} (h : InAdapt l s) (hs : t.reg (Reg.LANE_STATUS l) = s.reg (Reg.LANE_STATUS l))
    (hc : t.reg (Reg.LANE_CFG l) = s.reg (Reg.LANE_CFG l)) : InAdapt l t := by
  obtain ⟨h1, h2, h3, h4⟩ := h
  refine ⟨?_, ?_, ?_, ?_⟩ <;> simp only [laneState, flag, get, hs, hc] at * <;> assumption

/-- The register writes of a lane's status as it enters ADAPT. -/
def adaptStatus (s : State) (l : Nat) : State :=
  ((s.set (Reg.LANE_STATUS l) Fld.LANE_STATUS_STATE 2).setFlag (Reg.LANE_STATUS l) Fld.LANE_STATUS_CDR_LOCK false).setFlag
    (Reg.LANE_STATUS l) Fld.LANE_STATUS_MARKER_LOCK false

/-- The equaliser as a lane enters ADAPT, with FREEZE as it was: held, or at its seed. -/
def adaptEq (s : State) (l : Nat) (frozen : Bool) : State :=
  (if frozen then s else s.set (Reg.LANE_EQ l) ⟨0, 22⟩ (s.eqSeed l)).setFlag (Reg.LANE_EQ l) Fld.LANE_EQ_FREEZE_ACK frozen

theorem laneAdapt_of_enabled {s : State} {l : Nat} (h : s.flag (Reg.LANE_CFG l) Fld.LANE_CFG_RX_EN = true) :
    s.laneAdapt l =
      let u := (s.abortScan l).latchLane l
      let v := (u.adaptStatus l).adaptEq l (u.flag (Reg.LANE_EQ l) Fld.LANE_EQ_FREEZE)
      v.setLane l { v.lane l with first := none, mark := none, misses := 0, fast := false } := by
  have k : ((s.abortScan l).latchLane l).flag (Reg.LANE_CFG l) Fld.LANE_CFG_RX_EN = true :=
    (flag_latchLane _ l _ _).trans (((abortScan_step s l).flag_cfg l _).trans h)
  unfold laneAdapt; dsimp only
  rw [if_neg (by rw [k]; decide)]
  simp only [adaptEq, adaptStatus]

theorem laneAdapt_of_disabled {s : State} {l : Nat} (h : s.flag (Reg.LANE_CFG l) Fld.LANE_CFG_RX_EN = false) :
    s.laneAdapt l = ((s.abortScan l).latchLane l).wrN (Reg.LANE_STATUS l) 0 := by
  have k : ((s.abortScan l).latchLane l).flag (Reg.LANE_CFG l) Fld.LANE_CFG_RX_EN = false :=
    (flag_latchLane _ l _ _).trans (((abortScan_step s l).flag_cfg l _).trans h)
  unfold laneAdapt; dsimp only
  rw [if_pos (by rw [k]; decide)]

theorem lane_eq_ne_status (l j : Nat) : Reg.LANE_STATUS l ≠ Reg.LANE_EQ j := by
  simp only [Reg.LANE_STATUS, Reg.LANE_EQ]; omega

theorem adaptEq_reg_other (s : State) (l : Nat) (frozen : Bool) {a : Nat} (h : a ≠ Reg.LANE_EQ l) : (s.adaptEq l frozen).reg a = s.reg a := by
  unfold adaptEq
  rw [reg_setFlag_other _ _ _ h]
  cases frozen
  · exact reg_set_other s _ _ h
  · rfl

theorem adaptStatus_reg_other (s : State) (l : Nat) {a : Nat} (h : a ≠ Reg.LANE_STATUS l) : (s.adaptStatus l).reg a = s.reg a := by
  rw [adaptStatus, reg_setFlag_other _ _ _ h, reg_setFlag_other _ _ _ h, reg_set_other _ _ _ h]

theorem adaptStatus_spec (s : State) (l : Nat) :
    (s.adaptStatus l).laneState l = 2 ∧ (s.adaptStatus l).flag (Reg.LANE_STATUS l) Fld.LANE_STATUS_CDR_LOCK = false
      ∧ (s.adaptStatus l).flag (Reg.LANE_STATUS l) Fld.LANE_STATUS_MARKER_LOCK = false := by
  refine ⟨?_, ?_, flag_setFlag_same _ _ _ (by decide) (by decide)⟩
  · rw [laneState, adaptStatus, get_setFlag_apart _ _ _ (by decide) (by decide), get_setFlag_apart _ _ _ (by decide) (by decide),
      get_set_same _ _ _ (by decide)]
    rfl
  · rw [adaptStatus, flag_setFlag_apart _ _ _ (by decide) (by decide), flag_setFlag_same _ _ _ (by decide) (by decide)]

/-- A lane with its receiver enabled is in ADAPT after the start of a bring-up. -/
theorem laneAdapt_inAdapt {s : State} {l : Nat} (h : s.flag (Reg.LANE_CFG l) Fld.LANE_CFG_RX_EN = true) : InAdapt l (s.laneAdapt l) := by
  have k := (laneAdapt_step s l).flag_cfg l Fld.LANE_CFG_RX_EN
  rw [h] at k
  obtain ⟨h1, h2, h3⟩ := adaptStatus_spec ((s.abortScan l).latchLane l) l
  have same : (s.laneAdapt l).reg (Reg.LANE_STATUS l) = (((s.abortScan l).latchLane l).adaptStatus l).reg (Reg.LANE_STATUS l) := by
    rw [laneAdapt_of_enabled h]
    dsimp only
    rw [reg_setLane]
    exact adaptEq_reg_other _ l _ (lane_eq_ne_status l l)
  refine ⟨?_, ?_, ?_, k⟩ <;> simp only [laneState, flag, get, same] at * <;> assumption

theorem laneState_laneAdapt (s : State) (l : Nat) :
    (s.laneAdapt l).laneState l = if s.flag (Reg.LANE_CFG l) Fld.LANE_CFG_RX_EN then 2 else 0 := by
  cases h : s.flag (Reg.LANE_CFG l) Fld.LANE_CFG_RX_EN with
  | true => exact (laneAdapt_inAdapt h).state
  | false =>
    rw [laneAdapt_of_disabled h, laneState, wrN, get, reg_wr_same]
    rfl

/-- Once in ADAPT, a lane stays there while lanes of its link start their bring-up. -/
theorem InAdapt.laneAdapt {l : Nat} {s : State} (h : InAdapt l s) (i : Nat) : InAdapt l (s.laneAdapt i) := by
  by_cases hi : i = l
  · subst hi; exact laneAdapt_inAdapt h.enabled
  · have step := laneAdapt_step s i
    exact h.of_reg (step.changes.regs _ fun k => hi (laneRegs_status_iff.1 k).symm) (step.cfg l)

end State

end Sys2Proof.Machine
end

section
/-! PROOF. Adaptation updates, FREEZE, ADAPT and SEARCH (O9). -/

namespace Sys2Proof.Machine.State

/-! ### Two's complement -/

theorem toS_ofS {w : Nat} {x : Int} (hw : 0 < w) (lo : -(2 ^ (w - 1)) ≤ x) (hi : x ≤ 2 ^ (w - 1) - 1) : toS w (ofS w x) = x := by
  obtain ⟨n, rfl⟩ : ∃ n, w = n + 1 := ⟨w - 1, by omega⟩
  have two : (2 : Int) ^ (n + 1) = 2 * 2 ^ n := by ring
  have pos : (0 : Int) < 2 ^ n := by positivity
  have m0 := Int.emod_nonneg x (show (2 : Int) ^ (n + 1) ≠ 0 by positivity)
  have m1 := Int.emod_lt_of_pos x (show (0 : Int) < 2 ^ (n + 1) by positivity)
  have cast : ((ofS (n + 1) x : Nat) : Int) = x % 2 ^ (n + 1) := Int.toNat_of_nonneg m0
  have low : ofS (n + 1) x % 2 ^ (n + 1) = ofS (n + 1) x := Nat.mod_eq_of_lt (by zify; rw [cast]; exact_mod_cast m1)
  simp only [Nat.add_sub_cancel] at lo hi
  simp only [toS, low, cast, Nat.add_sub_cancel]
  rcases le_or_gt 0 x with hx | hx
  · rw [Int.emod_eq_of_lt hx (by omega)] at cast ⊢
    rw [if_pos (by zify; rw [cast]; omega)]
  · have e : x % 2 ^ (n + 1) = x + 2 ^ (n + 1) := by
      rw [← Int.add_emod_right, Int.emod_eq_of_lt (by omega) (by omega)]
    rw [e] at cast ⊢
    rw [if_neg (by zify; rw [cast]; omega)]
    ring

theorem nudged_bounds (n : Nudge) {lo hi v : Int} (h1 : lo ≤ v) (h2 : v ≤ hi) : lo ≤ nudged n lo hi v ∧ nudged n lo hi v ≤ hi := by
  unfold nudged clampI; split <;> (try split) <;> (try split) <;> omega

theorem toS_bounds {w : Nat} (hw : 0 < w) (v : Nat) : -(2 ^ (w - 1) : Int) ≤ toS w v ∧ toS w v ≤ 2 ^ (w - 1) - 1 := by
  obtain ⟨n, rfl⟩ : ∃ n, w = n + 1 := ⟨w - 1, by omega⟩
  have two : (2 : Nat) ^ (n + 1) = 2 * 2 ^ n := by ring
  have m1 := Nat.mod_lt v (show 0 < 2 ^ (n + 1) by positivity)
  unfold toS; simp only [Nat.add_sub_cancel]
  have c1 : (2 : Int) ^ n = ((2 ^ n : Nat) : Int) := by push_cast; rfl
  have c2 : (2 : Int) ^ (n + 1) = ((2 ^ (n + 1) : Nat) : Int) := by push_cast; rfl
  rw [c1, c2]
  split <;> omega

theorem satU_eq_min (n v : Nat) : satU n v = min v (2 ^ n - 1) := by
  have := Nat.two_pow_pos n
  unfold satU; split <;> omega

end Sys2Proof.Machine.State
end

section
/-! PROOF. Adaptation updates, FREEZE, ADAPT and SEARCH (O9): the measured eyes, the moved taps, and the update put together. -/

namespace Sys2Proof.Machine.State

/-! ### The measured eyes -/

theorem measureEye_step (s : State) (l h w : Nat) : LaneStep l s (s.measureEye l h w) :=
  (LaneStep.of_set s _ _ (.inl rfl)).trans (.of_set _ _ _ (.inl rfl))

@[simp] theorem lane_measureEye (s : State) (l h w j : Nat) : (s.measureEye l h w).lane j = s.lane j := by
  rw [measureEye, lane_set, lane_set]

theorem measureEye_keepsFields (s : State) (l h w : Nat) :
    KeepsFields s (s.measureEye l h w) (Reg.LANE_STATUS l) [Fld.LANE_STATUS_EYE_HEIGHT, Fld.LANE_STATUS_EYE_WIDTH] :=
  ((keepsFields_set s _ _ (by decide)).mono (by decide)).trans ((keepsFields_set _ _ _ (by decide)).mono (by decide))

theorem measureEye_get (s : State) (l h w : Nat) :
    (s.measureEye l h w).get (Reg.LANE_STATUS l) Fld.LANE_STATUS_EYE_HEIGHT = min h 255
      ∧ (s.measureEye l h w).get (Reg.LANE_STATUS l) Fld.LANE_STATUS_EYE_WIDTH = min w 255 := by
  have byte : ∀ v : Nat, satU 8 v % 2 ^ 8 = min v 255 := fun v => by rw [satU_eq_min]; omega
  constructor
  · rw [measureEye, get_set_apart _ _ _ (by decide) (by decide), get_set_same _ _ _ (by decide)]
    exact byte h
  · rw [measureEye, get_set_same _ _ _ (by decide)]
    exact byte w

theorem measureEye_reg_other (s : State) (l h w : Nat) {a : Nat} (ha : a ≠ Reg.LANE_STATUS l) : (s.measureEye l h w).reg a = s.reg a := by
  rw [measureEye, reg_set_other _ _ _ ha, reg_set_other _ _ _ ha]

/-! ### The moved taps -/

/-- The fields of LANE_EQ that the adaptation loop moves. -/
def tapFields : List Fld := [Fld.LANE_EQ_CTLE, Fld.LANE_EQ_DFE1, Fld.LANE_EQ_DFE2, Fld.LANE_EQ_DFE3]

theorem nudgeS_keepsFields (s : State) (l : Nat) {f : Fld} (n : Nudge) (hf : f.fits) : KeepsFields s (s.nudgeS l f n) (Reg.LANE_EQ l) [f] :=
  keepsFields_set s _ _ hf

theorem nudgeS_get (s : State) (l : Nat) {f : Fld} (n : Nudge) (hf : f.fits) (hw : 0 < f.width) :
    toS f.width ((s.nudgeS l f n).get (Reg.LANE_EQ l) f)
      = nudged n (-(2 ^ (f.width - 1))) (2 ^ (f.width - 1) - 1) (toS f.width (s.get (Reg.LANE_EQ l) f)) := by
  obtain ⟨b1, b2⟩ := toS_bounds hw (s.get (Reg.LANE_EQ l) f)
  obtain ⟨n1, n2⟩ := nudged_bounds n b1 b2
  rw [nudgeS, get_set_same _ _ _ hf]
  have wrap : ∀ x : Int, toS f.width (ofS f.width x % 2 ^ f.width) = toS f.width (ofS f.width x) := fun x => by
    simp only [toS, Nat.mod_mod]
  rw [wrap, toS_ofS hw n1 n2]

/-- CTLE stands for itself: a code from 0 to 15. -/
theorem moveCtle_get (s : State) (l : Nat) (c : Nudge) :
    (((s.set (Reg.LANE_EQ l) Fld.LANE_EQ_CTLE (nudged c 0 15 (s.get (Reg.LANE_EQ l) Fld.LANE_EQ_CTLE)).toNat).get (Reg.LANE_EQ l)
      Fld.LANE_EQ_CTLE : Nat) : Int) = nudged c 0 15 (s.get (Reg.LANE_EQ l) Fld.LANE_EQ_CTLE) := by
  have low : s.get (Reg.LANE_EQ l) Fld.LANE_EQ_CTLE < 16 := Fld.of_lt Fld.LANE_EQ_CTLE (s.reg (Reg.LANE_EQ l))
  obtain ⟨n1, n2⟩ := nudged_bounds c (lo := 0) (hi := 15) (v := (s.get (Reg.LANE_EQ l) Fld.LANE_EQ_CTLE : Int)) (by omega) (by omega)
  rw [get_set_same _ _ _ (by decide)]
  show (((nudged c 0 15 (s.get (Reg.LANE_EQ l) Fld.LANE_EQ_CTLE)).toNat % 16 : Nat) : Int) = _
  omega

theorem moveTaps_keepsFields (s : State) (l : Nat) (c d1 d2 d3 : Nudge) :
    KeepsFields s (s.moveTaps l c d1 d2 d3) (Reg.LANE_EQ l) tapFields :=
  ((((keepsFields_set s _ _ (by decide)).mono (by decide)).trans ((nudgeS_keepsFields _ l d1 (by decide)).mono (by decide))).trans
    ((nudgeS_keepsFields _ l d2 (by decide)).mono (by decide))).trans ((nudgeS_keepsFields _ l d3 (by decide)).mono (by decide))

theorem moveTaps_step (s : State) (l : Nat) (c d1 d2 d3 : Nudge) : LaneStep l s (s.moveTaps l c d1 d2 d3) :=
  (((LaneStep.of_set s _ _ (.inr (.inl rfl))).trans (.of_set _ _ _ (.inr (.inl rfl)))).trans (.of_set _ _ _ (.inr (.inl rfl)))).trans
    (.of_set _ _ _ (.inr (.inl rfl)))

@[simp] theorem lane_moveTaps (s : State) (l : Nat) (c d1 d2 d3 : Nudge) (j : Nat) : (s.moveTaps l c d1 d2 d3).lane j = s.lane j := by
  simp only [moveTaps, nudgeS, lane_set]

theorem moveTaps_reg_other (s : State) (l : Nat) (c d1 d2 d3 : Nudge) {a : Nat} (ha : a ≠ Reg.LANE_EQ l) :
    (s.moveTaps l c d1 d2 d3).reg a = s.reg a := by
  simp only [moveTaps, nudgeS]
  rw [reg_set_other _ _ _ ha, reg_set_other _ _ _ ha, reg_set_other _ _ _ ha, reg_set_other _ _ _ ha]

/-- Each value has moved as its nudge says, within its range. -/
structure TapsMoved (s t : State) (l : Nat) (c d1 d2 d3 : Nudge) : Prop where
  ctle : (t.get (Reg.LANE_EQ l) Fld.LANE_EQ_CTLE : Int) = nudged c 0 15 (s.get (Reg.LANE_EQ l) Fld.LANE_EQ_CTLE)
  dfe1 : toS 7 (t.get (Reg.LANE_EQ l) Fld.LANE_EQ_DFE1) = nudged d1 (-64) 63 (toS 7 (s.get (Reg.LANE_EQ l) Fld.LANE_EQ_DFE1))
  dfe2 : toS 6 (t.get (Reg.LANE_EQ l) Fld.LANE_EQ_DFE2) = nudged d2 (-32) 31 (toS 6 (s.get (Reg.LANE_EQ l) Fld.LANE_EQ_DFE2))
  dfe3 : toS 5 (t.get (Reg.LANE_EQ l) Fld.LANE_EQ_DFE3) = nudged d3 (-16) 15 (toS 5 (s.get (Reg.LANE_EQ l) Fld.LANE_EQ_DFE3))

theorem moveTaps_moved (s : State) (l : Nat) (c d1 d2 d3 : Nudge) : TapsMoved s (s.moveTaps l c d1 d2 d3) l c d1 d2 d3 := by
  unfold moveTaps; dsimp only
  have ctle := s.moveCtle_get l c
  generalize hs1 : s.set (Reg.LANE_EQ l) Fld.LANE_EQ_CTLE (nudged c 0 15 (s.get (Reg.LANE_EQ l) Fld.LANE_EQ_CTLE)).toNat = s1 at ctle
  have k1 : KeepsFields s s1 (Reg.LANE_EQ l) [Fld.LANE_EQ_CTLE] := by rw [← hs1]; exact keepsFields_set s _ _ (by decide)
  have k2 := s1.nudgeS_keepsFields l d1 (f := Fld.LANE_EQ_DFE1) (by decide)
  have k3 := (s1.nudgeS l Fld.LANE_EQ_DFE1 d1).nudgeS_keepsFields l d2 (f := Fld.LANE_EQ_DFE2) (by decide)
  have k4 := ((s1.nudgeS l Fld.LANE_EQ_DFE1 d1).nudgeS l Fld.LANE_EQ_DFE2 d2).nudgeS_keepsFields l d3 (f := Fld.LANE_EQ_DFE3) (by decide)
  refine ⟨?_, ?_, ?_, ?_⟩
  · rw [k4 _ (by decide), k3 _ (by decide), k2 _ (by decide)]
    exact ctle
  · rw [k4 _ (by decide), k3 _ (by decide), ← k1 _ (by decide)]
    exact s1.nudgeS_get l d1 (f := Fld.LANE_EQ_DFE1) (by decide) (by decide)
  · rw [k4 _ (by decide), ← k1 _ (by decide), ← k2 _ (by decide)]
    exact (s1.nudgeS l Fld.LANE_EQ_DFE1 d1).nudgeS_get l d2 (f := Fld.LANE_EQ_DFE2) (by decide) (by decide)
  · rw [← k1 _ (by decide), ← k2 _ (by decide), ← k3 _ (by decide)]
    exact State.nudgeS_get _ l d3 (f := Fld.LANE_EQ_DFE3) (by decide) (by decide)

theorem TapsMoved.of_reg {s s' t t' : State} {l : Nat} {c d1 d2 d3 : Nudge} (h : TapsMoved s t l c d1 d2 d3)
    (hs : s'.reg (Reg.LANE_EQ l) = s.reg (Reg.LANE_EQ l)) (ht : KeepsFields t t' (Reg.LANE_EQ l) [Fld.LANE_EQ_FREEZE_ACK]) :
    TapsMoved s' t' l c d1 d2 d3 := by
  obtain ⟨h1, h2, h3, h4⟩ := h
  refine ⟨?_, ?_, ?_, ?_⟩ <;> (rw [ht _ (by decide)]; simp only [get, hs] at *; assumption)

/-! ### An update put together -/

/-- An update of a lane whose sampler is free: the eyes measured, the values moved unless they are frozen. -/
def measured (s : State) (l : Nat) (c d1 d2 d3 : Nudge) (h w : Nat) : State :=
  if (s.measureEye l h w).flag (Reg.LANE_EQ l) Fld.LANE_EQ_FREEZE_ACK then s.measureEye l h w else (s.measureEye l h w).moveTaps l c d1 d2 d3

/-- The same with the sampler left to a scan that waits for it, up to FREEZE_ACK. -/
def updated (s : State) (l : Nat) (c d1 d2 d3 : Nudge) (h w : Nat) : State :=
  let v := s.measured l c d1 d2 d3 h w
  if (v.lane l).scanning then v.setLane l { v.lane l with held := true } else v

theorem adapt_eq {s : State} {l : Nat} (c d1 d2 d3 : Nudge) (h w : Nat) (hl : 2 ≤ s.laneState l) :
    s.adapt l c d1 d2 d3 h w = (if (s.lane l).held then s else s.updated l c d1 d2 d3 h w).setFlag (Reg.LANE_EQ l)
      Fld.LANE_EQ_FREEZE_ACK (s.flag (Reg.LANE_EQ l) Fld.LANE_EQ_FREEZE) := by
  unfold adapt updated measured; dsimp only
  rw [if_neg (by omega)]

/-- What an update does to the taps: nothing where they are frozen, else one step of each. -/
def TapsUpdated (s t : State) (l : Nat) (c d1 d2 d3 : Nudge) : Prop :=
  (s.flag (Reg.LANE_EQ l) Fld.LANE_EQ_FREEZE_ACK = true ∧ t.reg (Reg.LANE_EQ l) = s.reg (Reg.LANE_EQ l))
    ∨ (s.flag (Reg.LANE_EQ l) Fld.LANE_EQ_FREEZE_ACK = false ∧ TapsMoved s t l c d1 d2 d3 ∧ KeepsFields s t (Reg.LANE_EQ l) tapFields)

theorem measured_spec (s : State) (l : Nat) (c d1 d2 d3 : Nudge) (h w : Nat) :
    let v := s.measured l c d1 d2 d3 h w
    LaneStep l s v ∧ KeepsRegs s v (fun a => a = Reg.LANE_STATUS l ∨ a = Reg.LANE_EQ l)
      ∧ v.reg (Reg.LANE_STATUS l) = (s.measureEye l h w).reg (Reg.LANE_STATUS l) ∧ v.lane l = s.lane l ∧ TapsUpdated s v l c d1 d2 d3 := by
  have eyes : (s.measureEye l h w).reg (Reg.LANE_EQ l) = s.reg (Reg.LANE_EQ l) := s.measureEye_reg_other l h w (lane_eq_ne_status l l).symm
  have ack : (s.measureEye l h w).flag (Reg.LANE_EQ l) Fld.LANE_EQ_FREEZE_ACK = s.flag (Reg.LANE_EQ l) Fld.LANE_EQ_FREEZE_ACK := by
    rw [flag, flag, get, get, eyes]
  intro v
  cases hf : s.flag (Reg.LANE_EQ l) Fld.LANE_EQ_FREEZE_ACK with
  | true =>
    have hv : v = s.measureEye l h w := if_pos (ack.trans hf)
    rw [hv]
    exact ⟨s.measureEye_step l h w, fun a ha => s.measureEye_reg_other l h w fun k => ha (.inl k), rfl, s.lane_measureEye l h w l, .inl ⟨hf, eyes⟩⟩
  | false =>
    have hv : v = (s.measureEye l h w).moveTaps l c d1 d2 d3 := if_neg (by rw [ack, hf]; decide)
    rw [hv]
    refine ⟨(s.measureEye_step l h w).trans (moveTaps_step _ l c d1 d2 d3), fun a ha => ?_,
      moveTaps_reg_other _ l c d1 d2 d3 (lane_eq_ne_status l l), by rw [lane_moveTaps, lane_measureEye],
      .inr ⟨hf, (moveTaps_moved _ l c d1 d2 d3).of_reg eyes.symm fun _ _ => rfl,
        (KeepsFields.of_reg _ eyes).trans (moveTaps_keepsFields _ l c d1 d2 d3)⟩⟩
    obtain ⟨h1, h2⟩ := not_or.1 ha
    exact (moveTaps_reg_other _ l c d1 d2 d3 h2).trans (s.measureEye_reg_other l h w h1)

theorem updated_spec (s : State) (l : Nat) (c d1 d2 d3 : Nudge) (h w : Nat) (hh : (s.lane l).held = false) :
    let t := s.updated l c d1 d2 d3 h w
    LaneStep l s t ∧ KeepsRegs s t (fun a => a = Reg.LANE_STATUS l ∨ a = Reg.LANE_EQ l)
      ∧ t.reg (Reg.LANE_STATUS l) = (s.measureEye l h w).reg (Reg.LANE_STATUS l)
      ∧ t.lane l = { s.lane l with held := (s.lane l).scanning } ∧ TapsUpdated s t l c d1 d2 d3 := by
  obtain ⟨step, keeps, status, lane, taps⟩ := s.measured_spec l c d1 d2 d3 h w
  intro t
  cases hsc : (s.lane l).scanning with
  | true =>
    have ht : t = (s.measured l c d1 d2 d3 h w).setLane l { (s.measured l c d1 d2 d3 h w).lane l with held := true } := if_pos (by rw [lane, hsc])
    rw [ht]
    refine ⟨step.trans (.of_setLane _ l _), fun a ha => (reg_setLane _ _ _ a).trans (keeps a ha), (reg_setLane _ _ _ _).trans status,
      by rw [lane_setLane_same, lane], ?_⟩
    rcases taps with ⟨hf, same⟩ | ⟨hf, moved, others⟩
    · exact .inl ⟨hf, (reg_setLane _ _ _ _).trans same⟩
    · exact .inr ⟨hf, moved.of_reg rfl (.of_reg _ (reg_setLane _ _ _ _)), others.trans (.of_reg _ (reg_setLane _ _ _ _))⟩
  | false =>
    have ht : t = s.measured l c d1 d2 d3 h w := if_neg (by rw [lane, hsc]; decide)
    rw [ht]
    exact ⟨step, keeps, status, by rw [lane, ← hh], taps⟩

end Sys2Proof.Machine.State
end

section
/-! PROOF. O9 settled: adaptation updates, FREEZE, ADAPT and SEARCH, clause by clause. -/

namespace Sys2Proof.Machine

namespace State

/-! ### The update's last write -/

/-- FREEZE_ACK takes FREEZE. -/
theorem ackFreeze_spec (s : State) (l : Nat) (b : Bool) :
    LaneStep l s (s.setFlag (Reg.LANE_EQ l) Fld.LANE_EQ_FREEZE_ACK b)
      ∧ (s.setFlag (Reg.LANE_EQ l) Fld.LANE_EQ_FREEZE_ACK b).flag (Reg.LANE_EQ l) Fld.LANE_EQ_FREEZE_ACK = b
      ∧ KeepsFields s (s.setFlag (Reg.LANE_EQ l) Fld.LANE_EQ_FREEZE_ACK b) (Reg.LANE_EQ l) [Fld.LANE_EQ_FREEZE_ACK]
      ∧ KeepsRegs s (s.setFlag (Reg.LANE_EQ l) Fld.LANE_EQ_FREEZE_ACK b) (· = Reg.LANE_EQ l) :=
  ⟨.of_setFlag s _ _ (.inr (.inl rfl)), flag_setFlag_same s _ b (by decide) (by decide), keepsFields_set s _ _ (by decide), keeps_setFlag s _ _ b⟩

theorem adaptationUpdate_completes (l : Lane) (c d1 d2 d3 : Nudge) (h w : Nat) (s : State) (hl : 2 ≤ s.laneState l) :
    Completes (.adaptationUpdate l c d1 d2 d3 h w) s (fun t =>
      t.flag (Reg.LANE_EQ l) Fld.LANE_EQ_FREEZE_ACK = s.flag (Reg.LANE_EQ l) Fld.LANE_EQ_FREEZE
      ∧ (if (s.lane l).held then t.reg (Reg.LANE_STATUS l) = s.reg (Reg.LANE_STATUS l) ∧ t.lane l = s.lane l
        else
          t.get (Reg.LANE_STATUS l) Fld.LANE_STATUS_EYE_HEIGHT = min h 255
          ∧ t.get (Reg.LANE_STATUS l) Fld.LANE_STATUS_EYE_WIDTH = min w 255
          ∧ t.lane l = { s.lane l with held := (s.lane l).scanning })
      ∧ (if s.flag (Reg.LANE_EQ l) Fld.LANE_EQ_FREEZE_ACK ∨ (s.lane l).held then
          KeepsFields s t (Reg.LANE_EQ l) [Fld.LANE_EQ_FREEZE_ACK]
        else
          (t.get (Reg.LANE_EQ l) Fld.LANE_EQ_CTLE : Int) = nudged c 0 15 (s.get (Reg.LANE_EQ l) Fld.LANE_EQ_CTLE)
          ∧ toS 7 (t.get (Reg.LANE_EQ l) Fld.LANE_EQ_DFE1) = nudged d1 (-64) 63 (toS 7 (s.get (Reg.LANE_EQ l) Fld.LANE_EQ_DFE1))
          ∧ toS 6 (t.get (Reg.LANE_EQ l) Fld.LANE_EQ_DFE2) = nudged d2 (-32) 31 (toS 6 (s.get (Reg.LANE_EQ l) Fld.LANE_EQ_DFE2))
          ∧ toS 5 (t.get (Reg.LANE_EQ l) Fld.LANE_EQ_DFE3) = nudged d3 (-16) 15 (toS 5 (s.get (Reg.LANE_EQ l) Fld.LANE_EQ_DFE3))
          ∧ t.flag (Reg.LANE_EQ l) Fld.LANE_EQ_FREEZE = s.flag (Reg.LANE_EQ l) Fld.LANE_EQ_FREEZE)
      ∧ KeepsFields s t (Reg.LANE_STATUS l) [Fld.LANE_STATUS_EYE_HEIGHT, Fld.LANE_STATUS_EYE_WIDTH]
      ∧ (∀ j, j ≠ l.val → t.lane j = s.lane j)
      ∧ KeepsRegs s t (fun a => a = Reg.LANE_STATUS l ∨ a = Reg.LANE_EQ l) ∧ Only [.regs, .lanes] s t) := by
  refine ⟨s.adapt l c d1 d2 d3 h w, rfl, ?_⟩
  rw [adapt_eq c d1 d2 d3 h w hl]
  cases hh : (s.lane l).held with
  | true =>
    rw [if_pos rfl]
    obtain ⟨step, ack, fields, keeps⟩ := s.ackFreeze_spec l (s.flag (Reg.LANE_EQ l) Fld.LANE_EQ_FREEZE)
    have status := keeps (Reg.LANE_STATUS l) (lane_eq_ne_status l l)
    exact ⟨ack, ⟨status, lane_setFlag s _ _ _ _⟩, by rw [if_pos (.inr rfl)]; exact fields, .of_reg _ status, step.others,
      KeepsRegs.mono keeps fun _ => .inr, step.changes.parts⟩
  | false =>
    rw [if_neg (by decide)]
    obtain ⟨step1, keeps1, status1, lane1, taps⟩ := s.updated_spec l c d1 d2 d3 h w hh
    generalize s.updated l c d1 d2 d3 h w = u at step1 keeps1 status1 lane1 taps ⊢
    obtain ⟨step2, ack, fields, keeps2⟩ := u.ackFreeze_spec l (s.flag (Reg.LANE_EQ l) Fld.LANE_EQ_FREEZE)
    have lane2 := lane_setFlag u (Reg.LANE_EQ l) Fld.LANE_EQ_FREEZE_ACK (s.flag (Reg.LANE_EQ l) Fld.LANE_EQ_FREEZE) l
    generalize u.setFlag (Reg.LANE_EQ l) Fld.LANE_EQ_FREEZE_ACK (s.flag (Reg.LANE_EQ l) Fld.LANE_EQ_FREEZE) = t at step2 ack fields keeps2 lane2 ⊢
    have status : t.reg (Reg.LANE_STATUS l) = (s.measureEye l h w).reg (Reg.LANE_STATUS l) :=
      (keeps2 _ (lane_eq_ne_status l l)).trans status1
    obtain ⟨height, width⟩ := s.measureEye_get l h w
    refine ⟨ack, ?_, ?_, (s.measureEye_keepsFields l h w).trans (.of_reg _ status), (step1.trans step2).others,
      KeepsRegs.trans keeps1 (KeepsRegs.mono keeps2 fun _ => .inr), (step1.trans step2).changes.parts⟩
    · rw [if_neg (by decide)]
      exact ⟨by rw [get, status]; exact height, by rw [get, status]; exact width, lane2.trans lane1⟩
    · rcases taps with ⟨hf, same⟩ | ⟨hf, moved, others⟩
      · rw [if_pos (.inl hf)]
        exact (KeepsFields.of_reg _ same).trans fields
      · rw [if_neg (by simp [hf])]
        obtain ⟨ctle, dfe1, dfe2, dfe3⟩ := moved.of_reg rfl fields
        exact ⟨ctle, dfe1, dfe2, dfe3, (fields.flag (by decide)).trans (others.flag (by decide))⟩

theorem laneEqFreeze_completes (l : Lane) (on : Bool) (s : State) (hs : s.served) :
    Completes (.laneEqFreeze l on) s (fun t =>
      t.flag (Reg.LANE_EQ l) Fld.LANE_EQ_FREEZE = on ∧ KeepsFields s t (Reg.LANE_EQ l) [Fld.LANE_EQ_FREEZE]
      ∧ KeepsRegs s t (fun a => a = Reg.LANE_EQ l) ∧ Only [.regs] s t) := by
  refine ⟨s.eqFreeze l on, congrArg ok (if_pos hs), ?_⟩
  exact ⟨flag_setFlag_same s _ on (by decide) (by decide), keepsFields_set s _ _ (by decide), keeps_setFlag s _ _ on, only_setFlag s _ _ on⟩

theorem adaptDone_completes (l : Lane) (s : State) (hl : s.laneState l = 2) :
    Completes (.adaptDone l) s (fun t =>
      t.laneState l = 3 ∧ t.flag (Reg.LANE_STATUS l) Fld.LANE_STATUS_CDR_LOCK
      ∧ KeepsFields s t (Reg.LANE_STATUS l) [Fld.LANE_STATUS_STATE, Fld.LANE_STATUS_CDR_LOCK]
      ∧ KeepsRegs s t (fun a => a = Reg.LANE_STATUS l) ∧ Only [.regs] s t) := by
  have search : s.laneTo l 3 = s.set (Reg.LANE_STATUS l) Fld.LANE_STATUS_STATE 3 := by
    rw [laneTo_of_low s l (by decide), abortScan_of_below (by omega)]
  refine ⟨(s.set (Reg.LANE_STATUS l) Fld.LANE_STATUS_STATE 3).setFlag (Reg.LANE_STATUS l) Fld.LANE_STATUS_CDR_LOCK true,
    (congrArg ok (if_pos hl)).trans (by rw [search]; rfl), ?_, flag_setFlag_same _ _ _ (by decide) (by decide),
    ((keepsFields_set s _ _ (by decide)).mono (by decide)).trans ((keepsFields_set _ _ _ (by decide)).mono (by decide)),
    KeepsRegs.trans (keeps_set s _ _ _) (keeps_setFlag _ _ _ _), (only_set s _ _ _).trans (only_setFlag _ _ _ _)⟩
  rw [laneState, get_setFlag_apart _ _ _ (by decide) (by decide), get_set_same _ _ _ (by decide)]
  rfl

/-! ### ADAPT starts again -/

theorem exec_restart (l : Lane) (s : State) (hl : s.laneState l = 2 ∨ s.laneState l = 3) :
    exec (if s.laneState l = 2 then Instr.adaptTimeout l else Instr.searchTimeout l) s = .next (s.laneAdapt l) := by
  rcases hl with h | h
  · rw [if_pos h]; exact congrArg ok (if_pos h)
  · rw [if_neg (by omega)]; exact congrArg ok (if_pos h)

/-- The equaliser's registers as ADAPT starts: held values or seeds, and FREEZE acknowledged as it stands. -/
theorem adaptEq_spec (s : State) (l : Nat) :
    let t := s.adaptEq l (s.flag (Reg.LANE_EQ l) Fld.LANE_EQ_FREEZE)
    t.get (Reg.LANE_EQ l) ⟨0, 22⟩ = (if s.flag (Reg.LANE_EQ l) Fld.LANE_EQ_FREEZE then s.get (Reg.LANE_EQ l) ⟨0, 22⟩ else s.eqSeed l)
      ∧ t.flag (Reg.LANE_EQ l) Fld.LANE_EQ_FREEZE_ACK = s.flag (Reg.LANE_EQ l) Fld.LANE_EQ_FREEZE
      ∧ t.flag (Reg.LANE_EQ l) Fld.LANE_EQ_FREEZE = s.flag (Reg.LANE_EQ l) Fld.LANE_EQ_FREEZE := by
  unfold adaptEq; dsimp only
  refine ⟨?_, flag_setFlag_same _ _ _ (by decide) (by decide), ?_⟩
  · rw [get_setFlag_apart _ _ _ (by decide) (by decide)]
    cases s.flag (Reg.LANE_EQ l) Fld.LANE_EQ_FREEZE with
    | true => rfl
    | false =>
      rw [if_neg (by decide), if_neg (by decide), get_set_same _ _ _ (by decide)]
      exact Nat.mod_eq_of_lt (Nat.mod_lt _ (by decide))
  · rw [flag_setFlag_apart _ _ _ (by decide) (by decide)]
    split
    · rfl
    · exact flag_set_apart s _ _ (by decide) (by decide)

theorem restart_completes (l : Lane) (s : State) (hl : s.laneState l = 2 ∨ s.laneState l = 3) (hr : s.flag (Reg.LANE_CFG l) Fld.LANE_CFG_RX_EN) :
    Completes (if s.laneState l = 2 then Instr.adaptTimeout l else Instr.searchTimeout l) s (fun t =>
      t.laneState l = 2 ∧ t.flag (Reg.LANE_STATUS l) Fld.LANE_STATUS_CDR_LOCK = false
      ∧ t.flag (Reg.LANE_STATUS l) Fld.LANE_STATUS_MARKER_LOCK = false
      ∧ t.get (Reg.LANE_EQ l) ⟨0, 22⟩
        = (if s.flag (Reg.LANE_EQ l) Fld.LANE_EQ_FREEZE then s.get (Reg.LANE_EQ l) ⟨0, 22⟩ else s.eqSeed l)
      ∧ t.flag (Reg.LANE_EQ l) Fld.LANE_EQ_FREEZE_ACK = s.flag (Reg.LANE_EQ l) Fld.LANE_EQ_FREEZE
      ∧ t.flag (Reg.LANE_EQ l) Fld.LANE_EQ_FREEZE = s.flag (Reg.LANE_EQ l) Fld.LANE_EQ_FREEZE
      ∧ t.lane l = { s.lane l with cfg := s.reg (Reg.LANE_CFG l), first := none, mark := none, misses := 0, fast := false }
      ∧ (∀ j, j ≠ l.val → t.lane j = s.lane j)
      ∧ KeepsRegs s t (fun a => a = Reg.LANE_STATUS l ∨ a = Reg.LANE_EQ l) ∧ Only [.regs, .lanes] s t) := by
  refine ⟨s.laneAdapt l, exec_restart l s hl, ?_⟩
  obtain ⟨state, cdr, marker, -⟩ := laneAdapt_inAdapt hr
  have step := laneAdapt_step s l
  -- the lane is below LOCKED, so that no scan is aborted
  have e := laneAdapt_of_enabled hr
  rw [abortScan_of_below (by omega)] at e
  have eqs : ∀ f, ((s.latchLane l).adaptStatus l).get (Reg.LANE_EQ l) f = s.get (Reg.LANE_EQ l) f := fun f => by
    rw [get, adaptStatus_reg_other _ l (lane_eq_ne_status l l).symm, reg_latchLane, get]
  obtain ⟨seeds, ack, freeze⟩ := adaptEq_spec ((s.latchLane l).adaptStatus l) l
  have frozen : ((s.latchLane l).adaptStatus l).flag (Reg.LANE_EQ l) Fld.LANE_EQ_FREEZE = s.flag (Reg.LANE_EQ l) Fld.LANE_EQ_FREEZE := by
    rw [flag, eqs, flag]
  have seed : ((s.latchLane l).adaptStatus l).eqSeed l = s.eqSeed l := rfl
  have reg : ∀ a, (s.laneAdapt l).reg a
      = (((s.latchLane l).adaptStatus l).adaptEq l (s.flag (Reg.LANE_EQ l) Fld.LANE_EQ_FREEZE)).reg a := fun a => by
    rw [e]; exact reg_setLane _ _ _ a
  have lane : (((s.latchLane l).adaptStatus l).adaptEq l (s.flag (Reg.LANE_EQ l) Fld.LANE_EQ_FREEZE)).lane l
      = { s.lane l with cfg := s.reg (Reg.LANE_CFG l) } := by
    have latched : ((s.latchLane l).adaptStatus l).lane l = { s.lane l with cfg := s.reg (Reg.LANE_CFG l) } := by
      rw [adaptStatus, lane_setFlag, lane_setFlag, lane_set, latchLane, lane_setLane_same]
    rw [adaptEq, lane_setFlag]
    split
    · exact latched
    · rw [lane_set]; exact latched
  rw [frozen] at seeds ack freeze
  rw [eqs, seed] at seeds
  refine ⟨state, cdr, marker, ?_, ?_, ?_, ?_, step.others, fun a ha => ?_, step.changes.parts⟩
  · rw [get, reg, ← get]; exact seeds
  · rw [flag, get, reg, ← get, ← flag]; exact ack
  · rw [flag, get, reg, ← get, ← flag]; exact freeze
  · rw [e]; dsimp only
    rw [lane_setLane_same, flag_latchLane, lane]
  · obtain ⟨h1, h2⟩ := not_or.1 ha
    rw [reg, adaptEq_reg_other _ _ _ h2, adaptStatus_reg_other _ _ h1, reg_latchLane]

end State

/-- Settles O9: an update is the measurement, the moved taps and FREEZE_ACK; a restart is the start of ADAPT on a lane below LOCKED. -/
theorem laneAdaptationAndFreeze : Obligations.LaneAdaptationAndFreeze := by
  unfold Obligations.LaneAdaptationAndFreeze
  exact ⟨State.adaptationUpdate_completes, State.laneEqFreeze_completes, State.adaptDone_completes, State.restart_completes⟩

end Sys2Proof.Machine
end

section
/-! PROOF. Electrical idle (R66) on a link whose status register stands where LANE_EQ of a 257th lane would (O11). -/

namespace Sys2Proof.Machine

/-- Link 0 is enabled and UP. -/
def upLink : State := { regs := [(Reg.LANE_LINK_STATUS 0, 4)], lanes := { links := [(0, { cfg := 1 })] } }

/-- Refutes O11: its first clause keeps `Reg.LANE_EQ i` for every number `i`, not for the 97 lanes alone, and `Reg.LANE_EQ 256` is the address of
LANE_LINK_STATUS of link 0, whose state EIDLE takes from UP to DOWN, as the same clause says. -/
theorem not_electricalIdleAndEyeScan : ¬ Obligations.ElectricalIdleAndEyeScan := by
  unfold Obligations.ElectricalIdleAndEyeScan
  rintro ⟨eidle, -⟩
  have up : upLink.linkState 0 = 4 := by decide
  obtain ⟨t, -, down, -, -, -, eq, -⟩ := eidle 0 upLink (by decide) up
  have same : t.linkState 0 = upLink.linkState 0 := congrArg Fld.LANE_LINK_STATUS_STATE.of (eq 256)
  have down0 : t.linkState 0 = 0 := down
  omega

end Sys2Proof.Machine
end

section
/-! SUPPORT. Links and their bring-up: what each shared operation on a link leaves alone, and how a lane's loss takes its link along (R58, R64,
R66, R80, R84). -/

namespace Sys2Proof.Machine

namespace State

/-! ### A link outside its registers -/

@[simp] theorem link_setLink_same (s : State) (k : Nat) (x : LinkSt) : (s.setLink k x).link k = x := by
  simp only [link, setLink, mapFind_mapSet_same]

theorem link_setLink_other (s : State) {k j : Nat} (x : LinkSt) (h : j ≠ k) : (s.setLink k x).link j = s.link j := by
  simp only [link, setLink, mapFind_mapSet_other _ _ _ h]

@[simp] theorem reg_setLink (s : State) (k : Nat) (x : LinkSt) (a : Nat) : (s.setLink k x).reg a = s.reg a := (rfl)
@[simp] theorem get_setLink (s : State) (k : Nat) (x : LinkSt) (a : Nat) (f : Fld) : (s.setLink k x).get a f = s.get a f := (rfl)
@[simp] theorem flag_setLink (s : State) (k : Nat) (x : LinkSt) (a : Nat) (f : Fld) : (s.setLink k x).flag a f = s.flag a f := (rfl)
@[simp] theorem linkState_setLink (s : State) (k : Nat) (x : LinkSt) (j : Nat) : (s.setLink k x).linkState j = s.linkState j := (rfl)
@[simp] theorem laneState_setLink (s : State) (k : Nat) (x : LinkSt) (j : Nat) : (s.setLink k x).laneState j = s.laneState j := (rfl)
@[simp] theorem lane_setLink (s : State) (k : Nat) (x : LinkSt) (l : Nat) : (s.setLink k x).lane l = s.lane l := (rfl)
@[simp] theorem link_wr (s : State) (a : Nat) (v : Word) (k : Nat) : (s.wr a v).link k = s.link k := (rfl)
@[simp] theorem link_set (s : State) (a : Nat) (f : Fld) (v k : Nat) : (s.set a f v).link k = s.link k := (rfl)
@[simp] theorem link_linkTo (s : State) (k st j : Nat) : (s.linkTo k st).link j = s.link j := (rfl)
@[simp] theorem lane_linkTo (s : State) (k st j : Nat) : (s.linkTo k st).lane j = s.lane j := (rfl)

theorem linkState_linkTo_same (s : State) (k : Nat) {st : Nat} (h : st < 8) : (s.linkTo k st).linkState k = st :=
  (get_set_same _ _ st (by decide)).trans (Nat.mod_eq_of_lt h)

theorem linkWidth_lt (s : State) (k : Nat) : s.linkWidth k < 32 := Fld.of_lt Fld.LANE_LINK_CFG_WIDTH _

theorem mem_linkLanes {s : State} {k i : Nat} : i ∈ s.linkLanes k ↔ k ≤ i ∧ i < k + s.linkWidth k := by
  simp only [linkLanes, List.mem_map, List.mem_range]
  exact ⟨fun ⟨j, hj, e⟩ => by omega, fun h => ⟨i - k, by omega, by omega⟩⟩

/-- The lanes that a link can name, those past the last lane among them. -/
theorem lt_of_mem_linkLanes {s : State} {k i : Nat} (hk : k < 96) (h : i ∈ s.linkLanes k) : i < 128 := by
  have := (mem_linkLanes.1 h).2
  have := s.linkWidth_lt k
  omega

theorem laneLink_some {s : State} {l k : Nat} (h : s.laneLink l = some k) : k < 96 ∧ s.linkOn k = true ∧ l ∈ s.linkLanes k := by
  have hk : k < 96 := List.mem_range.1 (List.mem_of_find?_eq_some h)
  have hp := List.find?_some h
  simp only [Bool.and_eq_true, decide_eq_true_eq] at hp
  exact ⟨hk, hp.1.1, mem_linkLanes.2 ⟨hp.1.2, hp.2⟩⟩

end State

theorem Only.link {ps : List Part} {s t : State} (h : Only ps s t) (hp : Part.links ∉ ps) (k : Nat) : t.link k = s.link k := by
  have same : t.lanes.links = s.lanes.links := h .links hp
  simp only [State.link, same]

/-! ### Steps over a list -/

/-- What one step over an item of a list brings about, and every step keeps, holds after the steps over the list. -/
theorem State.each_reaches {α : Type} {J K : State → Prop} {f : State → α → State} {l : List α} {x : α} (hx : x ∈ l)
    (keepsK : ∀ s y, K s → K (f s y)) (keepsJ : ∀ s y, J s → J (f s y)) (reach : ∀ s, K s → J (f s x)) {s : State} (hs : K s) : J (s.each l f) := by
  induction l generalizing s with
  | nil => simp at hx
  | cons y l ih =>
    rcases List.mem_cons.1 hx with rfl | hx
    · exact State.each_induct (J := J) l (fun s z _ => keepsJ s z) (reach s hs)
    · exact ih hx (keepsK s y hs)

/-! ### The registers of a bring-up -/

/-- The registers that the bring-up or the loss of links may change: those of lanes, the status and the framing counter of links, what shows them
to the weave and the twin pair, and those of some events. -/
def BringRegs (es : List Nat) (a : Nat) : Prop :=
  (∃ i < 128, LaneRegs i a) ∨ (∃ k < 96, a = Reg.LANE_LINK_STATUS k ∨ a = Reg.LANE_LINK_COUNT k 0) ∨ a = Reg.WEAVE_STATUS
    ∨ a = Reg.TWIN_STATUS ∨ ∃ e ∈ es, EventRegs e a

/-- What such a step touches. -/
def bringParts : List Part := ([.lanes, .links] : List Part) ++ eventParts

namespace BringRegs

variable {es fs : List Nat} {a : Nat}

theorem lane {i : Nat} (hi : i < 128) (h : LaneRegs i a) : BringRegs es a := .inl ⟨i, hi, h⟩
theorem status {k : Nat} (hk : k < 96) (h : a = Reg.LANE_LINK_STATUS k) : BringRegs es a := .inr (.inl ⟨k, hk, .inl h⟩)
theorem framing {k : Nat} (hk : k < 96) (h : a = Reg.LANE_LINK_COUNT k 0) : BringRegs es a := .inr (.inl ⟨k, hk, .inr h⟩)
theorem shown (h : a = Reg.WEAVE_STATUS ∨ a = Reg.TWIN_STATUS) : BringRegs es a := .inr (.inr (h.imp_right .inl))
theorem event {e : Nat} (he : e ∈ es) (h : EventRegs e a) : BringRegs es a := .inr (.inr (.inr (.inr ⟨e, he, h⟩)))

theorem mono (h : BringRegs es a) (hs : ∀ e ∈ es, e ∈ fs) : BringRegs fs a :=
  h.imp_right (Or.imp_right (Or.imp_right (Or.imp_right fun ⟨e, he, k⟩ => ⟨e, hs e he, k⟩)))

/-- As the obligations name them. -/
theorem stated (h : BringRegs es a) (hs : ∀ e ∈ es, e < 2048) :
    Between 0x200000 0x23FFFF a ∨ AnyEventRegs a ∨ a = Reg.WEAVE_STATUS ∨ a = Reg.TWIN_STATUS := by
  rcases h with ⟨i, hi, h⟩ | ⟨k, hk, h⟩ | h | h | ⟨e, he, h⟩
  · exact .inl (laneRegs_between hi h)
  · left; simp only [Between, Reg.LANE_LINK_STATUS, Reg.LANE_LINK_COUNT] at *; omega
  · exact .inr (.inr (.inl h))
  · exact .inr (.inr (.inr h))
  · exact .inr (.inl ⟨e, hs e he, h⟩)

/-- The counter of another event is none of them. -/
theorem not_count {e : Nat} (he : e < 2048) (hs : ∀ d ∈ es, d < 2048) (hn : e ∉ es) : ¬ BringRegs es (Reg.EVT_SRC_CNT e) := by
  rintro (⟨i, hi, h⟩ | ⟨k, hk, h⟩ | h | h | ⟨d, hd, h⟩)
  · exact not_laneRegs_of_range hi (.inl (by simp only [Reg.EVT_SRC_CNT]; omega)) h
  · simp only [Reg.EVT_SRC_CNT, Reg.LANE_LINK_STATUS, Reg.LANE_LINK_COUNT] at h; omega
  · simp only [Reg.EVT_SRC_CNT, Reg.WEAVE_STATUS] at h; omega
  · simp only [Reg.EVT_SRC_CNT, Reg.TWIN_STATUS] at h; omega
  · have lt := hs d hd
    have ne : d ≠ e := fun k => hn (k ▸ hd)
    simp only [EventRegs, Reg.EVT_SRC_CNT, Reg.EVT_SRC_CFG, Reg.EVT_STATUS] at h; omega

/-- Nor are a lane's FEC counts. -/
theorem not_fec {l : Nat} (hl : l < 97) (ha : a = Reg.LANE_FEC_CORR l ∨ a = Reg.LANE_FEC_UNCORR l) (hs : ∀ d ∈ es, d < 2048) : ¬ BringRegs es a := by
  rintro (⟨i, hi, h⟩ | ⟨k, hk, h⟩ | h | h | ⟨d, hd, h⟩)
  · simp only [LaneRegs, Reg.LANE_STATUS, Reg.LANE_EQ, Reg.LANE_EYE_CTL, Reg.LANE_EYE_RESULT, Reg.LANE_FEC_CORR, Reg.LANE_FEC_UNCORR] at *; omega
  · simp only [Reg.LANE_LINK_STATUS, Reg.LANE_LINK_COUNT, Reg.LANE_FEC_CORR, Reg.LANE_FEC_UNCORR] at *; omega
  · simp only [Reg.WEAVE_STATUS, Reg.LANE_FEC_CORR, Reg.LANE_FEC_UNCORR] at *; omega
  · simp only [Reg.TWIN_STATUS, Reg.LANE_FEC_CORR, Reg.LANE_FEC_UNCORR] at *; omega
  · have lt := hs d hd
    simp only [EventRegs, Reg.EVT_SRC_CNT, Reg.EVT_SRC_CFG, Reg.EVT_STATUS, Reg.LANE_FEC_CORR, Reg.LANE_FEC_UNCORR] at *; omega

end BringRegs

/-! The registers of events lie below those of lanes and links. -/

theorem not_eventRegs_of_lane {e a : Nat} (he : e < 2048) (ha : 0x200000 ≤ a) : ¬ EventRegs e a := by
  simp only [EventRegs, Reg.EVT_SRC_CNT, Reg.EVT_SRC_CFG, Reg.EVT_STATUS]; omega

theorem status_not_eventRegs {e : Nat} (he : e < 2048) (l : Nat) : ¬ EventRegs e (Reg.LANE_STATUS l) :=
  not_eventRegs_of_lane he (by simp only [Reg.LANE_STATUS]; omega)

theorem cfg_not_eventRegs {e : Nat} (he : e < 2048) (l : Nat) : ¬ EventRegs e (Reg.LANE_CFG l) :=
  not_eventRegs_of_lane he (by simp only [Reg.LANE_CFG]; omega)

theorem linkStatus_not_eventRegs {e : Nat} (he : e < 2048) (k : Nat) : ¬ EventRegs e (Reg.LANE_LINK_STATUS k) :=
  not_eventRegs_of_lane he (by simp only [Reg.LANE_LINK_STATUS]; omega)

theorem linkCount_not_eventRegs {e : Nat} (he : e < 2048) (k n : Nat) : ¬ EventRegs e (Reg.LANE_LINK_COUNT k n) :=
  not_eventRegs_of_lane he (by simp only [Reg.LANE_LINK_COUNT]; omega)

/-- An event's counter is its own. -/
theorem count_not_eventRegs {e d : Nat} (he : e < 2048) (hd : d < 2048) (h : d ≠ e) : ¬ EventRegs d (Reg.EVT_SRC_CNT e) := by
  simp only [EventRegs, Reg.EVT_SRC_CNT, Reg.EVT_SRC_CFG, Reg.EVT_STATUS]; omega

namespace State

/-! ### Frames -/

end State

theorem LaneStep.bring {l : Nat} {s t : State} (h : LaneStep l s t) (hl : l < 128) (es : List Nat) : Changes bringParts (BringRegs es) s t :=
  h.changes.mono (by decide) fun _ => BringRegs.lane hl

namespace State

theorem setLink_bring (s : State) (k : Nat) (x : LinkSt) (es : List Nat) : Changes bringParts (BringRegs es) s (s.setLink k x) :=
  (Changes.of_only (only_setLink s k x) (by decide)).mono (by decide) fun _ h => h

theorem linkTo_bring (s : State) {k : Nat} (hk : k < 96) (st : Nat) (es : List Nat) : Changes bringParts (BringRegs es) s (s.linkTo k st) :=
  (changes_set s _ _ _).mono (by decide) fun _ => BringRegs.status hk

theorem raise_bring (s : State) {e : Nat} (d : Nat) {es : List Nat} (he : e ∈ es) : Changes bringParts (BringRegs es) s (s.raise e d) :=
  (changes_raise s e d).mono (by decide) fun _ => BringRegs.event he

theorem showWeave_changes (s : State) : Changes [.regs] (· = Reg.WEAVE_STATUS) s s.showWeave := by
  unfold showWeave; dsimp only
  split
  · exact .refl _ _ s
  · split
    · exact changes_set s _ _ _
    · split
      · exact .refl _ _ s
      · split
        · exact changes_set s _ _ _
        · exact changes_set s _ _ _

/-- Showing the links changes WEAVE_STATUS and TWIN_STATUS only. -/
theorem showLinks_changes (s : State) : Changes [.regs] (fun a => a = Reg.WEAVE_STATUS ∨ a = Reg.TWIN_STATUS) s s.showLinks := by
  unfold showLinks; dsimp only
  have weave : Changes [.regs] (fun a => a = Reg.WEAVE_STATUS ∨ a = Reg.TWIN_STATUS) s (if s.partners.isEmpty = true then s
      else s.set Reg.WEAVE_STATUS Fld.WEAVE_STATUS_PEERS_UP
        (s.partners.zipIdx.map (fun x => if (s.weaveLink x.1).any (fun k => s.linkState k == 4) then 2 ^ x.2 else 0)).sum).showWeave := by
    refine Changes.trans ?_ ((showWeave_changes _).mono (fun _ h => h) fun _ => .inl)
    split
    · exact .refl _ _ s
    · exact (changes_set s _ _ _).mono (fun _ h => h) fun _ => .inl
  split
  · exact weave.trans ((changes_setFlag _ _ _ _).mono (fun _ h => h) fun _ => .inr)
  · exact weave

theorem showLinks_bring (s : State) (es : List Nat) : Changes bringParts (BringRegs es) s s.showLinks :=
  (showLinks_changes s).mono (by decide) fun _ => BringRegs.shown

theorem showLinks_reg (s : State) {a : Nat} (h : a < 0x2300000) : s.showLinks.reg a = s.reg a :=
  (showLinks_changes s).regs a (by simp only [Reg.WEAVE_STATUS, Reg.TWIN_STATUS]; omega)

theorem showLinks_linkState (s : State) {k : Nat} (hk : k < 96) : s.showLinks.linkState k = s.linkState k := by
  rw [linkState, get, showLinks_reg s (by simp only [Reg.LANE_LINK_STATUS]; omega), linkState, get]

theorem linkBringUp_eq (s : State) (k st : Nat) :
    s.linkBringUp k st = ((s.latchLink k (s.linkOn k)).each ((s.latchLink k (s.linkOn k)).linkLanes k) laneAdapt).linkTo k st := rfl

theorem lanesAdapt_bring (s u : State) {k : Nat} (hk : k < 96) (es : List Nat) :
    Changes bringParts (BringRegs es) s (s.each (u.linkLanes k) laneAdapt) :=
  Changes.each _ (fun s i hi => (laneAdapt_step s i).bring (lt_of_mem_linkLanes hk hi) es) s

theorem linkBringUp_bring (s : State) {k : Nat} (hk : k < 96) (st : Nat) (es : List Nat) : Changes bringParts (BringRegs es) s (s.linkBringUp k st) := by
  rw [linkBringUp_eq]
  exact ((setLink_bring s k _ es).trans (lanesAdapt_bring _ _ hk es)).trans (linkTo_bring _ hk st es)

theorem retrain_bring (s : State) {k : Nat} (hk : k < 96) {es : List Nat} (he : Ev.BALRAN_RETRAIN ∈ es) :
    Changes bringParts (BringRegs es) s (s.retrain k) :=
  (((setLink_bring s k _ es).trans (linkBringUp_bring _ hk 5 es)).trans (raise_bring _ _ he)).trans (showLinks_bring _ es)

/-- The events of a link that goes down. -/
def lossEvents : List Nat := [Ev.LINK_DOWN, Ev.BALRAN_RETRAIN]

/-- On an ingest link the other lanes return to LOCKED. -/
def relock (s : State) (i : Nat) : State := if s.laneState i = 5 then s.laneTo i 4 else s

theorem relock_step (s : State) (i : Nat) : LaneStep i s (s.relock i) := by
  unfold relock; split
  · exact laneTo_step s i 4
  · exact .refl i s

theorem linkDown_ingest {s : State} {k l : Nat} (cut : Bool) (h : (s.raise Ev.LINK_DOWN (k + l * 2 ^ 8)).linkBidir k = false) :
    s.linkDown k l cut =
      let u := if cut then (s.raise Ev.LINK_DOWN (k + l * 2 ^ 8)).count (Reg.LANE_LINK_COUNT k 0) else s.raise Ev.LINK_DOWN (k + l * 2 ^ 8)
      let v := u.each (u.linkLanes k) relock
      (v.latchLink k (v.linkOn k)).linkTo k 1 := by
  unfold linkDown; dsimp only
  rw [if_neg (by rw [h]; decide)]
  rfl

theorem linkDown_bidir {s : State} {k l : Nat} (cut : Bool) (h : (s.raise Ev.LINK_DOWN (k + l * 2 ^ 8)).linkBidir k = true) :
    s.linkDown k l cut = (s.raise Ev.LINK_DOWN (k + l * 2 ^ 8)).retrain k := by
  unfold linkDown; dsimp only
  rw [if_pos h]

theorem countIf_bring (s : State) {k : Nat} (hk : k < 96) (cut : Bool) (es : List Nat) :
    Changes bringParts (BringRegs es) s (if cut then s.count (Reg.LANE_LINK_COUNT k 0) else s) := by
  split
  · exact (changes_count s _ _).mono (by decide) fun _ => BringRegs.framing hk
  · exact .refl _ _ s

theorem linkDown_bring (s : State) {k : Nat} (hk : k < 96) (l : Nat) (cut : Bool) : Changes bringParts (BringRegs lossEvents) s (s.linkDown k l cut) := by
  have raised : Changes bringParts (BringRegs lossEvents) s (s.raise Ev.LINK_DOWN (k + l * 2 ^ 8)) := raise_bring s _ (by decide)
  cases hb : (s.raise Ev.LINK_DOWN (k + l * 2 ^ 8)).linkBidir k with
  | true => rw [linkDown_bidir cut hb]; exact raised.trans (retrain_bring _ hk (by decide))
  | false =>
    rw [linkDown_ingest cut hb]
    exact (((raised.trans (countIf_bring _ hk cut _)).trans (Changes.each _
      (fun s i hi => (relock_step s i).bring (lt_of_mem_linkLanes hk hi) lossEvents) _)).trans (setLink_bring _ k _ _)).trans (linkTo_bring _ hk 1 _)

theorem laneLost_bring (s : State) {l : Nat} (hl : l < 97) (cut : Bool) : Changes bringParts (BringRegs lossEvents) s (s.laneLost l cut) := by
  have adapt := (laneAdapt_step s l).bring (show l < 128 by omega) lossEvents
  unfold laneLost; dsimp only
  split
  · rename_i k hk
    split
    · exact adapt.trans (linkDown_bring _ (laneLink_some hk).1 l cut)
    · exact adapt
  · exact adapt

/-! ### A lane that has started its bring-up stays in ADAPT -/

namespace InAdapt

variable {l : Nat} {s t : State}

theorem of_changes {ps : List Part} {P : Nat → Prop} (h : InAdapt l s) (k : Changes ps P s t) (h1 : ¬ P (Reg.LANE_STATUS l))
    (h2 : ¬ P (Reg.LANE_CFG l)) : InAdapt l t := h.of_reg (k.regs _ h1) (k.regs _ h2)

theorem setLink (h : InAdapt l s) (k : Nat) (x : LinkSt) : InAdapt l (s.setLink k x) := h.of_reg (reg_setLink s k x _) (reg_setLink s k x _)

theorem raise (h : InAdapt l s) {e : Nat} (he : e < 2048) (d : Nat) : InAdapt l (s.raise e d) :=
  h.of_changes (changes_raise s e d) (status_not_eventRegs he l) (cfg_not_eventRegs he l)

theorem linkTo (h : InAdapt l s) (k st : Nat) : InAdapt l (s.linkTo k st) := by
  refine h.of_changes (changes_set s _ _ _) ?_ ?_ <;> simp only [Reg.LANE_LINK_STATUS, Reg.LANE_STATUS, Reg.LANE_CFG] <;> omega

theorem showLinks (h : InAdapt l s) (hl : l < 128) : InAdapt l s.showLinks :=
  h.of_reg (showLinks_reg s (by simp only [Reg.LANE_STATUS]; omega)) (showLinks_reg s (by simp only [Reg.LANE_CFG]; omega))

theorem linkBringUp (h : InAdapt l s) (k st : Nat) : InAdapt l (s.linkBringUp k st) := by
  rw [linkBringUp_eq]
  exact (each_induct _ (fun s i _ h => h.laneAdapt i) (h.setLink k _)).linkTo k st

theorem retrain (h : InAdapt l s) (hl : l < 128) (k : Nat) : InAdapt l (s.retrain k) :=
  (((h.setLink k _).linkBringUp k 5).raise (by decide) k).showLinks hl

theorem relock (h : InAdapt l s) (i : Nat) : InAdapt l (s.relock i) := by
  by_cases hi : i = l
  · subst hi
    rwa [State.relock, if_neg (by rw [h.state]; decide)]
  · exact h.of_changes (relock_step s i).changes (fun k => hi (laneRegs_status_iff.1 k).symm) (not_laneRegs_cfg i l)

theorem linkDown (h : InAdapt l s) (hl : l < 128) (k j : Nat) (cut : Bool) : InAdapt l (s.linkDown k j cut) := by
  have raised : InAdapt l (s.raise Ev.LINK_DOWN (k + j * 2 ^ 8)) := h.raise (by decide) _
  cases hb : (s.raise Ev.LINK_DOWN (k + j * 2 ^ 8)).linkBidir k with
  | true => rw [linkDown_bidir cut hb]; exact raised.retrain hl k
  | false =>
    rw [linkDown_ingest cut hb]
    have counted : InAdapt l (if cut then (s.raise Ev.LINK_DOWN (k + j * 2 ^ 8)).count (Reg.LANE_LINK_COUNT k 0)
        else s.raise Ev.LINK_DOWN (k + j * 2 ^ 8)) := by
      split
      · refine raised.of_changes (changes_count _ _ _) ?_ ?_ <;> simp only [Reg.LANE_LINK_COUNT, Reg.LANE_STATUS, Reg.LANE_CFG] <;> omega
      · exact raised
    exact ((each_induct _ (fun s i _ h => h.relock i) counted).setLink k _).linkTo k 1

end InAdapt

/-- A lane whose receiver is enabled is in ADAPT after its loss (R58). -/
theorem laneLost_inAdapt {s : State} {l : Nat} (hl : l < 97) (hr : s.flag (Reg.LANE_CFG l) Fld.LANE_CFG_RX_EN = true) (cut : Bool) :
    InAdapt l (s.laneLost l cut) := by
  have adapt := laneAdapt_inAdapt hr
  unfold laneLost; dsimp only
  split
  · rename_i k hk
    split
    · exact adapt.linkDown (by omega) k l cut
    · exact adapt
  · exact adapt

/-! ### The link of a lane that is lost -/

end State

/-- A lane's step leaves the link of a lane and the registers of links alone. -/
theorem LaneStep.laneLink {l : Nat} {s t : State} (h : LaneStep l s t) (j : Nat) : t.laneLink j = s.laneLink j := by
  have on : ∀ k, t.linkOn k = s.linkOn k := fun k => by rw [State.linkOn, State.linkCfg, h.link, State.linkOn, State.linkCfg]
  have width : ∀ k, t.linkWidth k = s.linkWidth k := fun k => by rw [State.linkWidth, State.linkCfg, h.link, State.linkWidth, State.linkCfg]
  rw [State.laneLink, State.laneLink]
  congr 1
  funext k
  rw [on, width]

theorem LaneStep.linkReg {l : Nat} {s t : State} (h : LaneStep l s t) (hl : l < 128) {a : Nat} (ha : 0x210000 ≤ a) : t.reg a = s.reg a :=
  h.changes.regs a (not_laneRegs_of_range hl (.inr ha))

theorem LaneStep.linkState {l : Nat} {s t : State} (h : LaneStep l s t) (hl : l < 128) (k : Nat) : t.linkState k = s.linkState k :=
  h.changes.get_eq (not_laneRegs_of_range hl (.inr (by simp only [Reg.LANE_LINK_STATUS]; omega))) _

namespace State

theorem linkState_retrain (s : State) {k : Nat} (hk : k < 96) : (s.retrain k).linkState k = 5 := by
  unfold retrain; dsimp only
  rw [showLinks_linkState _ hk, linkState, get, raise_reg _ _ _ (linkStatus_not_eventRegs (by decide) k), ← get, ← linkState, linkBringUp_eq,
    linkState_linkTo_same _ _ (by decide)]

theorem linkBidir_of_links {s t : State} (h : ∀ k, t.link k = s.link k) (k : Nat) : t.linkBidir k = s.linkBidir k := by
  rw [linkBidir, linkCfg, h, linkBidir, linkCfg]

/-- A link that goes down (R64, R80): its state, the event, and on an ingest link the packet in progress. -/
theorem linkDown_spec (s : State) {k : Nat} (hk : k < 96) (l : Nat) (cut : Bool) :
    (s.linkDown k l cut).linkState k = (if s.linkBidir k then 5 else 1) ∧ Counted s (s.linkDown k l cut) Ev.LINK_DOWN
      ∧ (s.linkBidir k = false → (s.linkDown k l cut).full (Reg.LANE_LINK_COUNT k 0)
          = (if cut then min (s.full (Reg.LANE_LINK_COUNT k 0) + 1) (2 ^ 32 - 1) else s.full (Reg.LANE_LINK_COUNT k 0))) := by
  have raised := changes_raise s Ev.LINK_DOWN (k + l * 2 ^ 8)
  have counted : Counted s (s.raise Ev.LINK_DOWN (k + l * 2 ^ 8)) Ev.LINK_DOWN := (raise_occurs s _ (by decide)).1
  have bidir := linkBidir_of_links (raised.parts.link (by decide)) k
  cases hb : s.linkBidir k with
  | true =>
    rw [linkDown_bidir cut (bidir.trans hb)]
    have r := retrain_bring (s.raise Ev.LINK_DOWN (k + l * 2 ^ 8)) hk (es := [Ev.BALRAN_RETRAIN]) (by decide)
    exact ⟨linkState_retrain _ hk, counted_then counted (r.full_eq (BringRegs.not_count (by decide) (by decide) (by decide))), nofun⟩
  | false =>
    rw [linkDown_ingest cut (bidir.trans hb)]
    generalize s.raise Ev.LINK_DOWN (k + l * 2 ^ 8) = u at raised counted ⊢
    have first := raised.full_eq (linkCount_not_eventRegs (by decide) k 0)
    obtain ⟨v, hv, framing, events⟩ : ∃ v, v = (if cut then u.count (Reg.LANE_LINK_COUNT k 0) else u)
        ∧ v.full (Reg.LANE_LINK_COUNT k 0) = (if cut then min (s.full (Reg.LANE_LINK_COUNT k 0) + 1) (2 ^ 32 - 1)
          else s.full (Reg.LANE_LINK_COUNT k 0))
        ∧ v.full (Reg.EVT_SRC_CNT Ev.LINK_DOWN) = u.full (Reg.EVT_SRC_CNT Ev.LINK_DOWN) := by
      refine ⟨_, rfl, ?_, (countIf_bring u hk cut []).full_eq (BringRegs.not_count (by decide) (by decide) (by decide))⟩
      cases cut with
      | true => rw [if_pos rfl, if_pos rfl, full_count_same, first]
      | false => exact first
    dsimp only
    rw [← hv]
    have lanes : Changes [.regs, .lanes] (fun a => ∃ i < 128, LaneRegs i a) v (v.each (v.linkLanes k) relock) :=
      Changes.each _ (fun s i hi => (relock_step s i).changes.mono (fun _ h => h) fun _ h => ⟨i, lt_of_mem_linkLanes hk hi, h⟩) v
    have tail : ∀ a, a ≠ Reg.LANE_LINK_STATUS k → (∀ i < 128, ¬ LaneRegs i a) →
        (((v.each (v.linkLanes k) relock).latchLink k ((v.each (v.linkLanes k) relock).linkOn k)).linkTo k 1).full a = v.full a := fun a h1 h2 => by
      rw [full, linkTo, reg_set_other _ _ _ h1, latchLink, reg_setLink, lanes.regs a (fun ⟨i, hi, h⟩ => h2 i hi h), full]
    refine ⟨linkState_linkTo_same _ _ (by decide), counted_then counted ?_, fun _ => ?_⟩
    · rw [tail _ (by simp only [Reg.EVT_SRC_CNT, Reg.LANE_LINK_STATUS, Ev.LINK_DOWN]; omega)
        (fun i hi => not_laneRegs_of_range hi (.inl (by decide))), events]
    · rw [tail _ (by simp only [Reg.LANE_LINK_COUNT, Reg.LANE_LINK_STATUS]; omega)
        (fun i hi => not_laneRegs_of_range hi (.inr (by simp only [Reg.LANE_LINK_COUNT]; omega))), framing]

/-- A lane that leaves UP takes its UP link down. -/
theorem laneLost_link {s : State} {l k : Nat} (hl : l < 97) (hk : s.laneLink l = some k) (h5 : s.laneState l = 5) (h4 : s.linkState k = 4) (cut : Bool) :
    (s.laneLost l cut).linkState k = (if s.linkBidir k then 5 else 1) ∧ Counted s (s.laneLost l cut) Ev.LINK_DOWN
      ∧ (s.linkBidir k = false → (s.laneLost l cut).full (Reg.LANE_LINK_COUNT k 0)
          = (if cut then min (s.full (Reg.LANE_LINK_COUNT k 0) + 1) (2 ^ 32 - 1) else s.full (Reg.LANE_LINK_COUNT k 0))) := by
  have step := laneAdapt_step s l
  have lt : l < 128 := by omega
  obtain ⟨state, counted, framing⟩ := (s.laneAdapt l).linkDown_spec (laneLink_some hk).1 l cut
  have e : s.laneLost l cut = (s.laneAdapt l).linkDown k l cut := by
    unfold laneLost; dsimp only
    rw [step.laneLink, hk]
    exact if_pos ⟨h5, .inl ((step.linkState lt k).trans h4)⟩
  have bidir := linkBidir_of_links step.link k
  have sys : (s.laneAdapt l).sys = s.sys := step.changes.parts .sys (by decide)
  rw [← e] at state counted framing
  rw [bidir] at state framing
  refine ⟨state, fun hk => ?_, fun h => ?_⟩
  · rw [counted (by rw [sys]; exact hk), step.changes.full_eq (not_laneRegs_of_range lt (.inl (by decide)))]
  · rw [framing h, step.changes.full_eq (not_laneRegs_of_range lt (.inr (by simp only [Reg.LANE_LINK_COUNT]; omega)))]

end State

end Sys2Proof.Machine
end

section
/-! SUPPORT. Alignment markers: what a marker position touches, on a lane of the PCS and on one that carries Balran (R58–R62, R67, R69). -/

namespace Sys2Proof.Machine

theorem Only.each {α : Type} {ps : List Part} {f : State → α → State} (l : List α) (h : ∀ s, ∀ x ∈ l, Only ps s (f s x)) (s : State) :
    Only ps s (s.each l f) := by
  induction l generalizing s with
  | nil => exact .refl ps s
  | cons x l ih =>
    exact (h s x List.mem_cons_self).trans (ih (fun s y hy => h s y (List.mem_cons_of_mem x hy)) (f s x))

namespace State

/-! ### The own transmitter's markers -/

theorem only_sendCtrl (s : State) (l : Nat) (b : List Byte) : Only [.outCtrl] s (s.sendCtrl l b) := by
  unfold sendCtrl; split
  · exact only_out_ctrl s _
  · exact .refl _ s

theorem only_sendMarkers (s : State) (k : Nat) : Only [.links, .outCtrl] s (s.sendMarkers k) :=
  ((Only.each _ (fun s _ _ => only_sendCtrl s _ _) s).mono (by decide)).trans ((only_setLink _ k _).mono (by decide))

theorem only_ownMarkers (s : State) (l : Nat) : Only [.links, .outFlits, .outCtrl] s (s.ownMarkers l) := by
  have sent := (only_sendMarkers s l).mono (qs := [.links, .outFlits, .outCtrl]) (by decide)
  unfold ownMarkers; dsimp only
  split
  · split
    · exact sent.trans ((only_emitFlit _ _ _ _ _ _).mono (by decide))
    · exact sent
  · exact .refl _ s

/-! ### Frames -/

/-- What a marker touches beside the own transmitter's control blocks. -/
def markerParts : List Part := Part.outFlits :: bringParts

/-- The events of a marker position. -/
def markerEvents : List Nat := [Ev.LANE_MARKER_MISS, Ev.LANE_ORDER, Ev.DESKEW_FAIL] ++ lossEvents

/-- What a marker position may change after the counts of its FEC and the own transmitter's markers. -/
abbrev Marked (s t : State) : Prop := Changes markerParts (BringRegs markerEvents) s t

theorem marked_of_bring {s t : State} {es : List Nat} (h : Changes bringParts (BringRegs es) s t) (hs : ∀ e ∈ es, e ∈ markerEvents) :
    Marked s t := h.mono (fun _ => List.mem_cons_of_mem _) fun _ k => k.mono hs

end State

theorem LaneStep.marked {l : Nat} {s t : State} (h : LaneStep l s t) (hl : l < 128) : State.Marked s t :=
  State.marked_of_bring (h.bring hl State.markerEvents) fun _ h => h

namespace State

theorem setLane_marked (s : State) {l : Nat} (hl : l < 128) (x : LaneSt) : Marked s (s.setLane l x) := (LaneStep.of_setLane s l x).marked hl

theorem setStatus_marked (s : State) {l : Nat} (hl : l < 128) (f : Fld) (v : Nat) : Marked s (s.set (Reg.LANE_STATUS l) f v) :=
  (LaneStep.of_set s f v (.inl rfl)).marked hl

theorem setLinkStatus_marked (s : State) {k : Nat} (hk : k < 96) (f : Fld) (v : Nat) : Marked s (s.set (Reg.LANE_LINK_STATUS k) f v) :=
  marked_of_bring ((changes_set s _ f v).mono (by decide) fun _ => BringRegs.status hk) fun _ h => h

theorem raise_marked (s : State) {e : Nat} (d : Nat) (he : e ∈ markerEvents) : Marked s (s.raise e d) :=
  marked_of_bring (raise_bring s d he) fun _ h => h

theorem emitFlit_marked (s : State) (k type vc seq : Nat) (p : List Byte) : Marked s (s.emitFlit k type vc seq p) :=
  (Changes.of_only (only_emitFlit s k type vc seq p) (by decide)).mono (by decide) fun _ h => h

theorem linkLanes_marked (s u : State) {k : Nat} (hk : k < 96) {f : State → Nat → State} (hf : ∀ s i, LaneStep i s (f s i)) :
    Marked s (s.each (u.linkLanes k) f) :=
  Changes.each _ (fun s i hi => (hf s i).marked (lt_of_mem_linkLanes hk hi)) s

theorem laneLost_marked (s : State) {l : Nat} (hl : l < 97) (cut : Bool) : Marked s (s.laneLost l cut) :=
  marked_of_bring (laneLost_bring s hl cut) (by decide)

theorem pcsMarker_marked (s : State) {l : Nat} (hl : l < 97) (m : MarkerView) : Marked s (s.pcsMarker l m) := by
  have lt : l < 128 := by omega
  unfold pcsMarker
  split
  · exact ((laneTo_step s l 4).marked lt).trans (setStatus_marked _ lt _ _)
  · exact ((laneTo_step s l 3).marked lt).trans (setStatus_marked _ lt _ _)
  · exact laneLost_marked s hl _
  · exact .refl _ _ s

/-- A lane of a link comes UP after a fast exit. -/
def fastUp (s : State) (i : Nat) : State := (s.laneTo i 5).setLane i { s.lane i with fast := false }

theorem fastUp_step (s : State) (i : Nat) : LaneStep i s (s.fastUp i) := (laneTo_step s i 5).trans (.of_setLane _ i _)

theorem fastMarker_marked (s : State) {l k : Nat} (hl : l < 97) (hk : k < 96) (m : MarkerView) : Marked s (s.fastMarker l k m) := by
  have lt : l < 128 := by omega
  unfold fastMarker; dsimp only
  split
  · have locked (x : LaneSt) : Marked s ((s.laneTo l 4).setLane l x) := ((laneTo_step s l 4).marked lt).trans (setLane_marked _ lt x)
    split
    · exact (((locked _).trans (linkLanes_marked _ _ hk fastUp_step)).trans (setLinkStatus_marked _ hk _ _)).trans
        (marked_of_bring (showLinks_bring _ markerEvents) fun _ h => h)
    · exact locked _
  · exact marked_of_bring (linkBringUp_bring s hk 1 markerEvents) fun _ h => h

/-! ### A lane locks onto its markers -/

/-- A lane as it locks, before its link is looked at. -/
def lockLane (s : State) (l : Nat) (b : List Byte) : State :=
  let u := (((s.laneTo l 4).setFlag (Reg.LANE_STATUS l) Fld.LANE_STATUS_MARKER_LOCK true).setFlag (Reg.LANE_STATUS l)
    Fld.LANE_STATUS_RX_INVERTED (markerImage b)).set (Reg.LANE_STATUS l) Fld.LANE_STATUS_MARKER_LANE (markerPos (markerRead b))
  u.setLane l { u.lane l with first := none, mark := none, count := markerCount (markerRead b), misses := 0, fast := false }

theorem markerLock_eq (s : State) (l : Nat) (b : List Byte) :
    s.markerLock l b = match (s.lockLane l b).laneLink l with
      | some k => if ((s.lockLane l b).linkLanes k).all (fun i => 4 ≤ (s.lockLane l b).laneState i) ∧ (s.lockLane l b).linkState k ≠ 6
          then (s.lockLane l b).linkTo k 2 else s.lockLane l b
      | none => s.lockLane l b := rfl

theorem lockLane_step (s : State) (l : Nat) (b : List Byte) : LaneStep l s (s.lockLane l b) :=
  ((((laneTo_step s l 4).trans (.of_setFlag _ _ _ (.inl rfl))).trans (.of_setFlag _ _ _ (.inl rfl))).trans (.of_set _ _ _ (.inl rfl))).trans
    (.of_setLane _ l _)

theorem markerLock_cases (s : State) {l : Nat} (b : List Byte) :
    s.markerLock l b = s.lockLane l b ∨ ∃ k < 96, s.markerLock l b = (s.lockLane l b).linkTo k 2 := by
  rw [markerLock_eq]
  split
  · rename_i k hk
    split
    · exact .inr ⟨k, (laneLink_some hk).1, rfl⟩
    · exact .inl rfl
  · exact .inl rfl

theorem markerLock_marked (s : State) {l : Nat} (hl : l < 97) (b : List Byte) : Marked s (s.markerLock l b) := by
  have locked := (lockLane_step s l b).marked (show l < 128 by omega)
  rcases s.markerLock_cases b with e | ⟨k, hk, e⟩ <;> rw [e]
  · exact locked
  · exact locked.trans (setLinkStatus_marked _ hk _ _)

theorem lockLane_spec (s : State) (l : Nat) (b : List Byte) :
    (s.lockLane l b).laneState l = 4 ∧ (s.lockLane l b).flag (Reg.LANE_STATUS l) Fld.LANE_STATUS_RX_INVERTED = markerImage b
      ∧ (s.lockLane l b).flag (Reg.LANE_STATUS l) Fld.LANE_STATUS_MARKER_LOCK
      ∧ (s.lockLane l b).get (Reg.LANE_STATUS l) Fld.LANE_STATUS_MARKER_LANE = markerPos (markerRead b) := by
  unfold lockLane; dsimp only
  refine ⟨?_, ?_, ?_, ?_⟩
  · rw [laneState_setLane, laneState, get_set_apart _ _ _ (by decide) (by decide), get_setFlag_apart _ _ _ (by decide) (by decide),
      get_setFlag_apart _ _ _ (by decide) (by decide), ← laneState, laneState_laneTo_same _ _ (by decide)]
  · rw [flag_setLane, flag_set_apart _ _ _ (by decide) (by decide), flag_setFlag_same _ _ _ (by decide) (by decide)]
  · rw [flag_setLane, flag_set_apart _ _ _ (by decide) (by decide), flag_setFlag_apart _ _ _ (by decide) (by decide),
      flag_setFlag_same _ _ _ (by decide) (by decide)]
  · rw [get_setLane, get_set_same _ _ _ (by decide)]
    exact Nat.mod_mod _ _

/-- The lane's status after the link is looked at. -/
theorem markerLock_status (s : State) (l : Nat) (b : List Byte) :
    (s.markerLock l b).reg (Reg.LANE_STATUS l) = (s.lockLane l b).reg (Reg.LANE_STATUS l) := by
  rcases s.markerLock_cases b with e | ⟨k, hk, e⟩ <;> rw [e]
  exact reg_set_other _ _ _ (by simp only [Reg.LANE_STATUS, Reg.LANE_LINK_STATUS]; omega)

/-! ### Deskew -/

/-- The markers of a link's lanes are forgotten. -/
def clearMarks (s : State) (ls : List Nat) : State := s.each ls (fun s i => s.setLane i { s.lane i with mark := none })

theorem clearMarks_marked (s u : State) {k : Nat} (hk : k < 96) : Marked s (s.clearMarks (u.linkLanes k)) :=
  linkLanes_marked s u hk fun s i => .of_setLane s i _

/-- The lanes of a deskewed link come UP. -/
def lanesUp (s : State) (k : Nat) : State := s.each (s.linkLanes k) (fun s i => s.laneTo i 5)

/-- A replay that does not resume starts from nothing. -/
def freshReplay (s : State) (k : Nat) : State :=
  let x := s.link k
  if x.resume then s else s.setLink k { x with replay := [], nextSeq := 0, lastAcc := 1023, replaying := none, resend := [], tries := 0 }

theorem deskewed_eq (s : State) (k : Nat) :
    s.deskewed k = if (s.lanesUp k).linkBidir k then
        let u := ((s.lanesUp k).linkTo k 3).freshReplay k
        u.emitFlit k 3 0 0 (u.initPayload k)
      else (s.lanesUp k).linkTo k 4 := rfl

theorem only_freshReplay (s : State) (k : Nat) : Only [.links] s (s.freshReplay k) := by
  unfold freshReplay; dsimp only; split
  · exact .refl _ s
  · exact only_setLink s k _

theorem freshReplay_marked (s : State) (k : Nat) : Marked s (s.freshReplay k) :=
  (Changes.of_only (only_freshReplay s k) (by decide)).mono (by decide) fun _ h => h

theorem deskewed_marked (s : State) {k : Nat} (hk : k < 96) : Marked s (s.deskewed k) := by
  have up : Marked s (s.lanesUp k) := linkLanes_marked s s hk fun s i => laneTo_step s i 5
  rw [deskewed_eq]; dsimp only; split
  · exact ((up.trans (setLinkStatus_marked _ hk _ _)).trans (freshReplay_marked _ k)).trans (emitFlit_marked _ _ _ _ _ _)
  · exact up.trans (setLinkStatus_marked _ hk _ _)

/-- What a property needs so that a deskew keeps it. -/
structure DeskewKeeps (J : State → Prop) (k : Nat) : Prop where
  status : ∀ s f v, J s → J (s.set (Reg.LANE_LINK_STATUS k) f v)
  clear : ∀ s (u : State), J s → J (s.clearMarks (u.linkLanes k))
  raise : ∀ s, ∀ e ∈ markerEvents, ∀ d, J s → J (s.raise e d)
  deskewed : ∀ s, J s → J (s.deskewed k)

theorem DeskewKeeps.deskew {J : State → Prop} {k : Nat} (hJ : DeskewKeeps J k) {s : State} (h : J s) : J (s.deskew k) := by
  unfold State.deskew; dsimp only
  split
  · exact h
  · have h1 := hJ.status s Fld.LANE_LINK_STATUS_PEER_LINK_ID
      (((((s.linkLanes k).filterMap (fun i => (s.lane i).mark)).map (·.bytes)).map markerId).headD 0) h
    split
    · exact hJ.raise _ _ (by decide) k (hJ.clear _ s h1)
    · have h2 := fun v w => hJ.status _ Fld.LANE_LINK_STATUS_REVERSED w (hJ.status _ Fld.LANE_LINK_STATUS_SKEW_UI v h1)
      split
      · exact hJ.raise _ _ (by decide) k (hJ.clear _ s (h2 _ _))
      · split
        · exact hJ.deskewed _ (hJ.clear _ s (h2 _ _))
        · exact h2 _ _

theorem deskew_marked (s : State) {k : Nat} (hk : k < 96) : Marked s (s.deskew k) :=
  DeskewKeeps.deskew (J := Marked s)
    { status := fun _ _ _ h => h.trans (setLinkStatus_marked _ hk _ _)
      clear := fun _ u h => h.trans (clearMarks_marked _ u hk)
      raise := fun _ _ he _ h => h.trans (raise_marked _ _ he)
      deskewed := fun _ h => h.trans (deskewed_marked _ hk) } (.refl _ _ s)

/-- A lane that is LOCKED or UP, with the place and the count that its last marker showed. -/
structure Located (l p c : Nat) (s : State) : Prop where
  state : s.laneState l = 4 ∨ s.laneState l = 5
  place : s.get (Reg.LANE_STATUS l) Fld.LANE_STATUS_MARKER_LANE = p
  count : (s.lane l).count = c

namespace Located

variable {l p c : Nat} {s t : State}

theorem of_eq (h : Located l p c s) (hr : t.reg (Reg.LANE_STATUS l) = s.reg (Reg.LANE_STATUS l)) (hc : (t.lane l).count = (s.lane l).count) :
    Located l p c t := by
  obtain ⟨h1, h2, h3⟩ := h
  refine ⟨?_, ?_, hc.trans h3⟩ <;> simp only [laneState, get, hr] at * <;> assumption

theorem linkStatus (h : Located l p c s) (k : Nat) (f : Fld) (v : Nat) : Located l p c (s.set (Reg.LANE_LINK_STATUS k) f v) :=
  h.of_eq (reg_set_other _ _ _ (by simp only [Reg.LANE_STATUS, Reg.LANE_LINK_STATUS]; omega)) (by rw [lane_set])

theorem raise (h : Located l p c s) {e : Nat} (he : e < 2048) (d : Nat) : Located l p c (s.raise e d) :=
  h.of_eq (raise_reg s e d (status_not_eventRegs he l)) (by rw [(only_raise s e d).lane (by decide)])

theorem clearMarks (h : Located l p c s) (ls : List Nat) : Located l p c (s.clearMarks ls) :=
  each_induct ls (fun s i _ h => h.of_eq (reg_setLane s i _ _) (by
    by_cases hi : l = i
    · subst hi; rw [lane_setLane_same]
    · rw [lane_setLane_other _ _ hi])) h

theorem laneUp (h : Located l p c s) (i : Nat) : Located l p c (s.laneTo i 5) := by
  by_cases hi : i = l
  · subst hi
    have place := (laneTo_keepsFields s i 5 Fld.LANE_STATUS_MARKER_LANE (by decide)).trans h.place
    refine ⟨.inr (laneState_laneTo_same s i (by decide)), place, ?_⟩
    rw [laneTo_of_high _ _ (by decide), lane_set]
    exact h.count
  · have step := laneTo_step s i 5
    exact h.of_eq (step.changes.regs _ fun k => hi (laneRegs_status_iff.1 k).symm) (by rw [step.others l (fun e => hi e.symm)])

theorem of_only {ps : List Part} (h : Located l p c s) (k : Only ps s t) (h1 : Part.regs ∉ ps) (h2 : Part.lanes ∉ ps) : Located l p c t :=
  h.of_eq (k .regs h1 _) (by rw [k.lane h2])

theorem deskewed (h : Located l p c s) (k : Nat) : Located l p c (s.deskewed k) := by
  have up : Located l p c (s.lanesUp k) := each_induct _ (fun s i _ h => h.laneUp i) h
  rw [deskewed_eq]; dsimp only; split
  · exact ((up.linkStatus k _ _).of_only (only_freshReplay _ k) (by decide) (by decide)).of_only (only_emitFlit _ _ _ _ _ _) (by decide) (by decide)
  · exact up.linkStatus k _ _

theorem deskew (h : Located l p c s) (k : Nat) : Located l p c (s.deskew k) :=
  DeskewKeeps.deskew (J := Located l p c)
    { status := fun _ f v h => h.linkStatus k f v
      clear := fun _ u h => h.clearMarks _
      raise := fun _ e he d h => h.raise ((by decide : ∀ e ∈ markerEvents, e < 2048) e he) d
      deskewed := fun _ h => h.deskewed k } h

end Located

end State

end Sys2Proof.Machine
end

section
/-! PROOF. O10 settled: what a marker does on a lane of the PCS and on one that carries Balran, and the loss of a lane. -/

namespace Sys2Proof.Machine

namespace State

/-! ### A lane that carries Balran -/

/-- A marker shown by a LOCKED lane. -/
def shownMarker (s : State) (l : Nat) (b : List Byte) : State :=
  (s.set (Reg.LANE_STATUS l) Fld.LANE_STATUS_MARKER_LANE (markerPos b)).setLane l { s.lane l with count := markerCount b }

theorem shownMarker_step (s : State) (l : Nat) (b : List Byte) : LaneStep l s (s.shownMarker l b) :=
  (LaneStep.of_set s _ _ (.inl rfl)).trans (.of_setLane _ l _)

/-- The marker joins those that the link compares, once its lanes are LOCKED. -/
def compareMarker (s : State) (l : Nat) (m : MarkerView) : State :=
  match s.laneLink l with
  | some k => if (s.linkLanes k).all (fun i => 4 ≤ s.laneState i) then (s.setLane l { s.lane l with mark := some m }).deskew k else s
  | none => s

theorem compareMarker_marked (s : State) {l : Nat} (hl : l < 97) (m : MarkerView) : Marked s (s.compareMarker l m) := by
  unfold compareMarker; split
  · rename_i k hk
    split
    · exact (setLane_marked s (by omega) _).trans (deskew_marked _ (laneLink_some hk).1)
    · exact .refl _ _ s
  · exact .refl _ _ s

theorem Located.compareMarker {l p c : Nat} {s : State} (h : Located l p c s) (m : MarkerView) : Located l p c (s.compareMarker l m) := by
  unfold State.compareMarker; split
  · split
    · exact Located.deskew (h.of_eq (reg_setLane s l _ _) (by rw [lane_setLane_same])) _
    · exact h
  · exact h

theorem shownMarker_located {s : State} {l : Nat} (h : s.laneState l = 4) (b : List Byte) :
    Located l (markerPos b) (markerCount b) (s.shownMarker l b) := by
  unfold shownMarker
  refine ⟨.inl ?_, ?_, by rw [lane_setLane_same]⟩
  · rw [laneState_setLane, laneState, get_set_apart _ _ _ (by decide) (by decide)]; exact h
  · rw [get_setLane, get_set_same _ _ _ (by decide)]
    exact Nat.mod_mod _ _

variable {s : State} {l : Nat} {m : MarkerView}

theorem balranMarker_search (h : s.laneState l = 3) :
    s.balranMarker l m = if 3 < markerErrors (markerRead m.bytes) then s
      else if m.onTime && (s.lane l).first == some (markerImage m.bytes) then s.markerLock l m.bytes
      else s.setLane l { s.lane l with first := some (markerImage m.bytes) } := by
  unfold balranMarker; dsimp only; rw [h]; rfl

theorem balranMarker_locked (h : s.laneState l = 4) :
    s.balranMarker l m = if 3 < markerErrors m.bytes then s else (s.shownMarker l m.bytes).compareMarker l m := by
  unfold balranMarker; dsimp only; rw [h]; rfl

theorem balranMarker_up (h : s.laneState l = 5) :
    s.balranMarker l m = if decide (markerErrors m.bytes ≤ 3) && m.onTime then
        (s.set (Reg.LANE_STATUS l) Fld.LANE_STATUS_MARKER_LANE (markerPos m.bytes)).setLane l
          { s.lane l with count := markerCount m.bytes, misses := 0 }
      else if 2 ≤ (s.lane l).misses then (s.raise Ev.LANE_MARKER_MISS l).laneLost l m.inPacket
      else (s.raise Ev.LANE_MARKER_MISS l).setLane l { s.lane l with misses := (s.lane l).misses + 1 } := by
  unfold balranMarker; dsimp only; rw [h]; rfl

theorem balranMarker_marked (s : State) {l : Nat} (hl : l < 97) (m : MarkerView) : Marked s (s.balranMarker l m) := by
  have lt : l < 128 := by omega
  by_cases h3 : s.laneState l = 3
  · rw [balranMarker_search h3]
    split
    · exact .refl _ _ s
    · split
      · exact markerLock_marked s hl _
      · exact setLane_marked s lt _
  by_cases h4 : s.laneState l = 4
  · rw [balranMarker_locked h4]
    split
    · exact .refl _ _ s
    · exact ((shownMarker_step s l _).marked lt).trans (compareMarker_marked _ hl m)
  by_cases h5 : s.laneState l = 5
  · rw [balranMarker_up h5]
    have missed : Marked s (s.raise Ev.LANE_MARKER_MISS l) := raise_marked s l (by decide)
    split
    · exact (setStatus_marked s lt _ _).trans (setLane_marked _ lt _)
    · split
      · exact missed.trans (laneLost_marked _ hl _)
      · exact missed.trans (setLane_marked _ lt _)
  · unfold balranMarker; dsimp only
    split
    · split
      · exact fastMarker_marked s hl (laneLink_some ‹_›).1 m
      · exact .refl _ _ s
    · exact absurd ‹_› h3
    · exact absurd ‹_› h4
    · exact absurd ‹_› h5
    · exact .refl _ _ s

/-- Two markers in one polarity, a period apart, lock a lane in SEARCH. -/
theorem balranMarker_locks (h : s.laneState l = 3) (he : markerErrors (markerRead m.bytes) ≤ 3) (ht : m.onTime)
    (hf : (s.lane l).first = some (markerImage m.bytes)) :
    (s.balranMarker l m).laneState l = 4
      ∧ (s.balranMarker l m).flag (Reg.LANE_STATUS l) Fld.LANE_STATUS_RX_INVERTED = markerImage m.bytes
      ∧ (s.balranMarker l m).flag (Reg.LANE_STATUS l) Fld.LANE_STATUS_MARKER_LOCK
      ∧ (s.balranMarker l m).get (Reg.LANE_STATUS l) Fld.LANE_STATUS_MARKER_LANE = markerPos (markerRead m.bytes) := by
  have e : s.balranMarker l m = s.markerLock l m.bytes := by
    rw [balranMarker_search h, if_neg (by omega), if_pos (by rw [ht, hf]; simp)]
  have fields : KeepsFields (s.lockLane l m.bytes) (s.markerLock l m.bytes) (Reg.LANE_STATUS l) [] :=
    .of_reg _ (s.markerLock_status l m.bytes)
  obtain ⟨state, inverted, lock, place⟩ := s.lockLane_spec l m.bytes
  rw [e]
  exact ⟨(fields _ nofun).trans state, (fields.flag nofun).trans inverted, (fields.flag nofun).trans lock, (fields _ nofun).trans place⟩

/-- One good marker alone is remembered. -/
theorem balranMarker_first (h : s.laneState l = 3) (he : markerErrors (markerRead m.bytes) ≤ 3)
    (hn : ¬ (m.onTime ∧ (s.lane l).first = some (markerImage m.bytes))) :
    s.balranMarker l m = s.setLane l { s.lane l with first := some (markerImage m.bytes) } := by
  rw [balranMarker_search h, if_neg (by omega), if_neg (by simpa using hn)]

theorem balranMarker_good (h : s.laneState l = 5) (he : markerErrors m.bytes ≤ 3) (ht : m.onTime) :
    (s.balranMarker l m).laneState l = 5 ∧ (s.balranMarker l m).lane l = { s.lane l with count := markerCount m.bytes, misses := 0 } := by
  rw [balranMarker_up h, if_pos (by rw [ht]; simpa using he)]
  refine ⟨?_, by rw [lane_setLane_same]⟩
  rw [laneState_setLane, laneState, get_set_apart _ _ _ (by decide) (by decide)]
  exact h

theorem laneState_raise (s : State) {e : Nat} (he : e < 2048) (d l : Nat) : (s.raise e d).laneState l = s.laneState l :=
  (changes_raise s e d).get_eq (status_not_eventRegs he l) _

/-- A missed marker is counted; the third in a row loses the lane. -/
theorem balranMarker_missed (hl : l < 97) (h : s.laneState l = 5) (hm : 3 < markerErrors m.bytes ∨ m.onTime = false) :
    Counted s (s.balranMarker l m) Ev.LANE_MARKER_MISS
      ∧ ((s.lane l).misses < 2 → (s.balranMarker l m).laneState l = 5
          ∧ (s.balranMarker l m).lane l = { s.lane l with misses := (s.lane l).misses + 1 })
      ∧ (2 ≤ (s.lane l).misses → s.flag (Reg.LANE_CFG l) Fld.LANE_CFG_RX_EN → (s.balranMarker l m).laneState l = 2) := by
  have counted : Counted s (s.raise Ev.LANE_MARKER_MISS l) Ev.LANE_MARKER_MISS := (raise_occurs s l (by decide +kernel)).1
  have state := laneState_raise s (e := Ev.LANE_MARKER_MISS) (by decide) l l
  have cfg := (changes_raise s Ev.LANE_MARKER_MISS l).flag_eq (cfg_not_eventRegs (by decide) l) Fld.LANE_CFG_RX_EN
  rw [balranMarker_up h, if_neg (by rcases hm with hm | hm <;> simp [hm])]
  generalize s.raise Ev.LANE_MARKER_MISS l = u at counted state cfg ⊢
  by_cases h2 : 2 ≤ (s.lane l).misses
  · rw [if_pos h2]
    refine ⟨counted_then counted ((laneLost_bring u hl _).full_eq (BringRegs.not_count (by decide) (by decide) (by decide))), by omega, fun _ hr => ?_⟩
    exact (laneLost_inAdapt hl (cfg.trans hr) _).state
  · rw [if_neg h2]
    exact ⟨counted_then counted (by rw [full, reg_setLane, full]), fun _ => ⟨by rw [laneState_setLane, state, h], by rw [lane_setLane_same]⟩,
      fun k => absurd k h2⟩

/-! ### A lane whose alignment the PCS finds -/

theorem pcsMarker_lock (hp : m.pcsLock) :
    (s.pcsMarker l m).laneState l = (if s.laneState l = 3 then 4 else s.laneState l)
      ∧ (s.laneState l = 3 → (s.pcsMarker l m).flag (Reg.LANE_STATUS l) Fld.LANE_STATUS_MARKER_LOCK) := by
  by_cases h3 : s.laneState l = 3
  · have e : s.pcsMarker l m = (s.laneTo l 4).setFlag (Reg.LANE_STATUS l) Fld.LANE_STATUS_MARKER_LOCK true := by
      unfold pcsMarker; rw [h3, hp]; rfl
    rw [e, if_pos h3]
    refine ⟨?_, fun _ => flag_setFlag_same _ _ _ (by decide) (by decide)⟩
    rw [laneState, get_setFlag_apart _ _ _ (by decide) (by decide), ← laneState, laneState_laneTo_same _ _ (by decide)]
  · have e : s.pcsMarker l m = s := by
      unfold pcsMarker; rw [hp]; split <;> simp_all
    rw [e, if_neg h3]
    exact ⟨rfl, fun k => absurd k h3⟩

theorem pcsMarker_unlock (hp : m.pcsLock = false) (h4 : s.laneState l = 4) :
    (s.pcsMarker l m).laneState l = 3 ∧ (s.pcsMarker l m).flag (Reg.LANE_STATUS l) Fld.LANE_STATUS_MARKER_LOCK = false := by
  have e : s.pcsMarker l m = (s.laneTo l 3).setFlag (Reg.LANE_STATUS l) Fld.LANE_STATUS_MARKER_LOCK false := by
    unfold pcsMarker; rw [h4, hp]; rfl
  rw [e]
  refine ⟨?_, flag_setFlag_same _ _ _ (by decide) (by decide)⟩
  rw [laneState, get_setFlag_apart _ _ _ (by decide) (by decide), ← laneState, laneState_laneTo_same _ _ (by decide)]

theorem pcsMarker_down (hl : l < 97) (hp : m.pcsLock = false) (h5 : s.laneState l = 5) (hr : s.flag (Reg.LANE_CFG l) Fld.LANE_CFG_RX_EN) :
    (s.pcsMarker l m).laneState l = 2 := by
  have e : s.pcsMarker l m = s.laneLost l m.inPacket := by unfold pcsMarker; rw [h5, hp]; rfl
  rw [e]
  exact (laneLost_inAdapt hl hr _).state

theorem pcsMarker_below (hp : m.pcsLock = false) (h : s.laneState l ≤ 3) : s.pcsMarker l m = s := by
  unfold pcsMarker; rw [hp]; split <;> simp_all

/-! ### Before the marker is looked at -/

/-- A marker position's FEC counts and the own transmitter's markers. -/
def marked0 (s : State) (l : Nat) (m : MarkerView) : State :=
  ((s.count (Reg.LANE_FEC_CORR l) m.corrected).count (Reg.LANE_FEC_UNCORR l) m.uncorrectable).ownMarkers l

theorem marker_eq (s : State) (l : Nat) (m : MarkerView) :
    s.marker l m = if pcsLane l then (s.marked0 l m).pcsMarker l m else (s.marked0 l m).balranMarker l m := rfl

theorem marked0_changes (s : State) (l : Nat) (m : MarkerView) :
    Changes [.regs, .links, .outFlits, .outCtrl] (fun a => a = Reg.LANE_FEC_CORR l ∨ a = Reg.LANE_FEC_UNCORR l) s (s.marked0 l m) :=
  (((changes_count s _ _).mono (by decide) fun _ => .inl).trans ((changes_count _ _ _).mono (by decide) fun _ => .inr)).trans
    ((Changes.of_only (only_ownMarkers _ l) (by decide)).mono (by decide) fun _ h => h)

theorem marked0_counts (s : State) (l : Nat) (m : MarkerView) :
    (s.marked0 l m).full (Reg.LANE_FEC_CORR l) = min (s.full (Reg.LANE_FEC_CORR l) + m.corrected) (2 ^ 32 - 1)
      ∧ (s.marked0 l m).full (Reg.LANE_FEC_UNCORR l) = min (s.full (Reg.LANE_FEC_UNCORR l) + m.uncorrectable) (2 ^ 32 - 1) := by
  have own : ∀ (u : State) a, (u.ownMarkers l).full a = u.full a := fun u a => by rw [full, (only_ownMarkers u l) .regs (by decide) a, full]
  have apart : Reg.LANE_FEC_UNCORR l ≠ Reg.LANE_FEC_CORR l := by simp only [Reg.LANE_FEC_CORR, Reg.LANE_FEC_UNCORR]; omega
  unfold marked0
  constructor
  · rw [own, (changes_count _ _ _).full_eq (Ne.symm apart), full_count_same]
  · rw [own, full_count_same, (changes_count s _ _).full_eq apart]

/-! ### The marker -/

theorem alignmentMarker_completes (l : Lane) (m : MarkerView) (s : State) : Completes (.alignmentMarker l m) s (fun t =>
    t.full (Reg.LANE_FEC_CORR l) = min (s.full (Reg.LANE_FEC_CORR l) + m.corrected) (2 ^ 32 - 1)
    ∧ t.full (Reg.LANE_FEC_UNCORR l) = min (s.full (Reg.LANE_FEC_UNCORR l) + m.uncorrectable) (2 ^ 32 - 1)
    ∧ (pcsLane l →
        (m.pcsLock → t.laneState l = (if s.laneState l = 3 then 4 else s.laneState l)
          ∧ (s.laneState l = 3 → t.flag (Reg.LANE_STATUS l) Fld.LANE_STATUS_MARKER_LOCK))
        ∧ (m.pcsLock = false → s.laneState l = 4 → t.laneState l = 3 ∧ t.flag (Reg.LANE_STATUS l) Fld.LANE_STATUS_MARKER_LOCK = false)
        ∧ (m.pcsLock = false → s.laneState l = 5 → s.flag (Reg.LANE_CFG l) Fld.LANE_CFG_RX_EN → t.laneState l = 2)
        ∧ (m.pcsLock = false → s.laneState l ≤ 3 → t.laneState l = s.laneState l))
    ∧ (pcsLane l = false →
        (s.laneState l = 3 → markerErrors (markerRead m.bytes) ≤ 3 → m.onTime → (s.lane l).first = some (markerImage m.bytes) →
          t.laneState l = 4 ∧ t.flag (Reg.LANE_STATUS l) Fld.LANE_STATUS_RX_INVERTED = markerImage m.bytes
          ∧ t.flag (Reg.LANE_STATUS l) Fld.LANE_STATUS_MARKER_LOCK
          ∧ t.get (Reg.LANE_STATUS l) Fld.LANE_STATUS_MARKER_LANE = markerPos (markerRead m.bytes))
        ∧ (s.laneState l = 3 → markerErrors (markerRead m.bytes) ≤ 3 →
            ¬ (m.onTime ∧ (s.lane l).first = some (markerImage m.bytes)) →
            t.laneState l = 3 ∧ t.lane l = { s.lane l with first := some (markerImage m.bytes) })
        ∧ (s.laneState l = 3 → 3 < markerErrors (markerRead m.bytes) → t.laneState l = 3 ∧ t.lane l = s.lane l)
        ∧ (s.laneState l = 4 → markerErrors m.bytes ≤ 3 → (t.laneState l = 4 ∨ t.laneState l = 5)
            ∧ t.get (Reg.LANE_STATUS l) Fld.LANE_STATUS_MARKER_LANE = markerPos m.bytes ∧ (t.lane l).count = markerCount m.bytes)
        ∧ (s.laneState l = 4 → 3 < markerErrors m.bytes → t.laneState l = 4 ∧ t.lane l = s.lane l)
        ∧ (s.laneState l = 5 → markerErrors m.bytes ≤ 3 → m.onTime →
            t.laneState l = 5 ∧ t.lane l = { s.lane l with count := markerCount m.bytes, misses := 0 })
        ∧ (s.laneState l = 5 → 3 < markerErrors m.bytes ∨ m.onTime = false → Counted s t Ev.LANE_MARKER_MISS
            ∧ ((s.lane l).misses < 2 → t.laneState l = 5 ∧ t.lane l = { s.lane l with misses := (s.lane l).misses + 1 })
            ∧ (2 ≤ (s.lane l).misses → s.flag (Reg.LANE_CFG l) Fld.LANE_CFG_RX_EN → t.laneState l = 2)))
    ∧ KeepsRegs s t (fun a => Between 0x200000 0x23FFFF a ∨ AnyEventRegs a ∨ a = Reg.WEAVE_STATUS ∨ a = Reg.TWIN_STATUS)
    ∧ Only (([.lanes, .links, .outFlits, .outCtrl] : List Part) ++ eventParts) s t) := by
  have hl : l.val < 97 := l.isLt
  refine ⟨s.marker l m, rfl, ?_⟩
  have before := s.marked0_changes l m
  obtain ⟨corr, uncorr⟩ := s.marked0_counts l m
  have lane := before.parts.lane (by decide) l
  have state : (s.marked0 l m).laneState l = s.laneState l :=
    before.get_eq (by simp only [Reg.LANE_STATUS, Reg.LANE_FEC_CORR, Reg.LANE_FEC_UNCORR]; omega) _
  have enabled : (s.marked0 l m).flag (Reg.LANE_CFG l) Fld.LANE_CFG_RX_EN = s.flag (Reg.LANE_CFG l) Fld.LANE_CFG_RX_EN :=
    before.flag_eq (by simp only [Reg.LANE_CFG, Reg.LANE_FEC_CORR, Reg.LANE_FEC_UNCORR]; omega) _
  have sys : (s.marked0 l m).sys = s.sys := before.parts .sys (by decide)
  have miss : (s.marked0 l m).full (Reg.EVT_SRC_CNT Ev.LANE_MARKER_MISS) = s.full (Reg.EVT_SRC_CNT Ev.LANE_MARKER_MISS) :=
    before.full_eq (by simp only [Reg.EVT_SRC_CNT, Ev.LANE_MARKER_MISS, Reg.LANE_FEC_CORR, Reg.LANE_FEC_UNCORR]; omega)
  have marked : Marked (s.marked0 l m) (s.marker l m) := by
    rw [marker_eq]; split
    · exact pcsMarker_marked _ hl m
    · exact balranMarker_marked _ hl m
  have all := (before.mono (Q := fun a => Between 0x200000 0x23FFFF a ∨ AnyEventRegs a ∨ a = Reg.WEAVE_STATUS ∨ a = Reg.TWIN_STATUS)
      (qs := ([.lanes, .links, .outFlits, .outCtrl] : List Part) ++ eventParts) (by decide)
      (fun a h => .inl (by simp only [Reg.LANE_FEC_CORR, Reg.LANE_FEC_UNCORR, Between] at *; omega))).trans
    (marked.mono (by decide) fun _ h => h.stated (by decide))
  refine ⟨?_, ?_, fun hp => ?_, fun hp => ?_, all.regs, all.parts⟩
  · exact (marked.full_eq (BringRegs.not_fec hl (.inl rfl) (by decide))).trans corr
  · exact (marked.full_eq (BringRegs.not_fec hl (.inr rfl) (by decide))).trans uncorr
  · rw [marker_eq, if_pos hp]
    rw [← state, ← enabled]
    exact ⟨pcsMarker_lock, fun h => pcsMarker_unlock h, fun h => pcsMarker_down hl h, fun h k => by rw [pcsMarker_below h k]⟩
  · rw [marker_eq, if_neg (by rw [hp]; decide)]
    rw [← state, ← enabled, ← lane]
    generalize s.marked0 l m = u at sys miss ⊢
    refine ⟨balranMarker_locks, fun h he hn => ?_, fun h he => ?_, fun h he => ?_, fun h he => ?_, balranMarker_good, fun h hm => ?_⟩
    · rw [balranMarker_first h he hn]
      exact ⟨by rw [laneState_setLane, h], by rw [lane_setLane_same]⟩
    · rw [balranMarker_search h, if_pos he]
      exact ⟨h, rfl⟩
    · rw [balranMarker_locked h, if_neg (by omega)]
      obtain ⟨state, place, count⟩ := (shownMarker_located h m.bytes).compareMarker m
      exact ⟨state, place, count⟩
    · rw [balranMarker_locked h, if_pos he]
      exact ⟨h, rfl⟩
    · obtain ⟨counted, few, many⟩ := balranMarker_missed hl h hm
      exact ⟨fun k => by rw [counted (by rw [sys]; exact k), miss], few, many⟩

/-! ### A lane that is lost -/

/-- Its frame, as it is stated. -/
theorem bring_stated {s t : State} {es : List Nat} (h : Changes bringParts (BringRegs es) s t) (hs : ∀ e ∈ es, e < 2048) :
    KeepsRegs s t (fun a => Between 0x200000 0x23FFFF a ∨ AnyEventRegs a ∨ a = Reg.WEAVE_STATUS ∨ a = Reg.TWIN_STATUS)
      ∧ Only (([.lanes, .links] : List Part) ++ eventParts) s t :=
  ⟨KeepsRegs.mono h.regs fun _ k => k.stated hs, h.parts⟩

end State

/-- Settles O10: the counts and the own markers first, then the marker by the lane's state; a lane that is lost stays in ADAPT while its link
retrains or waits. -/
theorem markersAndLaneLoss : Obligations.MarkersAndLaneLoss := by
  refine ⟨State.alignmentMarker_completes, fun l cut s h2 hr => ⟨?_, ?_⟩⟩
  · have lost := State.laneLost_inAdapt l.isLt hr cut
    obtain ⟨regs, parts⟩ := State.bring_stated (State.laneLost_bring s l.isLt cut) (by decide)
    exact ⟨s.laneLost l cut, congrArg ok (if_pos h2), lost.state, lost.cdr, fun k hk h5 h4 => State.laneLost_link l.isLt hk h5 h4 cut, regs, parts⟩
  · have lost := State.laneLost_inAdapt l.isLt hr cut
    have bring := State.laneLost_bring s l.isLt cut
    have link := fun k hk h5 h4 => State.laneLost_link (s := s) (k := k) l.isLt hk h5 h4 cut
    have sys : (s.laneLost l cut).sys = s.sys := bring.parts .sys (by decide)
    have first := bring.full_eq (BringRegs.not_count (e := Ev.LANE_DOWN) (by decide) (by decide) (by decide))
    refine ⟨(s.laneLost l cut).raise Ev.LANE_DOWN l, congrArg ok (if_pos h2), ?_⟩
    generalize s.laneLost l cut = u at lost bring link sys first ⊢
    have raised := State.changes_raise u Ev.LANE_DOWN l
    obtain ⟨regs, parts⟩ := State.bring_stated (es := Ev.LANE_DOWN :: State.lossEvents)
      ((bring.mono (fun _ h => h) fun _ h => h.mono fun _ => List.mem_cons_of_mem _).trans (State.raise_bring u l List.mem_cons_self)) (by decide)
    refine ⟨(lost.raise (by decide) _).state, State.counted_raise _ (by decide +kernel) sys first, fun k hk h5 h4 => ?_, regs, parts⟩
    obtain ⟨state, down, framing⟩ := link k hk h5 h4
    refine ⟨?_, State.counted_then down (raised.full_eq (count_not_eventRegs (by decide) (by decide) (by decide))), fun hb => ?_⟩
    · rw [← state]
      exact raised.get_eq (linkStatus_not_eventRegs (by decide) k) _
    · rw [← framing hb]
      exact raised.full_eq (linkCount_not_eventRegs (by decide) k 0)

end Sys2Proof.Machine
end

section
/-! SUPPORT. Ports and streams: what replacing one leaves alone, what a packet's frame depends on, and what putting a packet on the wire does
(R310, R311, R314, R318). -/

namespace Sys2Proof.Machine

namespace State

/-! ### A port and a stream -/

@[simp] theorem port_setPort_same (s : State) (p : Nat) (x : PortSt) : (s.setPort p x).port p = x := by
  simp only [port, setPort, mapFind_mapSet_same]

theorem port_setPort_other (s : State) {p q : Nat} (x : PortSt) (h : q ≠ p) : (s.setPort p x).port q = s.port q := by
  simp only [port, setPort, mapFind_mapSet_other _ _ _ h]

@[simp] theorem stream_setStream_same (s : State) (i : Nat) (x : StreamSt) : (s.setStream i x).stream i = x := by
  simp only [stream, setStream, mapFind_mapSet_same]

theorem stream_setStream_other (s : State) {i j : Nat} (x : StreamSt) (h : j ≠ i) : (s.setStream i x).stream j = s.stream j := by
  simp only [stream, setStream, mapFind_mapSet_other _ _ _ h]

@[simp] theorem portUp_setPort (s : State) (p : Nat) (x : PortSt) (q : Nat) : (s.setPort p x).portUp q = s.portUp q := (rfl)
@[simp] theorem stream_setPort (s : State) (p : Nat) (x : PortSt) (i : Nat) : (s.setPort p x).stream i = s.stream i := (rfl)
@[simp] theorem port_setStream (s : State) (i : Nat) (x : StreamSt) (p : Nat) : (s.setStream i x).port p = s.port p := (rfl)
@[simp] theorem port_count (s : State) (a n p : Nat) : (s.count a n).port p = s.port p := (rfl)
@[simp] theorem stream_count (s : State) (a n i : Nat) : (s.count a n).stream i = s.stream i := (rfl)


/-! ### What a packet's frame depends on -/

/-- A packet's frame follows from the settings that took effect at commit (R326). -/
theorem pktFrame_of_settings {s t : State} (h : t.eth.regs = s.eth.regs) (p : Nat) (k : Pkt) : t.pktFrame p k = s.pktFrame p k := by
  have core : ∀ u : State, u.pktFrame p k = ({ s with eth := { s.eth with regs := u.eth.regs } } : State).pktFrame p k := fun _ => rfl
  rw [core t, h]

theorem wireLen_of_settings {s t : State} (h : t.eth.regs = s.eth.regs) (p : Nat) (k : Pkt) : t.wireLen p k = s.wireLen p k := by
  rw [wireLen, pktFrame_of_settings h, wireLen]

/-! ### A packet goes on the wire -/

/-- The counters of a packet that leaves. -/
def SentCounts (p a : Nat) : Prop := a = Reg.ETH_PORT_COUNT p 0 ∨ a = Reg.ETH_PORT_COUNT p 1 ∨ a = Reg.ETH_PORT_COUNT p 3

/-- A packet has left on a port. -/
structure Sent (p : Nat) (k : Pkt) (s t : State) : Prop where
  frame : t.out.eth = s.out.eth ++ [(p, s.pktFrame p k)]
  port : ∃ odd, t.port p = { s.port p with wire := some { k with again := false }, odd := odd }
  packets : t.full (Reg.ETH_PORT_COUNT p 0) = min (s.full (Reg.ETH_PORT_COUNT p 0) + 1) (2 ^ 32 - 1)
  resends : t.full (Reg.ETH_PORT_COUNT p 3) = min (s.full (Reg.ETH_PORT_COUNT p 3) + b2n (k.again && k.cls != 0)) (2 ^ 32 - 1)
  seq : ∀ i, k.stream = some i → (t.stream i).sentSeq = some k.seq
  queues : ∀ i, (t.stream i).queue = (s.stream i).queue
  changes : Changes [.regs, .ports, .streams, .outEth] (SentCounts p) s t

/-- The port's counters after a packet. -/
def countPkt (s : State) (p n : Nat) (k : Pkt) : State :=
  ((s.count (Reg.ETH_PORT_COUNT p 0)).count (Reg.ETH_PORT_COUNT p 1) n).count (Reg.ETH_PORT_COUNT p 3) (b2n (k.again && k.cls != 0))

/-- The stream of a packet after it. -/
def streamSent (s : State) (p : Nat) (k : Pkt) : State :=
  match k.stream with
  | some i => s.setStream i { s.stream i with lastPort := some p, sentSeq := some k.seq }
  | none => s

theorem countPkt_changes (s : State) (p n : Nat) (k : Pkt) : Changes [.regs] (SentCounts p) s (s.countPkt p n k) :=
  ((((changes_count s _ _).mono (fun _ h => h) fun _ => .inl).trans ((changes_count _ _ _).mono (fun _ h => h) fun _ h => .inr (.inl h))).trans
    ((changes_count _ _ _).mono (fun _ h => h) fun _ h => .inr (.inr h)))

theorem countPkt_counts (s : State) (p n : Nat) (k : Pkt) :
    (s.countPkt p n k).full (Reg.ETH_PORT_COUNT p 0) = min (s.full (Reg.ETH_PORT_COUNT p 0) + 1) (2 ^ 32 - 1)
      ∧ (s.countPkt p n k).full (Reg.ETH_PORT_COUNT p 3)
          = min (s.full (Reg.ETH_PORT_COUNT p 3) + b2n (k.again && k.cls != 0)) (2 ^ 32 - 1) := by
  have apart : ∀ {i j : Nat}, i ≠ j → Reg.ETH_PORT_COUNT p i ≠ Reg.ETH_PORT_COUNT p j := by
    intro i j h; simp only [Reg.ETH_PORT_COUNT]; omega
  unfold countPkt
  constructor
  · rw [(changes_count _ _ _).full_eq (apart (by decide)), (changes_count _ _ _).full_eq (apart (by decide)), full_count_same]
  · rw [full_count_same, (changes_count _ _ _).full_eq (apart (by decide)), (changes_count _ _ _).full_eq (apart (by decide))]

theorem streamSent_spec (s : State) (p : Nat) (k : Pkt) :
    Only [.streams] s (s.streamSent p k) ∧ (∀ q, (s.streamSent p k).port q = s.port q)
      ∧ (∀ i, k.stream = some i → ((s.streamSent p k).stream i).sentSeq = some k.seq)
      ∧ ∀ i, ((s.streamSent p k).stream i).queue = (s.stream i).queue := by
  unfold streamSent; split
  · rename_i j hj
    refine ⟨only_setStream s j _, fun _ => port_setStream .., fun i hi => ?_, fun i => ?_⟩
    · obtain rfl : j = i := Option.some.inj (hj.symm.trans hi)
      rw [stream_setStream_same]
    · by_cases h : i = j
      · subst h; rw [stream_setStream_same]
      · rw [stream_setStream_other _ _ h]
  · rename_i hn
    exact ⟨.refl _ s, fun _ => rfl, fun i hi => by simp [hn] at hi, fun _ => rfl⟩

theorem sendPkt_eq (s : State) (p : Nat) (k : Pkt) :
    s.sendPkt p k =
      let n := (s.port p).odd + (s.pktFrame p k).length
      let t := ((s.setPort p { s.port p with wire := some { k with again := false }, odd := n % 1024 }).countPkt p (n / 1024) k).streamSent p k
      { t with out := { t.out with eth := t.out.eth ++ [(p, s.pktFrame p k)] } } := rfl

theorem sendPkt_sent (s : State) (p : Nat) (k : Pkt) : Sent p k s (s.sendPkt p k) := by
  rw [sendPkt_eq]; dsimp only
  generalize (s.port p).odd + (s.pktFrame p k).length = n
  have placed := only_setPort s p { s.port p with wire := some { k with again := false }, odd := n % 1024 }
  have port := port_setPort_same s p { s.port p with wire := some { k with again := false }, odd := n % 1024 }
  have full : ∀ a, (s.setPort p { s.port p with wire := some { k with again := false }, odd := n % 1024 }).full a = s.full a := fun _ => rfl
  generalize s.setPort p { s.port p with wire := some { k with again := false }, odd := n % 1024 } = u at placed port full ⊢
  have counted := u.countPkt_changes p (n / 1024) k
  obtain ⟨packets, resends⟩ := u.countPkt_counts p (n / 1024) k
  generalize u.countPkt p (n / 1024) k = v at counted packets resends ⊢
  obtain ⟨only, ports, seq, queues⟩ := v.streamSent_spec p k
  generalize v.streamSent p k = w at only ports seq queues ⊢
  have out : w.out.eth = s.out.eth :=
    ((placed .outEth (by decide)).trans (counted.parts .outEth (by decide))).trans (only .outEth (by decide))
  have full' : ∀ a, w.full a = v.full a := fun a => by rw [State.full, only .regs (by decide) a, State.full]
  have streams : ∀ i, v.stream i = s.stream i := fun i => (counted.parts .streams (by decide) i).trans (placed .streams (by decide) i)
  have vport : v.port p = u.port p := (counted.parts .ports (by decide)).1 p
  refine ⟨by rw [← out], ⟨n % 1024, ?_⟩, ?_, ?_, seq, fun i => (queues i).trans (by rw [streams]), ?_⟩
  · exact (ports p).trans (vport.trans port)
  · exact (full' _).trans (packets.trans (by rw [full]))
  · exact (full' _).trans (resends.trans (by rw [full]))
  · have before : Changes [.regs, .ports, .streams, .outEth] (SentCounts p) s w :=
      (((Changes.of_only placed (by decide)).mono (by decide) fun _ h => h).trans (counted.mono (by decide) fun _ h => h)).trans
        ((Changes.of_only only (by decide)).mono (by decide) fun _ h => h)
    exact before.trans ((Changes.of_only (only_out_eth w _) (by decide)).mono (by decide) fun _ h => h)

end State

end Sys2Proof.Machine
end

section
/-! SUPPORT. The scheduler with one waiting source, the shaper's hold, retention, and a transmitter that is free (R314, R318, R320, R321,
R528). -/

namespace Sys2Proof.Machine

namespace State

/-! ### One waiting source of classes 1–3 (R318) -/

/-- Source `i` alone waits, with packet `k` of class `c`. -/
structure OneSource (p c i : Nat) (k : Pkt) (s : State) : Prop where
  low : 1 ≤ c
  high : c ≤ 3
  alone : s.classSources p c = [i]
  others : ∀ d, 1 ≤ d → d ≤ 3 → d ≠ c → s.classSources p d = []
  offers : s.offered p i = some k

/-- A port whose scheduler alone has moved. -/
def Rescheduled (x y : PortSt) : Prop := y = { x with turn := y.turn, deficit := y.deficit, last := y.last }

theorem Rescheduled.trans {x y z : PortSt} (h : Rescheduled x y) (k : Rescheduled y z) : Rescheduled x z := by
  unfold Rescheduled at *
  rw [h] at k
  exact k

/-- A class takes part: it has a weight, and a source waits. -/
def drrHas (s : State) (p d : Nat) : Bool := s.classWeight p d != 0 && !(s.classSources p d).isEmpty

/-- What the class whose turn it is has to serve: a source and the cost of its packet. -/
def drrServe (s : State) (p : Nat) (x : PortSt) : Option (Nat × Nat) :=
  match s.classSources p x.turn with
  | i :: _ =>
    let n := ((s.offered p i).map (s.wireLen p)).getD 0
    if s.drrHas p x.turn ∧ n ≤ x.deficit.getD (x.turn - 1) 0 then some (i, n) else none
  | [] => none

/-- The deficits as the turn goes on. -/
def drrDeficit (s : State) (p : Nat) (x : PortSt) : List Nat :=
  let next := x.turn % 3 + 1
  let d := if s.drrHas p x.turn then x.deficit else x.deficit.set (x.turn - 1) 0
  if s.drrHas p next then d.set (next - 1) (d.getD (next - 1) 0 + 256 * s.classWeight p next) else d

theorem drr_succ (s : State) (p fuel : Nat) (x : PortSt) :
    s.drr p (fuel + 1) x = match s.drrServe p x with
      | some (i, n) => (some i, { x with
          deficit := x.deficit.set (x.turn - 1) (x.deficit.getD (x.turn - 1) 0 - n), last := x.last.set (x.turn - 1) i })
      | none => s.drr p fuel { x with turn := x.turn % 3 + 1, deficit := s.drrDeficit p x } := rfl

/-- Turns until a class's own comes. -/
def turnsTo (c turn : Nat) : Nat := (c + 3 - turn) % 3

/-- What a class's deficit grows by at least before the scheduler's last step. -/
def grownBy (c turn fuel : Nat) : Nat := 256 * ((fuel - 1 - turnsTo c turn) / 3 + if turn = c then 0 else 1)

theorem turn_passes {c t fuel n d e : Nat} (c1 : 1 ≤ c) (c3 : c ≤ 3) (t1 : 1 ≤ t) (t3 : t ≤ 3) (hf : turnsTo c t < fuel + 1)
    (hn : n ≤ d + grownBy c t (fuel + 1)) (hs : ¬ (t = c ∧ n ≤ d)) (he : d + (if t % 3 + 1 = c then 256 else 0) ≤ e) :
    turnsTo c (t % 3 + 1) < fuel ∧ n ≤ e + grownBy c (t % 3 + 1) fuel := by
  unfold turnsTo grownBy turnsTo at *
  interval_cases c <;> interval_cases t <;> simp at hf hn hs he ⊢ <;> omega

theorem grownBy_start {c t : Nat} (c1 : 1 ≤ c) (c3 : c ≤ 3) (t1 : 1 ≤ t) (t3 : t ≤ 3) : turnsTo c t < 256 ∧ 9256 ≤ grownBy c t 256 := by
  unfold grownBy turnsTo
  interval_cases c <;> interval_cases t <;> decide

namespace OneSource

variable {p c i : Nat} {k : Pkt} {s : State} {x : PortSt}

theorem has (h : OneSource p c i k s) (hw : s.classWeight p c ≠ 0) {d : Nat} (h1 : 1 ≤ d) (h3 : d ≤ 3) : s.drrHas p d = decide (d = c) := by
  unfold drrHas
  by_cases hd : d = c
  · simp [hd, h.alone, hw]
  · simp [hd, h.others d h1 h3 hd]

theorem serve (h : OneSource p c i k s) (hw : s.classWeight p c ≠ 0) (h1 : 1 ≤ x.turn) (h3 : x.turn ≤ 3) :
    s.drrServe p x = if x.turn = c ∧ s.wireLen p k ≤ x.deficit.getD (c - 1) 0 then some (i, s.wireLen p k) else none := by
  unfold drrServe
  by_cases ht : x.turn = c
  · have has := h.has hw h.low h.high
    simp [ht, h.alone, h.offers, has]
  · simp [h.others _ h1 h3 ht, ht]

/-- The class's deficit grows as its turn comes, and stays otherwise. -/
theorem deficit (h : OneSource p c i k s) (hw : s.classWeight p c ≠ 0) (h1 : 1 ≤ x.turn) (h3 : x.turn ≤ 3) (hl : x.deficit.length = 3) :
    (s.drrDeficit p x).length = 3
      ∧ x.deficit.getD (c - 1) 0 + (if x.turn % 3 + 1 = c then 256 else 0) ≤ (s.drrDeficit p x).getD (c - 1) 0 := by
  have low := h.low
  have high := h.high
  have first : ∀ d, d = (if x.turn = c then x.deficit else x.deficit.set (x.turn - 1) 0) →
      d.length = 3 ∧ d.getD (c - 1) 0 = x.deficit.getD (c - 1) 0 := by
    rintro d rfl
    split
    · exact ⟨hl, rfl⟩
    · refine ⟨by rw [List.length_set, hl], ?_⟩
      rw [List.getD_eq_getElem?_getD, List.getElem?_set_ne (by omega), List.getD_eq_getElem?_getD]
  unfold drrDeficit; dsimp only
  rw [h.has hw h1 h3, h.has hw (by omega) (by omega)]
  simp only [decide_eq_true_eq]
  obtain ⟨len, same⟩ := first _ rfl
  generalize (if x.turn = c then x.deficit else x.deficit.set (x.turn - 1) 0) = d at len same ⊢
  split
  · rename_i hn
    refine ⟨by rw [List.length_set, len], ?_⟩
    have grown : (d.set (x.turn % 3 + 1 - 1) (d.getD (x.turn % 3 + 1 - 1) 0 + 256 * s.classWeight p (x.turn % 3 + 1))).getD (c - 1) 0
        = d.getD (c - 1) 0 + 256 * s.classWeight p c := by
      rw [hn, List.getD_eq_getElem?_getD, List.getElem?_set_self (by omega), Option.getD_some]
    have := Nat.pos_of_ne_zero hw
    rw [grown, same]; omega
  · exact ⟨len, by rw [same]; omega⟩

/-- Deficit round robin finds the source, once its class's deficit has grown to the packet's length: one turn in three it grows by at least
256. -/
theorem drr_finds (h : OneSource p c i k s) (hw : s.classWeight p c ≠ 0) (fuel : Nat) :
    ∀ x : PortSt, 1 ≤ x.turn → x.turn ≤ 3 → x.deficit.length = 3 → turnsTo c x.turn < fuel →
      s.wireLen p k ≤ x.deficit.getD (c - 1) 0 + grownBy c x.turn fuel → ∃ y, s.drr p fuel x = (some i, y) ∧ Rescheduled x y := by
  have low := h.low
  have high := h.high
  induction fuel with
  | zero => exact fun x _ _ _ hf _ => absurd hf (Nat.not_lt_zero _)
  | succ fuel ih =>
    intro x h1 h3 hl hf hn
    rw [drr_succ, h.serve hw h1 h3]
    by_cases hs : x.turn = c ∧ s.wireLen p k ≤ x.deficit.getD (c - 1) 0
    · rw [if_pos hs]
      exact ⟨_, rfl, rfl⟩
    · rw [if_neg hs]
      obtain ⟨len, grows⟩ := h.deficit hw h1 h3 hl
      obtain ⟨left, enough⟩ := turn_passes low high h1 h3 hf hn hs grows
      obtain ⟨y, hy, hr⟩ := ih { x with turn := x.turn % 3 + 1, deficit := s.drrDeficit p x } (Nat.le_add_left 1 _)
        (show x.turn % 3 + 1 ≤ 3 by omega) len left enough
      exact ⟨y, hy, hr⟩

/-- The port serves the source, whatever the weights. -/
theorem picked (h : OneSource p c i k s) (hk : s.wireLen p k ≤ 9256) (h1 : 1 ≤ (s.port p).turn) (h3 : (s.port p).turn ≤ 3)
    (hl : (s.port p).deficit.length = 3) : ∃ y, s.pickSource p = (some i, y) ∧ Rescheduled (s.port p) y := by
  have low := h.low
  have high := h.high
  have busy : [1, 2, 3].filter (fun c => !(s.classSources p c).isEmpty) = [c] := by
    have empty : ∀ d, 1 ≤ d → d ≤ 3 → (!(s.classSources p d).isEmpty) = decide (d = c) := fun d d1 d3 => by
      by_cases hd : d = c
      · simp [hd, h.alone]
      · simp [hd, h.others d d1 d3 hd]
    rw [List.filter_congr (q := fun d => decide (d = c)) fun d hd => by
      simp only [List.mem_cons, List.not_mem_nil, or_false] at hd
      exact empty d (by omega) (by omega)]
    interval_cases c <;> rfl
  unfold pickSource; dsimp only
  rw [busy]
  by_cases hw : s.classWeight p c = 0
  · rw [if_neg (by simp [hw])]
    exact ⟨{ s.port p with last := (s.port p).last.set (c - 1) i }, by dsimp only; rw [h.alone]; rfl, rfl⟩
  · rw [if_pos (by simp [hw])]
    obtain ⟨left, enough⟩ := grownBy_start low high h1 h3
    exact h.drr_finds hw 256 _ h1 h3 hl left (hk.trans (enough.trans (Nat.le_add_left _ _)))

end OneSource

theorem pickSource_idle {s : State} {p : Nat} (h : ∀ c, c = 1 ∨ c = 2 ∨ c = 3 → s.classSources p c = []) :
    s.pickSource p = (none, s.port p) := by
  have busy : [1, 2, 3].filter (fun c => !(s.classSources p c).isEmpty) = [] := by
    rw [List.filter_eq_nil_iff]
    intro c hc
    simp only [List.mem_cons, List.not_mem_nil, or_false] at hc
    rw [h c hc]; decide
  unfold pickSource; dsimp only
  rw [busy]
  rfl

theorem sendLower_idle {s : State} {p : Nat} (h : ∀ c, c = 1 ∨ c = 2 ∨ c = 3 → s.classSources p c = []) :
    s.sendLower p = s.setPort p (s.port p) := by
  unfold sendLower
  rw [pickSource_idle h]

/-- A source's packet is taken from where it waits. -/
def takeOffered (s : State) (p i : Nat) : State :=
  if i = 4096 then s.setPort p { s.port p with c3 := (s.port p).c3.drop 1 }
  else s.setStream i { s.stream i with queue := (s.stream i).queue.drop 1 }

theorem sendLower_of_picked {s : State} {p i : Nat} {k : Pkt} {y : PortSt} (h : s.pickSource p = (some i, y)) (hk : s.offered p i = some k) :
    s.sendLower p = ((s.setPort p y).takeOffered p i).sendPkt p k := by
  unfold sendLower
  rw [h]; dsimp only
  rw [hk]
  rfl

end State

end Sys2Proof.Machine
end

section
/-! PROOF. The transmitter of a data port: each case of a free transmitter (O37). -/

namespace Sys2Proof.Machine

namespace State

/-! ### The state in which the next packet is looked for -/

/-- A port whose transmitter is free: the wire clear, the bucket filled, the frames of the TX ring that fit taken (R307, R320). -/
def freed (s : State) (p ns : Nat) (fs : List (List Byte)) : PortSt :=
  { s.port p with
    wire := none
    tokens := min ((s.port p).tokens + ns * (s.port p).rate * s.ethGet (Reg.ETH_PORT_SCHED p) Fld.ETH_PORT_SCHED_C0_SHARE) ((s.port p).depth * 8192)
    c3 := (s.port p).c3 ++ (fs.filter (fun f => decide ((withFcs f).length ≤ s.ethGet (Reg.ETH_PORT_CFG p) Fld.ETH_PORT_CFG_MTU))).map
      (fun f => { stream := none, cls := 3, seq := 0, bytes := f }) }

theorem transmit_absent {s : State} {p ns : Nat} {fs : List (List Byte)} (h : (s.port p).rate = 0) : s.transmit p ns fs = s := by
  unfold transmit; dsimp only
  rw [if_pos h]

/-- What a port does once its transmitter is free. -/
def next (s : State) (p : Nat) : State :=
  if !s.portUp p ∨ s.stopped then s
  else if s.standby then s.retainClass0 p
  else match (s.port p).c0 with
    | k :: t =>
      if s.wireLen p k * 8192 ≤ (s.port p).tokens then
        (s.setPort p { s.port p with c0 := t, tokens := (s.port p).tokens - s.wireLen p k * 8192, held := false }).sendPkt p k
      else (s.holdClass0 p).sendLower p
    | [] => s.sendLower p

variable {s : State} {p : Nat}

theorem transmit_eq {ns : Nat} {fs : List (List Byte)} (h : (s.port p).rate ≠ 0) :
    s.transmit p ns fs = (s.setPort p (s.freed p ns fs)).next p := by
  have e : ∀ x : PortSt, ((s.setPort p x).next p) =
      let u := s.setPort p x
      if !u.portUp p ∨ u.stopped then u
      else if u.standby then u.retainClass0 p
      else match x.c0 with
        | k :: t =>
          if u.wireLen p k * 8192 ≤ x.tokens then
            (u.setPort p { x with c0 := t, tokens := x.tokens - u.wireLen p k * 8192, held := false }).sendPkt p k
          else (u.holdClass0 p).sendLower p
        | [] => u.sendLower p := fun x => by
    unfold next; dsimp only
    rw [port_setPort_same]
  rw [e]
  unfold transmit; dsimp only
  rw [if_neg h]
  rfl

section
variable {k : Pkt} {rest : List Pkt}

theorem next_quiet (h : s.portUp p = false ∨ s.stopped) : s.next p = s := by
  unfold next
  rw [if_pos (by rcases h with h | h <;> simp [h])]

theorem next_standby (h1 : s.portUp p) (h2 : s.stopped = false) (h3 : s.standby) : s.next p = s.retainClass0 p := by
  unfold next
  rw [if_neg (by simp [h1, h2]), if_pos h3]

theorem next_class0 (h1 : s.portUp p) (h2 : s.stopped = false) (h3 : s.standby = false) (hc : (s.port p).c0 = k :: rest) :
    s.next p = if s.wireLen p k * 8192 ≤ (s.port p).tokens then
        (s.setPort p { s.port p with c0 := rest, tokens := (s.port p).tokens - s.wireLen p k * 8192, held := false }).sendPkt p k
      else (s.holdClass0 p).sendLower p := by
  unfold next
  rw [if_neg (by simp [h1, h2]), if_neg (by simp [h3]), hc]

theorem next_lower (h1 : s.portUp p) (h2 : s.stopped = false) (h3 : s.standby = false) (hc : (s.port p).c0 = []) : s.next p = s.sendLower p := by
  unfold next
  rw [if_neg (by simp [h1, h2]), if_neg (by simp [h3]), hc]

end

/-! ### A standby retains its class 0 packets (R528) -/

theorem retainClass0_spec (s : State) (p : Nat) :
    (s.retainClass0 p).port p = (if (s.port p).c0 = [] then s.port p else { s.port p with c0 := (s.port p).c0.drop 1, held := false })
      ∧ (∀ k rest, (s.port p).c0 = k :: rest → (s.now.units, p, k) ∈ (s.retainClass0 p).twin.retain)
      ∧ Only [.ports, .twin] s (s.retainClass0 p) := by
  unfold retainClass0; dsimp only
  cases hc : (s.port p).c0 with
  | nil => exact ⟨rfl, nofun, .refl _ s⟩
  | cons k rest =>
    refine ⟨port_setPort_same s p _, fun _ _ e => ?_, ((only_setPort s p _).mono (by decide)).trans ((only_twin _ _).mono (by decide))⟩
    obtain ⟨rfl, rfl⟩ := List.cons.inj e
    exact List.mem_append_right _ (List.mem_singleton.2 rfl)

/-! ### The shaper's hold (R321) -/

theorem signal_eth (s : State) (v : Nat) : (s.signal v).eth = s.eth := by
  unfold signal
  split
  · rfl
  · split <;> rfl

theorem raise_eth (s : State) (e d : Nat) : (s.raise e d).eth = s.eth := by
  have record : ∀ (u : State) d t n b, (u.eventRecord e d t n b).eth = u.eth := fun u d t n b => by
    unfold eventRecord; dsimp only; split <;> rfl
  have irq : ∀ u : State, (u.eventIrq e).eth = u.eth := fun u => by
    unfold eventIrq; dsimp only
    split
    · split
      · rw [signal_eth, setFlag_eth]
      · rfl
    · rfl
  unfold raise
  split
  · rfl
  · split
    · rfl
    · rw [irq, record, count_eth]

/-- What the shaper's hold changes of the registers. -/
def HeldRegs (p a : Nat) : Prop := a = Reg.ETH_PORT_COUNT p 4 ∨ a = Reg.BEAM_LAT_BOUND ∨ EventRegs Ev.ETH_C0_HELD a

/-- The port's mark, its counter and the bound's validity, before the event. -/
def markHeld (s : State) (p : Nat) : State :=
  ((s.setPort p { s.port p with held := true }).count (Reg.ETH_PORT_COUNT p 4)).setFlag Reg.BEAM_LAT_BOUND Fld.BEAM_LAT_BOUND_VALID false

/-- The event, the first time since commit. -/
def raiseHeld (s : State) (p : Nat) : State :=
  if s.eth.heldRaised then s else ({ s with eth := { s.eth with heldRaised := true } } : State).raise Ev.ETH_C0_HELD p

theorem holdClass0_eq (h : (s.port p).held = false) : s.holdClass0 p = (s.markHeld p).raiseHeld p := by
  unfold holdClass0; dsimp only
  rw [if_neg (by rw [h]; decide)]
  rfl

theorem only_heldRaised (s : State) (b : Bool) : Only [.ports] s { s with eth := { s.eth with heldRaised := b } } := by
  intro q hq
  cases q <;> first
    | exact absurd (by decide) hq
    | (simp [SamePart, hbmByte, ring, stream, reg])

theorem raiseHeld_changes (s : State) (p : Nat) :
    Changes (Part.ports :: eventParts) (EventRegs Ev.ETH_C0_HELD) s (s.raiseHeld p) := by
  unfold raiseHeld; split
  · exact .refl _ _ s
  · exact ((Changes.of_only (only_heldRaised s true) (by decide)).mono (by decide) fun _ h => h).trans
      ((changes_raise _ _ _).mono (by decide) fun _ h => h)

theorem raiseHeld_eth (s : State) (p : Nat) : (s.raiseHeld p).eth = { s.eth with heldRaised := true } := by
  unfold raiseHeld; split
  · rename_i h; rw [← h]
  · rw [raise_eth]

theorem raiseHeld_counted (h : s.eth.heldRaised = false) : Counted s (s.raiseHeld p) Ev.ETH_C0_HELD := by
  unfold raiseHeld
  rw [if_neg (by rw [h]; decide)]
  exact counted_raise _ (by decide +kernel) rfl rfl

theorem markHeld_changes (s : State) (p : Nat) :
    Changes [.regs, .ports] (fun a => a = Reg.ETH_PORT_COUNT p 4 ∨ a = Reg.BEAM_LAT_BOUND) s (s.markHeld p) :=
  (((Changes.of_only (only_setPort s p _) (by decide)).mono (by decide) fun _ h => h).trans
    ((changes_count _ _ _).mono (by decide) fun _ => .inl)).trans ((changes_setFlag _ _ _ _).mono (by decide) fun _ => .inr)

theorem port_of_ports {s t : State} (h : t.eth.ports = s.eth.ports) (p : Nat) : t.port p = s.port p := by rw [port, h, port]

/-- All that the waiting sources of a port follow from: the streams, their settings, and of each port its link, its wire, its TX-ring frames and
the source served last. -/
structure SameSources (s t : State) : Prop where
  regs : t.eth.regs = s.eth.regs
  streams : t.eth.streams = s.eth.streams
  up : ∀ q, t.portUp q = s.portUp q
  wire : ∀ q, (t.port q).wire = (s.port q).wire
  c3 : ∀ q, (t.port q).c3 = (s.port q).c3
  last : ∀ q, (t.port q).last = (s.port q).last

theorem SameSources.classSources {t : State} (h : SameSources s t) (p c : Nat) : t.classSources p c = s.classSources p c := by
  have stream : ∀ i, t.stream i = s.stream i := fun i => by rw [State.stream, h.streams, State.stream]
  have deal : ∀ i, t.dealPort i = s.dealPort i := fun i => by
    have ports : t.streamPorts i = s.streamPorts i := by rw [streamPorts, ethGet, ethReg, h.regs, streamPorts, ethGet, ethReg]
    have free : (fun q => t.portUp q && (t.port q).wire.isNone) = fun q => s.portUp q && (s.port q).wire.isNone :=
      funext fun q => by rw [h.up, h.wire]
    unfold dealPort; dsimp only
    rw [ports, stream, free]
  have offers : t.offered p = s.offered p := funext fun i => by
    unfold offered
    rw [h.c3, deal, stream]
  unfold State.classSources; dsimp only
  rw [h.streams, offers, h.last]

theorem SameSources.trans {t u : State} (h : SameSources s t) (k : SameSources t u) : SameSources s u :=
  ⟨k.regs.trans h.regs, k.streams.trans h.streams, fun q => (k.up q).trans (h.up q), fun q => (k.wire q).trans (h.wire q),
    fun q => (k.c3 q).trans (h.c3 q), fun q => (k.last q).trans (h.last q)⟩

theorem markHeld_sources (s : State) (p : Nat) : SameSources s (s.markHeld p) := by
  have kept : ∀ q, ((s.markHeld p).port q).wire = (s.port q).wire ∧ ((s.markHeld p).port q).c3 = (s.port q).c3
      ∧ ((s.markHeld p).port q).last = (s.port q).last := fun q => by
    rw [show (s.markHeld p).port q = (s.setPort p { s.port p with held := true }).port q from rfl]
    by_cases hq : q = p
    · subst hq; rw [port_setPort_same]; exact ⟨rfl, rfl, rfl⟩
    · rw [port_setPort_other _ _ hq]; exact ⟨rfl, rfl, rfl⟩
  refine ⟨rfl, rfl, fun q => ?_, fun q => (kept q).1, fun q => (kept q).2.1, fun q => (kept q).2.2⟩
  rw [portUp, (s.markHeld_changes p).get_eq (by simp only [Reg.ETH_STATUS, Reg.ETH_PORT_COUNT, Reg.BEAM_LAT_BOUND]; omega), portUp]

theorem raiseHeld_port (s : State) (p q : Nat) : (s.raiseHeld p).port q = s.port q := by rw [port, raiseHeld_eth, port]

theorem raiseHeld_sources (s : State) (p : Nat) : SameSources s (s.raiseHeld p) := by
  have eth := s.raiseHeld_eth p
  refine ⟨by rw [eth], by rw [eth], fun q => ?_, fun q => by rw [raiseHeld_port], fun q => by rw [raiseHeld_port], fun q => by rw [raiseHeld_port]⟩
  have status : ¬ EventRegs Ev.ETH_C0_HELD Reg.ETH_STATUS := by
    simp only [EventRegs, Ev.ETH_C0_HELD, Reg.EVT_SRC_CNT, Reg.EVT_SRC_CFG, Reg.EVT_STATUS, Reg.ETH_STATUS]; omega
  rw [portUp, (s.raiseHeld_changes p).get_eq status, portUp]

/-- A class 0 packet that the bucket does not hold is marked and counted; the sources of the lower classes are those before. -/
theorem holdClass0_spec (h : (s.port p).held = false) :
    (s.holdClass0 p).port p = { s.port p with held := true } ∧ (s.holdClass0 p).flag Reg.BEAM_LAT_BOUND Fld.BEAM_LAT_BOUND_VALID = false
      ∧ (s.holdClass0 p).full (Reg.ETH_PORT_COUNT p 4) = min (s.full (Reg.ETH_PORT_COUNT p 4) + 1) (2 ^ 32 - 1)
      ∧ (s.eth.heldRaised = false → Counted s (s.holdClass0 p) Ev.ETH_C0_HELD)
      ∧ SameSources s (s.holdClass0 p) ∧ Changes (Part.ports :: eventParts) (HeldRegs p) s (s.holdClass0 p) := by
  have apart : Reg.ETH_PORT_COUNT p 4 ≠ Reg.BEAM_LAT_BOUND := by simp only [Reg.ETH_PORT_COUNT, Reg.BEAM_LAT_BOUND]; omega
  have quiet : ∀ a, a = Reg.ETH_PORT_COUNT p 4 ∨ a = Reg.BEAM_LAT_BOUND → ¬ EventRegs Ev.ETH_C0_HELD a := fun a h => by
    simp only [EventRegs, Ev.ETH_C0_HELD, Reg.EVT_SRC_CNT, Reg.EVT_SRC_CFG, Reg.EVT_STATUS, Reg.ETH_PORT_COUNT, Reg.BEAM_LAT_BOUND] at *; omega
  have marked := s.markHeld_changes p
  have ports : (s.markHeld p).port p = { s.port p with held := true } := port_setPort_same s p _
  have bound : (s.markHeld p).flag Reg.BEAM_LAT_BOUND Fld.BEAM_LAT_BOUND_VALID = false := flag_setFlag_same _ _ _ (by decide) (by decide)
  have count : (s.markHeld p).full (Reg.ETH_PORT_COUNT p 4) = min (s.full (Reg.ETH_PORT_COUNT p 4) + 1) (2 ^ 32 - 1) := by
    rw [markHeld, (changes_setFlag _ _ _ _).full_eq apart, full_count_same, full_setPort]
  have heldRaised : (s.markHeld p).eth.heldRaised = s.eth.heldRaised := rfl
  have first := marked.full_eq (a := Reg.EVT_SRC_CNT Ev.ETH_C0_HELD)
    (by simp only [Reg.EVT_SRC_CNT, Ev.ETH_C0_HELD, Reg.ETH_PORT_COUNT, Reg.BEAM_LAT_BOUND]; omega)
  have sources := (s.markHeld_sources p).trans ((s.markHeld p).raiseHeld_sources p)
  rw [holdClass0_eq h]
  generalize s.markHeld p = u at marked ports bound count heldRaised first sources ⊢
  have raised := u.raiseHeld_changes p
  have sys : u.sys = s.sys := marked.parts .sys (by decide)
  refine ⟨(u.raiseHeld_port p p).trans ports, (raised.flag_eq (quiet _ (.inr rfl)) _).trans bound,
    (raised.full_eq (quiet _ (.inl rfl))).trans count, fun hh k => ?_, sources, ?_⟩
  · rw [raiseHeld_counted (heldRaised.trans hh) (by rw [sys]; exact k), first]
  · have before : Changes (Part.ports :: eventParts) (HeldRegs p) s u := marked.mono (by decide) fun _ h => h.imp_right .inl
    exact before.trans (raised.mono (fun _ h => h) fun _ h => .inr (.inr h))

end State

end Sys2Proof.Machine
end

section
/-! PROOF. A free transmitter's clauses, and a port's link that is lost or comes up (O37). -/

namespace Sys2Proof.Machine

namespace State

/-! ### A packet that leaves, told from the state before -/

/-- As the obligation tells that a packet has left. -/
def Sends (p : Nat) (k : Pkt) (s t : State) : Prop :=
  t.out.eth = s.out.eth ++ [(p, s.pktFrame p k)] ∧ (t.port p).wire = some { k with again := false }
    ∧ t.full (Reg.ETH_PORT_COUNT p 0) = min (s.full (Reg.ETH_PORT_COUNT p 0) + 1) (2 ^ 32 - 1)
    ∧ t.full (Reg.ETH_PORT_COUNT p 3) = min (s.full (Reg.ETH_PORT_COUNT p 3) + b2n (k.again && k.cls != 0)) (2 ^ 32 - 1)
    ∧ ∀ i, k.stream = some i → (t.stream i).sentSeq = some k.seq

/-- Moves of ports and streams before the packet leave what it tells alone. -/
theorem Sent.told {p : Nat} {k : Pkt} {s v t : State} (h : Sent p k v t) (before : Only [.ports, .streams] s v) (regs : v.eth.regs = s.eth.regs) :
    Sends p k s t ∧ KeepsRegs s t (SentCounts p) ∧ Only [.regs, .ports, .streams, .outEth] s t := by
  have out : v.out.eth = s.out.eth := before .outEth (by decide)
  have full : ∀ a, v.full a = s.full a := fun a => by rw [State.full, before .regs (by decide) a, State.full]
  obtain ⟨odd, port⟩ := h.port
  refine ⟨⟨?_, by rw [port], ?_, ?_, h.seq⟩, fun a ha => (h.changes.regs a ha).trans (before .regs (by decide) a),
    (before.mono (by decide)).trans h.changes.parts⟩
  · rw [h.frame, out, pktFrame_of_settings regs]
  · rw [h.packets, full]
  · rw [h.resends, full]

theorem takeOffered_spec (s : State) (p i : Nat) :
    Only [.ports, .streams] s (s.takeOffered p i) ∧ (s.takeOffered p i).eth.regs = s.eth.regs
      ∧ (i ≠ 4096 → ((s.takeOffered p i).stream i).queue = (s.stream i).queue.drop 1)
      ∧ (i = 4096 → ((s.takeOffered p i).port p).c3 = (s.port p).c3.drop 1) := by
  unfold takeOffered; split
  · rename_i h
    exact ⟨(only_setPort s p _).mono (by decide), rfl, fun k => absurd h k, fun _ => by rw [port_setPort_same]⟩
  · rename_i h
    exact ⟨(only_setStream s i _).mono (by decide), rfl, fun _ => by rw [stream_setStream_same], fun k => absurd k h⟩

section

variable {s : State} {p : Nat}

theorem next_sends0 {k : Pkt} {rest : List Pkt} (h1 : s.portUp p) (h2 : s.stopped = false) (h3 : s.standby = false)
    (hc : (s.port p).c0 = k :: rest) (ht : s.wireLen p k * 8192 ≤ (s.port p).tokens) :
    Sends p k s (s.next p) ∧ ((s.next p).port p).c0 = rest ∧ ((s.next p).port p).held = false
      ∧ ((s.next p).port p).tokens = (s.port p).tokens - s.wireLen p k * 8192
      ∧ (∀ i, ((s.next p).stream i).queue = (s.stream i).queue) ∧ KeepsRegs s (s.next p) (SentCounts p)
      ∧ Only [.regs, .ports, .streams, .outEth] s (s.next p) := by
  rw [next_class0 h1 h2 h3 hc, if_pos ht]
  have sent := sendPkt_sent (s.setPort p { s.port p with c0 := rest, tokens := (s.port p).tokens - s.wireLen p k * 8192, held := false }) p k
  obtain ⟨sends, regs, parts⟩ := sent.told ((only_setPort s p _).mono (by decide)) rfl
  obtain ⟨odd, port⟩ := sent.port
  rw [port_setPort_same] at port
  exact ⟨sends, by rw [port], by rw [port], by rw [port], fun i => (sent.queues i).trans (by rw [stream_setPort]), regs, parts⟩

theorem next_idle (h1 : s.portUp p) (h2 : s.stopped = false) (h3 : s.standby = false) (hc : (s.port p).c0 = [])
    (hn : ∀ c, c = 1 ∨ c = 2 ∨ c = 3 → s.classSources p c = []) : s.next p = s.setPort p (s.port p) := by
  rw [next_lower h1 h2 h3 hc, sendLower_idle hn]

theorem next_sendsLower {c i : Nat} {k : Pkt} (h1 : s.portUp p) (h2 : s.stopped = false) (h3 : s.standby = false) (hc : (s.port p).c0 = [])
    (one : OneSource p c i k s) (hk : s.wireLen p k ≤ 9256) (t1 : 1 ≤ (s.port p).turn) (t3 : (s.port p).turn ≤ 3)
    (hl : (s.port p).deficit.length = 3) :
    Sends p k s (s.next p) ∧ (i ≠ 4096 → ((s.next p).stream i).queue = (s.stream i).queue.drop 1)
      ∧ (i = 4096 → ((s.next p).port p).c3 = (s.port p).c3.drop 1) ∧ KeepsRegs s (s.next p) (SentCounts p)
      ∧ Only [.regs, .ports, .streams, .outEth] s (s.next p) := by
  obtain ⟨y, pick, moved⟩ := one.picked hk t1 t3 hl
  rw [next_lower h1 h2 h3 hc, sendLower_of_picked pick one.offers]
  obtain ⟨taken, regs, queue, c3⟩ := (s.setPort p y).takeOffered_spec p i
  have sent := sendPkt_sent ((s.setPort p y).takeOffered p i) p k
  obtain ⟨sends, keeps, parts⟩ := sent.told (((only_setPort s p y).mono (by decide)).trans taken) regs
  obtain ⟨odd, port⟩ := sent.port
  refine ⟨sends, fun hi => ?_, fun hi => ?_, keeps, parts⟩
  · rw [sent.queues, queue hi, stream_setPort]
  · rw [port]
    exact (c3 hi).trans (by rw [port_setPort_same, moved])

theorem next_holds {k : Pkt} {rest : List Pkt} (h1 : s.portUp p) (h2 : s.stopped = false) (h3 : s.standby = false)
    (hc : (s.port p).c0 = k :: rest) (ht : (s.port p).tokens < s.wireLen p k * 8192)
    (hn : ∀ c, c = 1 ∨ c = 2 ∨ c = 3 → s.classSources p c = []) (hh : (s.port p).held = false) :
    s.next p = (s.holdClass0 p).setPort p ((s.holdClass0 p).port p) := by
  obtain ⟨_, _, _, _, sources, _⟩ := holdClass0_spec hh
  rw [next_class0 h1 h2 h3 hc, if_neg (by omega), sendLower_idle fun c hc => (sources.classSources p c).trans (hn c hc)]

end

/-! ### The clauses of EGRESS_TRANSMIT -/

theorem egressTransmit_completes (p : Port) (ns : Nat) (fs : List (List Byte)) (s : State) (hr : (s.port p).rate ≠ 0) :
    let x : PortSt := s.freed p ns fs
    let u := s.setPort p x
    let counts := fun (a : Nat) => a = Reg.ETH_PORT_COUNT p 0 ∨ a = Reg.ETH_PORT_COUNT p 1 ∨ a = Reg.ETH_PORT_COUNT p 3
    (s.portUp p = false ∨ s.stopped → Completes (.egressTransmit p ns fs) s (fun t => t.port p = x ∧ (∀ q, q ≠ p.val → t.port q = s.port q) ∧ Only [.ports] s t))
    ∧ (s.portUp p → s.stopped = false → s.standby → Completes (.egressTransmit p ns fs) s (fun t =>
        t.port p = (if x.c0 = [] then x else { x with c0 := x.c0.drop 1, held := false }) ∧ (∀ k rest, x.c0 = k :: rest → (s.now.units, p.val, k) ∈ t.twin.retain) ∧ Only [.ports, .twin] s t))
    ∧ (∀ k rest, s.portUp p → s.stopped = false → s.standby = false → x.c0 = k :: rest → s.wireLen p k * 8192 ≤ x.tokens →
        Completes (.egressTransmit p ns fs) s (fun t => Sends p k s t ∧ (t.port p).c0 = rest ∧ (t.port p).held = false ∧ (t.port p).tokens = x.tokens - s.wireLen p k * 8192
          ∧ (∀ i, (t.stream i).queue = (s.stream i).queue) ∧ KeepsRegs s t counts ∧ Only [.regs, .ports, .streams, .outEth] s t))
    ∧ (s.portUp p → s.stopped = false → s.standby = false → x.c0 = [] → (∀ c, c = 1 ∨ c = 2 ∨ c = 3 → u.classSources p c = []) →
        Completes (.egressTransmit p ns fs) s (fun t => t.out.eth = s.out.eth ∧ (t.port p).wire = none ∧ Only [.ports] s t))
    ∧ (∀ c i k, s.portUp p → s.stopped = false → s.standby = false → x.c0 = [] → 1 ≤ c → c ≤ 3 → u.classSources p c = [i] →
        (∀ d, 1 ≤ d → d ≤ 3 → d ≠ c → u.classSources p d = []) → u.offered p i = some k → s.wireLen p k ≤ 9256 →
        1 ≤ x.turn → x.turn ≤ 3 → x.deficit.length = 3 → x.last.length = 3 →
        Completes (.egressTransmit p ns fs) s (fun t => Sends p k s t
          ∧ (i ≠ 4096 → (t.stream i).queue = ((s.stream i).queue).drop 1) ∧ (i = 4096 → (t.port p).c3 = x.c3.drop 1)
          ∧ KeepsRegs s t counts ∧ Only [.regs, .ports, .streams, .outEth] s t))
    ∧ (∀ k rest, s.portUp p → s.stopped = false → s.standby = false → x.c0 = k :: rest → x.tokens < s.wireLen p k * 8192 → x.held = false →
        (∀ c, c = 1 ∨ c = 2 ∨ c = 3 → u.classSources p c = []) →
        Completes (.egressTransmit p ns fs) s (fun t => (t.port p).c0 = x.c0 ∧ (t.port p).held ∧ t.flag Reg.BEAM_LAT_BOUND Fld.BEAM_LAT_BOUND_VALID = false
          ∧ t.full (Reg.ETH_PORT_COUNT p 4) = min (s.full (Reg.ETH_PORT_COUNT p 4) + 1) (2 ^ 32 - 1)
          ∧ (s.eth.heldRaised = false → Counted s t Ev.ETH_C0_HELD) ∧ t.out.eth = s.out.eth
          ∧ KeepsRegs s t (fun a => a = Reg.ETH_PORT_COUNT p 4 ∨ a = Reg.BEAM_LAT_BOUND ∨ EventRegs Ev.ETH_C0_HELD a)
          ∧ Only (([.ports] : List Part) ++ eventParts) s t)) := by
  intro x u counts
  have run : exec (.egressTransmit p ns fs) s = .next (u.next p) := congrArg ok (transmit_eq hr)
  have freed : Only [.ports] s u := only_setPort s p x
  have place : u.port p = x := port_setPort_same s p x
  have others : ∀ q, q ≠ p.val → u.port q = s.port q := fun q hq => port_setPort_other s x hq
  have regs : ∀ a, u.reg a = s.reg a := freed .regs (by decide)
  have settings : u.eth.regs = s.eth.regs := rfl
  have len : ∀ k, u.wireLen p k = s.wireLen p k := fun k => wireLen_of_settings settings p k
  have up : u.portUp p = s.portUp p := rfl
  have stopped : u.stopped = s.stopped := rfl
  have standby : u.standby = s.standby := rfl
  have now : u.now = s.now := rfl
  have raised : u.eth.heldRaised = s.eth.heldRaised := rfl
  have sys : u.sys = s.sys := rfl
  have stream : ∀ i, u.stream i = s.stream i := fun _ => rfl
  have told : ∀ {k : Pkt} {t : State}, Sends p k u t → Sends p k s t := fun {k t} h => by
    obtain ⟨frame, wire, packets, resends, seq⟩ := h
    exact ⟨by rw [frame, pktFrame_of_settings settings]; rfl, wire, packets, resends, seq⟩
  have kept : ∀ {P : Nat → Prop} {t : State}, KeepsRegs u t P → KeepsRegs s t P := fun h a ha => (h a ha).trans (regs a)
  clear_value u
  refine ⟨fun h => ?_, fun h1 h2 h3 => ?_, fun k rest h1 h2 h3 hc ht => ?_, fun h1 h2 h3 hc hn => ?_,
    fun c i k h1 h2 h3 hc c1 c3 alone none offers hk t1 t3 hl _ => ?_, fun k rest h1 h2 h3 hc ht hh hn => ?_⟩
  all_goals refine ⟨_, run, ?_⟩
  · rw [next_quiet (by rwa [up, stopped])]
    exact ⟨place, others, freed⟩
  · rw [next_standby (up.trans h1) (stopped.trans h2) (standby.trans h3)]
    obtain ⟨port, retain, parts⟩ := u.retainClass0_spec p
    rw [place] at port retain
    rw [now] at retain
    exact ⟨port, retain, (freed.mono (by decide)).trans parts⟩
  · have h := next_sends0 (up.trans h1) (stopped.trans h2) (standby.trans h3) (k := k) (rest := rest) (by rw [place, hc]) (by rw [len, place]; exact ht)
    obtain ⟨sends, c0, held, tokens, queues, keeps, parts⟩ := h
    rw [len, place] at tokens
    exact ⟨told sends, c0, held, tokens, fun i => (queues i).trans (by rw [stream]), kept keeps, (freed.mono (by decide)).trans parts⟩
  · rw [next_idle (up.trans h1) (stopped.trans h2) (standby.trans h3) (by rw [place, hc]) hn]
    have parts := freed.trans (only_setPort u p (u.port p))
    refine ⟨parts .outEth (by decide), ?_, parts⟩
    rw [port_setPort_same, place]
    rfl
  · have h := next_sendsLower (up.trans h1) (stopped.trans h2) (standby.trans h3) (by rw [place, hc]) ⟨c1, c3, alone, none, offers⟩
      (by rw [len]; exact hk) (by rw [place]; exact t1) (by rw [place]; exact t3) (by rw [place]; exact hl)
    obtain ⟨sends, queue, frames, keeps, parts⟩ := h
    exact ⟨told sends, fun hi => (queue hi).trans (by rw [stream]), fun hi => (frames hi).trans (by rw [place]), kept keeps,
      (freed.mono (by decide)).trans parts⟩
  · have held : (u.port p).held = false := by rw [place]; exact hh
    rw [next_holds (up.trans h1) (stopped.trans h2) (standby.trans h3) (k := k) (rest := rest) (by rw [place, hc]) (by rw [len, place]; exact ht) hn held]
    obtain ⟨port, bound, count, counted, _, changes⟩ := holdClass0_spec held
    rw [place] at port
    generalize u.holdClass0 p = v at port bound count counted changes ⊢
    have same := only_setPort v p (v.port p)
    have all := (freed.mono (qs := Part.ports :: eventParts) (by decide)).trans (changes.parts.trans (same.mono (by decide)))
    have full : ∀ a, u.full a = s.full a := fun a => by rw [State.full, regs, State.full]
    refine ⟨by rw [port_setPort_same, port], by rw [port_setPort_same, port], by rw [flag_setPort, bound], ?_, fun hr k => ?_, all .outEth (by decide), ?_, all⟩
    · rw [full_setPort, count, full]
    · rw [full_setPort, counted (raised.trans hr) (by rw [sys]; exact k), full]
    · exact kept fun a ha => (reg_setPort ..).trans (changes.regs a ha)

end State

end Sys2Proof.Machine
end

section
/-! PROOF. O37 settled: a port's link that is lost or comes up, with its lanes, and the clauses together (R58, R322, R323). -/

namespace Sys2Proof.Machine

namespace State

/-! ### A port's bit of PORT_UP -/

/-- A port's bit as a field of its own. -/
def portBit (p : Nat) : Fld := ⟨Fld.ETH_STATUS_PORT_UP.lo + p, 1⟩

theorem portUp_iff (s : State) {p : Nat} (hp : p < 16) : s.portUp p = decide (s.get Reg.ETH_STATUS (portBit p) = 1) := by
  unfold portUp get Fld.of portBit
  rw [bitAt_eq_testBit, show Fld.ETH_STATUS_PORT_UP.width = 16 from rfl, Nat.testBit_mod_two_pow, show Fld.ETH_STATUS_PORT_UP.lo = 0 from rfl,
    pow_zero, Nat.div_one, Nat.zero_add, decide_eq_true hp, Bool.true_and, Nat.testBit_eq_decide_div_mod_eq, pow_one]

theorem portBit_fits {p : Nat} (hp : p < 16) : (portBit p).fits = true := by
  simp only [Fld.fits, decide_eq_true_eq]
  show 0 + p + 1 ≤ 32
  omega

theorem portBit_apart {p q : Nat} (h : q ≠ p) : (portBit p).apart (portBit q) = true := by
  simp only [Fld.apart, Bool.or_eq_true, decide_eq_true_eq]
  show 0 + p + 1 ≤ 0 + q ∨ 0 + q + 1 ≤ 0 + p
  omega

theorem portBit_apart_of_apart {p : Nat} (hp : p < 16) {g : Fld} (h : Fld.ETH_STATUS_PORT_UP.apart g = true) : (portBit p).apart g = true := by
  simp only [Fld.apart, Bool.or_eq_true, decide_eq_true_eq] at *
  change 0 + 16 ≤ g.lo ∨ g.lo + g.width ≤ 0 at h
  show 0 + p + 1 ≤ g.lo ∨ g.lo + g.width ≤ 0 + p
  omega

theorem portUp_setBit (s : State) {p : Nat} (hp : p < 16) (v : Nat) :
    (s.set Reg.ETH_STATUS (portBit p) v).portUp p = decide (v % 2 = 1)
      ∧ ∀ q < 16, q ≠ p → (s.set Reg.ETH_STATUS (portBit p) v).portUp q = s.portUp q := by
  refine ⟨?_, fun q hq hn => ?_⟩
  · rw [portUp_iff _ hp, get_set_same _ _ _ (portBit_fits hp)]; rfl
  · rw [portUp_iff _ hq, portUp_iff _ hq, get_set_apart _ _ _ (portBit_fits hp) (portBit_apart hn)]

/-! ### A port's lanes -/

theorem mem_portLanes {s : State} {p l : Nat} (h : l ∈ s.portLanes p) : 64 ≤ l ∧ l < 80 := by
  unfold portLanes at h; dsimp only at h
  split at h
  · have hm : ∀ {L : List (List Nat)}, l ∈ L.getD p [] → ∃ x ∈ L, l ∈ x := fun {L} h => by
      by_cases hp : p < L.length
      · rw [List.getD_eq_getElem _ _ hp] at h
        exact ⟨_, List.getElem_mem hp, h⟩
      · rw [List.getD_eq_default _ _ (by omega)] at h
        simp at h
    obtain ⟨x, hx, hl⟩ := hm h
    obtain ⟨u, hu, hx⟩ := List.mem_flatMap.1 hx
    rw [List.mem_range] at hu
    split at hx <;> simp only [List.mem_cons, List.not_mem_nil, or_false] at hx
    · subst hx; simp at hl; omega
    · rcases hx with rfl | rfl <;> simp at hl <;> omega
    · rcases hx with rfl | rfl | rfl | rfl <;> simp at hl <;> omega
  · simp at h

theorem portLanes_of_settings {s t : State} (h : t.eth.regs = s.eth.regs) (p : Nat) : t.portLanes p = s.portLanes p := by
  have core : ∀ u : State, u.portLanes p = ({ s with eth := { s.eth with regs := u.eth.regs } } : State).portLanes p := fun _ => rfl
  rw [core t, h]

theorem laneDown_step (s : State) (i : Nat) : LaneStep i s (s.laneDown i) := by
  unfold laneDown; split
  · exact laneAdapt_step s i
  · exact .refl i s

/-- The state of a lane under an Ethernet PCS after its link is lost (R58). -/
def downState (s : State) (l : Nat) : Nat :=
  if s.laneState l ≠ 5 then s.laneState l else if s.flag (Reg.LANE_CFG l) Fld.LANE_CFG_RX_EN then 2 else 0

theorem laneState_laneDown (s : State) (l : Nat) : (s.laneDown l).laneState l = s.downState l := by
  unfold laneDown downState
  by_cases h : s.laneState l = 5
  · rw [if_pos h, if_neg (fun k => k h), laneState_laneAdapt]
  · rw [if_neg h, if_pos h]

/-- The lanes of a port whose link is lost. -/
theorem laneState_lanesDown (s : State) {ls : List Nat} {l : Nat} (h : l ∈ ls) : (s.each ls laneDown).laneState l = s.downState l := by
  have down : s.downState l ≠ 5 := by
    unfold downState; split
    · assumption
    · split <;> decide
  refine each_reaches (J := fun t => t.laneState l = s.downState l)
    (K := fun t => t.laneState l = s.laneState l ∧ t.flag (Reg.LANE_CFG l) Fld.LANE_CFG_RX_EN = s.flag (Reg.LANE_CFG l) Fld.LANE_CFG_RX_EN
      ∨ t.laneState l = s.downState l) h
    (fun t i k => ?_) (fun t i k => ?_) (fun t k => ?_) (.inl ⟨rfl, rfl⟩)
  · by_cases hi : i = l
    · subst hi
      right
      rw [laneState_laneDown]
      rcases k with ⟨k1, k2⟩ | k
      · unfold downState; rw [k1, k2]
      · rw [downState, if_pos (by rw [k]; exact down), k]
    · have step := laneDown_step t i
      rcases k with ⟨k1, k2⟩ | k
      · exact .inl ⟨(step.laneState_other (Ne.symm hi)).trans k1, (step.flag_cfg l _).trans k2⟩
      · exact .inr ((step.laneState_other (Ne.symm hi)).trans k)
  · by_cases hi : i = l
    · subst hi
      rw [laneState_laneDown, downState, if_pos (by rw [k]; exact down), k]
    · exact ((laneDown_step t i).laneState_other (Ne.symm hi)).trans k
  · rw [laneState_laneDown]
    rcases k with ⟨k1, k2⟩ | k
    · unfold downState; rw [k1, k2]
    · rw [downState, if_pos (by rw [k]; exact down), k]

theorem lanesDown_changes (s : State) (ls : List Nat) : Changes [.regs, .lanes] (fun a => ∃ l ∈ ls, LaneRegs l a) s (s.each ls laneDown) :=
  Changes.each ls (fun s i hi => (laneDown_step s i).changes.mono (fun _ h => h) fun _ h => ⟨i, hi, h⟩) s

/-! ### Lanes that rise with their link -/

theorem laneRise_of_low {s : State} {l : Nat} (h : ¬ 3 ≤ s.laneState l) : s.laneRise l = s := if_neg h

theorem laneRise_of_high {s : State} {l : Nat} (h : 3 ≤ s.laneState l) :
    s.laneRise l = (s.set (Reg.LANE_STATUS l) Fld.LANE_STATUS_STATE 5).setFlag (Reg.LANE_STATUS l) Fld.LANE_STATUS_MARKER_LOCK true := by
  rw [laneRise, if_pos h, laneTo_of_high _ _ (by decide)]

theorem laneRise_changes (s : State) (l : Nat) : Changes [.regs] (· = Reg.LANE_STATUS l) s (s.laneRise l) := by
  by_cases h : 3 ≤ s.laneState l
  · rw [laneRise_of_high h]
    exact (changes_set s _ _ _).trans (changes_setFlag _ _ _ _)
  · rw [laneRise_of_low h]
    exact .refl _ _ s

/-- What a lane under an Ethernet PCS shows once its link is up (R58). -/
def RisenLane (s : State) (l : Nat) (t : State) : Prop :=
  t.laneState l = (if 3 ≤ s.laneState l then 5 else s.laneState l)
    ∧ (3 ≤ s.laneState l → t.flag (Reg.LANE_STATUS l) Fld.LANE_STATUS_MARKER_LOCK)

theorem laneRise_risen (s : State) (l : Nat) : RisenLane s l (s.laneRise l) := by
  by_cases h : 3 ≤ s.laneState l
  · rw [laneRise_of_high h]
    refine ⟨?_, fun _ => flag_setFlag_same _ _ _ (by decide) (by decide)⟩
    rw [if_pos h, laneState, get_setFlag_apart _ _ _ (by decide) (by decide), get_set_same _ _ _ (by decide)]
    rfl
  · rw [laneRise_of_low h]
    exact ⟨by rw [if_neg h], fun k => absurd k h⟩

theorem RisenLane.again {s t : State} {l : Nat} (h : RisenLane s l t) : RisenLane s l (t.laneRise l) := by
  obtain ⟨state, lock⟩ := h
  obtain ⟨state', lock'⟩ := t.laneRise_risen l
  by_cases hs : 3 ≤ s.laneState l
  · rw [if_pos hs] at state
    rw [state, if_pos (by decide)] at state'
    exact ⟨by rw [state', if_pos hs], fun _ => lock' (by rw [state]; decide)⟩
  · rw [if_neg hs] at state
    rw [laneRise_of_low (by rw [state]; exact hs)]
    exact ⟨by rw [state, if_neg hs], fun k => absurd k hs⟩

theorem RisenLane.of_reg {s t u : State} {l : Nat} (h : RisenLane s l t) (hr : u.reg (Reg.LANE_STATUS l) = t.reg (Reg.LANE_STATUS l)) :
    RisenLane s l u := by
  have fields : KeepsFields t u (Reg.LANE_STATUS l) [] := .of_reg _ hr
  exact ⟨(fields _ nofun).trans h.1, fun k => (fields.flag nofun).trans (h.2 k)⟩

theorem laneStatus_injective {i l : Nat} (h : Reg.LANE_STATUS l = Reg.LANE_STATUS i) : l = i := by
  simp only [Reg.LANE_STATUS] at h; omega

theorem lanesRise_risen (s : State) {ls : List Nat} {l : Nat} (h : l ∈ ls) : RisenLane s l (s.each ls laneRise) := by
  have other : ∀ (t : State) i, i ≠ l → (t.laneRise i).reg (Reg.LANE_STATUS l) = t.reg (Reg.LANE_STATUS l) := fun t i hi =>
    (laneRise_changes t i).regs _ fun k => hi (laneStatus_injective k).symm
  have first : ∀ t : State, t.reg (Reg.LANE_STATUS l) = s.reg (Reg.LANE_STATUS l) → RisenLane s l (t.laneRise l) := fun t k => by
    have e : t.laneState l = s.laneState l := by rw [laneState, get, k, laneState, get]
    have risen := t.laneRise_risen l
    unfold RisenLane at risen ⊢
    rwa [e] at risen
  refine each_reaches (J := RisenLane s l) (K := fun t => t.reg (Reg.LANE_STATUS l) = s.reg (Reg.LANE_STATUS l) ∨ RisenLane s l t) h
    (fun t i k => ?_) (fun t i k => ?_) (fun t k => k.elim (first t) RisenLane.again) (.inl rfl)
  · by_cases hi : i = l
    · subst hi
      exact .inr (k.elim (first t) RisenLane.again)
    · exact k.imp (fun k => (other t i hi).trans k) fun k => k.of_reg (other t i hi)
  · by_cases hi : i = l
    · subst hi; exact k.again
    · exact k.of_reg (other t i hi)

theorem lanesRise_changes (s : State) (ls : List Nat) : Changes [.regs] (fun a => ∃ l ∈ ls, a = Reg.LANE_STATUS l) s (s.each ls laneRise) :=
  Changes.each ls (fun s i hi => (laneRise_changes s i).mono (fun _ h => h) fun _ h => ⟨i, hi, h⟩) s

/-! ### The port's link comes up -/

theorem ethLinkUp_completes (p : Port) (s : State) (hr : (s.port p).rate ≠ 0) : Completes (.ethLinkUp p) s (fun t => t.portUp p
      ∧ (∀ q : Port, q ≠ p → t.portUp q = s.portUp q) ∧ KeepsFields s t Reg.ETH_STATUS [Fld.ETH_STATUS_PORT_UP]
      ∧ (∀ l ∈ s.portLanes p, t.laneState l = (if 3 ≤ s.laneState l then 5 else s.laneState l)
          ∧ (3 ≤ s.laneState l → t.flag (Reg.LANE_STATUS l) Fld.LANE_STATUS_MARKER_LOCK))
      ∧ KeepsRegs s t (fun a => a = Reg.ETH_STATUS ∨ ∃ l ∈ s.portLanes p, a = Reg.LANE_STATUS l) ∧ Only [.regs] s t) := by
  refine ⟨_, congrArg ok (if_neg hr), ?_⟩
  have lanes : (s.set Reg.ETH_STATUS (portBit p) 1).portLanes p = s.portLanes p := portLanes_of_settings rfl p
  obtain ⟨up, others⟩ := s.portUp_setBit p.isLt 1
  have bit := changes_set s Reg.ETH_STATUS (portBit p) 1
  have fields : KeepsFields s (s.set Reg.ETH_STATUS (portBit p) 1) Reg.ETH_STATUS [Fld.ETH_STATUS_PORT_UP] := fun g hg =>
    get_set_apart s _ _ (portBit_fits p.isLt) (portBit_apart_of_apart p.isLt (hg _ (List.mem_singleton.2 rfl)))
  rw [show (⟨Fld.ETH_STATUS_PORT_UP.lo + p, 1⟩ : Fld) = portBit p from rfl]
  generalize s.set Reg.ETH_STATUS (portBit p) 1 = u at lanes up others bit fields ⊢
  have rise := lanesRise_changes u (s.portLanes p)
  have status : (u.each (s.portLanes p) laneRise).reg Reg.ETH_STATUS = u.reg Reg.ETH_STATUS :=
    rise.regs _ fun ⟨l, hl, e⟩ => by
      have := mem_portLanes hl
      simp only [Reg.ETH_STATUS, Reg.LANE_STATUS] at e; omega
  have keptUp : ∀ q, (u.each (s.portLanes p) laneRise).portUp q = u.portUp q := fun q => by rw [portUp, get, status, portUp, get]
  refine ⟨(keptUp p).trans up, fun q hq => (keptUp q).trans (others q q.isLt fun e => hq (Fin.ext e)), fields.trans (.of_reg _ status),
    fun l hl => ?_, ?_, bit.parts.trans rise.parts⟩
  · have same : u.laneState l = s.laneState l := bit.get_eq (by
      have := mem_portLanes hl
      simp only [Reg.ETH_STATUS, Reg.LANE_STATUS]; omega) _
    have risen := lanesRise_risen u hl
    unfold RisenLane at risen
    rwa [same] at risen
  · exact ((bit.mono (fun _ h => h) fun _ => .inl).trans (rise.mono (fun _ h => h) fun _ => .inr)).regs

end State

end Sys2Proof.Machine
end

section
/-! PROOF. O37 settled: a data port's link that goes down, and the clauses together (R322, R323). -/

namespace Sys2Proof.Machine

namespace State

/-- A packet of class 1–3 that was cut on the wire waits again, at the front (R323). -/
def restoreCut (s : State) (p : Nat) (cut : Bool) (wire : Option Pkt) : State :=
  if !cut then s
  else match wire with
    | none => s
    | some k =>
      if k.cls = 0 then s
      else match k.stream with
        | some i => s.setStream i { s.stream i with queue := { k with again := true } :: (s.stream i).queue }
        | none => s.setPort p { s.port p with c3 := { k with again := true } :: (s.port p).c3 }

/-- A port whose link is lost: nothing of class 0, nothing on the wire. -/
def emptied (x : PortSt) : PortSt := { x with c0 := [], wire := none, held := false }

/-- The class 0 packets lost with the link. -/
def lostPkts (x : PortSt) (cut : Bool) : Nat := x.c0.length + b2n (cut && x.wire.any (fun k => k.cls == 0))

/-- The port's bit, the event and the count of what is lost. -/
def linkLost (s : State) (p : Nat) (cut : Bool) : State :=
  ((s.set Reg.ETH_STATUS (portBit p) 0).raise Ev.ETH_LINK_DOWN p).count (Reg.ETH_PORT_COUNT p 2) (lostPkts (s.port p) cut)

theorem portDown_eq {s : State} {p : Nat} (cut : Bool) (h : s.portUp p) :
    s.portDown p cut = (((s.linkLost p cut).setPort p (emptied (s.port p))).each ((s.linkLost p cut).portLanes p) laneDown).restoreCut p cut
      (s.port p).wire := by
  unfold portDown; dsimp only
  rw [if_neg (by rw [h]; decide)]
  rfl

theorem lostPkts_eq (x : PortSt) (cut : Bool) : lostPkts x cut = x.c0.length + (match x.wire with
    | some k => if cut ∧ k.cls = 0 then 1 else 0
    | none => 0) := by
  unfold lostPkts
  cases x.wire with
  | none => simp [b2n]
  | some k => cases cut <;> by_cases hk : k.cls = 0 <;> simp [b2n, hk]

theorem restoreCut_spec (s : State) (p : Nat) (cut : Bool) (wire : Option Pkt) :
    Only [.ports, .streams] s (s.restoreCut p cut wire)
      ∧ ((s.restoreCut p cut wire).port p).c0 = (s.port p).c0 ∧ ((s.restoreCut p cut wire).port p).wire = (s.port p).wire
      ∧ ((s.restoreCut p cut wire).port p).held = (s.port p).held ∧ (∀ q, q ≠ p → (s.restoreCut p cut wire).port q = s.port q)
      ∧ (∀ k i, cut → wire = some k → k.cls ≠ 0 → k.stream = some i →
          ((s.restoreCut p cut wire).stream i).queue = { k with again := true } :: (s.stream i).queue
            ∧ ∀ j, j ≠ i → (s.restoreCut p cut wire).stream j = s.stream j)
      ∧ ((cut = false ∨ ∀ k, wire = some k → k.cls = 0) → ∀ i, (s.restoreCut p cut wire).stream i = s.stream i) := by
  cases cut with
  | false => exact ⟨.refl _ s, rfl, rfl, rfl, fun _ _ => rfl, nofun, fun _ _ => rfl⟩
  | true =>
    cases wire with
    | none => exact ⟨.refl _ s, rfl, rfl, rfl, fun _ _ => rfl, nofun, fun _ _ => rfl⟩
    | some k =>
      by_cases hk : k.cls = 0
      · rw [show s.restoreCut p true (some k) = s from if_pos hk]
        exact ⟨.refl _ s, rfl, rfl, rfl, fun _ _ => rfl, fun k' i _ e h => absurd (Option.some.inj e ▸ hk) h, fun _ _ => rfl⟩
      · have no : ¬ (true = false ∨ ∀ k', some k = some k' → k'.cls = 0) := by
          rintro (h | h)
          · exact absurd h (by decide)
          · exact hk (h k rfl)
        cases hs : k.stream with
        | none =>
          rw [show s.restoreCut p true (some k) = s.setPort p { s.port p with c3 := { k with again := true } :: (s.port p).c3 } from
            (if_neg hk).trans (by rw [hs])]
          refine ⟨(only_setPort s p _).mono (by decide), by rw [port_setPort_same], by rw [port_setPort_same], by rw [port_setPort_same],
            fun q hq => port_setPort_other s _ hq, fun k' i _ e _ h => ?_, fun h => absurd h no⟩
          obtain rfl := Option.some.inj e
          rw [hs] at h
          cases h
        | some i =>
          rw [show s.restoreCut p true (some k) = s.setStream i { s.stream i with queue := { k with again := true } :: (s.stream i).queue } from
            (if_neg hk).trans (by rw [hs])]
          refine ⟨(only_setStream s i _).mono (by decide), rfl, rfl, rfl, fun _ _ => rfl, fun k' j _ e _ h => ?_, fun h => absurd h no⟩
          obtain rfl := Option.some.inj e
          obtain rfl : i = j := Option.some.inj (hs.symm.trans h)
          exact ⟨by rw [stream_setStream_same], fun j hj => stream_setStream_other s _ hj⟩

/-- What losing a port's link does before its lanes and what was cut. -/
theorem linkLost_spec (s : State) {p : Nat} (hp : p < 16) (cut : Bool) :
    (s.linkLost p cut).portUp p = false ∧ (∀ q < 16, q ≠ p → (s.linkLost p cut).portUp q = s.portUp q)
      ∧ Counted s (s.linkLost p cut) Ev.ETH_LINK_DOWN
      ∧ (s.linkLost p cut).full (Reg.ETH_PORT_COUNT p 2) = min (s.full (Reg.ETH_PORT_COUNT p 2) + lostPkts (s.port p) cut) (2 ^ 32 - 1)
      ∧ (s.linkLost p cut).eth = s.eth
      ∧ Changes eventParts (fun a => a = Reg.ETH_STATUS ∨ a = Reg.ETH_PORT_COUNT p 2 ∨ EventRegs Ev.ETH_LINK_DOWN a) s (s.linkLost p cut) := by
  obtain ⟨up, others⟩ := s.portUp_setBit hp 0
  have bit := changes_set s Reg.ETH_STATUS (portBit p) 0
  have eth : (s.linkLost p cut).eth = s.eth := (raise_eth ..).trans rfl
  unfold linkLost at eth ⊢
  generalize lostPkts (s.port p) cut = n at eth ⊢
  generalize s.set Reg.ETH_STATUS (portBit p) 0 = u at up others bit eth ⊢
  have raised := changes_raise u Ev.ETH_LINK_DOWN p
  have counted : Counted s (u.raise Ev.ETH_LINK_DOWN p) Ev.ETH_LINK_DOWN :=
    counted_raise _ (by decide +kernel) (bit.parts .sys (by decide)) (bit.full_eq (by decide))
  have count := changes_count (u.raise Ev.ETH_LINK_DOWN p) (Reg.ETH_PORT_COUNT p 2) n
  have status : ((u.raise Ev.ETH_LINK_DOWN p).count (Reg.ETH_PORT_COUNT p 2) n).reg Reg.ETH_STATUS = u.reg Reg.ETH_STATUS :=
    (count.regs _ (by simp only [Reg.ETH_STATUS, Reg.ETH_PORT_COUNT]; omega)).trans (raised.regs _ (by
      simp only [EventRegs, Ev.ETH_LINK_DOWN, Reg.EVT_SRC_CNT, Reg.EVT_SRC_CFG, Reg.EVT_STATUS, Reg.ETH_STATUS]; omega))
  have keptUp : ∀ q, ((u.raise Ev.ETH_LINK_DOWN p).count (Reg.ETH_PORT_COUNT p 2) n).portUp q = u.portUp q := fun q => by
    rw [portUp, get, status, portUp, get]
  refine ⟨(keptUp p).trans up, fun q hq hn => (keptUp q).trans (others q hq hn), ?_, ?_, eth, ?_⟩
  · exact counted_then counted (count.full_eq (by simp only [Ev.ETH_LINK_DOWN, Reg.EVT_SRC_CNT, Reg.ETH_PORT_COUNT]; omega))
  · rw [full_count_same, raised.full_eq (by
      simp only [EventRegs, Ev.ETH_LINK_DOWN, Reg.EVT_SRC_CNT, Reg.EVT_SRC_CFG, Reg.EVT_STATUS, Reg.ETH_PORT_COUNT]; omega),
      bit.full_eq (by simp only [Reg.ETH_STATUS, Reg.ETH_PORT_COUNT]; omega)]
  · exact ((bit.mono (by decide) fun _ => .inl).trans (raised.mono (fun _ h => h) fun _ h => .inr (.inr h))).trans
      (count.mono (by decide) fun _ h => .inr (.inl h))

theorem ethLinkDown_completes (p : Port) (cut : Bool) (s : State) (hp : s.portUp p) : Completes (.ethLinkDown p cut) s (fun t =>
      let lost := (s.port p).c0.length + (match (s.port p).wire with
        | some k => if cut ∧ k.cls = 0 then 1 else 0
        | none => 0)
      t.portUp p = false ∧ (t.port p).c0 = [] ∧ (t.port p).wire = none ∧ (t.port p).held = false ∧ Counted s t Ev.ETH_LINK_DOWN
      ∧ t.full (Reg.ETH_PORT_COUNT p 2) = min (s.full (Reg.ETH_PORT_COUNT p 2) + lost) (2 ^ 32 - 1)
      ∧ (∀ k i, cut → (s.port p).wire = some k → k.cls ≠ 0 → k.stream = some i →
          (t.stream i).queue = { k with again := true } :: (s.stream i).queue ∧ ∀ j, j ≠ i → t.stream j = s.stream j)
      ∧ ((cut = false ∨ ∀ k, (s.port p).wire = some k → k.cls = 0) → ∀ i, t.stream i = s.stream i)
      ∧ (∀ q : Port, q ≠ p → t.portUp q = s.portUp q ∧ t.port q = s.port q)
      ∧ (∀ l ∈ s.portLanes p, t.laneState l = if s.laneState l ≠ 5 then s.laneState l
          else if s.flag (Reg.LANE_CFG l) Fld.LANE_CFG_RX_EN then 2 else 0)
      ∧ KeepsRegs s t (fun a => a = Reg.ETH_STATUS ∨ a = Reg.ETH_PORT_COUNT p 2 ∨ EventRegs Ev.ETH_LINK_DOWN a
          ∨ ∃ l ∈ s.portLanes p, a = Reg.LANE_STATUS l ∨ a = Reg.LANE_EQ l ∨ a = Reg.LANE_EYE_CTL l ∨ a = Reg.LANE_EYE_RESULT l)
      ∧ Only (([.ports, .streams, .lanes] : List Part) ++ eventParts) s t) := by
  refine ⟨_, congrArg ok (portDown_eq cut hp), ?_⟩
  dsimp only
  obtain ⟨up, othersUp, counted, count, eth, changes⟩ := s.linkLost_spec p.isLt cut
  rw [portLanes_of_settings (s := s) (by rw [eth])]
  generalize s.linkLost p cut = u at up othersUp counted count eth changes ⊢
  have placed := only_setPort u p (emptied (s.port p))
  have port := port_setPort_same u p (emptied (s.port p))
  have othersPort : ∀ q, q ≠ p.val → (u.setPort p (emptied (s.port p))).port q = s.port q := fun q hq => by
    rw [port_setPort_other _ _ hq, State.port, eth, State.port]
  have stream : ∀ i, (u.setPort p (emptied (s.port p))).stream i = s.stream i := fun i => by rw [stream_setPort, State.stream, eth, State.stream]
  have regs : ∀ a, (u.setPort p (emptied (s.port p))).reg a = u.reg a := placed .regs (by decide)
  generalize u.setPort p (emptied (s.port p)) = v at placed port othersPort stream regs ⊢
  have lanes : ∀ l ∈ s.portLanes p, (v.each (s.portLanes p) laneDown).laneState l = v.downState l := fun l hl => laneState_lanesDown v hl
  have down := lanesDown_changes v (s.portLanes p)
  generalize v.each (s.portLanes p) laneDown = w at lanes down ⊢
  obtain ⟨moved, c0, wire, held, others, resend, still⟩ := w.restoreCut_spec p cut (s.port p).wire
  generalize w.restoreCut p cut (s.port p).wire = t at moved c0 wire held others resend still ⊢
  have wport : ∀ q, w.port q = v.port q := (down.parts .ports (by decide)).1
  have wstream : ∀ i, w.stream i = s.stream i := fun i => (down.parts .streams (by decide) i).trans (stream i)
  have treg : ∀ a, ¬ (∃ l ∈ s.portLanes p, LaneRegs l a) → t.reg a = u.reg a := fun a ha =>
    (moved .regs (by decide) a).trans ((down.regs a ha).trans (regs a))
  have far : ∀ a, a < 0x200000 ∨ 0x210000 ≤ a → t.reg a = u.reg a := fun a ha =>
    treg a fun ⟨l, hl, k⟩ => not_laneRegs_of_range (by have := mem_portLanes hl; omega) ha k
  have keptUp : ∀ q, t.portUp q = u.portUp q := fun q => by rw [portUp, get, far _ (.inr (by decide)), portUp, get]
  have laneReg : ∀ l < 128, (v.laneState l = s.laneState l) ∧ v.flag (Reg.LANE_CFG l) Fld.LANE_CFG_RX_EN = s.flag (Reg.LANE_CFG l) Fld.LANE_CFG_RX_EN := by
    intro l hl
    have a1 : ∀ a, 0x200000 ≤ a → a ≠ Reg.ETH_STATUS → a ≠ Reg.ETH_PORT_COUNT p 2 → v.reg a = s.reg a := fun a h1 h2 h3 =>
      (regs a).trans (changes.regs a (by
        rintro (h | h | h)
        · exact h2 h
        · exact h3 h
        · exact not_eventRegs_of_lane (by decide) h1 h))
    constructor
    · rw [laneState, get, a1 _ (by simp only [Reg.LANE_STATUS]; omega) (by simp only [Reg.LANE_STATUS, Reg.ETH_STATUS]; omega)
        (by simp only [Reg.LANE_STATUS, Reg.ETH_PORT_COUNT]; omega), laneState, get]
    · rw [flag, get, a1 _ (by simp only [Reg.LANE_CFG]; omega) (by simp only [Reg.LANE_CFG, Reg.ETH_STATUS]; omega)
        (by simp only [Reg.LANE_CFG, Reg.ETH_PORT_COUNT]; omega), flag, get]
  refine ⟨(keptUp p).trans up, ?_, ?_, ?_, ?_, ?_, fun k i hc hw hk hs => ?_, fun h i => (still h i).trans (wstream i), fun q hq => ?_,
    fun l hl => ?_, fun a ha => ?_, ?_⟩
  · rw [c0, wport, port]; rfl
  · rw [wire, wport, port]; rfl
  · rw [held, wport, port]; rfl
  · exact counted_then counted (by rw [full, far (Reg.EVT_SRC_CNT Ev.ETH_LINK_DOWN) (.inl (by decide)), full])
  · have same : t.full (Reg.ETH_PORT_COUNT p 2) = u.full (Reg.ETH_PORT_COUNT p 2) := by
      rw [full, far _ (.inr (by simp only [Reg.ETH_PORT_COUNT]; omega)), full]
    exact same.trans (count.trans (by rw [lostPkts_eq]))
  · obtain ⟨front, rest⟩ := resend k i hc hw hk hs
    exact ⟨front.trans (by rw [wstream]), fun j hj => (rest j hj).trans (wstream j)⟩
  · have ne : q.val ≠ p.val := fun e => hq (Fin.ext e)
    exact ⟨(keptUp q).trans (othersUp q q.isLt ne), (others q ne).trans ((wport q).trans (othersPort q ne))⟩
  · have state : t.laneState l = w.laneState l := by rw [laneState, get, moved .regs (by decide), laneState, get]
    obtain ⟨same, enabled⟩ := laneReg l (by have := mem_portLanes hl; omega)
    rw [state, lanes l hl, downState, same, enabled]
  · rw [treg a fun ⟨l, hl, k⟩ => ha (.inr (.inr (.inr ⟨l, hl, k⟩)))]
    exact changes.regs a fun h => ha (h.imp_right (Or.imp_right .inl))
  · exact ((((changes.parts.mono (fun _ h => by simp only [List.mem_append]; exact .inr h)).trans (placed.mono (by decide))).trans
      (down.parts.mono (by decide))).trans (moved.mono (by decide)))

end State

/-- Settles O37: a free transmitter by the port's state, the scheduler's one source found as its deficit grows, and the port's link with its
lanes. -/
theorem portTransmission : Obligations.PortTransmission :=
  ⟨fun p ns fs s h => ⟨s, congrArg ok (State.transmit_absent h), rfl⟩, State.egressTransmit_completes,
    fun p cut s h => ⟨s, congrArg ok (if_pos (by rw [h]; decide)), rfl⟩, State.ethLinkDown_completes, State.ethLinkUp_completes,
    fun p s h => ⟨s, congrArg ok (if_pos h), rfl⟩⟩

end Sys2Proof.Machine
end

section
/-! SUPPORT. Numbers as bytes, a message handed to a delivery ring, and a command's answer (R6, R351, R358, R359). -/

namespace Sys2Proof.Machine

/-! ### Numbers as bytes (R6) -/

@[simp] theorem length_le (n v : Nat) : (le n v).length = n := by
  induction n generalizing v with
  | zero => rfl
  | succ n ih => rw [le, List.length_cons, ih]

theorem unle_le (n v : Nat) : unle (le n v) = v % 256 ^ n := by
  induction n generalizing v with
  | zero => rw [pow_zero, Nat.mod_one]; rfl
  | succ n ih =>
    rw [le, unle, ih, BitVec.toNat_ofNat, pow_succ' 256 n]
    exact Nat.mod_mul.symm

theorem unle_lt (l : List Byte) : unle l < 256 ^ l.length := by
  induction l with
  | nil => exact Nat.one_pos
  | cons b l ih =>
    have := b.isLt
    rw [unle, List.length_cons, pow_succ]
    omega

theorem fieldAt_lt (l : List Byte) (off n : Nat) : fieldAt l off n < 256 ^ n :=
  (unle_lt _).trans_le (Nat.pow_le_pow_right (by decide) (by rw [List.length_take]; omega))

/-- A field that stands behind others. -/
theorem fieldAt_append {a b : List Byte} {off : Nat} (h : a.length = off) (n v : Nat) : fieldAt (a ++ (le n v ++ b)) off n = v % 256 ^ n := by
  rw [fieldAt, List.drop_left' h, List.take_left' (length_le n v), unle_le]

namespace State

/-! ### A message handed to a delivery ring (R359) -/

theorem ringState_lt (s : State) (r : Nat) : s.ringState r < 4 := Fld.of_lt Fld.RING_STATE_STATE _

theorem toRing_open {s : State} {r : Nat} (m : Msg) (h : s.ringState r = 1 ∨ s.ringState r = 2) :
    s.toRing r m = s.setRing r { s.ring r with msgs := (s.ring r).msgs ++ [m] } := by
  unfold toRing; dsimp only
  rw [if_neg (by omega)]

theorem toRing_closed {s : State} {r : Nat} (m : Msg) (h : s.ringState r = 0 ∨ s.ringState r = 3) : s.toRing r m = s.dropMsg r m := by
  unfold toRing; dsimp only
  rw [if_pos h]

theorem dropMsg_msgs (s : State) (r : Nat) (m : Msg) : ((s.dropMsg r m).ring r).msgs = (s.ring r).msgs := by
  have same : ∀ x : RingSt, ((s.bump (Reg.RING_COUNT r) Fld.RING_COUNT_DROPS).setRing r x).ring r = x := fun x => ring_setRing_same _ r x
  unfold dropMsg; dsimp only
  split
  · rw [Only.ring (only_count _ _ _) (by decide), same, Only.ring (only_bump s _ _ _) (by decide)]
  · rw [same, Only.ring (only_bump s _ _ _) (by decide)]

theorem dropMsg_ring_other (s : State) {r q : Nat} (m : Msg) (h : q ≠ r) : (s.dropMsg r m).ring q = s.ring q := by
  unfold dropMsg; dsimp only
  split
  · rw [Only.ring (only_count _ _ _) (by decide), ring_setRing_other _ _ h, Only.ring (only_bump s _ _ _) (by decide)]
  · rw [ring_setRing_other _ _ h, Only.ring (only_bump s _ _ _) (by decide)]

theorem toRing_ring_other (s : State) {r q : Nat} (m : Msg) (h : q ≠ r) : (s.toRing r m).ring q = s.ring q := by
  unfold toRing; dsimp only; split
  · exact dropMsg_ring_other s m h
  · exact ring_setRing_other s _ h

/-- A message that a ring discards is counted by its producer. -/
theorem dropMsg_counts (s : State) {r a : Nat} {m : Msg} (hm : m.full = .counts a) (ha : a ≠ Reg.RING_COUNT r) :
    (s.dropMsg r m).full a = min (s.full a + 1) (2 ^ 32 - 1) := by
  unfold dropMsg; dsimp only
  rw [hm]
  dsimp only
  rw [full_count_same, full_setRing, full, reg_bump_other _ _ _ ha, full]

/-! ### A command's answer -/

section

variable {u s1 : State} {src : CmdSrc} {op r : Nat} {ref : CmdRef} {d : List Byte}

/-- Completing a command changes the registers of its answer only, as the obligations name them. -/
theorem finish_keeps_answerRegs (h : u.take src op = some (ref, d, r, s1)) {v : State} (alm : v.alm.execs = s1.alm.execs)
    (cfg : v.get Reg.ALM_CFG Fld.ALM_CFG_RING = s1.get Reg.ALM_CFG Fld.ALM_CFG_RING) (c : CplRec) :
    KeepsRegs v (v.finish ref c) (AnswerRegs s1 src) := by
  obtain ⟨_, _, _, _, _, shape⟩ := take_spec h
  intro a ha
  cases src with
  | ring q =>
    obtain ⟨_, id, rfl⟩ := shape
    exact onlyRing_reg (finish_slot_frame v q id c) a
  | almanac e =>
    unfold AnswerRegs at ha
    simp only [not_or, not_exists, not_and] at ha
    obtain ⟨h1, h2, h3⟩ := ha
    exact finish_reg v ref c (by rw [alm]; exact h1) (by rw [cfg]; exact h2) h3

theorem finish_nextId (s : State) (ref : CmdRef) (c : CplRec) (q : Nat) : ((s.finish ref c).ring q).nextId = (s.ring q).nextId := by
  cases ref with
  | slot r id =>
    by_cases hq : q = r
    · subst hq
      rw [finish, ring_setRing_same]
    · rw [finish, ring_setRing_other _ _ hq]
  | exec n =>
    have kept : ∀ (s : State) r m, ((s.toRing r m).ring q).nextId = (s.ring q).nextId := fun s r m => by
      by_cases hq : q = r
      · subst hq
        unfold toRing dropMsg; dsimp only
        split
        · split
          · rw [Only.ring (only_count _ _ _) (by decide), ring_setRing_same, Only.ring (only_bump s _ _ _) (by decide)]
          · rw [ring_setRing_same, Only.ring (only_bump s _ _ _) (by decide)]
        · rw [ring_setRing_same]
      · rw [toRing_ring_other s m hq]
    unfold finish finishExec; dsimp only
    split
    · rfl
    · split
      · rw [kept, Only.ring (only_set _ _ _ _) (by decide)]; rfl
      · rw [Only.ring (only_set _ _ _ _) (by decide)]; rfl

/-- A command that changes some registers and settings and then completes: its answer and its frame. -/
theorem command_completes (h : u.take src op = some (ref, d, r, s1)) (f : CmdRef → List Byte → Nat → State → State) {v : State} {c : CplRec}
    {p : CplRec → Prop} (hf : f ref d r s1 = v.finish ref c) (hp : ∀ tag chained, p { c with tag := tag, chained := chained })
    {ps : List Part} {P : Nat → Prop} (hv : Changes ps P s1 v) (hr : Part.rings ∉ ps) (hx : Part.firings ∉ ps)
    (cfg : ¬ P Reg.ALM_CFG) :
    Answered (u.command src op f) ref p ∧ KeepsRegs u (u.command src op f) (fun a => P a ∨ AnswerRegs s1 src a)
      ∧ Only (ps ++ answerParts) u (u.command src op f)
      ∧ ∀ a, ¬ AnswerRegs s1 src a → (u.command src op f).reg a = v.reg a := by
  have ring : ∀ q, v.ring q = s1.ring q := Only.ring hv.parts hr
  have alm : v.alm.execs = s1.alm.execs := hv.parts .firings hx
  have answer := finish_keeps_answerRegs h alm (hv.get_eq cfg _) c
  have waits : Awaits v ref := by
    obtain ⟨_, _, k, _⟩ := take_spec h
    cases ref with
    | slot r id => simp only [Awaits, ring] at k ⊢; exact k
    | exec q => simp only [Awaits, alm] at k ⊢; exact k
  have last : ∀ a, ¬ AnswerRegs s1 src a → (u.command src op f).reg a = v.reg a := fun a ha => by
    rw [command_reg h f, hf, answer a ha]
  refine ⟨command_answered h f (by rw [hf]; exact answered_finish waits c hp) fun q => by rw [hf, finish_nextId, ring], fun a ha => ?_, ?_, last⟩
  · obtain ⟨h1, h2⟩ := not_or.1 ha
    rw [last a h2, hv.regs a h1, take_reg h]
  · refine only_command h f (ps := ps ++ answerParts) ?_ (fun _ h => h) fun q hq => List.mem_append_right _ ?_
    · rw [hf]
      exact (hv.parts.mono fun _ => List.mem_append_left _).trans ((only_finish v ref c).mono fun _ => List.mem_append_right _)
    · revert q; decide

end

end State

end Sys2Proof.Machine
end

section
/-! PROOF. Frames received on data ports, and the management port (O38; R307, R308, R324, R325, R439, R440). -/

namespace Sys2Proof.Machine

namespace State

/-! ### A frame on a data port (R307, R308) -/

/-- The registers of rings lie apart from the egress block's counters. -/
theorem portCount_ne_ringCount (p : Port) {n : Nat} (hn : n < 8) (r : Nat) : Reg.ETH_PORT_COUNT p n ≠ Reg.RING_COUNT r := by
  simp only [Reg.ETH_PORT_COUNT, Reg.RING_COUNT]; omega

theorem portCount_ne (p : Nat) {m n : Nat} (h : m ≠ n) : Reg.ETH_PORT_COUNT p m ≠ Reg.ETH_PORT_COUNT p n := by
  simp only [Reg.ETH_PORT_COUNT]; omega

theorem isPause_iff (f : List Byte) : isPause f ↔ unbe ((f.drop 12).take 2) = 0x8808
    ∧ (unbe ((f.drop 14).take 2) = 0x0001 ∨ unbe ((f.drop 14).take 2) = 0x0101) := by
  simp only [isPause, Bool.and_eq_true, Bool.or_eq_true, decide_eq_true_eq]

/-- A frame that is discarded under a counter. -/
theorem portCounts (s : State) (p : Nat) {n : Nat} (hn : n ≠ 5) :
    let t := (s.count (Reg.ETH_PORT_COUNT p 5)).count (Reg.ETH_PORT_COUNT p n)
    t.full (Reg.ETH_PORT_COUNT p 5) = min (s.full (Reg.ETH_PORT_COUNT p 5) + 1) (2 ^ 32 - 1)
      ∧ t.full (Reg.ETH_PORT_COUNT p n) = min (s.full (Reg.ETH_PORT_COUNT p n) + 1) (2 ^ 32 - 1)
      ∧ KeepsRegs s t (fun a => a = Reg.ETH_PORT_COUNT p 5 ∨ a = Reg.ETH_PORT_COUNT p n) ∧ Only [.regs] s t := by
  intro t
  have all : Changes [.regs] (fun a => a = Reg.ETH_PORT_COUNT p 5 ∨ a = Reg.ETH_PORT_COUNT p n) s t :=
    ((changes_count s _ _).mono (fun _ h => h) fun _ => .inl).trans ((changes_count _ _ _).mono (fun _ h => h) fun _ => .inr)
  refine ⟨?_, ?_, all.regs, all.parts⟩
  · rw [(changes_count _ _ _).full_eq (portCount_ne p (Ne.symm hn)), full_count_same]
  · rw [full_count_same, (changes_count s _ _).full_eq (portCount_ne p hn)]

/-- A frame that goes to the port's delivery ring. -/
def portMsg (p : Nat) (f : List Byte) : Msg := { producer := 0x08, bytes := f, full := .counts (Reg.ETH_PORT_COUNT p 6) }

theorem portDelivers (s : State) (p : Port) (f : List Byte) (r : Nat) :
    let t := (s.count (Reg.ETH_PORT_COUNT p 5)).toRing r (portMsg p f)
    t.full (Reg.ETH_PORT_COUNT p 5) = min (s.full (Reg.ETH_PORT_COUNT p 5) + 1) (2 ^ 32 - 1)
      ∧ (s.ringState r = 1 ∨ s.ringState r = 2 → (t.ring r).msgs = (s.ring r).msgs ++ [portMsg p f]
          ∧ KeepsRegs s t (fun a => a = Reg.ETH_PORT_COUNT p 5))
      ∧ (s.ringState r = 0 ∨ s.ringState r = 3 → (t.ring r).msgs = (s.ring r).msgs
          ∧ t.full (Reg.ETH_PORT_COUNT p 6) = min (s.full (Reg.ETH_PORT_COUNT p 6) + 1) (2 ^ 32 - 1))
      ∧ KeepsRegs s t (fun a => a = Reg.ETH_PORT_COUNT p 5 ∨ a = Reg.ETH_PORT_COUNT p 6 ∨ a = Reg.RING_COUNT r)
      ∧ (∀ q, q ≠ r → t.ring q = s.ring q) ∧ Only [.regs, .rings] s t := by
  dsimp only
  have five := changes_count s (Reg.ETH_PORT_COUNT p 5) 1
  have counted := full_count_same s (Reg.ETH_PORT_COUNT p 5) 1
  have six := five.full_eq (portCount_ne p (show 6 ≠ 5 by decide))
  have ring : ∀ q, (s.count (Reg.ETH_PORT_COUNT p 5)).ring q = s.ring q := Only.ring five.parts (by decide)
  have state : (s.count (Reg.ETH_PORT_COUNT p 5)).ringState r = s.ringState r :=
    five.get_eq (by simp only [Reg.RING_STATE, Reg.ETH_PORT_COUNT]; omega) _
  have hm : ∀ b, (portMsg p f).full = .counts b → b = Reg.ETH_PORT_COUNT p 6 := fun b h => (NoBuffer.counts.inj h).symm
  have keeps : ∀ (v : State) a, a ≠ Reg.RING_COUNT r → a ≠ Reg.ETH_PORT_COUNT p 6 → (v.toRing r (portMsg p f)).reg a = v.reg a := fun v a h1 h2 =>
    toRing_reg v r _ h1 fun b hb => by rw [hm b hb]; exact h2
  refine ⟨?_, fun h => ?_, fun h => ?_, fun a ha => ?_, fun q hq => ?_, (five.parts.mono (by decide)).trans (only_toRing _ _ _)⟩
  · rw [full, keeps _ _ (portCount_ne_ringCount p (by decide) r) (portCount_ne p (by decide)), ← full, counted]
  · rw [← state] at h
    have e := toRing_open (portMsg p f) h
    refine ⟨?_, fun a ha => ?_⟩
    · rw [e, ring_setRing_same, ring]
    · rw [e, reg_setRing, five.regs a ha]
  · rw [← state] at h
    have e := toRing_closed (portMsg p f) h
    refine ⟨?_, ?_⟩
    · rw [e, dropMsg_msgs, ring]
    · rw [e, dropMsg_counts _ rfl (portCount_ne_ringCount p (show 6 < 8 by decide) r), six]
  · simp only [not_or] at ha
    obtain ⟨h5, h6, hr⟩ := ha
    rw [keeps _ a hr h6, five.regs a h5]
  · rw [toRing_ring_other _ _ hq, ring]

/-- Is a frame one that the port discards at once (R307)? -/
abbrev badFrame (s : State) (p : Nat) (f : List Byte) (good : Bool) : Prop :=
  good = false ∨ s.ethGet (Reg.ETH_PORT_CFG p) Fld.ETH_PORT_CFG_MTU < f.length + 4

/-- Is a frame addressed to the port (R308)? -/
abbrev portTakes (s : State) (p : Nat) (f : List Byte) : Prop :=
  f.take 6 = s.portMac p ∨ isBroadcast f ∨ (byteAt f 0 % 2 = 1 ∧ s.ethFlag (Reg.ETH_PORT_RX p) Fld.ETH_PORT_RX_MCAST)

section

variable {s : State} {p : Port} {f : List Byte} {good : Bool}

theorem portFrame_bad (hu : s.portUp p) (h : s.badFrame p f good) :
    s.portFrame p f good = (s.count (Reg.ETH_PORT_COUNT p 5)).count (Reg.ETH_PORT_COUNT p 6) := by
  unfold portFrame; dsimp only
  rw [if_neg (by rw [hu]; decide)]
  refine if_pos (h.imp_left fun h => ?_)
  rw [h]; rfl

theorem portFrame_good (hu : s.portUp p) (h : ¬ s.badFrame p f good) :
    s.portFrame p f good = if isPause f then (s.count (Reg.ETH_PORT_COUNT p 5)).count (Reg.ETH_PORT_COUNT p 7)
      else if (s.count (Reg.ETH_PORT_COUNT p 5)).portTakes p f then
        (s.count (Reg.ETH_PORT_COUNT p 5)).toRing (s.ethGet (Reg.ETH_PORT_RX p) Fld.ETH_PORT_RX_RING) (portMsg p f)
      else (s.count (Reg.ETH_PORT_COUNT p 5)).count (Reg.ETH_PORT_COUNT p 6) := by
  unfold portFrame; dsimp only
  rw [if_neg (by rw [hu]; decide)]
  refine if_neg (fun k => h (k.imp_left fun k => ?_))
  simpa using k

end

theorem ethFrameReceive_completes (p : Port) (f : List Byte) (good : Bool) (s : State) (hu : s.portUp p) :
    let r := s.ethGet (Reg.ETH_PORT_RX p) Fld.ETH_PORT_RX_RING
    let bad := good = false ∨ s.ethGet (Reg.ETH_PORT_CFG p) Fld.ETH_PORT_CFG_MTU < f.length + 4
    let pause := unbe ((f.drop 12).take 2) = 0x8808 ∧ (unbe ((f.drop 14).take 2) = 0x0001 ∨ unbe ((f.drop 14).take 2) = 0x0101)
    let mine := f.take 6 = s.portMac p ∨ isBroadcast f ∨ (byteAt f 0 % 2 = 1 ∧ s.ethFlag (Reg.ETH_PORT_RX p) Fld.ETH_PORT_RX_MCAST)
    let up := fun (t : State) n => t.full (Reg.ETH_PORT_COUNT p n) = min (s.full (Reg.ETH_PORT_COUNT p n) + 1) (2 ^ 32 - 1)
    Completes (.ethFrameReceive p f good) s (fun t => up t 5
      ∧ (bad ∨ (¬ pause ∧ ¬ mine) → up t 6 ∧ KeepsRegs s t (fun a => a = Reg.ETH_PORT_COUNT p 5 ∨ a = Reg.ETH_PORT_COUNT p 6) ∧ Only [.regs] s t)
      ∧ (¬ bad → pause → up t 7 ∧ KeepsRegs s t (fun a => a = Reg.ETH_PORT_COUNT p 5 ∨ a = Reg.ETH_PORT_COUNT p 7) ∧ Only [.regs] s t)
      ∧ (¬ bad → ¬ pause → mine →
          (s.ringState r = 1 ∨ s.ringState r = 2 →
            (t.ring r).msgs = (s.ring r).msgs ++ [{ producer := 0x08, bytes := f, full := NoBuffer.counts (Reg.ETH_PORT_COUNT p 6) }]
            ∧ KeepsRegs s t (fun a => a = Reg.ETH_PORT_COUNT p 5))
          ∧ (s.ringState r = 0 ∨ s.ringState r = 3 → (t.ring r).msgs = (s.ring r).msgs ∧ up t 6)
          ∧ KeepsRegs s t (fun a => a = Reg.ETH_PORT_COUNT p 5 ∨ a = Reg.ETH_PORT_COUNT p 6 ∨ a = Reg.RING_COUNT r)
          ∧ (∀ q, q ≠ r → t.ring q = s.ring q) ∧ Only [.regs, .rings] s t)) := by
  intro r bad pause mine up
  refine ⟨s.portFrame p f good, rfl, ?_⟩
  have pauses : isPause f ↔ pause := isPause_iff f
  have takes : (s.count (Reg.ETH_PORT_COUNT p 5)).portTakes p f ↔ mine := Iff.rfl
  obtain ⟨five6, six, regs6, parts6⟩ := s.portCounts p (show 6 ≠ 5 by decide)
  by_cases hb : bad
  · rw [portFrame_bad hu hb]
    exact ⟨five6, fun _ => ⟨six, regs6, parts6⟩, fun k => absurd hb k, fun k => absurd hb k⟩
  · rw [portFrame_good hu hb]
    by_cases hp : pause
    · rw [if_pos (pauses.2 hp)]
      obtain ⟨five, seven, regs, parts⟩ := s.portCounts p (show 7 ≠ 5 by decide)
      exact ⟨five, fun k => absurd (k.resolve_left hb).1 (fun k => k hp), fun _ _ => ⟨seven, regs, parts⟩, fun _ k => absurd hp k⟩
    · rw [if_neg fun k => hp (pauses.1 k)]
      by_cases hm : mine
      · rw [if_pos (takes.2 hm)]
        obtain ⟨five, rest⟩ := s.portDelivers p f r
        exact ⟨five, fun k => absurd (k.resolve_left hb).2 (fun k => k hm), fun _ k => absurd k hp, fun _ _ _ => rest⟩
      · rw [if_neg fun k => hm (takes.1 k)]
        exact ⟨five6, fun _ => ⟨six, regs6, parts6⟩, fun _ k => absurd k hp, fun _ _ k => absurd k hm⟩

end State

end Sys2Proof.Machine
end

section
/-! PROOF. The management port (O38; R58, R324, R325, R439, R440). -/

namespace Sys2Proof.Machine

namespace State

/-! ### Frames received -/

/-- The time stamp prefix of a PTP frame (R439): the counter at its edge less the receive latency, the frame's length and whether the time is not
set. -/
def ptpPrefix (s : State) (f : List Byte) (fine : Nat) : List Byte :=
  (Stamp.ofUnits ((s.edgeTime fine).units - psUnits (s.timeGet Reg.TIME_PTP_LAT Fld.TIME_PTP_LAT_RX_PS))).bytes ++ le 2 f.length
    ++ le 1 (b2n (!s.flag Reg.TIME_STATUS Fld.TIME_STATUS_SET)) ++ zeros 1

theorem length_stampBytes (t : Stamp) : t.bytes.length = 12 := by
  simp only [Stamp.bytes, List.length_append, length_le]

theorem ptpPrefix_spec (s : State) (f : List Byte) (fine : Nat) :
    (s.ptpPrefix f fine ++ f).drop 16 = f ∧ fieldAt (s.ptpPrefix f fine ++ f) 12 2 = f.length % 2 ^ 16
      ∧ (byteAt (s.ptpPrefix f fine ++ f) 14 = 1 ↔ s.flag Reg.TIME_STATUS Fld.TIME_STATUS_SET = false) := by
  unfold ptpPrefix
  generalize Stamp.ofUnits ((s.edgeTime fine).units - psUnits (s.timeGet Reg.TIME_PTP_LAT Fld.TIME_PTP_LAT_RX_PS)) = t
  have len := length_stampBytes t
  refine ⟨List.drop_left' (by simp [len, zeros]), ?_, ?_⟩
  · rw [List.append_assoc, List.append_assoc, List.append_assoc, fieldAt_append len]; rfl
  · rw [byteAt, List.append_assoc, List.append_assoc, fieldAt_append (by rw [List.length_append, len, length_le])]
    cases s.flag Reg.TIME_STATUS Fld.TIME_STATUS_SET <;> decide

/-- The message that a received frame becomes. -/
def mgmtMsg (s : State) (f : List Byte) (fine : Nat) : Msg :=
  match ptpBody f with
  | none => { producer := 0x08, bytes := f, full := .drops }
  | some _ => { producer := 0x09, bytes := s.ptpPrefix f fine ++ f, full := .drops }

/-- The ring that it goes to. -/
def mgmtRing (s : State) (f : List Byte) : Nat :=
  if (ptpBody f).isSome then s.ethGet Reg.ETH_MGMT_PTP Fld.ETH_MGMT_PTP_PTP_RING else s.ethGet Reg.ETH_MGMT_RINGS Fld.ETH_MGMT_RINGS_RX_RING

theorem mgmtFrame_refused {s : State} {f : List Byte} {good : Bool} (fine : Nat)
    (h : s.mgmtUp = false ∨ good = false ∨ (isBroadcast f = false ∧ Config.mgmtAccepts (f.take 6) = false)) : s.mgmtFrame f good fine = s := by
  unfold mgmtFrame
  rw [if_pos]
  rcases h with h | h | ⟨h, k⟩
  · exact .inl (by rw [h]; rfl)
  · exact .inr (.inl (by rw [h]; rfl))
  · exact .inr (.inr (by rw [h, k]; rfl))

theorem mgmtFrame_taken {s : State} {f : List Byte} (fine : Nat) (hu : s.mgmtUp) (hf : isBroadcast f ∨ Config.mgmtAccepts (f.take 6)) :
    s.mgmtFrame f true fine = s.toRing (s.mgmtRing f) (s.mgmtMsg f fine) := by
  unfold mgmtFrame mgmtRing mgmtMsg
  rw [if_neg]
  · cases ptpBody f <;> rfl
  · rcases hf with h | h <;> simp [hu, h]

/-- A message that leaves no trace where the ring discards it. -/
theorem toRing_quiet (s : State) (r : Nat) {m : Msg} (h : m.full = .drops) : KeepsRegs s (s.toRing r m) (· = Reg.RING_COUNT r) := fun a ha =>
  toRing_reg s r m ha fun b hb => by rw [h] at hb; cases hb

theorem mgmtFrameReceive_completes (f : List Byte) (fine : Fin 128) (s : State) (hu : s.mgmtUp)
    (hf : isBroadcast f ∨ Config.mgmtAccepts (f.take 6)) :
    let r := if (ptpBody f).isSome then s.ethGet Reg.ETH_MGMT_PTP Fld.ETH_MGMT_PTP_PTP_RING else s.ethGet Reg.ETH_MGMT_RINGS Fld.ETH_MGMT_RINGS_RX_RING
    Completes (.mgmtFrameReceive f true fine) s (fun t =>
      (s.ringState r = 1 ∨ s.ringState r = 2 → ∃ m, (t.ring r).msgs = (s.ring r).msgs ++ [m]
        ∧ (ptpBody f = none → m.producer = 0x08 ∧ m.bytes = f)
        ∧ ((ptpBody f).isSome → m.producer = 0x09 ∧ m.bytes.drop 16 = f ∧ fieldAt m.bytes 12 2 = f.length % 2 ^ 16
            ∧ (byteAt m.bytes 14 = 1 ↔ s.flag Reg.TIME_STATUS Fld.TIME_STATUS_SET = false)))
      ∧ KeepsRegs s t (fun a => a = Reg.RING_COUNT r) ∧ (∀ q, q ≠ r → t.ring q = s.ring q) ∧ Only [.regs, .rings] s t) := by
  intro r
  refine ⟨_, congrArg ok (mgmtFrame_taken fine hu hf), fun hr => ⟨s.mgmtMsg f fine, ?_, fun hn => ?_, fun hs => ?_⟩, ?_, fun q hq => ?_, only_toRing _ _ _⟩
  · rw [show s.mgmtRing f = r from rfl, toRing_open _ hr]
    exact congrArg RingSt.msgs (ring_setRing_same s r _)
  · simp only [mgmtMsg, hn, and_self]
  · obtain ⟨m, hm⟩ := Option.isSome_iff_exists.1 hs
    simp only [mgmtMsg, hm, true_and]
    exact s.ptpPrefix_spec f fine
  · exact toRing_quiet s _ (by unfold mgmtMsg; cases ptpBody f <;> rfl)
  · exact toRing_ring_other s _ hq

/-! ### Frames sent -/

/-- Does a frame give a transmit record (R440)? -/
abbrev Stamped (s : State) (f : List Byte) : Prop := s.timeFlag Reg.TIME_CAP Fld.TIME_CAP_TX_EN ∧ ∃ m, ptpBody f = some m ∧ byteAt m 0 % 16 < 4

/-- The transmit record of an event message. -/
def txRecord (s : State) (m : List Byte) (fine : Nat) : Msg :=
  { producer := 0x10
    bytes := [0x74, 0x01] ++ le 1 (byteAt m 0 % 16) ++ le 1 (byteAt m 4) ++ le 2 (unbe ((m.drop 30).take 2))
      ++ ((m.drop 20).take 10 ++ zeros 10).take 10
      ++ (Stamp.ofUnits ((s.edgeTime fine).units + psUnits (s.timeGet Reg.TIME_PTP_LAT Fld.TIME_PTP_LAT_TX_PS))).bytes ++ zeros 4
    full := .counts (Reg.TIME_COUNT 6) }

/-- A frame leaves on the management port. -/
def mgmtOut (s : State) (f : List Byte) : State := { s with out := { s.out with eth := s.out.eth ++ [(16, withFcs f)] } }

theorem mgmtSend_quiet {s : State} {f : List Byte} (fine : Nat) (h : s.mgmtUp = false ∨ s.standby ∨ s.stopped) : s.mgmtSend f fine = s := by
  unfold mgmtSend
  exact if_pos (h.imp_left fun h => by rw [h]; rfl)

theorem mgmtSend_sent {s : State} {f : List Byte} (fine : Nat) (hu : s.mgmtUp) (hb : s.standby = false) (hs : s.stopped = false) :
    s.mgmtSend f fine = match ptpBody f with
      | none => s.mgmtOut f
      | some m => if s.timeFlag Reg.TIME_CAP Fld.TIME_CAP_TX_EN ∧ byteAt m 0 % 16 < 4 then
          (s.mgmtOut f).toRing (s.ethGet Reg.ETH_MGMT_PTP Fld.ETH_MGMT_PTP_PTP_RING) (s.txRecord m fine)
        else s.mgmtOut f := by
  unfold mgmtSend; dsimp only
  rw [if_neg (by simp [hu, hb, hs])]
  cases ptpBody f <;> rfl

theorem mgmtSend_plain {s : State} {f : List Byte} (fine : Nat) (hu : s.mgmtUp) (hb : s.standby = false) (hs : s.stopped = false)
    (h : ¬ s.Stamped f) : s.mgmtSend f fine = s.mgmtOut f := by
  rw [mgmtSend_sent fine hu hb hs]
  cases hm : ptpBody f with
  | none => rfl
  | some m => exact if_neg fun ⟨k1, k2⟩ => h ⟨k1, m, hm, k2⟩

theorem mgmtSend_stamped {s : State} {f : List Byte} (fine : Nat) (hu : s.mgmtUp) (hb : s.standby = false) (hs : s.stopped = false)
    (h : s.Stamped f) : ∃ m, s.mgmtSend f fine
      = (s.mgmtOut f).toRing (s.ethGet Reg.ETH_MGMT_PTP Fld.ETH_MGMT_PTP_PTP_RING) (s.txRecord m fine) := by
  obtain ⟨en, m, hm, event⟩ := h
  refine ⟨m, ?_⟩
  rw [mgmtSend_sent fine hu hb hs, hm]
  exact if_pos ⟨en, event⟩

theorem mgmtFrameTransmit_completes (f : List Byte) (fine : Fin 128) (s : State) (hu : s.mgmtUp) (hb : s.standby = false) (hs : s.stopped = false) :
    let r := s.ethGet Reg.ETH_MGMT_PTP Fld.ETH_MGMT_PTP_PTP_RING
    let stamped := s.timeFlag Reg.TIME_CAP Fld.TIME_CAP_TX_EN ∧ ∃ m, ptpBody f = some m ∧ byteAt m 0 % 16 < 4
    Completes (.mgmtFrameTransmit f fine) s (fun t =>
      t.out.eth = s.out.eth ++ [(16, withFcs f)] ∧ (¬ stamped → KeepsRegs s t (fun _ => False) ∧ Only [.outEth] s t)
      ∧ (stamped → (s.ringState r = 1 ∨ s.ringState r = 2 → ∃ m, (t.ring r).msgs = (s.ring r).msgs ++ [m] ∧ m.producer = 0x10 ∧ byteAt m.bytes 0 = 0x74))
      ∧ KeepsRegs s t (fun a => a = Reg.RING_COUNT r ∨ a = Reg.TIME_COUNT 6) ∧ Only [.regs, .rings, .outEth] s t) := by
  intro r stamped
  have out : Only [.outEth] s (s.mgmtOut f) := only_out_eth s _
  have frame : (s.mgmtOut f).out.eth = s.out.eth ++ [(16, withFcs f)] := rfl
  have state : (s.mgmtOut f).ringState r = s.ringState r := rfl
  have ring : (s.mgmtOut f).ring r = s.ring r := rfl
  refine ⟨s.mgmtSend f fine, rfl, ?_⟩
  by_cases h : stamped
  · obtain ⟨m, e⟩ := mgmtSend_stamped (fine := fine) hu hb hs h
    rw [e]
    generalize s.mgmtOut f = u at out frame state ring ⊢
    have parts := only_toRing u r (s.txRecord m fine)
    refine ⟨Eq.trans (parts .outEth (by decide)) frame, fun k => absurd h k, fun _ hr => ⟨s.txRecord m fine, ?_, rfl, rfl⟩, fun a ha => ?_,
      (out.mono (by decide)).trans (parts.mono (by decide))⟩
    · rw [toRing_open _ (by rwa [state]), ring_setRing_same, ring]
    · obtain ⟨h1, h2⟩ := not_or.1 ha
      exact (toRing_reg u r _ h1 fun b hb => by cases hb; exact h2).trans (out .regs (by decide) a)
  · rw [mgmtSend_plain fine hu hb hs h]
    exact ⟨frame, fun _ => ⟨fun a _ => out .regs (by decide) a, out⟩, fun k => absurd k h, fun a _ => out .regs (by decide) a, out.mono (by decide)⟩

/-! ### The management link -/

theorem mgmtUp_setFlag (s : State) (b : Bool) : (s.setFlag Reg.ETH_STATUS Fld.ETH_STATUS_MGMT_UP b).mgmtUp = b :=
  flag_setFlag_same _ _ _ (by decide) (by decide)

/-- A step of lane 96 after the link's bit was written. -/
theorem mgmtLink_completes {s t : State} (up : Bool) {P : Nat → Prop}
    (step : Changes [.regs, .lanes] P (s.setFlag Reg.ETH_STATUS Fld.ETH_STATUS_MGMT_UP up) t) (hP : ∀ a, P a → LaneRegs 96 a) :
    t.mgmtUp = up ∧ KeepsFields s t Reg.ETH_STATUS [Fld.ETH_STATUS_MGMT_UP]
      ∧ KeepsRegs s t (fun a => a = Reg.ETH_STATUS ∨ a = Reg.LANE_STATUS 96 ∨ a = Reg.LANE_EQ 96 ∨ a = Reg.LANE_EYE_CTL 96
          ∨ a = Reg.LANE_EYE_RESULT 96)
      ∧ Only [.regs, .lanes] s t := by
  have bit := changes_setFlag s Reg.ETH_STATUS Fld.ETH_STATUS_MGMT_UP up
  have fields : KeepsFields s (s.setFlag Reg.ETH_STATUS Fld.ETH_STATUS_MGMT_UP up) Reg.ETH_STATUS [Fld.ETH_STATUS_MGMT_UP] :=
    keepsFields_set s _ _ (by decide)
  have set := s.mgmtUp_setFlag up
  generalize s.setFlag Reg.ETH_STATUS Fld.ETH_STATUS_MGMT_UP up = u at step bit fields set
  have status : t.reg Reg.ETH_STATUS = u.reg Reg.ETH_STATUS :=
    step.regs _ fun k => not_laneRegs_of_range (i := 96) (by decide) (.inr (by decide)) (hP _ k)
  refine ⟨?_, fields.trans (.of_reg _ status), fun a ha => ?_, (bit.parts.mono (by decide)).trans step.parts⟩
  · rw [← set, mgmtUp, flag, get, status, mgmtUp, flag, get]
  · obtain ⟨h1, h2⟩ := not_or.1 ha
    exact (step.regs a fun k => h2 (hP a k)).trans (bit.regs a h1)

theorem mgmtLink_lane (s : State) (up : Bool) :
    (s.setFlag Reg.ETH_STATUS Fld.ETH_STATUS_MGMT_UP up).laneState 96 = s.laneState 96
      ∧ (s.setFlag Reg.ETH_STATUS Fld.ETH_STATUS_MGMT_UP up).flag (Reg.LANE_CFG 96) Fld.LANE_CFG_RX_EN
          = s.flag (Reg.LANE_CFG 96) Fld.LANE_CFG_RX_EN := by
  have bit := changes_setFlag s Reg.ETH_STATUS Fld.ETH_STATUS_MGMT_UP up
  exact ⟨bit.get_eq (by decide) _, bit.flag_eq (by decide) _⟩

theorem mgmtLinks_complete (up : Bool) (s : State) : Completes (if up then Instr.mgmtLinkUp else Instr.mgmtLinkDown) s (fun t => t.mgmtUp = up
      ∧ KeepsFields s t Reg.ETH_STATUS [Fld.ETH_STATUS_MGMT_UP]
      ∧ (up → t.laneState 96 = if 3 ≤ s.laneState 96 then 5 else s.laneState 96)
      ∧ (up = false → t.laneState 96 = if s.laneState 96 ≠ 5 then s.laneState 96 else if s.flag (Reg.LANE_CFG 96) Fld.LANE_CFG_RX_EN then 2 else 0)
      ∧ KeepsRegs s t (fun a => a = Reg.ETH_STATUS ∨ a = Reg.LANE_STATUS 96 ∨ a = Reg.LANE_EQ 96 ∨ a = Reg.LANE_EYE_CTL 96
          ∨ a = Reg.LANE_EYE_RESULT 96)
      ∧ Only [.regs, .lanes] s t) := by
  obtain ⟨state, enabled⟩ := s.mgmtLink_lane up
  cases up with
  | true =>
    refine ⟨(s.setFlag Reg.ETH_STATUS Fld.ETH_STATUS_MGMT_UP true).laneRise 96, rfl, ?_⟩
    obtain ⟨isUp, fields, regs, parts⟩ := mgmtLink_completes true ((laneRise_changes _ 96).mono (by decide) fun _ h => h) fun _ h => .inl h
    exact ⟨isUp, fields, fun _ => by rw [← state]; exact (laneRise_risen _ 96).1, nofun, regs, parts⟩
  | false =>
    refine ⟨(s.setFlag Reg.ETH_STATUS Fld.ETH_STATUS_MGMT_UP false).laneDown 96, rfl, ?_⟩
    obtain ⟨isUp, fields, regs, parts⟩ := mgmtLink_completes false (laneDown_step _ 96).changes fun _ h => h
    exact ⟨isUp, fields, nofun, fun _ => by rw [laneState_laneDown, downState, state, enabled], regs, parts⟩

end State

end Sys2Proof.Machine
end

section
/-! PROOF. O38 settled: an entry of the stream table is written, and the packet number is read (R313, R326, R327, R351, R352, R545). -/

namespace Sys2Proof.Machine

namespace State

/-! ### Words that take effect at once (R326) -/

theorem ethReg_ethPut_same (s : State) (a v : Nat) : (s.ethPut a v).ethReg a = BitVec.ofNat 32 v := by
  simp only [ethReg, ethPut, mapFind_mapSet_same]

theorem ethReg_ethPut_other (s : State) {a b : Nat} (v : Nat) (h : b ≠ a) : (s.ethPut a v).ethReg b = s.ethReg b := by
  have same : (s.wrN a v).eth = s.eth := rfl
  simp only [ethReg, ethPut, mapFind_mapSet_other _ _ _ h, same]

theorem reg_ethPut_same (s : State) (a v : Nat) : (s.ethPut a v).reg a = BitVec.ofNat 32 v := reg_wr_same s a _

theorem reg_ethPut_other (s : State) {a b : Nat} (v : Nat) (h : b ≠ a) : (s.ethPut a v).reg b = s.reg b := reg_wrN_other s v h

theorem only_ethPut (s : State) (a v : Nat) : Only [.ethSettings, .regs] s (s.ethPut a v) :=
  ((only_wrN s a v).mono (by decide)).trans ((only_eth_regs _ _).mono (by decide))

/-- Words from an address upward, each in force at once. -/
def putWords (s : State) (b : Nat) (word : Nat → Nat) (n : Nat) : State := s.each (List.range n) (fun s w => s.ethPut (b + 4 * w) (word w))

theorem putWords_succ (s : State) (b : Nat) (word : Nat → Nat) (n : Nat) :
    s.putWords b word (n + 1) = (s.putWords b word n).ethPut (b + 4 * n) (word n) := by
  simp only [putWords, each, List.range_succ, List.foldl_append, List.foldl_cons, List.foldl_nil]

theorem only_putWords (s : State) (b : Nat) (word : Nat → Nat) (n : Nat) : Only [.ethSettings, .regs] s (s.putWords b word n) :=
  Only.each _ (fun s _ _ => only_ethPut s _ _) s

theorem putWords_spec (s : State) (b : Nat) (word : Nat → Nat) (n : Nat) :
    (∀ w < n, (s.putWords b word n).reg (b + 4 * w) = BitVec.ofNat 32 (word w) ∧ (s.putWords b word n).ethReg (b + 4 * w) = BitVec.ofNat 32 (word w))
      ∧ ∀ a, (∀ w < n, a ≠ b + 4 * w) → (s.putWords b word n).reg a = s.reg a ∧ (s.putWords b word n).ethReg a = s.ethReg a := by
  induction n with
  | zero => exact ⟨fun w hw => absurd hw (Nat.not_lt_zero _), fun a _ => ⟨rfl, rfl⟩⟩
  | succ n ih =>
    obtain ⟨inside, outside⟩ := ih
    rw [putWords_succ]
    refine ⟨fun w hw => ?_, fun a ha => ?_⟩
    · by_cases hn : w = n
      · subst hn
        exact ⟨reg_ethPut_same _ _ _, ethReg_ethPut_same _ _ _⟩
      · obtain ⟨h1, h2⟩ := inside w (by omega)
        exact ⟨(reg_ethPut_other _ _ (by omega)).trans h1, (ethReg_ethPut_other _ _ (by omega)).trans h2⟩
    · obtain ⟨h1, h2⟩ := outside a fun w hw => ha w (by omega)
      have ne := ha n (by omega)
      exact ⟨(reg_ethPut_other _ _ ne).trans h1, (ethReg_ethPut_other _ _ ne).trans h2⟩

/-! ### What taking the descriptor leaves alone -/

section

variable {u s1 : State} {src : CmdSrc} {op r : Nat} {ref : CmdRef} {d : List Byte}

/-- Taking a descriptor touches a ring, or the almanac's firings. -/
theorem take_shape (h : u.take src op = some (ref, d, r, s1)) : (∃ q x, s1 = u.setRing q x) ∨ ∃ x, s1 = { u with alm := x } := by
  cases src with
  | ring q =>
    simp only [take] at h
    split at h
    · split at h
      · simp only [Option.some.injEq, Prod.mk.injEq] at h
        exact .inl ⟨q, _, h.2.2.2.symm⟩
      · cases h
    · cases h
  | almanac e =>
    simp only [take] at h
    split at h
    · simp only [Option.some.injEq, Prod.mk.injEq] at h
      exact .inr ⟨_, h.2.2.2.symm⟩
    · cases h

theorem streamBusy_take (h : u.take src op = some (ref, d, r, s1)) (i : Nat) : s1.streamBusy i = u.streamBusy i := by
  rcases take_shape h with ⟨q, x, rfl⟩ | ⟨x, rfl⟩ <;> rfl

theorem inHostWin_take (h : u.take src op = some (ref, d, r, s1)) (q lo hi : Nat) : s1.inHostWin q lo hi = u.inHostWin q lo hi := by
  rcases take_shape h with ⟨q, x, rfl⟩ | ⟨x, rfl⟩ <;> rfl

theorem ethRegs_take (h : u.take src op = some (ref, d, r, s1)) : s1.eth.regs = u.eth.regs := by
  rcases take_shape h with ⟨q, x, rfl⟩ | ⟨x, rfl⟩ <;> rfl

theorem ethRegs_command (h : u.take src op = some (ref, d, r, s1)) (f : CmdRef → List Byte → Nat → State → State) :
    (u.command src op f).eth.regs = (f ref d r s1).eth.regs := by
  rw [command_of_take h f]
  cases src with
  | ring q => exact (settleRing_frame _ _).1 .ethSettings (by decide)
  | almanac _ => rfl

end

/-! ### ETH_STREAM_SET (R326, R327) -/

/-- The contents of an entry's words, the reserved bits of the first clear. -/
def entryWord (bs : List Byte) (w : Nat) : Nat := if w = 0 then fieldAt bs 0 4 % 2 ^ 27 else fieldAt bs (4 * w) 4

theorem entryWord_lt (bs : List Byte) (w : Nat) : entryWord bs w < 2 ^ 32 := by
  unfold entryWord; split
  · exact (Nat.mod_lt _ (by decide)).trans (by decide)
  · exact fieldAt_lt bs _ 4

section

variable {s u s1 : State} {src : CmdSrc} {ref : CmdRef} {d : List Byte} {r : Nat} {tb : HostRead}

theorem streamSet_badParam (h : 4096 ≤ fieldAt d 36 2 ∨ descCount d ≠ 32) : s.streamSet ref d r tb = s.finishSt ref St.BAD_PARAM := by
  unfold streamSet; dsimp only
  rw [if_pos h]

theorem streamSet_busy (hi : fieldAt d 36 2 < 4096) (hc : descCount d = 32) (hb : s.streamBusy (fieldAt d 36 2)) :
    s.streamSet ref d r tb = s.finishSt ref St.ETH_STREAM_BUSY := by
  unfold streamSet; dsimp only
  rw [if_neg (by omega), if_pos hb]

theorem streamSet_table (hi : fieldAt d 36 2 < 4096) (hc : descCount d = 32) (hb : s.streamBusy (fieldAt d 36 2) = false) :
    s.streamSet ref d r tb = match s.table r d 32 tb with
      | .error st => s.tableFailed ref r st
      | .ok bs => (s.putWords (Reg.ETH_STR_CFG (fieldAt d 36 2)) (entryWord bs) 8).finish ref {} := by
  unfold streamSet; dsimp only
  rw [if_neg (by omega), if_neg (by rw [hb]; decide)]
  cases s.table r d 32 tb <;> rfl

theorem streamSet_badBounds (hi : fieldAt d 36 2 < 4096) (hc : descCount d = 32) (hb : s.streamBusy (fieldAt d 36 2) = false)
    (hw : s.inHostWin r (descAddr d) (descAddr d + 32) = false) : s.streamSet ref d r tb = s.finishSt ref St.BAD_BOUNDS := by
  have e : s.table r d 32 tb = .error St.BAD_BOUNDS := by
    unfold table; rw [if_pos (by rw [hw]; rfl)]
  rw [streamSet_table hi hc hb, e]
  unfold tableFailed; dsimp only
  rw [if_neg (by decide), if_neg (by decide)]

theorem streamSet_done {bs : List Byte} (hi : fieldAt d 36 2 < 4096) (hc : descCount d = 32) (hb : s.streamBusy (fieldAt d 36 2) = false)
    (hw : s.inHostWin r (descAddr d) (descAddr d + 32)) (hl : bs.length = 32) :
    s.streamSet ref d r (.data bs) = (s.putWords (Reg.ETH_STR_CFG (fieldAt d 36 2)) (entryWord bs) 8).finish ref {} := by
  have e : s.table r d 32 (.data bs) = .ok bs := by
    unfold table; rw [if_neg (by rw [hw]; decide)]
    dsimp only
    rw [if_pos hl]
  rw [streamSet_table hi hc hb, e]

/-- The block's part of the command. -/
def streamSetBlock (tb : HostRead) (ref : CmdRef) (d : List Byte) (r : Nat) (s : State) : State :=
  if descClean 0x48 d then s.streamSet ref d r tb else s.finishSt ref St.BAD_PARAM

theorem ethStreamSet_run (h : Issued s src 0x48 u s1 ref d r) (tb : HostRead) :
    exec (.ethStreamSet src tb) s = .next (u.command src 0x48 (streamSetBlock tb)) ∧ streamSetBlock tb ref d r s1 = s1.streamSet ref d r tb := by
  obtain ⟨handed, _, clean⟩ := h
  refine ⟨congrArg ok ?_, if_pos clean⟩
  unfold handOver
  rw [handed]
  rfl

theorem ethStreamSet_refuses (h : Issued s src 0x48 u s1 ref d r) {st : Nat} (e : s1.streamSet ref d r tb = s1.finishSt ref st) :
    Completes (.ethStreamSet src tb) s (fun t =>
      Answered t ref (fun c => c.status = st) ∧ KeepsRegs u t (AnswerRegs s1 src) ∧ Only answerParts u t) := by
  obtain ⟨run, block⟩ := ethStreamSet_run h tb
  obtain ⟨answered, regs, parts, _⟩ := command_completes (p := fun c => c.status = st) (P := fun _ => False) h.2.1 (streamSetBlock tb)
    (block.trans e) (fun _ _ => rfl) (.refl [] _ s1) (by decide) (by decide) id
  exact ⟨_, run, answered, KeepsRegs.mono regs fun _ k => k.resolve_left id, parts⟩

theorem ethStreamSet_writes (h : Issued s src 0x48 u s1 ref d r) {bs : List Byte} (hi : fieldAt d 36 2 < 4096) (hc : descCount d = 32)
    (hb : u.streamBusy (fieldAt d 36 2) = false) (hw : u.inHostWin r (descAddr d) (descAddr d + 32)) (hl : bs.length = 32) :
    let i := fieldAt d 36 2
    Completes (.ethStreamSet src (.data bs)) s (fun t => Answered t ref (fun c => c.status = 0)
          ∧ t.full (Reg.ETH_STR_CFG i) = fieldAt bs 0 4 % 2 ^ 27 ∧ (∀ w, 1 ≤ w → w < 8 → t.full (Reg.ETH_STR_CFG i + 4 * w) = fieldAt bs (4 * w) 4)
          ∧ (∀ w, w < 8 → t.ethReg (Reg.ETH_STR_CFG i + 4 * w) = t.reg (Reg.ETH_STR_CFG i + 4 * w))
          ∧ (∀ a, ¬ Between (Reg.ETH_STR_CFG i) (Reg.ETH_STR_CFG i + 31) a → t.ethReg a = u.ethReg a)
          ∧ KeepsRegs u t (fun a => Between (Reg.ETH_STR_CFG i) (Reg.ETH_STR_CFG i + 31) a ∨ AnswerRegs s1 src a)
          ∧ Only (([.ethSettings] : List Part) ++ answerParts) u t) := by
  intro i
  have taken := h.2.1
  obtain ⟨run, block⟩ := ethStreamSet_run h (.data bs)
  have e := streamSet_done (s := s1) (ref := ref) hi hc (by rw [streamBusy_take taken, hb]) (by rw [inHostWin_take taken, hw]) hl
  obtain ⟨inside, outside⟩ := s1.putWords_spec (Reg.ETH_STR_CFG i) (entryWord bs) 8
  have words := s1.only_putWords (Reg.ETH_STR_CFG i) (entryWord bs) 8
  have outside' : ∀ a, ¬ Between (Reg.ETH_STR_CFG i) (Reg.ETH_STR_CFG i + 31) a →
      (s1.putWords (Reg.ETH_STR_CFG i) (entryWord bs) 8).reg a = s1.reg a
        ∧ (s1.putWords (Reg.ETH_STR_CFG i) (entryWord bs) 8).ethReg a = s1.ethReg a :=
    fun a ha => outside a fun w hw => by unfold Between at ha; omega
  have hi' : i < 4096 := hi
  have ethRegs := (ethRegs_command taken (streamSetBlock (.data bs))).trans (congrArg (fun x : State => x.eth.regs) (block.trans e))
  have done := only_finish (s1.putWords (Reg.ETH_STR_CFG i) (entryWord bs) 8) ref {} .ethSettings (by decide)
  generalize hv : s1.putWords (Reg.ETH_STR_CFG i) (entryWord bs) 8 = v at inside outside' words done
  have e' : s1.streamSet ref d r (.data bs) = v.finish ref {} := by rw [← hv]; exact e
  obtain ⟨answered, regs, parts, last⟩ := command_completes (p := fun c => c.status = 0)
    (P := Between (Reg.ETH_STR_CFG i) (Reg.ETH_STR_CFG i + 31)) taken (streamSetBlock (.data bs)) (block.trans e') (fun _ _ => rfl)
    ⟨words, fun a ha => (outside' a ha).1⟩ (by decide) (by decide)
    (by simp only [Between, Reg.ALM_CFG, Reg.ETH_STR_CFG]; omega)
  have eth : ∀ a, (u.command src 0x48 (streamSetBlock (.data bs))).ethReg a = v.ethReg a := fun a => by
    have same : (u.command src 0x48 (streamSetBlock (.data bs))).eth.regs = v.eth.regs := by
      rw [ethRegs, hv]
      exact done
    rw [ethReg, same, ethReg]
  have kept : ∀ w < 8, (u.command src 0x48 (streamSetBlock (.data bs))).reg (Reg.ETH_STR_CFG i + 4 * w) = BitVec.ofNat 32 (entryWord bs w) :=
    fun w hw => (last _ (by
      unfold AnswerRegs
      cases src with
      | ring _ => exact id
      | almanac _ =>
        rintro (⟨x, _, k⟩ | k | k)
        · simp only [Reg.ALM_STATE, Reg.ETH_STR_CFG] at k; omega
        · simp only [Reg.RING_COUNT, Reg.ETH_STR_CFG] at k; omega
        · simp only [Reg.ALM_COUNT, Reg.ETH_STR_CFG] at k; omega)).trans (inside w hw).1
  have full : ∀ w < 8, (u.command src 0x48 (streamSetBlock (.data bs))).full (Reg.ETH_STR_CFG i + 4 * w) = entryWord bs w := fun w hw => by
    rw [State.full, kept w hw, BitVec.toNat_ofNat, Nat.mod_eq_of_lt (entryWord_lt bs w)]
  refine ⟨_, run, answered, full 0 (by decide), fun w h1 h8 => (full w h8).trans (if_neg (by omega)), fun w hw => ?_, fun a ha => ?_, regs,
    parts.mono (by decide)⟩
  · rw [eth, kept w hw, (inside w hw).2]
  · rw [eth, (outside' a ha).2, ethReg, ethRegs_take taken, ethReg]

end

/-! ### The packet number (R313, R545) -/

theorem ethStrSeqLoRead_ready (i : Fin 4096) (s : State) (h : s.isReady) : Completes (.ethStrSeqLoRead i) s (fun t =>
      let n := (s.stream i).pktSeq
      t.readData.toNat = n % 2 ^ 32 ∧ t.full (Reg.ETH_STR_SEQ_LO i) = n % 2 ^ 32 ∧ t.full (Reg.ETH_STR_SEQ_HI i) = n / 2 ^ 32 % 2 ^ 32
      ∧ KeepsRegs s t (fun a => a = Reg.ETH_STR_SEQ_LO i ∨ a = Reg.ETH_STR_SEQ_HI i) ∧ Only [.regs, .readData] s t) := by
  refine ⟨_, congrArg ok (if_pos h), ?_⟩
  dsimp only
  generalize (s.stream i).pktSeq = n
  have apart : Reg.ETH_STR_SEQ_LO i ≠ Reg.ETH_STR_SEQ_HI i := by simp only [Reg.ETH_STR_SEQ_LO, Reg.ETH_STR_SEQ_HI]; omega
  have all : Changes [.regs] (fun a => a = Reg.ETH_STR_SEQ_LO i ∨ a = Reg.ETH_STR_SEQ_HI i) s
      ((s.wrN (Reg.ETH_STR_SEQ_LO i) n).wrN (Reg.ETH_STR_SEQ_HI i) (n / 2 ^ 32)) :=
    ((changes_wrN s _ _).mono (fun _ h => h) fun _ => .inl).trans ((changes_wrN _ _ _).mono (fun _ h => h) fun _ => .inr)
  have low : ((s.wrN (Reg.ETH_STR_SEQ_LO i) n).wrN (Reg.ETH_STR_SEQ_HI i) (n / 2 ^ 32)).full (Reg.ETH_STR_SEQ_LO i) = n % 2 ^ 32 := by
    rw [full_wrN_other _ _ apart, full_wrN_same]
  have high : ((s.wrN (Reg.ETH_STR_SEQ_LO i) n).wrN (Reg.ETH_STR_SEQ_HI i) (n / 2 ^ 32)).full (Reg.ETH_STR_SEQ_HI i) = n / 2 ^ 32 % 2 ^ 32 :=
    full_wrN_same _ _ _
  generalize (s.wrN (Reg.ETH_STR_SEQ_LO i) n).wrN (Reg.ETH_STR_SEQ_HI i) (n / 2 ^ 32) = u at all low high ⊢
  exact ⟨BitVec.toNat_ofNat _ _, low, high, all.regs, (all.parts.mono (by decide)).trans ((only_readData u _).mono (by decide))⟩

end State

/-- Settles O38: each frame by the first test that it fails, the entry's words one after another, and the read before and after READY. -/
theorem receivedFramesAndStreamTable : Obligations.ReceivedFramesAndStreamTable := by
  refine ⟨fun p f good s h => ⟨s, congrArg ok (if_pos (by rw [h]; rfl)), rfl⟩, State.ethFrameReceive_completes,
    fun f good fine s h => ⟨s, congrArg ok (State.mgmtFrame_refused fine h), rfl⟩, State.mgmtFrameReceive_completes,
    fun f fine s h => ⟨s, congrArg ok (State.mgmtSend_quiet fine h), rfl⟩, State.mgmtFrameTransmit_completes, State.mgmtLinks_complete,
    fun src tb s u s1 ref d r h => ?_, fun i s => ⟨State.ethStrSeqLoRead_ready i s, fun h => ?_⟩⟩
  · have taken := h.2.1
    refine ⟨fun hp => ?_, fun hi hc hb => ?_, fun hi hc hb hw => ?_, fun bs hi hc hb hw htb hl => ?_⟩
    · exact State.ethStreamSet_refuses h (State.streamSet_badParam hp)
    · exact State.ethStreamSet_refuses h (State.streamSet_busy hi hc (by rw [State.streamBusy_take taken, hb]))
    · exact State.ethStreamSet_refuses h (State.streamSet_badBounds hi hc (by rw [State.streamBusy_take taken, hb])
        (by rw [State.inHostWin_take taken, hw]))
    · subst htb
      exact State.ethStreamSet_writes h hi hc hb hw hl
  · exact ⟨_, congrArg ok (if_neg (by rw [h]; decide)), rfl, State.only_readData s _⟩

end Sys2Proof.Machine
end

section
/-! SUPPORT. The transmitter of a bidirectional link: what a flit sent, what may leave and a flit time change (R75–R77, R79). -/

namespace Sys2Proof.Machine

/-- A link whose transmitter alone has moved: flits sent from the backlog, each kept for a replay. -/
def Pumped (x y : LinkSt) : Prop :=
  ∃ new, y = { x with
    crTurn := y.crTurn, vc0 := y.vc0, txq := y.txq, vcTurn := y.vcTurn, credit := y.credit, nextSeq := y.nextSeq, refusing := y.refusing
    replay := x.replay ++ new }

namespace Pumped

variable {x y z : LinkSt}

theorem refl (x : LinkSt) : Pumped x x := ⟨[], by rw [List.append_nil]⟩

theorem trans (h : Pumped x y) (k : Pumped y z) : Pumped x z := by
  obtain ⟨a, h⟩ := h
  obtain ⟨b, k⟩ := k
  refine ⟨a ++ b, ?_⟩
  rw [h] at k
  rw [k, List.append_assoc]

theorem replay (h : Pumped x y) : ∃ new, y.replay = x.replay ++ new := by
  obtain ⟨new, h⟩ := h
  exact ⟨new, by rw [h]⟩

end Pumped

/-- A step of link `k`'s transmitter: flits leave, and nothing else changes. -/
structure Pumps (k : Nat) (s t : State) : Prop where
  parts : Only [.links, .outFlits] s t
  others : ∀ j, j ≠ k → t.link j = s.link j
  flits : ∃ more, t.out.flits = s.out.flits ++ more
  link : Pumped (s.link k) (t.link k)

namespace Pumps

variable {k : Nat} {s t u : State}

theorem refl (k : Nat) (s : State) : Pumps k s s := ⟨.refl _ s, fun _ _ => rfl, ⟨[], by rw [List.append_nil]⟩, .refl _⟩

theorem trans (h : Pumps k s t) (g : Pumps k t u) : Pumps k s u := by
  obtain ⟨a, ha⟩ := h.flits
  obtain ⟨b, hb⟩ := g.flits
  exact ⟨h.parts.trans g.parts, fun j hj => (g.others j hj).trans (h.others j hj), ⟨a ++ b, by rw [hb, ha, List.append_assoc]⟩, h.link.trans g.link⟩

theorem regs (h : Pumps k s t) (a : Nat) : t.reg a = s.reg a := h.parts .regs (by decide) a

theorem linkState (h : Pumps k s t) (j : Nat) : t.linkState j = s.linkState j := by rw [State.linkState, State.get, h.regs, State.linkState, State.get]

end Pumps

namespace State

/-! ### A flit leaves (R76, R77) -/

/-- The bytes of a flit that leaves now. -/
def flitNow (x : LinkSt) (type vc seq : Nat) (p : List Byte) : List Byte :=
  flitBytes type vc seq x.lastAcc x.crTurn (x.freed.getD x.crTurn 0 % 64) p

theorem emitFlit_flits (s : State) (k type vc seq : Nat) (p : List Byte) :
    (s.emitFlit k type vc seq p).out.flits = s.out.flits ++ [(k, flitNow (s.link k) type vc seq p)] := rfl

theorem link_emitFlit_same (s : State) (k type vc seq : Nat) (p : List Byte) :
    (s.emitFlit k type vc seq p).link k = { s.link k with crTurn := ((s.link k).crTurn + 1) % 4 } := link_setLink_same s k _

theorem link_emitFlit_other (s : State) {k j : Nat} (type vc seq : Nat) (p : List Byte) (h : j ≠ k) :
    (s.emitFlit k type vc seq p).link j = s.link j := link_setLink_other s _ h

theorem emitFlit_pumps (s : State) (k type vc seq : Nat) (p : List Byte) : Pumps k s (s.emitFlit k type vc seq p) :=
  ⟨only_emitFlit s k type vc seq p, fun _ hj => link_emitFlit_other s type vc seq p hj, ⟨_, emitFlit_flits s k type vc seq p⟩,
    ⟨[], by rw [link_emitFlit_same, List.append_nil]⟩⟩

/-- A link replaced by one whose transmitter alone has moved. -/
theorem setLink_pumps (s : State) {k : Nat} {x : LinkSt} (h : Pumped (s.link k) x) : Pumps k s (s.setLink k x) :=
  ⟨(only_setLink s k x).mono (by decide), fun _ hj => link_setLink_other s x hj, ⟨[], (List.append_nil _).symm⟩, by rwa [link_setLink_same]⟩

/-! ### What may leave (R77, R79) -/

/-- A payload taken from the backlog moves nothing but the backlog. -/
theorem nextPayload_pumped {x y : LinkSt} {v : Nat} {p : List Byte} (h : nextPayload x = some (v, p, y)) : Pumped x y := by
  unfold nextPayload at h; dsimp only at h
  split at h
  · simp only [Option.some.injEq, Prod.mk.injEq] at h
    obtain ⟨_, _, rfl⟩ := h
    exact ⟨[], by rw [List.append_nil]⟩
  · split at h
    · simp only [Option.some.injEq, Prod.mk.injEq] at h
      obtain ⟨_, _, rfl⟩ := h
      exact ⟨[], by rw [List.append_nil]⟩
    · cases h

/-- An empty backlog gives no payload. -/
theorem nextPayload_none {x : LinkSt} (h0 : x.vc0 = []) (hq : ∀ q ∈ x.txq, q = []) : nextPayload x = none := by
  have empty : ∀ i, x.txq.getD i [] = [] := fun i => by
    by_cases hi : i < x.txq.length
    · rw [List.getD_eq_getElem _ _ hi]; exact hq _ (List.getElem_mem hi)
    · exact List.getD_eq_default _ _ (by omega)
  unfold nextPayload; dsimp only
  rw [if_neg (fun k => k.1 h0), List.find?_eq_none.2 fun v _ => by rw [empty]; simp]

theorem pump_pumps (s : State) (k fuel : Nat) : Pumps k s (s.pump k fuel) := by
  induction fuel generalizing s with
  | zero => exact .refl k s
  | succ n ih =>
    unfold pump; dsimp only; split
    · exact .refl k s
    · split
      · exact .refl k s
      · rename_i v p y hy
        have taken := nextPayload_pumped hy
        refine Pumps.trans (Pumps.trans (setLink_pumps s (taken.trans ⟨[((s.link k).nextSeq, v, p)], ?_⟩)) (emitFlit_pumps _ _ _ _ _ _)) (ih _)
        rfl

theorem pumpAll_pumps (s : State) (k : Nat) : Pumps k s (s.pumpAll k) := pump_pumps s k _

theorem pumpAll_of_empty {s : State} {k : Nat} (h0 : (s.link k).vc0 = []) (hq : ∀ q ∈ (s.link k).txq, q = []) : s.pumpAll k = s := by
  unfold pumpAll pump; dsimp only
  split
  · rfl
  · rw [nextPayload_none h0 hq]

theorem pumpAll_of_state {s : State} {k : Nat} (h : s.linkState k ≠ 4) : s.pumpAll k = s := by
  unfold pumpAll pump; dsimp only
  rw [if_pos (.inl h)]

/-! ### A flit time (R75, R79) -/

/-- A link whose transmitter has moved, a replay in progress with it. -/
def Slotted (x y : LinkSt) : Prop :=
  ∃ new, y = { x with
    crTurn := y.crTurn, vc0 := y.vc0, txq := y.txq, vcTurn := y.vcTurn, credit := y.credit, nextSeq := y.nextSeq, refusing := y.refusing
    resend := y.resend, replaying := y.replaying, replay := x.replay ++ new }

theorem Pumped.slotted {x y : LinkSt} (h : Pumped x y) : Slotted x y := by
  obtain ⟨new, h⟩ := h
  exact ⟨new, by rw [h]⟩

/-- A flit time of link `k`. -/
structure Slots (k : Nat) (s t : State) : Prop where
  parts : Only [.links, .outFlits] s t
  others : ∀ j, j ≠ k → t.link j = s.link j
  flits : ∃ more, t.out.flits = s.out.flits ++ more
  link : Slotted (s.link k) (t.link k)

end State

theorem Pumps.slots {k : Nat} {s t : State} (h : Pumps k s t) : State.Slots k s t := ⟨h.parts, h.others, h.flits, State.Pumped.slotted h.link⟩

namespace State

/-- A link in which the next flit of a replay is taken. -/
def resendNext (s : State) (k : Nat) (f : Nat × Nat × List Byte) (rest : List (Nat × Nat × List Byte)) : State :=
  (s.setLink k { s.link k with resend := rest, replaying := if rest = [] then none else (s.link k).replaying }).emitFlit k 1 f.2.1 f.1 f.2.2

theorem flitSlot_of_state {s : State} {k : Nat} (h : s.linkState k ≠ 4) : s.flitSlot k = s := by
  unfold flitSlot; dsimp only
  rw [if_pos h]

theorem flitSlot_resend {s : State} {k : Nat} {f : Nat × Nat × List Byte} {rest : List (Nat × Nat × List Byte)} (h4 : s.linkState k = 4)
    (h : (s.link k).resend = f :: rest) :
    s.flitSlot k = if rest = [] then (s.resendNext k f rest).pumpAll k else s.resendNext k f rest := by
  unfold flitSlot; dsimp only
  rw [if_neg (fun k => k h4), h]
  rfl

theorem flitSlot_free {s : State} {k : Nat} (h4 : s.linkState k = 4) (h : (s.link k).resend = []) :
    s.flitSlot k = if (s.pumpAll k).out.flits.length = s.out.flits.length then (s.pumpAll k).emitFlit k 0 0 0 [] else s.pumpAll k := by
  unfold flitSlot; dsimp only
  rw [if_neg (fun k => k h4), h]

/-- An idle sender answers its flit time with a NULL flit. -/
theorem flitSlot_idle {s : State} {k : Nat} (h4 : s.linkState k = 4) (h : (s.link k).resend = []) (h0 : (s.link k).vc0 = [])
    (hq : ∀ q ∈ (s.link k).txq, q = []) : s.flitSlot k = s.emitFlit k 0 0 0 [] := by
  rw [flitSlot_free h4 h, pumpAll_of_empty h0 hq, if_pos rfl]

theorem resendNext_link (s : State) (k : Nat) (f : Nat × Nat × List Byte) (rest : List (Nat × Nat × List Byte)) :
    (s.resendNext k f rest).link k = { s.link k with
      resend := rest, replaying := if rest = [] then none else (s.link k).replaying, crTurn := ((s.link k).crTurn + 1) % 4 } := by
  unfold resendNext
  rw [link_emitFlit_same, link_setLink_same]

theorem resendNext_flits (s : State) (k : Nat) (f : Nat × Nat × List Byte) (rest : List (Nat × Nat × List Byte)) :
    (s.resendNext k f rest).out.flits = s.out.flits ++ [(k, flitNow (s.link k) 1 f.2.1 f.1 f.2.2)] := by
  unfold resendNext
  rw [emitFlit_flits, link_setLink_same]
  rfl

theorem resendNext_slots (s : State) (k : Nat) (f : Nat × Nat × List Byte) (rest : List (Nat × Nat × List Byte)) :
    Slots k s (s.resendNext k f rest) := by
  refine ⟨((only_setLink s k _).mono (by decide)).trans (only_emitFlit _ _ _ _ _ _), fun j hj => ?_, ⟨_, resendNext_flits s k f rest⟩,
    ⟨[], by rw [resendNext_link, List.append_nil]⟩⟩
  unfold resendNext
  rw [link_emitFlit_other _ _ _ _ _ hj, link_setLink_other _ _ hj]

theorem Slotted.trans {x y z : LinkSt} (h : Slotted x y) (k : Slotted y z) : Slotted x z := by
  obtain ⟨a, h⟩ := h
  obtain ⟨b, k⟩ := k
  refine ⟨a ++ b, ?_⟩
  rw [h] at k
  rw [k, List.append_assoc]

namespace Slots

variable {k : Nat} {s t u : State}

theorem refl (k : Nat) (s : State) : Slots k s s := (Pumps.refl k s).slots

theorem trans (h : Slots k s t) (g : Slots k t u) : Slots k s u := by
  obtain ⟨a, ha⟩ := h.flits
  obtain ⟨b, hb⟩ := g.flits
  exact ⟨h.parts.trans g.parts, fun j hj => (g.others j hj).trans (h.others j hj), ⟨a ++ b, by rw [hb, ha, List.append_assoc]⟩, h.link.trans g.link⟩

theorem regs (h : Slots k s t) (a : Nat) : t.reg a = s.reg a := h.parts .regs (by decide) a

theorem linkState (h : Slots k s t) (j : Nat) : t.linkState j = s.linkState j := by rw [State.linkState, State.get, h.regs, State.linkState, State.get]

end Slots

theorem flitSlot_slots (s : State) (k : Nat) : Slots k s (s.flitSlot k) := by
  by_cases h4 : s.linkState k = 4
  · cases hr : (s.link k).resend with
    | nil =>
      rw [flitSlot_free h4 hr]
      split
      · exact ((pumpAll_pumps s k).trans (emitFlit_pumps _ _ _ _ _ _)).slots
      · exact (pumpAll_pumps s k).slots
    | cons f rest =>
      rw [flitSlot_resend h4 hr]
      split
      · exact (resendNext_slots s k f rest).trans (pumpAll_pumps _ k).slots
      · exact resendNext_slots s k f rest
  · rw [flitSlot_of_state h4]
    exact .refl k s

theorem afterFlit_slots (s : State) (k sent : Nat) : Slots k s (s.afterFlit k sent) := by
  unfold afterFlit; split
  · exact flitSlot_slots s k
  · exact (pumpAll_pumps s k).slots

theorem afterFlit_of_state {s : State} {k : Nat} (sent : Nat) (h : s.linkState k ≠ 4) : s.afterFlit k sent = s := by
  unfold afterFlit; split
  · exact flitSlot_of_state h
  · exact pumpAll_of_state h

end State

end Sys2Proof.Machine
end

section
/-! PROOF. DATA flits that are discarded, NULL flits and NAKs on a bidirectional link (O12; R75, R77–R80). -/

namespace Sys2Proof.Machine

namespace State

/-! ### A header's acknowledgement and credits (R77, R79) -/

/-- The flits that an acknowledgement leaves in the replay buffer. -/
def unacked (l : List (Nat × Nat × List Byte)) (ack : Nat) : List (Nat × Nat × List Byte) :=
  if l.any (fun f => f.1 == ack) then (l.dropWhile (fun f => f.1 != ack)).drop 1 else l

theorem unacked_none {l : List (Nat × Nat × List Byte)} {ack : Nat} (h : ∀ e ∈ l, e.1 ≠ ack) : unacked l ack = l := by
  refine if_neg fun k => ?_
  obtain ⟨e, he, hk⟩ := List.any_eq_true.1 k
  exact h e he (beq_iff_eq.1 hk)

theorem unacked_found {old rest : List (Nat × Nat × List Byte)} {ack v : Nat} {p : List Byte} (h : ∀ e ∈ old, e.1 ≠ ack) :
    unacked (old ++ (ack, v, p) :: rest) ack = rest := by
  have gone : old.dropWhile (fun f => f.1 != ack) = [] := List.dropWhile_eq_nil_iff.2 (by simpa using h)
  unfold unacked
  rw [if_pos (by simp), List.dropWhile_append, gone]
  simp

/-- A link after a header. -/
def headed (x : LinkSt) (h : Nat) : LinkSt :=
  let rest := unacked x.replay (h / 2 ^ 14 % 1024)
  let fresh := decide (rest.length < x.replay.length)
  { x with
    credit := x.credit.set (h / 2 ^ 24 % 4)
      (x.credit.getD (h / 2 ^ 24 % 4) 0 + (h / 2 ^ 26 % 64 + 64 - x.lastCr.getD (h / 2 ^ 24 % 4) 0 % 64) % 64)
    lastCr := x.lastCr.set (h / 2 ^ 24 % 4) (h / 2 ^ 26 % 64)
    replay := rest
    resend := x.resend.filter (fun f => rest.contains f)
    replaying := if fresh then none else x.replaying
    tries := if fresh then 0 else x.tries }

theorem takeHeader_eq (s : State) (k h : Nat) : s.takeHeader k h = s.setLink k (headed (s.link k) h) := rfl

theorem flitHeader_some {s : State} {k type st h : Nat} {f : List Byte} (hf : s.flitHeader k type st f = some h) :
    s.linkOn k ∧ s.linkBidir k ∧ s.linkState k = st := by
  unfold flitHeader at hf; dsimp only at hf
  split at hf
  · rename_i hc
    exact ⟨hc.1, hc.2.1, hc.2.2.1⟩
  · cases hf

/-! ### NULL flits (R77) -/

theorem nullFlit_completes (k : Link) (f : List Byte) (s : State) (h : Nat) (hf : s.flitHeader k 0 4 f = some h) :
    Completes (.nullFlit k f) s (fun t =>
      (t.link k).lastCr = (s.link k).lastCr.set (h / 2 ^ 24 % 4) (h / 2 ^ 26 % 64)
      ∧ (t.link k).lastAcc = (s.link k).lastAcc ∧ (t.link k).rx = (s.link k).rx ∧ (t.link k).inbox = (s.link k).inbox
      ∧ ((s.link k).vc0 = [] → (∀ q ∈ (s.link k).txq, q = []) → (s.link k).resend = [] →
          (t.link k).credit = (s.link k).credit.set (h / 2 ^ 24 % 4) ((s.link k).credit.getD (h / 2 ^ 24 % 4) 0
            + (h / 2 ^ 26 % 64 + 64 - (s.link k).lastCr.getD (h / 2 ^ 24 % 4) 0 % 64) % 64)
          ∧ ((∀ e ∈ (s.link k).replay, e.1 ≠ h / 2 ^ 14 % 1024) → (t.link k).replay = (s.link k).replay)
          ∧ (∀ old q v p rest, (s.link k).replay = old ++ (q, v, p) :: rest → q = h / 2 ^ 14 % 1024 → (∀ e ∈ old, e.1 ≠ q) →
              (t.link k).replay = rest ∧ (t.link k).tries = 0)
          ∧ t.out.flits = s.out.flits ++ [(k.val, flitBytes 0 0 0 (s.link k).lastAcc (s.link k).crTurn
              ((s.link k).freed.getD (s.link k).crTurn 0 % 64) [])])
      ∧ (∀ j, j ≠ k.val → t.link j = s.link j) ∧ Only [.links, .outFlits] s t) := by
  obtain ⟨_, _, h4⟩ := flitHeader_some hf
  refine ⟨(s.takeHeader k h).flitSlot k, congrArg ok (by rw [hf]), ?_⟩
  rw [takeHeader_eq]
  have link := link_setLink_same s k (headed (s.link k) h)
  have others := fun j hj => link_setLink_other s (k := k) (j := j) (headed (s.link k) h) hj
  have parts := only_setLink s k (headed (s.link k) h)
  have state : (s.setLink k (headed (s.link k) h)).linkState k = 4 := h4
  have flits : (s.setLink k (headed (s.link k) h)).out.flits = s.out.flits := rfl
  generalize s.setLink k (headed (s.link k) h) = u at link others parts state flits ⊢
  have slot := flitSlot_slots u k
  obtain ⟨new, e⟩ := slot.link
  rw [link] at e
  refine ⟨by rw [e]; rfl, by rw [e]; rfl, by rw [e]; rfl, by rw [e]; rfl, fun h0 hq hr => ?_,
    fun j hj => (slot.others j hj).trans (others j hj), (parts.mono (by decide)).trans slot.parts⟩
  have idle : u.flitSlot k = u.emitFlit k 0 0 0 [] := by
    refine flitSlot_idle state ?_ ?_ ?_ <;> rw [link] <;> simp only [headed]
    · rw [hr]; rfl
    · exact h0
    · exact hq
  have same : (u.flitSlot k).link k = { headed (s.link k) h with crTurn := ((headed (s.link k) h).crTurn + 1) % 4 } := by
    rw [idle, link_emitFlit_same, link]
  refine ⟨by rw [same]; rfl, fun hn => ?_, fun old q v p rest hold hq' hne => ?_, ?_⟩
  · rw [same]
    exact unacked_none hn
  · subst hq'
    have found : unacked (s.link k).replay (h / 2 ^ 14 % 1024) = rest := by rw [hold]; exact unacked_found hne
    have fewer : rest.length < (s.link k).replay.length := by rw [hold, List.length_append, List.length_cons]; omega
    rw [same]
    exact ⟨found, by simp only [headed, found, decide_eq_true fewer, if_true]⟩
  · rw [idle, emitFlit_flits, link, flits]
    rfl

/-! ### A flit that is discarded (R78) -/

theorem bump_naks (s : State) (k : Nat) :
    (s.bump (Reg.LANE_LINK_RETRY k) Fld.LANE_LINK_RETRY_NAKS).get (Reg.LANE_LINK_RETRY k) Fld.LANE_LINK_RETRY_NAKS
      = min (s.get (Reg.LANE_LINK_RETRY k) Fld.LANE_LINK_RETRY_NAKS + 1) 65535 :=
  bump_saturates s _ 1 (by decide)

/-- A NAK leaves with the last SEQ accepted. -/
theorem sendNak_spec (s : State) (k : Nat) :
    (s.sendNak k).get (Reg.LANE_LINK_RETRY k) Fld.LANE_LINK_RETRY_NAKS = min (s.get (Reg.LANE_LINK_RETRY k) Fld.LANE_LINK_RETRY_NAKS + 1) 65535
      ∧ (s.sendNak k).out.flits = s.out.flits ++ [(k, flitNow (s.link k) 2 0 0 [])] ∧ Pumped (s.link k) ((s.sendNak k).link k)
      ∧ (∀ j, j ≠ k → (s.sendNak k).link j = s.link j)
      ∧ Changes [.regs, .links, .outFlits] (· = Reg.LANE_LINK_RETRY k) s (s.sendNak k) := by
  have bump : Changes [.regs] (· = Reg.LANE_LINK_RETRY k) s (s.bump (Reg.LANE_LINK_RETRY k) Fld.LANE_LINK_RETRY_NAKS) :=
    ⟨only_bump s _ _ _, fun a ha => reg_bump_other s _ _ ha⟩
  have naks := s.bump_naks k
  have link : ∀ j, (s.bump (Reg.LANE_LINK_RETRY k) Fld.LANE_LINK_RETRY_NAKS).link j = s.link j := bump.parts.link (by decide)
  have flits : (s.bump (Reg.LANE_LINK_RETRY k) Fld.LANE_LINK_RETRY_NAKS).out.flits = s.out.flits := bump.parts .outFlits (by decide)
  unfold sendNak
  generalize s.bump (Reg.LANE_LINK_RETRY k) Fld.LANE_LINK_RETRY_NAKS = u at bump naks link flits ⊢
  have sent := emitFlit_pumps u k 2 0 0 []
  refine ⟨?_, by rw [emitFlit_flits, flits, link], by rw [← link]; exact sent.link, fun j hj => (sent.others j hj).trans (link j),
    (bump.mono (by decide) fun _ h => h).trans ((Changes.of_only sent.parts (by decide)).mono (by decide) fun _ h => h)⟩
  rw [← naks, get, sent.regs, get]

theorem dataFlit_discards (k : Link) (f : List Byte) (s : State) (on : s.linkOn k) (bidir : s.linkBidir k) (h4 : s.linkState k = 4)
    (hf : s.flitHeader k 1 4 f = none) :
    Completes (.dataFlit k f) s (fun t =>
      (t.link k).nakked ∧ (t.link k).lastAcc = (s.link k).lastAcc ∧ (t.link k).rx = (s.link k).rx ∧ (t.link k).inbox = (s.link k).inbox
      ∧ (if (s.link k).nakked then KeepsRegs s t (fun _ => False) else
        t.get (Reg.LANE_LINK_RETRY k) Fld.LANE_LINK_RETRY_NAKS = min (s.get (Reg.LANE_LINK_RETRY k) Fld.LANE_LINK_RETRY_NAKS + 1) 65535
        ∧ ∃ more, t.out.flits = s.out.flits ++ (k.val, flitBytes 2 0 0 (s.link k).lastAcc (s.link k).crTurn
            ((s.link k).freed.getD (s.link k).crTurn 0 % 64) []) :: more)
      ∧ (∀ j, j ≠ k.val → t.link j = s.link j)
      ∧ KeepsRegs s t (fun a => a = Reg.LANE_LINK_RETRY k) ∧ Only [.regs, .links, .outFlits] s t) := by
  have run : s.dataFlit k f = (s.discardFlit k).afterFlit k s.out.flits.length := by
    unfold dataFlit
    rw [if_neg (by simp [on, bidir, h4]), hf]
  refine ⟨s.dataFlit k f, rfl, ?_⟩
  rw [run]
  dsimp only
  by_cases hn : (s.link k).nakked = true
  · have same : s.discardFlit k = s := if_pos hn
    rw [same, if_pos hn]
    have slot := afterFlit_slots s k s.out.flits.length
    obtain ⟨new, e⟩ := slot.link
    exact ⟨by rw [e]; exact hn, by rw [e], by rw [e], by rw [e], fun a _ => slot.regs a, slot.others, fun a _ => slot.regs a,
      slot.parts.mono (by decide)⟩
  · have sends : s.discardFlit k = (s.setLink k { s.link k with nakked := true }).sendNak k := if_neg hn
    rw [sends, if_neg hn]
    have link := link_setLink_same s k { s.link k with nakked := true }
    have others := fun j hj => link_setLink_other s (k := k) (j := j) { s.link k with nakked := true } hj
    have parts := only_setLink s k { s.link k with nakked := true }
    generalize s.setLink k { s.link k with nakked := true } = u at link others parts ⊢
    obtain ⟨naks, flits, pumped, others', changes⟩ := u.sendNak_spec k
    generalize u.sendNak k = v at naks flits pumped others' changes ⊢
    have uflits : u.out.flits = s.out.flits := parts .outFlits (by decide)
    rw [link, uflits] at flits
    have after : v.afterFlit k s.out.flits.length = v.pumpAll k := if_neg (by rw [flits, List.length_append, List.length_singleton]; omega)
    rw [after]
    have pumps := pumpAll_pumps v k
    obtain ⟨more, hm⟩ := pumps.flits
    obtain ⟨new, e⟩ := pumped.trans pumps.link
    rw [link] at e
    have all : Changes [.regs, .links, .outFlits] (· = Reg.LANE_LINK_RETRY k) s (v.pumpAll k) :=
      (((Changes.of_only parts (by decide)).mono (by decide) fun _ h => h).trans changes).trans
        ((Changes.of_only pumps.parts (by decide)).mono (by decide) fun _ h => h)
    refine ⟨by rw [e], by rw [e], by rw [e], by rw [e], ⟨?_, more, ?_⟩,
      fun j hj => (pumps.others j hj).trans ((others' j hj).trans (others j hj)), all.regs, all.parts⟩
    · have before : u.get (Reg.LANE_LINK_RETRY k) Fld.LANE_LINK_RETRY_NAKS = s.get (Reg.LANE_LINK_RETRY k) Fld.LANE_LINK_RETRY_NAKS := by
        rw [get, parts .regs (by decide), get]
      rw [get, pumps.regs, ← get, naks, before]
    · rw [hm, flits, List.append_assoc]
      rfl

/-! ### A NAK (R79, R80) -/

theorem retrain_counted (s : State) {k : Nat} (hk : k < 96) : Counted s (s.retrain k) Ev.BALRAN_RETRAIN := by
  have up : Changes bringParts (BringRegs []) s ((s.setLink k { s.link k with resume := true, replaying := none, resend := [], tries := 0 }).linkBringUp k 5) :=
    (setLink_bring s k _ []).trans (linkBringUp_bring _ hk 5 [])
  unfold retrain; dsimp only
  generalize (s.setLink k { s.link k with resume := true, replaying := none, resend := [], tries := 0 }).linkBringUp k 5 = u at up ⊢
  have counted : Counted s (u.raise Ev.BALRAN_RETRAIN k) Ev.BALRAN_RETRAIN := counted_raise _ (by decide +kernel) (up.parts .sys (by decide))
    (up.full_eq (BringRegs.not_count (by decide) (by decide) (by decide)))
  exact counted_then counted (by rw [full, showLinks_reg _ (by decide), full])

/-- The link as a replay starts. -/
def replayStart (x : LinkSt) (q : Nat) : LinkSt := { x with replaying := some q, resend := x.replay, tries := x.tries + 1 }

theorem replay_eq {s : State} {k q v : Nat} {p : List Byte} {rest : List (Nat × Nat × List Byte)} (h : (s.link k).replay = (q, v, p) :: rest) :
    s.replay k = if s.linkTimer k Fld.LANE_LINK_TIMER_RETRY_LIMIT ≤ (s.link k).tries then s.retrain k
      else (((s.setLink k (replayStart (s.link k) q)).bump (Reg.LANE_LINK_RETRY k) Fld.LANE_LINK_RETRY_REPLAYS).raise Ev.BALRAN_RETRY k).flitSlot k := by
  unfold replay; dsimp only
  rw [h]
  unfold replayStart
  rw [h]

/-- A replay starts with the oldest flit. -/
theorem replay_starts {s : State} {k q v : Nat} {p : List Byte} {rest : List (Nat × Nat × List Byte)}
    (h4 : s.linkState k = 4) (h : (s.link k).replay = (q, v, p) :: rest) (hl : ¬ s.linkTimer k Fld.LANE_LINK_TIMER_RETRY_LIMIT ≤ (s.link k).tries) :
    Counted s (s.replay k) Ev.BALRAN_RETRY ∧ ((s.replay k).link k).resend = rest
      ∧ (∃ new, ((s.replay k).link k).replay = (q, v, p) :: rest ++ new) ∧ (rest ≠ [] → ((s.replay k).link k).replaying = some q)
      ∧ ((s.replay k).link k).tries = (s.link k).tries + 1
      ∧ ∃ more, (s.replay k).out.flits = s.out.flits ++ (k, flitNow (s.link k) 1 v q p) :: more ∧ (rest ≠ [] → more = []) := by
  rw [replay_eq h, if_neg hl]
  have start : Changes [.regs, .links] (· = Reg.LANE_LINK_RETRY k) s
      ((s.setLink k (replayStart (s.link k) q)).bump (Reg.LANE_LINK_RETRY k) Fld.LANE_LINK_RETRY_REPLAYS) :=
    ((Changes.of_only (only_setLink s k _) (by decide)).mono (by decide) fun _ h => h).trans
      (Changes.mono ⟨only_bump _ _ _ _, fun a ha => reg_bump_other _ _ _ ha⟩ (by decide) fun _ h => h)
  have link : ((s.setLink k (replayStart (s.link k) q)).bump (Reg.LANE_LINK_RETRY k) Fld.LANE_LINK_RETRY_REPLAYS).link k = replayStart (s.link k) q :=
    link_setLink_same s k _
  generalize (s.setLink k (replayStart (s.link k) q)).bump (Reg.LANE_LINK_RETRY k) Fld.LANE_LINK_RETRY_REPLAYS = u at start link ⊢
  have raised := changes_raise u Ev.BALRAN_RETRY k
  have counted : Counted s (u.raise Ev.BALRAN_RETRY k) Ev.BALRAN_RETRY := counted_raise _ (by decide +kernel) (start.parts .sys (by decide))
    (start.full_eq (by simp only [Reg.EVT_SRC_CNT, Ev.BALRAN_RETRY, Reg.LANE_LINK_RETRY]; omega))
  have link' : (u.raise Ev.BALRAN_RETRY k).link k = replayStart (s.link k) q := (raised.parts.link (by decide) k).trans link
  have state : (u.raise Ev.BALRAN_RETRY k).linkState k = 4 := by
    rw [linkState, raised.get_eq (linkStatus_not_eventRegs (by decide) k),
      start.get_eq (by simp only [Reg.LANE_LINK_STATUS, Reg.LANE_LINK_RETRY]; omega), ← linkState, h4]
  have flits : (u.raise Ev.BALRAN_RETRY k).out.flits = s.out.flits :=
    (start.parts .outFlits (by decide)).trans (raised.parts .outFlits (by decide))
  generalize u.raise Ev.BALRAN_RETRY k = w at counted link' state flits ⊢
  have resend : (w.link k).resend = (q, v, p) :: rest := by rw [link']; exact h
  rw [flitSlot_resend state resend]
  have next := w.resendNext_link k (q, v, p) rest
  have sent := w.resendNext_flits k (q, v, p) rest
  have slots := w.resendNext_slots k (q, v, p) rest
  rw [link'] at next
  rw [flits, link'] at sent
  generalize w.resendNext k (q, v, p) rest = y at next sent slots ⊢
  have nowSame : flitNow (replayStart (s.link k) q) 1 v q p = flitNow (s.link k) 1 v q p := rfl
  have ycounted : Counted s y Ev.BALRAN_RETRY := counted_then counted (by rw [full, slots.regs, full])
  split
  · rename_i hr
    have pumps := pumpAll_pumps y k
    obtain ⟨more, hm⟩ := pumps.flits
    obtain ⟨new, e⟩ := pumps.link
    rw [next] at e
    refine ⟨counted_then ycounted (by rw [full, pumps.regs, full]), by rw [e], ⟨new, by rw [e]; exact congrArg (· ++ new) h⟩,
      fun k => absurd hr k, by rw [e]; rfl, more, ?_, fun k => absurd hr k⟩
    rw [hm, sent, List.append_assoc]
    rfl
  · rename_i hr
    exact ⟨ycounted, by rw [next], ⟨[], by rw [next, List.append_nil]; exact h⟩, fun _ => by rw [next, if_neg hr]; rfl, by rw [next]; rfl,
      [], sent, fun _ => rfl⟩

theorem nakFlit_completes (k : Link) (f : List Byte) (s : State) (h : Nat) (q v : Nat) (p : List Byte) (rest : List (Nat × Nat × List Byte))
    (hf : s.flitHeader k 2 4 f = some h) (hr : ((s.takeHeader k h).link k).replay = (q, v, p) :: rest) :
    Completes (.nakFlit k f) s (fun t =>
      if ((s.takeHeader k h).link k).replaying = some q then t = (s.takeHeader k h).flitSlot k
      else if s.linkTimer k Fld.LANE_LINK_TIMER_RETRY_LIMIT ≤ ((s.takeHeader k h).link k).tries then
        t.linkState k = 5 ∧ Counted s t Ev.BALRAN_RETRAIN
      else Counted s t Ev.BALRAN_RETRY ∧ (t.link k).resend = rest ∧ (∃ new, (t.link k).replay = (q, v, p) :: rest ++ new)
        ∧ (rest ≠ [] → (t.link k).replaying = some q)
        ∧ (t.link k).tries = ((s.takeHeader k h).link k).tries + 1
        ∧ ∃ more, t.out.flits = s.out.flits ++ (k.val, flitBytes 1 v q (s.link k).lastAcc (s.link k).crTurn
            ((s.link k).freed.getD (s.link k).crTurn 0 % 64) p) :: more ∧ (rest ≠ [] → more = [])) := by
  obtain ⟨_, _, h4⟩ := flitHeader_some hf
  refine ⟨s.nakFlit k f, rfl, ?_⟩
  have run : s.nakFlit k f = if ((s.takeHeader k h).link k).replaying = some q then (s.takeHeader k h).flitSlot k
      else (s.takeHeader k h).replay k := by
    unfold nakFlit
    rw [hf]; dsimp only
    rw [hr]
  have link : (s.takeHeader k h).link k = headed (s.link k) h := link_setLink_same s k _
  have now : flitNow (headed (s.link k) h) 1 v q p = flitNow (s.link k) 1 v q p := rfl
  have parts : Only [.links] s (s.takeHeader k h) := only_setLink s k _
  have timer : (s.takeHeader k h).linkTimer k Fld.LANE_LINK_TIMER_RETRY_LIMIT = s.linkTimer k Fld.LANE_LINK_TIMER_RETRY_LIMIT := by
    rw [linkTimer, link, linkTimer]; rfl
  rw [run]
  generalize s.takeHeader k h = u at hr link parts timer ⊢
  have state : u.linkState k = 4 := by rw [linkState, get, parts .regs (by decide), ← get, ← linkState, h4]
  have full : ∀ a, u.full a = s.full a := fun a => by rw [State.full, parts .regs (by decide), State.full]
  have sys : u.sys = s.sys := parts .sys (by decide)
  have told : ∀ {t : State} {e : Nat}, Counted u t e → Counted s t e := fun {t e} c i => by rw [c (by rw [sys]; exact i), full]
  dsimp only
  by_cases hp : (u.link k).replaying = some q
  · rw [if_pos hp, if_pos hp]
  · rw [if_neg hp, if_neg hp]
    by_cases ht : s.linkTimer k Fld.LANE_LINK_TIMER_RETRY_LIMIT ≤ (u.link k).tries
    · rw [if_pos ht, replay_eq hr, if_pos (by rw [timer]; exact ht)]
      exact ⟨linkState_retrain u k.isLt, told (retrain_counted u k.isLt)⟩
    · rw [if_neg ht]
      obtain ⟨counted, resend, new, replaying, tries, more, flits, none⟩ := replay_starts state hr (by rw [timer]; exact ht)
      refine ⟨told counted, resend, new, replaying, tries, more, ?_, none⟩
      rw [flits, show u.out.flits = s.out.flits from parts .outFlits (by decide), link, now]
      rfl

end State

end Sys2Proof.Machine
end

section
/-! PROOF. O12 settled: DATA flits that are accepted, a TYPE that fails the link, and INIT flits (R78, R80, R81, R536). -/

namespace Sys2Proof.Machine

namespace State

/-! ### The reset of a master, as far as a failed link needs it (R396) -/

/-- What the reset of a master port touches. -/
def resetParts : List Part := [.regs, .xbar, .mem, .outHost, .free]

/-- The registers of the chip matrix. -/
def MatrixRegs (a : Nat) : Prop := Between 0x1C00000 0x1CFFFFF a

theorem matrixRegs_record {m a : Nat} (hm : m < 24) (h : ErrorRecord m a) : MatrixRegs a := by
  simp only [ErrorRecord, Reg.XBAR_ERR_INFO, Reg.XBAR_ERR_ADDR_LO, Reg.XBAR_ERR_ADDR_HI, MatrixRegs, Between] at *; omega

theorem respond_changes (s : State) (m : Nat) (x : Option (List Byte)) : Changes resetParts MatrixRegs s (s.respond m x) :=
  (Changes.of_only (only_respond s m x) (by decide)).mono (by decide) fun _ h => h

theorem recorded_changes (s : State) {m : Nat} (hm : m < 24) (kind space addr : Nat) (write : Bool) (beats : Nat) :
    Changes resetParts MatrixRegs s ((s.xbarErr m kind space addr write beats).count (Reg.XBAR_COUNT 3)) :=
  (Changes.mono ⟨only_xbarErr s m kind space addr write beats, keeps_xbarErr s m kind space addr write beats⟩ (by decide)
      fun _ h => matrixRegs_record hm h).trans
    ((changes_count _ _ _).mono (by decide) fun a h => by simp only [h, MatrixRegs, Between, Reg.XBAR_COUNT]; omega)

theorem endBurst_changes (s : State) (r : MatrixReq) (d : Nat) : Changes resetParts MatrixRegs s (s.endBurst r d) := by
  rw [endBurst_eq]
  exact ((recorded_changes s r.master.isLt _ _ _ _ _).trans (respond_changes _ _ _)).trans
    ((changes_burstEffect (s.burstRecorded r d) r (cutAt r d) _).mono (by decide) fun _ h => h)

theorem drainReads_changes (s : State) {m : Nat} (hm : m < 24) (p : Nat) : Changes resetParts MatrixRegs s (s.drainReads m p) := by
  unfold drainReads; dsimp only
  exact (Changes.each _ (fun s q _ => (recorded_changes s hm _ _ _ _ _).trans (respond_changes _ _ _)) s).trans
    ((Changes.of_only (only_setPc _ _ _) (by decide)).mono (by decide) fun _ h => h)

theorem masterReset_changes (s : State) {m : Nat} (hm : m < 24) (d : Option Nat) : Changes resetParts MatrixRegs s (s.masterReset m d) := by
  unfold masterReset; dsimp only
  refine .trans (.trans (.trans ((Changes.of_only (only_xbar s _) (by decide)).mono (by decide) fun _ h => h)
    (Changes.each _ (fun s _ _ => respond_changes s _ _) _)) (Changes.each _ (fun s w _ => ?_) _))
    (Changes.each _ (fun s p _ => drainReads_changes s hm p) _)
  cases d with
  | some d => exact endBurst_changes s w.2 d
  | none =>
    exact ((Changes.of_only (only_freeIx s _) (by decide)).mono (by decide) fun _ h => h).trans (endBurst_changes _ w.2 _)

/-! ### A link that fails (R80) -/

/-- What a link that fails touches. -/
def failParts : List Part := ([.links, .xbar, .mem, .outHost, .free, .weave] : List Part) ++ eventParts

/-- What was heard over a link is forgotten. -/
def unheard (s : State) (k : Nat) : State := { s with weave := { s.weave with heard := s.weave.heard.filter (fun e => e.1 != k) } }

/-- A weave that loses a link goes on DEGRADED. -/
def degraded (s : State) (k : Nat) : State :=
  if s.weaveLinks.contains k then
    (s.raise Ev.WEAVE_LINK_LOST (s.linkPeer k)).set Reg.WEAVE_STATUS Fld.WEAVE_STATUS_STATE 4
  else s

/-- After its state: the masters' resets, the event, the weave and what shows the links. -/
def failRest (s : State) (k : Nat) : State :=
  (((((s.masterReset 21 none).masterReset 22 none).raise Ev.BALRAN_LINK_FAILED k).unheard k).degraded k).showLinks

theorem linkFail_eq (s : State) (k : Nat) : s.linkFail k = ((s.linkFresh k).linkTo k 6).failRest k := rfl

/-- The registers of the rest lie apart from links. -/
def RestRegs (a : Nat) : Prop :=
  MatrixRegs a ∨ a = Reg.WEAVE_STATUS ∨ a = Reg.TWIN_STATUS ∨ EventRegs Ev.BALRAN_LINK_FAILED a ∨ EventRegs Ev.WEAVE_LINK_LOST a

theorem failRest_changes (s : State) (k : Nat) : Changes failParts RestRegs s (s.failRest k) := by
  have reset : ∀ (s : State) m, m < 24 → Changes failParts RestRegs s (s.masterReset m none) := fun s m hm =>
    (masterReset_changes s hm none).mono (by decide) fun _ => .inl
  have raised : ∀ (s : State) e d, e = Ev.BALRAN_LINK_FAILED ∨ e = Ev.WEAVE_LINK_LOST → Changes failParts RestRegs s (s.raise e d) := fun s e d he =>
    (changes_raise s e d).mono (by decide) fun a h => by
      rcases he with rfl | rfl
      · exact .inr (.inr (.inr (.inl h)))
      · exact .inr (.inr (.inr (.inr h)))
  have forgotten : ∀ s : State, Changes failParts RestRegs s (s.unheard k) := fun s =>
    (Changes.of_only (only_weave s _) (by decide)).mono (by decide) fun _ h => h
  have lost : ∀ s : State, Changes failParts RestRegs s (s.degraded k) := fun s => by
    unfold degraded; split
    · exact (raised _ _ _ (.inr rfl)).trans ((changes_set _ _ _ _).mono (by decide) fun _ h => .inr (.inl h))
    · exact .refl _ _ s
  exact (((((reset s 21 (by decide)).trans (reset _ 22 (by decide))).trans (raised _ _ k (.inl rfl))).trans (forgotten _)).trans (lost _)).trans
    ((showLinks_changes _).mono (by decide) fun _ h => .inr (h.imp_right .inl))

theorem restRegs_not_linkStatus {k : Nat} (hk : k < 96) : ¬ RestRegs (Reg.LANE_LINK_STATUS k) := by
  rintro (h | h | h | h | h)
  · simp only [MatrixRegs, Between, Reg.LANE_LINK_STATUS] at h; omega
  · simp only [Reg.WEAVE_STATUS, Reg.LANE_LINK_STATUS] at h; omega
  · simp only [Reg.TWIN_STATUS, Reg.LANE_LINK_STATUS] at h; omega
  · exact linkStatus_not_eventRegs (by decide) k h
  · exact linkStatus_not_eventRegs (by decide) k h

theorem restRegs_not_mismatch : ¬ RestRegs (Reg.EVT_SRC_CNT Ev.LINK_PEER_MISMATCH) := by
  rintro (h | h | h | h | h)
  · simp only [MatrixRegs, Between, Reg.EVT_SRC_CNT, Ev.LINK_PEER_MISMATCH] at h; omega
  · exact absurd h (by decide)
  · exact absurd h (by decide)
  · exact count_not_eventRegs (by decide) (by decide) (by decide) h
  · exact count_not_eventRegs (by decide) (by decide) (by decide) h

/-- A link that fails on a peer that does not match. -/
theorem linkFail_mismatch (s : State) {k : Nat} (hk : k < 96) :
    ((s.linkFail k).raise Ev.LINK_PEER_MISMATCH k).linkState k = 6 ∧ Counted s ((s.linkFail k).raise Ev.LINK_PEER_MISMATCH k) Ev.LINK_PEER_MISMATCH := by
  have fresh : Changes [.regs, .links] (· = Reg.LANE_LINK_STATUS k) s ((s.linkFresh k).linkTo k 6) :=
    ((Changes.of_only (only_setLink s k _) (by decide)).mono (by decide) fun _ h => h).trans ((changes_set _ _ _ _).mono (by decide) fun _ h => h)
  have state : ((s.linkFresh k).linkTo k 6).linkState k = 6 := linkState_linkTo_same _ k (by decide)
  rw [linkFail_eq]
  generalize (s.linkFresh k).linkTo k 6 = u at fresh state ⊢
  have rest := u.failRest_changes k
  generalize u.failRest k = v at rest ⊢
  have sys : v.sys = s.sys := (fresh.parts .sys (by decide)).trans (rest.parts .sys (by decide))
  refine ⟨?_, counted_raise _ (by decide +kernel) sys ((rest.full_eq restRegs_not_mismatch).trans (fresh.full_eq ?_))⟩
  · rw [linkState, (changes_raise v _ _).get_eq (linkStatus_not_eventRegs (by decide) k), rest.get_eq (restRegs_not_linkStatus hk), ← linkState, state]
  · simp only [Reg.EVT_SRC_CNT, Ev.LINK_PEER_MISMATCH, Reg.LANE_LINK_STATUS]; omega

/-! ### A DATA flit that is accepted (R78, R536) -/

theorem checkTypes_cases (s : State) {k : Nat} (hk : k < 96) :
    s.checkTypes k = s ∨ (s.checkTypes k).linkState k = 6 ∧ Counted s (s.checkTypes k) Ev.LINK_PEER_MISMATCH := by
  unfold checkTypes; split
  · exact .inr (s.linkFail_mismatch hk)
  · exact .inl rfl

/-- A link that has taken a payload. -/
def accepted (x : LinkSt) (seq vc : Nat) (p : List Byte) : LinkSt :=
  let x : LinkSt := { x with lastAcc := seq, nakked := false }
  let freed := x.freed.set vc (x.freed.getD vc 0 + 1)
  if vc = 0 then { x with inbox := x.inbox ++ [p], freed := freed }
  else { x with rx := x.rx.set (vc - 1) (x.rx.getD (vc - 1) [] ++ p), freed := freed }

theorem accepted_spec (x : LinkSt) (seq vc : Nat) (p : List Byte) :
    (accepted x seq vc p).lastAcc = seq ∧ (accepted x seq vc p).nakked = false
      ∧ (accepted x seq vc p).freed = x.freed.set vc (x.freed.getD vc 0 + 1)
      ∧ (accepted x seq vc p).inbox = x.inbox ++ (if vc = 0 then [p] else [])
      ∧ (vc ≠ 0 → (accepted x seq vc p).rx = x.rx.set (vc - 1) (x.rx.getD (vc - 1) [] ++ p)) := by
  unfold accepted; dsimp only
  by_cases h : vc = 0
  · rw [if_pos h, if_pos h]
    exact ⟨rfl, rfl, rfl, rfl, fun k => absurd h k⟩
  · rw [if_neg h, if_neg h]
    exact ⟨rfl, rfl, rfl, (List.append_nil _).symm, fun _ => rfl⟩

theorem takePayload_link (s : State) (k seq vc : Nat) (x : LinkSt) (p : List Byte) :
    ((s.setLink k { x with lastAcc := seq, nakked := false }).takePayload k vc p).link k = accepted x seq vc p := by
  unfold takePayload; dsimp only
  rw [link_setLink_same, link_setLink_same]
  rfl

theorem only_takePayload (s : State) (k vc : Nat) (p : List Byte) : Only [.links] s (s.takePayload k vc p) := only_setLink s k _

theorem dataFlit_accepts (k : Link) (f : List Byte) (s : State) (h : Nat) (hf : s.flitHeader k 1 4 f = some h)
    (hq : h / 16 % 1024 = ((s.link k).lastAcc + 1) % 1024) :
    Completes (.dataFlit k f) s (fun t =>
      (t.linkState k = 4 ∧ (t.link k).lastAcc = h / 16 % 1024 ∧ (t.link k).nakked = false
        ∧ (t.link k).freed = (s.link k).freed.set (h / 4 % 4) ((s.link k).freed.getD (h / 4 % 4) 0 + 1)
        ∧ (t.link k).inbox = (s.link k).inbox ++ (if h / 4 % 4 = 0 then [(f.drop 4).take 248] else [])
        ∧ (h / 4 % 4 ≠ 0 → (t.link k).rx = (s.link k).rx.set (h / 4 % 4 - 1)
            ((s.link k).rx.getD (h / 4 % 4 - 1) [] ++ (f.drop 4).take 248)))
      ∨ (t.linkState k = 6 ∧ Counted s t Ev.LINK_PEER_MISMATCH)) := by
  obtain ⟨on, bidir, h4⟩ := flitHeader_some hf
  have link1 : (s.takeHeader k h).link k = headed (s.link k) h := link_setLink_same s k _
  have parts1 : Only [.links] s (s.takeHeader k h) := only_setLink s k _
  have run : s.dataFlit k f = ((((s.takeHeader k h).setLink k { (s.takeHeader k h).link k with lastAcc := h / 16 % 1024, nakked := false }).takePayload k
      (h / 4 % 4) ((f.drop 4).take 248)).checkTypes k).afterFlit k s.out.flits.length := by
    unfold dataFlit
    rw [if_neg (by simp [on, bidir, h4]), hf]
    dsimp only
    rw [if_pos (by rw [link1]; exact hq)]
  refine ⟨s.dataFlit k f, rfl, ?_⟩
  rw [run]
  dsimp only
  generalize s.takeHeader k h = u at link1 parts1 ⊢
  have link2 := u.takePayload_link k (h / 16 % 1024) (h / 4 % 4) (u.link k) ((f.drop 4).take 248)
  have parts2 := (only_setLink u k { u.link k with lastAcc := h / 16 % 1024, nakked := false }).trans
    (only_takePayload _ k (h / 4 % 4) ((f.drop 4).take 248))
  rw [link1] at link2 parts2
  rw [link1]
  generalize (u.setLink k { headed (s.link k) h with lastAcc := h / 16 % 1024, nakked := false }).takePayload k (h / 4 % 4) ((f.drop 4).take 248) = v
    at link2 parts2 ⊢
  have parts := parts1.trans parts2
  have state : v.linkState k = 4 := by rw [linkState, get, parts .regs (by decide), ← get, ← linkState, h4]
  rcases v.checkTypes_cases k.isLt with same | ⟨failed, counted⟩
  · left
    rw [same]
    have slot := afterFlit_slots v k s.out.flits.length
    obtain ⟨new, e⟩ := slot.link
    obtain ⟨lastAcc, nakked, freed, inbox, rx⟩ := accepted_spec (headed (s.link k) h) (h / 16 % 1024) (h / 4 % 4) ((f.drop 4).take 248)
    rw [link2] at e
    exact ⟨(slot.linkState k).trans state, by rw [e]; exact lastAcc, by rw [e]; exact nakked, by rw [e]; exact freed, by rw [e]; exact inbox,
      fun hv => by rw [e]; exact rx hv⟩
  · right
    rw [afterFlit_of_state _ (by rw [failed]; decide)]
    refine ⟨failed, fun i => ?_⟩
    rw [counted (by rw [show v.sys = s.sys from parts .sys (by decide)]; exact i), full, parts .regs (by decide), full]

end State

end Sys2Proof.Machine
end

section
/-! PROOF. O12 settled: INIT flits, and the clauses together (R81, R503, R562). -/

namespace Sys2Proof.Machine

namespace State

/-! ### What a link's sends leave alone -/

/-- A link's state and what the far end's INIT told stay. -/
structure KeepsPeer (k : Nat) (s t : State) : Prop where
  state : t.linkState k = s.linkState k
  serial : (t.link k).peerSerial = (s.link k).peerSerial
  pos : (t.link k).peerPos = (s.link k).peerPos
  nakked : (t.link k).nakked = (s.link k).nakked
  failed : (t.link k).failed = (s.link k).failed

namespace KeepsPeer

variable {k : Nat} {s t u : State}

theorem refl (k : Nat) (s : State) : KeepsPeer k s s := ⟨rfl, rfl, rfl, rfl, rfl⟩

theorem trans (h : KeepsPeer k s t) (g : KeepsPeer k t u) : KeepsPeer k s u :=
  ⟨g.state.trans h.state, g.serial.trans h.serial, g.pos.trans h.pos, g.nakked.trans h.nakked, g.failed.trans h.failed⟩

theorem of_link (hs : t.linkState k = s.linkState k) (h : t.link k = s.link k) : KeepsPeer k s t := by
  refine ⟨hs, ?_, ?_, ?_, ?_⟩ <;> rw [h]

theorem of_only {ps : List Part} (h : Only ps s t) (hr : Part.regs ∉ ps) (hl : Part.links ∉ ps) : KeepsPeer k s t :=
  of_link (by rw [linkState, get, h .regs hr, linkState, get]) (h.link hl k)

theorem of_setLink (s : State) (j : Nat) {x : LinkSt} (h : x.peerSerial = (s.link j).peerSerial ∧ x.peerPos = (s.link j).peerPos
    ∧ x.nakked = (s.link j).nakked ∧ x.failed = (s.link j).failed) : KeepsPeer k s (s.setLink j x) := by
  by_cases hj : k = j
  · subst hj
    obtain ⟨h1, h2, h3, h4⟩ := h
    refine ⟨linkState_setLink s k x k, ?_, ?_, ?_, ?_⟩ <;> rw [link_setLink_same] <;> assumption
  · exact of_link (linkState_setLink s j x k) (link_setLink_other s x hj)

theorem of_pumps {j : Nat} (h : Pumps j s t) : KeepsPeer k s t := by
  by_cases hj : k = j
  · subst hj
    obtain ⟨new, e⟩ := h.link
    refine ⟨h.linkState k, ?_, ?_, ?_, ?_⟩ <;> rw [e]
  · exact of_link (h.linkState k) (h.others k hj)

theorem of_raise (s : State) {e : Nat} (he : e < 2048) (d : Nat) : KeepsPeer k s (s.raise e d) :=
  of_link ((changes_raise s e d).get_eq (linkStatus_not_eventRegs he k) _) ((only_raise s e d).link (by decide) k)

theorem each {α : Type} {f : State → α → State} (l : List α) (h : ∀ s x, KeepsPeer k s (f s x)) (s : State) : KeepsPeer k s (s.each l f) :=
  each_induct (J := KeepsPeer k s) l (fun s' x _ g => g.trans (h s' x)) (refl k s)

theorem linkRefuse (s : State) (j : Nat) : KeepsPeer k s (s.linkRefuse j) := by
  unfold State.linkRefuse; split
  · exact refl k s
  · refine trans ?_ (of_raise (e := Ev.BALRAN_TX_BACKLOG) _ (by decide) _)
    exact of_setLink s j ⟨rfl, rfl, rfl, rfl⟩

theorem sendVc (s : State) (j vc : Nat) (m : List Byte) : KeepsPeer k s (s.sendVc j vc m) := by
  unfold State.sendVc; dsimp only; split
  · refine trans ?_ (of_pumps (pumpAll_pumps _ j))
    exact of_setLink s j ⟨rfl, rfl, rfl, rfl⟩
  · exact linkRefuse s j

theorem twinVc (s : State) (vc : Nat) (m : List Byte) : KeepsPeer k s (s.twinVc vc m) := by
  unfold State.twinVc; split
  · exact sendVc s _ vc m
  · exact refl k s

theorem sendConfig (s : State) : KeepsPeer k s s.sendConfig :=
  each _ (fun s _ => (of_only (only_twin s _) (by decide) (by decide)).trans (twinVc _ 3 _)) s

theorem sendHello (s : State) (j : Nat) : KeepsPeer k s (s.sendHello j) := by
  unfold State.sendHello; split
  · exact sendVc s j 3 _
  · exact refl k s

end KeepsPeer

/-! ### The link comes up (R81) -/

/-- A link that has heard the far end's INIT. -/
def toldLink (x : LinkSt) (f : List Byte) : LinkSt :=
  { x with peerSerial := fieldAt f 22 8, peerPos := byteAt f 8 % 4, peerActive := bitAt (byteAt f 8) 2
           lastCr := [0, 0, 0, 0], freed := [0, 0, 0, 0], nakked := false, replaying := none, resend := [], tries := 0
           failed := false }

/-- Do both sides resume? -/
def resumes (x : LinkSt) (f : List Byte) : Bool := x.resume && bitAt (byteAt f 9) 0

/-- A link that comes up: both sides resume, or start afresh. -/
def upLink (x : LinkSt) (f : List Byte) : LinkSt :=
  let adv := (List.range 4).map (fun v => fieldAt f (12 + 2 * v) 2)
  let rest := unacked x.replay (fieldAt f 10 2 % 1024)
  if resumes x f then
    { toldLink x f with replay := rest, resume := false
                        credit := (List.range 4).map (fun v => adv.getD v 0 - (rest.filter (fun e => e.2.1 == v)).length) }
  else { toldLink x f with replay := [], nextSeq := 0, lastAcc := 1023, resume := false, credit := adv, refusing := false
                           inbox := [], rx := [[], [], []], txq := [[], [], []], vc0 := [] }

/-- The flits that were not acknowledged leave again where both sides resume. -/
def resent (s : State) (k : Nat) (x : LinkSt) (f : List Byte) : State :=
  if resumes x f then s.each (unacked x.replay (fieldAt f 10 2 % 1024)) (fun s e => s.emitFlit k 1 e.2.1 e.1 e.2.2) else s

theorem linkUp_eq (s : State) (k : Nat) (f : List Byte) :
    s.linkUp k f = ((((s.setLink k (upLink (s.link k) f)).linkTo k 4).showLinks).resent k (s.link k) f).pumpAll k := rfl

theorem upLink_told (x : LinkSt) (f : List Byte) :
    (upLink x f).peerSerial = fieldAt f 22 8 ∧ (upLink x f).peerPos = byteAt f 8 % 4 ∧ (upLink x f).nakked = false ∧ (upLink x f).failed = false := by
  unfold upLink; dsimp only
  split <;> exact ⟨rfl, rfl, rfl, rfl⟩

/-- A link that is UP with what an INIT flit told. -/
structure PeerUp (k : Nat) (f : List Byte) (s : State) : Prop where
  state : s.linkState k = 4
  serial : (s.link k).peerSerial = fieldAt f 22 8
  pos : (s.link k).peerPos = byteAt f 8 % 4
  nakked : (s.link k).nakked = false
  failed : (s.link k).failed = false

theorem PeerUp.keep {k : Nat} {f : List Byte} {s t : State} (h : PeerUp k f s) (g : KeepsPeer k s t) : PeerUp k f t :=
  ⟨g.state.trans h.state, g.serial.trans h.serial, g.pos.trans h.pos, g.nakked.trans h.nakked, g.failed.trans h.failed⟩

theorem showLinks_keepsPeer (s : State) {k : Nat} (hk : k < 96) : KeepsPeer k s s.showLinks :=
  .of_link (showLinks_linkState s hk) ((showLinks_changes s).parts.link (by decide) k)

theorem peerUp_setLink (s : State) {k : Nat} {f : List Byte} {y : LinkSt} (serial : y.peerSerial = fieldAt f 22 8)
    (pos : y.peerPos = byteAt f 8 % 4) (nakked : y.nakked = false) (failed : y.failed = false) :
    PeerUp k f ((s.setLink k y).linkTo k 4) := by
  have state : ((s.setLink k y).linkTo k 4).linkState k = 4 := linkState_linkTo_same _ k (by decide)
  have link : ((s.setLink k y).linkTo k 4).link k = y := by rw [link_linkTo, link_setLink_same]
  generalize (s.setLink k y).linkTo k 4 = t at state link ⊢
  subst link
  exact ⟨state, serial, pos, nakked, failed⟩

theorem resent_keepsPeer (s : State) (k : Nat) (x : LinkSt) (f : List Byte) : KeepsPeer k s (s.resent k x f) := by
  have one : ∀ (s : State) (e : Nat × Nat × List Byte), KeepsPeer k s (s.emitFlit k 1 e.2.1 e.1 e.2.2) :=
    fun s e => .of_pumps (emitFlit_pumps s k 1 e.2.1 e.1 e.2.2)
  unfold resent
  generalize unacked x.replay (fieldAt f 10 2 % 1024) = es
  split
  · exact KeepsPeer.each es one s
  · exact .refl k s

theorem linkUp_peerUp (s : State) {k : Nat} (hk : k < 96) (f : List Byte) : PeerUp k f (s.linkUp k f) := by
  obtain ⟨serial, pos, nakked, failed⟩ := upLink_told (s.link k) f
  have up := s.peerUp_setLink (k := k) serial pos nakked failed
  have shown := up.keep (showLinks_keepsPeer _ hk)
  rw [linkUp_eq]
  exact (shown.keep (resent_keepsPeer _ k _ f)).keep (.of_pumps (pumpAll_pumps _ k))

/-! ### INIT flits (R81) -/

/-- A link that has FAILED holds nothing (R80). -/
def freshLink (x : LinkSt) : LinkSt := { cfg := x.cfg, timer := x.timer, ramp := x.ramp, txCount := x.txCount, failed := true }

/-- An INIT flit that does not match leaves the link FAILED with nothing kept (R80). -/
theorem initFlit_mismatch (s : State) {k : Nat} (hk : k < 96) :
    let t := (((s.linkFresh k).linkTo k 6).raise Ev.LINK_PEER_MISMATCH k).showLinks
    t.linkState k = 6 ∧ (t.link k).replay = [] ∧ (t.link k).resume = false ∧ (t.link k).failed ∧ Counted s t Ev.LINK_PEER_MISMATCH := by
  dsimp only
  have fresh : Changes [.regs, .links] (· = Reg.LANE_LINK_STATUS k) s ((s.linkFresh k).linkTo k 6) :=
    ((Changes.of_only (only_setLink s k _) (by decide)).mono (by decide) fun _ h => h).trans ((changes_set _ _ _ _).mono (by decide) fun _ h => h)
  have state : ((s.linkFresh k).linkTo k 6).linkState k = 6 := linkState_linkTo_same _ k (by decide)
  have link : ((s.linkFresh k).linkTo k 6).link k = freshLink (s.link k) := by
    rw [link_linkTo, linkFresh, link_setLink_same]
    rfl
  generalize (s.linkFresh k).linkTo k 6 = u at fresh state link ⊢
  have raised := changes_raise u Ev.LINK_PEER_MISMATCH k
  have counted : Counted s (u.raise Ev.LINK_PEER_MISMATCH k) Ev.LINK_PEER_MISMATCH := counted_raise _ (by decide +kernel) (fresh.parts .sys (by decide))
    (fresh.full_eq (by simp only [Reg.EVT_SRC_CNT, Ev.LINK_PEER_MISMATCH, Reg.LANE_LINK_STATUS]; omega))
  have keep : KeepsPeer k u (u.raise Ev.LINK_PEER_MISMATCH k).showLinks := (KeepsPeer.of_raise u (by decide) k).trans (showLinks_keepsPeer _ hk)
  have same : (u.raise Ev.LINK_PEER_MISMATCH k).showLinks.link k = u.link k :=
    ((showLinks_changes _).parts.link (by decide) k).trans (raised.parts.link (by decide) k)
  refine ⟨keep.state.trans state, ?_, ?_, ?_, counted_then counted (by rw [full, showLinks_reg _ (by decide), full])⟩ <;> rw [same, link] <;> rfl

theorem initFlit_completes (k : Link) (f : List Byte) (s : State) (h : Nat) (hf : s.flitHeader k 3 3 f = some h) :
    Completes (.initFlit k f) s (fun t =>
      if fieldAt f 4 2 ≠ 1 ∨ (s.linkId k ≠ 0xFFF ∧ fieldAt f 6 2 % 4096 ≠ s.linkId k) then
        t.linkState k = 6 ∧ (t.link k).replay = [] ∧ (t.link k).resume = false ∧ (t.link k).failed ∧ Counted s t Ev.LINK_PEER_MISMATCH
      else t.linkState k = 4 ∧ (t.link k).peerSerial = fieldAt f 22 8 ∧ (t.link k).peerPos = byteAt f 8 % 4
        ∧ (t.link k).nakked = false ∧ (t.link k).failed = false) := by
  refine ⟨s.initFlit k f, rfl, ?_⟩
  dsimp only
  by_cases hm : fieldAt f 4 2 ≠ 1 ∨ (s.linkId k ≠ 0xFFF ∧ fieldAt f 6 2 % 4096 ≠ s.linkId k)
  · have run : s.initFlit k f = (((s.linkFresh k).linkTo k 6).raise Ev.LINK_PEER_MISMATCH k).showLinks := by
      unfold initFlit
      rw [hf]
      exact if_pos hm
    rw [if_pos hm, run]
    exact s.initFlit_mismatch k.isLt
  · rw [if_neg hm]
    have up : PeerUp k f (s.initFlit k f) := by
      have came := s.linkUp_peerUp k.isLt f
      unfold initFlit
      rw [hf]; dsimp only
      rw [if_neg hm]
      split
      · exact came
      · split
        · exact came.keep (.sendConfig _)
        · exact came.keep (.sendHello _ k)
    exact ⟨up.state, up.serial, up.pos, up.nakked, up.failed⟩

end State

/-- Settles O12: a flit by its type, each received one followed by a flit time of the transmitter that moves nothing of the receiver. -/
theorem flitReception : Obligations.FlitReception :=
  ⟨State.dataFlit_accepts, State.dataFlit_discards, State.nullFlit_completes, State.nakFlit_completes, State.initFlit_completes⟩

end Sys2Proof.Machine
end

section
/-! SUPPORT. Framing of an ingest link's blocks (R73, R74), and what a cause of the ingest block counts (R92). -/

namespace Sys2Proof.Machine

/-! ### Framing -/

/-- A data block. -/
def dataBlock (x : List Byte × Bool) : Block257 := ⟨true, x.1, x.2⟩

/-- The blocks of a packet collect, newest first, and with them whether one was in an uncorrectable codeword. -/
theorem foldl_frameBlock_data (ds : List (List Byte × Bool)) (r : Framing) (acc : List (List Byte)) (fec : Bool) :
    (ds.map dataBlock).foldl frameBlock { r with mode := .inside acc fec }
      = { r with mode := .inside ((ds.map (·.1)).reverse ++ acc) (fec || ds.any (·.2)) } := by
  induction ds generalizing acc fec with
  | nil => simp
  | cons x ds ih =>
    have step : frameBlock { r with mode := .inside acc fec } (dataBlock x) = { r with mode := .inside (x.1 :: acc) (fec || x.2) } := rfl
    rw [List.map_cons, List.foldl_cons, step, ih]
    simp [Bool.or_assoc]

/-- What an EOP makes of a packet: dropped under its cause, or passed on. -/
def closed : Except Nat (List Byte) → Framing
  | .ok p => { packets := [p] }
  | .error n => { drops := [n] }

/-- A packet from its SOP to its EOP. -/
theorem frameBlocks_packet (ds : List (List Byte × Bool)) {sop eop : List Byte} (b0 b1 : Bool) (hs : byteAt sop 0 = 0x2D)
    (he : byteAt eop 0 = 0x4B) :
    frameBlocks ((⟨false, sop, b0⟩ : Block257) :: ds.map dataBlock ++ [(⟨false, eop, b1⟩ : Block257)])
      = closed (closePacket (ds.map (·.1)).reverse (b0 || ds.any (·.2) || b1) eop) := by
  have opened : frameBlock {} ⟨false, sop, b0⟩ = { mode := .inside [] b0 } := by
    simp [frameBlock, hs, ctrlSop]
  have ended : ∀ data fec, frameBlock { mode := .inside data fec } ⟨false, eop, b1⟩ = closed (closePacket data (fec || b1) eop) := by
    intro data fec
    simp only [frameBlock, he, ctrlSop, ctrlEop]
    cases closePacket data (fec || b1) eop <;> rfl
  rw [frameBlocks, List.cons_append, List.foldl_cons, List.foldl_append, opened]
  have taken := foldl_frameBlock_data ds {} [] b0
  rw [List.append_nil] at taken
  rw [List.foldl_cons, List.foldl_nil]
  exact (congrArg (frameBlock · _) taken).trans (ended _ _)

theorem closePacket_reverse (ls : List (List Byte)) (fec : Bool) (eop : List Byte) :
    closePacket ls.reverse fec eop =
      if fec then .error 2
      else if ls = [] ∨ fieldAt eop 2 2 ≠ ls.length ∨ byteAt eop 1 = 0 ∨ 32 < byteAt eop 1 then .error 0
      else if crc32c (ls.dropLast.flatten ++ (ls.getLast?.getD []).take (byteAt eop 1)) = fieldAt eop 4 4 then
        .ok (ls.dropLast.flatten ++ (ls.getLast?.getD []).take (byteAt eop 1))
      else .error 1 := by
  unfold closePacket
  simp only [List.drop_one, List.tail_reverse, List.reverse_reverse, List.headD_eq_head?_getD, List.head?_reverse, List.reverse_eq_nil_iff,
    List.length_reverse]

theorem frameBlocks_spec (ds : List (List Byte × Bool)) (sop eop : List Byte) (b0 b1 : Bool) (hs : byteAt sop 0 = 0x2D) (he : byteAt eop 0 = 0x4B) :
    let r := frameBlocks ((⟨false, sop, b0⟩ : Block257) :: ds.map (fun (x : List Byte × Bool) => (⟨true, x.1, x.2⟩ : Block257))
      ++ [(⟨false, eop, b1⟩ : Block257)])
    let valid : List Byte := (ds.map (·.1)).dropLast.flatten ++ (((ds.map (·.1)).getLast?).getD []).take (byteAt eop 1)
    r.ctrlBad = 0
    ∧ (if b0 ∨ b1 ∨ (∃ x ∈ ds, x.2 = true) then r.packets = [] ∧ r.drops = [2]
      else if ds = [] ∨ fieldAt eop 2 2 ≠ ds.length ∨ byteAt eop 1 = 0 ∨ 32 < byteAt eop 1 then r.packets = [] ∧ r.drops = [0]
      else if crc32c valid = fieldAt eop 4 4 then r.packets = [valid] ∧ r.drops = []
      else r.packets = [] ∧ r.drops = [1]) := by
  dsimp only
  have framed := frameBlocks_packet ds b0 b1 hs he
  rw [closePacket_reverse] at framed
  have bad : ((b0 || ds.any (·.2) || b1) = true) ↔ (b0 = true ∨ b1 = true ∨ ∃ x ∈ ds, x.2 = true) := by
    simp only [Bool.or_eq_true, List.any_eq_true]
    exact or_assoc.trans (or_congr_right or_comm)
  simp only [bad, List.map_eq_nil_iff, List.length_map] at framed
  rw [show (fun x : List Byte × Bool => (⟨true, x.1, x.2⟩ : Block257)) = dataBlock from rfl, framed]
  split_ifs <;> exact ⟨rfl, rfl, rfl⟩

/-- What is dropped is dropped under one of three causes. -/
theorem frameBlock_drops {r : Framing} (b : Block257) (h : ∀ n ∈ r.drops, n < 3) : ∀ n ∈ (frameBlock r b).drops, n < 3 := by
  have more : ∀ m < 3, ∀ n ∈ r.drops ++ [m], n < 3 := fun m hm n hn => by
    rcases List.mem_append.1 hn with hn | hn
    · exact h n hn
    · rw [List.mem_singleton.1 hn]; exact hm
  have closes : ∀ data fec m, closePacket data fec b.bytes = .error m → m < 3 := fun data fec m hm => by
    unfold closePacket at hm; dsimp only at hm
    split_ifs at hm <;> cases hm <;> decide
  unfold frameBlock; dsimp only
  split
  · split
    · exact more 0 (by decide)
    · exact h
    · exact h
  · have cut : ∀ n ∈ (match r.mode with | .inside _ _ => r.drops ++ [0] | _ => r.drops), n < 3 := by
      split
      · exact more 0 (by decide)
      · exact h
    split
    · exact cut
    · split
      · split
        · split
          · exact h
          · exact more _ (closes _ _ _ ‹_›)
        · exact h
      · exact cut

theorem frameBlocks_drops (l : List Block257) : ∀ n ∈ (frameBlocks l).drops, n < 3 := by
  unfold frameBlocks
  have all : ∀ r : Framing, (∀ n ∈ r.drops, n < 3) → ∀ n ∈ (l.foldl frameBlock r).drops, n < 3 := by
    induction l with
    | nil => exact fun _ h => h
    | cons b l ih => exact fun r h => ih _ (frameBlock_drops b h)
  exact all {} (by simp)

end Sys2Proof.Machine
end

section
/-! SUPPORT. The ingest block's settings, its causes, the room of its store, and the counts of framing (R74, R90–R92, R101). -/

namespace Sys2Proof.Machine

/-- The configuration that the acceptance of packets reads. -/
def IngestSetting (a : Nat) : Prop :=
  a ∈ [Reg.GLB_STATUS, Reg.INGEST_CTL, Reg.INGEST_GEOM, Reg.INGEST_RESERVE, Reg.INGEST_START_LO, Reg.INGEST_START_HI, Reg.HARROW_CFG]
    ∨ ∃ i < 256, a = Reg.STREAM_CFG i ∨ a = Reg.STREAM_INPUTS i ∨ a = Reg.STREAM_CHANNELS i ∨ a = Reg.STREAM_SLICE i

/-- Two states with the same configuration of ingest and the same release points. -/
structure SameGrid (s t : State) : Prop where
  regs : ∀ a, IngestSetting a → t.reg a = s.reg a
  next : t.ingest.next = s.ingest.next

/-- The registers that a packet may change, on a link and of a stream. -/
def PacketRegs (link stream a : Nat) : Prop :=
  a = Reg.INGEST_COUNT 8 ∨ a = Reg.INGEST_COUNT 9 ∨ a = Reg.INGEST_COUNT 11 ∨ a = Reg.LANE_LINK_COUNT link 3
    ∨ a = Reg.STREAM_STATUS stream ∨ a = Reg.INGEST_STATUS ∨ a = Reg.INGEST_STORE ∨ a = Reg.WEAVE_COUNT 0 ∨ AnyEventRegs a

theorem anyEventRegs_range {a : Nat} (h : AnyEventRegs a) : 0x100004 ≤ a ∧ a < 0x106000 := by
  obtain ⟨e, he, h⟩ := h
  simp only [EventRegs, Reg.EVT_SRC_CNT, Reg.EVT_SRC_CFG, Reg.EVT_STATUS] at h
  omega

theorem not_packetRegs_of_setting {link stream a : Nat} (h : IngestSetting a) :
    ¬ PacketRegs link stream a := by
  intro k
  unfold PacketRegs at k
  have k := k.imp_right (Or.imp_right (Or.imp_right (Or.imp_right (Or.imp_right (Or.imp_right (Or.imp_right (Or.imp_right anyEventRegs_range)))))))
  simp only [IngestSetting, List.mem_cons, List.not_mem_nil, or_false, Reg.GLB_STATUS, Reg.INGEST_CTL, Reg.INGEST_GEOM, Reg.INGEST_RESERVE,
    Reg.INGEST_START_LO, Reg.INGEST_START_HI, Reg.HARROW_CFG, Reg.STREAM_CFG, Reg.STREAM_INPUTS, Reg.STREAM_CHANNELS, Reg.STREAM_SLICE] at h
  simp only [Reg.INGEST_COUNT, Reg.LANE_LINK_COUNT, Reg.STREAM_STATUS, Reg.INGEST_STATUS, Reg.INGEST_STORE, Reg.WEAVE_COUNT] at k
  rcases h with h | ⟨i, hi, h⟩ <;> omega

theorem byteAt_lt (l : List Byte) (off : Nat) : byteAt l off < 256 := fieldAt_lt l off 1

namespace SameGrid

variable {s t u : State}

theorem refl (s : State) : SameGrid s s := ⟨fun _ _ => rfl, rfl⟩

theorem trans (h : SameGrid s t) (k : SameGrid t u) : SameGrid s u :=
  ⟨fun a ha => (k.regs a ha).trans (h.regs a ha), k.next.trans h.next⟩

/-- A step of a packet that leaves the release points alone. -/
theorem of_changes {ps : List Part} {link stream : Nat} (h : Changes ps (PacketRegs link stream) s t)
    (hn : t.ingest.next = s.ingest.next) : SameGrid s t :=
  ⟨fun a ha => h.regs a (not_packetRegs_of_setting ha), hn⟩

theorem get (h : SameGrid s t) {a : Nat} (ha : IngestSetting a) (f : Fld) : t.get a f = s.get a f := by
  rw [State.get, h.regs a ha, State.get]

theorem flag (h : SameGrid s t) {a : Nat} (ha : IngestSetting a) (f : Fld) : t.flag a f = s.flag a f := by
  rw [State.flag, h.get ha, State.flag]

theorem full (h : SameGrid s t) {a : Nat} (ha : IngestSetting a) : t.full a = s.full a := by
  rw [State.full, h.regs a ha, State.full]

theorem running (h : SameGrid s t) : t.running = s.running := by
  rw [State.running, h.get (.inl (by decide)), State.running]

theorem startIndex (h : SameGrid s t) : t.startIndex = s.startIndex := by
  rw [State.startIndex, h.get (.inl (by decide)), h.full (.inl (by decide)), State.startIndex]

theorem firstIndex (h : SameGrid s t) (c : Nat) : t.firstIndex c = s.firstIndex c := by
  have all : t.cAll = s.cAll := h.get (.inl (by decide)) _
  have m : t.fineM = s.fineM := congrArg (2 ^ ·) (h.get (.inl (by decide)) _)
  have frame : t.firstFrame = s.firstFrame := by rw [State.firstFrame, m, h.startIndex, State.firstFrame]
  rw [State.firstIndex, all, frame, m, h.startIndex, State.firstIndex]

theorem nextIndex (h : SameGrid s t) (c : Nat) : t.nextIndex c = s.nextIndex c := by
  simp only [State.nextIndex, h.next, h.firstIndex]

theorem storeRoom (h : SameGrid s t) : t.storeRoom = s.storeRoom := by
  simp only [State.storeRoom, h.get (a := Reg.INGEST_RESERVE) (.inl (by decide)), h.flag (a := Reg.INGEST_CTL) (.inl (by decide))]

theorem streamOn (h : SameGrid s t) {i : Nat} (hi : i < 256) : t.streamOn i = s.streamOn i := h.flag (.inr ⟨i, hi, .inl rfl⟩) _

theorem streamDef (h : SameGrid s t) {i : Nat} (hi : i < 256) : t.streamDef i = s.streamDef i := by
  simp only [State.streamDef, h.get (a := Reg.STREAM_CFG i) (.inr ⟨i, hi, .inl rfl⟩), h.flag (a := Reg.STREAM_CFG i) (.inr ⟨i, hi, .inl rfl⟩),
    h.get (a := Reg.STREAM_INPUTS i) (.inr ⟨i, hi, .inr (.inl rfl)⟩), h.get (a := Reg.STREAM_CHANNELS i) (.inr ⟨i, hi, .inr (.inr (.inl rfl))⟩),
    h.get (a := Reg.STREAM_SLICE i) (.inr ⟨i, hi, .inr (.inr (.inr rfl))⟩)]

theorem packetCause (h : SameGrid s t) (link : Nat) (p : List Byte) : t.packetCause link p = s.packetCause link p := by
  have hi : (ingestHdr p).stream < 256 := byteAt_lt p 0
  simp only [State.packetCause, h.streamOn hi, h.streamDef hi, h.nextIndex, h.startIndex]

end SameGrid

namespace State

theorem full_lt (s : State) (a : Nat) : s.full a < 2 ^ 32 := (s.reg a).isLt

/-! ### Framing's counts -/

theorem linkCount_ne {k m n : Nat} (h : m ≠ n) : Reg.LANE_LINK_COUNT k m ≠ Reg.LANE_LINK_COUNT k n := by
  simp only [Reg.LANE_LINK_COUNT]; omega

/-- Drops are counted under their causes, each saturating. -/
theorem each_drops_full (ns : List Nat) (k m : Nat) (s : State) :
    (s.each ns (fun s n => s.count (Reg.LANE_LINK_COUNT k n))).full (Reg.LANE_LINK_COUNT k m)
      = min (s.full (Reg.LANE_LINK_COUNT k m) + ns.count m) (2 ^ 32 - 1) := by
  induction ns generalizing s with
  | nil =>
    have := s.full_lt (Reg.LANE_LINK_COUNT k m)
    simp only [each, List.foldl_nil, List.count_nil]; omega
  | cons n ns ih =>
    refine (ih (s.count (Reg.LANE_LINK_COUNT k n))).trans ?_
    by_cases h : n = m
    · subst h
      rw [full_count_same, List.count_cons_self]; omega
    · rw [full, reg_count_other _ _ (linkCount_ne (Ne.symm h)), List.count_cons_of_ne h, full]

theorem each_drops_changes {ns : List Nat} {b : Nat} (k : Nat) (h : ∀ n ∈ ns, n < b) (s : State) :
    Changes [.regs] (fun a => ∃ n < b, a = Reg.LANE_LINK_COUNT k n) s (s.each ns (fun s n => s.count (Reg.LANE_LINK_COUNT k n))) :=
  .each ns (fun s n hn => (changes_count s _ 1).mono (by decide) fun _ e => ⟨n, h n hn, e⟩) s

/-- A link that is UP frames its blocks, and the packets that pass are taken in order. -/
theorem ingestArrives_up {s : State} {k : Nat} (l : List Block257) (b : Nat) (on : s.linkOn k = true) (uni : s.linkBidir k = false)
    (up : s.linkState k = 4) :
    s.ingestArrives k l b
      = ((s.count (Reg.LANE_LINK_COUNT k 3) (frameBlocks l).ctrlBad).each (frameBlocks l).drops
          (fun s n => s.count (Reg.LANE_LINK_COUNT k n))).each (frameBlocks l).packets (fun s p => s.ingestTakes k p b) := by
  unfold ingestArrives
  rw [if_neg (by rw [on, uni, up]; decide)]
  rfl

/-! ### The store's room -/

/-- A store with room gives up no pair. -/
theorem forceFull_of_room {s : State} (b n : Nat) (h : s.pendingBytes < s.storeRoom) : s.forceFull b n = s := by
  cases n with
  | zero => rfl
  | succ n =>
    unfold forceFull
    split
    · rfl
    · exact if_pos (.inl h)

theorem ingestTakes_of_room {s : State} {k : Nat} {p : List Byte} (b : Nat) (run : s.running = true)
    (on : s.flag Reg.INGEST_CTL Fld.INGEST_CTL_ENABLE = true) (room : (s.acceptPacket k p).pendingBytes < (s.acceptPacket k p).storeRoom) :
    s.ingestTakes k p b = s.acceptPacket k p := by
  unfold ingestTakes
  rw [run, on]
  exact forceFull_of_room b _ room

/-! ### Causes of the ingest block -/

/-- The registers of a cause: its counter, and where the counter leaves 0 those of its event. -/
def CauseRegs (n full a : Nat) : Prop :=
  a = Reg.INGEST_COUNT n ∨ (full = 0 ∧ n ≠ 7 ∧ n < 10 ∧ EventRegs (Ev.INGEST_COUNT_0 + n) a)

theorem ingestCause_raised {s : State} {n stream by_ : Nat} (hb : by_ ≠ 0) (h : s.full (Reg.INGEST_COUNT n) = 0 ∧ n ≠ 7 ∧ n < 10) :
    s.ingestCause n stream by_ = (s.count (Reg.INGEST_COUNT n) by_).raise (Ev.INGEST_COUNT_0 + n) (stream % 256) := by
  obtain ⟨h0, h7, h10⟩ := h
  simp [ingestCause, if_neg hb, raiseIf, h0, h7, h10]

theorem ingestCause_quiet {s : State} {n stream by_ : Nat} (hb : by_ ≠ 0) (h : ¬ (s.full (Reg.INGEST_COUNT n) = 0 ∧ n ≠ 7 ∧ n < 10)) :
    s.ingestCause n stream by_ = s.count (Reg.INGEST_COUNT n) by_ := by
  have quiet : (s.full (Reg.INGEST_COUNT n) == 0 && n != 7 && decide (n < 10)) = false := by
    simpa [Bool.and_assoc] using h
  rw [ingestCause, if_neg hb]
  dsimp only
  rw [quiet]
  rfl

theorem ingestCount_not_event {n e : Nat} (he : e < 2048) : ¬ EventRegs e (Reg.INGEST_COUNT n) := fun h => by
  have := anyEventRegs_range ⟨e, he, h⟩
  simp only [Reg.INGEST_COUNT] at this; omega

theorem ingestCause_changes (s : State) (n stream by_ : Nat) :
    Changes eventParts (CauseRegs n (s.full (Reg.INGEST_COUNT n))) s (s.ingestCause n stream by_) := by
  by_cases hb : by_ = 0
  · rw [ingestCause, if_pos hb]; exact .refl _ _ s
  have counted : Changes eventParts (CauseRegs n (s.full (Reg.INGEST_COUNT n))) s (s.count (Reg.INGEST_COUNT n) by_) :=
    (changes_count s _ _).mono (by decide) fun _ h => .inl h
  by_cases h : s.full (Reg.INGEST_COUNT n) = 0 ∧ n ≠ 7 ∧ n < 10
  · rw [ingestCause_raised hb h]
    obtain ⟨h0, h7, h10⟩ := h
    exact counted.trans ((changes_raise _ _ _).mono (by decide) fun _ k => .inr ⟨h0, h7, h10, k⟩)
  · rw [ingestCause_quiet hb h]
    exact counted

theorem ingestCause_full (s : State) (n stream by_ : Nat) :
    (s.ingestCause n stream by_).full (Reg.INGEST_COUNT n) = min (s.full (Reg.INGEST_COUNT n) + by_) (2 ^ 32 - 1) := by
  have lt := s.full_lt (Reg.INGEST_COUNT n)
  by_cases hb : by_ = 0
  · rw [ingestCause, if_pos hb]; omega
  by_cases h : s.full (Reg.INGEST_COUNT n) = 0 ∧ n ≠ 7 ∧ n < 10
  · rw [ingestCause_raised hb h,
      (changes_raise _ _ _).full_eq (ingestCount_not_event (by simp only [Ev.INGEST_COUNT_0]; omega)), full_count_same]
  · rw [ingestCause_quiet hb h, full_count_same]

/-- The first count of a cause raises its event. -/
theorem ingestCause_counted {s : State} {n : Nat} (stream : Nat) (h0 : s.full (Reg.INGEST_COUNT n) = 0) (h7 : n ≠ 7) (h10 : n < 10) :
    Counted s (s.ingestCause n stream) (Ev.INGEST_COUNT_0 + n) := by
  have known : ∀ n < 10, n ≠ 7 → (eventClass (Ev.INGEST_COUNT_0 + n)).isSome = true := by decide +kernel
  rw [ingestCause_raised (by decide) ⟨h0, h7, h10⟩]
  refine counted_raise _ (known n h10 h7) ((only_count s _ _) .sys (by decide)) ((changes_count s _ _).full_eq ?_)
  simp only [Reg.EVT_SRC_CNT, Reg.INGEST_COUNT, Ev.INGEST_COUNT_0]; omega

end State

end Sys2Proof.Machine
end

section
/-! SUPPORT. Packets on an ingest link that go no further: a link that is not UP, drops, and a packet that fails a test (R64, R74, R90, R92). -/

namespace Sys2Proof.Machine

namespace State

theorem ingestPacket_down (l : Link) (bs : List Block257) (b : Nat) (s : State) (h : s.linkState l ≠ 4) :
    Completes (.ingestPacket l bs b) s (fun t => t = s) :=
  ⟨s.ingestArrives l bs b, rfl, if_pos (.inr (.inr h))⟩

/-- A link that is UP and passes nothing on counts its drops and its unknown control codes (R74). -/
theorem ingestPacket_dropped (l : Link) (bs : List Block257) (b : Nat) (s : State) (on : s.linkOn l) (uni : s.linkBidir l = false)
    (up : s.linkState l = 4) (none : (frameBlocks bs).packets = []) :
    Completes (.ingestPacket l bs b) s (fun t =>
      (∀ n < 3, t.full (Reg.LANE_LINK_COUNT l n) = min (s.full (Reg.LANE_LINK_COUNT l n) + (frameBlocks bs).drops.count n) (2 ^ 32 - 1))
      ∧ t.full (Reg.LANE_LINK_COUNT l 3) = min (s.full (Reg.LANE_LINK_COUNT l 3) + (frameBlocks bs).ctrlBad) (2 ^ 32 - 1)
      ∧ KeepsRegs s t (fun a => ∃ n < 4, a = Reg.LANE_LINK_COUNT l n) ∧ Only [.regs] s t) := by
  refine ⟨s.ingestArrives l bs b, rfl, ?_⟩
  dsimp only
  rw [ingestArrives_up bs b on uni up, none]
  have ctrl := changes_count s (Reg.LANE_LINK_COUNT l 3) (frameBlocks bs).ctrlBad
  have ctrlFull := full_count_same s (Reg.LANE_LINK_COUNT l 3) (frameBlocks bs).ctrlBad
  generalize s.count (Reg.LANE_LINK_COUNT l 3) (frameBlocks bs).ctrlBad = u at ctrl ctrlFull ⊢
  have drops := each_drops_full (frameBlocks bs).drops l
  have changes := each_drops_changes (b := 4) l (fun n hn => (frameBlocks_drops bs n hn).trans (by decide)) u
  have low : (frameBlocks bs).drops.count 3 = 0 := List.count_eq_zero.2 fun h => absurd (frameBlocks_drops bs 3 h) (by decide)
  have all := (ctrl.mono (fun _ h => h) fun _ e => (⟨3, by decide, e⟩ : ∃ n < 4, _ = Reg.LANE_LINK_COUNT l n)).trans changes
  refine ⟨fun n hn => ?_, ?_, all.regs, all.parts⟩
  · refine (drops n u).trans ?_
    rw [ctrl.full_eq (linkCount_ne (by omega))]
  · refine (drops 3 u).trans ?_
    rw [low, ctrlFull]; omega

/-- One packet, with nothing dropped before it. -/
theorem ingestArrives_one {s : State} {k : Nat} {l : List Block257} {p : List Byte} (b : Nat) (on : s.linkOn k = true) (uni : s.linkBidir k = false)
    (up : s.linkState k = 4) (one : (frameBlocks l).packets = [p]) (none : (frameBlocks l).drops = []) :
    s.ingestArrives k l b = (s.count (Reg.LANE_LINK_COUNT k 3) (frameBlocks l).ctrlBad).ingestTakes k p b := by
  rw [ingestArrives_up l b on uni up, one, none]
  rfl

theorem count_linkCount_changes (s : State) (k n stream : Nat) :
    Changes [.regs] (PacketRegs k stream) s (s.count (Reg.LANE_LINK_COUNT k 3) n) :=
  (changes_count s _ n).mono (fun _ h => h) fun _ e => .inr (.inr (.inr (.inl e)))

theorem count_linkCount_sameGrid (s : State) (k n : Nat) : SameGrid s (s.count (Reg.LANE_LINK_COUNT k 3) n) :=
  .of_changes (count_linkCount_changes s k n 0) rfl

theorem pendingBytes_of_pairs {s t : State} (h : t.ingest.pairs = s.ingest.pairs) : t.pendingBytes = s.pendingBytes := by
  rw [pendingBytes, h, pendingBytes]

theorem ingest_count (s : State) (a n : Nat) : (s.count a n).ingest = s.ingest := (only_count s a n) .ingest (by decide)

theorem packetCause_lt {s : State} {k n : Nat} {p : List Byte} (h : s.packetCause k p = some n) : n < 8 := by
  unfold packetCause at h; dsimp only at h
  split_ifs at h <;> cases h <;> decide

theorem acceptPacket_rejected {s : State} {k n : Nat} {p : List Byte} (h : s.packetCause k p = some n) :
    s.acceptPacket k p = s.ingestCause n (ingestHdr p).stream := by
  unfold acceptPacket
  rw [h]

/-- The registers of a cause are no settings. -/
theorem ingestCause_sameGrid (s : State) {n : Nat} (stream by_ : Nat) (hn : n < 12) : SameGrid s (s.ingestCause n stream by_) := by
  have step := ingestCause_changes s n stream by_
  have ingest : (s.ingestCause n stream by_).ingest = s.ingest := step.parts .ingest (by decide)
  refine ⟨fun a ha => step.regs a fun k => ?_, by rw [ingest]⟩
  rcases k with k | ⟨-, -, hn, k⟩
  · subst k
    have : ∀ n < 12, Reg.INGEST_COUNT n ∉ [Reg.GLB_STATUS, Reg.INGEST_CTL, Reg.INGEST_GEOM, Reg.INGEST_RESERVE, Reg.INGEST_START_LO,
      Reg.INGEST_START_HI, Reg.HARROW_CFG] := by decide
    rcases ha with ha | ⟨i, -, ha⟩
    · exact this n hn ha
    · simp only [Reg.INGEST_COUNT, Reg.STREAM_CFG, Reg.STREAM_INPUTS, Reg.STREAM_CHANNELS, Reg.STREAM_SLICE] at ha
      omega
  · exact not_packetRegs_of_setting (link := 0) (stream := 0) ha
      (.inr (.inr (.inr (.inr (.inr (.inr (.inr (.inr ⟨_, by simp only [Ev.INGEST_COUNT_0]; omega, k⟩))))))))

/-- A packet that fails a test is counted under the first that it fails (R90, R92). -/
theorem ingestPacket_rejected (l : Link) (bs : List Block257) (p : List Byte) (b n : Nat) (s : State) (on : s.linkOn l)
    (uni : s.linkBidir l = false) (up : s.linkState l = 4) (one : (frameBlocks bs).packets = [p]) (none : (frameBlocks bs).drops = [])
    (run : s.running) (enabled : s.flag Reg.INGEST_CTL Fld.INGEST_CTL_ENABLE) (cause : s.packetCause l p = some n)
    (room : s.pendingBytes < s.storeRoom) :
    Completes (.ingestPacket l bs b) s (fun t =>
      t.full (Reg.INGEST_COUNT n) = min (s.full (Reg.INGEST_COUNT n) + 1) (2 ^ 32 - 1)
      ∧ (s.full (Reg.INGEST_COUNT n) = 0 → n ≠ 7 → Counted s t (Ev.INGEST_COUNT_0 + n))
      ∧ KeepsRegs s t (fun a => a = Reg.INGEST_COUNT n ∨ a = Reg.LANE_LINK_COUNT l 3
          ∨ (s.full (Reg.INGEST_COUNT n) = 0 ∧ n ≠ 7 ∧ EventRegs (Ev.INGEST_COUNT_0 + n) a))
      ∧ Only eventParts s t) := by
  refine ⟨s.ingestArrives l bs b, rfl, ?_⟩
  dsimp only
  rw [ingestArrives_one b on uni up one none]
  have ctrl := changes_count s (Reg.LANE_LINK_COUNT l 3) (frameBlocks bs).ctrlBad
  have grid := count_linkCount_sameGrid s l (frameBlocks bs).ctrlBad
  have ingest := ingest_count s (Reg.LANE_LINK_COUNT l 3) (frameBlocks bs).ctrlBad
  generalize s.count (Reg.LANE_LINK_COUNT l 3) (frameBlocks bs).ctrlBad = u at ctrl grid ingest ⊢
  have hn := packetCause_lt cause
  have accept : u.acceptPacket l p = u.ingestCause n (ingestHdr p).stream := acceptPacket_rejected ((grid.packetCause l p).trans cause)
  have step := ingestCause_changes u n (ingestHdr p).stream 1
  have kept : (u.ingestCause n (ingestHdr p).stream).ingest = u.ingest := step.parts .ingest (by decide)
  have takes : u.ingestTakes l p b = u.ingestCause n (ingestHdr p).stream := by
    rw [ingestTakes_of_room b (grid.running.trans run) ((grid.flag (.inl (by decide)) _).trans enabled), accept]
    rw [accept, pendingBytes_of_pairs (congrArg _ (kept.trans ingest)),
      ((ingestCause_sameGrid u _ 1 (by omega)).storeRoom.trans grid.storeRoom)]
    exact room
  have apart : Reg.INGEST_COUNT n ≠ Reg.LANE_LINK_COUNT l 3 := by
    have := l.isLt
    simp only [Reg.INGEST_COUNT, Reg.LANE_LINK_COUNT]; omega
  have same : u.full (Reg.INGEST_COUNT n) = s.full (Reg.INGEST_COUNT n) := ctrl.full_eq apart
  rw [takes]
  refine ⟨?_, fun h0 h7 => ?_, fun a ha => ?_, (ctrl.parts.mono (by decide)).trans step.parts⟩
  · rw [ingestCause_full, same]
  · have counted := ingestCause_counted (ingestHdr p).stream (same.trans h0) h7 (by omega : n < 10)
    intro held
    have sys : u.sys = s.sys := ctrl.parts .sys (by decide)
    have before : u.full (Reg.EVT_SRC_CNT (Ev.INGEST_COUNT_0 + n)) = s.full (Reg.EVT_SRC_CNT (Ev.INGEST_COUNT_0 + n)) :=
      ctrl.full_eq (by simp only [Reg.EVT_SRC_CNT, Reg.LANE_LINK_COUNT, Ev.INGEST_COUNT_0]; omega)
    rw [counted (by rw [sys]; exact held), before]
  · obtain ⟨h1, h2⟩ := not_or.1 ha
    obtain ⟨h2, h3⟩ := not_or.1 h2
    refine (step.regs a fun k => ?_).trans (ctrl.regs a h2)
    rcases k with k | ⟨h0, h7, -, k⟩
    · exact h1 k
    · exact h3 ⟨same ▸ h0, h7, k⟩

end State

end Sys2Proof.Machine
end

section
/-! SUPPORT. A packet's samples: their order, their repair, and the part of one pair (R89, R106). -/

namespace Sys2Proof.Machine

theorem byteAt_drop (l : List Byte) (k i : Nat) : byteAt (l.drop k) i = byteAt l (k + i) := by
  rw [byteAt, fieldAt, List.drop_drop, byteAt, fieldAt]

/-- The sample of a place among a payload's bytes. -/
def sampleAt (wide : Bool) (l : List Byte) (i : Nat) : Int × Int :=
  if wide then (toS 8 (byteAt l (2 * i)), toS 8 (byteAt l (2 * i + 1))) else (toS 4 (byteAt l i / 16), toS 4 (byteAt l i))

theorem sampleAt_next (wide : Bool) (l : List Byte) (i : Nat) :
    sampleAt wide (l.drop (if wide then 2 else 1)) i = sampleAt wide l (i + 1) := by
  cases wide
  · simp only [sampleAt, Bool.false_eq_true, if_false, byteAt_drop, Nat.add_comm 1 i]
  · simp only [sampleAt, if_true, byteAt_drop]
    rw [show 2 + 2 * i = 2 * (i + 1) by omega, show 2 + (2 * i + 1) = 2 * (i + 1) + 1 by omega]

theorem samplesIn_eq (wide : Bool) (n : Nat) (l : List Byte) : samplesIn wide n l = (List.range n).map (sampleAt wide l) := by
  induction n generalizing l with
  | zero => rfl
  | succ n ih =>
    have step : samplesIn wide (n + 1) l = sampleAt wide l 0 :: samplesIn wide n (l.drop (if wide then 2 else 1)) := by
      cases wide <;> rfl
    rw [step, ih, List.range_succ_eq_map, List.map_cons, List.map_map]
    exact congrArg _ (List.map_congr_left fun i _ => sampleAt_next wide l i)

/-! ### Repair (R106) -/

/-- The value that a symmetric stream has no use for. -/
def lowest (wide : Bool) : Int := if wide then -128 else -8

/-- A component with that value repaired. -/
def mended (d : StreamDef) (x : Int) : Int := if d.sym ∧ x = lowest d.fmt8 then x + 1 else x

/-- The components of a sample that are repaired. -/
def mends (d : StreamDef) (x : Int × Int) : Nat :=
  b2n (d.sym && decide (x.1 = lowest d.fmt8)) + b2n (d.sym && decide (x.2 = lowest d.fmt8))

theorem symFix_eq {d : StreamDef} (h : d.sym = true) (x : Int) : symFix d.fmt8 x = (mended d x, b2n (d.sym && decide (x = lowest d.fmt8))) := by
  unfold symFix mended lowest b2n
  cases d.fmt8 <;> by_cases hx : x = -8 <;> by_cases hy : x = -128 <;> simp_all

theorem symSamples_eq (d : StreamDef) (xs : List (Int × Int)) :
    State.symSamples d xs = (xs.map (fun x => (mended d x.1, mended d x.2)), (xs.map (mends d)).sum) := by
  cases h : d.sym with
  | false =>
    have none : mends d = fun _ => 0 := funext fun x => by simp [mends, h, b2n]
    simp [State.symSamples, mended, none, h]
  | true =>
    rw [State.symSamples, if_pos h]
    induction xs with
    | nil => rfl
    | cons x xs ih =>
      simp only [List.foldr_cons, List.map_cons, List.sum_cons] at ih ⊢
      rw [ih]
      simp only [symFix_eq h, mends, Prod.mk.injEq, true_and]
      omega

/-! ### The samples of a pair -/

/-- The samples of a packet's payload as they are stored. -/
def packetSample (d : StreamDef) (p : List Byte) (i : Nat) : Int × Int :=
  (mended d (sampleAt d.fmt8 (p.drop 32) i).1, mended d (sampleAt d.fmt8 (p.drop 32) i).2)

theorem packetSamples_eq (d : StreamDef) (p : List Byte) (n : Nat) :
    State.symSamples d (samplesIn d.fmt8 n (p.drop 32))
      = ((List.range n).map (packetSample d p), ((List.range n).map (fun i => mends d (sampleAt d.fmt8 (p.drop 32) i))).sum) := by
  rw [samplesIn_eq, symSamples_eq, List.map_map, List.map_map]
  rfl

/-- A run of a list over places. -/
theorem run_of_range {α : Type} (f : Nat → α) {a n m : Nat} (h : a + n ≤ m) :
    (((List.range m).map f).drop a).take n = (List.range n).map (fun j => f (a + j)) := by
  apply List.ext_getElem
  · simp only [List.length_take, List.length_drop, List.length_map, List.length_range]; omega
  · intro i _ _
    simp only [List.getElem_take, List.getElem_drop, List.getElem_map, List.getElem_range]

/-- Pair (i, c) of a slice of ss × sc pairs has its own n places. -/
theorem pair_run {ss sc n i c : Nat} (hi : i < ss) (hc : c < sc) : (i * sc + c) * n + n ≤ ss * sc * n := by
  have h1 : i * sc + c + 1 ≤ ss * sc := by
    calc i * sc + c + 1 ≤ i * sc + sc := by omega
      _ = (i + 1) * sc := by ring
      _ ≤ ss * sc := Nat.mul_le_mul_right sc hi
  calc (i * sc + c) * n + n = (i * sc + c + 1) * n := by ring
    _ ≤ ss * sc * n := Nat.mul_le_mul_right n h1

end Sys2Proof.Machine
end

section
/-! SUPPORT. The alignment store: what storing one slice does, and a unit's pairs one after the other (R91, R99). -/

namespace Sys2Proof.Machine

/-! ### The list of pending pairs -/

/-- The slices of a pair in a list of pairs. -/
def slicesIn (l : List Pair) (c k : Nat) : List Slice := ((l.find? (fun p => p.chan == c && p.k == k)).map (·.slices)).getD []

/-- Bytes of a list of pairs. -/
def bytesIn (l : List Pair) : Nat := (l.map (fun p => (p.slices.map (fun x => x.samples.length * (if x.wide then 2 else 1))).sum)).sum

theorem place_miss {c k c' k' : Nat} (ne : ¬ (c' = c ∧ k' = k)) : (c == c' && k == k') = false := by
  rw [Bool.eq_false_iff]
  intro e
  simp only [Bool.and_eq_true, beq_iff_eq] at e
  exact ne ⟨e.1.symm, e.2.symm⟩

theorem slicesIn_putSlice_same (now c k : Nat) (x : Slice) (l : List Pair) :
    slicesIn (State.putSlice now c k x l) c k = slicesIn l c k ++ [x] := by
  induction l with
  | nil => simp [State.putSlice, slicesIn]
  | cons p l ih =>
    by_cases h : p.chan = c ∧ p.k = k
    · simp [State.putSlice, slicesIn, h]
    · have miss : (p.chan == c && p.k == k) = false := by simpa using h
      rw [State.putSlice, if_neg h]
      simpa only [slicesIn, List.find?_cons, miss] using ih

theorem slicesIn_putSlice_other {now c k c' k' : Nat} {x : Slice} (l : List Pair) (ne : ¬ (c' = c ∧ k' = k)) :
    slicesIn (State.putSlice now c k x l) c' k' = slicesIn l c' k' := by
  induction l with
  | nil =>
    simp [State.putSlice, slicesIn, place_miss ne]
  | cons p l ih =>
    by_cases h : p.chan = c ∧ p.k = k
    · have miss : (p.chan == c' && p.k == k') = false := by rw [h.1, h.2]; exact place_miss ne
      rw [State.putSlice, if_pos h]
      simp only [slicesIn, List.find?_cons, miss]
    · rw [State.putSlice, if_neg h]
      simp only [slicesIn, List.find?_cons] at ih ⊢
      split
      · rfl
      · exact ih

/-- A test of one pair's slices is blind to what another pair takes. -/
theorem any_putSlice_other {now c k c' k' : Nat} {x : Slice} (q : List Slice → Bool) (l : List Pair) (ne : ¬ (c' = c ∧ k' = k)) :
    (State.putSlice now c k x l).any (fun p => p.chan == c' && p.k == k' && q p.slices) = l.any (fun p => p.chan == c' && p.k == k' && q p.slices) := by
  induction l with
  | nil =>
    simp [State.putSlice, place_miss ne]
  | cons p l ih =>
    by_cases h : p.chan = c ∧ p.k = k
    · have miss : (p.chan == c' && p.k == k') = false := by rw [h.1, h.2]; exact place_miss ne
      rw [State.putSlice, if_pos h]
      simp only [List.any_cons, miss, Bool.false_and]
    · rw [State.putSlice, if_neg h, List.any_cons, List.any_cons, ih]

theorem bytesIn_putSlice (now c k : Nat) (x : Slice) (l : List Pair) :
    bytesIn (State.putSlice now c k x l) = bytesIn l + x.samples.length * (if x.wide then 2 else 1) := by
  induction l with
  | nil => simp [State.putSlice, bytesIn]
  | cons p l ih =>
    by_cases h : p.chan = c ∧ p.k = k
    · rw [State.putSlice, if_pos h]
      simp only [bytesIn, List.map_cons, List.sum_cons, List.map_append, List.map_nil, List.sum_append, List.sum_nil]
      omega
    · rw [State.putSlice, if_neg h]
      simp only [bytesIn, List.map_cons, List.sum_cons] at ih ⊢
      omega

namespace State

theorem slicesOf_eq (s : State) (c k : Nat) : s.slicesOf c k = slicesIn s.ingest.pairs c k := rfl
theorem pendingBytes_eq (s : State) : s.pendingBytes = bytesIn s.ingest.pairs := rfl

/-! ### One slice -/

/-- A local stream that has been seen and is not absent. -/
def Seen (i : Nat) (s : State) : Prop := s.flag (Reg.STREAM_STATUS i) Fld.STREAM_STATUS_SEEN = true ∧ s.isAbsent i = false

theorem isAbsent_local (s : State) {i : Nat} (h : i < 256) : s.isAbsent i = s.flag (Reg.STREAM_STATUS i) Fld.STREAM_STATUS_ABSENT := if_pos h

theorem Seen.of_reg {i : Nat} {s t : State} (hi : i < 256) (h : Seen i s) (hr : t.reg (Reg.STREAM_STATUS i) = s.reg (Reg.STREAM_STATUS i)) :
    Seen i t := by
  obtain ⟨seen, here⟩ := h
  rw [isAbsent_local _ hi] at here
  refine ⟨?_, (isAbsent_local _ hi).trans ?_⟩
  · rw [flag, get, hr]; exact seen
  · rw [flag, get, hr]; exact here

/-- The registers that storing a slice of a local stream may change. -/
def StoreRegs (stream a : Nat) : Prop := a = Reg.STREAM_STATUS stream ∨ a = Reg.INGEST_STATUS ∨ EventRegs Ev.INGEST_STREAM_REJOIN a

/-- The ingest state with a slice more. -/
def slicePut (s : State) (c k : Nat) (x : Slice) : IngestSt :=
  let g := { s.ingest with pairs := putSlice s.now.units c k x s.ingest.pairs, top := max s.ingest.top (k + 1) }
  let key := x.stream * 4096 + c
  let g := if k < (mapFind g.rejoin key).getD 0 then { g with rejoin := mapSet 0 g.rejoin key k } else g
  if s.isAbsent x.stream then { g with misses := g.misses.filter (fun e => e.1 / 4096 != x.stream) } else g

/-- What storing a slice shows: its stream is back, and seen. -/
def showSeen (s : State) (back : Bool) (i : Nat) : State :=
  let s := if back then (s.setAbsent i false).raise Ev.INGEST_STREAM_REJOIN (i % 256) else s
  if i < 256 then s.setFlag (Reg.STREAM_STATUS i) Fld.STREAM_STATUS_SEEN true else s

theorem storeSlice_eq (s : State) (c k : Nat) (x : Slice) :
    s.storeSlice c k x = ({ s with ingest := s.slicePut c k x } : State).showSeen (s.isAbsent x.stream) x.stream := rfl

theorem slicePut_pairs (s : State) (c k : Nat) (x : Slice) : (s.slicePut c k x).pairs = putSlice s.now.units c k x s.ingest.pairs := by
  unfold slicePut; dsimp only
  split <;> split <;> rfl

theorem slicePut_next (s : State) (c k : Nat) (x : Slice) : (s.slicePut c k x).next = s.ingest.next := by
  unfold slicePut; dsimp only
  split <;> split <;> rfl

theorem setAbsent_local (s : State) {i : Nat} (h : i < 256) (b : Bool) :
    ∃ shown, s.setAbsent i b = (s.setFlag (Reg.STREAM_STATUS i) Fld.STREAM_STATUS_ABSENT b).setFlag Reg.INGEST_STATUS Fld.INGEST_STATUS_ANY_ABSENT shown := by
  refine ⟨!(s.setFlag (Reg.STREAM_STATUS i) Fld.STREAM_STATUS_ABSENT b).ingest.absent.isEmpty || (List.range 256).any (fun j =>
      (s.setFlag (Reg.STREAM_STATUS i) Fld.STREAM_STATUS_ABSENT b).streamOn j
        && (s.setFlag (Reg.STREAM_STATUS i) Fld.STREAM_STATUS_ABSENT b).flag (Reg.STREAM_STATUS j) Fld.STREAM_STATUS_ABSENT), ?_⟩
  rw [setAbsent, if_pos h]

theorem streamStatus_not_event {e : Nat} (he : e < 2048) (i : Nat) : ¬ EventRegs e (Reg.STREAM_STATUS i) := fun h => by
  have := anyEventRegs_range ⟨e, he, h⟩
  simp only [Reg.STREAM_STATUS] at this; omega

theorem streamStatus_ne_ingestStatus (i : Nat) : Reg.STREAM_STATUS i ≠ Reg.INGEST_STATUS := by
  simp only [Reg.STREAM_STATUS, Reg.INGEST_STATUS]; omega

/-- A stream that was absent is shown to be back. -/
theorem setAbsent_raise_spec (s : State) {i : Nat} (h : i < 256) :
    let t := (s.setAbsent i false).raise Ev.INGEST_STREAM_REJOIN (i % 256)
    Changes eventParts (StoreRegs i) s t ∧ t.isAbsent i = false := by
  obtain ⟨shown, e⟩ := s.setAbsent_local h false
  rw [e]
  dsimp only
  have one := changes_setFlag s (Reg.STREAM_STATUS i) Fld.STREAM_STATUS_ABSENT false
  have gone : (s.setFlag (Reg.STREAM_STATUS i) Fld.STREAM_STATUS_ABSENT false).flag (Reg.STREAM_STATUS i) Fld.STREAM_STATUS_ABSENT = false :=
    flag_setFlag_same _ _ _ (by decide) (by decide)
  generalize s.setFlag (Reg.STREAM_STATUS i) Fld.STREAM_STATUS_ABSENT false = u at one gone ⊢
  have two := changes_setFlag u Reg.INGEST_STATUS Fld.INGEST_STATUS_ANY_ABSENT shown
  generalize u.setFlag Reg.INGEST_STATUS Fld.INGEST_STATUS_ANY_ABSENT shown = v at two ⊢
  have three := changes_raise v Ev.INGEST_STREAM_REJOIN (i % 256)
  refine ⟨((one.mono (by decide) fun _ k => .inl k).trans (two.mono (by decide) fun _ k => .inr (.inl k))).trans
    (three.mono (fun _ k => k) fun _ k => .inr (.inr k)), ?_⟩
  rw [isAbsent_local _ h, three.flag_eq (streamStatus_not_event (by decide) i), two.flag_eq (streamStatus_ne_ingestStatus i)]
  exact gone

theorem showSeen_spec (s : State) {i : Nat} (h : i < 256) :
    Changes eventParts (StoreRegs i) s (s.showSeen (s.isAbsent i) i) ∧ Seen i (s.showSeen (s.isAbsent i) i) := by
  have back : ∃ t : State, s.showSeen (s.isAbsent i) i = t.setFlag (Reg.STREAM_STATUS i) Fld.STREAM_STATUS_SEEN true
      ∧ Changes eventParts (StoreRegs i) s t ∧ t.isAbsent i = false := by
    unfold showSeen
    simp only [if_pos h]
    cases hb : s.isAbsent i with
    | true => exact ⟨_, rfl, s.setAbsent_raise_spec h⟩
    | false => exact ⟨s, rfl, .refl _ _ s, hb⟩
  obtain ⟨t, e, changes, here⟩ := back
  rw [e]
  refine ⟨changes.trans ((changes_setFlag t _ _ _).mono (by decide) fun _ k => .inl k), flag_setFlag_same _ _ _ (by decide) (by decide), ?_⟩
  rw [isAbsent_local _ h] at here ⊢
  rw [flag_setFlag_apart _ _ _ (by decide) (by decide)]
  exact here

/-- What storing parts and showing them touches. -/
def storeParts : List Part := ([.ingest] : List Part) ++ eventParts

structure Sliced (c k : Nat) (x : Slice) (s t : State) : Prop where
  changes : Changes storeParts (StoreRegs x.stream) s t
  pairs : t.ingest.pairs = putSlice s.now.units c k x s.ingest.pairs
  next : t.ingest.next = s.ingest.next
  seen : Seen x.stream t

/-- Storing one slice of a local stream (R91, R99). -/
theorem storeSlice_sliced (s : State) (c k : Nat) {x : Slice} (h : x.stream < 256) : Sliced c k x s (s.storeSlice c k x) := by
  rw [storeSlice_eq]
  have put : Changes storeParts (StoreRegs x.stream) s { s with ingest := s.slicePut c k x } :=
    (Changes.of_only (only_ingest s _) (by decide)).mono (by decide) fun _ k => k
  have absent : ({ s with ingest := s.slicePut c k x } : State).isAbsent x.stream = s.isAbsent x.stream := by
    rw [isAbsent_local _ h, isAbsent_local _ h]; rfl
  have pairs := slicePut_pairs s c k x
  have next := slicePut_next s c k x
  have ingest : ({ s with ingest := s.slicePut c k x } : State).ingest = s.slicePut c k x := rfl
  rw [← absent]
  generalize ({ s with ingest := s.slicePut c k x } : State) = u at put ingest ⊢
  obtain ⟨shown, seen⟩ := u.showSeen_spec h
  have kept : (u.showSeen (u.isAbsent x.stream) x.stream).ingest = u.ingest := shown.parts .ingest (by decide)
  refine ⟨put.trans (shown.mono (by decide) fun _ k => k), ?_, ?_, seen⟩
  · rw [kept, ingest, pairs]
  · rw [kept, ingest, next]

theorem storeRegs_packet {link stream a : Nat} (h : StoreRegs stream a) : PacketRegs link stream a := by
  rcases h with h | h | h
  · exact .inr (.inr (.inr (.inr (.inl h))))
  · exact .inr (.inr (.inr (.inr (.inr (.inl h)))))
  · exact .inr (.inr (.inr (.inr (.inr (.inr (.inr (.inr ⟨_, by decide, h⟩)))))))

theorem Sliced.sameGrid {c k : Nat} {x : Slice} {s t : State} (h : Sliced c k x s t) : SameGrid s t :=
  .of_changes (link := 0) (h.changes.mono (fun _ h => h) fun _ k => storeRegs_packet k) h.next

/-- The fate of a pair is blind to what another pair takes. -/
theorem Sliced.pairFate_other {c k c' k' : Nat} {x : Slice} {s t : State} (h : Sliced c k x s t) (ne : ¬ (c' = c ∧ k' = k)) (key base n : Nat) :
    t.pairFate c' k' key base n = s.pairFate c' k' key base n := by
  unfold pairFate
  rw [h.sameGrid.firstIndex, h.sameGrid.nextIndex, h.pairs, any_putSlice_other
    (fun l => l.any (fun x => x.stream == key && decide (x.base < base + n) && decide (base < x.base + x.samples.length))) _ ne]

end State

end Sys2Proof.Machine
end

section
/-! SUPPORT. The pairs of a unit stored one after the other, each by its own fate, which no other of them decides (R89, R91). -/

namespace Sys2Proof.Machine

/-- A unit to be stored: its slice of n inputs, and where its pairs stand. -/
structure StoreUnit where
  n : Nat
  k : Nat
  chan : Nat
  step : Nat
  sc : Nat
  x : Slice

namespace StoreUnit

/-- The slice of a pair. -/
def part (g : StoreUnit) (p : Nat × Nat) : Slice := { g.x with samples := (g.x.samples.drop ((p.1 * g.sc + p.2) * g.n)).take g.n }

/-- The fate of a pair. -/
def fate (g : StoreUnit) (s : State) (p : Nat × Nat) : State.PairFate :=
  s.pairFate (g.chan + p.2) (g.k + p.1 * g.step) g.x.stream g.x.base g.n

/-- A pair is stored, or its fate noted. -/
def store (g : StoreUnit) (acc : State × Bool × Bool) (p : Nat × Nat) : State × Bool × Bool :=
  match g.fate acc.1 p with
  | .early => acc
  | .late => (acc.1, true, acc.2.2)
  | .dup => (acc.1, acc.2.1, true)
  | .stored => (acc.1.storeSlice (g.chan + p.2) (g.k + p.1 * g.step) (g.part p), acc.2)

/-- The most bytes that a pair takes. -/
def bytes (g : StoreUnit) : Nat := g.n * (if g.x.wide then 2 else 1)

end StoreUnit

namespace State

theorem storeUnit_eq (s : State) (g : StoreUnit) (ss : Nat) :
    s.storeUnit ss g.sc g.n g.k g.chan g.step g.x =
      let r := ((List.range ss).flatMap (fun i => (List.range g.sc).map (fun c => (i, c)))).foldl g.store (s, false, false)
      ((r.1.ingestCause 8 g.x.stream (b2n r.2.1)).ingestCause 9 g.x.stream (b2n r.2.2)).showStoreKib := rfl

/-- What storing some pairs of a unit does to the state. -/
structure Stores (g : StoreUnit) (ps : List (Nat × Nat)) (s t : State) : Prop where
  changes : Changes storeParts (StoreRegs g.x.stream) s t
  next : t.ingest.next = s.ingest.next
  stored : ∀ p ∈ ps, g.fate s p = .stored →
    t.slicesOf (g.chan + p.2) (g.k + p.1 * g.step) = s.slicesOf (g.chan + p.2) (g.k + p.1 * g.step) ++ [g.part p]
  others : ∀ c k, (∀ p ∈ ps, c = g.chan + p.2 → k = g.k + p.1 * g.step → g.fate s p ≠ .stored) → t.slicesOf c k = s.slicesOf c k
  fates : ∀ q, q ∉ ps → g.fate t q = g.fate s q
  seen : (Seen g.x.stream s ∨ ∃ p ∈ ps, g.fate s p = .stored) → Seen g.x.stream t
  bytes : t.pendingBytes ≤ s.pendingBytes + ps.length * g.bytes

section
variable {g : StoreUnit} {ps : List (Nat × Nat)} {s t u : State} {p q : Nat × Nat}

/-- Two pairs of a unit stand in different places. -/
theorem place_inj (hg : 0 < g.step) (h : g.chan + q.2 = g.chan + p.2 ∧ g.k + q.1 * g.step = g.k + p.1 * g.step) : q = p := by
  obtain ⟨h1, h2⟩ := h
  exact Prod.ext (Nat.eq_of_mul_eq_mul_right hg (by omega)) (by omega)

theorem Stores.nil (g : StoreUnit) (s : State) : Stores g [] s s where
  changes := .refl _ _ s
  next := rfl
  stored := by simp
  others := fun _ _ _ => rfl
  fates := fun _ _ => rfl
  seen := fun h => h.resolve_right (by simp)
  bytes := by simp

/-- A pair that is not stored leaves the state alone. -/
theorem Stores.skip (h : g.fate s p ≠ .stored) : Stores g [p] s s where
  changes := .refl _ _ s
  next := rfl
  stored := fun q hq hs => by rw [List.mem_singleton.1 hq] at hs; exact absurd hs h
  others := fun _ _ _ => rfl
  fates := fun _ _ => rfl
  seen := fun k => k.resolve_right fun ⟨q, hq, hs⟩ => by rw [List.mem_singleton.1 hq] at hs; exact absurd hs h
  bytes := Nat.le_add_right _ _

theorem part_bytes (g : StoreUnit) (p : Nat × Nat) : (g.part p).samples.length * (if (g.part p).wide then 2 else 1) ≤ g.bytes := by
  refine Nat.mul_le_mul_right _ ?_
  simp only [StoreUnit.part, List.length_take]
  exact Nat.min_le_left _ _

/-- A pair that is stored. -/
theorem Stores.one (hg : 0 < g.step) (hi : g.x.stream < 256) (h : g.fate s p = .stored) :
    Stores g [p] s (s.storeSlice (g.chan + p.2) (g.k + p.1 * g.step) (g.part p)) := by
  have step := s.storeSlice_sliced (g.chan + p.2) (g.k + p.1 * g.step) (x := g.part p) hi
  generalize s.storeSlice (g.chan + p.2) (g.k + p.1 * g.step) (g.part p) = t at step ⊢
  exact
    { changes := step.changes
      next := step.next
      stored := fun q hq _ => by
        rw [List.mem_singleton.1 hq, slicesOf_eq, step.pairs, slicesIn_putSlice_same, slicesOf_eq]
      others := fun c k ho => by
        rw [slicesOf_eq, step.pairs, slicesIn_putSlice_other _ fun e => ho p List.mem_cons_self e.1 e.2 h, slicesOf_eq]
      fates := fun q hq => step.pairFate_other (fun e => hq (List.mem_singleton.2 (place_inj hg e))) _ _ _
      seen := fun _ => step.seen
      bytes := by
        have := part_bytes g p
        rw [pendingBytes_eq, step.pairs, bytesIn_putSlice, ← pendingBytes_eq, List.length_singleton, Nat.one_mul]
        omega }

/-- One pair, then others. -/
theorem Stores.cons (hg : 0 < g.step) (hp : p ∉ ps) (h : Stores g [p] s t) (k : Stores g ps t u) : Stores g (p :: ps) s u := by
  have same : ∀ q ∈ ps, g.fate t q = g.fate s q := fun q hq =>
    h.fates q fun e => hp (List.mem_singleton.1 e ▸ hq)
  have apart : ∀ q ∈ ps, ∀ r ∈ [p], g.chan + q.2 = g.chan + r.2 → g.k + q.1 * g.step = g.k + r.1 * g.step → g.fate s r ≠ .stored := by
    intro q hq r hr e1 e2
    rw [List.mem_singleton.1 hr] at e1 e2
    exact absurd (place_inj hg ⟨e1, e2⟩ ▸ hq) hp
  exact
    { changes := h.changes.trans k.changes
      next := k.next.trans h.next
      stored := fun q hq hs => by
        rcases List.mem_cons.1 hq with rfl | hq
        · rw [k.others _ _ fun r hr e1 e2 => absurd ((place_inj hg ⟨e1.symm, e2.symm⟩ : r = q) ▸ hr) hp, h.stored _ List.mem_cons_self hs]
        · rw [k.stored q hq ((same q hq).trans hs), h.others _ _ (apart q hq)]
      others := fun c l ho => by
        rw [k.others c l fun q hq e1 e2 => by rw [same q hq]; exact ho q (List.mem_cons_of_mem _ hq) e1 e2,
          h.others c l fun q hq e1 e2 => ho q (by rw [List.mem_singleton.1 hq]; exact List.mem_cons_self) e1 e2]
      fates := fun q hq => by
        obtain ⟨h1, h2⟩ := List.ne_and_not_mem_of_not_mem_cons hq
        rw [k.fates q h2, h.fates q fun e => h1 (List.mem_singleton.1 e)]
      seen := fun hs => by
        rcases hs with hs | ⟨q, hq, hs⟩
        · exact k.seen (.inl (h.seen (.inl hs)))
        · rcases List.mem_cons.1 hq with rfl | hq
          · exact k.seen (.inl (h.seen (.inr ⟨_, List.mem_cons_self, hs⟩)))
          · exact k.seen (.inr ⟨q, hq, (same q hq).trans hs⟩)
      bytes := by
        have h1 := h.bytes
        have h2 := k.bytes
        rw [List.length_singleton, Nat.one_mul] at h1
        rw [List.length_cons, Nat.add_mul, Nat.one_mul]
        omega }

/-- Every pair of a unit by its fate in the state that the unit found; LATE and DUP tell whether some pair was late, or stored already. -/
theorem foldl_store (hg : 0 < g.step) (hi : g.x.stream < 256) (hps : ps.Nodup) (s : State) (late dup : Bool) :
    Stores g ps s (ps.foldl g.store (s, late, dup)).1
      ∧ (ps.foldl g.store (s, late, dup)).2.1 = (late || ps.any (fun p => decide (g.fate s p = .late)))
      ∧ (ps.foldl g.store (s, late, dup)).2.2 = (dup || ps.any (fun p => decide (g.fate s p = .dup))) := by
  induction ps generalizing s late dup with
  | nil => exact ⟨.nil g s, by simp, by simp⟩
  | cons p ps ih =>
    obtain ⟨hp, hps⟩ := List.nodup_cons.1 hps
    have one : ∃ t, Stores g [p] s t
        ∧ g.store (s, late, dup) p = (t, late || decide (g.fate s p = .late), dup || decide (g.fate s p = .dup)) := by
      cases h : g.fate s p with
      | stored => exact ⟨_, .one hg hi h, by simp [StoreUnit.store, h]⟩
      | early => exact ⟨s, .skip (by rw [h]; decide), by simp [StoreUnit.store, h]⟩
      | late => exact ⟨s, .skip (by rw [h]; decide), by simp [StoreUnit.store, h]⟩
      | dup => exact ⟨s, .skip (by rw [h]; decide), by simp [StoreUnit.store, h]⟩
    obtain ⟨t, first, e⟩ := one
    rw [List.foldl_cons, e]
    obtain ⟨stores, lates, dups⟩ := ih hps t (late || decide (g.fate s p = .late)) (dup || decide (g.fate s p = .dup))
    have same : ∀ q ∈ ps, g.fate t q = g.fate s q := fun q hq => first.fates q fun e => hp (List.mem_singleton.1 e ▸ hq)
    have some_ : ∀ f, ps.any (fun q => decide (g.fate t q = f)) = ps.any (fun q => decide (g.fate s q = f)) := fun f => by
      rw [Bool.eq_iff_iff, List.any_eq_true, List.any_eq_true]
      exact exists_congr fun q => and_congr_right fun hq => by rw [same q hq]
    exact ⟨.cons hg hp first stores, by rw [lates, some_, List.any_cons, Bool.or_assoc], by rw [dups, some_, List.any_cons, Bool.or_assoc]⟩

end

end State

end Sys2Proof.Machine
end

section
/-! SUPPORT. A packet that is accepted: what precedes its storing, forwarding with it, and what ends it (R91, R106, R507, R509). -/

namespace Sys2Proof.Machine

/-- The registers that forwarding a unit may change. -/
def ForwardRegs (a : Nat) : Prop := a = Reg.WEAVE_COUNT 0 ∨ AnyEventRegs a

/-- The registers that the end of a unit may change. -/
def EndRegs (a : Nat) : Prop := a = Reg.INGEST_COUNT 8 ∨ a = Reg.INGEST_COUNT 9 ∨ a = Reg.INGEST_STORE ∨ AnyEventRegs a

theorem forwardRegs_packet {link stream a : Nat} (h : ForwardRegs a) : PacketRegs link stream a :=
  .inr (.inr (.inr (.inr (.inr (.inr (.inr h))))))

theorem endRegs_packet {link stream a : Nat} (h : EndRegs a) : PacketRegs link stream a := by
  unfold EndRegs at h
  unfold PacketRegs
  tauto

theorem ingestCount_not_any (n : Nat) : ¬ AnyEventRegs (Reg.INGEST_COUNT n) := fun ⟨_, he, h⟩ => State.ingestCount_not_event he h

theorem ingestCount_not_forward (n : Nat) (hn : n < 12) : ¬ ForwardRegs (Reg.INGEST_COUNT n) := by
  rintro (h | h)
  · simp only [Reg.INGEST_COUNT, Reg.WEAVE_COUNT] at h; omega
  · exact ingestCount_not_any n h

theorem ingestCount_not_store (n stream : Nat) (hn : n < 12) : ¬ State.StoreRegs stream (Reg.INGEST_COUNT n) := by
  rintro (h | h | h)
  · simp only [Reg.INGEST_COUNT, Reg.STREAM_STATUS] at h; omega
  · simp only [Reg.INGEST_COUNT, Reg.INGEST_STATUS] at h; omega
  · exact State.ingestCount_not_event (by decide) h

namespace State

/-! ### Forwarding (R507, R509) -/

theorem changes_sendVc (s : State) (k vc : Nat) (m : List Byte) : Changes sendParts (EventRegs Ev.BALRAN_TX_BACKLOG) s (s.sendVc k vc m) := by
  unfold sendVc; dsimp only; split
  · exact (changes_setLink s k _ _).trans (changes_pumpAll _ k _)
  · exact changes_linkRefuse s k

theorem sendUnit_changes (s : State) (q : Nat) (k : Option Nat) (u : Option Unit46) : Changes sendParts ForwardRegs s (s.sendUnit q k u) := by
  have backlog : ∀ a, EventRegs Ev.BALRAN_TX_BACKLOG a → ForwardRegs a := fun _ h => .inr ⟨_, by decide, h⟩
  unfold sendUnit
  split
  · split
    · exact (changes_sendVc s _ 1 _).mono (fun _ h => h) backlog
    · refine (((changes_linkRefuse s _).mono (fun _ h => h) backlog).trans ((changes_count _ _ 1).mono (by decide) fun _ h => .inl h)).trans
        ((changes_raise _ Ev.WEAVE_FWD_DROP _).mono (by decide) fun _ h => .inr ⟨_, by decide, h⟩)
  · exact .refl _ _ s

theorem forwardOwn_changes (s : State) (u : Unit46) : Changes sendParts ForwardRegs s (s.forwardOwn u) := by
  unfold forwardOwn; dsimp only
  split
  · exact sendUnit_changes s _ _ _
  · split
    · exact ((sendUnit_changes s _ _ _).trans (sendUnit_changes _ _ _ _)).trans (sendUnit_changes _ _ _ _)
    · exact .refl _ _ s

/-! ### Before a packet is stored -/

theorem ingestCause_full_other (s : State) {m n : Nat} (stream by_ : Nat) (h : m ≠ n) :
    (s.ingestCause m stream by_).full (Reg.INGEST_COUNT n) = s.full (Reg.INGEST_COUNT n) := by
  refine (ingestCause_changes s m stream by_).full_eq ?_
  rintro (k | ⟨-, -, hm, k⟩)
  · simp only [Reg.INGEST_COUNT] at k; omega
  · exact ingestCount_not_event (by simp only [Ev.INGEST_COUNT_0]; omega) k

/-- A packet accepted: its repairs are counted, and in a weave its samples forwarded. -/
def readied (s : State) (d : StreamDef) (h : IngestHdr) (xs : List (Int × Int)) (fixed : Nat) : State :=
  let s := s.ingestCause 11 h.stream fixed
  if s.mode = 0 then s else s.forwardOwn (s.forwardSamples d h xs)

/-- What a packet on a link changes before it is stored. -/
structure Readied (link stream fixed : Nat) (s t : State) : Prop where
  changes : Changes sendParts (PacketRegs link stream) s t
  single : s.mode = 0 → Only eventParts s t
  counts : ∀ n < 11, t.full (Reg.INGEST_COUNT n) = s.full (Reg.INGEST_COUNT n)
  fixes : t.full (Reg.INGEST_COUNT 11) = min (s.full (Reg.INGEST_COUNT 11) + fixed) (2 ^ 32 - 1)

theorem readied_spec (s : State) (link : Nat) (d : StreamDef) (h : IngestHdr) (xs : List (Int × Int)) (fixed : Nat) :
    Readied link h.stream fixed s (s.readied d h xs fixed) := by
  have cause := ingestCause_changes s 11 h.stream fixed
  have repaired : Changes eventParts (PacketRegs link h.stream) s (s.ingestCause 11 h.stream fixed) :=
    cause.mono (fun _ k => k) fun a k => k.elim (fun k => .inr (.inr (.inl k))) fun k => absurd k.2.2.1 (by decide)
  have mode : (s.ingestCause 11 h.stream fixed).mode = s.mode := (ingestCause_sameGrid s h.stream fixed (by decide)).get (.inl (by decide)) _
  have fixes := ingestCause_full s 11 h.stream fixed
  have counts : ∀ n < 11, (s.ingestCause 11 h.stream fixed).full (Reg.INGEST_COUNT n) = s.full (Reg.INGEST_COUNT n) :=
    fun n hn => ingestCause_full_other s _ _ (by omega)
  unfold readied; dsimp only
  generalize s.ingestCause 11 h.stream fixed = u at repaired mode fixes counts ⊢
  split
  · exact ⟨repaired.mono (by decide) fun _ k => k, fun _ => repaired.parts, counts, fixes⟩
  · rename_i hm
    have sent := forwardOwn_changes u (u.forwardSamples d h xs)
    exact ⟨(repaired.mono (by decide) fun _ k => k).trans (sent.mono (fun _ k => k) fun _ k => forwardRegs_packet k),
      fun m => absurd (mode.trans m) hm, fun n hn => (sent.full_eq (ingestCount_not_forward n (by omega))).trans (counts n hn),
      (sent.full_eq (ingestCount_not_forward 11 (by decide))).trans fixes⟩

theorem Readied.after_linkCount {link stream fixed n : Nat} {s t : State} (hl : link < 96)
    (h : Readied link stream fixed (s.count (Reg.LANE_LINK_COUNT link 3) n) t) : Readied link stream fixed s t := by
  have first := count_linkCount_changes s link n stream
  have grid := count_linkCount_sameGrid s link n
  have apart : ∀ m < 12, (s.count (Reg.LANE_LINK_COUNT link 3) n).full (Reg.INGEST_COUNT m) = s.full (Reg.INGEST_COUNT m) := fun m hm =>
    (changes_count s _ n).full_eq (by simp only [Reg.INGEST_COUNT, Reg.LANE_LINK_COUNT]; omega)
  generalize s.count (Reg.LANE_LINK_COUNT link 3) n = u at first grid apart h
  obtain ⟨changes, single, counts, fixes⟩ := h
  exact ⟨(first.mono (by decide) fun _ k => k).trans changes,
    fun m => (first.parts.mono (by decide)).trans (single ((grid.get (.inl (by decide)) _).trans m)),
    fun m hm => (counts m hm).trans (apart m (by omega)), by rw [fixes, apart 11 (by decide)]⟩

theorem Readied.ingest {link stream fixed : Nat} {s t : State} (h : Readied link stream fixed s t) : t.ingest = s.ingest :=
  h.changes.parts .ingest (by decide)

theorem Readied.sameGrid {link stream fixed : Nat} {s t : State} (h : Readied link stream fixed s t) : SameGrid s t :=
  .of_changes h.changes (by rw [h.ingest])

/-! ### After a unit is stored -/

theorem showStoreKib_changes (s : State) : Changes [.regs] (· = Reg.INGEST_STORE) s s.showStoreKib := by
  unfold showStoreKib peak; dsimp only
  have first := changes_set s Reg.INGEST_STORE Fld.INGEST_STORE_PENDING_KIB (s.pendingBytes / 1024)
  split
  · exact first.trans (changes_set _ _ _ _)
  · exact first

/-- LATE and DUP count, and the store's occupancy is shown. -/
theorem endUnit_spec (s : State) (i : Nat) (late dup : Bool) :
    let t := ((s.ingestCause 8 i (b2n late)).ingestCause 9 i (b2n dup)).showStoreKib
    Changes eventParts EndRegs s t
      ∧ t.full (Reg.INGEST_COUNT 8) = min (s.full (Reg.INGEST_COUNT 8) + b2n late) (2 ^ 32 - 1)
      ∧ t.full (Reg.INGEST_COUNT 9) = min (s.full (Reg.INGEST_COUNT 9) + b2n dup) (2 ^ 32 - 1) := by
  dsimp only
  have h1 := ingestCause_changes s 8 i (b2n late)
  have f8 := ingestCause_full s 8 i (b2n late)
  have f9 := ingestCause_full_other s (m := 8) (n := 9) i (b2n late) (by decide)
  generalize s.ingestCause 8 i (b2n late) = u at h1 f8 f9 ⊢
  have h2 := ingestCause_changes u 9 i (b2n dup)
  have g8 := ingestCause_full_other u (m := 9) (n := 8) i (b2n dup) (by decide)
  have g9 := ingestCause_full u 9 i (b2n dup)
  generalize u.ingestCause 9 i (b2n dup) = v at h2 g8 g9 ⊢
  have h3 := showStoreKib_changes v
  refine ⟨((h1.mono (fun _ k => k) fun a k => ?_).trans (h2.mono (fun _ k => k) fun a k => ?_)).trans
    (h3.mono (by decide) fun _ k => .inr (.inr (.inl k))), ?_, ?_⟩
  · exact k.imp_right fun k => .inr (.inr ⟨_, by simp only [Ev.INGEST_COUNT_0]; omega, k.2.2.2⟩)
  · exact .inr (k.imp_right fun k => .inr ⟨_, by simp only [Ev.INGEST_COUNT_0]; omega, k.2.2.2⟩)
  · rw [h3.full_eq (by decide), g8, f8]
  · rw [h3.full_eq (by decide), g9, f9]

end State

end Sys2Proof.Machine
end

section
/-! PROOF. O14 settled: an accepted packet, and the clauses together (R64, R73, R74, R88–R92, R106). -/

namespace Sys2Proof.Machine

namespace State

/-! ### An accepted packet -/

/-- The unit of a packet's bytes, its samples repaired. -/
def packetUnit (d : StreamDef) (p : List Byte) : StoreUnit where
  n := d.si
  k := (ingestHdr p).k
  chan := (ingestHdr p).chanBase
  step := 1
  sc := d.sc
  x := { stream := (ingestHdr p).stream, base := (ingestHdr p).inputBase, invalid := (ingestHdr p).invalid, overload := (ingestHdr p).overload
         cal := (ingestHdr p).cal, wide := d.fmt8, samples := (List.range (d.ss * d.sc * d.si)).map (packetSample d p) }

/-- The components of a packet that R106 repairs. -/
def packetMends (d : StreamDef) (p : List Byte) : Nat :=
  ((List.range (d.ss * d.sc * d.si)).map (fun i => mends d (sampleAt d.fmt8 (p.drop 32) i))).sum

/-- The pairs of a slice, in the order of their samples. -/
def unitPairs (d : StreamDef) : List (Nat × Nat) := List.range d.ss ×ˢ List.range d.sc

theorem mem_unitPairs {d : StreamDef} {p : Nat × Nat} : p ∈ unitPairs d ↔ p.1 < d.ss ∧ p.2 < d.sc := by
  rw [unitPairs, List.mem_product, List.mem_range, List.mem_range]

theorem unitPairs_nodup (d : StreamDef) : (unitPairs d).Nodup := List.nodup_range.product List.nodup_range

theorem unitPairs_bytes (d : StreamDef) (p : List Byte) : (unitPairs d).length * (packetUnit d p).bytes = declared d := by
  rw [unitPairs, List.length_product, List.length_range, List.length_range]
  simp only [StoreUnit.bytes, packetUnit, declared, Nat.mul_assoc]

theorem acceptPacket_accepted {s : State} {k : Nat} {p : List Byte} (h : s.packetCause k p = none) :
    let d := s.streamDef (ingestHdr p).stream
    s.acceptPacket k p = (s.readied d (ingestHdr p) ((List.range (d.ss * d.sc * d.si)).map (packetSample d p)) (packetMends d p)).storeUnit
      d.ss d.sc d.si (ingestHdr p).k (ingestHdr p).chanBase 1 (packetUnit d p).x := by
  unfold acceptPacket
  rw [h]
  dsimp only
  rw [packetSamples_eq]
  rfl

/-- What an accepted packet of a unit's pairs leaves. -/
structure PacketStored (link fixed : Nat) (g : StoreUnit) (ps : List (Nat × Nat)) (s t : State) : Prop where
  changes : Changes (([.ingest] : List Part) ++ sendParts) (PacketRegs link g.x.stream) s t
  single : s.mode = 0 → Only (([.ingest] : List Part) ++ eventParts) s t
  next : t.ingest.next = s.ingest.next
  stored : ∀ p ∈ ps, g.fate s p = .stored →
    t.slicesOf (g.chan + p.2) (g.k + p.1 * g.step) = s.slicesOf (g.chan + p.2) (g.k + p.1 * g.step) ++ [g.part p]
  others : ∀ c k, (∀ p ∈ ps, c = g.chan + p.2 → k = g.k + p.1 * g.step → g.fate s p ≠ .stored) → t.slicesOf c k = s.slicesOf c k
  late : t.full (Reg.INGEST_COUNT 8)
    = min (s.full (Reg.INGEST_COUNT 8) + b2n (ps.any (fun p => decide (g.fate s p = .late)))) (2 ^ 32 - 1)
  dup : t.full (Reg.INGEST_COUNT 9) = min (s.full (Reg.INGEST_COUNT 9) + b2n (ps.any (fun p => decide (g.fate s p = .dup)))) (2 ^ 32 - 1)
  fixes : t.full (Reg.INGEST_COUNT 11) = min (s.full (Reg.INGEST_COUNT 11) + fixed) (2 ^ 32 - 1)
  seen : (∃ p ∈ ps, g.fate s p = .stored) → Seen g.x.stream t
  bytes : t.pendingBytes ≤ s.pendingBytes + ps.length * g.bytes

theorem fate_of_ingest {s t : State} (g : StoreUnit) (grid : SameGrid s t) (h : t.ingest = s.ingest) (p : Nat × Nat) : g.fate t p = g.fate s p := by
  simp only [StoreUnit.fate, pairFate, grid.firstIndex, grid.nextIndex, h]

theorem ingestCount_not_end : ¬ EndRegs (Reg.INGEST_COUNT 11) := by
  rintro (h | h | h | h)
  · exact absurd h (by decide)
  · exact absurd h (by decide)
  · exact absurd h (by decide)
  · exact ingestCount_not_any 11 h

theorem seen_of_end {i : Nat} {s t : State} (hi : i < 256) (h : Changes eventParts EndRegs s t) (seen : Seen i s) : Seen i t := by
  refine seen.of_reg hi (h.regs _ ?_)
  rintro (k | k | k | ⟨e, he, k⟩)
  · simp only [Reg.STREAM_STATUS, Reg.INGEST_COUNT] at k; omega
  · simp only [Reg.STREAM_STATUS, Reg.INGEST_COUNT] at k; omega
  · simp only [Reg.STREAM_STATUS, Reg.INGEST_STORE] at k; omega
  · exact streamStatus_not_event he i k

/-- A unit stored from a state that its packet has readied. -/
theorem storeUnit_stored {s v : State} {link fixed : Nat} {g : StoreUnit} {ss : Nat} (hi : g.x.stream < 256) (hg : 0 < g.step)
    (ready : Readied link g.x.stream fixed s v) :
    PacketStored link fixed g (List.range ss ×ˢ List.range g.sc) s (v.storeUnit ss g.sc g.n g.k g.chan g.step g.x) := by
  have ingest := ready.ingest
  have same := fate_of_ingest g ready.sameGrid ingest
  have slices : ∀ c k, v.slicesOf c k = s.slicesOf c k := fun c k => by rw [slicesOf_eq, ingest, slicesOf_eq]
  have pairs : (List.range ss).flatMap (fun i => (List.range g.sc).map (fun c => (i, c))) = List.range ss ×ˢ List.range g.sc := rfl
  rw [storeUnit_eq]
  dsimp only
  rw [pairs]
  obtain ⟨stores, late, dup⟩ := foldl_store (ps := List.range ss ×ˢ List.range g.sc) hg hi (List.nodup_range.product List.nodup_range) v false false
  simp only [same, Bool.false_or] at late dup
  generalize (List.range ss ×ˢ List.range g.sc).foldl g.store (v, false, false) = r at stores late dup ⊢
  rw [late, dup]
  generalize List.range ss ×ˢ List.range g.sc = ps at stores ⊢
  obtain ⟨ended, full8, full9⟩ := endUnit_spec r.1 g.x.stream (ps.any (fun p => decide (g.fate s p = .late)))
    (ps.any (fun p => decide (g.fate s p = .dup)))
  generalize ((r.1.ingestCause 8 g.x.stream (b2n (ps.any (fun p => decide (g.fate s p = .late))))).ingestCause 9 g.x.stream
    (b2n (ps.any (fun p => decide (g.fate s p = .dup))))).showStoreKib = t at ended full8 full9 ⊢
  have kept : t.ingest = r.1.ingest := ended.parts .ingest (by decide)
  have counts : ∀ n < 12, r.1.full (Reg.INGEST_COUNT n) = v.full (Reg.INGEST_COUNT n) := fun n hn =>
    stores.changes.full_eq (ingestCount_not_store n _ hn)
  exact
    { changes := ((ready.changes.mono (by decide) fun _ k => k).trans (stores.changes.mono (by decide) fun _ k => storeRegs_packet k)).trans
        (ended.mono (by decide) fun _ k => endRegs_packet k)
      single := fun m => ((ready.single m).then stores.changes.parts (by decide) (by decide)).trans (ended.parts.mono (by decide))
      next := by rw [kept, stores.next, ingest]
      stored := fun p hp hs => by rw [slicesOf_eq, kept, ← slicesOf_eq, stores.stored p hp ((same p).trans hs), slices]
      others := fun c k ho => by
        rw [slicesOf_eq, kept, ← slicesOf_eq, stores.others c k fun p hp e1 e2 => by rw [same]; exact ho p hp e1 e2, slices]
      late := by rw [full8, counts 8 (by decide), ready.counts 8 (by decide)]
      dup := by rw [full9, counts 9 (by decide), ready.counts 9 (by decide)]
      fixes := by rw [ended.full_eq ingestCount_not_end, counts 11 (by decide), ready.fixes]
      seen := fun ⟨p, hp, hs⟩ => seen_of_end hi ended (stores.seen (.inr ⟨p, hp, (same p).trans hs⟩))
      bytes := by
        have := stores.bytes
        rwa [pendingBytes_eq, kept, ← pendingBytes_eq, ← pendingBytes_of_pairs (congrArg _ ingest)] }

/-- An accepted packet, where the store has room for all of it. -/
theorem ingestPacket_stored {l : Link} {bs : List Block257} {p : List Byte} (b : Nat) {s : State} (on : s.linkOn l)
    (uni : s.linkBidir l = false) (up : s.linkState l = 4) (one : (frameBlocks bs).packets = [p]) (none : (frameBlocks bs).drops = [])
    (run : s.running) (enabled : s.flag Reg.INGEST_CTL Fld.INGEST_CTL_ENABLE) (cause : s.packetCause l p = .none)
    (room : s.pendingBytes + declared (s.streamDef (ingestHdr p).stream) < s.storeRoom) :
    let d := s.streamDef (ingestHdr p).stream
    PacketStored l (packetMends d p) (packetUnit d p) (unitPairs d) s (s.ingestArrives l bs b) := by
  have hi : (ingestHdr p).stream < 256 := byteAt_lt p 0
  dsimp only
  have grid := count_linkCount_sameGrid s l (frameBlocks bs).ctrlBad
  have readied := readied_spec (s.count (Reg.LANE_LINK_COUNT l 3) (frameBlocks bs).ctrlBad) l (s.streamDef (ingestHdr p).stream) (ingestHdr p)
    ((List.range ((s.streamDef (ingestHdr p).stream).ss * (s.streamDef (ingestHdr p).stream).sc * (s.streamDef (ingestHdr p).stream).si)).map
      (packetSample (s.streamDef (ingestHdr p).stream) p)) (packetMends (s.streamDef (ingestHdr p).stream) p)
  have ready := readied.after_linkCount l.isLt
  have accept := acceptPacket_accepted ((grid.packetCause l p).trans cause)
  dsimp only at accept
  rw [grid.streamDef hi] at accept
  rw [ingestArrives_one b on uni up one none]
  generalize s.count (Reg.LANE_LINK_COUNT l 3) (frameBlocks bs).ctrlBad = u at grid accept ready ⊢
  generalize hd : s.streamDef (ingestHdr p).stream = d at room accept ready ⊢
  have stored := storeUnit_stored (g := packetUnit d p) (ss := d.ss) hi Nat.one_pos ready
  have result : PacketStored l (packetMends d p) (packetUnit d p) (unitPairs d) s (u.acceptPacket l p) := accept ▸ stored
  rw [ingestTakes_of_room b (grid.running.trans run) ((grid.flag (.inl (by decide)) _).trans enabled)]
  · exact result
  · have bytes := result.bytes
    have after : SameGrid s (u.acceptPacket l p) := .of_changes result.changes result.next
    rw [unitPairs_bytes] at bytes
    rw [after.storeRoom]
    omega

/-! ### As the statement reads it -/

theorem sampleAt_payload (wide : Bool) (p : List Byte) (n : Nat) :
    sampleAt wide (p.drop 32) n
      = if wide then (toS 8 (byteAt p (32 + 2 * n)), toS 8 (byteAt p (33 + 2 * n)))
        else (toS 4 (byteAt p (32 + n) / 16), toS 4 (byteAt p (32 + n))) := by
  simp only [sampleAt, byteAt_drop]
  rw [show 32 + (2 * n + 1) = 33 + 2 * n by omega]

theorem fate_packetUnit (d : StreamDef) (p : List Byte) (s : State) (i c : Nat) :
    (packetUnit d p).fate s (i, c) = s.pairFate ((ingestHdr p).chanBase + c) ((ingestHdr p).k + i) (ingestHdr p).stream (ingestHdr p).inputBase d.si := by
  simp only [StoreUnit.fate, packetUnit, Nat.mul_one]

/-- The slice of a pair of a packet. -/
theorem packetUnit_samples {d : StreamDef} (p : List Byte) {i c : Nat} (hi : i < d.ss) (hc : c < d.sc) :
    ((packetUnit d p).part (i, c)).samples = (List.range d.si).map (fun j => packetSample d p ((i * d.sc + c) * d.si + j)) :=
  run_of_range (packetSample d p) (pair_run hi hc)

theorem some_unitPairs {d : StreamDef} {q : Nat × Nat → Prop} : (∃ x ∈ unitPairs d, q x) ↔ ∃ c < d.sc, ∃ i < d.ss, q (i, c) := by
  constructor
  · rintro ⟨⟨i, c⟩, hx, h⟩
    obtain ⟨hi, hc⟩ := mem_unitPairs.1 hx
    exact ⟨c, hc, i, hi, h⟩
  · rintro ⟨c, hc, i, hi, h⟩
    exact ⟨(i, c), mem_unitPairs.2 ⟨hi, hc⟩, h⟩

theorem b2n_any_unitPairs {d : StreamDef} {q : Nat × Nat → Prop} [DecidablePred q] :
    b2n ((unitPairs d).any (fun x => decide (q x))) = if (∃ x ∈ unitPairs d, q x) then 1 else 0 := by
  have iff : (unitPairs d).any (fun x => decide (q x)) = true ↔ ∃ x ∈ unitPairs d, q x := by simp only [List.any_eq_true, decide_eq_true_eq]
  by_cases h : ∃ x ∈ unitPairs d, q x
  · rw [if_pos h, iff.2 h]; rfl
  · rw [if_neg h, Bool.eq_false_iff.2 fun k => h (iff.1 k)]; rfl

end State

/-- Settles O14: framing block by block; of an accepted packet every pair takes its own fate, which the others leave alone. -/
theorem ingestPackets : Obligations.IngestPackets := by
  refine ⟨frameBlocks_spec, State.ingestPacket_down, State.ingestPacket_dropped, State.ingestPacket_rejected, ?_⟩
  intro l bs p b s on uni up one none run enabled cause h d room
  refine ⟨s.ingestArrives l bs b, rfl, ?_⟩
  have result := State.ingestPacket_stored b on uni up one none run enabled cause room
  generalize s.ingestArrives l bs b = t at result ⊢
  obtain ⟨changes, single, next, stored, others, late, dup, fixes, seen, -⟩ := result
  rw [State.b2n_any_unitPairs] at late dup
  simp only [State.some_unitPairs, State.fate_packetUnit] at late dup seen
  have hs : (ingestHdr p).stream < 256 := byteAt_lt p 0
  have grid : SameGrid s t := .of_changes changes next
  dsimp only
  refine ⟨fun c hc i hi hf => ⟨(State.packetUnit d p).part (i, c), ?_, rfl, rfl, rfl, rfl, rfl, ?_, fun j hj => ?_⟩, fun c k ho => ?_,
    fun hl => ?_, fun hl => ?_, fun hd => ?_, fun hd => ?_, ?_, seen, grid.nextIndex, changes.regs, changes.parts, single⟩
  · have put := stored (i, c) (State.mem_unitPairs.2 ⟨hi, hc⟩) ((State.fate_packetUnit d p s i c).trans hf)
    simp only [State.packetUnit, Nat.mul_one] at put
    exact put
  · rw [State.packetUnit_samples p hi hc, List.length_map, List.length_range]
  · rw [State.packetUnit_samples p hi hc, List.getD_eq_getElem _ _ (by rw [List.length_map, List.length_range]; exact hj), List.getElem_map,
      List.getElem_range, packetSample, State.sampleAt_payload]
    rfl
  · refine others c k fun x hx e1 e2 => ?_
    obtain ⟨hi, hc⟩ := State.mem_unitPairs.1 hx
    simp only [State.packetUnit, Nat.mul_one] at e1 e2
    rw [State.fate_packetUnit]
    exact ho x.2 hc x.1 hi e1 e2
  · rw [late, if_pos hl]
  · rw [late, if_neg hl]; have := s.full_lt (Reg.INGEST_COUNT 8); omega
  · rw [dup, if_pos hd]
  · rw [dup, if_neg hd]; have := s.full_lt (Reg.INGEST_COUNT 9); omega
  · rw [fixes, State.packetMends]
    simp only [State.sampleAt_payload]
    rfl

end Sys2Proof.Machine
end
